-- ==== Sys2Proof/Word.lean ====
section
/-! DEFINITION. The word and byte types, and the plainest arithmetic on them. -/

namespace Sys2Proof

/-- A register or memory word (R2, R3). -/
abbrev Word := BitVec 32

/-- A byte. -/
abbrev Byte := BitVec 8

/-- Bits `lo` up to `lo + wid - 1` of a number, as R2 writes them `[lo + wid - 1 : lo]`. -/
def bitsOf (v lo wid : Nat) : Nat := v / 2 ^ lo % 2 ^ wid

/-- Bit `i` of a number. -/
def bitAt (v i : Nat) : Bool := v / 2 ^ i % 2 == 1

/-- One bit as a number. -/
def bit (b : Bool) : Nat := if b then 1 else 0

end Sys2Proof
end

