-- ==== Sys2Proof/Syntax.lean ====
section
/-! DEFINITION. The commands the block takes: one constructor for each row of the table of operations and events. -/

namespace Sys2Proof

/-- The masters of register accesses (R25, R74): M0 SEQ, M1 SPI, M2 I²C, M3 link remote, M4 test port. -/
inductive Master where
  | m0 | m1 | m2 | m3 | m4
  deriving DecidableEq, Repr

/-- A master as the number that registers and events show. -/
def Master.num : Master → Nat
  | .m0 => 0
  | .m1 => 1
  | .m2 => 2
  | .m3 => 3
  | .m4 => 4

/-- A received forward packet (R397): its header word, the words after it, how many codewords of its span forward
error correction repaired or could not repair (R415), and the video fill of the port's Stall in bytes before it.
DESIGN CHOICE, log 14, safe. -/
structure Packet where
  header : Word
  words : List Word
  corrected : Nat
  uncorrectable : Nat
  stall : Nat
  deriving DecidableEq, Repr

/-- A received control message (R401): SEQ, the ACK of its trailer, its payload words, and whether its CRC passes. -/
structure Ctrl where
  seq : Fin 256
  ack : Fin 256
  words : List Word
  crcOk : Bool
  deriving DecidableEq, Repr

/-- What one row period brings (R186, R197): for the row converted in it, the voltage in µV at the converter of each
column in column order, and at the two spares per mux step where they convert beside a channel; the array diode's ΔVBE
in 10 µV; the columns whose words the input Sluice lost; and the columns whose coefficient word or whose store word
fails parity on its read; `stall` is the video fill of LINK0's Stall in bytes at the head end.
DESIGN CHOICE, log 11, safe. -/
structure RowIn where
  uv : List Nat
  spareA : List Nat
  spareB : List Nat
  diode : Nat
  lost : List Nat
  coefBad : List Nat
  storeBad : List Nat
  stall : Nat
  deriving DecidableEq, Repr

/-- What a calibration's two runs measure (R216): for each comparator its mean offset and its rms noise in 1/16 LSB; for each run
the sums of 64 codes at VCM in the ten steps of the offset search, and the span between the sums of 1,024 codes at the two references;
and run 2's noise. -/
structure CalMeas where
  offset : List Int
  noise : List Nat
  sums1 : List Int
  span1 : Nat
  sums2 : List Int
  span2 : Nat
  noise2 : Nat
  deriving DecidableEq, Repr

/-- The commands. Every constructor is one row; its docstring is that row's rule and words. An event row carries what
the event measured or brought. -/
inductive Instr where
  /-- REGISTER_WRITE (R63): A write to a register that has no row of its own passes the ordered access checks and is stored or refused. -/
  | registerWrite (m : Master) (addr : Word) (data : Word)
  /-- SECONDS_READ (R112): A read of YARD.SECONDS captures SUBSEC for a coherent later read. -/
  | secondsRead (m : Master)
  /-- ERR_CODE_CLR (R49): Writing CLR clears a page's CODE, MASTER, WR and OFFSET. -/
  | errCodeClr (m : Master) (page : Fin 256)
  /-- INT_SET (R49): Each 1 written to INT_SET sets that INT_RAW bit. -/
  | intSet (m : Master) (page : Fin 256) (bits : Word)
  /-- COMMIT_GO (R54): Writing GO requests that all staged values of the page take effect at its next commit boundary. -/
  | commitGo (m : Master) (page : Fin 256)
  /-- COMMIT_DROP (R57): Writing DROP discards every staged value of the page and clears GO. -/
  | commitDrop (m : Master) (page : Fin 256) (go : Bool)
  /-- COMMIT_APPLY (R54): At the page's commit boundary the staged values take effect together and COUNT advances. -/
  | commitApply (page : Fin 256) (stream : Fin 4)
  /-- CFG_PARITY (R78): A parity error on a stored configuration word is detected, sets FAULT and is logged once. -/
  | cfgParity (page : Fin 256) (word : Fin 1024) (byBlock : Bool)
  /-- SYS_SESSION_WRITE (R61): A write to SYS.SESSION advances the writing master's epoch and orphans its semaphores. -/
  | sysSessionWrite (m : Master) (data : Word)
  /-- MASTER_PRIV_WRITE (R62): A change of a master's privilege bit advances its epoch and reverts OWNER fields naming a demoted master. -/
  | masterPrivWrite (m : Master) (data : Word)
  /-- LOFT_WORD_WRITE (R253): A host write to a Loft word is accepted only into an open fill of the inactive bank by the SEM0 holder. -/
  | loftWordWrite (m : Master) (bankB : Bool) (index : Fin 327680) (data : Word)
  /-- LOFT_WRITE_REFUSED (R254): A host Loft write that has waited LOFT_DEFER for the write port is refused with RESOURCE_BUSY. -/
  | loftWriteRefused (m : Master) (bankB : Bool) (index : Fin 327680)
  /-- SHADOW_SRAM_WRITE (R73): A write to shadow SRAM by a privileged master is stored unless a store runs or it targets the device area. -/
  | shadowSramWrite (m : Master) (word : Fin 1024) (data : Word)
  /-- POR_AON (R148): VAON falling below the POR threshold resets everything, including class Y. -/
  | porAon
  /-- BOR_CORE_RESET (R148): VDD below the BOR threshold with PD_CORE powered triggers a reset that loses class C. -/
  | borCoreReset
  /-- PIN_RESET (R148): RESET_N held low triggers a reset that loses class C and re-samples the straps. -/
  | pinReset
  /-- RESET_CMD (R151): A write of KEY 0x5A to SYS.RESET_CMD starts a SOFT reset, optionally re-applying the BOOT image. -/
  | resetCmd (m : Master) (data : Word)
  /-- INTERNAL_RESET_RELEASE (R157): Release of the internal reset or a DORMANT exit starts the boot sequence run by M0. -/
  | internalResetRelease (s1 : Fin 4) (s2 : Fin 4) (s3 : Fin 4) (s4 : Fin 4) (addr : Fin 4) (hostsel : Bool)
  /-- BOOT_DONE (R157): Boot ends with DONE, the START_MODE transition starts and the watchdog's first period begins. -/
  | bootDone (us : Nat)
  /-- BOOT_TIME_LIMIT (R172): A boot that has not reached DONE within 2 s gets a WDT reset and counts as a stall. -/
  | bootTimeLimit
  /-- ROLE_STRAP_MOVED (R33): Live ROLE levels that differ from the latched role for 1 ms set MISMATCH and are logged once. -/
  | roleStrapMoved (live : Fin 4)
  /-- MODE_CMD (R85): A write to YARD.MODE_CMD requests a mode transition, or is completed or refused. -/
  | modeCmd (m : Master) (data : Word)
  /-- MODE_TRANSITION_DONE (R84): At the boundary named in Table MODE-1 the new mode comes into force, BUSY clears and MODE_CHANGED is logged. -/
  | modeTransitionDone
  /-- MODE_STUCK (R97): A transition not ended within twice its bound is completed at once, dropping traffic, and logged. -/
  | modeStuck
  /-- SERVICE_HOLD_EXPIRE (R114): After a host-slot wake, the HOLD_S-th second in SERVICE returns the device to DORMANT if no mode command was accepted. -/
  | serviceHoldExpire
  /-- YARD_AXES_WRITE (R90): A write to YARD.AXES stores the policy and output set, which take effect at each affected stream's boundary. -/
  | yardAxesWrite (m : Master) (data : Word)
  /-- YARD_SECOND_TICK (R112): YARD.SECONDS increments, driving the per-second counts of other blocks. -/
  | yardSecondTick
  /-- TIMER_SLOT_WRITE (R115): A write to a timer slot arms or changes it, or is refused when another master holds it. -/
  | timerSlotWrite (m : Master) (slot : Fin 8) (tickWord : Bool) (data : Word)
  /-- TIMER_SLOT_FIRE (R114): An armed slot reaches its match value, clears ARMED and raises WC4 or serves its device deadline. -/
  | timerSlotFire (slot : Fin 8)
  /-- POWER_STATE_ENTRY (R120): With no work before its next deadline the device enters the deepest state allowed by mode, deadline and budgets. -/
  | powerStateEntry (deadlineUs : Nat)
  /-- WAKE_PIN_EDGE (R118): A rising edge on WAKE raises wake class WC0. -/
  | wakePinEdge
  /-- INTERNAL_RETURN (R119): The device leaves a low-power state by itself to meet an internal deadline. -/
  | internalReturn
  /-- EXIT_COMPLETE (R139): An exit reaches L0, the measurement is filed and WAKE is logged with the classes served. -/
  | exitComplete (us : Nat)
  /-- BUDGET_WRITE (R141): A write to a wake-class budget is stored and re-runs the state choice. -/
  | budgetWrite (m : Master) (wc : Fin 5) (data : Word)
  /-- CLK_KEEP_WRITE (R129): A write to CLK.KEEP holds clock requests and restricts the allowed states. -/
  | clkKeepWrite (m : Master) (data : Word)
  /-- RESEED (R126): Writing RESEED empties every learned exit cell and reloads the seeds. -/
  | reseed (m : Master) (data : Word)
  /-- DRAIN_CLR (R133): Writing DRAIN_CLR bits clears the selected DRAIN_DROP counters. -/
  | drainClr (m : Master) (data : Word)
  /-- CLOCK_GRANT (R128): A requested fast clock becomes stable and is granted to its requesters. -/
  | clockGrant (clock : Fin 9)
  /-- YCLK_XTAL_FAIL (R144): No crystal edge for 4 RC periods switches YCLK to the RC and is logged. -/
  | yclkXtalFail
  /-- DRAIN_LIMIT_EXPIRE (R133): At DRAIN_LIMIT whatever is still in flight toward a closing domain is dropped and counted. -/
  | drainLimitExpire (d : Fin 9) (inFlight : Nat)
  /-- DOMAIN_OFF (R131): A closing domain finishes draining and reaches OFF. -/
  | domainOff (d : Fin 9)
  /-- DOMAIN_POWER_GOOD (R135): An opening domain reaches power good with clocks and configuration restored and becomes ON. -/
  | domainPowerGood (d : Fin 9)
  /-- DOMAIN_FAULT (R145): A domain not reporting power good within its fault limit is held OFF and logged. -/
  | domainFault (d : Fin 9)
  /-- PD_FAULT_CLR (R145): Writing 1 to a PD_FAULT bit clears it and lets the domain open again. -/
  | pdFaultClr (m : Master) (word8 : Bool) (data : Word)
  /-- FPA_CTRL_EN (R202): A write to FPA.CTRL.EN starts or stops the array timing with a bias ramp. -/
  | fpaCtrlEn (m : Master) (en : Bool)
  /-- BIAS_RAMP_DONE (R202): The bias ramp ends and the first array frame starts at the next row clock edge. -/
  | biasRampDone
  /-- ARRAY_FRAME_BOUNDARY (R185): At the FPA_FSYNC rising edge a new array frame starts and the boundary actions run in order. -/
  | arrayFrameBoundary (vetoPin : Bool) (stallHeld : Bool)
  /-- ROW_START (R186): Each row period starts at the FPA_ROWCLK edge, integrating one row and converting the previous. -/
  | rowStart (r : RowIn)
  /-- BIAS_OVERLOAD (R204): A bias output in current limit for 10 µs ramps all bias to 0 V, stops the timing and is logged. -/
  | biasOverload (outputs : Fin 16)
  /-- BIAS_FAULT_CLR (R204): Writing BIAS.FAULT_CLR restarts the bias ramp and clears the overload fault. -/
  | biasFaultClr (m : Master)
  /-- CHCAL_REQ (R214): Writing a CHCAL.REQ bit requests a commanded calibration of that converter. -/
  | chcalReq (m : Master) (word1 : Bool) (data : Word)
  /-- CALIBRATION_END (R218): An offline calibration's two runs end and the result is accepted, disagreed or failed. -/
  | calibrationEnd (inst : Fin 34) (meas : CalMeas)
  /-- CHTRIM_RETRY (R222): Every 1 s a pending trim record is offered again until written. -/
  | chtrimRetry
  /-- RETRY_WAIT_EXPIRE (R219): After RETRY_FRAMES array frames a disagreeing converter may fall due again. -/
  | retryWaitExpire (inst : Fin 34)
  /-- CAL_REFUSED (R225): A commanded calibration not started within DEFER_MAX is dropped and logged. -/
  | calRefused (inst : Fin 34)
  /-- FILL_START (R253): The SEM0 holder opens a fill of the inactive Loft bank. -/
  | fillStart (m : Master)
  /-- FILL_END (R253): The SEM0 holder closes the fill and the bank CRC computation starts. -/
  | fillEnd (m : Master)
  /-- BANK_LOAD (R253): LOAD fills the inactive bank from the FIELD copies or FACTORY, as LOAD_SRC selects. -/
  | bankLoad (m : Master) (fromFactory : Bool)
  /-- BANK_CHECK_DONE (R253): The fill or load CRC check ends, setting COMPLETE or reporting a failure. -/
  | bankCheckDone
  /-- FILL_ABORT (R253): The SEM0 holder ends a fill or load with COMPLETE 0. -/
  | fillAbort (m : Master)
  /-- BANK_SWITCH_CMD (R253): SWITCH sets SWITCH_PEND for a complete inactive bank to take effect at the next frame boundary. -/
  | bankSwitchCmd (m : Master)
  /-- NUC_CLOSE (R271): Writing NUC.CMD.CLOSE requests a commanded closure, with FORCE ignoring the veto in SERVICE. -/
  | nucClose (m : Master) (force : Bool)
  /-- SHUTTER_SETTLE_END (R274): SETTLE_US after a confirmation the measuring interval begins or the shutter counts open. -/
  | shutterSettleEnd
  /-- SHUTTER_OPEN_CONFIRM (R275): For MONO, T_OPEN_MAX after the open command confirms the shutter open. -/
  | shutterOpenConfirm
  /-- CLOSE_MISS (R288): Closed not confirmed within T_CLOSE_MAX fails the closure with reason 1 and opens at once. -/
  | closeMiss
  /-- OPEN_MISS (R288): A BISTABLE open pulse with no motion within T_OPEN_MAX triggers a second pulse or a fault. -/
  | openMiss
  /-- NUC_DEFER_EXPIRED (R280): A vetoed closure deferred for DEFER_MAX seconds sets DEGRADED and is logged once. -/
  | nucDeferExpired
  /-- FIELD_SAVE_DONE (R279): A field-map save completes and NUC_SAVE_DONE is logged. -/
  | fieldSaveDone
  /-- SHUT_FAULT_CLR (R289): Writing SHUT.FAULT_CLR clears the shutter fault unless a channel stays latched or tripped. -/
  | shutFaultClr (m : Master)
  /-- SOL_FIRE (R300): A FIRE command starts, queues, restarts, merges or is refused per channel state. -/
  | solFire (m : Master) (n : Fin 4)
  /-- SOL_STOP (R299): A STOP command ends any phase or wait and sends the channel to OFF. -/
  | solStop (m : Master) (n : Fin 4)
  /-- PHASE_TIMER_EXPIRE (R297): A profile phase reaches its time limit and the next phase is entered. -/
  | phaseTimerExpire (n : Fin 4)
  /-- PEAK_CURRENT_REACHED (R297): Coil current reaches I_PEAK, ending BOOST and recording time to peak. -/
  | peakCurrentReached (n : Fin 4) (tUs : Nat)
  /-- CHOP_SWITCH (R298): Hysteretic chopping turns the switch off at the target or on again after CHOP_MIN. -/
  | chopSwitch (n : Fin 4) (mA : Nat)
  /-- DEAD_TIME_END (R295): The dead time between switches ends and the next switch turns on. -/
  | deadTimeEnd (n : Fin 4)
  /-- MIN_OFF_END (R300): The minimum off time elapses and a pending command may start. -/
  | minOffEnd (n : Fin 4)
  /-- MOTION_DETECT (R302): Current dips MOT_DIP below its running maximum, recording T_MOTION. -/
  | motionDetect (n : Fin 4) (tUs : Nat)
  /-- MOT_WINDOW_CLOSE (R303): The motion window closes with no detection, setting MOT_MISS. -/
  | motWindowClose (n : Fin 4)
  /-- TPK_OUT (R305): A peak outside the time-to-peak window sets TPK_OUT and may end the profile. -/
  | tpkOut (n : Fin 4)
  /-- RAIL_GRANT (R306): A waiting channel takes the boost rail when it is released. -/
  | railGrant (n : Fin 4)
  /-- RAIL_REFUSED (R307): A washer or general channel waiting BST_DEFER for the rail abandons the start. -/
  | railRefused (n : Fin 4)
  /-- BST_NOT_READY (R304): A channel waiting T_BST_WAIT for READY falls back to VBAT or ends. -/
  | bstNotReady (n : Fin 4)
  /-- BOOST_READY (R308): VBST rises through the ready level and READY is set. -/
  | boostReady (vbst : Nat)
  /-- BST_OVERVOLT (R308): VBST above its overvoltage level holds BST_GATE low and is logged once per episode. -/
  | bstOvervolt (vbst : Nat)
  /-- BST_OV_CLEAR (R308): VBST falls below VSET plus 1 V and OV clears. -/
  | bstOvClear (vbst : Nat)
  /-- BOOST_IDLE_STOP (R309): On demand, the boost controller stops IDLE_MS after the last BOOST phase. -/
  | boostIdleStop
  /-- BST_START_FAIL (R327): READY not reached within START_MAX stops the controller with a fault. -/
  | bstStartFail (vbst : Nat)
  /-- BOOST_FAULT_CLR (R327): Writing BOOST.FAULT_CLR clears a start failure. -/
  | boostFaultClr (m : Master)
  /-- COIL_MODEL_STEP (R310): Every 1 ms each channel's coil temperature estimate is updated. -/
  | coilModelStep (i0 : Nat) (i1 : Nat) (i2 : Nat) (i3 : Nat)
  /-- TRIP_EVENT (R321): TRIP_N low for 100 ns turns every actuator switch off and trips every channel. -/
  | tripEvent
  /-- TRIP_RELEASE (R323): TRIP_N rises, starting the 10 µs interval in which clears are ignored. -/
  | tripRelease
  /-- SOL_TRIP_CLR (R323): Writing SOLn.TRIP_CLR clears the channel's trip, or is ignored and logged. -/
  | solTripClr (m : Master) (n : Fin 4)
  /-- BOOST_TRIP_CLR (R323): Writing BOOST.TRIP_CLR clears the controller's trip and lets it restart. -/
  | boostTripClr (m : Master)
  /-- CURRENT_CHECK_FIRE (R324): A switch on for T_OPEN_DET with current below I_SENSE_MIN turns both switches off to watch SOLn_OUT. -/
  | currentCheckFire (n : Fin 4)
  /-- SOL_LATCH (R325): After the 5 µs watch, or an overcurrent, the channel latches with its verdict. -/
  | solLatch (n : Fin 4) (conducts : Bool)
  /-- OVERCURRENT_LIMIT (R324): Internal switch current at 4 A for 1 µs latches the channel as overcurrent. -/
  | overcurrentLimit (n : Fin 4)
  /-- SOL_FAULT_CLR (R326): Writing SOLn.FAULT_CLR clears the latch unless tripped or inhibited. -/
  | solFaultClr (m : Master) (n : Fin 4)
  /-- TEMP_CONVERSION (R329): A die sensor conversion completes and updates its reading. -/
  | tempConversion (sensor : Fin 4) (reading : Int) (points : List Int)
  /-- SENSOR_TIMEOUT (R349): A die sensor conversion not complete within 4 ms marks the sensor bad. -/
  | sensorTimeout (sensor : Fin 4)
  /-- NTC_CONVERSION (R331): The housing NTC is converted every 100 ms into Thous. -/
  | ntcConversion (code : Fin 4096)
  /-- TJ_PEAK_CLR (R329): Writing TEMP.PEAK_CLR resets TJ_PEAK. -/
  | tjPeakClr (m : Master)
  /-- THERMAL_CUT (R340): Two readings at 155 °C or the Yard comparator force DORMANT at once. -/
  | thermalCut (comparator : Bool)
  /-- THERMAL_RELEASE (R342): Tj falling below release lets a latched wake be served by a normal DORMANT exit. -/
  | thermalRelease
  /-- SENTRY_EVALUATE (R357): A completed sentry grid is judged against the background, then the background adapts. -/
  | sentryEvaluate
  /-- SENTRY_HOLDOFF_EXPIRE (R357): HOLDOFF_S seconds after an alarm, HOLDOFF clears. -/
  | sentryHoldoffExpire
  /-- BG_RESET (R361): Writing CMD.BG_RESET clears BG_READY and restarts learning. -/
  | bgReset (m : Master)
  /-- LINK_CTRL_EN (R392): A write to LINKn.CTRL.EN starts power-up and negotiation, or closes the port. -/
  | linkCtrlEn (m : Master) (n : Fin 4) (en : Bool)
  /-- POC_SOFT_START_END (R382): The 12 V ramp ends and the port enters BASE_TRAIN. -/
  | pocSoftStartEnd (n : Fin 4)
  /-- LINK_LOCK (R375): The cab locks to the head's TL1 training pattern and enters CAPABILITY. -/
  | linkLock (n : Fin 4)
  /-- CAPS_TIMEOUT (R375): No capability message within 2 ms of lock marks the head LEGACY. -/
  | capsTimeout (n : Fin 4)
  /-- TRAINING_DONE (R377): Training ends and the port enters UP and logs LINK_UP. -/
  | trainingDone (n : Fin 4)
  /-- TRAINING_FAIL (R376): A training attempt fails, leading to retry, a generation step, FAIL_WAIT or NO_COMMON. -/
  | trainingFail (n : Fin 4)
  /-- FAIL_WAIT_EXPIRE (R376): After RETRY_MS in FAIL_WAIT the port restarts at TL1 signalling. -/
  | failWaitExpire (n : Fin 4)
  /-- LINK_NO_PEER (R376): No first lock 1 s after power good is logged once. -/
  | linkNoPeer (n : Fin 4)
  /-- LOSS_OF_LOCK (R378): Loss of lock for 10 µs while UP puts the port in RETRAIN. -/
  | lossOfLock (n : Fin 4)
  /-- LINK_DOWN (R378): A port not UP for 100 ms is logged down and its session is lost. -/
  | linkDown (n : Fin 4)
  /-- POC_OVERCURRENT (R383): A fast or slow trip turns the coax power path off. -/
  | pocOvercurrent (n : Fin 4) (fast : Bool)
  /-- POC_RETRY (R384): 1 s after an overcurrent the path retries, latching after RETRIES attempts. -/
  | pocRetry (n : Fin 4)
  /-- POC_RETRY_COUNT_CLEAR (R384): After 10 s in UP the consecutive-retry count returns to 0. -/
  | pocRetryCountClear (n : Fin 4)
  /-- POC_BACKFEED (R384): Backfeed on the coax node latches the path off. -/
  | pocBackfeed (n : Fin 4)
  /-- POC_KEEPALIVE_FAULT (R384): Keep-alive current above 25 mA for 10 ms latches the keep-alive switch off. -/
  | pocKeepaliveFault (n : Fin 4)
  /-- POC_NO_LOAD (R384): POC current below 5 mA for 1 s while not UP sets NO_LOAD. -/
  | pocNoLoad (n : Fin 4) (mA : Nat)
  /-- POC_VIN_LOW (R384): POC_VIN below 10 V sets VIN_LOW. -/
  | pocVinLow (n : Fin 4) (dV : Nat)
  /-- POC_CLR (R384): Writing POC_CLR clears a latched power-path fault and restarts POWER_UP. -/
  | pocClr (m : Master) (n : Fin 4) (persists : Bool)
  /-- WAKE_CMD (R387): Writing WAKE_CMD at a head in KEEP_ALIVE sends the wake signature. -/
  | wakeCmd (m : Master) (n : Fin 4)
  /-- STALL_PEAK_CLR (R381): Writing PEAK_CLR clears STALL_PEAK. -/
  | stallPeakClr (m : Master) (n : Fin 4)
  /-- COAX_RISE (R387): The head's coax node above 8 V for 1 ms raises WC2. -/
  | coaxRise (near : Bool)
  /-- COAX_FALL (R387): The head's coax node below 7 V puts LINK0 in KEEP_ALIVE. -/
  | coaxFall
  /-- WAKE_SIG_RX (R388): A cab port detects the wake signature on its keep-alive current and raises WC2. -/
  | wakeSigRx (n : Fin 4) (mA : Nat) (collided : Bool)
  /-- FS_PACKET (R417): A received frame start starts an output frame or is discarded as a replay. -/
  | fsPacket (n : Fin 4) (p : Packet)
  /-- EMB_PACKET (R398): A received embedded line is checked and forwarded. -/
  | embPacket (n : Fin 4) (p : Packet)
  /-- LINE_PACKET (R398): A received pixel line is checked and placed in the Stall for the outputs. -/
  | linePacket (n : Fin 4) (p : Packet)
  /-- FE_PACKET (R417): A received frame end closes the frame and records its authentication result. -/
  | fePacket (n : Fin 4) (p : Packet)
  /-- RESERVED_PACKET (R397): A packet of reserved type is discarded and counted in RX_ERR. -/
  | reservedPacket (n : Fin 4)
  /-- ACK_MSG (R403): A received ACK retires acknowledged numbered messages. -/
  | ackMsg (n : Fin 4) (c : Ctrl)
  /-- NAK_MSG (R403): A received NAK resends unacknowledged messages from the named SEQ. -/
  | nakMsg (n : Fin 4) (c : Ctrl)
  /-- CAPS_MSG (R375): A received capability message carries the peer's GEN_EN, FRESH and POR. -/
  | capsMsg (n : Fin 4) (c : Ctrl)
  /-- CHOICE_MSG (R375): A head receives the cab's generation choice and trains on it. -/
  | choiceMsg (n : Fin 4) (c : Ctrl)
  /-- SESSION_MSG (R404): A head receives SESSION and answers SESSION_ACK and STATUS. -/
  | sessionMsg (n : Fin 4) (c : Ctrl)
  /-- SESSION_ACK_MSG (R404): A cab receives SESSION_ACK, starts the session and checks the key KCV. -/
  | sessionAckMsg (n : Fin 4) (c : Ctrl)
  /-- TUN_RD_MSG (R408): A head serves a tunnelled read as M3 and replies. -/
  | tunRdMsg (n : Fin 4) (c : Ctrl)
  /-- TUN_WR_MSG (R408): A head serves a tunnelled write as M3 and replies. -/
  | tunWrMsg (n : Fin 4) (c : Ctrl)
  /-- TUN_REPLY_MSG (R409): A cab places a tunnel reply in its reply FIFO. -/
  | tunReplyMsg (n : Fin 4) (c : Ctrl)
  /-- STATUS_MSG (R411): A cab stores the head's latest STATUS in HEAD_STAT. -/
  | statusMsg (n : Fin 4) (c : Ctrl)
  /-- EVENT_MSG (R412): A cab delivers a forwarded head event to the head-event FIFO or discards it. -/
  | eventMsg (n : Fin 4) (c : Ctrl)
  /-- ALARM_MSG (R414): A cab receiving ALARM raises WC3 and logs HEAD_ALARM. -/
  | alarmMsg (n : Fin 4) (c : Ctrl)
  /-- RRESET_MSG (R410): A head receiving RRESET replies and prepares a LINK reset if M3 is privileged. -/
  | rresetMsg (n : Fin 4) (c : Ctrl)
  /-- RETX_TIMEOUT (R403): No acknowledgement within the timeout resends from the oldest unacknowledged message. -/
  | retxTimeout (n : Fin 4)
  /-- ACK_DELAY_EXPIRE (R403): With nothing to carry it, an ACK is sent 20 µs after delivery. -/
  | ackDelayExpire (n : Fin 4)
  /-- TUN_ADDR (R407): Writing TUN_ADDR issues a tunnelled read or write with the next tag. -/
  | tunAddr (m : Master) (n : Fin 4) (data : Word)
  /-- TUN_POP (R409): Writing TUN_POP removes the oldest tunnel reply. -/
  | tunPop (m : Master) (n : Fin 4)
  /-- HEVT_POP (R413): Writing HEVT_POP removes the oldest head event. -/
  | hevtPop (m : Master) (n : Fin 4)
  /-- AUTH_CLR (R418): Writing AUTH_CLR clears BLOCKED and CONSEC. -/
  | authClr (m : Master) (n : Fin 4)
  /-- RRESET (R410): Writing KEY 0x5A to LINKn.RRESET queues a remote-reset message. -/
  | rreset (m : Master) (n : Fin 4) (data : Word)
  /-- TUNNEL_TIMEOUT (R408): A held tunnel access at a head not serving accesses is answered NVM_BUSY after the timeout. -/
  | tunnelTimeout
  /-- TUNNEL_ACTION_RELEASE (R425): Once a reply is acknowledged or 1 ms passes, a head reset or LINK0 closing begins. -/
  | tunnelActionRelease
  /-- CSI_REINIT (R452): Once no VC has a frame in progress the lanes rest 100 µs in LP-11 and restart with new values. -/
  | csiReinit
  /-- PVP_FRAME_START (R446): At each output frame start ready buffers flip to the front. -/
  | pvpFrameStart
  /-- PVP_STALE (R448): A stream with no flip for STALE_MS is filled with STALE_RGB and logged once per episode. -/
  | pvpStale (stream : Fin 4)
  /-- I2C_ADDRESS (R466): An I²C address byte is acknowledged, or refused while asleep, booting or the Granary works. -/
  | i2cAddress (addr : Fin 128) (read : Bool) (ptr : Option Word)
  /-- I2C_WRITE_WORD (R463): The fourth byte of an I²C data word starts a write access and advances the pointer. -/
  | i2cWriteWord (data : Word)
  /-- I2C_READ_WORD (R463): An I²C read word is fetched and returned from the address pointer. -/
  | i2cReadWord
  /-- I2C_STOP (R463): A STOP or START ends the transaction, discarding any partial word. -/
  | i2cStop (cut : Bool)
  /-- I2C_HOLD_EXPIRE (R465): HOLD_US after a STOP, the device's L0 hold ends. -/
  | i2cHoldExpire
  /-- I2C_SDA_HELD (R488): SDA driven low 10 ms without SCL activity sets SDA_HELD and is logged. -/
  | i2cSdaHeld
  /-- ATTN_TRIGGER (R468): IRQ_N assertion or the repeat interval triggers an attention message. -/
  | attnTrigger
  /-- ATTN_ATTEMPT (R469): After 50 µs of bus free the device attempts the attention write as controller. -/
  | attnAttempt (outcome : Fin 3)
  /-- SPI_CS_FALL (R470): CS_N falling sends the status byte and may raise WC1. -/
  | spiCsFall
  /-- SPI_NOP (R470): The NOP command does nothing. -/
  | spiNop
  /-- SPI_WRITE (R471): The WRITE command writes each received word to the address pointer. -/
  | spiWrite (addr : Word) (words : List Word)
  /-- SPI_READ (R472): The READ command returns wait bytes, a token and each data word. -/
  | spiRead (addr : Word) (n : Nat)
  /-- SPI_PROTOCOL (R470): An unknown SPI command is a protocol error and the transaction is ignored. -/
  | spiProtocol (byte : Byte)
  /-- SPI_CS_RISE (R471): CS_N rising ends the transaction, discarding a partial word. -/
  | spiCsRise (cut : Bool)
  /-- SPI_HOLD_EXPIRE (R472): HOLD_US after CS_N rising, the device's L0 hold ends. -/
  | spiHoldExpire
  /-- CMDQ_DATA (R474): A word written to a queue DATA port is taken as header or payload. -/
  | cmdqData (m : Master) (q : Fin 4) (data : Word)
  /-- CMDQ_START (R478): A word written to START is taken as a header, ending RESYNC or WAIT_START. -/
  | cmdqStart (m : Master) (q : Fin 4) (data : Word)
  /-- CMDQ_FLUSH (R477): Writing FLUSH removes waiting items and rewinds a partial item. -/
  | cmdqFlush (m : Master) (q : Fin 4)
  /-- CMDQ_FLUSH_DONE (R477): When neither RESYNC nor WAIT_START remains, the flush completes and is logged. -/
  | cmdqFlushDone (q : Fin 4)
  /-- CMDQ_POP (R476): Writing POP removes the oldest completion. -/
  | cmdqPop (m : Master) (q : Fin 4)
  /-- ITEM_WRITE (R474): A WRITE item writes consecutive addresses, stopping at the first refusal. -/
  | itemWrite
  /-- ITEM_MODIFY (R474): A MODIFY item read-modify-writes a word atomically. -/
  | itemModify
  /-- ITEM_POLL (R474): A POLL item reads every 1 µs until a match or timeout. -/
  | itemPoll
  /-- ITEM_POLL_END (R474): A POLL matches or reaches its timeout and completes. -/
  | itemPollEnd (q : Fin 4)
  /-- ITEM_WAIT (R474): A WAIT item holds its queue for the given time. -/
  | itemWait
  /-- ITEM_WAIT_END (R474): A WAIT item's time elapses and it completes. -/
  | itemWaitEnd (q : Fin 4)
  /-- ITEM_MARK (R474): A MARK item completes with its payload as result. -/
  | itemMark
  /-- ITEM_MODE (R474): A MODE item acts as a write to YARD.MODE_CMD. -/
  | itemMode
  /-- ITEM_SOL (R474): A SOL item acts as a write to SOLn.CMD. -/
  | itemSol
  /-- ITEM_CLOSE (R474): A CLOSE item acts as a write of CLOSE to NUC.CMD. -/
  | itemClose
  /-- ITEM_WRITE_P (R479): A script WRITE_P item writes a sampled parameter to an address. -/
  | itemWriteP
  /-- ITEM_WAIT_P (R479): A script WAIT_P item waits for a sampled parameter's time. -/
  | itemWaitP
  /-- SEQ_RUN (R480): Writing a script id to SEQ.RUN starts a script run. -/
  | seqRun (m : Master) (data : Word)
  /-- SEQ_STOP (R481): Writing SEQ.STOP ends the run after the item in progress. -/
  | seqStop (m : Master)
  /-- GRAN_PROGRAM (R494): The PROGRAM command programs LEN bytes of BUF from ADDR. -/
  | granProgram (m : Master)
  /-- GRAN_ERASE (R493): The ERASE command erases the sector holding ADDR. -/
  | granErase (m : Master)
  /-- GRAN_APPEND (R499): The APPEND command appends a record to PARAM. -/
  | granAppend (m : Master)
  /-- GRAN_FIND (R498): The FIND command returns the newest valid record of TYPE and KEY. -/
  | granFind (m : Master)
  /-- GRAN_SEQ_BEGIN (R501): SEQ_BEGIN opens a record group and appends its begin record. -/
  | granSeqBegin (m : Master)
  /-- GRAN_SEQ_END (R501): SEQ_END closes the group with an end record. -/
  | granSeqEnd (m : Master)
  /-- GRAN_SCAN_CMD (R511): The SCAN command starts a margin scan now. -/
  | granScanCmd (m : Master)
  /-- GRAN_FIELD_SAVE (R493): The FIELD_SAVE command starts a field-map save without SAVE_MIN_S. -/
  | granFieldSave (m : Master)
  /-- GRAN_LOCK_PAGE (R509): LOCK_PAGE permanently write-locks a LOCKPAGES page. -/
  | granLockPage (m : Master)
  /-- GRAN_RPROT_PAGE (R509): RPROT_PAGE permanently read-protects a LOCKPAGES page. -/
  | granRprotPage (m : Master)
  /-- GRAN_LOCK_FACTORY (R509): LOCK_FACTORY permanently write-locks FACTORY. -/
  | granLockFactory (m : Master)
  /-- GRAN_OPERATION_DONE (R496): An engine operation ends and the next operation of the highest-ranked job starts. -/
  | granOperationDone (fails : Bool)
  /-- GRAN_JOB_DONE (R493): A host job ends, writing RESULT and setting DONE. -/
  | granJobDone
  /-- GRAN_DEFER_REFUSED (R496): A refusable job waiting DEFER_MAX for its first operation ends with RESOURCE_BUSY. -/
  | granDeferRefused
  /-- GRAN_SCAN_DONE (R511): A margin scan ends, resets SCAN_ACC and logs the weak sectors. -/
  | granScanDone (weak : List Nat)
  /-- SHADOW_STORE_CMD (R506): Writing SHADOW.CMD.STORE starts a shadow store. -/
  | shadowStoreCmd (m : Master)
  /-- SHADOW_AUTO_STORE (R506): Every AUTO_S seconds outside DORMANT a shadow store starts. -/
  | shadowAutoStore
  /-- SHADOW_STORE_DONE (R506): A shadow store completes its four bursts and the older copy is erased. -/
  | shadowStoreDone (fails : Bool) (powered : Bool)
  /-- POWER_FAIL (R507): PFI below its threshold for 2 µs commits a power-fail store on backup power. -/
  | powerFail
  /-- VBKP_FLOOR (R515): VBKP below the store floor stops the store after the burst in progress. -/
  | vbkpFloor (bursts : Nat)
  /-- WDT_ANSWER (R531): A write to ANSWER carried out by the Yard is judged as a correct or bad service. -/
  | wdtAnswer (m : Master) (data : Word)
  /-- WDT_WINDOW_OPEN (R523): The watchdog window opens at its cycle of the period. -/
  | wdtWindowOpen
  /-- WDT_PERIOD_END (R532): A period ends without correct service as a missed period. -/
  | wdtPeriodEnd
  /-- WDT_EN_WRITE (R528): A write to WDT.CTRL.EN starts or stops the watchdog under the supervisor rules. -/
  | wdtEnWrite (m : Master) (en : Bool)
  /-- YARD_POSTED_WRITE (R563): A write to YARD or WDT is posted and taken by the Yard 2 to 3 YCLK cycles later. -/
  | yardPostedWrite
  /-- SEM_TAKE (R536): TAKE acquires a free semaphore for the writer. -/
  | semTake (m : Master) (n : Fin 8)
  /-- SEM_RELEASE (R537): RELEASE frees a semaphore held by the writer. -/
  | semRelease (m : Master) (n : Fin 8)
  /-- SEM_FORCE (R538): FORCE orphans a held semaphore with cause 7. -/
  | semForce (m : Master) (n : Fin 8)
  /-- SEM_HOLD_EXPIRE (R540): A semaphore held beyond HOLD_MAX is orphaned with cause 6. -/
  | semHoldExpire (n : Fin 8)
  /-- SEM_RECOVERY_END (R539): An orphaned semaphore's recovery ends and it becomes free. -/
  | semRecoveryEnd (n : Fin 8)
  /-- EVT_ACK (R544): Writing EVT.ACK acknowledges consumed log entries. -/
  | evtAck (m : Master) (data : Word)
  /-- EVT_XING_LOST (R545): When every overrun event crossing has emptied, the dropped count is logged once. -/
  | evtXingLost (dropped : Nat)
  /-- XING_HS_TIMEOUT (R567): A held-data write with no acknowledgement in time is abandoned and logged. -/
  | xingHsTimeout (m : Master) (addr : Word)
  /-- SLUICE_PEAK_CLR (R573): Writing PEAK_CLR clears a Sluice's PEAK. -/
  | sluicePeakClr (m : Master) (x : Fin 13)
  /-- GPIO_CONFIG_WRITE (R580): A write to PIN.GPIOk claims, reconfigures or releases a multiplexed pin. -/
  | gpioConfigWrite (m : Master) (k : Fin 24) (data : Word)
  /-- GPIO_OUT_WRITE (R581): A write to GPIO_OUT drives the output pins, refused if it changes another master's pin. -/
  | gpioOutWrite (m : Master) (data : Word)
  /-- TAP_EXTEST (R585): The EXTEST instruction takes effect in SERVICE with M4 privileged, else acts as BYPASS. -/
  | tapExtest
  /-- TAP_SAMPLE_PRELOAD (R584): The SAMPLE/PRELOAD instruction selects the boundary scan register. -/
  | tapSamplePreload
  /-- TAP_IDCODE (R584): The IDCODE instruction returns the 32-bit device identity. -/
  | tapIdcode
  /-- TAP_BYPASS (R584): The BYPASS instruction selects the 1-bit bypass register. -/
  | tapBypass
  /-- TAP_REGACC (R586): A REGACC Update-DR issues one register access as M4. -/
  | tapRegacc (write : Bool) (addr : Word) (data : Word)
  /-- TAP_HALT (R587): Shifting HALT requests or ends a debug halt of M0 and the core blocks. -/
  | tapHalt (on : Bool)
  /-- TAP_RESET (R584): Test-Logic-Reset selects IDCODE, ends a halt and orphans M4's semaphores. -/
  | tapReset
  /-- SUPPLY_LOSS (R598): A supply below its monitor threshold for 10 µs closes its domains and is logged. -/
  | supplyLoss (k : Fin 3)
  /-- SUPPLY_BACK (R599): A supply good again for 1 ms reopens the domains and is logged. -/
  | supplyBack (k : Fin 3)
  /-- VBAT_STATUS (R590): VBAT outside 7 to 40 V for 10 µs sets its status bit and is logged once per episode. -/
  | vbatStatus (mv : Nat)
  /-- VDDIO_LEVEL_DETECT (R577): VDDIO stable for 1 ms fixes 1.8 V or 3.3 V pad operation. -/
  | vddioLevelDetect (v33 : Bool)
  /-- SUPPLY_GOOD (R589): VDD, VDDA, VDDIO or VDDPHY rising to good at power-up or after removal in DORMANT releases the waiting reset, boot step 2 or an OPENING domain. -/
  | supplyGood (k : Fin 4)
  /-- VBAT_EPISODE_END (R590): VBAT back inside 7.0 to 40.0 V for 10 µs continuously ends the episode and clears VBAT_LOW or VBAT_HIGH. -/
  | vbatEpisodeEnd
  deriving DecidableEq, Repr

end Sys2Proof
end

