-- ==== Sys2Proof/WellFormed.lean ====
section
/-! DEFINITION. What an operand must satisfy beyond its type for a command to stand for something the block can meet. -/

namespace Sys2Proof

/-- The columns of a row of indices are columns of the widest array (R183), each named once. -/
def colsOk (l : List Nat) : Bool := l.all (· < 640) && decide l.Nodup

/-- What a row period brings: at most 640 columns, two spares with at most 20 mux steps (R186, R208). -/
def RowIn.ok (r : RowIn) : Bool :=
  decide (r.uv.length ≤ 640) && decide (r.spareA.length ≤ 20) && decide (r.spareB.length ≤ 20) &&
  colsOk r.lost && colsOk r.coefBad && colsOk r.storeBad

/-- Four comparators, each with its offset and its noise, and the ten steps of each offset search (R216). -/
def CalMeas.ok (m : CalMeas) : Bool :=
  m.offset.length == 4 && m.noise.length == 4 && m.sums1.length == 10 && m.sums2.length == 10

/-- The words after the header are as many as a LEN of 12 bits can count (R397). -/
def Packet.ok (p : Packet) : Bool := decide (p.words.length < 4096)

/-- The longest payload of Table LINK-8 has three words. -/
def Ctrl.ok (c : Ctrl) : Bool := decide (c.words.length ≤ 3)

/-- The operands of a command are ones that the block can meet. -/
def Instr.wellFormed : Instr → Bool
  | .rowStart r => r.ok
  | .calibrationEnd _ meas => meas.ok
  | .tempConversion sensor _ points => points.length == (if sensor.val = 1 then 34 else 0)
  | .fsPacket _ p => p.ok
  | .embPacket _ p => p.ok
  | .linePacket _ p => p.ok
  | .fePacket _ p => p.ok
  | .ackMsg _ c => c.ok
  | .nakMsg _ c => c.ok
  | .capsMsg _ c => c.ok
  | .choiceMsg _ c => c.ok
  | .sessionMsg _ c => c.ok
  | .sessionAckMsg _ c => c.ok
  | .tunRdMsg _ c => c.ok
  | .tunWrMsg _ c => c.ok
  | .tunReplyMsg _ c => c.ok
  | .statusMsg _ c => c.ok
  | .eventMsg _ c => c.ok
  | .alarmMsg _ c => c.ok
  | .rresetMsg _ c => c.ok
  | .granScanDone weak => weak.all (· < 2048) && decide weak.Nodup
  | .vbkpFloor bursts => decide (bursts ≤ 4)
  | _ => true

end Sys2Proof
end

