-- ==== Sys2Proof/Decode.lean ====
section
/-! DEFINITION. The commands that a word spells. -/

namespace Sys2Proof

/-- The command that a word of `nbits` bits spells by the table's bits. The table gives none of its rows bits: its rows are operations
and events of the block, which reach it as register accesses or as conditions, so that no word spells one.
DEDUCED, log 3, safe. -/
def decodeTableWord (nbits w : Nat) : Option Instr :=
  match nbits, w with
  | _, _ => none

end Sys2Proof
end

