-- ==== Sys2Proof/Config.lean ====
section
/-! DEFINITION. What an implementation fixes and what the manual leaves open: constants without a body, so that no
proof can see a value of them. Each is named in a log entry. -/

namespace Sys2Proof.Config

/-- BLOCK_REV of a page (Table REG-3: per silicon). DESIGN CHOICE, log 9, safe. -/
opaque blockRev : Nat → BitVec 16

/-- SYS.BASE_REV (Table REG-6: per silicon). DESIGN CHOICE, log 9, safe. -/
opaque baseRev : BitVec 8

/-- SYS.METAL_REV (Table REG-6: per silicon). DESIGN CHOICE, log 9, safe. -/
opaque metalRev : BitVec 8

/-- Where the bilinear scaling of R445 takes its samples, along an axis of `a` source samples and `b` scaled ones: the offset of sample 0,
in 1/65,536 of a source sample, which the manual does not give. DESIGN CHOICE, log 43, safe. -/
opaque scalePhase : Nat → Nat → BitVec 17

/-- A fresh value of at most 32 bits that the manual leaves open, for each value of the state's free-value counter.
DESIGN CHOICE, log 8, safe. -/
opaque freeWord : Nat → BitVec 32

end Sys2Proof.Config
end

