-- ==== Sys2Proof/Machine/Store.lean ====
section
/-! DEFINITION. The shape of a register field (`Row`), and the sparse stores that registers and memories are held in:
lists of key and value pairs, keys strictly rising, with no entry equal to what an unlisted key reads as. -/

namespace Sys2Proof.Machine

/-- Retention classes (R11, Table SCOPE-5); `none` for a field that holds no state (R7). -/
inductive Cls where
  | none | c | v | y
  deriving DecidableEq, Repr

/-- Access codes (R8, Table SCOPE-4). -/
inductive Access where
  | rw | ro | wo | w1c | w1s | rws | rww | rw1
  deriving DecidableEq, Repr

/-- One row of a register table (R7): the page it is on (and how many pages repeat it), its offset, the two strides
of an array (`count` elements `stride` apart in each of `ocount` blocks `ostride` apart), its bits, access, class,
whether it is live (a dash in the Reset column: no stored value) and its reset value, per element in `rtab` where
the elements differ. -/
structure Row where
  page : Nat
  pages : Nat := 1
  off : Nat
  count : Nat := 1
  stride : Nat := 0
  ocount : Nat := 1
  ostride : Nat := 0
  lo : Nat := 0
  wid : Nat
  acc : Access
  cls : Cls := .none
  live : Bool := false
  reset : Nat := 0
  rtab : List Nat := []
  deriving DecidableEq, Repr

/-- A class as two bits of a key. -/
def Cls.code : Cls → Nat
  | .none => 0
  | .c => 1
  | .v => 2
  | .y => 3

/-- The byte offset in its page of element `i` of a row. -/
def Row.offset (r : Row) (i : Nat) : Nat :=
  r.off + r.stride * (i % r.count) + r.ostride * (i / r.count)

/-- The key of element `i` of a row on page `page + n`: its bit address in the register space, then its class. -/
def Row.key (r : Row) (n i : Nat) : Nat :=
  (((r.page + n) * 0x1000 + r.offset i) * 8 + r.lo) * 4 + r.cls.code

/-- The reset value of element `i` of a row (R7). DESIGN CHOICE, log 5, unsafe. -/
def Row.rst (r : Row) (i : Nat) : Nat := r.rtab.getD i r.reset

/-- The element of a row that stands in the word at page offset `w`, if one does. -/
def Row.at (r : Row) (w : Nat) : Option Nat :=
  if w < r.off then none
  else
    let d := w - r.off
    let o := if r.ostride = 0 then 0 else d / r.ostride
    let e := d - o * r.ostride
    let k := if r.stride = 0 then 0 else e / r.stride
    if o < r.ocount ∧ k < r.count ∧ e = k * r.stride then some (o * r.count + k) else none

/-- The class a key carries (R11). -/
def keyClass (k : Nat) : Nat := k % 4

/-- The page a key stands on. -/
def keyPage (k : Nat) : Nat := k / 4 / 8 / 0x1000

/-- The byte address in the register space (from 0x4000_0000) of the word a key stands in. -/
def keyWord (k : Nat) : Nat := k / 128 * 4

/-- A sparse store. -/
abbrev Store := List (Nat × Nat)

/-- What key `k` reads as; `d` where nothing is listed. DESIGN CHOICE, log 1, safe. -/
def Store.find : Store → Nat → Nat → Nat
  | [], _, d => d
  | (k', v) :: l, k, d => if k = k' then v else Store.find l k d

/-- Whether key `k` is listed. -/
def Store.has : Store → Nat → Bool
  | [], _ => false
  | (k', _) :: l, k => k == k' || Store.has l k

/-- List `v` at `k`, keeping the keys strictly rising. -/
def Store.insert : Store → Nat → Nat → Store
  | [], k, v => [(k, v)]
  | (k', v') :: l, k, v =>
    if k < k' then (k, v) :: (k', v') :: l
    else if k = k' then (k, v) :: l
    else (k', v') :: Store.insert l k v

/-- Remove key `k`. -/
def Store.erase : Store → Nat → Store
  | [], _ => []
  | (k', v') :: l, k => if k = k' then Store.erase l k else (k', v') :: Store.erase l k

/-- Make `k` read as `v`, where an unlisted `k` reads as `d`. DESIGN CHOICE, log 1, safe. -/
def Store.set (l : Store) (k v d : Nat) : Store :=
  if v = d then Store.erase l k else Store.insert l k v

/-- The keys of a store are strictly rising. DESIGN CHOICE, log 1, safe. -/
def Store.sorted : Store → Bool
  | [] => true
  | [_] => true
  | (k, _) :: (k', v') :: l => decide (k < k') && Store.sorted ((k', v') :: l)

/-- Byte memory: the cells that differ from what an unlisted byte reads as, addresses strictly rising. -/
abbrev Memory := List Host.Cell

/-- The byte at address `a`; `d` where nothing is listed. -/
def Memory.read : Memory → Nat → Byte → Byte
  | [], _, d => d
  | (a', b) :: l, a, d => if a = a' then b else Memory.read l a d

/-- List byte `b` at `a`, keeping the addresses strictly rising. -/
def Memory.insert : Memory → Nat → Byte → Memory
  | [], a, b => [(a, b)]
  | (a', b') :: l, a, b =>
    if a < a' then (a, b) :: (a', b') :: l
    else if a = a' then (a, b) :: l
    else (a', b') :: Memory.insert l a b

/-- Remove address `a`. -/
def Memory.erase : Memory → Nat → Memory
  | [], _ => []
  | (a', b') :: l, a => if a = a' then Memory.erase l a else (a', b') :: Memory.erase l a

/-- Store byte `b` at `a`, where an unlisted byte reads as `d`. DESIGN CHOICE, log 1, safe. -/
def Memory.write (m : Memory) (a : Nat) (b d : Byte) : Memory :=
  if b = d then Memory.erase m a else Memory.insert m a b

/-- The canonical form: addresses strictly rising, and no cell equal to what an unlisted byte reads as.
DESIGN CHOICE, log 1, safe. -/
def Memory.wf (d : Byte) : Memory → Bool
  | [] => true
  | [(_, b)] => b != d
  | (a, b) :: (a', b') :: l => b != d && decide (a < a') && Memory.wf d ((a', b') :: l)

end Sys2Proof.Machine
end

