-- ==== Sys2Proof/Machine/Fields.lean ====
section
/-! DEFINITION. Every field of every register table of the manual, one `Row` each: where it stands, how wide it is,
how it is accessed, what it resets to and through what it is kept (R7, R8, R11). The names are PAGE_FIELD. -/

namespace Sys2Proof.Machine

/-- Table ROLE-7, 0x060: latched role: 0b00 HEAD, 0b01 CAB, 0b10 DUO, 0b11 invalid (SAFE). -/
def SYS_ROLE : Row := { page := 0x000, off := 0x060, wid := 2, acc := .ro, cls := .c }
/-- Table ROLE-7, 0x060: live levels of ROLE[1:0]. -/
def SYS_PIN_NOW : Row := { page := 0x000, off := 0x060, lo := 2, wid := 2, acc := .ro, live := true }
/-- Table ROLE-7, 0x060: PIN_NOW differed from ROLE for 1 ms (R33). -/
def SYS_MISMATCH : Row := { page := 0x000, off := 0x060, lo := 4, wid := 1, acc := .w1c, cls := .c }
/-- Table ROLE-7, 0x060: 1 while in SAFE. -/
def SYS_SAFE : Row := { page := 0x000, off := 0x060, lo := 5, wid := 1, acc := .ro, cls := .c }
/-- Table ROLE-7, 0x060: strap samples disagreed (R17). -/
def SYS_UNSTABLE : Row := { page := 0x000, off := 0x060, lo := 6, wid := 1, acc := .ro, cls := .c }
/-- Table ROLE-7, 0x060: a re-sample latched a role other than the one latched before (R41). -/
def SYS_MOVED : Row := { page := 0x000, off := 0x060, lo := 7, wid := 1, acc := .w1c, cls := .y }
/-- Table ROLE-7, 0x060: enabled link ports, bit n for LINKn: HEAD 0x1, CAB 0xF, DUO 0xE, SAFE 0x0. -/
def SYS_PORTS : Row := { page := 0x000, off := 0x060, lo := 8, wid := 4, acc := .ro, cls := .c }
/-- Table ROLE-7, 0x060: 1 when the array interface is present. -/
def SYS_ARRAY : Row := { page := 0x000, off := 0x060, lo := 16, wid := 1, acc := .ro, cls := .c }
/-- Table ROLE-7, 0x060: BOOT entries skipped for role, saturating at 0xFF (R34). -/
def SYS_SKIPPED : Row := { page := 0x000, off := 0x060, lo := 24, wid := 8, acc := .ro, cls := .c }
/-- Table REG-3, 0x000: page index from Table REG-2; its low byte is the block code. -/
def HDR_BLOCK : Row := { page := 0x000, pages := 256, off := 0x000, lo := 16, wid := 16, acc := .ro }
/-- Table REG-3, 0x000: n of CHnn, SOLn, LINKn; 0x20 SPA; 0x21 SPB; 0x00 elsewhere. -/
def HDR_INSTANCE : Row := { page := 0x000, pages := 256, off := 0x000, lo := 8, wid := 8, acc := .ro }
/-- Table REG-3, 0x000: register layout version of this manual. -/
def HDR_LAYOUT : Row := { page := 0x000, pages := 256, off := 0x000, wid := 8, acc := .ro, reset := 1 }
/-- Table REG-3, 0x004: block revision; [31:16] read 0. -/
def HDR_BLOCK_REV : Row := { page := 0x000, pages := 256, off := 0x004, wid := 16, acc := .ro }
/-- Table REG-3, 0x008: block enable; not configuration (R51). -/
def HDR_EN : Row := { page := 0x000, pages := 256, off := 0x008, wid := 1, acc := .rw, cls := .c }
/-- Table REG-3, 0x00C: a C or V field of this page returned to its reset value. -/
def HDR_DEFAULTED : Row := { page := 0x000, pages := 256, off := 0x00C, lo := 31, wid := 1, acc := .w1c, cls := .y, reset := 1 }
/-- Table REG-3, 0x00C: block operation in progress. -/
def HDR_BUSY : Row := { page := 0x000, pages := 256, off := 0x00C, lo := 30, wid := 1, acc := .ro, live := true }
/-- Table REG-3, 0x00C: block fault present: 1 while any cause named in the page's chapter stands (R632). -/
def HDR_FAULT : Row := { page := 0x000, pages := 256, off := 0x00C, lo := 29, wid := 1, acc := .ro, live := true }
/-- Table REG-3, 0x010: interrupt causes, bit meanings per chapter. -/
def HDR_INT_RAW : Row := { page := 0x000, pages := 256, off := 0x010, wid := 32, acc := .w1c, cls := .c }
/-- Table REG-3, 0x014: interrupt enables. -/
def HDR_INT_EN : Row := { page := 0x000, pages := 256, off := 0x014, wid := 32, acc := .rw, cls := .c }
/-- Table REG-3, 0x018: INT_RAW AND INT_EN. -/
def HDR_INT_PEND : Row := { page := 0x000, pages := 256, off := 0x018, wid := 32, acc := .ro, live := true }
/-- Table REG-3, 0x01C: each 1 sets that INT_RAW bit. -/
def HDR_INT_SET : Row := { page := 0x000, pages := 256, off := 0x01C, wid := 32, acc := .wo, live := true }
/-- Table REG-3, 0x020: last refusal on this page (Table SCOPE-6). -/
def HDR_ERR_CODE : Row := { page := 0x000, pages := 256, off := 0x020, wid := 8, acc := .ro, cls := .c }
/-- Table REG-3, 0x020: master of that refusal, 0–4. -/
def HDR_ERR_MASTER : Row := { page := 0x000, pages := 256, off := 0x020, lo := 8, wid := 3, acc := .ro, cls := .c }
/-- Table REG-3, 0x020: 1 if the refused access was a write. -/
def HDR_ERR_WR : Row := { page := 0x000, pages := 256, off := 0x020, lo := 11, wid := 1, acc := .ro, cls := .c }
/-- Table REG-3, 0x020: byte offset of the refused access in the page or window. -/
def HDR_ERR_OFFSET : Row := { page := 0x000, pages := 256, off := 0x020, lo := 16, wid := 12, acc := .ro, cls := .c }
/-- Table REG-3, 0x020: 1 clears CODE, MASTER, WR and OFFSET to 0. -/
def HDR_ERR_CLR : Row := { page := 0x000, pages := 256, off := 0x020, lo := 31, wid := 1, acc := .wo, live := true }
/-- Table REG-3, 0x024: 0x00–0x04 names M0–M4; 0xFF any privileged master. -/
def HDR_OWNER : Row := { page := 0x000, pages := 256, off := 0x024, wid := 8, acc := .rw, cls := .c, reset := 0xFF }
/-- Table REG-3, 0x028: 1 locks the page's configuration. -/
def HDR_LOCK : Row := { page := 0x000, pages := 256, off := 0x028, wid := 1, acc := .rw1, cls := .c }
/-- Table REG-3, 0x028: 1 locks the page's configuration. -/
def HDR_LOCK_Y : Row := { page := 0x000, pages := 256, off := 0x028, wid := 1, acc := .rw1, cls := .y }
/-- Table REG-3, 0x02C: 1 requests the staged values; reads 1 while pending. -/
def HDR_GO : Row := { page := 0x000, pages := 256, off := 0x02C, wid := 1, acc := .w1s, cls := .c }
/-- Table REG-3, 0x02C: 1 discards the staged values. -/
def HDR_DROP : Row := { page := 0x000, pages := 256, off := 0x02C, lo := 1, wid := 1, acc := .wo, live := true }
/-- Table REG-3, 0x02C: commits applied, modulo 65,536. -/
def HDR_COUNT : Row := { page := 0x000, pages := 256, off := 0x02C, lo := 16, wid := 16, acc := .ro, cls := .c }
/-- Table REG-6, 0x040: part number. -/
def SYS_PART : Row := { page := 0x000, off := 0x040, lo := 16, wid := 16, acc := .ro, reset := 0x6432 }
/-- Table REG-6, 0x040: Eloary family code. -/
def SYS_FAMILY : Row := { page := 0x000, off := 0x040, lo := 8, wid := 8, acc := .ro, reset := 0xE1 }
/-- Table REG-6, 0x044: base-layer revision. -/
def SYS_BASE_REV : Row := { page := 0x000, off := 0x044, lo := 8, wid := 8, acc := .ro }
/-- Table REG-6, 0x044: metal revision. -/
def SYS_METAL_REV : Row := { page := 0x000, off := 0x044, wid := 8, acc := .ro }
/-- Table REG-6, 0x048: M0 privileged, always. -/
def SYS_P_M0 : Row := { page := 0x000, off := 0x048, wid := 1, acc := .ro, reset := 1 }
/-- Table REG-6, 0x048: bit n−1 + 1: master n privileged (R58, R62). -/
def SYS_PRIV : Row := { page := 0x000, off := 0x048, lo := 1, wid := 4, acc := .rw, cls := .y, reset := 3 }
/-- Table REG-6, 0x048: locks MASTER_PRIV until POR_AON; a 0 leaves it unwritten (R69). -/
def SYS_PRIV_LOCK : Row := { page := 0x000, off := 0x048, lo := 8, wid := 1, acc := .rw1, cls := .y }
/-- Table REG-6, 0x04C: any write advances the writer's epoch (R61). -/
def SYS_SESSION : Row := { page := 0x000, off := 0x04C, wid := 32, acc := .wo, live := true }
/-- Table REG-6, 0x050: byte m: epoch of Mm, m = 0–3. -/
def SYS_EPOCH0 : Row := { page := 0x000, off := 0x050, wid := 32, acc := .ro, cls := .y }
/-- Table REG-6, 0x054: epoch of M4. -/
def SYS_EPOCH1 : Row := { page := 0x000, off := 0x054, wid := 8, acc := .ro, cls := .y }
/-- Table REG-6, 0x058: last refusal on any page or window. -/
def SYS_LR_CODE : Row := { page := 0x000, off := 0x058, wid := 8, acc := .ro, cls := .c }
/-- Table REG-6, 0x058: its master. -/
def SYS_LR_MASTER : Row := { page := 0x000, off := 0x058, lo := 8, wid := 3, acc := .ro, cls := .c }
/-- Table REG-6, 0x058: 1 for a write. -/
def SYS_LR_WR : Row := { page := 0x000, off := 0x058, lo := 11, wid := 1, acc := .ro, cls := .c }
/-- Table REG-6, 0x058: block code; 0xF0 shadow, 0xF6 Loft, 0xF7 Granary, 0xFE reserved page slot, 0xFF outside every region (R44). -/
def SYS_LR_PAGE : Row := { page := 0x000, off := 0x058, lo := 12, wid := 8, acc := .ro, cls := .c }
/-- Table REG-6, 0x058: word offset within the page or window, bits [11:2]. -/
def SYS_LR_WORD : Row := { page := 0x000, off := 0x058, lo := 20, wid := 10, acc := .ro, cls := .c }
/-- Table REG-6, 0x05C: refusals on all pages, saturating at 0xFFFF_FFFF. -/
def SYS_REFUSAL_COUNT : Row := { page := 0x000, off := 0x05C, wid := 32, acc := .ro, cls := .c }
/-- Table REG-6, 0x070: bit b: page of ordinal 32k + b defaulted. -/
def SYS_DEFAULTED_SUMMARY : Row := { page := 0x000, off := 0x070, count := 3, stride := 4, wid := 32, acc := .w1c, cls := .y, rtab := [0xFFFFFFFF, 0xFFFFFFFF, 0xFF] }
/-- Table REG-6, 0x07C: bit b: INT_PEND of ordinal 32k + b non-zero. -/
def SYS_INT_SUMMARY : Row := { page := 0x000, off := 0x07C, count := 3, stride := 4, wid := 32, acc := .ro, live := true }
/-- Table MODE-6, 0x040: mode command (R82, R84); bits [31:2] ignored. -/
def YARD_MODE_CMD : Row := { page := 0x001, off := 0x040, wid := 2, acc := .wo, live := true }
/-- Table MODE-6, 0x044: mode in force. -/
def YARD_MODE : Row := { page := 0x001, off := 0x044, wid := 2, acc := .ro, live := true }
/-- Table MODE-6, 0x044: mode of the last accepted transition. -/
def YARD_MODE_TARGET : Row := { page := 0x001, off := 0x044, lo := 2, wid := 2, acc := .ro, live := true }
/-- Table MODE-6, 0x044: transition in progress. -/
def YARD_MODE_BUSY : Row := { page := 0x001, off := 0x044, lo := 4, wid := 1, acc := .ro, live := true }
/-- Table MODE-6, 0x044: 0 command; 1 start after reset; 2 wake WC0–WC2; 3 WC4 service; 4 return after WC4; 5 sentry alarm; 6 thermal cut. -/
def YARD_MODE_CAUSE : Row := { page := 0x001, off := 0x044, lo := 5, wid := 3, acc := .ro, live := true }
/-- Table MODE-6, 0x044: master of the last accepted mode command. -/
def YARD_MODE_MASTER : Row := { page := 0x001, off := 0x044, lo := 8, wid := 3, acc := .ro, live := true }
/-- Table MODE-6, 0x048: stored NUC policy (R89); 0b11 refused. -/
def YARD_POLICY : Row := { page := 0x001, off := 0x048, wid := 2, acc := .rw, cls := .y, reset := 2 }
/-- Table MODE-6, 0x048: bit 0 LINK, bit 1 CSI2, bit 2 PVP. Its reset value is by role: 0 until the role is latched.
DESIGN CHOICE, log 5, unsafe. -/
def YARD_OUTSET : Row := { page := 0x001, off := 0x048, lo := 8, wid := 3, acc := .rw, cls := .y }
/-- Table MODE-6, 0x04C: policy in force; 0b11 none. -/
def YARD_EFF_POLICY : Row := { page := 0x001, off := 0x04C, wid := 2, acc := .ro, live := true }
/-- Table MODE-6, 0x04C: 0 as stored; 1 no local array; 2 SENTRY; 3 shutter not enabled; 4 shutter channel fault. -/
def YARD_POLICY_WHY : Row := { page := 0x001, off := 0x04C, lo := 2, wid := 3, acc := .ro, live := true }
/-- Table MODE-6, 0x04C: outputs carrying video. -/
def YARD_EFF_OUT : Row := { page := 0x001, off := 0x04C, lo := 8, wid := 3, acc := .ro, live := true }
/-- Table MODE-6, 0x04C: members without a source in the role. -/
def YARD_OUT_NA : Row := { page := 0x001, off := 0x04C, lo := 12, wid := 3, acc := .ro, live := true }
/-- Table MODE-6, 0x050: mode entered after boot and on WC0–WC2 wakes; DORMANT refused (R86). -/
def YARD_START_MODE : Row := { page := 0x001, off := 0x050, wid := 2, acc := .rw, cls := .y, reset := 2 }
/-- Table MODE-6, 0x050: 1: a sentry alarm moves SENTRY to LIVE. -/
def YARD_ALARM_LIVE : Row := { page := 0x001, off := 0x050, lo := 4, wid := 1, acc := .rw, cls := .y }
/-- Table MODE-6, 0x054: STATE_REJECT refusals on all pages, saturating at 0xFFFF_FFFF. -/
def YARD_STATE_REJECTS : Row := { page := 0x001, off := 0x054, wid := 32, acc := .ro, cls := .c }
/-- Table YARD-9, 0x058: YCLK source: 0 RC, 1 crystal (R111). -/
def YARD_SRC : Row := { page := 0x001, off := 0x058, wid := 1, acc := .rw, cls := .y }
/-- Table YARD-9, 0x058: crystal running. -/
def YARD_XTAL_OK : Row := { page := 0x001, off := 0x058, lo := 1, wid := 1, acc := .ro, live := true }
/-- Table YARD-9, 0x058: crystal lost (R144). -/
def YARD_XTAL_FAIL : Row := { page := 0x001, off := 0x058, lo := 2, wid := 1, acc := .w1c, cls := .y }
/-- Table YARD-9, 0x058: RC trim code; 0.25 % typical per code (R111). -/
def YARD_RC_TRIM : Row := { page := 0x001, off := 0x058, lo := 8, wid := 8, acc := .rw, cls := .y }
/-- Table YARD-9, 0x05C: Yard seconds (R112). -/
def YARD_SECONDS : Row := { page := 0x001, off := 0x05C, wid := 32, acc := .ro, cls := .y }
/-- Table YARD-9, 0x060: YCLK cycles within the second. -/
def YARD_SUBSEC : Row := { page := 0x001, off := 0x060, wid := 15, acc := .ro, cls := .y }
/-- Table YARD-9, 0x064: drain limit in µs; 0 refused. -/
def YARD_DRAIN_LIMIT : Row := { page := 0x001, off := 0x064, wid := 16, acc := .rw, cls := .y, reset := 0xC8 }
/-- Table YARD-9, 0x068: budget of WCn in µs; 0 refused while EN = 1. -/
def YARD_BUDGET : Row := { page := 0x001, off := 0x068, count := 5, stride := 4, wid := 24, acc := .rw, cls := .y, reset := 0xF4240 }
/-- Table YARD-9, 0x068: budget of WCn enforced. -/
def YARD_BUDGET_EN : Row := { page := 0x001, off := 0x068, count := 5, stride := 4, lo := 31, wid := 1, acc := .rw, cls := .y }
/-- Table YARD-9, 0x07C: deepest state allowed (R122). -/
def YARD_ALLOWED : Row := { page := 0x001, off := 0x07C, wid := 3, acc := .ro, live := true }
/-- Table YARD-9, 0x07C: limiting class; 0b111 none. -/
def YARD_LIMIT_WC : Row := { page := 0x001, off := 0x07C, lo := 4, wid := 3, acc := .ro, live := true }
/-- Table YARD-9, 0x07C: R136. -/
def YARD_UNMEETABLE : Row := { page := 0x001, off := 0x07C, lo := 8, wid := 1, acc := .ro, live := true }
/-- Table YARD-9, 0x07C: R123. -/
def YARD_L4_BLOCKED : Row := { page := 0x001, off := 0x07C, lo := 9, wid := 1, acc := .ro, cls := .y }
/-- Table YARD-9, 0x07C: state left at the last exit. -/
def YARD_LAST_STATE : Row := { page := 0x001, off := 0x07C, lo := 12, wid := 3, acc := .ro, cls := .y }
/-- Table YARD-9, 0x07C: band at that wake. -/
def YARD_LAST_BAND : Row := { page := 0x001, off := 0x07C, lo := 16, wid := 3, acc := .ro, cls := .y }
/-- Table YARD-9, 0x080: bit n: a wake of WCn was served by an exit since the bit was last cleared (R139). -/
def YARD_WAKE_CAUSE : Row := { page := 0x001, off := 0x080, wid := 5, acc := .w1c, cls := .y }
/-- Table YARD-9, 0x080: slot of the last WC4 served by an exit (R139). -/
def YARD_SLOT : Row := { page := 0x001, off := 0x080, lo := 8, wid := 3, acc := .ro, cls := .y }
/-- Table YARD-9, 0x084: last measured exit, µs. -/
def YARD_EXIT_LAST : Row := { page := 0x001, off := 0x084, wid := 24, acc := .ro, cls := .y }
/-- Table YARD-9, 0x088: R126. -/
def YARD_RESEED : Row := { page := 0x001, off := 0x088, wid := 1, acc := .wo, live := true }
/-- Table YARD-9, 0x088: file measurements. -/
def YARD_LEARN_EN : Row := { page := 0x001, off := 0x088, lo := 1, wid := 1, acc := .rw, cls := .y, reset := 1 }
/-- Table YARD-9, 0x090: exit time in force, µs (R125). -/
def YARD_EXIT : Row := { page := 0x001, off := 0x090, count := 20, stride := 4, wid := 24, acc := .ro, cls := .y }
/-- Table YARD-9, 0x090: measurements held, 0–8. -/
def YARD_SAMPLES : Row := { page := 0x001, off := 0x090, count := 20, stride := 4, lo := 24, wid := 4, acc := .ro, cls := .y }
/-- Table YARD-9, 0x0E4: 0 OFF, 1 OPENING, 2 ON, 3 CLOSING. -/
def YARD_PD_STATE : Row := { page := 0x001, off := 0x0E4, wid := 18, acc := .ro, live := true, reset := 1 }
/-- Table YARD-9, 0x0E4: R145. -/
def YARD_PD_FAULT : Row := { page := 0x001, off := 0x0E4, lo := 24, wid := 8, acc := .w1c, cls := .y }
/-- Table YARD-9, 0x0E8: R145, for PD_SOL. -/
def YARD_PD_FAULT8 : Row := { page := 0x001, off := 0x0E8, wid := 1, acc := .w1c, cls := .y }
/-- Table YARD-9, 0x0EC: items dropped, saturating. -/
def YARD_DRAIN_DROP : Row := { page := 0x001, off := 0x0EC, count := 9, stride := 4, wid := 32, acc := .ro, cls := .y }
/-- Table YARD-9, 0x110: bit d clears DRAIN_DROPd. -/
def YARD_DRAIN_CLR : Row := { page := 0x001, off := 0x110, wid := 9, acc := .wo, live := true }
/-- Table YARD-9, 0x114: slot match, seconds. -/
def YARD_MATCH_SEC : Row := { page := 0x001, off := 0x114, count := 8, stride := 8, wid := 32, acc := .rw, cls := .y }
/-- Table YARD-9, 0x118: slot match, YCLK cycles. -/
def YARD_MATCH_TICK : Row := { page := 0x001, off := 0x118, count := 8, stride := 8, wid := 15, acc := .rw, cls := .y }
/-- Table YARD-9, 0x118: SERVICE hold after a WC4 wake, s (R114). -/
def YARD_HOLD_S : Row := { page := 0x001, off := 0x118, count := 8, stride := 8, lo := 16, wid := 8, acc := .rw, cls := .y }
/-- Table YARD-9, 0x118: master that armed the slot. -/
def YARD_HOLDER : Row := { page := 0x001, off := 0x118, count := 8, stride := 8, lo := 24, wid := 3, acc := .ro, cls := .y }
/-- Table YARD-9, 0x118: slot armed (R115). -/
def YARD_ARMED : Row := { page := 0x001, off := 0x118, count := 8, stride := 8, lo := 31, wid := 1, acc := .rw, cls := .y }
/-- Table YARD-10, 0x040: bit per Table YARD-5: request held. -/
def CLK_REQ : Row := { page := 0x002, off := 0x040, wid := 9, acc := .ro, live := true }
/-- Table YARD-10, 0x044: bit per Table YARD-5: clock granted. -/
def CLK_GRANT : Row := { page := 0x002, off := 0x044, wid := 9, acc := .ro, live := true }
/-- Table YARD-10, 0x048: hold request (R129). -/
def CLK_KEEP : Row := { page := 0x002, off := 0x048, wid := 9, acc := .rw, cls := .c }
/-- Table RST-8, 0x064: bit per Table RST-1 (R149). -/
def SYS_RESET_CAUSE : Row := { page := 0x000, off := 0x064, wid := 6, acc := .w1c, cls := .y, reset := 1 }
/-- Table RST-8, 0x064: a boot followed a DORMANT exit. -/
def SYS_DORMANT_EXIT : Row := { page := 0x000, off := 0x064, lo := 6, wid := 1, acc := .w1c, cls := .y }
/-- Table RST-8, 0x064: strongest kind since the last boot began; 6 DORMANT exit. -/
def SYS_RESET_LAST : Row := { page := 0x000, off := 0x064, lo := 8, wid := 3, acc := .ro, cls := .y }
/-- Table RST-8, 0x064: boots since POR_AON, saturating. -/
def SYS_RESET_COUNT : Row := { page := 0x000, off := 0x064, lo := 16, wid := 8, acc := .ro, cls := .y, reset := 1 }
/-- Table RST-8, 0x064: last DORMANT entry was a thermal cut (R176). -/
def SYS_RESET_THERMAL : Row := { page := 0x000, off := 0x064, lo := 24, wid := 1, acc := .w1c, cls := .y }
/-- Table RST-8, 0x068: 0x5A starts SOFT; other values refused (R151). -/
def SYS_RESET_KEY : Row := { page := 0x000, off := 0x068, wid := 8, acc := .wo, live := true }
/-- Table RST-8, 0x068: 1 re-applies the BOOT image. -/
def SYS_RESET_IMAGE : Row := { page := 0x000, off := 0x068, lo := 8, wid := 1, acc := .wo, live := true }
/-- Table RST-9, 0x040: boot step: 0 none or done, 1 Granary completion, 2 factory, 3 image, 4 trims, 5 shadow, 6 Loft. -/
def SEQ_BOOT_PHASE : Row := { page := 0x00B, off := 0x040, wid := 3, acc := .ro, cls := .c }
/-- Table RST-9, 0x040: boot ended (R157). -/
def SEQ_BOOT_DONE : Row := { page := 0x00B, off := 0x040, lo := 4, wid := 1, acc := .ro, cls := .c }
/-- Table RST-9, 0x040: 0 none valid, 1 copy 0, 2 copy 1, 3 skipped (R172). -/
def SEQ_IMG_COPY : Row := { page := 0x00B, off := 0x040, lo := 5, wid := 2, acc := .ro, cls := .c }
/-- Table RST-9, 0x040: 0 kept, 1 SHADOW_A, 2 SHADOW_B, 3 none valid. -/
def SEQ_SHADOW_SRC : Row := { page := 0x00B, off := 0x040, lo := 7, wid := 2, acc := .ro, cls := .c }
/-- Table RST-9, 0x040: 0 kept, 1 FIELD_A, 2 FIELD_B, 3 FACTORY, 4 identity, 5 no Loft in role. -/
def SEQ_LOFT_SRC : Row := { page := 0x00B, off := 0x040, lo := 9, wid := 3, acc := .ro, cls := .c }
/-- Table RST-9, 0x040: 0 none, 1 erase redone, 2 record discarded, 3 copy rolled back. -/
def SEQ_GRAN_FIX : Row := { page := 0x00B, off := 0x040, lo := 12, wid := 2, acc := .ro, cls := .c }
/-- Table RST-9, 0x040: channels restored from RECORDS, 0–34. -/
def SEQ_TRIMS : Row := { page := 0x00B, off := 0x040, lo := 16, wid := 8, acc := .ro, cls := .c }
/-- Table RST-9, 0x040: consecutive stalled boots (R172). -/
def SEQ_STALLS : Row := { page := 0x00B, off := 0x040, lo := 24, wid := 4, acc := .ro, cls := .y }
/-- Table RST-9, 0x044: µs from internal reset release to DONE. -/
def SEQ_BOOT_TIME : Row := { page := 0x00B, off := 0x044, wid := 24, acc := .ro, cls := .c }
/-- Table FPA-6, 0x040: 0 = 320, 1 = 384, 2 = 640; 3 refused. -/
def FPA_WIDTH : Row := { page := 0x010, off := 0x040, wid := 2, acc := .rws, cls := .c, reset := 2 }
/-- Table FPA-6, 0x040: 0 = 240, 1 = 256, 2 = 288, 3 = 480, 4 = 512; 5–7 refused. -/
def FPA_HEIGHT : Row := { page := 0x010, off := 0x040, lo := 4, wid := 3, acc := .rws, cls := .c, reset := 4 }
/-- Table FPA-6, 0x040: R183. -/
def FPA_MAP : Row := { page := 0x010, off := 0x040, lo := 8, wid := 1, acc := .rws, cls := .c }
/-- Table FPA-6, 0x044: Table FPA-1; 0 refused. -/
def FPA_ROW_PERIOD : Row := { page := 0x010, off := 0x044, wid := 16, acc := .rws, cls := .c, reset := 0x4EE }
/-- Table FPA-6, 0x048: Table FPA-1; 0 refused. -/
def FPA_FRAME_PERIOD : Row := { page := 0x010, off := 0x048, wid := 24, acc := .rws, cls := .c, reset := 0xA2C2B }
/-- Table FPA-6, 0x04C: Table FPA-1. -/
def FPA_ROW_RST_W : Row := { page := 0x010, off := 0x04C, wid := 8, acc := .rws, cls := .c, reset := 0x14 }
/-- Table FPA-6, 0x04C: Table FPA-1. -/
def FPA_COL_START : Row := { page := 0x010, off := 0x04C, lo := 8, wid := 8, acc := .rws, cls := .c, reset := 0x10 }
/-- Table FPA-6, 0x050: Table FPA-1. -/
def FPA_INT_START : Row := { page := 0x010, off := 0x050, wid := 12, acc := .rws, cls := .c, reset := 0x28 }
/-- Table FPA-6, 0x050: Table FPA-1. -/
def FPA_INT_LEN : Row := { page := 0x010, off := 0x050, lo := 16, wid := 16, acc := .rws, cls := .c, reset := 0x3E8 }
/-- Table FPA-6, 0x054: Table FPA-1. -/
def FPA_COL_PERIOD : Row := { page := 0x010, off := 0x054, wid := 12, acc := .rws, cls := .c, reset := 0x3E }
/-- Table FPA-6, 0x058: frame period in force, cycles (R188). -/
def FPA_FRAME_EFF : Row := { page := 0x010, off := 0x058, wid := 25, acc := .ro, live := true }
/-- Table FPA-6, 0x05C: row index in progress. -/
def FPA_ROW_NOW : Row := { page := 0x010, off := 0x05C, wid := 10, acc := .ro, live := true }
/-- Table FPA-6, 0x060: diode readout enabled (R197). -/
def FPA_EN : Row := { page := 0x010, off := 0x060, wid := 1, acc := .rw, cls := .c, reset := 1 }
/-- Table FPA-6, 0x060: R205. -/
def FPA_TFPA_BAD : Row := { page := 0x010, off := 0x060, lo := 1, wid := 1, acc := .ro, cls := .c }
/-- Table FPA-6, 0x064: diode ΔVBE, 10 µV units. -/
def FPA_DIODE_DVBE : Row := { page := 0x010, off := 0x064, wid := 16, acc := .ro, cls := .c }
/-- Table FPA-7, 0x040: bias ramp, ms; 0 steps at once. -/
def BIAS_RAMP_MS : Row := { page := 0x011, off := 0x040, wid := 8, acc := .rw, cls := .c, reset := 0xA }
/-- Table FPA-7, 0x044: R194. -/
def BIAS_OVR : Row := { page := 0x011, off := 0x044, wid := 1, acc := .rws, cls := .c }
/-- Table FPA-7, 0x048: override code. -/
def BIAS_VDET_OVR : Row := { page := 0x011, off := 0x048, wid := 16, acc := .rws, cls := .c, reset := 0xAAAB }
/-- Table FPA-7, 0x048: override code. -/
def BIAS_VBLIND_OVR : Row := { page := 0x011, off := 0x048, lo := 16, wid := 16, acc := .rws, cls := .c, reset := 0x9C72 }
/-- Table FPA-7, 0x04C: override code. -/
def BIAS_VSKIM_OVR : Row := { page := 0x011, off := 0x04C, wid := 16, acc := .rws, cls := .c, reset := 0x8000 }
/-- Table FPA-7, 0x04C: override code. -/
def BIAS_VCM_OVR : Row := { page := 0x011, off := 0x04C, lo := 16, wid := 16, acc := .rws, cls := .c, reset := 0x8000 }
/-- Table FPA-7, 0x050: input trim (R193). -/
def BIAS_TRIM : Row := { page := 0x011, off := 0x050, count := 32, stride := 4, wid := 12, acc := .rws, cls := .c, reset := 0x800 }
/-- Table FPA-7, 0x0D0: VDET code at this instant. -/
def BIAS_VDET_NOW : Row := { page := 0x011, off := 0x0D0, wid := 16, acc := .ro, live := true }
/-- Table FPA-7, 0x0D4: overload: bit 0 VDET, 1 VBLIND, 2 VSKIM, 3 VCM. -/
def BIAS_OVL : Row := { page := 0x011, off := 0x0D4, wid := 4, acc := .w1c, cls := .c }
/-- Table FPA-7, 0x0D8: R204. -/
def BIAS_FAULT_CLR : Row := { page := 0x011, off := 0x0D8, wid := 1, acc := .wo, live := true }
/-- Table FPA-8, 0x040: R190, R191. -/
def BAND_VDET_ON : Row := { page := 0x012, off := 0x040, ocount := 5, ostride := 0x100, wid := 16, acc := .rws, cls := .c, rtab := [45511, 44419, 43691, 42598, 41506] }
/-- Table FPA-8, 0x040: R191. -/
def BAND_VDET_IDLE : Row := { page := 0x012, off := 0x040, ocount := 5, ostride := 0x100, lo := 16, wid := 16, acc := .rws, cls := .c, reset := 0x5555 }
/-- Table FPA-8, 0x044: R190. -/
def BAND_VBLIND : Row := { page := 0x012, off := 0x044, ocount := 5, ostride := 0x100, wid := 16, acc := .rws, cls := .c, reset := 0x9C72 }
/-- Table FPA-8, 0x044: R190. -/
def BAND_VSKIM : Row := { page := 0x012, off := 0x044, ocount := 5, ostride := 0x100, lo := 16, wid := 16, acc := .rws, cls := .c, reset := 0x8000 }
/-- Table FPA-8, 0x048: R190. -/
def BAND_VCM : Row := { page := 0x012, off := 0x048, ocount := 5, ostride := 0x100, wid := 16, acc := .rws, cls := .c, reset := 0x8000 }
/-- Table FPA-8, 0x048: 8–255 cycles (R189). -/
def BAND_SETTLE : Row := { page := 0x012, off := 0x048, ocount := 5, ostride := 0x100, lo := 16, wid := 8, acc := .rws, cls := .c, rtab := [46, 44, 42, 44, 46] }
/-- Table FPA-8, 0x04C: cycles (R191). -/
def BAND_RISE : Row := { page := 0x012, off := 0x04C, ocount := 5, ostride := 0x100, wid := 8, acc := .rws, cls := .c, reset := 0x28 }
/-- Table FPA-8, 0x04C: cycles (R191). -/
def BAND_FALL : Row := { page := 0x012, off := 0x04C, ocount := 5, ostride := 0x100, lo := 8, wid := 8, acc := .rws, cls := .c, reset := 0x28 }
/-- Table FPA-8, 0x050: signed delta codes (R191). -/
def BAND_SHAPE : Row := { page := 0x012, off := 0x050, count := 32, stride := 4, ocount := 5, ostride := 0x100, wid := 16, acc := .rws, cls := .c }
/-- Table FPA-8, 0x540: band set in force (R196); the B2 set after a reset that loses class C (Table REG-2A). -/
def BAND_BAND_NOW : Row := { page := 0x012, off := 0x540, wid := 3, acc := .ro, live := true, reset := 2 }
/-- Table CH-2, 0x040: offset trim in force (R217). -/
def CH_OFS_TRIM : Row := { page := 0x020, pages := 34, off := 0x040, wid := 10, acc := .ro, cls := .c }
/-- Table CH-2, 0x040: gain trim in force (R217). -/
def CH_GAIN_TRIM : Row := { page := 0x020, pages := 34, off := 0x040, lo := 16, wid := 10, acc := .ro, cls := .c }
/-- Table CH-2, 0x040: comparator in force. -/
def CH_CMP_SEL : Row := { page := 0x020, pages := 34, off := 0x040, lo := 28, wid := 2, acc := .ro, cls := .c }
/-- Table CH-2, 0x044: byte i: rms noise of Ci at the last choice, 1/16 LSB. -/
def CH_CMP_NOISE : Row := { page := 0x020, pages := 34, off := 0x044, wid := 32, acc := .ro, cls := .c }
/-- Table CH-2, 0x048: temperature now, signed, 1/16 °C. -/
def CH_TCH : Row := { page := 0x020, pages := 34, off := 0x048, wid := 16, acc := .ro, live := true }
/-- Table CH-2, 0x04C: temperature at the last accepted run. -/
def CH_TCH_REF : Row := { page := 0x020, pages := 34, off := 0x04C, wid := 16, acc := .ro, cls := .c }
/-- Table CH-2, 0x050: accepted calibrations, saturating. -/
def CH_CAL_COUNT : Row := { page := 0x020, pages := 34, off := 0x050, wid := 16, acc := .ro, cls := .c }
/-- Table CH-2, 0x054: Yard seconds of the last acceptance. -/
def CH_CAL_LAST_S : Row := { page := 0x020, pages := 34, off := 0x054, wid := 32, acc := .ro, cls := .c }
/-- Table CH-2, 0x058: 0 in service or idle; 1 overlap; 2 calibrating; 3 awaiting handback; 4 parked (channel) or holding (spare); 5 failed; 6 retry wait. -/
def CH_STATE : Row := { page := 0x020, pages := 34, off := 0x058, wid := 3, acc := .ro, cls := .c }
/-- Table CH-2, 0x058: R213. -/
def CH_DUE : Row := { page := 0x020, pages := 34, off := 0x058, lo := 4, wid := 1, acc := .ro, cls := .c }
/-- Table CH-2, 0x058: R219. -/
def CH_HELD : Row := { page := 0x020, pages := 34, off := 0x058, lo := 5, wid := 1, acc := .ro, cls := .c }
/-- Table CH-2, 0x058: R222. -/
def CH_UNSAVED : Row := { page := 0x020, pages := 34, off := 0x058, lo := 6, wid := 1, acc := .ro, cls := .c }
/-- Table CH-2, 0x058: spares only (R235). -/
def CH_SUSPECT : Row := { page := 0x020, pages := 34, off := 0x058, lo := 7, wid := 1, acc := .ro, cls := .c }
/-- Table CH-2, 0x058: consecutive disagreements, saturating at 7. -/
def CH_DISAGREE : Row := { page := 0x020, pages := 34, off := 0x058, lo := 8, wid := 3, acc := .ro, cls := .c }
/-- Table CH-2, 0x058: spares only: instance carried; 0xFF none. -/
def CH_HOLDS : Row := { page := 0x020, pages := 34, off := 0x058, lo := 16, wid := 8, acc := .ro, cls := .c, reset := 0xFF }
/-- Table CH-2, 0x05C: spares only: signed, 1/8 LSB (R211). -/
def CH_MATCH_OFS : Row := { page := 0x020, pages := 34, off := 0x05C, wid := 11, acc := .ro, cls := .c }
/-- Table CH-3, 0x040: 1/16 K; 0 refused. -/
def CHCAL_TEMP_DELTA : Row := { page := 0x048, off := 0x040, wid := 10, acc := .rw, cls := .c, reset := 0x40 }
/-- Table CH-3, 0x044: 1/8 LSB (R218). -/
def CHCAL_AGREE_OFS : Row := { page := 0x048, off := 0x044, wid := 8, acc := .rw, cls := .c, reset := 0x18 }
/-- Table CH-3, 0x044: 0.002 % (R218). -/
def CHCAL_AGREE_GAIN : Row := { page := 0x048, off := 0x044, lo := 8, wid := 8, acc := .rw, cls := .c, reset := 0x19 }
/-- Table CH-3, 0x048: 1/16 LSB rms (R216, R228). -/
def CHCAL_NOISE_MAX : Row := { page := 0x048, off := 0x048, wid := 8, acc := .rw, cls := .c, reset := 0x18 }
/-- Table CH-3, 0x04C: ms (R225). -/
def CHCAL_DEFER_MAX : Row := { page := 0x048, off := 0x04C, wid := 16, acc := .rw, cls := .c, reset := 0x3E8 }
/-- Table CH-3, 0x050: array frames (R219). -/
def CHCAL_RETRY_FRAMES : Row := { page := 0x048, off := 0x050, wid := 16, acc := .rw, cls := .c, reset := 0x3C }
/-- Table CH-3, 0x054: 0 never holds (R219). -/
def CHCAL_DISAGREE_MAX : Row := { page := 0x048, off := 0x054, wid := 3, acc := .rw, cls := .c, reset := 3 }
/-- Table CH-3, 0x054: LSB (R235). -/
def CHCAL_MATCH_LIMIT : Row := { page := 0x048, off := 0x054, lo := 8, wid := 7, acc := .rw, cls := .c, reset := 0x10 }
/-- Table CH-3, 0x058: bit n: commanded calibration of CHnn (R214). -/
def CHCAL_REQ0 : Row := { page := 0x048, off := 0x058, wid := 32, acc := .w1s, cls := .c }
/-- Table CH-3, 0x05C: bit 0 SPA, bit 1 SPB. -/
def CHCAL_REQ1 : Row := { page := 0x048, off := 0x05C, wid := 2, acc := .w1s, cls := .c }
/-- Table CH-3, 0x060: bit n: CHnn request dropped (R225). -/
def CHCAL_REFUSED0 : Row := { page := 0x048, off := 0x060, wid := 32, acc := .w1c, cls := .c }
/-- Table CH-3, 0x064: bit 0 SPA, bit 1 SPB. -/
def CHCAL_REFUSED1 : Row := { page := 0x048, off := 0x064, wid := 2, acc := .w1c, cls := .c }
/-- Table CH-3, 0x068: instance calibrating with SPA; 0xFF none. -/
def CHCAL_SLOT_A : Row := { page := 0x048, off := 0x068, wid := 8, acc := .ro, cls := .c, reset := 0xFF }
/-- Table CH-3, 0x068: instance calibrating with SPB; 0xFF none. -/
def CHCAL_SLOT_B : Row := { page := 0x048, off := 0x068, lo := 8, wid := 8, acc := .ro, cls := .c, reset := 0xFF }
/-- Table CH-3, 0x06C: accepted calibrations, all converters, saturating. -/
def CHCAL_ACCEPTED : Row := { page := 0x048, off := 0x06C, wid := 16, acc := .ro, cls := .c }
/-- Table CH-3, 0x06C: disagreements, all converters, saturating. -/
def CHCAL_DISAGREED : Row := { page := 0x048, off := 0x06C, lo := 16, wid := 16, acc := .ro, cls := .c }
/-- Table MILL-10, 0x040: stage 1. -/
def MILL_BLIND_EN : Row := { page := 0x050, off := 0x040, wid := 1, acc := .rws, cls := .c, reset := 1 }
/-- Table MILL-10, 0x040: stage 2. -/
def MILL_OG_EN : Row := { page := 0x050, off := 0x040, lo := 1, wid := 1, acc := .rws, cls := .c, reset := 1 }
/-- Table MILL-10, 0x040: stage 3. -/
def MILL_DRIFT_EN : Row := { page := 0x050, off := 0x040, lo := 2, wid := 1, acc := .rws, cls := .c, reset := 1 }
/-- Table MILL-10, 0x040: stage 4. -/
def MILL_BAD_EN : Row := { page := 0x050, off := 0x040, lo := 3, wid := 1, acc := .rws, cls := .c, reset := 1 }
/-- Table MILL-10, 0x040: stage 5. -/
def MILL_CN_EN : Row := { page := 0x050, off := 0x040, lo := 4, wid := 1, acc := .rws, cls := .c, reset := 1 }
/-- Table MILL-10, 0x040: stage 6 (R261). -/
def MILL_TF_EN : Row := { page := 0x050, off := 0x040, lo := 5, wid := 1, acc := .rws, cls := .c }
/-- Table MILL-10, 0x040: R245. -/
def MILL_CLIP_BAD : Row := { page := 0x050, off := 0x040, lo := 6, wid := 1, acc := .rws, cls := .c, reset := 1 }
/-- Table MILL-10, 0x040: 0 RAW16, 1 RAW14. -/
def MILL_OUT_FMT : Row := { page := 0x050, off := 0x040, lo := 8, wid := 1, acc := .rws, cls := .c }
/-- Table MILL-10, 0x040: R250. -/
def MILL_SHIFT14 : Row := { page := 0x050, off := 0x040, lo := 9, wid := 2, acc := .rws, cls := .c, reset := 2 }
/-- Table MILL-10, 0x044: LSB (R246). -/
def MILL_CN_THRESH : Row := { page := 0x050, off := 0x044, wid := 12, acc := .rws, cls := .c, reset := 0x40 }
/-- Table MILL-10, 0x044: R246. -/
def MILL_CN_SHIFT : Row := { page := 0x050, off := 0x044, lo := 12, wid := 4, acc := .rws, cls := .c, reset := 4 }
/-- Table MILL-10, 0x044: LSB (R246). -/
def MILL_CN_LIMIT : Row := { page := 0x050, off := 0x044, lo := 16, wid := 12, acc := .rws, cls := .c, reset := 0x200 }
/-- Table MILL-10, 0x048: R247. -/
def MILL_TF_SHIFT : Row := { page := 0x050, off := 0x048, wid := 4, acc := .rws, cls := .c, reset := 2 }
/-- Table MILL-10, 0x048: LSB (R247). -/
def MILL_TF_THRESH : Row := { page := 0x050, off := 0x048, lo := 16, wid := 12, acc := .rws, cls := .c, reset := 0x20 }
/-- Table MILL-10, 0x04C: µs (R254). -/
def MILL_LOFT_DEFER : Row := { page := 0x050, off := 0x04C, wid := 16, acc := .rw, cls := .c, reset := 0x14 }
/-- Table MILL-10, 0x050: bank in force: 0 A, 1 B. -/
def MILL_ACTIVE : Row := { page := 0x050, off := 0x050, wid := 1, acc := .ro, cls := .c }
/-- Table MILL-10, 0x050: R253. -/
def MILL_COMPLETE_A : Row := { page := 0x050, off := 0x050, lo := 1, wid := 1, acc := .ro, cls := .c }
/-- Table MILL-10, 0x050: R253. -/
def MILL_COMPLETE_B : Row := { page := 0x050, off := 0x050, lo := 2, wid := 1, acc := .ro, cls := .c }
/-- Table MILL-10, 0x050: R253. -/
def MILL_FILLING : Row := { page := 0x050, off := 0x050, lo := 3, wid := 1, acc := .ro, cls := .c }
/-- Table MILL-10, 0x050: R253, R260. -/
def MILL_SWITCH_PEND : Row := { page := 0x050, off := 0x050, lo := 4, wid := 1, acc := .ro, cls := .c }
/-- Table MILL-10, 0x050: R261. -/
def MILL_TF_STORE : Row := { page := 0x050, off := 0x050, lo := 5, wid := 1, acc := .ro, cls := .c }
/-- Table MILL-10, 0x050: R253. -/
def MILL_CHECKING : Row := { page := 0x050, off := 0x050, lo := 6, wid := 1, acc := .ro, live := true }
/-- Table MILL-10, 0x054: R253. -/
def MILL_BC_FILL_START : Row := { page := 0x050, off := 0x054, wid := 1, acc := .wo, live := true }
/-- Table MILL-10, 0x054: R253. -/
def MILL_BC_FILL_END : Row := { page := 0x050, off := 0x054, lo := 1, wid := 1, acc := .wo, live := true }
/-- Table MILL-10, 0x054: R253. -/
def MILL_BC_SWITCH : Row := { page := 0x050, off := 0x054, lo := 2, wid := 1, acc := .wo, live := true }
/-- Table MILL-10, 0x054: R253. -/
def MILL_BC_FILL_ABORT : Row := { page := 0x050, off := 0x054, lo := 3, wid := 1, acc := .wo, live := true }
/-- Table MILL-10, 0x054: R253. -/
def MILL_BC_LOAD : Row := { page := 0x050, off := 0x054, lo := 4, wid := 1, acc := .wo, live := true }
/-- Table MILL-10, 0x054: 0 newer FIELD copy, 1 FACTORY. -/
def MILL_BC_LOAD_SRC : Row := { page := 0x050, off := 0x054, lo := 5, wid := 1, acc := .wo, live := true }
/-- Table MILL-10, 0x058: expected CRC-32. -/
def MILL_FILL_CRC : Row := { page := 0x050, off := 0x058, wid := 32, acc := .rw, cls := .c }
/-- Table MILL-10, 0x05C: signed 1/16 °C (R253, R255). -/
def MILL_TREF_A : Row := { page := 0x050, off := 0x05C, wid := 16, acc := .rw, cls := .c }
/-- Table MILL-10, 0x060: signed 1/16 °C (R253, R255). -/
def MILL_TREF_B : Row := { page := 0x050, off := 0x060, wid := 16, acc := .rw, cls := .c }
/-- Table MILL-10, 0x064: 0 none or aborted, 1 pass, 2 CRC fail, 3 orphaned or no source. -/
def MILL_RESULT : Row := { page := 0x050, off := 0x064, wid := 2, acc := .ro, cls := .c }
/-- Table MILL-10, 0x068: computed CRC-32. -/
def MILL_CRC_CALC : Row := { page := 0x050, off := 0x068, wid := 32, acc := .ro, cls := .c }
/-- Table MILL-10, 0x070: last frame. -/
def MILL_REPLACED : Row := { page := 0x050, off := 0x070, wid := 16, acc := .ro, cls := .v }
/-- Table MILL-10, 0x070: last frame. -/
def MILL_UNREPAIRABLE : Row := { page := 0x050, off := 0x070, lo := 16, wid := 16, acc := .ro, cls := .v }
/-- Table MILL-10, 0x074: last frame. -/
def MILL_CLIPPED : Row := { page := 0x050, off := 0x074, wid := 16, acc := .ro, cls := .v }
/-- Table MILL-10, 0x074: last frame (R264). -/
def MILL_LOFT_PAR : Row := { page := 0x050, off := 0x074, lo := 16, wid := 16, acc := .ro, cls := .v }
/-- Table MILL-10, 0x078: rows, saturating (R265). -/
def MILL_INPUT_LOSS : Row := { page := 0x050, off := 0x078, wid := 32, acc := .ro, cls := .c }
/-- Table MILL-10, 0x07C: counter of the frame in progress (R252). -/
def MILL_FRAME_COUNT : Row := { page := 0x050, off := 0x07C, wid := 32, acc := .ro, cls := .c }
/-- Table MILL-10, 0x080: column correction, signed 1/16 LSB. -/
def MILL_CN : Row := { page := 0x050, off := 0x080, count := 640, stride := 4, wid := 24, acc := .ro, cls := .c }
/-- Table MILL-11, 0x040: X in force, signed 1/16 K (R248). -/
def DRIFT_DT_NOW : Row := { page := 0x051, off := 0x040, wid := 16, acc := .ro, live := true }
/-- Table MILL-11, 0x040: X clamped. -/
def DRIFT_DT_CLAMP : Row := { page := 0x051, off := 0x040, lo := 16, wid := 1, acc := .ro, live := true }
/-- Table MILL-11, 0x080: D[k] in force, signed 1/16 LSB. -/
def DRIFT_DNOW : Row := { page := 0x051, off := 0x080, count := 32, stride := 4, wid := 24, acc := .ro, live := true }
/-- Table MILL-11, 0x100: drift coefficient (Table MILL-5, R249). -/
def DRIFT_C : Row := { page := 0x051, off := 0x100, count := 640, stride := 4, wid := 32, acc := .rws, cls := .c }
/-- Table NUC-4, 0x040: host veto (R280). -/
def NUC_VETO : Row := { page := 0x052, off := 0x040, wid := 1, acc := .rw, cls := .c }
/-- Table NUC-4, 0x040: VETO pin counts. -/
def NUC_VETO_PIN_EN : Row := { page := 0x052, off := 0x040, lo := 1, wid := 1, acc := .rw, cls := .c, reset := 1 }
/-- Table NUC-4, 0x040: R279. -/
def NUC_SAVE_EN : Row := { page := 0x052, off := 0x040, lo := 2, wid := 1, acc := .rw, cls := .c }
/-- Table NUC-4, 0x044: s; 0 refused. -/
def NUC_DEFER_MAX : Row := { page := 0x052, off := 0x044, wid := 12, acc := .rw, cls := .c, reset := 0x1E }
/-- Table NUC-4, 0x048: s; 0 none (Table NUC-1). -/
def NUC_PERIOD_S : Row := { page := 0x052, off := 0x048, wid := 16, acc := .rw, cls := .c, reset := 0xB4 }
/-- Table NUC-4, 0x04C: 1/16 K; 0 none. -/
def NUC_DT_REF : Row := { page := 0x052, off := 0x04C, wid := 10, acc := .rw, cls := .c, reset := 0x20 }
/-- Table NUC-4, 0x050: HYBRID trigger. -/
def NUC_CONF_REF : Row := { page := 0x052, off := 0x050, wid := 8, acc := .rw, cls := .c, reset := 0x80 }
/-- Table NUC-4, 0x050: R269. -/
def NUC_CONF_FLOOR : Row := { page := 0x052, off := 0x050, lo := 8, wid := 8, acc := .rw, cls := .c, reset := 0x20 }
/-- Table NUC-4, 0x050: R292. -/
def NUC_CONF_BOOT : Row := { page := 0x052, off := 0x050, lo := 16, wid := 8, acc := .rw, cls := .c, reset := 0x60 }
/-- Table NUC-4, 0x054: 1/16 count per minute. -/
def NUC_DECAY_T : Row := { page := 0x052, off := 0x054, wid := 8, acc := .rw, cls := .c, reset := 0x10 }
/-- Table NUC-4, 0x054: counts per K. -/
def NUC_DECAY_K : Row := { page := 0x052, off := 0x054, lo := 8, wid := 8, acc := .rw, cls := .c, reset := 0x18 }
/-- Table NUC-4, 0x058: R277. -/
def NUC_UPD_SHIFT : Row := { page := 0x052, off := 0x058, wid := 2, acc := .rw, cls := .c }
/-- Table NUC-4, 0x058: LSB. -/
def NUC_E_MAX : Row := { page := 0x052, off := 0x058, lo := 16, wid := 12, acc := .rw, cls := .c, reset := 0x100 }
/-- Table NUC-4, 0x05C: pixels (R278). -/
def NUC_OUTLIER_MAX : Row := { page := 0x052, off := 0x05C, wid := 16, acc := .rw, cls := .c, reset := 0x800 }
/-- Table NUC-4, 0x060: s. -/
def NUC_SAVE_MIN_S : Row := { page := 0x052, off := 0x060, wid := 16, acc := .rw, cls := .c, reset := 0xE10 }
/-- Table NUC-4, 0x064: commanded closure (R271). -/
def NUC_CLOSE : Row := { page := 0x052, off := 0x064, wid := 1, acc := .wo, live := true }
/-- Table NUC-4, 0x064: with CLOSE in SERVICE: ignore veto. -/
def NUC_FORCE : Row := { page := 0x052, off := 0x064, lo := 1, wid := 1, acc := .wo, live := true }
/-- Table NUC-4, 0x068: 0 idle, 1 deferred, 2 closing, 3 measuring, 4 opening. -/
def NUC_STATE : Row := { page := 0x052, off := 0x068, wid := 3, acc := .ro, cls := .c }
/-- Table NUC-4, 0x068: R270. -/
def NUC_DUE : Row := { page := 0x052, off := 0x068, lo := 4, wid := 1, acc := .ro, cls := .c }
/-- Table NUC-4, 0x068: effective veto. -/
def NUC_VETO_IN : Row := { page := 0x052, off := 0x068, lo := 5, wid := 1, acc := .ro, live := true }
/-- Table NUC-4, 0x068: R280. -/
def NUC_DEFER_EXP : Row := { page := 0x052, off := 0x068, lo := 6, wid := 1, acc := .ro, cls := .c }
/-- Table NUC-4, 0x068: C (R268). -/
def NUC_CONF : Row := { page := 0x052, off := 0x068, lo := 8, wid := 8, acc := .ro, cls := .c, reset := 0x60 }
/-- Table NUC-4, 0x06C: R268. -/
def NUC_LAST_S : Row := { page := 0x052, off := 0x06C, wid := 32, acc := .ro, cls := .c }
/-- Table NUC-4, 0x070: signed 1/16 °C. -/
def NUC_LAST_T : Row := { page := 0x052, off := 0x070, wid := 16, acc := .ro, cls := .c }
/-- Table NUC-4, 0x070: s. -/
def NUC_DEFER_S : Row := { page := 0x052, off := 0x070, lo := 16, wid := 16, acc := .ro, cls := .c }
/-- Table NUC-4, 0x074: accepted, saturating. -/
def NUC_CLOSURES : Row := { page := 0x052, off := 0x074, wid := 16, acc := .ro, cls := .c }
/-- Table NUC-4, 0x074: failed, saturating. -/
def NUC_FAILS : Row := { page := 0x052, off := 0x074, lo := 16, wid := 16, acc := .ro, cls := .c }
/-- Table NUC-4, 0x078: last closure. -/
def NUC_OUTLIERS : Row := { page := 0x052, off := 0x078, wid := 16, acc := .ro, cls := .c }
/-- Table NUC-4, 0x078: last closure. -/
def NUC_O_CLAMPED : Row := { page := 0x052, off := 0x078, lo := 16, wid := 16, acc := .ro, cls := .c }
/-- Table NUC-4, 0x07C: k1 (R274). -/
def NUC_FIRST_ROW : Row := { page := 0x052, off := 0x07C, wid := 10, acc := .ro, cls := .c }
/-- Table NUC-4, 0x080: R279. -/
def NUC_SAVING : Row := { page := 0x052, off := 0x080, wid := 1, acc := .ro, cls := .c }
/-- Table NUC-5, 0x040: 0 MONO, 1 BISTABLE. -/
def SHUT_TYPE : Row := { page := 0x065, off := 0x040, wid := 1, acc := .rws, cls := .c }
/-- Table NUC-5, 0x040: SOL channel. -/
def SHUT_CH_CLOSE : Row := { page := 0x065, off := 0x040, lo := 4, wid := 2, acc := .rws, cls := .c }
/-- Table NUC-5, 0x040: SOL channel, BISTABLE. -/
def SHUT_CH_OPEN : Row := { page := 0x065, off := 0x040, lo := 8, wid := 2, acc := .rws, cls := .c, reset := 1 }
/-- Table NUC-5, 0x044: µs. -/
def SHUT_T_CLOSE_MAX : Row := { page := 0x065, off := 0x044, wid := 16, acc := .rws, cls := .c, reset := 0x1770 }
/-- Table NUC-5, 0x048: µs. -/
def SHUT_T_OPEN_MAX : Row := { page := 0x065, off := 0x048, wid := 16, acc := .rws, cls := .c, reset := 0x1770 }
/-- Table NUC-5, 0x04C: µs. -/
def SHUT_SETTLE_US : Row := { page := 0x065, off := 0x04C, wid := 16, acc := .rws, cls := .c, reset := 0x7D0 }
/-- Table NUC-5, 0x050: 0 never faults. -/
def SHUT_MISS_MAX : Row := { page := 0x065, off := 0x050, wid := 4, acc := .rw, cls := .c, reset := 3 }
/-- Table NUC-5, 0x054: µs, last close confirmation. -/
def SHUT_T_LAST_CLOSE : Row := { page := 0x065, off := 0x054, wid := 16, acc := .ro, cls := .c }
/-- Table NUC-5, 0x054: µs, last open confirmation. -/
def SHUT_T_LAST_OPEN : Row := { page := 0x065, off := 0x054, lo := 16, wid := 16, acc := .ro, cls := .c }
/-- Table NUC-5, 0x058: consecutive misses. -/
def SHUT_MISS : Row := { page := 0x065, off := 0x058, wid := 4, acc := .ro, cls := .c }
/-- Table NUC-5, 0x058: R289. -/
def SHUT_FAULTED : Row := { page := 0x065, off := 0x058, lo := 8, wid := 1, acc := .ro, cls := .c }
/-- Table NUC-5, 0x05C: R275; restored from the shadow store at boot after a loss of class C (R292). -/
def SHUT_CYCLES : Row := { page := 0x065, off := 0x05C, wid := 32, acc := .ro, cls := .c }
/-- Table NUC-5, 0x060: R289. -/
def SHUT_FAULT_CLR : Row := { page := 0x065, off := 0x060, wid := 1, acc := .wo, live := true }
/-- Table NUC-5, 0x064: R288. -/
def SHUT_OVERRUNS : Row := { page := 0x065, off := 0x064, wid := 16, acc := .ro, cls := .c }
/-- Table SOL-5, 0x040: R300. -/
def SOL_RETRIG : Row := { page := 0x060, pages := 4, off := 0x040, wid := 1, acc := .rws, cls := .c }
/-- Table SOL-5, 0x040: R297. -/
def SOL_HOLD_UNTIL_OFF : Row := { page := 0x060, pages := 4, off := 0x040, lo := 1, wid := 1, acc := .rws, cls := .c }
/-- Table SOL-5, 0x040: 0 general, 1 washer (R306). -/
def SOL_USE : Row := { page := 0x060, pages := 4, off := 0x040, lo := 2, wid := 1, acc := .rws, cls := .c }
/-- Table SOL-5, 0x040: R304. -/
def SOL_BNR_EN : Row := { page := 0x060, pages := 4, off := 0x040, lo := 3, wid := 1, acc := .rws, cls := .c, reset := 1 }
/-- Table SOL-5, 0x040: R304. -/
def SOL_BNR_FALLBACK : Row := { page := 0x060, pages := 4, off := 0x040, lo := 4, wid := 1, acc := .rws, cls := .c, reset := 1 }
/-- Table SOL-5, 0x040: R305. -/
def SOL_TPK_EN : Row := { page := 0x060, pages := 4, off := 0x040, lo := 5, wid := 1, acc := .rws, cls := .c }
/-- Table SOL-5, 0x040: R305. -/
def SOL_TPK_ABORT : Row := { page := 0x060, pages := 4, off := 0x040, lo := 6, wid := 1, acc := .rws, cls := .c }
/-- Table SOL-5, 0x040: 25 ns. -/
def SOL_DEAD : Row := { page := 0x060, pages := 4, off := 0x040, lo := 8, wid := 6, acc := .rws, cls := .c, reset := 8 }
/-- Table SOL-5, 0x044: mA. -/
def SOL_I_PEAK : Row := { page := 0x060, pages := 4, off := 0x044, wid := 12, acc := .rws, cls := .c, reset := 0x5DC }
/-- Table SOL-5, 0x044: mA. -/
def SOL_I_HOLD : Row := { page := 0x060, pages := 4, off := 0x044, lo := 16, wid := 12, acc := .rws, cls := .c, reset := 0x12C }
/-- Table SOL-5, 0x048: µs. -/
def SOL_T_BOOST_MAX : Row := { page := 0x060, pages := 4, off := 0x048, wid := 16, acc := .rws, cls := .c, reset := 0x7D0 }
/-- Table SOL-5, 0x048: µs. -/
def SOL_T_PEAK : Row := { page := 0x060, pages := 4, off := 0x048, lo := 16, wid := 16, acc := .rws, cls := .c, reset := 0x1388 }
/-- Table SOL-5, 0x04C: ms. -/
def SOL_T_HOLD : Row := { page := 0x060, pages := 4, off := 0x04C, wid := 16, acc := .rws, cls := .c }
/-- Table SOL-5, 0x04C: ms. -/
def SOL_T_MIN_OFF : Row := { page := 0x060, pages := 4, off := 0x04C, lo := 16, wid := 16, acc := .rws, cls := .c, reset := 0x14 }
/-- Table SOL-5, 0x050: mA, µs. -/
def SOL_I_HYST : Row := { page := 0x060, pages := 4, off := 0x050, wid := 9, acc := .rws, cls := .c, reset := 0x64 }
/-- Table SOL-5, 0x050: mA, µs. -/
def SOL_CHOP_MIN : Row := { page := 0x060, pages := 4, off := 0x050, lo := 16, wid := 5, acc := .rws, cls := .c, reset := 2 }
/-- Table SOL-5, 0x054: µs. -/
def SOL_MOT_WIN_START : Row := { page := 0x060, pages := 4, off := 0x054, wid := 16, acc := .rws, cls := .c, reset := 0x1F4 }
/-- Table SOL-5, 0x054: µs. -/
def SOL_MOT_WIN_END : Row := { page := 0x060, pages := 4, off := 0x054, lo := 16, wid := 16, acc := .rws, cls := .c, reset := 0x3A98 }
/-- Table SOL-5, 0x058: mA. -/
def SOL_MOT_DIP : Row := { page := 0x060, pages := 4, off := 0x058, wid := 9, acc := .rws, cls := .c, reset := 0x1E }
/-- Table SOL-5, 0x05C: µs. -/
def SOL_TPK_MIN : Row := { page := 0x060, pages := 4, off := 0x05C, wid := 16, acc := .rws, cls := .c, reset := 0x12C }
/-- Table SOL-5, 0x05C: µs. -/
def SOL_TPK_MAX : Row := { page := 0x060, pages := 4, off := 0x05C, lo := 16, wid := 16, acc := .rws, cls := .c, reset := 0x7D0 }
/-- Table SOL-5, 0x060: ms. -/
def SOL_T_BST_WAIT : Row := { page := 0x060, pages := 4, off := 0x060, wid := 8, acc := .rws, cls := .c, reset := 0xA }
/-- Table SOL-5, 0x060: ms. -/
def SOL_BST_DEFER : Row := { page := 0x060, pages := 4, off := 0x060, lo := 8, wid := 8, acc := .rws, cls := .c, reset := 0x32 }
/-- Table SOL-5, 0x064: mΩ, mA. -/
def SOL_RSNS : Row := { page := 0x060, pages := 4, off := 0x064, wid := 10, acc := .rws, cls := .c, reset := 0x64 }
/-- Table SOL-5, 0x064: mΩ, mA. -/
def SOL_I_SENSE_MIN : Row := { page := 0x060, pages := 4, off := 0x064, lo := 16, wid := 10, acc := .rws, cls := .c, reset := 0x32 }
/-- Table SOL-5, 0x068: µs. -/
def SOL_T_OPEN_DET : Row := { page := 0x060, pages := 4, off := 0x068, wid := 16, acc := .rws, cls := .c, reset := 0xC8 }
/-- Table SOL-5, 0x06C: mΩ, 0.1 K/W. -/
def SOL_COIL_R20 : Row := { page := 0x060, pages := 4, off := 0x06C, wid := 16, acc := .rws, cls := .c, reset := 0x2EE0 }
/-- Table SOL-5, 0x06C: mΩ, 0.1 K/W. -/
def SOL_COIL_RTH : Row := { page := 0x060, pages := 4, off := 0x06C, lo := 16, wid := 16, acc := .rws, cls := .c, reset := 0x190 }
/-- Table SOL-5, 0x070: 0.1 s; 0 refused. -/
def SOL_COIL_TAU : Row := { page := 0x060, pages := 4, off := 0x070, wid := 16, acc := .rws, cls := .c, reset := 0x258 }
/-- Table SOL-5, 0x074: 1/16 °C, 1/16 K. -/
def SOL_COIL_TLIM : Row := { page := 0x060, pages := 4, off := 0x074, wid := 12, acc := .rws, cls := .c, reset := 0x9B0 }
/-- Table SOL-5, 0x074: 1/16 °C, 1/16 K. -/
def SOL_COIL_THYS : Row := { page := 0x060, pages := 4, off := 0x074, lo := 16, wid := 8, acc := .rws, cls := .c, reset := 0x50 }
/-- Table SOL-5, 0x078: R299. -/
def SOL_FIRE : Row := { page := 0x060, pages := 4, off := 0x078, wid := 1, acc := .wo, live := true }
/-- Table SOL-5, 0x078: R299. -/
def SOL_STOP : Row := { page := 0x060, pages := 4, off := 0x078, lo := 1, wid := 1, acc := .wo, live := true }
/-- Table SOL-5, 0x07C: 0 OFF, 1 BOOST, 2 PEAK, 3 HOLD, 4 waiting for rail or VBST. -/
def SOL_PHASE : Row := { page := 0x060, pages := 4, off := 0x07C, wid := 3, acc := .ro, cls := .c }
/-- Table SOL-5, 0x07C: Table SOL-3. -/
def SOL_PENDING : Row := { page := 0x060, pages := 4, off := 0x07C, lo := 4, wid := 1, acc := .ro, cls := .c }
/-- Table SOL-5, 0x07C: R311. -/
def SOL_HOT : Row := { page := 0x060, pages := 4, off := 0x07C, lo := 5, wid := 1, acc := .ro, cls := .c }
/-- Table SOL-5, 0x07C: R321, R323. -/
def SOL_TRIPPED : Row := { page := 0x060, pages := 4, off := 0x07C, lo := 6, wid := 1, acc := .ro, cls := .c }
/-- Table SOL-5, 0x07C: R321, R323. -/
def SOL_TRIP_STICKY : Row := { page := 0x060, pages := 4, off := 0x07C, lo := 7, wid := 1, acc := .ro, cls := .c }
/-- Table SOL-5, 0x07C: R302. -/
def SOL_MOTION : Row := { page := 0x060, pages := 4, off := 0x07C, lo := 8, wid := 1, acc := .ro, cls := .c }
/-- Table SOL-5, 0x07C: R325. -/
def SOL_INHIBIT : Row := { page := 0x060, pages := 4, off := 0x07C, lo := 9, wid := 1, acc := .ro, live := true }
/-- Table SOL-5, 0x07C: Table SOL-4. -/
def SOL_LATCH : Row := { page := 0x060, pages := 4, off := 0x07C, lo := 10, wid := 2, acc := .ro, cls := .y }
/-- Table SOL-5, 0x080: bit 0 TRIP_CLR_REJECT, 1 TPK_OUT, 2 BNR, 3 BST_REFUSED, 4 MOT_MISS. -/
def SOL_FLAGS : Row := { page := 0x060, pages := 4, off := 0x080, wid := 5, acc := .w1c, cls := .c }
/-- Table SOL-5, 0x084: µs (R302, R305). -/
def SOL_T_MOTION : Row := { page := 0x060, pages := 4, off := 0x084, wid := 16, acc := .ro, cls := .c, reset := 0xFFFF }
/-- Table SOL-5, 0x084: µs (R302, R305). -/
def SOL_T_TO_PEAK : Row := { page := 0x060, pages := 4, off := 0x084, lo := 16, wid := 16, acc := .ro, cls := .c, reset := 0xFFFF }
/-- Table SOL-5, 0x088: mA. -/
def SOL_I_NOW : Row := { page := 0x060, pages := 4, off := 0x088, wid := 16, acc := .ro, live := true }
/-- Table SOL-5, 0x088: signed 1/16 °C (R310). -/
def SOL_TCOIL : Row := { page := 0x060, pages := 4, off := 0x088, lo := 16, wid := 16, acc := .ro, live := true }
/-- Table SOL-5, 0x08C: Yard seconds (R325). -/
def SOL_INHIBIT_END : Row := { page := 0x060, pages := 4, off := 0x08C, wid := 32, acc := .ro, cls := .y }
/-- Table SOL-5, 0x090: saturating. -/
def SOL_FIRES : Row := { page := 0x060, pages := 4, off := 0x090, wid := 16, acc := .ro, cls := .c }
/-- Table SOL-5, 0x090: saturating. -/
def SOL_COALESCED : Row := { page := 0x060, pages := 4, off := 0x090, lo := 16, wid := 16, acc := .ro, cls := .c }
/-- Table SOL-5, 0x094: saturating. -/
def SOL_TRIP_REJECTS : Row := { page := 0x060, pages := 4, off := 0x094, wid := 16, acc := .ro, cls := .c }
/-- Table SOL-5, 0x094: saturating. -/
def SOL_BST_REFUSALS : Row := { page := 0x060, pages := 4, off := 0x094, lo := 16, wid := 16, acc := .ro, cls := .c }
/-- Table SOL-5, 0x098: R323, R326. -/
def SOL_TRIP_CLR : Row := { page := 0x060, pages := 4, off := 0x098, wid := 1, acc := .wo, live := true }
/-- Table SOL-5, 0x098: R323, R326. -/
def SOL_FAULT_CLR : Row := { page := 0x060, pages := 4, off := 0x098, lo := 1, wid := 1, acc := .wo, live := true }
/-- Table SOL-6, 0x040: 0.25 V, 80–240 (48.0 V). -/
def BOOST_VSET : Row := { page := 0x064, off := 0x040, wid := 8, acc := .rws, cls := .c, reset := 0xC0 }
/-- Table SOL-6, 0x040: 0 250 kHz, 1 400 kHz, 2 600 kHz, 3 1 MHz. -/
def BOOST_FSW : Row := { page := 0x064, off := 0x040, lo := 8, wid := 2, acc := .rws, cls := .c, reset := 1 }
/-- Table SOL-6, 0x040: R309. -/
def BOOST_ON_DEMAND : Row := { page := 0x064, off := 0x040, lo := 12, wid := 1, acc := .rws, cls := .c }
/-- Table SOL-6, 0x040: mV at BST_SNS, 20–200. -/
def BOOST_ILIM : Row := { page := 0x064, off := 0x040, lo := 16, wid := 8, acc := .rws, cls := .c, reset := 0x64 }
/-- Table SOL-6, 0x044: ms; START_MAX 0 none. -/
def BOOST_IDLE_MS : Row := { page := 0x064, off := 0x044, wid := 8, acc := .rws, cls := .c, reset := 0x64 }
/-- Table SOL-6, 0x044: ms; START_MAX 0 none. -/
def BOOST_START_MAX : Row := { page := 0x064, off := 0x044, lo := 8, wid := 8, acc := .rws, cls := .c, reset := 0x32 }
/-- Table SOL-6, 0x048: R308, R309. -/
def BOOST_READY : Row := { page := 0x064, off := 0x048, wid := 1, acc := .ro, live := true }
/-- Table SOL-6, 0x048: R308, R309. -/
def BOOST_RUN : Row := { page := 0x064, off := 0x048, lo := 1, wid := 1, acc := .ro, live := true }
/-- Table SOL-6, 0x048: R308, R309. -/
def BOOST_OV : Row := { page := 0x064, off := 0x048, lo := 2, wid := 1, acc := .ro, live := true }
/-- Table SOL-6, 0x048: R321. -/
def BOOST_TRIP_STICKY : Row := { page := 0x064, off := 0x048, lo := 3, wid := 1, acc := .ro, cls := .c }
/-- Table SOL-6, 0x048: R327. -/
def BOOST_START_FAIL : Row := { page := 0x064, off := 0x048, lo := 4, wid := 1, acc := .ro, cls := .c }
/-- Table SOL-6, 0x048: channel holding the rail; 7 none. -/
def BOOST_HOLDER : Row := { page := 0x064, off := 0x048, lo := 8, wid := 3, acc := .ro, reset := 7 }
/-- Table SOL-6, 0x048: 0.25 V. -/
def BOOST_VBST_NOW : Row := { page := 0x064, off := 0x048, lo := 16, wid := 10, acc := .ro, live := true }
/-- Table SOL-6, 0x04C: R323. -/
def BOOST_TRIP_CLR_REJECT : Row := { page := 0x064, off := 0x04C, wid := 1, acc := .w1c, cls := .c }
/-- Table SOL-6, 0x050: R323, R327. -/
def BOOST_TRIP_CLR : Row := { page := 0x064, off := 0x050, wid := 1, acc := .wo, live := true }
/-- Table SOL-6, 0x050: R323, R327. -/
def BOOST_FAULT_CLR : Row := { page := 0x064, off := 0x050, lo := 1, wid := 1, acc := .wo, live := true }
/-- Table SOL-6, 0x054: saturating. -/
def BOOST_TRIP_REJECTS : Row := { page := 0x064, off := 0x054, wid := 16, acc := .ro, cls := .c }
/-- Table SOL-6, 0x054: saturating. -/
def BOOST_TRIPS : Row := { page := 0x064, off := 0x054, lo := 16, wid := 16, acc := .ro, cls := .c }
/-- Table TEMP-5, 0x040: Tj, core (R329). -/
def TEMP_TS0 : Row := { page := 0x004, off := 0x040, wid := 16, acc := .ro, live := true, reset := 0x8000 }
/-- Table TEMP-5, 0x044: hottest ADC-field point. -/
def TEMP_TS1 : Row := { page := 0x004, off := 0x044, wid := 16, acc := .ro, live := true }
/-- Table TEMP-5, 0x048: driver sensor. -/
def TEMP_TS2 : Row := { page := 0x004, off := 0x048, wid := 16, acc := .ro, live := true }
/-- Table TEMP-5, 0x04C: link PHY sensor. -/
def TEMP_TS3 : Row := { page := 0x004, off := 0x04C, wid := 16, acc := .ro, live := true }
/-- Table TEMP-5, 0x050: Tfpa (R330); 0 in CAB. -/
def TEMP_TFPA : Row := { page := 0x004, off := 0x050, wid := 16, acc := .ro, live := true }
/-- Table TEMP-5, 0x054: Thous (R331). -/
def TEMP_THOUS : Row := { page := 0x004, off := 0x054, wid := 16, acc := .ro, live := true }
/-- Table TEMP-5, 0x054: R331. -/
def TEMP_THOUS_BAD : Row := { page := 0x004, off := 0x054, lo := 16, wid := 1, acc := .ro, live := true }
/-- Table TEMP-5, 0x058: band in force (R332). -/
def TEMP_BAND : Row := { page := 0x004, off := 0x058, wid := 3, acc := .ro, live := true, reset := 2 }
/-- Table TEMP-5, 0x058: band before the last change. -/
def TEMP_BAND_PREV : Row := { page := 0x004, off := 0x058, lo := 4, wid := 3, acc := .ro, live := true }
/-- Table TEMP-5, 0x05C: bit n: TSn bad (R348, R349). -/
def TEMP_TS_STATE : Row := { page := 0x004, off := 0x05C, wid := 4, acc := .ro, live := true }
/-- Table TEMP-5, 0x060: 1/16 °C (R335). -/
def TEMP_THR_START : Row := { page := 0x004, off := 0x060, wid := 16, acc := .rw, cls := .c, reset := 0x870 }
/-- Table TEMP-5, 0x064: 1/16 K; 0 refused. -/
def TEMP_THR_SPAN : Row := { page := 0x004, off := 0x064, wid := 10, acc := .rw, cls := .c, reset := 0xC0 }
/-- Table TEMP-5, 0x068: 0.1 Hz. -/
def TEMP_THR_RATE_MIN : Row := { page := 0x004, off := 0x068, wid := 10, acc := .rw, cls := .c, reset := 0x96 }
/-- Table TEMP-5, 0x068: throttling enabled. -/
def TEMP_THR_EN : Row := { page := 0x004, off := 0x068, lo := 16, wid := 1, acc := .rw, cls := .c, reset := 1 }
/-- Table TEMP-5, 0x06C: frame in progress throttled (R336). -/
def TEMP_ACTIVE : Row := { page := 0x004, off := 0x06C, wid := 1, acc := .ro, live := true }
/-- Table TEMP-5, 0x06C: rate at THR_RATE_MIN. -/
def TEMP_AT_MIN : Row := { page := 0x004, off := 0x06C, lo := 1, wid := 1, acc := .ro, live := true }
/-- Table TEMP-5, 0x070: throttled frames, saturating. -/
def TEMP_THR_FRAMES : Row := { page := 0x004, off := 0x070, wid := 32, acc := .ro, cls := .c }
/-- Table TEMP-5, 0x074: 0.01 µV/K (R330). -/
def TEMP_DIODE_SLOPE : Row := { page := 0x004, off := 0x074, wid := 16, acc := .rw, cls := .c, reset := 0x4E20 }
/-- Table TEMP-5, 0x074: signed 1/16 K. -/
def TEMP_DIODE_OFS : Row := { page := 0x004, off := 0x074, lo := 16, wid := 16, acc := .rw, cls := .c }
/-- Table TEMP-5, 0x078: NTC conversion enabled. -/
def TEMP_AUX_EN : Row := { page := 0x004, off := 0x078, wid := 1, acc := .rw, cls := .c }
/-- Table TEMP-5, 0x07C: Ω (10 kΩ). -/
def TEMP_NTC_R25 : Row := { page := 0x004, off := 0x07C, wid := 20, acc := .rw, cls := .c, reset := 0x2710 }
/-- Table TEMP-5, 0x080: K (3,435). -/
def TEMP_NTC_BETA : Row := { page := 0x004, off := 0x080, wid := 14, acc := .rw, cls := .c, reset := 0xD6B }
/-- Table TEMP-5, 0x084: Ω (10 kΩ). -/
def TEMP_NTC_RPU : Row := { page := 0x004, off := 0x084, wid := 20, acc := .rw, cls := .c, reset := 0x2710 }
/-- Table TEMP-5, 0x088: highest TS0 since cleared. -/
def TEMP_TJ_PEAK : Row := { page := 0x004, off := 0x088, wid := 16, acc := .ro, cls := .c, reset := 0x8000 }
/-- Table TEMP-5, 0x08C: 1 sets TJ_PEAK to 0x8000. -/
def TEMP_PEAK_CLR : Row := { page := 0x004, off := 0x08C, wid := 1, acc := .wo, live := true }
/-- Table SEN-3, 0x040: 0 1 Hz, 1 2 Hz, 2 4 Hz; 3 refused. -/
def SENTRY_RATE : Row := { page := 0x054, off := 0x040, wid := 2, acc := .rws, cls := .c }
/-- Table SEN-3, 0x040: R360. -/
def SENTRY_LIVE_DET : Row := { page := 0x054, off := 0x040, lo := 4, wid := 1, acc := .rws, cls := .c }
/-- Table SEN-3, 0x040: 0 both signs, 1 warmer only. -/
def SENTRY_POLARITY : Row := { page := 0x054, off := 0x040, lo := 5, wid := 1, acc := .rws, cls := .c }
/-- Table SEN-3, 0x044: LSB (R356). -/
def SENTRY_DELTA : Row := { page := 0x054, off := 0x044, wid := 12, acc := .rws, cls := .c, reset := 0x40 }
/-- Table SEN-3, 0x044: bins; 0 refused. -/
def SENTRY_COUNT_MIN : Row := { page := 0x054, off := 0x044, lo := 16, wid := 15, acc := .rws, cls := .c, reset := 0x10 }
/-- Table SEN-3, 0x048: R358. -/
def SENTRY_ADAPT_SHIFT : Row := { page := 0x054, off := 0x048, wid := 4, acc := .rws, cls := .c, reset := 4 }
/-- Table SEN-3, 0x048: R358. -/
def SENTRY_ADAPT_SHIFT_X : Row := { page := 0x054, off := 0x048, lo := 8, wid := 4, acc := .rws, cls := .c, reset := 0xA }
/-- Table SEN-3, 0x048: R355. -/
def SENTRY_LEARN_FRAMES : Row := { page := 0x054, off := 0x048, lo := 16, wid := 8, acc := .rws, cls := .c, reset := 8 }
/-- Table SEN-3, 0x048: R357. -/
def SENTRY_CONFIRM : Row := { page := 0x054, off := 0x048, lo := 24, wid := 4, acc := .rws, cls := .c, reset := 1 }
/-- Table SEN-3, 0x04C: s. -/
def SENTRY_HOLDOFF_S : Row := { page := 0x054, off := 0x04C, wid := 16, acc := .rws, cls := .c, reset := 0xA }
/-- Table SEN-3, 0x04C: bins; 0 no scene-change rule. -/
def SENTRY_GLOBAL_MAX : Row := { page := 0x054, off := 0x04C, lo := 16, wid := 15, acc := .rws, cls := .c, reset := 0x1000 }
/-- Table SEN-3, 0x050: R361. -/
def SENTRY_BG_RESET : Row := { page := 0x054, off := 0x050, wid := 1, acc := .wo, live := true }
/-- Table SEN-3, 0x054: R359. -/
def SENTRY_ALARM : Row := { page := 0x054, off := 0x054, wid := 1, acc := .w1c, cls := .c }
/-- Table SEN-3, 0x054: R355. -/
def SENTRY_BG_READY : Row := { page := 0x054, off := 0x054, lo := 1, wid := 1, acc := .ro, cls := .c }
/-- Table SEN-3, 0x054: R357. -/
def SENTRY_HOLDOFF : Row := { page := 0x054, off := 0x054, lo := 2, wid := 1, acc := .ro, cls := .c }
/-- Table SEN-3, 0x054: R357. -/
def SENTRY_CONFIRM_CNT : Row := { page := 0x054, off := 0x054, lo := 4, wid := 4, acc := .ro, cls := .c }
/-- Table SEN-3, 0x054: R356. -/
def SENTRY_EXCEED : Row := { page := 0x054, off := 0x054, lo := 16, wid := 15, acc := .ro, cls := .c }
/-- Table SEN-3, 0x058: saturating. -/
def SENTRY_ALARMS : Row := { page := 0x054, off := 0x058, wid := 16, acc := .ro, cls := .c }
/-- Table SEN-3, 0x058: saturating. -/
def SENTRY_SCENE_CHANGES : Row := { page := 0x054, off := 0x058, lo := 16, wid := 16, acc := .ro, cls := .c }
/-- Table SEN-3, 0x05C: evaluated frames; skipped firings (R352); saturating. -/
def SENTRY_FRAMES : Row := { page := 0x054, off := 0x05C, wid := 16, acc := .ro, cls := .c }
/-- Table SEN-3, 0x05C: evaluated frames; skipped firings (R352); saturating. -/
def SENTRY_SKIPS : Row := { page := 0x054, off := 0x05C, lo := 16, wid := 16, acc := .ro, cls := .c }
/-- Table SEN-3, 0x060: R369. -/
def SENTRY_BAD_FRAMES : Row := { page := 0x054, off := 0x060, wid := 16, acc := .ro, cls := .c }
/-- Table SEN-3, 0x064: bins (R354). -/
def SENTRY_GRID_W : Row := { page := 0x054, off := 0x064, wid := 8, acc := .ro, live := true }
/-- Table SEN-3, 0x064: bins (R354). -/
def SENTRY_GRID_H : Row := { page := 0x054, off := 0x064, lo := 8, wid := 8, acc := .ro, live := true }
/-- Table SEN-3, 0x080: bit z arms zone (r, z). -/
def SENTRY_ZONE : Row := { page := 0x054, off := 0x080, count := 16, stride := 4, wid := 20, acc := .rws, cls := .c, reset := 0xFFFFF }
/-- Table LINK-5, 0x040: bit 0 TL1, 1 TL2, 2 TL3 (R375). -/
def LINK_GEN_EN : Row := { page := 0x070, pages := 4, off := 0x040, wid := 3, acc := .rws, cls := .c, reset := 7 }
/-- Table LINK-5, 0x040: 0 coax, 1 shielded pair. -/
def LINK_MEDIUM : Row := { page := 0x070, pages := 4, off := 0x040, lo := 4, wid := 1, acc := .rws, cls := .c }
/-- Table LINK-5, 0x040: cab end: source 12 V (R383). -/
def LINK_POC_EN : Row := { page := 0x070, pages := 4, off := 0x040, lo := 8, wid := 1, acc := .rws, cls := .c }
/-- Table LINK-5, 0x040: keep-alive in DORMANT (R385). -/
def LINK_KA_EN : Row := { page := 0x070, pages := 4, off := 0x040, lo := 9, wid := 1, acc := .rws, cls := .c }
/-- Table LINK-5, 0x040: watch for the signature (R388). -/
def LINK_WAKE_EN : Row := { page := 0x070, pages := 4, off := 0x040, lo := 10, wid := 1, acc := .rws, cls := .c }
/-- Table LINK-5, 0x040: R376, R378. -/
def LINK_RETRAINS : Row := { page := 0x070, pages := 4, off := 0x040, lo := 16, wid := 4, acc := .rws, cls := .c, reset := 2 }
/-- Table LINK-5, 0x044: ms (R376). -/
def LINK_RETRY_MS : Row := { page := 0x070, pages := 4, off := 0x044, wid := 16, acc := .rws, cls := .c, reset := 0x3E8 }
/-- Table LINK-5, 0x048: 0 OFF, 1 POWER_UP, 2 BASE_TRAIN, 3 CAPABILITY, 4 TRAIN, 5 UP, 6 RETRAIN, 7 FAIL_WAIT, 8 NO_COMMON, 9 KEEP_ALIVE. -/
def LINK_STATE : Row := { page := 0x070, pages := 4, off := 0x048, wid := 4, acc := .ro, cls := .c }
/-- Table LINK-5, 0x048: 0 none, 1 TL1, 2 TL2, 3 TL3. -/
def LINK_GEN : Row := { page := 0x070, pages := 4, off := 0x048, lo := 4, wid := 3, acc := .ro, cls := .c }
/-- Table LINK-5, 0x048: peer's GEN_EN. -/
def LINK_PEER : Row := { page := 0x070, pages := 4, off := 0x048, lo := 8, wid := 3, acc := .ro, cls := .c }
/-- Table LINK-5, 0x048: R375. -/
def LINK_LEGACY : Row := { page := 0x070, pages := 4, off := 0x048, lo := 11, wid := 1, acc := .ro, cls := .c }
/-- Table LINK-5, 0x04C: saturating. -/
def LINK_LINKUPS : Row := { page := 0x070, pages := 4, off := 0x04C, wid := 16, acc := .ro, cls := .c }
/-- Table LINK-5, 0x04C: saturating. -/
def LINK_TRAIN_FAILS : Row := { page := 0x070, pages := 4, off := 0x04C, lo := 16, wid := 16, acc := .ro, cls := .c }
/-- Table LINK-5, 0x050: mA. -/
def LINK_ILIM : Row := { page := 0x070, pages := 4, off := 0x050, wid := 10, acc := .rws, cls := .c, reset := 0x1F4 }
/-- Table LINK-5, 0x050: ms. -/
def LINK_OC_BLANK : Row := { page := 0x070, pages := 4, off := 0x050, lo := 16, wid := 8, acc := .rws, cls := .c, reset := 0xA }
/-- Table LINK-5, 0x050: R384. -/
def LINK_RETRIES : Row := { page := 0x070, pages := 4, off := 0x050, lo := 24, wid := 4, acc := .rws, cls := .c, reset := 3 }
/-- Table LINK-5, 0x054: mΩ. -/
def LINK_RPOC : Row := { page := 0x070, pages := 4, off := 0x054, wid := 10, acc := .rws, cls := .c, reset := 0x64 }
/-- Table LINK-5, 0x058: mA. -/
def LINK_POC_I : Row := { page := 0x070, pages := 4, off := 0x058, wid := 12, acc := .ro, live := true }
/-- Table LINK-5, 0x058: coax node, 0.1 V. -/
def LINK_VPOC : Row := { page := 0x070, pages := 4, off := 0x058, lo := 12, wid := 9, acc := .ro, live := true }
/-- Table LINK-5, 0x058: 0 off, 1 12 V, 2 keep-alive. -/
def LINK_PATH : Row := { page := 0x070, pages := 4, off := 0x058, lo := 21, wid := 2, acc := .ro, cls := .c }
/-- Table LINK-5, 0x058: Table LINK-4. -/
def LINK_POC_CAUSE : Row := { page := 0x070, pages := 4, off := 0x058, lo := 24, wid := 2, acc := .ro, cls := .c }
/-- Table LINK-5, 0x058: Table LINK-4. -/
def LINK_NO_LOAD : Row := { page := 0x070, pages := 4, off := 0x058, lo := 26, wid := 1, acc := .ro, live := true }
/-- Table LINK-5, 0x058: Table LINK-4. -/
def LINK_VIN_LOW : Row := { page := 0x070, pages := 4, off := 0x058, lo := 27, wid := 1, acc := .ro, live := true }
/-- Table LINK-5, 0x05C: R384. -/
def LINK_POC_CLR : Row := { page := 0x070, pages := 4, off := 0x05C, wid := 1, acc := .wo, live := true }
/-- Table LINK-5, 0x05C: head end (R387). -/
def LINK_WAKE_CMD : Row := { page := 0x070, pages := 4, off := 0x05C, lo := 1, wid := 1, acc := .wo, live := true }
/-- Table LINK-5, 0x05C: clears STALL_PEAK. -/
def LINK_PEAK_CLR : Row := { page := 0x070, pages := 4, off := 0x05C, lo := 2, wid := 1, acc := .wo, live := true }
/-- Table LINK-5, 0x060: saturating. -/
def LINK_POC_FAULTS : Row := { page := 0x070, pages := 4, off := 0x060, wid := 16, acc := .ro, cls := .c }
/-- Table LINK-5, 0x060: saturating. -/
def LINK_WAKE_SIGS : Row := { page := 0x070, pages := 4, off := 0x060, lo := 16, wid := 16, acc := .ro, cls := .c }
/-- Table LINK-5, 0x064: saturating (R379, R381). -/
def LINK_STALL_OVR : Row := { page := 0x070, pages := 4, off := 0x064, wid := 16, acc := .ro, cls := .c }
/-- Table LINK-5, 0x064: saturating (R379, R381). -/
def LINK_FRAMES_SKIPPED : Row := { page := 0x070, pages := 4, off := 0x064, lo := 16, wid := 16, acc := .ro, cls := .c }
/-- Table LINK-5, 0x068: 16-byte units. -/
def LINK_STALL_PEAK : Row := { page := 0x070, pages := 4, off := 0x068, wid := 16, acc := .ro, cls := .c }
/-- Table LINK-12, 0x100: 0 off, 1 check and flag, 2 enforce (R418). -/
def LINK_AUTH_MODE : Row := { page := 0x070, pages := 4, off := 0x100, wid := 2, acc := .rw, cls := .c }
/-- Table LINK-12, 0x100: R419. -/
def LINK_AUTH_REQ : Row := { page := 0x070, pages := 4, off := 0x100, lo := 4, wid := 1, acc := .rw, cls := .c }
/-- Table LINK-12, 0x100: R418. -/
def LINK_FAIL_MAX : Row := { page := 0x070, pages := 4, off := 0x100, lo := 8, wid := 4, acc := .rw, cls := .c, reset := 3 }
/-- Table LINK-12, 0x104: R417. -/
def LINK_LAST_RESULT : Row := { page := 0x070, pages := 4, off := 0x104, wid := 3, acc := .ro, cls := .c }
/-- Table LINK-12, 0x104: R418. -/
def LINK_BLOCKED : Row := { page := 0x070, pages := 4, off := 0x104, lo := 4, wid := 1, acc := .ro, cls := .c }
/-- Table LINK-12, 0x104: R420. -/
def LINK_KEY_MISMATCH : Row := { page := 0x070, pages := 4, off := 0x104, lo := 5, wid := 1, acc := .ro, cls := .c }
/-- Table LINK-12, 0x104: consecutive failing frames. -/
def LINK_CONSEC : Row := { page := 0x070, pages := 4, off := 0x104, lo := 8, wid := 4, acc := .ro, cls := .c }
/-- Table LINK-12, 0x108: saturating. -/
def LINK_AUTH_PASSES : Row := { page := 0x070, pages := 4, off := 0x108, wid := 16, acc := .ro, cls := .c }
/-- Table LINK-12, 0x108: saturating. -/
def LINK_AUTH_FAILS : Row := { page := 0x070, pages := 4, off := 0x108, lo := 16, wid := 16, acc := .ro, cls := .c }
/-- Table LINK-12, 0x10C: R418. -/
def LINK_AUTH_CLR : Row := { page := 0x070, pages := 4, off := 0x10C, wid := 1, acc := .wo, live := true }
/-- Table LINK-12, 0x110: session nonce. -/
def LINK_NONCE : Row := { page := 0x070, pages := 4, off := 0x110, count := 2, stride := 4, wid := 32, acc := .ro, cls := .c }
/-- Table LINK-12, 0x118: counter of the last frame started. -/
def LINK_LAST_FC : Row := { page := 0x070, pages := 4, off := 0x118, wid := 32, acc := .ro, cls := .c }
/-- Table LINK-12, 0x120: per master (R407). -/
def LINK_TUN_WDATA : Row := { page := 0x070, pages := 4, off := 0x120, wid := 32, acc := .rw, cls := .c }
/-- Table LINK-12, 0x124: R407. -/
def LINK_TUN_ADDR : Row := { page := 0x070, pages := 4, off := 0x124, wid := 32, acc := .wo, live := true }
/-- Table LINK-12, 0x128: R407. -/
def LINK_PENDING : Row := { page := 0x070, pages := 4, off := 0x128, wid := 6, acc := .ro, cls := .c }
/-- Table LINK-12, 0x128: R407. -/
def LINK_REPLIES : Row := { page := 0x070, pages := 4, off := 0x128, lo := 8, wid := 6, acc := .ro, cls := .c }
/-- Table LINK-12, 0x128: R407. -/
def LINK_NEXT_TAG : Row := { page := 0x070, pages := 4, off := 0x128, lo := 16, wid := 8, acc := .ro, cls := .c }
/-- Table LINK-12, 0x12C: oldest reply. -/
def LINK_REP_TAG : Row := { page := 0x070, pages := 4, off := 0x12C, wid := 8, acc := .ro, cls := .c }
/-- Table LINK-12, 0x12C: oldest reply. -/
def LINK_REP_CODE : Row := { page := 0x070, pages := 4, off := 0x12C, lo := 8, wid := 8, acc := .ro, cls := .c }
/-- Table LINK-12, 0x12C: R405, R410. -/
def LINK_REP_WR : Row := { page := 0x070, pages := 4, off := 0x12C, lo := 16, wid := 1, acc := .ro, cls := .c }
/-- Table LINK-12, 0x12C: R405, R410. -/
def LINK_REP_UNKNOWN : Row := { page := 0x070, pages := 4, off := 0x12C, lo := 17, wid := 1, acc := .ro, cls := .c }
/-- Table LINK-12, 0x12C: R405, R410. -/
def LINK_REP_RST : Row := { page := 0x070, pages := 4, off := 0x12C, lo := 18, wid := 1, acc := .ro, cls := .c }
/-- Table LINK-12, 0x12C: R409. -/
def LINK_REP_MASTER : Row := { page := 0x070, pages := 4, off := 0x12C, lo := 24, wid := 3, acc := .ro, cls := .c }
/-- Table LINK-12, 0x12C: R409. -/
def LINK_REP_VALID : Row := { page := 0x070, pages := 4, off := 0x12C, lo := 31, wid := 1, acc := .ro, cls := .c }
/-- Table LINK-12, 0x130: read data. -/
def LINK_TUN_RDATA : Row := { page := 0x070, pages := 4, off := 0x130, wid := 32, acc := .ro, cls := .c }
/-- Table LINK-12, 0x134: R409, R413. -/
def LINK_TUN_POP : Row := { page := 0x070, pages := 4, off := 0x134, wid := 1, acc := .wo, live := true }
/-- Table LINK-12, 0x134: R409, R413. -/
def LINK_HEVT_POP : Row := { page := 0x070, pages := 4, off := 0x134, lo := 1, wid := 1, acc := .wo, live := true }
/-- Table LINK-12, 0x138: R410. -/
def LINK_RRESET_KEY : Row := { page := 0x070, pages := 4, off := 0x138, wid := 8, acc := .wo, live := true }
/-- Table LINK-12, 0x138: R410. -/
def LINK_RRESET_IMAGE : Row := { page := 0x070, pages := 4, off := 0x138, lo := 8, wid := 1, acc := .wo, live := true }
/-- Table LINK-12, 0x13C: 0 none, 1 active, 2 recovering. -/
def LINK_SES_STATE : Row := { page := 0x070, pages := 4, off := 0x13C, wid := 2, acc := .ro, cls := .c }
/-- Table LINK-12, 0x13C: 0 none, 1 active, 2 recovering. -/
def LINK_SESSIONS : Row := { page := 0x070, pages := 4, off := 0x13C, lo := 16, wid := 16, acc := .ro, cls := .c }
/-- Table LINK-12, 0x140: saturating. -/
def LINK_RETX : Row := { page := 0x070, pages := 4, off := 0x140, wid := 16, acc := .ro, cls := .c }
/-- Table LINK-12, 0x140: saturating. -/
def LINK_MSG_LOST : Row := { page := 0x070, pages := 4, off := 0x140, lo := 16, wid := 16, acc := .ro, cls := .c }
/-- Table LINK-12, 0x144: saturating. -/
def LINK_RX_ERR : Row := { page := 0x070, pages := 4, off := 0x144, wid := 16, acc := .ro, cls := .c }
/-- Table LINK-12, 0x144: saturating. -/
def LINK_FRAMES_DUP : Row := { page := 0x070, pages := 4, off := 0x144, lo := 16, wid := 16, acc := .ro, cls := .c }
/-- Table LINK-12, 0x148: frames missing (Table LINK-10). -/
def LINK_FRAME_GAPS : Row := { page := 0x070, pages := 4, off := 0x148, wid := 32, acc := .ro, cls := .c }
/-- Table LINK-12, 0x14C: R415. -/
def LINK_FEC_CORR : Row := { page := 0x070, pages := 4, off := 0x14C, wid := 32, acc := .ro, cls := .c }
/-- Table LINK-12, 0x150: R415. -/
def LINK_FEC_UNCORR : Row := { page := 0x070, pages := 4, off := 0x150, wid := 32, acc := .ro, cls := .c }
/-- Table LINK-12, 0x154: last STATUS payload (R411). -/
def LINK_HEAD_STAT : Row := { page := 0x070, pages := 4, off := 0x154, wid := 11, acc := .ro, cls := .c }
/-- Table LINK-12, 0x158: R426. -/
def LINK_RECOVERIES : Row := { page := 0x070, pages := 4, off := 0x158, wid := 16, acc := .ro, cls := .c }
/-- Table LINK-12, 0x160: oldest head event. -/
def LINK_HEVT_SEQ : Row := { page := 0x070, pages := 4, off := 0x160, wid := 16, acc := .ro, cls := .c }
/-- Table LINK-12, 0x160: oldest head event. -/
def LINK_HEVT_FLAGS : Row := { page := 0x070, pages := 4, off := 0x160, lo := 16, wid := 8, acc := .ro, cls := .c }
/-- Table LINK-12, 0x160: oldest head event. -/
def LINK_HEVT_VALID : Row := { page := 0x070, pages := 4, off := 0x160, lo := 31, wid := 1, acc := .ro, cls := .c }
/-- Table LINK-12, 0x164: head Yard seconds. -/
def LINK_HEVT_TS : Row := { page := 0x070, pages := 4, off := 0x164, wid := 32, acc := .ro, cls := .c }
/-- Table LINK-12, 0x168: head event code and data. -/
def LINK_HEVT_CODE : Row := { page := 0x070, pages := 4, off := 0x168, lo := 16, wid := 16, acc := .ro, cls := .c }
/-- Table LINK-12, 0x168: head event code and data. -/
def LINK_HEVT_DATA : Row := { page := 0x070, pages := 4, off := 0x168, wid := 16, acc := .ro, cls := .c }
/-- Table LINK-12, 0x16C: entries held. -/
def LINK_HEVT_COUNT : Row := { page := 0x070, pages := 4, off := 0x16C, wid := 7, acc := .ro, cls := .c }
/-- Table LINK-12, 0x16C: R413. -/
def LINK_HEVT_OVF : Row := { page := 0x070, pages := 4, off := 0x16C, lo := 8, wid := 1, acc := .w1c, cls := .c }
/-- Table LINK-12, 0x16C: saturating. -/
def LINK_HEVT_LOST : Row := { page := 0x070, pages := 4, off := 0x16C, lo := 16, wid := 16, acc := .ro, cls := .c }
/-- Table LINK-13, 0x040: 100 µs units; 0 refused. -/
def LINKC_TUNNEL_TIMEOUT : Row := { page := 0x074, off := 0x040, wid := 16, acc := .rw, cls := .y, reset := 0x32 }
/-- Table LINK-13, 0x044: LOCKPAGES page (R420). -/
def LINKC_KEY_PAGE : Row := { page := 0x074, off := 0x044, wid := 4, acc := .rw, cls := .y }
/-- Table LINK-13, 0x044: R420. -/
def LINKC_KEY_EN : Row := { page := 0x074, off := 0x044, lo := 8, wid := 1, acc := .rw, cls := .y }
/-- Table LINK-13, 0x044: R412. -/
def LINKC_EVT_FWD : Row := { page := 0x074, off := 0x044, lo := 9, wid := 1, acc := .rw, cls := .y, reset := 1 }
/-- Table LINK-13, 0x048: 0 not loaded, 1 valid, 2 no key. -/
def LINKC_KCV : Row := { page := 0x074, off := 0x048, wid := 24, acc := .ro, cls := .y }
/-- Table LINK-13, 0x048: 0 not loaded, 1 valid, 2 no key. -/
def LINKC_KEY_STATE : Row := { page := 0x074, off := 0x048, lo := 24, wid := 2, acc := .ro, cls := .y }
/-- Table LINK-13, 0x04C: head: last logged, last acknowledged. -/
def LINKC_EVSEQ : Row := { page := 0x074, off := 0x04C, wid := 16, acc := .ro, cls := .y }
/-- Table LINK-13, 0x04C: head: last logged, last acknowledged. -/
def LINKC_EVT_ACKED : Row := { page := 0x074, off := 0x04C, lo := 16, wid := 16, acc := .ro, cls := .y }
/-- Table LINK-13, 0x050: head: classes of the last wake (R423). -/
def LINKC_WAKE_REASON : Row := { page := 0x074, off := 0x050, wid := 5, acc := .ro, cls := .y }
/-- Table LINK-13, 0x050: head: classes of the last wake (R423). -/
def LINKC_COLLIDED : Row := { page := 0x074, off := 0x050, lo := 8, wid := 1, acc := .ro, cls := .y }
/-- Table DISP-2, 0x100: 0 RAW, 1 YUV422 (R431). -/
def DISP_OUT_TYPE : Row := { page := 0x053, off := 0x100, ocount := 4, ostride := 0x80, wid := 1, acc := .rws, cls := .c }
/-- Table DISP-2, 0x100: R435. -/
def DISP_MIRROR : Row := { page := 0x053, off := 0x100, ocount := 4, ostride := 0x80, lo := 1, wid := 1, acc := .rws, cls := .c }
/-- Table DISP-2, 0x100: R435. -/
def DISP_ROT180 : Row := { page := 0x053, off := 0x100, ocount := 4, ostride := 0x80, lo := 2, wid := 1, acc := .rws, cls := .c }
/-- Table DISP-2, 0x100: R440, R438. -/
def DISP_REPEAT_FILL : Row := { page := 0x053, off := 0x100, ocount := 4, ostride := 0x80, lo := 3, wid := 1, acc := .rws, cls := .c }
/-- Table DISP-2, 0x100: R440, R438. -/
def DISP_EMB_EN : Row := { page := 0x053, off := 0x100, ocount := 4, ostride := 0x80, lo := 4, wid := 1, acc := .rws, cls := .c, reset := 1 }
/-- Table DISP-2, 0x100: 0 PAL0, 1 PAL1. -/
def DISP_PAL_SEL : Row := { page := 0x053, off := 0x100, ocount := 4, ostride := 0x80, lo := 5, wid := 1, acc := .rws, cls := .c }
/-- Table DISP-2, 0x100: FOV class in force. -/
def DISP_FOV_SEL : Row := { page := 0x053, off := 0x100, ocount := 4, ostride := 0x80, lo := 8, wid := 2, acc := .rws, cls := .c }
/-- Table DISP-2, 0x104: 1/1,024 of N. -/
def DISP_LO_CLIP : Row := { page := 0x053, off := 0x104, ocount := 4, ostride := 0x80, wid := 8, acc := .rws, cls := .c, reset := 0xA }
/-- Table DISP-2, 0x104: 1/1,024 of N. -/
def DISP_HI_CLIP : Row := { page := 0x053, off := 0x104, ocount := 4, ostride := 0x80, lo := 16, wid := 8, acc := .rws, cls := .c, reset := 0xA }
/-- Table DISP-2, 0x108: N/4,096; 0 none. -/
def DISP_PLATEAU : Row := { page := 0x053, off := 0x108, ocount := 4, ostride := 0x80, wid := 12, acc := .rws, cls := .c, reset := 0x40 }
/-- Table DISP-2, 0x108: R432. -/
def DISP_EQ_MIX : Row := { page := 0x053, off := 0x108, ocount := 4, ostride := 0x80, lo := 16, wid := 5, acc := .rws, cls := .c, reset := 8 }
/-- Table DISP-2, 0x108: R432. -/
def DISP_TM_SMOOTH : Row := { page := 0x053, off := 0x108, ocount := 4, ostride := 0x80, lo := 24, wid := 3, acc := .rws, cls := .c, reset := 2 }
/-- Table DISP-2, 0x10C: R433. -/
def DISP_LC_GAIN : Row := { page := 0x053, off := 0x10C, ocount := 4, ostride := 0x80, wid := 6, acc := .rws, cls := .c }
/-- Table DISP-2, 0x110: window origin. -/
def DISP_X0 : Row := { page := 0x053, off := 0x110, count := 4, stride := 8, ocount := 4, ostride := 0x80, wid := 10, acc := .rws, cls := .c }
/-- Table DISP-2, 0x110: window origin. -/
def DISP_Y0 : Row := { page := 0x053, off := 0x110, count := 4, stride := 8, ocount := 4, ostride := 0x80, lo := 16, wid := 10, acc := .rws, cls := .c }
/-- Table DISP-2, 0x114: window size. -/
def DISP_WW : Row := { page := 0x053, off := 0x114, count := 4, stride := 8, ocount := 4, ostride := 0x80, wid := 10, acc := .rws, cls := .c, reset := 0x280 }
/-- Table DISP-2, 0x114: window size. -/
def DISP_WH : Row := { page := 0x053, off := 0x114, count := 4, stride := 8, ocount := 4, ostride := 0x80, lo := 16, wid := 10, acc := .rws, cls := .c, reset := 0x200 }
/-- Table DISP-2, 0x114: ×2; whole frame. -/
def DISP_ZOOM : Row := { page := 0x053, off := 0x114, count := 4, stride := 8, ocount := 4, ostride := 0x80, lo := 28, wid := 1, acc := .rws, cls := .c }
/-- Table DISP-2, 0x114: ×2; whole frame. -/
def DISP_FULL : Row := { page := 0x053, off := 0x114, count := 4, stride := 8, ocount := 4, ostride := 0x80, lo := 31, wid := 1, acc := .rws, cls := .c, reset := 1 }
/-- Table DISP-2, 0x130: output size in force. -/
def DISP_WOUT : Row := { page := 0x053, off := 0x130, ocount := 4, ostride := 0x80, wid := 11, acc := .ro, live := true }
/-- Table DISP-2, 0x130: output size in force. -/
def DISP_HOUT : Row := { page := 0x053, off := 0x130, ocount := 4, ostride := 0x80, lo := 16, wid := 11, acc := .ro, live := true }
/-- Table DISP-2, 0x130: R454. -/
def DISP_FALLBACK : Row := { page := 0x053, off := 0x130, ocount := 4, ostride := 0x80, lo := 31, wid := 1, acc := .ro, live := true }
/-- Table DISP-2, 0x134: R432. -/
def DISP_HIST_LO : Row := { page := 0x053, off := 0x134, ocount := 4, ostride := 0x80, wid := 10, acc := .ro, live := true }
/-- Table DISP-2, 0x134: R432. -/
def DISP_HIST_HI : Row := { page := 0x053, off := 0x134, ocount := 4, ostride := 0x80, lo := 16, wid := 10, acc := .ro, live := true }
/-- Table DISP-2, 0x800: R434. -/
def DISP_PAL0 : Row := { page := 0x053, off := 0x800, count := 256, stride := 4, wid := 24, acc := .rws, cls := .c, rtab := (List.range 256).map (· * 0x010101) }
/-- Table DISP-2, 0xC00: R434. -/
def DISP_PAL1 : Row := { page := 0x053, off := 0xC00, count := 256, stride := 4, wid := 24, acc := .rws, cls := .c, rtab := (List.range 256).map (· * 0x010101) }
/-- Table CSI-3, 0x040: lanes − 1. -/
def CSI_LANES : Row := { page := 0x078, off := 0x040, wid := 2, acc := .rws, cls := .c, reset := 3 }
/-- Table CSI-3, 0x040: R437, R438. -/
def CSI_CLK_CONT : Row := { page := 0x078, off := 0x040, lo := 4, wid := 1, acc := .rws, cls := .c }
/-- Table CSI-3, 0x040: R437, R438. -/
def CSI_V11_TIMING : Row := { page := 0x078, off := 0x040, lo := 5, wid := 1, acc := .rws, cls := .c }
/-- Table CSI-3, 0x040: R437, R438. -/
def CSI_LSLE_EN : Row := { page := 0x078, off := 0x040, lo := 6, wid := 1, acc := .rws, cls := .c }
/-- Table CSI-3, 0x040: Mb/s per lane. -/
def CSI_RATE : Row := { page := 0x078, off := 0x040, lo := 16, wid := 11, acc := .rws, cls := .c, reset := 0x5DC }
/-- Table CSI-3, 0x044: bit s: VCs sent. -/
def CSI_VC_EN : Row := { page := 0x078, off := 0x044, wid := 4, acc := .rws, cls := .c, reset := 0xF }
/-- Table CSI-3, 0x048: R452 pending. -/
def CSI_REINIT : Row := { page := 0x078, off := 0x048, wid := 1, acc := .ro, live := true }
/-- Table CSI-3, 0x048: bit s: frame in progress. -/
def CSI_IN_FRAME : Row := { page := 0x078, off := 0x048, lo := 4, wid := 4, acc := .ro, live := true }
/-- Table CSI-3, 0x04C: Mb/s (R451). -/
def CSI_BW_REQ : Row := { page := 0x078, off := 0x04C, wid := 16, acc := .ro, live := true }
/-- Table CSI-3, 0x050: saturating (R442). -/
def CSI_FRAMES : Row := { page := 0x078, off := 0x050, count := 4, stride := 4, wid := 16, acc := .ro, cls := .c }
/-- Table CSI-3, 0x050: saturating (R442). -/
def CSI_TRUNC : Row := { page := 0x078, off := 0x050, count := 4, stride := 4, lo := 16, wid := 16, acc := .ro, cls := .c }
/-- Table CSI-3, 0x060: saturating (R441, R452). -/
def CSI_LINES_FILLED : Row := { page := 0x078, off := 0x060, count := 4, stride := 4, wid := 16, acc := .ro, cls := .c }
/-- Table CSI-3, 0x060: saturating (R441, R452). -/
def CSI_SKIPPED : Row := { page := 0x078, off := 0x060, count := 4, stride := 4, lo := 16, wid := 16, acc := .ro, cls := .c }
/-- Table PVP-2, 0x040: Table PVP-1. -/
def PVP_STD : Row := { page := 0x079, off := 0x040, wid := 2, acc := .rws, cls := .c }
/-- Table PVP-2, 0x040: R444. -/
def PVP_WIDTH16 : Row := { page := 0x079, off := 0x040, lo := 4, wid := 1, acc := .rws, cls := .c }
/-- Table PVP-2, 0x040: 0–3 stream, 4 mosaic. -/
def PVP_SRC : Row := { page := 0x079, off := 0x040, lo := 8, wid := 3, acc := .rws, cls := .c }
/-- Table PVP-2, 0x044: R447. -/
def PVP_MOSAIC_MAP : Row := { page := 0x079, off := 0x044, wid := 16, acc := .rws, cls := .c, reset := 0x3210 }
/-- Table PVP-2, 0x048: ms; 0 never. -/
def PVP_STALE_MS : Row := { page := 0x079, off := 0x048, wid := 16, acc := .rws, cls := .c, reset := 0xC8 }
/-- Table PVP-2, 0x04C: R448. -/
def PVP_STALE_RGB : Row := { page := 0x079, off := 0x04C, wid := 24, acc := .rws, cls := .c, reset := 0x808080 }
/-- Table PVP-2, 0x050: per quadrant, or bit 0; field in progress. -/
def PVP_STALE : Row := { page := 0x079, off := 0x050, wid := 4, acc := .ro, live := true }
/-- Table PVP-2, 0x050: per quadrant, or bit 0; field in progress. -/
def PVP_FIELD_NOW : Row := { page := 0x079, off := 0x050, lo := 8, wid := 1, acc := .ro, live := true }
/-- Table PVP-2, 0x054: saturating (R446). -/
def PVP_FLIPS : Row := { page := 0x079, off := 0x054, wid := 16, acc := .ro, cls := .c }
/-- Table PVP-2, 0x054: saturating (R446). -/
def PVP_DROPPED : Row := { page := 0x079, off := 0x054, lo := 16, wid := 16, acc := .ro, cls := .c }
/-- Table I2C-4, 0x040: 0x48 + ADDR[1:0]. -/
def I2C_OWN_ADDR : Row := { page := 0x008, off := 0x040, wid := 7, acc := .ro, cls := .c }
/-- Table I2C-4, 0x044: R468, R484. -/
def I2C_ATTN_ADDR : Row := { page := 0x008, off := 0x044, wid := 7, acc := .rw, cls := .c, reset := 8 }
/-- Table I2C-4, 0x044: R468. -/
def I2C_ATTN_EN : Row := { page := 0x008, off := 0x044, lo := 8, wid := 1, acc := .rw, cls := .c }
/-- Table I2C-4, 0x044: 0 100 kHz, 1 400 kHz, 2 1 MHz. -/
def I2C_ATTN_SPEED : Row := { page := 0x008, off := 0x044, lo := 12, wid := 2, acc := .rw, cls := .c, reset := 1 }
/-- Table I2C-4, 0x044: R469. -/
def I2C_ATTN_RETRY : Row := { page := 0x008, off := 0x044, lo := 16, wid := 4, acc := .rw, cls := .c, reset := 8 }
/-- Table I2C-4, 0x048: ms; 0 none. -/
def I2C_ATTN_REPEAT : Row := { page := 0x008, off := 0x048, wid := 16, acc := .rw, cls := .c }
/-- Table I2C-4, 0x04C: µs (R465). -/
def I2C_HOLD_US : Row := { page := 0x008, off := 0x04C, wid := 16, acc := .rw, cls := .c, reset := 0x64 }
/-- Table I2C-4, 0x050: R466. -/
def I2C_WAKE_EN : Row := { page := 0x008, off := 0x050, wid := 1, acc := .rw, cls := .c, reset := 1 }
/-- Table I2C-4, 0x054: R488. -/
def I2C_SDA_HELD : Row := { page := 0x008, off := 0x054, wid := 1, acc := .ro, live := true }
/-- Table I2C-4, 0x054: attempts in progress. -/
def I2C_ATTN_BUSY : Row := { page := 0x008, off := 0x054, lo := 1, wid := 1, acc := .ro, live := true }
/-- Table I2C-4, 0x054: R469. -/
def I2C_GAVE_UP : Row := { page := 0x008, off := 0x054, lo := 2, wid := 1, acc := .w1c, cls := .c }
/-- Table I2C-4, 0x058: R464. -/
def I2C_LAST_CODE : Row := { page := 0x008, off := 0x058, wid := 8, acc := .ro, cls := .c }
/-- Table I2C-4, 0x058: R464. -/
def I2C_REFUSALS : Row := { page := 0x008, off := 0x058, lo := 8, wid := 8, acc := .ro, cls := .c }
/-- Table I2C-4, 0x05C: saturating. -/
def I2C_SLEEP_NACKS : Row := { page := 0x008, off := 0x05C, wid := 16, acc := .ro, cls := .c }
/-- Table I2C-4, 0x05C: saturating. -/
def I2C_BUSY_NACKS : Row := { page := 0x008, off := 0x05C, lo := 16, wid := 16, acc := .ro, cls := .c }
/-- Table I2C-4, 0x060: saturating. -/
def I2C_LATE_NACKS : Row := { page := 0x008, off := 0x060, wid := 16, acc := .ro, cls := .c }
/-- Table I2C-4, 0x060: saturating. -/
def I2C_PARTIAL : Row := { page := 0x008, off := 0x060, lo := 16, wid := 16, acc := .ro, cls := .c }
/-- Table I2C-4, 0x064: saturating. -/
def I2C_ATTN_SENT : Row := { page := 0x008, off := 0x064, wid := 16, acc := .ro, cls := .c }
/-- Table I2C-4, 0x064: saturating. -/
def I2C_ATTN_LOST : Row := { page := 0x008, off := 0x064, lo := 16, wid := 16, acc := .ro, cls := .c }
/-- Table SPI-3, 0x040: µs (R472). -/
def SPI_HOLD_US : Row := { page := 0x009, off := 0x040, wid := 16, acc := .rw, cls := .c, reset := 0x64 }
/-- Table SPI-3, 0x040: R470. -/
def SPI_WAKE_EN : Row := { page := 0x009, off := 0x040, lo := 16, wid := 1, acc := .rw, cls := .c, reset := 1 }
/-- Table SPI-3, 0x044: R472. -/
def SPI_LAST_CODE : Row := { page := 0x009, off := 0x044, wid := 8, acc := .ro, cls := .c }
/-- Table SPI-3, 0x044: R472. -/
def SPI_REFUSALS : Row := { page := 0x009, off := 0x044, lo := 8, wid := 8, acc := .ro, cls := .c }
/-- Table SPI-3, 0x048: saturating. -/
def SPI_NOT_READY_TX : Row := { page := 0x009, off := 0x048, wid := 16, acc := .ro, cls := .c }
/-- Table SPI-3, 0x048: saturating. -/
def SPI_BUSY_TX : Row := { page := 0x009, off := 0x048, lo := 16, wid := 16, acc := .ro, cls := .c }
/-- Table SPI-3, 0x04C: saturating. -/
def SPI_PARTIAL : Row := { page := 0x009, off := 0x04C, wid := 16, acc := .ro, cls := .c }
/-- Table SPI-3, 0x04C: saturating. -/
def SPI_PROTOCOL_ERRS : Row := { page := 0x009, off := 0x04C, lo := 16, wid := 16, acc := .ro, cls := .c }
/-- Table CMDQ-3, 0x100: next item word (R473). -/
def CMDQ_DATA : Row := { page := 0x00A, off := 0x100, ocount := 4, ostride := 0x40, wid := 32, acc := .wo, live := true }
/-- Table CMDQ-3, 0x104: header alias (R478). -/
def CMDQ_START : Row := { page := 0x00A, off := 0x104, ocount := 4, ostride := 0x40, wid := 32, acc := .wo, live := true }
/-- Table CMDQ-3, 0x108: R477. -/
def CMDQ_FLUSH : Row := { page := 0x00A, off := 0x108, ocount := 4, ostride := 0x40, wid := 1, acc := .wo, live := true }
/-- Table CMDQ-3, 0x10C: words held; words free. -/
def CMDQ_LEVEL : Row := { page := 0x00A, off := 0x10C, ocount := 4, ostride := 0x40, wid := 7, acc := .ro, cls := .c }
/-- Table CMDQ-3, 0x10C: words held; words free. -/
def CMDQ_FREE : Row := { page := 0x00A, off := 0x10C, ocount := 4, ostride := 0x40, lo := 8, wid := 7, acc := .ro, cls := .c, reset := 0x40 }
/-- Table CMDQ-3, 0x10C: complete items held. -/
def CMDQ_ITEMS : Row := { page := 0x00A, off := 0x10C, ocount := 4, ostride := 0x40, lo := 16, wid := 6, acc := .ro, cls := .c }
/-- Table CMDQ-3, 0x10C: R477. -/
def CMDQ_RESYNC : Row := { page := 0x00A, off := 0x10C, ocount := 4, ostride := 0x40, lo := 24, wid := 1, acc := .ro, cls := .c }
/-- Table CMDQ-3, 0x10C: R477. -/
def CMDQ_WAIT_START : Row := { page := 0x00A, off := 0x10C, ocount := 4, ostride := 0x40, lo := 25, wid := 1, acc := .ro, cls := .c }
/-- Table CMDQ-3, 0x10C: R477. -/
def CMDQ_FLUSH_DONE : Row := { page := 0x00A, off := 0x10C, ocount := 4, ostride := 0x40, lo := 26, wid := 1, acc := .w1c, cls := .c }
/-- Table CMDQ-3, 0x10C: R477. -/
def CMDQ_FLUSH_PEND : Row := { page := 0x00A, off := 0x10C, ocount := 4, ostride := 0x40, lo := 27, wid := 1, acc := .ro, cls := .c }
/-- Table CMDQ-3, 0x110: oldest completion (R476). -/
def CMDQ_TAG : Row := { page := 0x00A, off := 0x110, ocount := 4, ostride := 0x40, wid := 16, acc := .ro, cls := .c }
/-- Table CMDQ-3, 0x110: oldest completion (R476). -/
def CMDQ_CODE : Row := { page := 0x00A, off := 0x110, ocount := 4, ostride := 0x40, lo := 16, wid := 8, acc := .ro, cls := .c }
/-- Table CMDQ-3, 0x110: R476. -/
def CMDQ_FLUSHED : Row := { page := 0x00A, off := 0x110, ocount := 4, ostride := 0x40, lo := 24, wid := 1, acc := .ro, cls := .c }
/-- Table CMDQ-3, 0x110: R476. -/
def CMDQ_MET : Row := { page := 0x00A, off := 0x110, ocount := 4, ostride := 0x40, lo := 25, wid := 1, acc := .ro, cls := .c }
/-- Table CMDQ-3, 0x110: R476. -/
def CMDQ_VALID : Row := { page := 0x00A, off := 0x110, ocount := 4, ostride := 0x40, lo := 31, wid := 1, acc := .ro, cls := .c }
/-- Table CMDQ-3, 0x114: Table CMDQ-1. -/
def CMDQ_RESULT : Row := { page := 0x00A, off := 0x114, ocount := 4, ostride := 0x40, wid := 32, acc := .ro, cls := .c }
/-- Table CMDQ-3, 0x118: R476. -/
def CMDQ_POP : Row := { page := 0x00A, off := 0x118, ocount := 4, ostride := 0x40, wid := 1, acc := .wo, live := true }
/-- Table CMDQ-3, 0x11C: saturating. -/
def CMDQ_PARTIAL_DISCARD : Row := { page := 0x00A, off := 0x11C, ocount := 4, ostride := 0x40, wid := 16, acc := .ro, cls := .c }
/-- Table CMDQ-3, 0x11C: saturating. -/
def CMDQ_FLUSHED_ITEMS : Row := { page := 0x00A, off := 0x11C, ocount := 4, ostride := 0x40, lo := 16, wid := 16, acc := .ro, cls := .c }
/-- Table CMDQ-3, 0x120: saturating. -/
def CMDQ_EXECUTED : Row := { page := 0x00A, off := 0x120, ocount := 4, ostride := 0x40, wid := 16, acc := .ro, cls := .c }
/-- Table CMDQ-3, 0x120: saturating. -/
def CMDQ_HDR_REFUSED : Row := { page := 0x00A, off := 0x120, ocount := 4, ostride := 0x40, lo := 16, wid := 16, acc := .ro, cls := .c }
/-- Table SEQ-4, 0x048: script id to run (R480). -/
def SEQ_RUN : Row := { page := 0x00B, off := 0x048, wid := 16, acc := .wo, live := true }
/-- Table SEQ-4, 0x04C: ends the run after the item in progress (R481). -/
def SEQ_STOP : Row := { page := 0x00B, off := 0x04C, wid := 1, acc := .wo, live := true }
/-- Table SEQ-4, 0x050: script of the current or last run. -/
def SEQ_RUN_ID : Row := { page := 0x00B, off := 0x050, wid := 16, acc := .ro, cls := .c }
/-- Table SEQ-4, 0x050: 0 none, 1 running, 2 done, 3 stopped, 4 failed, 5 not met. -/
def SEQ_RUN_STATE : Row := { page := 0x00B, off := 0x050, lo := 16, wid := 3, acc := .ro, cls := .c }
/-- Table SEQ-4, 0x054: item at which the run ended (R481). -/
def SEQ_RUN_INDEX : Row := { page := 0x00B, off := 0x054, wid := 12, acc := .ro, cls := .c }
/-- Table SEQ-4, 0x054: code that ended the run. -/
def SEQ_RUN_CODE : Row := { page := 0x00B, off := 0x054, lo := 16, wid := 8, acc := .ro, cls := .c }
/-- Table SEQ-4, 0x060: script parameters (R480). -/
def SEQ_PARAM : Row := { page := 0x00B, off := 0x060, count := 8, stride := 4, wid := 32, acc := .rw, cls := .c }
/-- Table SEQ-4, 0x080: scripts run at DONE; 0 none (R482). -/
def SEQ_AUTO : Row := { page := 0x00B, off := 0x080, count := 4, stride := 4, wid := 16, acc := .rw, cls := .c }
/-- Table GRAN-10, 0x040: Table GRAN-2. -/
def GRAN_OPCODE : Row := { page := 0x080, off := 0x040, wid := 8, acc := .wo, live := true }
/-- Table GRAN-10, 0x044: byte offset. -/
def GRAN_ADDR : Row := { page := 0x080, off := 0x044, wid := 23, acc := .rw, cls := .c }
/-- Table GRAN-10, 0x048: bytes. -/
def GRAN_LEN : Row := { page := 0x080, off := 0x048, wid := 9, acc := .rw, cls := .c }
/-- Table GRAN-10, 0x04C: R497. -/
def GRAN_TYPE : Row := { page := 0x080, off := 0x04C, wid := 8, acc := .rw, cls := .c }
/-- Table GRAN-10, 0x04C: R497. -/
def GRAN_KEY : Row := { page := 0x080, off := 0x04C, lo := 8, wid := 16, acc := .rw, cls := .c }
/-- Table GRAN-10, 0x04C: 0 PARAM, 1 RECORDS. -/
def GRAN_REGION : Row := { page := 0x080, off := 0x04C, lo := 24, wid := 1, acc := .rw, cls := .c }
/-- Table GRAN-10, 0x050: ms (R496). -/
def GRAN_DEFER_MAX : Row := { page := 0x080, off := 0x050, wid := 16, acc := .rw, cls := .c, reset := 0x2710 }
/-- Table GRAN-10, 0x054: last job result. -/
def GRAN_RES_CODE : Row := { page := 0x080, off := 0x054, wid := 8, acc := .ro, cls := .c }
/-- Table GRAN-10, 0x054: last job result. -/
def GRAN_RES_OP : Row := { page := 0x080, off := 0x054, lo := 8, wid := 8, acc := .ro, cls := .c }
/-- Table GRAN-10, 0x054: cleared by the next OPCODE write. -/
def GRAN_RES_DONE : Row := { page := 0x080, off := 0x054, lo := 16, wid := 1, acc := .ro, cls := .c }
/-- Table GRAN-10, 0x058: R493, R279, R511. -/
def GRAN_HOST_JOB : Row := { page := 0x080, off := 0x058, wid := 1, acc := .ro, live := true }
/-- Table GRAN-10, 0x058: R493, R279, R511. -/
def GRAN_SAVING : Row := { page := 0x080, off := 0x058, lo := 1, wid := 1, acc := .ro, live := true }
/-- Table GRAN-10, 0x058: R493, R279, R511. -/
def GRAN_SCANNING : Row := { page := 0x080, off := 0x058, lo := 2, wid := 1, acc := .ro, live := true }
/-- Table GRAN-10, 0x058: R501. -/
def GRAN_SEQ_OPEN : Row := { page := 0x080, off := 0x058, lo := 3, wid := 1, acc := .ro, cls := .c }
/-- Table GRAN-10, 0x058: R501. -/
def GRAN_GROUP : Row := { page := 0x080, off := 0x058, lo := 4, wid := 7, acc := .ro, cls := .c }
/-- Table GRAN-10, 0x05C: R493. -/
def GRAN_FOUND_ADDR : Row := { page := 0x080, off := 0x05C, wid := 23, acc := .ro, cls := .c }
/-- Table GRAN-10, 0x060: R493. -/
def GRAN_FOUND_SEQ : Row := { page := 0x080, off := 0x060, wid := 16, acc := .ro, cls := .c }
/-- Table GRAN-10, 0x060: R493. -/
def GRAN_FOUND_LEN : Row := { page := 0x080, off := 0x060, lo := 16, wid := 11, acc := .ro, cls := .c }
/-- Table GRAN-10, 0x064: R510. -/
def GRAN_SCAN_ACC : Row := { page := 0x080, off := 0x064, wid := 32, acc := .ro, cls := .y }
/-- Table GRAN-10, 0x068: R511. -/
def GRAN_SCAN_LAST_S : Row := { page := 0x080, off := 0x068, wid := 32, acc := .ro, cls := .y }
/-- Table GRAN-10, 0x06C: saturating. -/
def GRAN_REFRESHED : Row := { page := 0x080, off := 0x06C, wid := 16, acc := .ro, cls := .y }
/-- Table GRAN-10, 0x06C: saturating. -/
def GRAN_RELOCATED : Row := { page := 0x080, off := 0x06C, lo := 16, wid := 16, acc := .ro, cls := .y }
/-- Table GRAN-10, 0x070: R514. -/
def GRAN_SPARE_FREE : Row := { page := 0x080, off := 0x070, wid := 9, acc := .ro, live := true }
/-- Table GRAN-10, 0x070: R498. -/
def GRAN_TORN : Row := { page := 0x080, off := 0x070, lo := 16, wid := 16, acc := .ro, cls := .c }
/-- Table GRAN-10, 0x074: saturating. DEDUCED, log 53, unsafe. -/
def GRAN_ECC_CORR : Row := { page := 0x080, off := 0x074, wid := 16, acc := .ro, cls := .c }
/-- Table GRAN-10, 0x074: saturating. -/
def GRAN_FAILS : Row := { page := 0x080, off := 0x074, lo := 16, wid := 16, acc := .ro, cls := .c }
/-- Table GRAN-10, 0x100: data; byte 4i + k in bits [8k+7:8k]. -/
def GRAN_BUF : Row := { page := 0x080, off := 0x100, count := 64, stride := 4, wid := 32, acc := .rw, cls := .c }
/-- Table GRAN-11, 0x040: R507. -/
def SHADOW_PF_EN : Row := { page := 0x081, off := 0x040, wid := 1, acc := .rw, cls := .c, reset := 1 }
/-- Table GRAN-11, 0x044: s; 0 none. -/
def SHADOW_AUTO_S : Row := { page := 0x081, off := 0x044, wid := 16, acc := .rw, cls := .c }
/-- Table GRAN-11, 0x048: R506. -/
def SHADOW_STORE : Row := { page := 0x081, off := 0x048, wid := 1, acc := .wo, live := true }
/-- Table GRAN-11, 0x04C: TARGET 0 A, 1 B. -/
def SHADOW_STORING : Row := { page := 0x081, off := 0x04C, wid := 1, acc := .ro, live := true }
/-- Table GRAN-11, 0x04C: TARGET 0 A, 1 B. -/
def SHADOW_READY : Row := { page := 0x081, off := 0x04C, lo := 1, wid := 1, acc := .ro, live := true }
/-- Table GRAN-11, 0x04C: TARGET 0 A, 1 B. -/
def SHADOW_TARGET : Row := { page := 0x081, off := 0x04C, lo := 2, wid := 1, acc := .ro, live := true }
/-- Table GRAN-11, 0x04C: 0 command or auto, 1 DORMANT or cut, 2 WDT, 3 power-fail. -/
def SHADOW_LAST_CAUSE : Row := { page := 0x081, off := 0x04C, lo := 4, wid := 2, acc := .ro, cls := .c }
/-- Table GRAN-11, 0x050: copy generations. -/
def SHADOW_GEN : Row := { page := 0x081, off := 0x050, count := 2, stride := 4, wid := 32, acc := .ro, live := true }
/-- Table GRAN-11, 0x058: saturating. -/
def SHADOW_STORES : Row := { page := 0x081, off := 0x058, wid := 16, acc := .ro, cls := .c }
/-- Table GRAN-11, 0x058: saturating. -/
def SHADOW_TORN : Row := { page := 0x081, off := 0x058, lo := 16, wid := 16, acc := .ro, cls := .c }
/-- Table GRAN-12, 0x040: R508. -/
def GPROT_USER_BP : Row := { page := 0x082, off := 0x040, wid := 2, acc := .rw, cls := .y }
/-- Table GRAN-12, 0x040: R508. -/
def GPROT_BOOT_WP : Row := { page := 0x082, off := 0x040, lo := 4, wid := 1, acc := .rw, cls := .y }
/-- Table GRAN-12, 0x044: R509. -/
def GPROT_FACTORY_LOCKED : Row := { page := 0x082, off := 0x044, wid := 1, acc := .ro }
/-- Table GRAN-12, 0x048: bit p: page p. -/
def GPROT_PAGE_LOCKED : Row := { page := 0x082, off := 0x048, wid := 16, acc := .ro }
/-- Table GRAN-12, 0x048: bit p: page p. -/
def GPROT_PAGE_RPROT : Row := { page := 0x082, off := 0x048, lo := 16, wid := 16, acc := .ro }
/-- Table WDT-2, 0x040: ms; 0 refused (R523). -/
def WDT_PERIOD : Row := { page := 0x003, off := 0x040, wid := 16, acc := .rww, cls := .y, reset := 0x3E8 }
/-- Table WDT-2, 0x044: 1/256 of the period; 0 refused. -/
def WDT_WINDOW_OPEN : Row := { page := 0x003, off := 0x044, wid := 9, acc := .rww, cls := .y, reset := 0x80 }
/-- Table WDT-2, 0x048: master 1–4 (R526, R527). -/
def WDT_SUPERVISOR : Row := { page := 0x003, off := 0x048, wid := 3, acc := .rww, cls := .y, reset := 1 }
/-- Table WDT-2, 0x04C: R530; write-once until POR_AON; every value, including 0x0000, is a valid key, and the first write of any value consumes the write-once. -/
def WDT_KEY : Row := { page := 0x003, off := 0x04C, wid := 16, acc := .rw1, cls := .y }
/-- Table WDT-2, 0x050: R529. -/
def WDT_CHALLENGE : Row := { page := 0x003, off := 0x050, wid := 16, acc := .ro, live := true }
/-- Table WDT-2, 0x054: R530. -/
def WDT_ANSWER : Row := { page := 0x003, off := 0x054, wid := 16, acc := .wo, live := true }
/-- Table WDT-2, 0x058: correct services, wrapping; 0 when EN rises. -/
def WDT_COUNT : Row := { page := 0x003, off := 0x058, wid := 32, acc := .ro, cls := .y }
/-- Table WDT-2, 0x05C: 0 off, 1 closed, 2 open, 3 paused, 4 expiring, 5 held. -/
def WDT_STATE : Row := { page := 0x003, off := 0x05C, wid := 3, acc := .ro, live := true }
/-- Table WDT-2, 0x05C: consecutive misses. -/
def WDT_MISSED : Row := { page := 0x003, off := 0x05C, lo := 8, wid := 2, acc := .ro, cls := .y }
/-- Table WDT-2, 0x05C: Table WDT-1. -/
def WDT_LAST_MISS : Row := { page := 0x003, off := 0x05C, lo := 12, wid := 3, acc := .ro, cls := .y }
/-- Table WDT-2, 0x05C: R535. -/
def WDT_DBG_HALT : Row := { page := 0x003, off := 0x05C, lo := 16, wid := 1, acc := .ro, live := true }
/-- Table WDT-2, 0x060: R535. -/
def WDT_DEBUG_PAUSE : Row := { page := 0x003, off := 0x060, wid := 1, acc := .rw, cls := .y, reset := 1 }
/-- Table WDT-2, 0x060: R535; a 0 leaves it unwritten (R69). -/
def WDT_DEBUG_LOCK : Row := { page := 0x003, off := 0x060, lo := 1, wid := 1, acc := .rw1, cls := .y }
/-- Table WDT-2, 0x064: saturating. -/
def WDT_MISSES : Row := { page := 0x003, off := 0x064, wid := 16, acc := .ro, cls := .y }
/-- Table WDT-2, 0x064: saturating. -/
def WDT_WDT_RESETS : Row := { page := 0x003, off := 0x064, lo := 16, wid := 16, acc := .ro, cls := .y }
/-- Table LOCK-3, 0x040: R536–R538. -/
def LOCK_TAKE : Row := { page := 0x005, off := 0x040, ocount := 8, ostride := 0x10, wid := 1, acc := .wo, live := true }
/-- Table LOCK-3, 0x040: R536–R538. -/
def LOCK_RELEASE : Row := { page := 0x005, off := 0x040, ocount := 8, ostride := 0x10, lo := 1, wid := 1, acc := .wo, live := true }
/-- Table LOCK-3, 0x040: R536–R538. -/
def LOCK_FORCE : Row := { page := 0x005, off := 0x040, ocount := 8, ostride := 0x10, lo := 2, wid := 1, acc := .wo, live := true }
/-- Table LOCK-3, 0x044: 0 free, 1 held, 2 orphaned. -/
def LOCK_STATE : Row := { page := 0x005, off := 0x044, ocount := 8, ostride := 0x10, wid := 2, acc := .ro, cls := .c }
/-- Table LOCK-3, 0x044: owning master. -/
def LOCK_OWNER : Row := { page := 0x005, off := 0x044, ocount := 8, ostride := 0x10, lo := 4, wid := 3, acc := .ro, cls := .c }
/-- Table LOCK-3, 0x044: owner's epoch at TAKE. -/
def LOCK_OWNER_EPOCH : Row := { page := 0x005, off := 0x044, ocount := 8, ostride := 0x10, lo := 8, wid := 8, acc := .ro, cls := .c }
/-- Table LOCK-3, 0x048: ms; 0 refused while HOLD_EN = 1. -/
def LOCK_HOLD_MAX : Row := { page := 0x005, off := 0x048, ocount := 8, ostride := 0x10, wid := 16, acc := .rw, cls := .c, reset := 0x3E8 }
/-- Table LOCK-3, 0x048: R540. -/
def LOCK_HOLD_EN : Row := { page := 0x005, off := 0x048, ocount := 8, ostride := 0x10, lo := 31, wid := 1, acc := .rw, cls := .c }
/-- Table LOCK-3, 0x04C: saturating. -/
def LOCK_TAKES : Row := { page := 0x005, off := 0x04C, ocount := 8, ostride := 0x10, wid := 16, acc := .ro, cls := .c }
/-- Table LOCK-3, 0x04C: saturating. -/
def LOCK_ORPHANS : Row := { page := 0x005, off := 0x04C, ocount := 8, ostride := 0x10, lo := 16, wid := 16, acc := .ro, cls := .c }
/-- Table EVT-3, 0x040: R543, R557. -/
def EVT_TOTAL : Row := { page := 0x006, off := 0x040, wid := 32, acc := .ro, cls := .c, reset := 0x20 }
/-- Table EVT-3, 0x044: R544. -/
def EVT_ACK : Row := { page := 0x006, off := 0x044, wid := 32, acc := .rw, cls := .c }
/-- Table EVT-3, 0x048: R544. -/
def EVT_UNREAD : Row := { page := 0x006, off := 0x048, wid := 9, acc := .ro, live := true }
/-- Table EVT-3, 0x048: R543. -/
def EVT_OVF : Row := { page := 0x006, off := 0x048, lo := 12, wid := 1, acc := .w1c, cls := .c }
/-- Table EVT-3, 0x04C: R548. -/
def EVT_HOLD_UNREAD : Row := { page := 0x006, off := 0x04C, wid := 1, acc := .rw, cls := .c }
/-- Table EVT-3, 0x050: saturating. -/
def EVT_OVERWRITTEN : Row := { page := 0x006, off := 0x050, wid := 16, acc := .ro, cls := .c }
/-- Table EVT-3, 0x050: saturating. -/
def EVT_XING_LOST : Row := { page := 0x006, off := 0x050, lo := 16, wid := 16, acc := .ro, cls := .c }
/-- Table EVT-3, 0x054: saturating (R546). -/
def EVT_YARD_LOST : Row := { page := 0x006, off := 0x054, wid := 16, acc := .ro, cls := .c }
/-- Table EVT-3, 0x800: slot word 0; rebuilt from the shadow mirror on a loss of class C (R547, R557). -/
def EVT_TS : Row := { page := 0x006, off := 0x800, count := 256, stride := 8, wid := 32, acc := .ro, cls := .c }
/-- Table EVT-3, 0x804: slot word 1; rebuilt from the shadow mirror on a loss of class C (R547, R557). -/
def EVT_CODE : Row := { page := 0x006, off := 0x804, count := 256, stride := 8, lo := 16, wid := 16, acc := .ro, cls := .c }
/-- Table EVT-3, 0x804: slot word 1; rebuilt from the shadow mirror on a loss of class C (R547, R557). -/
def EVT_DATA : Row := { page := 0x006, off := 0x804, count := 256, stride := 8, wid := 16, acc := .ro, cls := .c }
/-- Table SLU-4, 0x040: units held now: words, 16-byte units for x = 1–9. -/
def SLUICE_LEVEL : Row := { page := 0x00C, off := 0x040, ocount := 13, ostride := 0x10, wid := 16, acc := .ro, live := true }
/-- Table SLU-4, 0x040: highest LEVEL since cleared. -/
def SLUICE_PEAK : Row := { page := 0x00C, off := 0x040, ocount := 13, ostride := 0x10, lo := 16, wid := 16, acc := .ro, cls := .c }
/-- Table SLU-4, 0x044: saturating (R561). -/
def SLUICE_OVR : Row := { page := 0x00C, off := 0x044, ocount := 13, ostride := 0x10, wid := 16, acc := .ro, cls := .c }
/-- Table SLU-4, 0x044: saturating (R561). -/
def SLUICE_STALLS : Row := { page := 0x00C, off := 0x044, ocount := 13, ostride := 0x10, lo := 16, wid := 16, acc := .ro, cls := .c }
/-- Table SLU-4, 0x048: R571. -/
def SLUICE_FLUSHED : Row := { page := 0x00C, off := 0x048, ocount := 13, ostride := 0x10, wid := 1, acc := .w1c, cls := .c }
/-- Table SLU-4, 0x048: 1 clears PEAK. -/
def SLUICE_PEAK_CLR : Row := { page := 0x00C, off := 0x048, ocount := 13, ostride := 0x10, lo := 8, wid := 1, acc := .wo, live := true }
/-- Table SLU-4, 0x04C: capacity in LEVEL units. -/
def SLUICE_DEPTH : Row := { page := 0x00C, off := 0x04C, ocount := 13, ostride := 0x10, wid := 16, acc := .ro, rtab := [256, 3840, 3840, 3840, 3840, 256, 256, 256, 256, 1024, 64, 4, 4] }
/-- Table SLU-4, 0x140: merged pulses, all toggle crossings, saturating. DEDUCED, log 53, unsafe. -/
def SLUICE_PULSE_OVR : Row := { page := 0x00C, off := 0x140, wid := 16, acc := .ro, cls := .c }
/-- Table SLU-4, 0x144: held-data waits of the arbiter, saturating. -/
def SLUICE_HS_STALLS : Row := { page := 0x00C, off := 0x144, wid := 16, acc := .ro, cls := .c }
/-- Table SLU-4, 0x148: YARD and WDT writes posted, 0–16. -/
def SLUICE_POSTED : Row := { page := 0x00C, off := 0x148, wid := 5, acc := .ro, live := true }
/-- Table PIN-7, 0x040: Table PIN-3 (R580). -/
def PIN_FUNC : Row := { page := 0x007, off := 0x040, count := 24, stride := 4, wid := 4, acc := .rw, cls := .c, reset := 0xF }
/-- Table PIN-7, 0x040: 0 none, 1 down, 2 up. -/
def PIN_PULL : Row := { page := 0x007, off := 0x040, count := 24, stride := 4, lo := 4, wid := 2, acc := .rw, cls := .c }
/-- Table PIN-7, 0x040: R579. -/
def PIN_OD : Row := { page := 0x007, off := 0x040, count := 24, stride := 4, lo := 6, wid := 1, acc := .rw, cls := .c }
/-- Table PIN-7, 0x040: R579. -/
def PIN_INV : Row := { page := 0x007, off := 0x040, count := 24, stride := 4, lo := 7, wid := 1, acc := .rw, cls := .c }
/-- Table PIN-7, 0x040: port for LINK_UP_OUT. -/
def PIN_ARG : Row := { page := 0x007, off := 0x040, count := 24, stride := 4, lo := 8, wid := 2, acc := .rw, cls := .c }
/-- Table PIN-7, 0x040: 0 2 mA, 1 4 mA, 2 8 mA, 3 12 mA. -/
def PIN_DRIVE : Row := { page := 0x007, off := 0x040, count := 24, stride := 4, lo := 12, wid := 2, acc := .rw, cls := .c, reset := 1 }
/-- Table PIN-7, 0x040: master 0–4; 6 parallel port; 7 free. -/
def PIN_PAD_OWNER : Row := { page := 0x007, off := 0x040, count := 24, stride := 4, lo := 16, wid := 3, acc := .ro, cls := .c, reset := 7 }
/-- Table PIN-7, 0x0A0: live levels. -/
def PIN_GPIO_IN : Row := { page := 0x007, off := 0x0A0, wid := 24, acc := .ro, live := true }
/-- Table PIN-7, 0x0A4: R581. -/
def PIN_GPIO_OUT : Row := { page := 0x007, off := 0x0A4, wid := 24, acc := .rw, cls := .c }
/-- Table PIN-7, 0x0A8: supply good. -/
def PIN_SUPPLY_OK : Row := { page := 0x007, off := 0x0A8, wid := 3, acc := .ro, live := true }
/-- Table PIN-7, 0x0A8: R590. -/
def PIN_VBAT_LOW : Row := { page := 0x007, off := 0x0A8, lo := 3, wid := 1, acc := .ro, live := true }
/-- Table PIN-7, 0x0A8: R590. -/
def PIN_VBAT_HIGH : Row := { page := 0x007, off := 0x0A8, lo := 4, wid := 1, acc := .ro, live := true }
/-- Table PIN-7, 0x0A8: R577. -/
def PIN_VDDIO_3V3 : Row := { page := 0x007, off := 0x0A8, lo := 5, wid := 1, acc := .ro, live := true }
/-- Table PIN-7, 0x0AC: R598. -/
def PIN_SUPPLY_LOST : Row := { page := 0x007, off := 0x0AC, wid := 3, acc := .w1c, cls := .c }
/-- Table PIN-7, 0x0B0: latched (R578). -/
def PIN_STRAP_ROLE : Row := { page := 0x007, off := 0x0B0, wid := 2, acc := .ro, cls := .c }
/-- Table PIN-7, 0x0B0: latched (R578). -/
def PIN_STRAP_ADDR : Row := { page := 0x007, off := 0x0B0, lo := 2, wid := 2, acc := .ro, cls := .c }
/-- Table PIN-7, 0x0B0: latched (R578). -/
def PIN_STRAP_HOSTSEL : Row := { page := 0x007, off := 0x0B0, lo := 4, wid := 1, acc := .ro, cls := .c }
/-- Table PIN-7, 0x0B0: live strap levels, same order. -/
def PIN_STRAP_LIVE : Row := { page := 0x007, off := 0x0B0, lo := 8, wid := 5, acc := .ro, live := true }
/-- Table PIN-7, 0x0B4: drive codes as DRIVE. -/
def PIN_FPA_DRIVE : Row := { page := 0x007, off := 0x0B4, wid := 2, acc := .rw, cls := .c, reset := 1 }
/-- Table PIN-7, 0x0B4: drive codes as DRIVE. -/
def PIN_PVP_DRIVE : Row := { page := 0x007, off := 0x0B4, lo := 4, wid := 2, acc := .rw, cls := .c, reset := 2 }
/-- Table PIN-7, 0x0B8: instruction in force. -/
def PIN_TAP_IR : Row := { page := 0x007, off := 0x0B8, wid := 4, acc := .ro, reset := 2 }
/-- Table PIN-7, 0x0B8: R585, R587. -/
def PIN_TAP_HALT : Row := { page := 0x007, off := 0x0B8, lo := 4, wid := 1, acc := .ro }
/-- Table PIN-7, 0x0B8: R585, R587. -/
def PIN_TAP_EXTEST : Row := { page := 0x007, off := 0x0B8, lo := 5, wid := 1, acc := .ro }
/-- Table PIN-7, 0x0BC: PIN_CONFLICT refusals, saturating. -/
def PIN_CONFLICTS : Row := { page := 0x007, off := 0x0BC, wid := 16, acc := .ro, cls := .c }

/-- The block-area rows of the SYS page table(s). -/
def rowsSYS : List Row :=
  [SYS_ROLE, SYS_PIN_NOW, SYS_MISMATCH, SYS_SAFE, SYS_UNSTABLE, SYS_MOVED, SYS_PORTS, SYS_ARRAY, SYS_SKIPPED, SYS_PART, SYS_FAMILY, SYS_BASE_REV, SYS_METAL_REV, SYS_P_M0, SYS_PRIV, SYS_PRIV_LOCK, SYS_SESSION, SYS_EPOCH0, SYS_EPOCH1, SYS_LR_CODE, SYS_LR_MASTER, SYS_LR_WR, SYS_LR_PAGE, SYS_LR_WORD, SYS_REFUSAL_COUNT, SYS_DEFAULTED_SUMMARY, SYS_INT_SUMMARY, SYS_RESET_CAUSE, SYS_DORMANT_EXIT, SYS_RESET_LAST] ++
  [SYS_RESET_COUNT, SYS_RESET_THERMAL, SYS_RESET_KEY, SYS_RESET_IMAGE]
/-- The common header (Table REG-3) of a page whose PAGE_LOCK is of class C. -/
def rowsHDR : List Row := [HDR_BLOCK, HDR_INSTANCE, HDR_LAYOUT, HDR_BLOCK_REV, HDR_EN, HDR_DEFAULTED, HDR_BUSY, HDR_FAULT, HDR_INT_RAW, HDR_INT_EN, HDR_INT_PEND, HDR_INT_SET, HDR_ERR_CODE, HDR_ERR_MASTER, HDR_ERR_WR, HDR_ERR_OFFSET, HDR_ERR_CLR, HDR_OWNER, HDR_LOCK, HDR_GO, HDR_DROP, HDR_COUNT]
/-- The common header (Table REG-3) of a page whose PAGE_LOCK is of class Y (Table REG-2). -/
def rowsHDRY : List Row := [HDR_BLOCK, HDR_INSTANCE, HDR_LAYOUT, HDR_BLOCK_REV, HDR_EN, HDR_DEFAULTED, HDR_BUSY, HDR_FAULT, HDR_INT_RAW, HDR_INT_EN, HDR_INT_PEND, HDR_INT_SET, HDR_ERR_CODE, HDR_ERR_MASTER, HDR_ERR_WR, HDR_ERR_OFFSET, HDR_ERR_CLR, HDR_OWNER, HDR_LOCK_Y, HDR_GO, HDR_DROP, HDR_COUNT]
/-- The block-area rows of the YARD page table(s). -/
def rowsYARD : List Row :=
  [YARD_MODE_CMD, YARD_MODE, YARD_MODE_TARGET, YARD_MODE_BUSY, YARD_MODE_CAUSE, YARD_MODE_MASTER, YARD_POLICY, YARD_OUTSET, YARD_EFF_POLICY, YARD_POLICY_WHY, YARD_EFF_OUT, YARD_OUT_NA, YARD_START_MODE, YARD_ALARM_LIVE, YARD_STATE_REJECTS, YARD_SRC, YARD_XTAL_OK, YARD_XTAL_FAIL, YARD_RC_TRIM, YARD_SECONDS, YARD_SUBSEC, YARD_DRAIN_LIMIT, YARD_BUDGET, YARD_BUDGET_EN, YARD_ALLOWED, YARD_LIMIT_WC, YARD_UNMEETABLE, YARD_L4_BLOCKED, YARD_LAST_STATE, YARD_LAST_BAND] ++
  [YARD_WAKE_CAUSE, YARD_SLOT, YARD_EXIT_LAST, YARD_RESEED, YARD_LEARN_EN, YARD_EXIT, YARD_SAMPLES, YARD_PD_STATE, YARD_PD_FAULT, YARD_PD_FAULT8, YARD_DRAIN_DROP, YARD_DRAIN_CLR, YARD_MATCH_SEC, YARD_MATCH_TICK, YARD_HOLD_S, YARD_HOLDER, YARD_ARMED]
/-- The block-area rows of the CLK page table(s). -/
def rowsCLK : List Row :=
  [CLK_REQ, CLK_GRANT, CLK_KEEP]
/-- The block-area rows of the SEQ page table(s). -/
def rowsSEQ : List Row :=
  [SEQ_BOOT_PHASE, SEQ_BOOT_DONE, SEQ_IMG_COPY, SEQ_SHADOW_SRC, SEQ_LOFT_SRC, SEQ_GRAN_FIX, SEQ_TRIMS, SEQ_STALLS, SEQ_BOOT_TIME, SEQ_RUN, SEQ_STOP, SEQ_RUN_ID, SEQ_RUN_STATE, SEQ_RUN_INDEX, SEQ_RUN_CODE, SEQ_PARAM, SEQ_AUTO]
/-- The block-area rows of the FPA page table(s). -/
def rowsFPA : List Row :=
  [FPA_WIDTH, FPA_HEIGHT, FPA_MAP, FPA_ROW_PERIOD, FPA_FRAME_PERIOD, FPA_ROW_RST_W, FPA_COL_START, FPA_INT_START, FPA_INT_LEN, FPA_COL_PERIOD, FPA_FRAME_EFF, FPA_ROW_NOW, FPA_EN, FPA_TFPA_BAD, FPA_DIODE_DVBE]
/-- The block-area rows of the BIAS page table(s). -/
def rowsBIAS : List Row :=
  [BIAS_RAMP_MS, BIAS_OVR, BIAS_VDET_OVR, BIAS_VBLIND_OVR, BIAS_VSKIM_OVR, BIAS_VCM_OVR, BIAS_TRIM, BIAS_VDET_NOW, BIAS_OVL, BIAS_FAULT_CLR]
/-- The block-area rows of the BAND page table(s). -/
def rowsBAND : List Row :=
  [BAND_VDET_ON, BAND_VDET_IDLE, BAND_VBLIND, BAND_VSKIM, BAND_VCM, BAND_SETTLE, BAND_RISE, BAND_FALL, BAND_SHAPE, BAND_BAND_NOW]
/-- The block-area rows of the CH page table(s). -/
def rowsCH : List Row :=
  [CH_OFS_TRIM, CH_GAIN_TRIM, CH_CMP_SEL, CH_CMP_NOISE, CH_TCH, CH_TCH_REF, CH_CAL_COUNT, CH_CAL_LAST_S, CH_STATE, CH_DUE, CH_HELD, CH_UNSAVED, CH_SUSPECT, CH_DISAGREE, CH_HOLDS, CH_MATCH_OFS]
/-- The block-area rows of the CHCAL page table(s). -/
def rowsCHCAL : List Row :=
  [CHCAL_TEMP_DELTA, CHCAL_AGREE_OFS, CHCAL_AGREE_GAIN, CHCAL_NOISE_MAX, CHCAL_DEFER_MAX, CHCAL_RETRY_FRAMES, CHCAL_DISAGREE_MAX, CHCAL_MATCH_LIMIT, CHCAL_REQ0, CHCAL_REQ1, CHCAL_REFUSED0, CHCAL_REFUSED1, CHCAL_SLOT_A, CHCAL_SLOT_B, CHCAL_ACCEPTED, CHCAL_DISAGREED]
/-- The block-area rows of the MILL page table(s). -/
def rowsMILL : List Row :=
  [MILL_BLIND_EN, MILL_OG_EN, MILL_DRIFT_EN, MILL_BAD_EN, MILL_CN_EN, MILL_TF_EN, MILL_CLIP_BAD, MILL_OUT_FMT, MILL_SHIFT14, MILL_CN_THRESH, MILL_CN_SHIFT, MILL_CN_LIMIT, MILL_TF_SHIFT, MILL_TF_THRESH, MILL_LOFT_DEFER, MILL_ACTIVE, MILL_COMPLETE_A, MILL_COMPLETE_B, MILL_FILLING, MILL_SWITCH_PEND, MILL_TF_STORE, MILL_CHECKING, MILL_BC_FILL_START, MILL_BC_FILL_END, MILL_BC_SWITCH, MILL_BC_FILL_ABORT, MILL_BC_LOAD, MILL_BC_LOAD_SRC, MILL_FILL_CRC, MILL_TREF_A] ++
  [MILL_TREF_B, MILL_RESULT, MILL_CRC_CALC, MILL_REPLACED, MILL_UNREPAIRABLE, MILL_CLIPPED, MILL_LOFT_PAR, MILL_INPUT_LOSS, MILL_FRAME_COUNT, MILL_CN]
/-- The block-area rows of the DRIFT page table(s). -/
def rowsDRIFT : List Row :=
  [DRIFT_DT_NOW, DRIFT_DT_CLAMP, DRIFT_DNOW, DRIFT_C]
/-- The block-area rows of the NUC page table(s). -/
def rowsNUC : List Row :=
  [NUC_VETO, NUC_VETO_PIN_EN, NUC_SAVE_EN, NUC_DEFER_MAX, NUC_PERIOD_S, NUC_DT_REF, NUC_CONF_REF, NUC_CONF_FLOOR, NUC_CONF_BOOT, NUC_DECAY_T, NUC_DECAY_K, NUC_UPD_SHIFT, NUC_E_MAX, NUC_OUTLIER_MAX, NUC_SAVE_MIN_S, NUC_CLOSE, NUC_FORCE, NUC_STATE, NUC_DUE, NUC_VETO_IN, NUC_DEFER_EXP, NUC_CONF, NUC_LAST_S, NUC_LAST_T, NUC_DEFER_S, NUC_CLOSURES, NUC_FAILS, NUC_OUTLIERS, NUC_O_CLAMPED, NUC_FIRST_ROW] ++
  [NUC_SAVING]
/-- The block-area rows of the SHUT page table(s). -/
def rowsSHUT : List Row :=
  [SHUT_TYPE, SHUT_CH_CLOSE, SHUT_CH_OPEN, SHUT_T_CLOSE_MAX, SHUT_T_OPEN_MAX, SHUT_SETTLE_US, SHUT_MISS_MAX, SHUT_T_LAST_CLOSE, SHUT_T_LAST_OPEN, SHUT_MISS, SHUT_FAULTED, SHUT_CYCLES, SHUT_FAULT_CLR, SHUT_OVERRUNS]
/-- The block-area rows of the SOL page table(s). -/
def rowsSOL : List Row :=
  [SOL_RETRIG, SOL_HOLD_UNTIL_OFF, SOL_USE, SOL_BNR_EN, SOL_BNR_FALLBACK, SOL_TPK_EN, SOL_TPK_ABORT, SOL_DEAD, SOL_I_PEAK, SOL_I_HOLD, SOL_T_BOOST_MAX, SOL_T_PEAK, SOL_T_HOLD, SOL_T_MIN_OFF, SOL_I_HYST, SOL_CHOP_MIN, SOL_MOT_WIN_START, SOL_MOT_WIN_END, SOL_MOT_DIP, SOL_TPK_MIN, SOL_TPK_MAX, SOL_T_BST_WAIT, SOL_BST_DEFER, SOL_RSNS, SOL_I_SENSE_MIN, SOL_T_OPEN_DET, SOL_COIL_R20, SOL_COIL_RTH, SOL_COIL_TAU, SOL_COIL_TLIM] ++
  [SOL_COIL_THYS, SOL_FIRE, SOL_STOP, SOL_PHASE, SOL_PENDING, SOL_HOT, SOL_TRIPPED, SOL_TRIP_STICKY, SOL_MOTION, SOL_INHIBIT, SOL_LATCH, SOL_FLAGS, SOL_T_MOTION, SOL_T_TO_PEAK, SOL_I_NOW, SOL_TCOIL, SOL_INHIBIT_END, SOL_FIRES, SOL_COALESCED, SOL_TRIP_REJECTS, SOL_BST_REFUSALS, SOL_TRIP_CLR, SOL_FAULT_CLR]
/-- The block-area rows of the BOOST page table(s). -/
def rowsBOOST : List Row :=
  [BOOST_VSET, BOOST_FSW, BOOST_ON_DEMAND, BOOST_ILIM, BOOST_IDLE_MS, BOOST_START_MAX, BOOST_READY, BOOST_RUN, BOOST_OV, BOOST_TRIP_STICKY, BOOST_START_FAIL, BOOST_HOLDER, BOOST_VBST_NOW, BOOST_TRIP_CLR_REJECT, BOOST_TRIP_CLR, BOOST_FAULT_CLR, BOOST_TRIP_REJECTS, BOOST_TRIPS]
/-- The block-area rows of the TEMP page table(s). -/
def rowsTEMP : List Row :=
  [TEMP_TS0, TEMP_TS1, TEMP_TS2, TEMP_TS3, TEMP_TFPA, TEMP_THOUS, TEMP_THOUS_BAD, TEMP_BAND, TEMP_BAND_PREV, TEMP_TS_STATE, TEMP_THR_START, TEMP_THR_SPAN, TEMP_THR_RATE_MIN, TEMP_THR_EN, TEMP_ACTIVE, TEMP_AT_MIN, TEMP_THR_FRAMES, TEMP_DIODE_SLOPE, TEMP_DIODE_OFS, TEMP_AUX_EN, TEMP_NTC_R25, TEMP_NTC_BETA, TEMP_NTC_RPU, TEMP_TJ_PEAK, TEMP_PEAK_CLR]
/-- The block-area rows of the SENTRY page table(s). -/
def rowsSENTRY : List Row :=
  [SENTRY_RATE, SENTRY_LIVE_DET, SENTRY_POLARITY, SENTRY_DELTA, SENTRY_COUNT_MIN, SENTRY_ADAPT_SHIFT, SENTRY_ADAPT_SHIFT_X, SENTRY_LEARN_FRAMES, SENTRY_CONFIRM, SENTRY_HOLDOFF_S, SENTRY_GLOBAL_MAX, SENTRY_BG_RESET, SENTRY_ALARM, SENTRY_BG_READY, SENTRY_HOLDOFF, SENTRY_CONFIRM_CNT, SENTRY_EXCEED, SENTRY_ALARMS, SENTRY_SCENE_CHANGES, SENTRY_FRAMES, SENTRY_SKIPS, SENTRY_BAD_FRAMES, SENTRY_GRID_W, SENTRY_GRID_H, SENTRY_ZONE]
/-- The block-area rows of the LINK page table(s). -/
def rowsLINK : List Row :=
  [LINK_GEN_EN, LINK_MEDIUM, LINK_POC_EN, LINK_KA_EN, LINK_WAKE_EN, LINK_RETRAINS, LINK_RETRY_MS, LINK_STATE, LINK_GEN, LINK_PEER, LINK_LEGACY, LINK_LINKUPS, LINK_TRAIN_FAILS, LINK_ILIM, LINK_OC_BLANK, LINK_RETRIES, LINK_RPOC, LINK_POC_I, LINK_VPOC, LINK_PATH, LINK_POC_CAUSE, LINK_NO_LOAD, LINK_VIN_LOW, LINK_POC_CLR, LINK_WAKE_CMD, LINK_PEAK_CLR, LINK_POC_FAULTS, LINK_WAKE_SIGS, LINK_STALL_OVR, LINK_FRAMES_SKIPPED] ++
  [LINK_STALL_PEAK, LINK_AUTH_MODE, LINK_AUTH_REQ, LINK_FAIL_MAX, LINK_LAST_RESULT, LINK_BLOCKED, LINK_KEY_MISMATCH, LINK_CONSEC, LINK_AUTH_PASSES, LINK_AUTH_FAILS, LINK_AUTH_CLR, LINK_NONCE, LINK_LAST_FC, LINK_TUN_WDATA, LINK_TUN_ADDR, LINK_PENDING, LINK_REPLIES, LINK_NEXT_TAG, LINK_REP_TAG, LINK_REP_CODE, LINK_REP_WR, LINK_REP_UNKNOWN, LINK_REP_RST, LINK_REP_MASTER, LINK_REP_VALID, LINK_TUN_RDATA, LINK_TUN_POP, LINK_HEVT_POP, LINK_RRESET_KEY, LINK_RRESET_IMAGE] ++
  [LINK_SES_STATE, LINK_SESSIONS, LINK_RETX, LINK_MSG_LOST, LINK_RX_ERR, LINK_FRAMES_DUP, LINK_FRAME_GAPS, LINK_FEC_CORR, LINK_FEC_UNCORR, LINK_HEAD_STAT, LINK_RECOVERIES, LINK_HEVT_SEQ, LINK_HEVT_FLAGS, LINK_HEVT_VALID, LINK_HEVT_TS, LINK_HEVT_CODE, LINK_HEVT_DATA, LINK_HEVT_COUNT, LINK_HEVT_OVF, LINK_HEVT_LOST]
/-- The block-area rows of the LINKC page table(s). -/
def rowsLINKC : List Row :=
  [LINKC_TUNNEL_TIMEOUT, LINKC_KEY_PAGE, LINKC_KEY_EN, LINKC_EVT_FWD, LINKC_KCV, LINKC_KEY_STATE, LINKC_EVSEQ, LINKC_EVT_ACKED, LINKC_WAKE_REASON, LINKC_COLLIDED]
/-- The block-area rows of the DISP page table(s). -/
def rowsDISP : List Row :=
  [DISP_OUT_TYPE, DISP_MIRROR, DISP_ROT180, DISP_REPEAT_FILL, DISP_EMB_EN, DISP_PAL_SEL, DISP_FOV_SEL, DISP_LO_CLIP, DISP_HI_CLIP, DISP_PLATEAU, DISP_EQ_MIX, DISP_TM_SMOOTH, DISP_LC_GAIN, DISP_X0, DISP_Y0, DISP_WW, DISP_WH, DISP_ZOOM, DISP_FULL, DISP_WOUT, DISP_HOUT, DISP_FALLBACK, DISP_HIST_LO, DISP_HIST_HI, DISP_PAL0, DISP_PAL1]
/-- The block-area rows of the CSI page table(s). -/
def rowsCSI : List Row :=
  [CSI_LANES, CSI_CLK_CONT, CSI_V11_TIMING, CSI_LSLE_EN, CSI_RATE, CSI_VC_EN, CSI_REINIT, CSI_IN_FRAME, CSI_BW_REQ, CSI_FRAMES, CSI_TRUNC, CSI_LINES_FILLED, CSI_SKIPPED]
/-- The block-area rows of the PVP page table(s). -/
def rowsPVP : List Row :=
  [PVP_STD, PVP_WIDTH16, PVP_SRC, PVP_MOSAIC_MAP, PVP_STALE_MS, PVP_STALE_RGB, PVP_STALE, PVP_FIELD_NOW, PVP_FLIPS, PVP_DROPPED]
/-- The block-area rows of the I2C page table(s). -/
def rowsI2C : List Row :=
  [I2C_OWN_ADDR, I2C_ATTN_ADDR, I2C_ATTN_EN, I2C_ATTN_SPEED, I2C_ATTN_RETRY, I2C_ATTN_REPEAT, I2C_HOLD_US, I2C_WAKE_EN, I2C_SDA_HELD, I2C_ATTN_BUSY, I2C_GAVE_UP, I2C_LAST_CODE, I2C_REFUSALS, I2C_SLEEP_NACKS, I2C_BUSY_NACKS, I2C_LATE_NACKS, I2C_PARTIAL, I2C_ATTN_SENT, I2C_ATTN_LOST]
/-- The block-area rows of the SPI page table(s). -/
def rowsSPI : List Row :=
  [SPI_HOLD_US, SPI_WAKE_EN, SPI_LAST_CODE, SPI_REFUSALS, SPI_NOT_READY_TX, SPI_BUSY_TX, SPI_PARTIAL, SPI_PROTOCOL_ERRS]
/-- The block-area rows of the CMDQ page table(s). -/
def rowsCMDQ : List Row :=
  [CMDQ_DATA, CMDQ_START, CMDQ_FLUSH, CMDQ_LEVEL, CMDQ_FREE, CMDQ_ITEMS, CMDQ_RESYNC, CMDQ_WAIT_START, CMDQ_FLUSH_DONE, CMDQ_FLUSH_PEND, CMDQ_TAG, CMDQ_CODE, CMDQ_FLUSHED, CMDQ_MET, CMDQ_VALID, CMDQ_RESULT, CMDQ_POP, CMDQ_PARTIAL_DISCARD, CMDQ_FLUSHED_ITEMS, CMDQ_EXECUTED, CMDQ_HDR_REFUSED]
/-- The block-area rows of the GRAN page table(s). -/
def rowsGRAN : List Row :=
  [GRAN_OPCODE, GRAN_ADDR, GRAN_LEN, GRAN_TYPE, GRAN_KEY, GRAN_REGION, GRAN_DEFER_MAX, GRAN_RES_CODE, GRAN_RES_OP, GRAN_RES_DONE, GRAN_HOST_JOB, GRAN_SAVING, GRAN_SCANNING, GRAN_SEQ_OPEN, GRAN_GROUP, GRAN_FOUND_ADDR, GRAN_FOUND_SEQ, GRAN_FOUND_LEN, GRAN_SCAN_ACC, GRAN_SCAN_LAST_S, GRAN_REFRESHED, GRAN_RELOCATED, GRAN_SPARE_FREE, GRAN_TORN, GRAN_ECC_CORR, GRAN_FAILS, GRAN_BUF]
/-- The block-area rows of the SHADOW page table(s). -/
def rowsSHADOW : List Row :=
  [SHADOW_PF_EN, SHADOW_AUTO_S, SHADOW_STORE, SHADOW_STORING, SHADOW_READY, SHADOW_TARGET, SHADOW_LAST_CAUSE, SHADOW_GEN, SHADOW_STORES, SHADOW_TORN]
/-- The block-area rows of the GPROT page table(s). -/
def rowsGPROT : List Row :=
  [GPROT_USER_BP, GPROT_BOOT_WP, GPROT_FACTORY_LOCKED, GPROT_PAGE_LOCKED, GPROT_PAGE_RPROT]
/-- The block-area rows of the WDT page table(s). -/
def rowsWDT : List Row :=
  [WDT_PERIOD, WDT_WINDOW_OPEN, WDT_SUPERVISOR, WDT_KEY, WDT_CHALLENGE, WDT_ANSWER, WDT_COUNT, WDT_STATE, WDT_MISSED, WDT_LAST_MISS, WDT_DBG_HALT, WDT_DEBUG_PAUSE, WDT_DEBUG_LOCK, WDT_MISSES, WDT_WDT_RESETS]
/-- The block-area rows of the LOCK page table(s). -/
def rowsLOCK : List Row :=
  [LOCK_TAKE, LOCK_RELEASE, LOCK_FORCE, LOCK_STATE, LOCK_OWNER, LOCK_OWNER_EPOCH, LOCK_HOLD_MAX, LOCK_HOLD_EN, LOCK_TAKES, LOCK_ORPHANS]
/-- The block-area rows of the EVT page table(s). -/
def rowsEVT : List Row :=
  [EVT_TOTAL, EVT_ACK, EVT_UNREAD, EVT_OVF, EVT_HOLD_UNREAD, EVT_OVERWRITTEN, EVT_XING_LOST, EVT_YARD_LOST, EVT_TS, EVT_CODE, EVT_DATA]
/-- The block-area rows of the SLUICE page table(s). -/
def rowsSLUICE : List Row :=
  [SLUICE_LEVEL, SLUICE_PEAK, SLUICE_OVR, SLUICE_STALLS, SLUICE_FLUSHED, SLUICE_PEAK_CLR, SLUICE_DEPTH, SLUICE_PULSE_OVR, SLUICE_HS_STALLS, SLUICE_POSTED]
/-- The block-area rows of the PIN page table(s). -/
def rowsPIN : List Row :=
  [PIN_FUNC, PIN_PULL, PIN_OD, PIN_INV, PIN_ARG, PIN_DRIVE, PIN_PAD_OWNER, PIN_GPIO_IN, PIN_GPIO_OUT, PIN_SUPPLY_OK, PIN_VBAT_LOW, PIN_VBAT_HIGH, PIN_VDDIO_3V3, PIN_SUPPLY_LOST, PIN_STRAP_ROLE, PIN_STRAP_ADDR, PIN_STRAP_HOSTSEL, PIN_STRAP_LIVE, PIN_FPA_DRIVE, PIN_PVP_DRIVE, PIN_TAP_IR, PIN_TAP_HALT, PIN_TAP_EXTEST, PIN_CONFLICTS]

end Sys2Proof.Machine
end

