-- ==== Sys2Proof/Machine/State.lean ====
section
/-! DEFINITION. The state of the block, as plain data: every register field (in one sparse store over the rows of
Fields.lean), every buffer, queue, memory and counter the manual gives, and the queue of waiting commands. -/

namespace Sys2Proof.Machine

/-- Why a step stops. Nothing in the manual stops the block, and every command answers a next state: there is no reason.
DEDUCED, log 12, unsafe. -/
inductive Fault where
  deriving DecidableEq, Repr

/-- Why a command has no meaning here. -/
inductive Refusal where
  /-- Raised by `exec` for a command without a meaning; no command is left without one. Safe: nothing is claimed of it. -/
  | notModelled (mnemonic : String)
  deriving DecidableEq, Repr

/-- A log entry (R542): Yard seconds when raised, code, data. -/
structure Event where
  ts : Nat
  code : Nat
  data : Nat
  deriving DecidableEq, Repr

/-- The parts of the event log that are not registers: the shadow mirror (R547), entries logged during a store that
enter it when the store ends, the Yard buffer with its drops (R546), and a head's numbered entries with the counts of TOTAL they were
logged at, the newest 256 (R412); and EVSEQ as the last store took the mirror, which numbers what it restores. storedSeq: DEDUCED,
log 52, safe. -/
structure LogS where
  mirror : List Event
  late : List Event
  yardBuf : List Event
  yardDropped : Nat
  fwd : List (Nat × Nat)
  storedSeq : Nat
  deriving DecidableEq, Repr

/-- The watchdog's inner state (R523 to R535): whether it counts, the cycle in the period, the latched period length
and window opening in YCLK cycles, KEY's consumed write-once, the debug halt, and EXPIRING. -/
structure WdtS where
  running : Bool
  cycle : Nat
  len : Nat
  openAt : Nat
  keyUsed : Bool
  dbgHalt : Bool
  expiring : Bool
  deriving DecidableEq, Repr

/-- An exit from a low-power state in progress (R119, R139): the state left, the band at its origin, the classes it
serves, the slot of a WC4, whether it is measured (R140: not after an abandoned entry), and START_MODE at its start (R110). -/
structure Exit where
  left : Nat
  band : Nat
  classes : Nat
  slot : Option Nat
  measured : Bool
  startMode : Nat
  deriving DecidableEq, Repr

/-- A mode transition (R84): its target, the cause and the master it will report, and how far a DORMANT entry is. -/
structure Trans where
  target : Nat
  cause : Nat
  /-- The entry to DORMANT has begun: the store has run and the domains are closing (R88, R131). -/
  entering : Bool
  /-- The transition is the return from an abandoned DORMANT entry (R102). -/
  back : Bool
  deriving DecidableEq, Repr

/-- A WC4 service task (R104, R114): the slot that fired and the seconds of its hold that remain (host slots). -/
structure Service where
  slot : Nat
  holdLeft : Nat
  deriving DecidableEq, Repr

/-- The Yard's inner state: the challenge LFSR (R529), the crystal, the power state with the entry and the exit in
progress (R116 to R140), the mode transition (R84), the WC4 service task and its pending automatic return (R114,
R123), the captured SUBSEC (R112), the exit seeds and cells (R125, R126), the copy of the last latched role (R41),
the MODE_STUCK fault cause (R97), the thermal cut and the wakes it holds back (R342), the I2C address and the latched
WAKE_EN bits (R462, R490), domains whose overrun is logged (R133), lost supplies (R590), and the drives of the pads and of IRQ_N that
L3 holds (Table YARD-1); the host slot whose hold a WC4 exit brings, and a scan that slot 0 has asked for in DORMANT (R114, R510).
lfsr: DESIGN CHOICE, log 10, unsafe. -/
structure YardS where
  lfsr : Nat
  xtal : Bool
  pstate : Nat
  entering : Bool
  exit : Option Exit
  trans : Option Trans
  service : Option Service
  autoReturn : Bool
  secCap : Option Nat
  seeds : List Nat
  cells : List (List Nat)
  roleCopy : Option Nat
  stuck : Bool
  cut : Bool
  heldWakes : Nat
  ownAddr : Nat
  i2cWake : Bool
  spiWake : Bool
  drainLogged : Nat
  lostSupplies : Nat
  held : List (Option Bool)
  hostSlot : Option Nat
  scanTask : Bool
  deriving DecidableEq, Repr

/-- Reset and boot (R148 to R178): whether the internal reset is asserted, whether a boot runs, whether it has reached
step 6 and step 8, the kinds asserted since the last boot began, the strongest of them that this boot follows, a SOFT
or LINK reset that is draining with its IMAGE (R177), the supplies that are good, the wait at step 2 (R589), whether
a LINK0 frame was cut open, bit 0 (R133, R156), the M0 fault causes, the samples taken while the boot waits, and what a
POR_AON still has to bring: the defaults by role (R109, R527), the exit seeds (R126); a thermal cut that waits for DONE, and whether
the comparator made it (R346). -/
structure BootS where
  inReset : Bool
  booting : Bool
  served : Bool
  stored : Bool
  asserted : Nat
  kind : Nat
  drain : Option Bool
  vdd : Bool
  vdda : Bool
  vddio : Bool
  vddphy : Bool
  waiting : Option (Nat × Nat × Nat × Nat × Nat × Bool)
  cutStreams : Nat
  imageFault : Bool
  seedFault : Bool
  porRole : Bool
  porSeeds : Bool
  cut : Option Bool
  deriving DecidableEq, Repr

/-- A Loft image: the word every entry reads as unless overridden, and the overriding words, keys rising.
DESIGN CHOICE, log 1, safe. -/
structure Image where
  fill : Nat
  cells : Store
  deriving DecidableEq, Repr

/-- One operation of the Granary's program engine (R495, R635). DEDUCED, log 48, unsafe. -/
inductive GOp where
  | program (addr : Nat) (bytes : List Byte)
  | erase (sector : Nat)
  | burst (k : Nat)
  | journalOpen (what : Nat) (arg : Nat)
  | journalClose (what : Nat) (arg : Nat)
  | lockRow (pages rprot : Nat) (factory : Bool)
  | remap (sector pool : Nat)
  /-- One page of a sector under repair is programmed, with the content it has (R512). -/
  | rewrite
  | fieldStep (k : Nat)
  /-- A full journal sector is taken over (R635): the other one is erased, and an open entry written into it. -/
  | journalErase
  | journalCopy
  /-- An append whose place in its log is decided when it starts: the log, then the record's fields (R497, R499). -/
  | append (records : Bool) (typ : Nat) (grp : Bool) (gid key : Nat) (payload : List Byte)
  deriving DecidableEq, Repr

/-- A job of the program engine (Table GRAN-5): what it is, its rank, whether it can be refused, who ordered it,
whether its first operation has started, the operations that remain and the code it will end with.
DEDUCED, log 48, unsafe. -/
structure Job where
  op : Nat
  rank : Nat
  refusable : Bool
  master : Nat
  started : Bool
  ops : List GOp
  code : Nat
  arg : Nat
  deriving DecidableEq, Repr

/-- The Granary (R491 to R522): byte memory outside the three Loft images, the images of FACTORY, FIELD_A and
FIELD_B, the protection row, the open journal entries and how many entries the journal sector in use holds, the
relocated sectors, the retired pool sectors, the engine's jobs in order of arrival and the operation in progress,
whether a scan runs, the torn records already logged, the once-only spare-low mark, the empty-spare fault, a counter
of device writes of unstated format, the open record group: next id, master, members (R501), and `gap`: an operation has just
ended and the next one has only been chosen, so that accesses that come now fall between the two (R495); `ahead`: how many of the
waiting jobs arrived before the one in progress (R496); `spoiled`: the ranges, first byte and length, that a failed or cut program or erase
has left an undefined mix, until their sector is erased or relocated (R519).
DESIGN CHOICE, log 4, unsafe. pageLocked: DESIGN CHOICE, log 4, unsafe. pageRprot: DESIGN CHOICE, log 4, unsafe. factoryLocked: DESIGN CHOICE, log 4, unsafe. -/
structure GranS where
  mem : Memory
  factory : Image
  fieldA : Image
  fieldB : Image
  pageLocked : Nat
  pageRprot : Nat
  factoryLocked : Bool
  journal : List (Nat × Nat)
  jUsed : Nat
  remap : List (Nat × Nat)
  poolUsed : List Nat
  jobs : List Job
  cur : Option Job
  scanning : Bool
  tornSeen : List Nat
  spareLow : Bool
  spareFault : Bool
  devWrites : Nat
  groupNext : Nat
  groupMaster : Nat
  groupCount : Nat
  gap : Bool
  ahead : Nat
  spoiled : List (Nat × Nat)
  deriving DecidableEq, Repr

/-- The shadow store (R505 to R517): shadow SRAM, the store in progress (cause, bursts done) with its snapshot, the
power-fail commit, the latched outcome of a power-fail store (class Y), the device counts, and SCAN_ACC as the last store held it.
storing: DEDUCED, log 48, unsafe. -/
structure ShadowS where
  sram : Memory
  storing : Option (Nat × Nat)
  target : Nat
  snapshot : Memory
  pfCommitted : Bool
  outcome : Nat
  seconds : Nat
  boots : Nat
  band : List Nat
  fires : List Nat
  autoLeft : Nat
  scanAcc : Nat
  deriving DecidableEq, Repr

/-- A completion of a queue item (R476). -/
structure Completion where
  tag : Nat
  code : Nat
  flushed : Bool
  met : Bool
  result : Nat
  deriving DecidableEq, Repr

/-- A command queue (R473 to R478): complete items not yet started, the words held of a partial item and the words it will
have, the executing item (before its words: 1 a WAIT or POLL that a script fed, 0 another WAIT or POLL, 2 any item whose
access is being made), the completion FIFO, the words RESYNC
still discards, the items the flush in progress removed, and the last value a held POLL read (Table CMDQ-1). -/
structure Queue where
  items : List (List Nat)
  part : List Nat
  need : Nat
  busy : Option (List Nat)
  compl : List Completion
  resync : Nat
  waitStart : Bool
  flushing : Bool
  removed : Nat
  last : Nat
  deriving DecidableEq, Repr

/-- A script run of M0 (R480, R481): directory entry, sampled parameters, items not yet ended, the index of the next item,
and whether SEQ.STOP asked for its end. -/
structure Script where
  entry : Nat
  params : List Nat
  items : List (List Nat)
  index : Nat
  stop : Bool
  deriving DecidableEq, Repr

/-- The host interfaces (R461 to R490): the I2C address pointer, the transaction (a read or not), whether its address phase
was whole, its data words and the write buffer, what the target last answered; attention: attempts made and the one in
progress, events since the last message (Table I2C-3), a sleep refusal to be counted (Table I2C-2), the words and the
message sent; holds of L0; the SPI transaction (0 its command awaited, 1 ignored, 2 WRITE, 3 READ), ERR of the last one and
of this one, and what MISO carried; the posted writes to YARD and WDT (R563); the last word and code each master read; the
TAP's access result (R586); the queue served last, the queues, the script run, the next entry of the AUTO list.
lastRead: DEDUCED, log 6, safe. posted: DEDUCED, log 17, unsafe. lastQueue: DEDUCED, log 45, unsafe. -/
structure HostS where
  i2cPtr : Nat
  i2cTxn : Option Bool
  i2cAddr : Bool
  i2cWords : Nat
  i2cBuf : List (Nat × Nat)
  i2cAck : Bool
  i2cHold : Bool
  attnTries : Nat
  attnEvents : Nat
  attnDone : Bool
  sleepNack : Bool
  spiTxn : Option Nat
  spiErr : Bool
  spiErrNow : Bool
  spiHold : Bool
  miso : List Byte
  i2cOut : List Byte
  attnMsg : List Byte
  attnTo : Nat × Nat
  posted : List (Nat × Nat × Nat)
  lastRead : List (Nat × Nat)
  tapDone : Bool
  tapCode : Nat
  tapData : Nat
  lastQueue : Nat
  queues : List Queue
  script : Option Script
  autoNext : Nat
  deriving DecidableEq, Repr

/-- The Loft (R253): its two banks, which of them holds identity words (R161), and a fill check or a load
in progress: a load or not, the CRC-32 it must meet, and for a load the FIELD copy it tries and whether it may try
the other. -/
structure LoftS where
  bankA : Image
  bankB : Image
  identity : Option Nat
  checking : Option (Bool × Nat × Nat × Bool)
  deriving DecidableEq, Repr

/-- The temperature block (R329 to R350): no TS0 conversion has been made since PD_CORE opened, consecutive
disagreeing and agreeing conversions of R348, consecutive TS0 readings at or above 155 °C, a TJ_HIGH excursion in
progress, the last housing reading was invalid, and the first TS0 reading after a cut is still to be reported.
released: DEDUCED, log 49, unsafe. -/
structure TempS where
  first : Bool
  disagree : Nat
  agree : Nat
  hot : Nat
  tjHigh : Bool
  auxBad : Bool
  released : Bool
  deriving DecidableEq, Repr

/-- An actuator channel (R294 to R328): the switch that is on (1 HS_BST, 2 HS_BAT), the switch a dead time leads to, or 3 to 5
where it leads to none yet,
whether chopping holds the switch off, the minimum off time, what a start waits for (1 the rail, 2 READY) and its
order of arrival, whether the profile's origin has passed, whether motion and peak are decided, the master of the last
FIRE, the 5 µs watch, and the coil temperature in 1/256 °C with what its rounding has left over, in 2^-24 of that. -/
structure SolS where
  sw : Nat
  dead : Nat
  chopOff : Bool
  minOff : Bool
  wait : Nat
  order : Nat
  started : Bool
  motDone : Bool
  peakDone : Bool
  firedBy : Nat
  watch : Bool
  tc : Int
  frac : Int
  deriving DecidableEq, Repr

/-- What the channels share: arrivals counted, TRIP_N low or risen within 10 µs, and when HFRC stopped (R312). -/
structure SolCom where
  arrivals : Nat
  tripLow : Bool
  tripRecent : Bool
  stopped : Option (Nat × Nat)
  deriving DecidableEq, Repr

/-- The array timing and bias (R182 to R206): whether array frames are produced, a bias ramp (1 up, 2 down) and the VDET level it
started from, the row periods started in the frame and whether a frame is in progress, a stop asked for, a stop after the row in
progress (R203), a stop by an overload (R204), an overload held, a sentry frame in progress or due, the enables of Table REG-2A
latched at the last boundary; whether a valid Tfpa has been read and the latched Tj. The width, height, MAP and column grouping are
read from the registers in force; whether the last frame was throttled (R336). -/
structure FpaS where
  on : Bool
  ramp : Nat
  level : Nat
  row : Nat
  inFrame : Bool
  stop : Bool
  halt : Bool
  tripped : Bool
  ovl : Bool
  sentry : Bool
  due : Bool
  millOn : Bool
  driftOn : Bool
  nucOn : Bool
  tfpaValid : Bool
  tj : Int
  throttled : Bool
  deriving DecidableEq, Repr

/-- A calibration slot (R211 to R220): the instance, its stage (0 none, 1 overlap, 2 running, 3 awaiting handback), a
run without takeover, the sum of the overlap's code differences, TCH at the start of run 1, the outcome (1 accepted, 2
not accepted, 3 failed), the trims found, the entry of `CalS.order` that a commanded run came from, and whether it was selected in
SENTRY or with the timing stopped (R226). -/
structure Slot where
  inst : Nat
  stage : Nat
  offline : Bool
  sum : Int
  tref : Nat
  res : Nat
  cmp : Nat
  ofs : Int
  gain : Int
  asked : Option Nat
  rest : Bool
  deriving DecidableEq, Repr

/-- The calibration scheduler (R213 to R240): two slots, frames left of each retry wait, commanded requests in order of
arrival, failed converters, converters restored without trims, and the newest trim record of each converter. -/
structure CalS where
  slots : List Slot
  retry : List Nat
  order : List Nat
  failed : List Bool
  bare : List Bool
  trims : List (Nat × List Byte)
  deriving DecidableEq, Repr

/-- A pixel of the previous row, for bad-pixel replacement (R245). -/
structure Pix where
  v3 : Int
  v4 : Int
  good : Bool
  replaced : Bool
  deriving DecidableEq, Repr

/-- Statistics of a frame (Table MILL-7). -/
structure Stats where
  count : Nat
  sum : Int
  lo : Int
  hi : Int
  replaced : Nat
  unrep : Nat
  clipped : Nat
  par : Nat
  loss : Nat
  blind : Int
  blindN : Nat
  blind0 : Int
  blind0N : Nat
  deriving DecidableEq, Repr

/-- The Millrace (R241 to R267): the reference of each column and the sums it is formed from, the previous row, the
previous row's out16, column-noise sums, D[k], the frame's Tfpa, statistics of this frame and of the last one with its
counter, the clearing of the store due at the next boundary, a REPEAT frame and whether the last one was one, the
flags and causes of the frame, whether the last frame lost input, the frame's embedded lines and line 2 of the last frame that
carried pixels, whether the Millrace takes the frame, and whether it has counted one. -/
structure MillS where
  blind : List (Int × Nat)
  bref : List Int
  prev : List Pix
  prevOut : List Int
  cn : List (Int × Nat)
  drift : List Int
  tfpa : Int
  dtRun : Bool
  stats : Stats
  last : Option (Nat × Stats)
  clearTf : Bool
  rep : Bool
  wasRep : Bool
  flags : Nat
  causes : Nat
  lossPrev : Bool
  line1 : List Byte
  line2 : List Byte
  linePix : List Byte
  frame : Bool
  started : Bool
  deriving DecidableEq, Repr

/-- NUC and the shutter sequencer (R268 to R293): the value confidence decays from, whether LAST_T is set; a commanded
closure and its FORCE; the seconds of the first vetoed boundary; the closure's form (0 none, 1 split, 2 slow), its frame
count from F, whether closed is confirmed, measuring runs, the open command is out, opening is confirmed and the shutter
counts as open, the reason it failed, a second open pulse, the first row measured, whether the row that integrates is
measured and whether this frame holds a measured row, M, Tfpa sums, C before, the REPEAT source;
a boot pulse after which the shutter has not counted open, and that it has failed; whether a measured row went without its offset
update; the last completed save and a save that restarts; the level of the veto pin. -/
structure NucS where
  base : Nat
  tSet : Bool
  req : Bool
  force : Bool
  deferAt : Option Nat
  form : Nat
  frame : Nat
  closed : Bool
  measuring : Bool
  opening : Bool
  confirmed : Bool
  opened : Bool
  fail : Nat
  second : Bool
  first : Option Nat
  integ : Bool
  here : Bool
  m : Option Int
  tSum : Int
  tN : Nat
  cBefore : Nat
  src : Nat
  isOver : Bool
  dry : Bool
  bootPulse : Bool
  bootFail : Bool
  lastSave : Option Nat
  saveAgain : Bool
  pin : Bool
  deriving DecidableEq, Repr

/-- Sentry (R351 to R371): the bins of the row of bins in progress, the grid of the frame, whether a frame is binned and
whether its grid is complete, its input loss, the background, learning frames done, and a live detection that is due. -/
structure SenS where
  acc : List (Int × Nat)
  grid : List (Option Int)
  binning : Bool
  ready : Bool
  loss : Bool
  bg : List (Option Int)
  learned : Nat
  liveDue : Bool
  deriving DecidableEq, Repr

/-- A CMAC in progress: the chaining value and at most 16 bytes not yet enciphered. -/
structure Mac where
  x : List Nat
  buf : List Nat
  deriving DecidableEq, Repr

/-- A tunnelled access in the cab's pool (R407): `unsent`, its message was dropped before it was sent; `closed`, its message was answered
by NAK reason 2, and its completion waits for its turn (R409, R424). -/
structure TunAcc where
  tag : Nat
  wr : Bool
  addr : Nat
  data : Nat
  master : Nat
  unsent : Bool
  closed : Bool
  deriving DecidableEq, Repr

/-- A tunnel reply (R409). -/
structure Reply where
  tag : Nat
  code : Nat
  wr : Bool
  unknown : Bool
  rst : Bool
  master : Nat
  data : Nat
  deriving DecidableEq, Repr

/-- A head event that the cab holds (R413). -/
structure HEvt where
  seq : Nat
  flags : Nat
  ts : Nat
  code : Nat
  data : Nat
  deriving DecidableEq, Repr

/-- A control message of a window (R401, R402): its MSG, SEQ and payload, and how often it has been resent (R427). -/
structure Msg where
  msg : Nat
  seq : Nat
  words : List Nat
  tries : Nat
  deriving DecidableEq, Repr

/-- A frame received on a port (R398, R417): its counter, whether it is forwarded, whether a packet of it was discarded,
its format once line 1 is in, the CMAC so far. -/
structure RxFrame where
  counter : Nat
  shown : Bool
  bad : Bool
  width : Nat
  fmt : Nat
  mac : Mac
  deriving DecidableEq, Repr

/-- A port's link layer and negotiator (R375 to R428): the generation being trained and failed attempts, whether the port
has been UP since its session began, once-only marks, the power path's retries and its latch, the latch of the keep-alive and whether it has been reported, what keep-alive and
wake detection are latched, a signature sent since the coax node last rose; the send window, what waits, sequence numbers, the one NAK of a
gap, an acknowledgement owed; the pool, replies, head events, held accesses of a head, TUN_WDATA per master; the key;
the frame being received and the last one; the head's frame on the wire; and the words sent since the last command that
sends. out: DESIGN CHOICE, log 42, safe. -/
structure LinkS where
  gen : Nat
  attempts : Nat
  noPeer : Bool
  downLogged : Bool
  rateLogged : Bool
  retries : Nat
  pocLatched : Bool
  kaFault : Bool
  kaTold : Bool
  kaEn : Bool
  wakeEn : Bool
  signature : Bool
  peerPor : Bool
  window : List Msg
  waiting : List Msg
  nextSeq : Nat
  expSeq : Nat
  nakSent : Bool
  ackOwed : Bool
  pool : List TunAcc
  replies : List Reply
  hevts : List HEvt
  lastEv : Option Nat
  firstEv : Bool
  held : List TunAcc
  wdata : List Nat
  rrMaster : List Nat
  action : List Nat
  key : Option (List Nat)
  downgraded : Bool
  authRun : Bool
  lastFc : Option Nat
  rx : Option RxFrame
  dropped : Nat
  resumed : Bool
  sending : Bool
  txMac : Mac
  status : Nat
  out : List (List Nat)
  deriving DecidableEq, Repr

/-- What the ports share (LINKC): the session marks of a head (FRESH and POR, R406), the next log entry to forward and
the one up to which entries are marked HELD (R412). -/
structure LinkCom where
  fresh : Bool
  por : Bool
  fwd : Nat
  heldTo : Nat
  porNow : Bool
  deriving DecidableEq, Repr

/-- An output line in the making: the pattern and the 8-bit index of each pixel of the window, and whether it stands for a
missing line (R431, R441). -/
structure VLine where
  raw : List Nat
  idx : List Nat
  fill : Bool
  deriving DecidableEq, Repr

/-- A CSI-2 packet: virtual channel, data type, and what it carries: the frame or line number, bytes, or pixels (R438).
DESIGN CHOICE, log 14, safe. -/
structure CsiPkt where
  vc : Nat
  dt : Nat
  items : List Nat
  deriving DecidableEq, Repr

/-- A picture in RGB, before scaling (R445): the lines from top to bottom. -/
structure Pict where
  stream : Nat
  width : Nat
  height : Nat
  lines : List (List Nat)
  deriving DecidableEq, Repr

/-- The output context of a stream (R429 to R442, R454): whether its frame is in progress, goes out on CSI-2 and feeds PVP;
counter, REPEAT, whether line 1 is in; format and size; the window of the frame; the window's lines, the input rows taken,
the lines sent and filled; the fallback of this frame and of the one before; size of the frame before; histogram, map
with its lo and hi; the direction of the orientation store and the lines it holds with their data type; whether the last
frame was cut short. -/
structure VidS where
  live : Bool
  csi : Bool
  pvp : Bool
  ctr : Nat
  rep : Bool
  shaped : Bool
  fmt : Nat
  width : Nat
  height : Nat
  x0 : Nat
  y0 : Nat
  ww : Nat
  wh : Nat
  zoom : Bool
  lines : List VLine
  row : Nat
  sent : Nat
  filled : Nat
  back : Bool
  lastW : Nat
  lastH : Nat
  hist : Store
  map : Option (List Nat × Nat × Nat)
  alt : Bool
  store : Option (Nat × List (List Nat))
  cut : Bool
  deriving DecidableEq, Repr

/-- What a part of the PVP picture area shows (R445 to R448): nothing, the STALE_RGB fill, or a picture, with its place. -/
structure Tile where
  x : Nat
  y : Nat
  w : Nat
  h : Nat
  fill : Option Nat
  pic : Option Pict
  deriving DecidableEq, Repr

/-- A double buffer of the PVP store (R446, R448, R460): the front picture, a picture that is ready, stale, and whether STALE_RGB fills
it, which PVP_STALE has reported. -/
structure Quad where
  front : Option Pict
  ready : Option Pict
  stale : Bool
  fill : Bool
  deriving DecidableEq, Repr

/-- The outputs (R436 to R457): the packets of the last command that sent any, a PHY restart that is due, PVP's
enable as latched, the four buffers, what the raster shows, the shown sources, and whether an output frame is in progress.
sent: DESIGN CHOICE, log 42, safe. -/
structure OutS where
  sent : List CsiPkt
  reinit : Bool
  pvpOn : Bool
  quads : List Quad
  screen : List Tile
  shown : List (Option Nat)
  raster : Bool
  deriving DecidableEq, Repr

/-- A channel without a profile. -/
def SolS.idle : SolS := ⟨0, 0, false, false, 0, 0, false, true, true, 0, false, 0, 0⟩

/-- A slot that does nothing. -/
def Slot.none : Slot := ⟨0xFF, 0, false, 0, 0, 0, 0, 0, 0, .none, false⟩

/-- Everything the scheduler holds is abandoned (R233). -/
def CalS.idle : CalS :=
  ⟨[Slot.none, Slot.none], List.replicate 34 0, [], List.replicate 34 false, List.replicate 34 false, []⟩

/-- Nothing counted. -/
def Stats.zero : Stats := ⟨0, 0, 0, 0, 0, 0, 0, 0, 0, 0, 0, 0, 0⟩

/-- A CMAC over nothing. -/
def Mac.start : Mac := ⟨List.replicate 16 0, []⟩

/-- A port at rest. -/
def LinkS.idle : LinkS :=
  { gen := 0, attempts := 0, noPeer := false, downLogged := false, rateLogged := false, retries := 0,
    pocLatched := false, kaFault := false, kaTold := false, kaEn := false, wakeEn := false, signature := false, peerPor := false,
    window := [], waiting := [], nextSeq := 0, expSeq := 0, nakSent := false, ackOwed := false,
    pool := [], replies := [], hevts := [], lastEv := none, firstEv := false, held := [],
    wdata := List.replicate 5 0, rrMaster := [], action := [], key := none, downgraded := false, authRun := false,
    lastFc := none, rx := none, dropped := 0, resumed := false, sending := false, txMac := Mac.start, status := 0,
    out := [] }

/-- A stream without a frame. -/
def VidS.idle : VidS :=
  { live := false, csi := false, pvp := false, ctr := 0, rep := false, shaped := false, fmt := 0, width := 640,
    height := 512, x0 := 0, y0 := 0, ww := 640, wh := 512, zoom := false, lines := [], row := 0, sent := 0,
    filled := 0, back := false, lastW := 640, lastH := 512, hist := [], map := none, alt := false, store := none,
    cut := false }

/-- An empty buffer. -/
def Quad.empty : Quad := ⟨none, none, true, false⟩

/-- The array timing at rest. -/
def FpaS.idle : FpaS :=
  ⟨false, 0, 0, 0, false, false, false, false, false, false, false, false, false, false, false, 0, false⟩

/-- The Millrace at rest: the store is to be cleared at the first boundary (R267). -/
def MillS.idle : MillS :=
  ⟨[], [], [], [], [], [], 0, false, Stats.zero, none, true, false, false, 0, 0, false, [], [], [], false, false⟩

/-- NUC at rest. -/
def NucS.idle : NucS :=
  ⟨0, false, false, false, none, 0, 0, false, false, false, false, false, 0, false, none, false, false, none, 0, 0, 0, 0,
    false, false, false, false, none, false, false⟩

/-- Sentry at rest. -/
def SenS.idle : SenS := ⟨[], [], false, false, false, [], 0, false⟩

/-- The outputs at rest. -/
def OutS.idle : OutS := ⟨[], false, false, List.replicate 4 Quad.empty, [], [], false⟩

/-- An empty command queue. -/
def Queue.empty : Queue := ⟨[], [], 0, none, [], 0, false, false, 0, 0⟩

/-- The host interfaces at rest. -/
def HostS.idle : HostS :=
  { i2cPtr := 0, i2cTxn := none, i2cAddr := false, i2cWords := 0, i2cBuf := [], i2cAck := false, i2cHold := false,
    attnTries := 0, attnEvents := 0, attnDone := false, sleepNack := false, spiTxn := none, spiErr := false, spiErrNow := false,
    spiHold := false, miso := [], i2cOut := [], attnMsg := [], attnTo := (0, 0), posted := [], lastRead := List.replicate 5 (0, 0), tapDone := false, tapCode := 0, tapData := 0,
    lastQueue := 3, queues := List.replicate 4 Queue.empty, script := none, autoNext := 4 }

/-- The Sluices at rest. -/
def sluIdle : List Bool := List.replicate 13 false


/-- The whole state.
freeCtr: DESIGN CHOICE, log 8, safe. pending: DEDUCED, log 13, unsafe. parity: DEDUCED, log 22, safe. -/
structure State where
  /-- The commands that wait, first in, first out. -/
  pending : List Instr
  /-- Every register field, at its reset value where not listed. -/
  regs : Store
  /-- Values staged in RWS fields (R54). -/
  staged : Store
  /-- Parity errors detected and not yet ended by a rewrite (R78), as page and word offset. -/
  parity : List (Nat × Nat)
  /-- On a page of several streams with GO set, the streams that have still to take the values (R54, R455), as page and
  stream. -/
  owed : List (Nat × Nat)
  log : LogS
  wdt : WdtS
  yard : YardS
  boot : BootS
  gran : GranS
  shadow : ShadowS
  host : HostS
  loft : LoftS
  /-- Per semaphore: 0 no hold limit was set at its TAKE, 1 the limit runs, 2 it expired while PD_CORE was off (R540). -/
  semHold : List Nat
  temp : TempS
  /-- The four channels; empty from a loss of class C until PD_SOL opens (R328). -/
  sol : List SolS
  solc : SolCom
  fpa : FpaS
  cal : CalS
  mill : MillS
  nuc : NucS
  sen : SenS
  link : List LinkS
  linkc : LinkCom
  vid : List VidS
  vout : OutS
  /-- Per numbered Sluice: an overrun episode is open (R561). -/
  slu : List Bool
  /-- A held-data write was abandoned: the cause of SLUICE.STATUS.FAULT, which stands until a loss of class C (R567, R632). -/
  hsFault : Bool
  /-- How many free values have been drawn. -/
  freeCtr : Nat
  deriving DecidableEq, Repr

/-- The machine right after reset: POR_AON has asserted, VAON and the other supplies are good again, and the internal reset
is still held (Table RST-1, Table RST-2). Every register field reads its reset value, because none is listed.
DESIGN CHOICE, log 1, safe. DEDUCED, log 3, safe. DESIGN CHOICE, log 4, unsafe. DESIGN CHOICE, log 5, unsafe. -/
def State.reset : State :=
  { pending := [], regs := [], staged := [], parity := [], owed := []
    log := ⟨[], [], [], 0, [], 0⟩
    wdt := ⟨false, 0, 0, 0, false, false, false⟩
    yard := { lfsr := 1, xtal := false, pstate := 0, entering := false, exit := none, trans := none, service := none,
              autoReturn := false, secCap := none, seeds := List.replicate 20 0, cells := List.replicate 20 [],
              roleCopy := none, stuck := false, cut := false, heldWakes := 0, ownAddr := 0, i2cWake := true, spiWake := true,
              drainLogged := 0, lostSupplies := 0, held := [], hostSlot := none, scanTask := false }
    boot := { inReset := true, booting := false, served := false, stored := false, asserted := 1, kind := 0, drain := none,
              vdd := true, vdda := true, vddio := true, vddphy := true, waiting := none, cutStreams := 0,
              imageFault := false, seedFault := false, porRole := true, porSeeds := true, cut := none }
    gran := { mem := [], factory := ⟨0xFFFFFFFF, []⟩, fieldA := ⟨0xFFFFFFFF, []⟩, fieldB := ⟨0xFFFFFFFF, []⟩,
              pageLocked := 0, pageRprot := 0, factoryLocked := false, journal := [], jUsed := 0, remap := [],
              poolUsed := [], jobs := [], cur := none, scanning := false, tornSeen := [], spareLow := false,
              spareFault := false, devWrites := 0, groupNext := 0, groupMaster := 0, groupCount := 0,
              gap := false, ahead := 0, spoiled := [] }
    shadow := { sram := [], storing := none, target := 0, snapshot := [], pfCommitted := false,
                outcome := 0, seconds := 0, boots := 0, band := List.replicate 5 0, fires := List.replicate 4 0,
                autoLeft := 0, scanAcc := 0 }
    host := HostS.idle
    loft := ⟨⟨0, []⟩, ⟨0, []⟩, none, none⟩
    semHold := List.replicate 8 0
    temp := ⟨true, 0, 0, 0, false, false, false⟩
    sol := []
    solc := ⟨0, false, false, none⟩
    fpa := FpaS.idle
    cal := CalS.idle
    mill := MillS.idle
    nuc := NucS.idle
    sen := SenS.idle
    link := List.replicate 4 LinkS.idle
    linkc := ⟨true, true, 0, 0, false⟩
    vid := List.replicate 4 VidS.idle
    vout := OutS.idle
    slu := sluIdle
    hsFault := false
    freeCtr := 0 }

end Sys2Proof.Machine
end

