-- ==== Sys2Proof/Machine/Crc.lean ====
section
/-! DEFINITION. The CRCs of the manual: CRC-32 with the parameters of R251, over bytes and over a whole Loft image,
and the little-endian byte order of R3. -/

namespace Sys2Proof.Machine

/-- `k` shifts of the reflected CRC-32 register (R251). -/
def crc32Shift : Nat → Nat → Nat
  | 0, c => c
  | k + 1, c => crc32Shift k (if c % 2 = 1 then (c / 2) ^^^ 0xEDB88320 else c / 2)

/-- One byte into the CRC-32 register. -/
def crc32Byte (c b : Nat) : Nat := crc32Shift 8 (c ^^^ b)

/-- CRC-32 of a byte sequence (R251: reflected, initial and final XOR 0xFFFF_FFFF). -/
def crc32 (bs : List Byte) : Nat := (bs.foldl (fun c b => crc32Byte c b.toNat) 0xFFFFFFFF) ^^^ 0xFFFFFFFF

/-- The four bytes of a word, lowest address first (R3). -/
def le32 (w : Nat) : List Byte :=
  [BitVec.ofNat 8 w, BitVec.ofNat 8 (w / 2 ^ 8), BitVec.ofNat 8 (w / 2 ^ 16), BitVec.ofNat 8 (w / 2 ^ 24)]

/-- The two bytes of a half word, lowest address first. -/
def le16 (w : Nat) : List Byte := [BitVec.ofNat 8 w, BitVec.ofNat 8 (w / 2 ^ 8)]

/-- The number that little-endian bytes hold. -/
def ofLe : List Byte → Nat
  | [] => 0
  | b :: l => b.toNat + 256 * ofLe l

/-- The word of an image at an index. -/
def Image.word (im : Image) (i : Nat) : Nat := im.cells.find i im.fill

/-- Store a word into an image. -/
def Image.setWord (im : Image) (i w : Nat) : Image := { im with cells := im.cells.set i w im.fill }

/-- The CRC-32 register after `n` words of an image from index `i` on, each as 4 bytes little-endian (R253). -/
def Image.crcFrom (im : Image) : Nat → Nat → Nat → Nat
  | 0, _, c => c
  | n + 1, i, c =>
    let w := im.word i
    im.crcFrom n (i + 1) ((le32 w).foldl (fun c b => crc32Byte c b.toNat) c)

/-- The words of a Loft bank (R253, Table REG-1). -/
def loftWords : Nat := 327680

/-- The CRC-32 of a bank over its 327,680 words in address order (R253). -/
def Image.crc (im : Image) : Nat := im.crcFrom loftWords 0 0xFFFFFFFF ^^^ 0xFFFFFFFF

/-- The image of identity words: offset 0, gain 1.0, class 0, not bad (Table RST-4). -/
def Image.identity : Image := ⟨0x00010000, []⟩

/-- A cleared image (R148). -/
def Image.zero : Image := ⟨0, []⟩

/-- An erased image (R159). DESIGN CHOICE, log 4, unsafe. -/
def Image.erased : Image := ⟨0xFFFFFFFF, []⟩

end Sys2Proof.Machine
end

