-- ==== Sys2Proof/Machine/Aes.lean ====
section
/-! DEFINITION. AES-128 and AES-128-CMAC (R416, R420), over lists of byte values, as FIPS 197 and SP 800-38B give them. -/

namespace Sys2Proof.Machine

/-- Multiply by x in GF(2^8) with the AES polynomial. -/
def xtime (a : Nat) : Nat := if a ≥ 128 then (2 * a - 256) ^^^ 0x1B else 2 * a

/-- Multiply in GF(2^8), over the low `n` bits of the second factor. -/
def gmul : Nat → Nat → Nat → Nat
  | 0, _, _ => 0
  | n + 1, a, b => (if b % 2 = 1 then a else 0) ^^^ gmul n (xtime a) (b / 2)

/-- The inverse in GF(2^8), as the 254th power; 0 maps to 0. -/
def ginv (a : Nat) : Nat :=
  (List.range 6).foldl (fun (e : Nat × Nat) _ =>
    let p := gmul 8 e.1 e.1
    (p, gmul 8 e.2 p)) (gmul 8 a a, gmul 8 a a) |>.2

/-- Rotate a byte left. -/
def rotl8 (a n : Nat) : Nat := (a * 2 ^ n) % 256 + a / 2 ^ (8 - n)

/-- The S-box. -/
def sbox (a : Nat) : Nat :=
  let b := ginv a
  b ^^^ rotl8 b 1 ^^^ rotl8 b 2 ^^^ rotl8 b 3 ^^^ rotl8 b 4 ^^^ 0x63

/-- Exclusive or of two byte lists. -/
def xorBytes (a b : List Nat) : List Nat := List.zipWith (· ^^^ ·) a b

/-- The next round key. -/
def nextKey (k : List Nat) (rcon : Nat) : List Nat :=
  let g := fun i => k.getD i 0
  let t := [sbox (g 13) ^^^ rcon, sbox (g 14), sbox (g 15), sbox (g 12)]
  let w0 := xorBytes (k.take 4) t
  let w1 := xorBytes ((k.drop 4).take 4) w0
  let w2 := xorBytes ((k.drop 8).take 4) w1
  w0 ++ w1 ++ w2 ++ xorBytes (k.drop 12) w2

/-- SubBytes and ShiftRows. -/
def subShift (s : List Nat) : List Nat :=
  (List.range 16).map fun i => sbox (s.getD ((i + 4 * (i % 4)) % 16) 0)

/-- MixColumns. -/
def mixColumns (s : List Nat) : List Nat :=
  (List.range 16).map fun i =>
    let g := fun j => s.getD (i / 4 * 4 + (i + j) % 4) 0
    gmul 8 (g 0) 2 ^^^ gmul 8 (g 1) 3 ^^^ g 2 ^^^ g 3

/-- Rounds 1 to 10: what is left of the round constants, the round key, the state. -/
def aesRounds : List Nat → List Nat → List Nat → List Nat
  | [], _, s => s
  | [rc], k, s => xorBytes (subShift s) (nextKey k rc)
  | rc :: l, k, s =>
    let k := nextKey k rc
    aesRounds l k (xorBytes (mixColumns (subShift s)) k)

/-- AES-128 of one block. -/
def aes (key blk : List Nat) : List Nat :=
  aesRounds [1, 2, 4, 8, 16, 32, 64, 128, 0x1B, 0x36] key (xorBytes blk key)

/-- KCV: the first 3 bytes of AES-128 of K over an all-zero block (R420), byte 0 lowest. -/
def kcvOf (key : List Nat) : Nat :=
  let e := aes key (List.replicate 16 0)
  e.getD 0 0 + e.getD 1 0 * 2 ^ 8 + e.getD 2 0 * 2 ^ 16

/-- Double in GF(2^128) (SP 800-38B), most significant byte first. -/
def dbl (l : List Nat) : List Nat :=
  let n := l.foldl (fun a b => a * 256 + b) 0
  let m := (2 * n) % 2 ^ 128 ^^^ (if n ≥ 2 ^ 127 then 0x87 else 0)
  (List.range 16).map fun i => m / 256 ^ (15 - i) % 256

/-- One more byte. -/
def Mac.push (key : List Nat) (m : Mac) (b : Nat) : Mac :=
  if m.buf.length = 16 then ⟨aes key (xorBytes m.x m.buf), [b]⟩ else { m with buf := m.buf ++ [b] }

/-- More words, each as 4 bytes little-endian (R416). -/
def Mac.words (key : List Nat) (m : Mac) (ws : List Nat) : Mac :=
  ws.foldl (fun m w => (le32 w).foldl (fun m b => Mac.push key m b.toNat) m) m

/-- The most significant 64 bits of the CMAC (R416). -/
def Mac.tag (key : List Nat) (m : Mac) : Nat :=
  let k1 := dbl (aes key (List.replicate 16 0))
  let last := if m.buf.length = 16 then xorBytes m.buf k1
    else xorBytes (m.buf ++ [0x80] ++ List.replicate (15 - m.buf.length) 0) (dbl k1)
  ((aes key (xorBytes m.x last)).take 8).foldl (fun a b => a * 256 + b) 0

end Sys2Proof.Machine
end

