-- ==== Sys2Proof/Machine/Ops.lean ====
section
/-! DEFINITION. The operations every block shares: reading and writing register fields, interrupt causes, the event
log, refusals, epochs and privilege. -/

namespace Sys2Proof.Machine

/-! ### Register fields -/

/-- A field's value (in force, for a staged field): element `i` on the row's `n`-th page.
DESIGN CHOICE, log 1, safe. -/
def State.get (s : State) (r : Row) (n i : Nat := 0) : Nat := s.regs.find (r.key n i) (r.rst i)

/-- Give a field a value, cut to its width. DESIGN CHOICE, log 1, safe. -/
def State.put (s : State) (r : Row) (v : Nat) (n i : Nat := 0) : State :=
  { s with regs := s.regs.set (r.key n i) (v % 2 ^ r.wid) (r.rst i) }

/-- What a staged field reads as: the staged value, or the value in force (R54, R57). -/
def State.getStaged (s : State) (r : Row) (n i : Nat := 0) : Nat := s.staged.find (r.key n i) (s.get r n i)

/-- Stage a value (R54); staging is held even where the value equals the one in force. -/
def State.stage (s : State) (r : Row) (v : Nat) (n i : Nat := 0) : State :=
  { s with staged := s.staged.insert (r.key n i) (v % 2 ^ r.wid) }

/-- Add to a counter that saturates at its width. -/
def State.addSat (s : State) (r : Row) (k : Nat) (n i : Nat := 0) : State :=
  s.put r (min (s.get r n i + k) (2 ^ r.wid - 1)) n i

/-- Advance a counter by one, saturating. -/
def State.inc (s : State) (r : Row) (n i : Nat := 0) : State := s.addSat r 1 n i

/-- Advance a counter by one, wrapping at its width. -/
def State.incWrap (s : State) (r : Row) (n i : Nat := 0) : State := s.put r (s.get r n i + 1) n i

/-- A flag as a Bool. -/
def State.on (s : State) (r : Row) (n i : Nat := 0) : Bool := s.get r n i != 0

/-- Write a flag. -/
def State.flag (s : State) (r : Row) (b : Bool) (n i : Nat := 0) : State := s.put r (bit b) n i

/-- Draw a fresh value that the manual leaves open. DESIGN CHOICE, log 8, safe. -/
def State.fresh (s : State) : Nat × State :=
  ((Config.freeWord s.freeCtr).toNat, { s with freeCtr := s.freeCtr + 1 })

/-! ### Pages -/

/-- The page table (Table REG-2): is there a page at this index? -/
def pageExists (p : Nat) : Bool :=
  p ≤ 0x00C || (0x010 ≤ p && p ≤ 0x012) || (0x020 ≤ p && p ≤ 0x041) || p == 0x048 ||
  (0x050 ≤ p && p ≤ 0x055) && p != 0x055 || (0x060 ≤ p && p ≤ 0x065) || (0x070 ≤ p && p ≤ 0x074) ||
  p == 0x078 || p == 0x079 || (0x080 ≤ p && p ≤ 0x082)

/-- The ordinal of a page (Table REG-2). -/
def ordinal (p : Nat) : Nat :=
  if p ≤ 0x00C then p
  else if p ≤ 0x012 then p - 0x010 + 13
  else if p ≤ 0x041 then p - 0x020 + 16
  else if p = 0x048 then 50
  else if p ≤ 0x054 then p - 0x050 + 51
  else if p ≤ 0x065 then p - 0x060 + 56
  else if p ≤ 0x074 then p - 0x070 + 62
  else if p ≤ 0x079 then p - 0x078 + 67
  else p - 0x080 + 69

/-- The indices of the 72 pages, in order. -/
def allPages : List Nat := (List.range 0x083).filter pageExists

/-- The pages whose PAGE_LOCK is of class Y (Table REG-2). -/
def lockIsY (p : Nat) : Bool := p == 0 || p == 1 || p == 3 || p == 0x074 || p == 0x082

/-- The PAGE_LOCK.LOCK row of a page. -/
def lockRow (p : Nat) : Row := if lockIsY p then HDR_LOCK_Y else HDR_LOCK

/-- The pages whose CTRL.EN is fixed at 1 (Table REG-2, R48). -/
def enFixed (p : Nat) : Bool :=
  p == 0 || p == 1 || p == 2 || (4 ≤ p && p ≤ 0x00C) || p == 0x074 || (0x080 ≤ p && p ≤ 0x082)

/-- The power domain of a page, as Table YARD-6 numbers it; `none` for the Yard (Table REG-2). -/
def pageDomain (p : Nat) : Option Nat :=
  if p = 1 ∨ p = 3 then none
  else if (0x010 ≤ p ∧ p ≤ 0x052) ∨ p = 0x054 then some 1
  else if 0x060 ≤ p ∧ p ≤ 0x065 then some 8
  else if 0x070 ≤ p ∧ p ≤ 0x073 then some (p - 0x070 + 2)
  else if p = 0x078 then some 6
  else if p = 0x079 then some 7
  else some 0

/-- The rows of a page's block area. -/
def blockRows (p : Nat) : List Row :=
  if p = 0x000 then rowsSYS
  else if p = 0x001 then rowsYARD
  else if p = 0x002 then rowsCLK
  else if p = 0x003 then rowsWDT
  else if p = 0x004 then rowsTEMP
  else if p = 0x005 then rowsLOCK
  else if p = 0x006 then rowsEVT
  else if p = 0x007 then rowsPIN
  else if p = 0x008 then rowsI2C
  else if p = 0x009 then rowsSPI
  else if p = 0x00A then rowsCMDQ
  else if p = 0x00B then rowsSEQ
  else if p = 0x00C then rowsSLUICE
  else if p = 0x010 then rowsFPA
  else if p = 0x011 then rowsBIAS
  else if p = 0x012 then rowsBAND
  else if 0x020 ≤ p ∧ p ≤ 0x041 then rowsCH
  else if p = 0x048 then rowsCHCAL
  else if p = 0x050 then rowsMILL
  else if p = 0x051 then rowsDRIFT
  else if p = 0x052 then rowsNUC
  else if p = 0x053 then rowsDISP
  else if p = 0x054 then rowsSENTRY
  else if 0x060 ≤ p ∧ p ≤ 0x063 then rowsSOL
  else if p = 0x064 then rowsBOOST
  else if p = 0x065 then rowsSHUT
  else if 0x070 ≤ p ∧ p ≤ 0x073 then rowsLINK
  else if p = 0x074 then rowsLINKC
  else if p = 0x078 then rowsCSI
  else if p = 0x079 then rowsPVP
  else if p = 0x080 then rowsGRAN
  else if p = 0x081 then rowsSHADOW
  else if p = 0x082 then rowsGPROT
  else []

/-- All rows of a page, header first. -/
def pageRows (p : Nat) : List Row := (if lockIsY p then rowsHDRY else rowsHDR) ++ blockRows p

/-- The rows that stand in the word at page offset `w`, each with its element number. -/
def wordRows (p w : Nat) : List (Row × Nat) :=
  (pageRows p).filterMap fun r => (r.at w).map fun i => (r, i)

/-- The word holds a field of a kind. -/
def wordHas (p off : Nat) (f : Row → Bool) : Bool := (wordRows p off).any fun e => f e.1

/-- A field that stores configuration (R51). -/
def Row.stored (r : Row) : Bool := r.acc == .rw || r.acc == .rws || r.acc == .rww || r.acc == .rw1 || r.acc == .w1s

/-- The word holds stored configuration, which carries a parity bit (R78). -/
def storedWord (p off : Nat) : Bool := wordHas p off Row.stored

/-- How many pages past the row's first page the page `p` is. -/
def Row.nth (r : Row) (p : Nat) : Nat := p - r.page

/-! ### Interrupts, defaults, log -/

/-- Set interrupt causes of a page (R49). -/
def State.raise (s : State) (p bits : Nat) : State := s.put HDR_INT_RAW (s.get HDR_INT_RAW p ||| bits) p

/-- Set DEFAULTED of a page and its summary bit (R12). -/
def State.setDefaulted (s : State) (p : Nat) : State :=
  let o := ordinal p
  (s.put HDR_DEFAULTED 1 p).put SYS_DEFAULTED_SUMMARY
    (s.get SYS_DEFAULTED_SUMMARY 0 (o / 32) ||| 2 ^ (o % 32)) 0 (o / 32)

/-- PD_STATE of a domain: 0 OFF, 1 OPENING, 2 ON, 3 CLOSING (R130). -/
def State.pd (s : State) (d : Nat) : Nat := bitsOf (s.get YARD_PD_STATE) (2 * d) 2

/-- Write PD_STATE of a domain. -/
def State.setPd (s : State) (d v : Nat) : State :=
  let w := s.get YARD_PD_STATE
  s.put YARD_PD_STATE (w - bitsOf w (2 * d) 2 * 2 ^ (2 * d) + v * 2 ^ (2 * d))

/-- PD_CORE is powered, so that the log RAM can be written (R546). -/
def State.coreOn (s : State) : Bool := s.pd 0 == 2 || s.pd 0 == 3

/-- A head that forwards events numbers the entry that is TOTAL's `total` (R412). DEDUCED, log 52, safe. -/
def State.numberEntry (s : State) (total : Nat) : State :=
  if s.get SYS_ROLE = 0 ∧ s.get LINKC_EVT_FWD = 1 then
    let q := (s.get LINKC_EVSEQ + 1) % 2 ^ 16
    { s.put LINKC_EVSEQ q with log := { s.log with fwd := (s.log.fwd ++ [(q, total)]).drop (s.log.fwd.length + 1 - 256) } }
  else s

/-- Write one entry into the next slot (R543, R544) and into the shadow mirror (R547); a head that forwards events
numbers it (R412). DEDUCED, log 52, safe. -/
def State.logSlot (s : State) (e : Event) : State :=
  let total := s.get EVT_TOTAL
  let i := total % 256
  let s := if (total + 2 ^ 32 - s.get EVT_ACK) % 2 ^ 32 ≥ 256
    then ((s.put EVT_OVF 1).inc EVT_OVERWRITTEN).raise 6 2 else s
  let s := ((s.put EVT_TS e.ts 0 i).put EVT_CODE e.code 0 i).put EVT_DATA e.data 0 i
  let s := (s.incWrap EVT_TOTAL).raise 6 1
  let s := s.numberEntry total
  if s.shadow.storing.isSome then { s with log := { s.log with late := s.log.late ++ [e] } }
  else { s with log := { s.log with mirror := (s.log.mirror ++ [e]).drop (s.log.mirror.length + 1 - 32) } }

/-- Raise an event (R542): logged at once, or held in the Yard buffer while PD_CORE is off (R546). Attention counts
the events since the last message delivered (Table I2C-3). DEDUCED, log 52, safe. -/
def State.event (s : State) (code data : Nat) : State :=
  let e : Event := ⟨s.get YARD_SECONDS, code % 2 ^ 16, data % 2 ^ 16⟩
  let s := { s with host := { s.host with attnEvents := min 31 (s.host.attnEvents + 1) } }
  if s.coreOn then s.logSlot e
  else if s.log.yardBuf.length < 8 then { s with log := { s.log with yardBuf := s.log.yardBuf ++ [e] } }
  else { s with log := { s.log with yardDropped := s.log.yardDropped + 1 } }

/-- Log the Yard buffer, in the order raised, once PD_CORE is on (R546). -/
def State.drainYardBuf (s : State) : State :=
  s.log.yardBuf.foldl State.logSlot { s with log := { s.log with yardBuf := [] } }

/-- After the first boot that follows a drop, report the drops (R546). -/
def State.reportYardLost (s : State) : State :=
  if s.log.yardDropped = 0 then s
  else
    let n := s.log.yardDropped
    let s := (s.addSat EVT_YARD_LOST n).event 0x0610 (min n 0xFFFF)
    { s with log := { s.log with yardDropped := 0 } }

/-- Entries logged during a store enter the mirror when it ends (R547). -/
def State.mirrorLate (s : State) : State :=
  let m := s.log.mirror ++ s.log.late
  { s with log := { s.log with mirror := m.drop (m.length - 32), late := [] } }

/-! ### Codes (Table SCOPE-6) -/

def cOK : Nat := 0x00
def cEMPTY : Nat := 0x01
def cSTATE : Nat := 0x02
def cZERO : Nat := 0x03
def cPRIV : Nat := 0x04
def cLOCKED : Nat := 0x05
def cCLOSING : Nat := 0x06
def cOFF : Nat := 0x07
def cBUSY : Nat := 0x08
def cPIN : Nat := 0x09
def cRANGE : Nat := 0x0A
def cWINDOW : Nat := 0x0B
def cRECOVERING : Nat := 0x0C
def cNVM : Nat := 0x0D
def cCHECK : Nat := 0x0E
def cALIGN : Nat := 0x0F
def cROLE : Nat := 0x10
def cOWNER : Nat := 0x11

/-! ### Refusals (R67, R98) -/

/-- Record an outcome in page `p`'s ERR_CODE and log ACCESS_REFUSED when its CODE was clear (R67). DEDUCED, log 20, unsafe. -/
def State.noteErr (s : State) (m : Nat) (wr : Bool) (p off code : Nat) : State :=
  let first := s.get HDR_ERR_CODE p == 0
  let s := (((s.put HDR_ERR_CODE code p).put HDR_ERR_MASTER m p).put HDR_ERR_WR (bit wr) p).put HDR_ERR_OFFSET off p
  if first then s.event (p * 0x100 + 0x01) (code + m * 2 ^ 8 + bit wr * 2 ^ 11) else s

/-- Record a refusal in page `p`'s ERR_CODE, in SYS.LAST_REFUSAL (with PAGE `lr` and the address bits [11:2]) and in
REFUSAL_COUNT; log ACCESS_REFUSED when the page's CODE was clear (R67). -/
def State.refuse (s : State) (m : Nat) (wr : Bool) (p lr off code : Nat) : State :=
  let s := s.noteErr m wr p off code
  let s := ((((s.put SYS_LR_CODE code).put SYS_LR_MASTER m).put SYS_LR_WR (bit wr)).put SYS_LR_PAGE lr).put SYS_LR_WORD
    (off / 4)
  s.inc SYS_REFUSAL_COUNT

/-- A refusal of an access to a register of page `p`. -/
def State.refusePage (s : State) (m : Nat) (wr : Bool) (p off code : Nat) : State :=
  s.refuse m wr p (p % 0x100) off code

/-- Log STATE_REJECTED and count it (R98): the legal-mode mask, the present mode, bit 6 for a blocking operation or a transition
in progress, and the block code. -/
def State.stateRejected (s : State) (mask : Nat) (blocking : Bool) (blk : Nat) : State :=
  (s.event 0x0010 (mask + s.get YARD_MODE * 2 ^ 4 + bit (blocking || s.on YARD_MODE_BUSY) * 2 ^ 6 + blk * 2 ^ 8)).inc YARD_STATE_REJECTS

/-- A refused access: the outcome and what it carries for R98. -/
structure Refuse where
  code : Nat
  mask : Nat := 0
  blocking : Bool := false
  deriving DecidableEq, Repr

/-- Record a refusal with R98's report where the code is STATE_REJECT, in the order of R630. -/
def State.refuseWith (s : State) (m : Nat) (wr : Bool) (p off : Nat) (r : Refuse) : State :=
  let s := s.refusePage m wr p off r.code
  if r.code = cSTATE then s.stateRejected r.mask r.blocking (p % 0x100) else s

/-! ### Masters (R58 to R62) -/

/-- Is master `m` privileged? M0 always is. -/
def State.priv (s : State) (m : Nat) : Bool := m == 0 || bitAt (s.get SYS_PRIV) (m - 1)

/-- Master `m`'s epoch (Table REG-6). -/
def State.epoch (s : State) (m : Nat) : Nat :=
  if m < 4 then bitsOf (s.get SYS_EPOCH0) (8 * m) 8 else s.get SYS_EPOCH1

/-- Advance an epoch from 0x01 to 0xFF and round to 0x01 (R61). -/
def State.advanceEpoch (s : State) (m : Nat) : State :=
  let e := s.epoch m
  let e' := if e = 0xFF then 1 else e + 1
  if m < 4 then s.put SYS_EPOCH0 (s.get SYS_EPOCH0 - e * 2 ^ (8 * m) + e' * 2 ^ (8 * m)) else s.put SYS_EPOCH1 e'

/-! ### Role, mode -/

def HEAD : Nat := 0
def CAB : Nat := 1
def DUO : Nat := 2

def DORMANT : Nat := 0
def SENTRY : Nat := 1
def LIVE : Nat := 2
def SERVICE : Nat := 3

/-- The latched role (Table ROLE-7). -/
def State.role (s : State) : Nat := s.get SYS_ROLE

/-- The device is in SAFE (R36). -/
def State.safe (s : State) : Bool := s.get SYS_SAFE == 1

/-- The mode in force (R82). -/
def State.mode (s : State) : Nat := s.get YARD_MODE

/-- BUSY: a transition is in progress (R84). -/
def State.busy (s : State) : Bool := s.get YARD_MODE_BUSY == 1

/-- DONE: the boot has ended (R157). -/
def State.done (s : State) : Bool := s.get SEQ_BOOT_DONE == 1

/-- The mode that the device runs in: the mode in force; from the start of a boot until its mode takes effect, the mode that the boot
enters (R110). -/
def State.runMode (s : State) : Nat :=
  if s.boot.booting || (s.done && s.mode == DORMANT) then s.get YARD_MODE_TARGET else s.mode

/-- Page `p` is present in the latched role (Table ROLE-2). In SAFE no page counts as absent (R37). -/
def State.present (s : State) (p : Nat) : Bool :=
  if s.safe then true
  else if (0x010 ≤ p ∧ p ≤ 0x052) ∨ p = 0x054 ∨ p = 0x065 then s.role != CAB
  else if p = 0x070 then s.role != DUO
  else if 0x071 ≤ p ∧ p ≤ 0x073 then s.role != HEAD
  else true

/-- CTRL.EN of a page; fixed at 1 where Table REG-2 says so (R48). -/
def State.en (s : State) (p : Nat) : Bool := enFixed p || s.get HDR_EN p == 1

/-- The modes in which a command is legal, as R98's mask. -/
def maskOf (modes : List Nat) : Nat := modes.foldl (fun a m => a + 2 ^ m) 0

/-! ### Crossings (R561, R571) -/

/-- A unit is dropped at crossing `x` (R561). DESIGN CHOICE, log 14, safe. -/
def State.sluiceOver (s : State) (x k : Nat) : State :=
  let s := (s.addSat SLUICE_OVR k 0 x).raise 0x00C 1
  if s.slu.getD x false then s else { s.event 0x0C10 x with slu := s.slu.set x true }

/-- Crossing `x` empties: the episode ends (R561). -/
def State.sluiceEmpty (s : State) (x : Nat) : State := { s with slu := s.slu.set x false }

/-- Crossing `x` has held `k` units (R573, Table SLU-4): PEAK, which shows the level in force where that is higher. -/
def State.sluicePeak (s : State) (x k : Nat) : State := s.put SLUICE_PEAK (max (s.get SLUICE_PEAK 0 x) k) 0 x

/-- A numbered Sluice is flushed of `k` units (R571). -/
def State.sluiceFlush (s : State) (x k : Nat) : State :=
  let s := (((s.put SLUICE_FLUSHED 1 0 x).raise 0x00C 2).sluiceEmpty x)
  s.event 0x0C11 (x + min k 0xFFF * 2 ^ 4)

end Sys2Proof.Machine
end

