-- ==== Sys2Proof/Machine/Flash.lean ====
section
/-! DEFINITION. The Granary's contents: reading and changing bytes, records (R497 to R501), two-copy images (R502,
R503) and the journal (R635). Addresses are byte offsets from 0x7000_0000. -/

namespace Sys2Proof.Machine

/-- Where the 0x14_0000 data bytes of the FACTORY, FIELD_A and FIELD_B Loft images start (Table GRAN-7). -/
def imageBase (k : Nat) : Nat := if k = 0 then 0x011000 else if k = 1 then 0x191000 else 0x311000

/-- Which Loft image an offset lies in, if any, and the word index there. -/
def inImage (a : Nat) : Option (Nat × Nat) :=
  if 0x011000 ≤ a ∧ a < 0x151000 then some (0, (a - 0x011000) / 4)
  else if 0x191000 ≤ a ∧ a < 0x2D1000 then some (1, (a - 0x191000) / 4)
  else if 0x311000 ≤ a ∧ a < 0x451000 then some (2, (a - 0x311000) / 4)
  else none

/-- One of the three Loft images held in the Granary: 0 FACTORY, 1 FIELD_A, 2 FIELD_B. -/
def GranS.image (g : GranS) (k : Nat) : Image := if k = 0 then g.factory else if k = 1 then g.fieldA else g.fieldB

/-- Replace one of the three Loft images. -/
def GranS.setImage (g : GranS) (k : Nat) (im : Image) : GranS :=
  if k = 0 then { g with factory := im } else if k = 1 then { g with fieldA := im } else { g with fieldB := im }

/-- The first of the four sectors of REMAP_A, REMAP_B, JOURNAL_A and JOURNAL_B, whose layout the manual does not
give, and the first pool sector (Table GRAN-1). -/
def deviceSectors : Nat := 0x662
def poolFirst : Nat := 0x666
def poolCount : Nat := 410

/-- The byte at an offset, as stored. DESIGN CHOICE, log 4, unsafe. -/
def GranS.byte (g : GranS) (a : Nat) : Byte :=
  match inImage a with
  | some (k, i) => BitVec.ofNat 8 ((g.image k).word i / 2 ^ (8 * (a % 4)))
  | none => g.mem.read a 0xFF

/-- `n` bytes from an offset. -/
def GranS.bytes (g : GranS) : Nat → Nat → List Byte
  | _, 0 => []
  | a, n + 1 => g.byte a :: g.bytes (a + 1) n

/-- The little-endian word at an offset. -/
def GranS.word (g : GranS) (a : Nat) : Nat :=
  match inImage a with
  | some (k, i) => (g.image k).word i
  | none => ofLe (g.bytes a 4)

/-- Make a byte hold a value. -/
def GranS.setByte (g : GranS) (a : Nat) (b : Byte) : GranS :=
  match inImage a with
  | some (k, i) =>
    let im := g.image k
    let w := im.word i
    let lo := 8 * (a % 4)
    g.setImage k (im.setWord i (w - bitsOf w lo 8 * 2 ^ lo + b.toNat * 2 ^ lo))
  | none => { g with mem := g.mem.write a b 0xFF }

/-- Program bytes: a program can only clear bits of an erased byte (R159). -/
def GranS.program (g : GranS) : Nat → List Byte → GranS
  | _, [] => g
  | a, b :: l => (g.setByte a (g.byte a &&& b)).program (a + 1) l

/-- Make `n` bytes from an offset read as erased. -/
def GranS.eraseBytes (g : GranS) : Nat → Nat → GranS
  | _, 0 => g
  | a, n + 1 => (g.setByte a 0xFF).eraseBytes (a + 1) n

/-- Erase a whole Loft image's words of one sector. -/
def Image.eraseWords (im : Image) : Nat → Nat → Image
  | _, 0 => im
  | i, n + 1 => (im.setWord i 0xFFFFFFFF).eraseWords (i + 1) n

/-- A failed or cut operation leaves a range an undefined mix (R519). -/
def GranS.spoil (g : GranS) (a n : Nat) : GranS := { g with spoiled := g.spoiled ++ [(a, n)] }

/-- A range holds a byte of an undefined mix, which is never read as data (R519). -/
def GranS.isSpoiled (g : GranS) (a n : Nat) : Bool := g.spoiled.any fun e => decide (e.1 < a + n ∧ a < e.1 + e.2)

/-- The sector is erased or relocated: nothing of it is an undefined mix any more (R519). -/
def GranS.unspoil (g : GranS) (sec : Nat) : GranS := { g with spoiled := g.spoiled.filter fun e => e.1 / 0x1000 != sec }

/-- Erase a sector. -/
def GranS.eraseSector (g : GranS) (sec : Nat) : GranS :=
  let g := g.unspoil sec
  match inImage (sec * 0x1000) with
  | some (k, i) => g.setImage k ((g.image k).eraseWords i 1024)
  | none => { g with mem := g.mem.filter (fun c => c.1 / 0x1000 != sec)
                     tornSeen := g.tornSeen.filter fun a => a / 0x1000 != sec }

/-- A range holds only erased bytes. -/
def GranS.isErased (g : GranS) : Nat → Nat → Bool
  | _, 0 => true
  | a, n + 1 => g.byte a == 0xFF && g.isErased (a + 1) n

/-- The sector an original sector's content lies in after relocation (R512); the content itself is held under the
original address. -/
def GranS.poolOwner (g : GranS) (sec : Nat) : Option Nat := (g.remap.find? fun e => e.2 == sec).map Prod.fst

/-- The word the read window shows at an offset (R492): a pool sector shows the content it holds for its original
sector, and a device sector of unstated layout shows a value the manual leaves open once it has been written.
DEDUCED, log 48, unsafe. -/
def GranS.window (g : GranS) (a : Nat) : Nat :=
  let sec := a / 0x1000
  if deviceSectors ≤ sec ∧ sec < poolFirst then
    if g.devWrites = 0 then 0xFFFFFFFF else (Config.freeWord (g.devWrites * 0x400000 + a)).toNat
  else
    match g.poolOwner sec with
    | some o => g.word (o * 0x1000 + a % 0x1000)
    | none => g.word a

/-- Region codes of Table GRAN-1. -/
inductive Region where
  | boot | factory | fieldA | fieldB | records | param | lockPages | user | shadow | spare
  deriving DecidableEq, Repr

/-- The region of an offset (R491). -/
def regionOf (a : Nat) : Region :=
  if a < 0x010000 then .boot
  else if a < 0x190000 then .factory
  else if a < 0x310000 then .fieldA
  else if a < 0x490000 then .fieldB
  else if a < 0x510000 then .records
  else if a < 0x550000 then .param
  else if a < 0x560000 then .lockPages
  else if a < 0x660000 then .user
  else if a < 0x662000 then .shadow
  else .spare

/-! ### Records (R497 to R501) -/

/-- A record as read from a log: where it starts, its fields, its payload bytes. -/
structure Rec where
  addr : Nat
  typ : Nat
  grp : Bool
  gid : Nat
  key : Nat
  seq : Nat
  payload : List Byte
  deriving DecidableEq, Repr

/-- The first sector and the number of sectors of a log: RECORDS or PARAM (Table GRAN-1). -/
def logFirst (records : Bool) : Nat := if records then 0x490 else 0x510
def logCount (records : Bool) : Nat := if records then 128 else 64

/-- Round up to a multiple of 4. -/
def up4 (n : Nat) : Nat := (n + 3) / 4 * 4

/-- The whole length of a record with an `n`-byte payload (Table GRAN-6). -/
def recLen (n : Nat) : Nat := 8 + up4 n + 4

/-- The bytes of a record (Table GRAN-6). -/
def recBytes (typ : Nat) (grp : Bool) (gid key seq : Nat) (payload : List Byte) : List Byte :=
  let body := [BitVec.ofNat 8 typ, BitVec.ofNat 8 (bit grp * 128 + gid)] ++ le16 key ++ le16 seq ++ le16 payload.length ++
    payload ++ List.replicate (up4 payload.length - payload.length) 0
  body ++ le32 (crc32 body)

/-- What stands at an offset of a sector: a valid record, one whose CRC fails, with the page boundary that follows it, or erased bytes. -/
inductive RecAt where
  | ok (r : Rec) (next : Nat)
  | torn (next : Nat)
  | free

/-- Read the record at an offset (R498): its CRC must pass and it must not cross its sector. A failed record whose length is none reaches
to the end of its page. -/
def GranS.recAt (g : GranS) (a : Nat) : RecAt :=
  let h := g.bytes a 8
  if h.all (· == 0xFF) then (if g.isSpoiled a 8 then .torn ((a / 256 + 1) * 256) else .free)
  else
    let n := ofLe (h.drop 6)
    let len := recLen n
    if n > 1024 ∨ a % 0x1000 + len > 0x1000 then .torn ((a / 256 + 1) * 256)
    else
      let bs := g.bytes a len
      if crc32 (bs.take (len - 4)) = ofLe (bs.drop (len - 4)) ∧ g.isSpoiled a len = false then
        .ok ⟨a, ofLe (h.take 1), bitAt (ofLe ((h.drop 1).take 1)) 7, ofLe ((h.drop 1).take 1) % 128,
          ofLe ((h.drop 2).take 2), ofLe ((h.drop 4).take 2), (bs.drop 8).take n⟩ (a + len)
      else .torn ((a + len + 255) / 256 * 256)

/-- Read a sector's records from an offset: after a failed record, reading goes on at the next page boundary, where
the next append started (R498). Answers the records in write order, where the failed ones start, and where the sector's free
space starts. -/
def GranS.sectorRecs (g : GranS) : Nat → Nat → List Rec × List Nat × Nat
  | 0, a => ([], [], a)
  | fuel + 1, a =>
    if a % 0x1000 + 12 > 0x1000 ∨ a % 0x1000 = 0 then ([], [], a)
    else
      match g.recAt a with
      | .free => ([], [], a)
      | .torn nx =>
        let (l, t, e) := g.sectorRecs fuel nx
        (l, a :: t, e)
      | .ok r nx =>
        let (l, t, e) := g.sectorRecs fuel nx
        (r :: l, t, e)

/-- The generation in a sector's 16-byte header, where its CRC passes (R497). -/
def GranS.sectorGen (g : GranS) (sec : Nat) : Option Nat :=
  let h := g.bytes (sec * 0x1000) 16
  if crc32 (h.take 12) = ofLe (h.drop 12) ∧ h.all (· == 0xFF) = false ∧ g.isSpoiled (sec * 0x1000) 16 = false then some (ofLe (h.take 4)) else none

/-- A sector header (R497). -/
def sectorHeader (gen : Nat) (records : Bool) : List Byte :=
  let h := le32 gen ++ [BitVec.ofNat 8 (bit (!records))] ++ List.replicate 7 0
  h ++ le32 (crc32 h)

/-- Insert by generation, ascending. -/
def insertGen (e : Nat × Nat) : List (Nat × Nat) → List (Nat × Nat)
  | [] => [e]
  | x :: l => if e.1 ≤ x.1 then e :: x :: l else x :: insertGen e l

/-- The sectors of a log in use, oldest generation first: generation and sector. -/
def GranS.logSectors (g : GranS) (records : Bool) : List (Nat × Nat) :=
  ((List.range (logCount records)).map (logFirst records + ·)).foldl
    (fun l sec => match g.sectorGen sec with | some n => insertGen (n, sec) l | none => l) []

/-- Every record of a log in write order, with the places of the failed ones. -/
def GranS.logRecs (g : GranS) (records : Bool) : List Rec × List Nat :=
  (g.logSectors records).foldl
    (fun (acc : List Rec × List Nat) e =>
      let (l, t, _) := g.sectorRecs 512 (e.2 * 0x1000 + 16)
      (acc.1 ++ l, acc.2 ++ t)) ([], [])

/-- The records of a group that opens with the begin record at the head of the list: the members before its end
record, the member count that the end record holds, and whether another begin record of the id comes first (R501). -/
def groupEnd (gid : Nat) : List Rec → Nat → Option (Nat × Nat)
  | [], _ => none
  | r :: l, n =>
    if r.typ = 0xFE ∧ r.key % 128 = gid then
      if r.payload.length = 2 then some (n, ofLe r.payload) else none
    else groupEnd gid l (if r.grp ∧ r.gid = gid then n + 1 else n)

/-- The records of a log that are valid (R498, R501), in write order: group markers left out, and GRP records kept
only inside a complete group. `live` maps an open group id to whether it is complete. -/
def validRecs : List Rec → List (Nat × Bool) → List Rec
  | [], _ => []
  | r :: l, live =>
    if r.typ = 0xFE then
      if r.payload.length = 0 then
        let ok := match groupEnd (r.key % 128) l 0 with | some (n, k) => n == k | none => false
        validRecs l ((r.key % 128, ok) :: live)
      else validRecs l ((r.key % 128, false) :: live)
    else if r.grp then
      match live.find? fun e => e.1 == r.gid with
      | some (_, true) => r :: validRecs l live
      | _ => validRecs l live
    else r :: validRecs l live

/-- SEQ `a` is newer than `b` (R498). -/
def seqNewer (a b : Nat) : Bool := let d := (a + 65536 - b) % 65536; 1 ≤ d && d ≤ 32767

/-- The newest valid record of a TYPE and KEY: the newest SEQ, and between equal ones the later in write order. -/
def newestRec (l : List Rec) (typ key : Nat) : Option Rec :=
  l.foldl (fun acc r =>
    if r.typ = typ ∧ r.key = key then
      match acc with
      | none => some r
      | some b => if seqNewer b.seq r.seq then acc else some r
    else acc) none

/-- The SEQ of the next record of a TYPE and KEY (R499). -/
def nextSeq (l : List Rec) (typ key : Nat) : Nat :=
  match newestRec l typ key with | some r => (r.seq + 1) % 65536 | none => 0

/-! ### Two-copy images (R502, R503) -/

/-- A generation is valid (R502). -/
def genValid (n : Nat) : Bool := n != 0 && n != 0xFFFFFFFF

/-- The copy header at an offset passes its generation and its own CRC (Table GRAN-7). -/
def GranS.headerOk (g : GranS) (a : Nat) : Bool :=
  let h := g.bytes a 32
  genValid (ofLe (h.take 4)) && crc32 (h.take 28) == ofLe (h.drop 28) && !g.isSpoiled a 32

/-- A Loft image copy (0 FACTORY, 1 FIELD_A, 2 FIELD_B): the offset of its header. -/
def copyBase (k : Nat) : Nat := imageBase k - 0x1000

/-- Its generation, TREF and stored data CRC (Table GRAN-7). -/
def GranS.copyGen (g : GranS) (k : Nat) : Nat := g.word (copyBase k)
def GranS.copyTref (g : GranS) (k : Nat) : Nat := ofLe (g.bytes (copyBase k + 8) 2)
def GranS.copyCrc (g : GranS) (k : Nat) : Nat := g.word (copyBase k + 16)

/-- The data of a Loft image copy hold no undefined mix (R519). -/
def GranS.copyWhole (g : GranS) (k : Nat) : Bool := !g.isSpoiled (imageBase k) 0x140000

/-- A Loft image copy is valid when its generation and both of its CRCs pass (R503). -/
def GranS.copyValid (g : GranS) (k : Nat) : Bool :=
  g.headerOk (copyBase k) && (g.image k).crc == g.copyCrc k && g.copyWhole k

/-- The FIELD copies that hold a valid header, the newer first; copy A counts as newer between equals (R503). -/
def GranS.fieldOrder (g : GranS) : List Nat :=
  let a := g.headerOk (copyBase 1)
  let b := g.headerOk (copyBase 2)
  if a && b then if g.copyGen 1 ≥ g.copyGen 2 then [1, 2] else [2, 1]
  else if a then [1] else if b then [2] else []

/-- BOOT copy `k`: its offset, whether it is valid, and its entries (Table GRAN-7). -/
def bootBase (k : Nat) : Nat := 0x6000 * k
def GranS.bootCount (g : GranS) (k : Nat) : Nat := g.word (bootBase k + 4)
def GranS.bootValid (g : GranS) (k : Nat) : Bool :=
  g.headerOk (bootBase k) && g.bootCount k * 8 + 32 ≤ 0x6000 &&
    crc32 (g.bytes (bootBase k + 32) (g.bootCount k * 8)) == g.word (bootBase k + 16) &&
    !g.isSpoiled (bootBase k + 32) (g.bootCount k * 8)

/-- The entries of a BOOT copy, each an address word and a data word (R502). -/
def GranS.bootEntries (g : GranS) (k : Nat) : List (Nat × Nat) :=
  (List.range (g.bootCount k)).map fun e => (g.word (bootBase k + 32 + 8 * e), g.word (bootBase k + 36 + 8 * e))

/-- SHADOW copy `k` (0 A, 1 B): its offset, generation, whether it is valid and whether it is erased (Table GRAN-8). -/
def shadowBase (k : Nat) : Nat := 0x660000 + 0x1000 * k
def GranS.shadowGen (g : GranS) (k : Nat) : Nat := g.word (shadowBase k + 0xFF0)
def GranS.shadowValid (g : GranS) (k : Nat) : Bool :=
  let bs := g.bytes (shadowBase k) 0x1000
  genValid (g.shadowGen k) && ofLe ((bs.drop 0xFF4).take 4) == 0x0FF0 && crc32 (bs.take 0xFFC) == ofLe (bs.drop 0xFFC) &&
    !g.isSpoiled (shadowBase k) 0x1000
def GranS.shadowErased (g : GranS) (k : Nat) : Bool :=
  !(g.mem.any fun c => c.1 / 0x1000 == 0x660 + k) && !g.isSpoiled (shadowBase k) 0x1000

/-- The newer valid SHADOW copy, if any (R503). -/
def GranS.shadowNewer (g : GranS) : Option Nat :=
  let a := g.shadowValid 0
  let b := g.shadowValid 1
  if a && b then if g.shadowGen 0 ≥ g.shadowGen 1 then some 0 else some 1
  else if a then some 0 else if b then some 1 else none

/-- The older copy: the target of the next store (R503, R506). -/
def GranS.shadowOlder (g : GranS) : Nat := match g.shadowNewer with | some 0 => 1 | _ => 0

end Sys2Proof.Machine
end

