-- ==== Sys2Proof/Machine/Yard.lean ====
section
/-! DEFINITION. The Yard: budgets and the choice of power state (R118 to R123, R136), learned exit times (R125,
R126), wakes and exits (R119, R139, R140), timer slots (R113 to R115) and clocks (R128). -/

namespace Sys2Proof.Machine

/-- The band TEMP reports (R332). -/
def State.band (s : State) : Nat := s.get TEMP_BAND

/-! ### Exit times -/

/-- Table YARD-3, in µs, at index 5 × (state − 1) + band. -/
def seedTable : List Nat :=
  [8, 5, 5, 6, 7, 110, 65, 60, 70, 85, 1600, 950, 900, 1000, 1200, 260000, 150000, 140000, 150000, 170000]

/-- The measurements a cell holds, oldest first (R125). -/
def State.cell (s : State) (i : Nat) : List Nat := s.yard.cells.getD i []

/-- A measurement plus 10 %, rounded up to 1 µs (R125). -/
def plusTenth (t : Nat) : Nat := (t * 11 + 9) / 10

/-- The exit time in force of state L`st` in a band (R125). -/
def State.exitTime (s : State) (st band : Nat) : Nat :=
  let i := 5 * (st - 1) + band
  let c := s.cell i
  let top := plusTenth (c.foldl max 0)
  if c.length ≥ 8 then top else max (s.yard.seeds.getD i 0) (if c.isEmpty then 0 else top)

/-- The exit time that the choice uses (R121): for L3 and L4 the largest of the band and its neighbours. -/
def State.choiceTime (s : State) (st : Nat) : Nat :=
  let b := s.band
  if st ≤ 2 then s.exitTime st b
  else max (s.exitTime st b) (max (if b = 0 then 0 else s.exitTime st (b - 1)) (if b ≥ 4 then 0 else s.exitTime st (b + 1)))

/-- File a measurement in its cell: the last eight are kept (R125). -/
def State.file (s : State) (st band us : Nat) : State :=
  let i := 5 * (st - 1) + band
  let c := s.cell i ++ [us]
  let c := c.drop (c.length - 8)
  let s := { s with yard := { s.yard with cells := s.yard.cells.set i c } }
  s.put YARD_SAMPLES c.length 0 i

/-- RESEED: every cell is emptied and the seeds of the last POR_AON are in force again (R126). -/
def State.reseed (s : State) : State :=
  let s := { s with yard := { s.yard with cells := List.replicate 20 [] } }
  (List.range 20).foldl (fun s i => s.put YARD_SAMPLES 0 0 i) s

/-! ### The choice of state -/

/-- Budget of class `n` is enabled and below `t` (R118). -/
def State.budgetBelow (s : State) (t n : Nat) : Bool :=
  s.on YARD_BUDGET_EN 0 n && s.get YARD_BUDGET 0 n < t

/-- The lowest-numbered class whose enabled budget `t` exceeds. -/
def State.limiting (s : State) (t : Nat) : Option Nat := (List.range 5).find? (s.budgetBelow t)

/-- The states a mode uses (Table SCOPE-2), without those that CLK.KEEP removes (R129), deepest first, L0 last. -/
def State.modeStates (s : State) : List Nat :=
  let keep := s.get CLK_KEEP
  let l := if s.runMode = DORMANT then [4] else if s.runMode = SENTRY then [3, 2, 1] else [2, 1]
  l.filter fun st => !(st == 3 && (bitAt keep 0 || bitAt keep 1)) && !(st == 2 && bitAt keep 1)

/-- Entry times of Table YARD-3A, maximum, in µs. -/
def entryTime (st : Nat) : Nat := if st = 1 then 1 else if st = 2 then 25 else if st = 3 then 250 else 0

/-- A command queue holds an item (Table RST-5, R487). -/
def State.queueHolds (s : State) : Bool :=
  s.host.queues.any fun q => !q.items.isEmpty || !q.part.isEmpty || q.busy.isSome

/-- Operations in progress that keep the device out of L3: queue items (R487), a script run (R481), unread events
(R548), attention attempts (R469), an actuator channel that is not OFF, holds a pending command or is in its minimum off time, and the boost controller (R312), a scan or
a halt (R596). -/
def State.noL3 (s : State) : Bool :=
  s.queueHolds || s.host.script.isSome || s.on YARD_ARMED 0 1 ||
  (s.on EVT_HOLD_UNREAD && min 256 ((s.get EVT_TOTAL + 2 ^ 32 - s.get EVT_ACK) % 2 ^ 32) > 32) ||
  s.host.attnTries != 0 || (List.range 4).any (fun n => s.get SOL_PHASE n != 0 || s.on SOL_PENDING n || (s.sol.getD n SolS.idle).minOff) || s.on BOOST_RUN ||
  s.get PIN_TAP_HALT != 0 || (s.get PIN_TAP_IR != 2 && s.get PIN_TAP_IR != 15)

/-- Operations in progress that keep the device in L0: host holds (R465, R472), a Granary operation (R495), a store
(R506), posted writes (R565), a transition (R120), a debug halt (R587). -/
def State.holdsL0 (s : State) : Bool :=
  s.host.i2cHold || s.host.spiHold || s.host.i2cTxn.isSome || s.host.spiTxn.isSome || s.gran.cur.isSome ||
  s.gran.scanning || s.shadow.storing.isSome || !s.host.posted.isEmpty || s.busy || s.boot.booting || s.on PIN_TAP_HALT

/-- R136: the lowest enabled class whose budget is below the L1 exit time in the present band; the device stays in L0. -/
def State.unmeetable (s : State) : Option Nat := s.limiting (s.exitTime 1 s.band)

/-- The deepest state that the budgets and the mode allow, leaving deadlines aside (R122, R136), with the class that
excluded the next deeper one. -/
def State.allowed (s : State) : Nat × Nat :=
  let rec go : List Nat → Nat → Nat × Nat
    | [], lim => (0, lim)
    | st :: l, lim =>
      match s.limiting (s.choiceTime st) with
      | none => (st, lim)
      | some n => go l n
  match s.unmeetable with
  | some n => (0, n)
  | none => go s.modeStates 7

/-- Re-run the choice's reports (R120, R122, R136): ALLOWED, LIMIT_WC, UNMEETABLE and its event on a rising edge. -/
def State.rechoose (s : State) : State :=
  let (a, lim) := s.allowed
  let s := (s.put YARD_ALLOWED a).put YARD_LIMIT_WC lim
  match s.unmeetable with
  | none => s.put YARD_UNMEETABLE 0
  | some n => if s.on YARD_UNMEETABLE then s else (s.put YARD_UNMEETABLE 1).event 0x0113 (n + s.band * 2 ^ 4)

/-- Whole microseconds until slot `k` fires; 0 when its match has passed (R113, R114). -/
def State.slotUs (s : State) (k : Nat) : Nat :=
  (s.get YARD_MATCH_SEC 0 k * 32768 + s.get YARD_MATCH_TICK 0 k - (s.get YARD_SECONDS * 32768 + s.get YARD_SUBSEC)) *
    1000000 / 32768

/-- The next internal deadline (R120): the armed slots 1 and 2, and `otherUs` for those that the state does not hold. -/
def State.deadline (s : State) (otherUs : Nat) : Nat :=
  [1, 2].foldl (fun t k => if s.on YARD_ARMED 0 k then min t (s.slotUs k) else t) otherUs

/-- The pseudocode of R121: the deepest state that the mode allows, whose entry and exit end before the deadline, and
whose exit time every enabled budget allows; L0 otherwise, and where a budget is unmeetable (R136). -/
def State.choose (s : State) (otherUs : Nat) : Nat :=
  if s.holdsL0 || s.unmeetable.isSome then 0
  else (s.modeStates.find? fun st =>
    st != 4 && !(st == 3 && s.noL3) && entryTime st + s.choiceTime st ≤ s.deadline otherUs &&
      (s.limiting (s.choiceTime st)).isNone).getD 0

/-- R123: the lowest class whose enabled budget the L4 exit time exceeds. -/
def State.l4Limit (s : State) : Option Nat := s.limiting (s.choiceTime 4)

/-! ### Class loss -/

/-- Drop every stored and staged value of a class (R11) and the commits pending with it (R76). -/
def State.loseClass (s : State) (c : Cls) : State :=
  { s with regs := s.regs.filter (fun e => keyClass e.1 != c.code)
           staged := s.staged.filter (fun e => keyClass e.1 != c.code)
           owed := if c = .c then [] else s.owed }

/-- The pages that hold a V field (R165). -/
def vPages : List Nat := [0x050]

/-- L3 is reached (R116, R117): PD_CORE is off and the V fields are at reset. DEDUCED, log 57, safe. -/
def State.reachL3 (s : State) : State := (vPages.foldl State.setDefaulted (s.loseClass .v)).setPd 0 0

/-! ### Clocks (R128) -/

/-- PXCLK is wanted in PD_PIX (Table YARD-5): in SENTRY only for a frame that is due or runs, and for a bias ramp (R351).
DEDUCED, log 33, unsafe. -/
def State.pxWanted (s : State) : Bool :=
  s.pd 1 != 0 && s.get HDR_EN 0x010 == 1 &&
    (s.runMode != SENTRY || s.fpa.due || s.fpa.ramp != 0 || s.fpa.inFrame)

/-- The requests held (Table YARD-5): bit 0 HFRC, 1 PLL_CORE, 2 PXCLK, 3 to 6 link word clocks, 7 CSI, 8 PVP, and
what CLK.KEEP holds (R129). A domain requests its clock from OPENING on (R135). DEDUCED, log 33, unsafe. -/
def State.clockReq (s : State) : Nat :=
  let moving := s.yard.entering || s.yard.exit.isSome
  let r := [decide (s.yard.pstate ≤ 2) || moving, (decide (s.yard.pstate ≤ 1) || moving) && s.pd 0 == 2,
    s.pxWanted, s.pd 2 != 0, s.pd 3 != 0, s.pd 4 != 0, s.pd 5 != 0, s.pd 6 != 0, s.pd 7 != 0]
  (List.range 9).foldl (fun a i => if r.getD i false || bitAt (s.get CLK_KEEP) i then a + 2 ^ i else a) 0

/-- A clock's grant stands. -/
def State.granted (s : State) (k : Nat) : Bool := bitAt (s.get CLK_GRANT) k

/-- A clock that is stable is granted to its requesters, and only while one requests it (R128); PLL_CORE starts from HFRC,
PXCLK from PLL_CORE (Table YARD-4, Table YARD-5). DEDUCED, log 33, unsafe. -/
def State.grantClock (s : State) (k : Nat) : State :=
  if bitAt s.clockReq k && (k != 1 || s.granted 0) && (k != 2 || s.granted 1) then
    s.put CLK_GRANT (s.get CLK_GRANT ||| 2 ^ k)
  else s

/-- A clock stops once its last request is dropped (R128). -/
def State.clockSync (s : State) : State := s.put CLK_GRANT (s.get CLK_GRANT &&& s.clockReq)

/-- The clocks of domain `d` are granted (R135, Table YARD-5). -/
def State.clocked (s : State) (d : Nat) : Bool :=
  if d = 0 then s.granted 0
  else if d = 1 then !s.pxWanted || s.granted 2
  else if d ≤ 7 then s.granted (d + 1)
  else true

/-- An entry into L1 or L2 ends in its state (R634); one into L3 ends with PD_CORE (R131). -/
def State.entryEnd (s : State) : State :=
  if s.yard.entering ∧ s.yard.pstate ≠ 3 then { s with yard := { s.yard with entering := false } }.clockSync else s

/-! ### Wakes and exits -/

/-- An exit begins (R119, R139, R140): an entry in progress is abandoned, unmeasured, through the exit path of the deepest
state already reached, which is taken to be the one above the state aimed at. DEDUCED, log 31, safe. -/
def State.beginExit (s : State) (classes : Nat) (slot : Option Nat) : State :=
  let e := fun left measured => some (⟨left, s.band, classes, slot, measured, s.get YARD_START_MODE⟩ : Exit)
  if s.yard.entering then
    let left := s.yard.pstate - 1
    let s := if s.pd 0 = 3 then s.setPd 0 2 else s
    { s with yard := { s.yard with pstate := left, entering := false, exit := if left = 0 then none else e left false } }
  else if s.yard.pstate = 0 then s
  else { s with yard := { s.yard with exit := e s.yard.pstate true } }

/-- A wake of a class (R118, R139, R140): in L0 it sets nothing; during an exit it joins it; otherwise it starts one.
DEDUCED, log 31, safe. -/
def State.wakeExit (s : State) (cls : Nat) (slot : Option Nat) : State :=
  match s.yard.exit with
  | some e =>
    let c := if bitAt e.classes cls then e.classes else e.classes + 2 ^ cls
    { s with yard := { s.yard with exit := some { e with classes := c, slot := if slot.isSome then slot else e.slot } } }
  | none => s.beginExit (2 ^ cls) slot

/-- The device starts a return by itself (R119): an exit that serves no wake. -/
def State.internalReturn (s : State) : State := if s.yard.exit.isSome then s else s.beginExit 0 none

/-- Report and file the measurement of an exit (R125 to R127). -/
def State.measure (s : State) (e : Exit) (us : Nat) : State :=
  if e.measured then
    let s := s.put YARD_EXIT_LAST (min us (2 ^ 24 - 1))
    let s := if s.on YARD_LEARN_EN then s.file e.left e.band us else s
    match s.limiting us with
    | some n => s.event 0x0115 (e.left + e.band * 2 ^ 4 + n * 2 ^ 8)
    | none => s
  else s

/-- L0 is reached (R119, R139): the exit is measured, its classes are recorded and WAKE is logged once.
DEDUCED, log 31, safe. -/
def State.exitDone (s : State) (us : Nat) : State :=
  match s.yard.exit with
  | none => s
  | some e =>
    let s := { s with yard := { s.yard with exit := none, pstate := 0, entering := false } }
    let s := (s.put YARD_LAST_STATE e.left).put YARD_LAST_BAND e.band
    let s := s.measure e us
    let s := if s.host.sleepNack then
      { s.inc I2C_SLEEP_NACKS with host := { s.host with sleepNack := false } } else s
    let s := if e.classes = 0 then s
      else
        let s := s.put YARD_WAKE_CAUSE (s.get YARD_WAKE_CAUSE ||| e.classes)
        let s := match e.slot with | some k => s.put YARD_SLOT k | none => s
        s.event 0x0119 (e.classes + e.left * 2 ^ 8)
    s.reportYardLost

/-! ### Timer slots -/

/-- A slot's match has been reached or has passed (R114). -/
def State.slotDue (s : State) (k : Nat) : Bool :=
  s.on YARD_ARMED 0 k &&
    (s.get YARD_MATCH_SEC 0 k < s.get YARD_SECONDS ||
      (s.get YARD_MATCH_SEC 0 k == s.get YARD_SECONDS && s.get YARD_MATCH_TICK 0 k ≤ s.get YARD_SUBSEC))

/-- The device arms one of its own slots for an instant (R113). -/
def State.armSlot (s : State) (k sec tick : Nat) : State :=
  (((s.put YARD_MATCH_SEC sec 0 k).put YARD_MATCH_TICK tick 0 k).put YARD_HOLDER 0 0 k).put YARD_ARMED 1 0 k

/-- Disarm a slot. -/
def State.disarmSlot (s : State) (k : Nat) : State := s.put YARD_ARMED 0 0 k

/-- Table of R510: the weight that each Yard second adds in a band. -/
def scanWeight (band : Nat) : Nat := if band ≤ 2 then 7 else if band = 3 then 30 else 210

/-- The SCAN_ACC at which a scan falls due (R510). -/
def scanDueAt : Nat := 18144000

/-- Arm slot 0 for the predicted due instant of the next scan (R510). DEDUCED, log 32, unsafe. -/
def State.armScan (s : State) : State :=
  let w := scanWeight s.band
  let left := scanDueAt - s.get GRAN_SCAN_ACC
  s.armSlot 0 (s.get YARD_SECONDS + (left + w - 1) / w) 0

/-- Why a write to a word of a timer slot is refused beside the privilege that slots 0 to 2 ask for (R113, R115). -/
def State.slotCheck (s : State) (m k : Nat) : Option Nat :=
  if s.on YARD_ARMED 0 k ∧ s.get YARD_HOLDER 0 k ≠ m then some cBUSY
  else none

/-- TIMER_REFUSED: a write to an armed slot that another master holds (R115); it names the refused writer (R99). -/
def State.slotRefused (s : State) (m k : Nat) : State := s.event 0x0118 (k + m * 2 ^ 8)

/-- The second word of a slot: MATCH_TICK, HOLD_S and ARMED; arming makes the writer its holder (R115). -/
def State.slotTickWrite (s : State) (m k w : Nat) : State :=
  let s := (s.put YARD_MATCH_TICK (bitsOf w 0 15) 0 k).put YARD_HOLD_S (bitsOf w 16 8) 0 k
  if bitAt w 31 then (s.put YARD_HOLDER m 0 k).put YARD_ARMED 1 0 k else s.put YARD_ARMED 0 0 k

end Sys2Proof.Machine
end

