-- ==== Sys2Proof/Machine/Locks.lean ====
section
/-! DEFINITION. Semaphores and their recovery (R536 to R541), epochs and privilege (R61, R62), and the watchdog's
period (R523 to R532). -/

namespace Sys2Proof.Machine

/-- Discard every staged value of a page and clear GO (R57). -/
def State.dropStaged (s : State) (p : Nat) : State :=
  { s with staged := s.staged.filter (fun e => keyPage e.1 != p)
           owed := s.owed.filter (fun e => e.1 != p) }.put HDR_GO 0 p

/-- Some value of a page is staged. -/
def State.anyStaged (s : State) (p : Nat) : Bool := s.staged.any fun e => keyPage e.1 == p

/-- The inactive bank (R253): 0 A, 1 B. -/
def State.inactive (s : State) : Nat := 1 - s.get MILL_ACTIVE

/-- COMPLETE of a bank. -/
def completeRow (b : Nat) : Row := if b = 0 then MILL_COMPLETE_A else MILL_COMPLETE_B

/-- A fill or a load is in progress. -/
def State.fillOpen (s : State) : Bool := s.on MILL_FILLING || s.loft.checking.isSome

/-- End a fill or load with COMPLETE 0 and a RESULT (R253, R262). -/
def State.endFill (s : State) (result : Nat) : State :=
  let s := (((s.put MILL_FILLING 0).put MILL_CHECKING 0).put (completeRow s.inactive) 0).put MILL_RESULT result
  { s with loft := { s.loft with checking := none } }

/-- The recovery of a semaphore's resource (Table LOCK-1). -/
def State.recover (s : State) (n owner : Nat) : State :=
  if n = 0 then
    if s.fillOpen then (s.endFill 3).event 0x5011 (s.inactive + 3 * 2 ^ 4) else s
  else if n = 1 then ((s.dropStaged 0x051).raise 0x051 2).event 0x5110 owner
  else if n = 2 then s.put GRAN_SEQ_OPEN 0
  else if n = 3 then (List.range 4).foldl (fun s k =>
    if s.anyStaged (0x060 + k) then (s.dropStaged (0x060 + k)).event (0x6015 + k * 0x100) owner
    else s.dropStaged (0x060 + k)) s
  else s

/-- Orphan a held semaphore (R539): STATE, ORPHANS, the interrupt cause, LOCK_ORPHANED, then its recovery. -/
def State.orphan (s : State) (n cause : Nat) : State :=
  if s.get LOCK_STATE 0 n = 1 then
    let owner := s.get LOCK_OWNER 0 n
    let s := (((s.put LOCK_STATE 2 0 n).inc LOCK_ORPHANS 0 n).raise 5 (2 ^ n)).event 0x0510
      (n + cause * 2 ^ 4 + owner * 2 ^ 8)
    { s with semHold := s.semHold.set n 0 }.recover n owner
  else s

/-- Orphan every semaphore a master holds, in ascending order (R539, R552, R630). -/
def State.orphanAll (s : State) (m cause : Nat) : State :=
  (List.range 8).foldl (fun s n => if s.get LOCK_OWNER 0 n = m then s.orphan n cause else s) s

/-- A semaphore becomes free (R537, R539). -/
def State.freeSem (s : State) (n : Nat) : State :=
  let s := ((s.put LOCK_STATE 0 0 n).put LOCK_OWNER 0 0 n).put LOCK_OWNER_EPOCH 0 0 n
  { s with semHold := s.semHold.set n 0 }

/-- Master `m` holds semaphore `n`. -/
def State.holds (s : State) (m n : Nat) : Bool := s.get LOCK_STATE 0 n == 1 && s.get LOCK_OWNER 0 n == m

/-- Another master holds semaphore `n`. -/
def State.heldByOther (s : State) (m n : Nat) : Bool := s.get LOCK_STATE 0 n == 1 && s.get LOCK_OWNER 0 n != m

/-- TAKE of a free semaphore (R536): holder, its epoch, and the hold limit in force at the TAKE (R540). -/
def State.takeSem (s : State) (m n : Nat) : State :=
  let s := (((s.put LOCK_STATE 1 0 n).put LOCK_OWNER m 0 n).put LOCK_OWNER_EPOCH (s.epoch m) 0 n).inc LOCK_TAKES 0 n
  { s with semHold := s.semHold.set n (s.get LOCK_HOLD_EN 0 n) }

/-- Why a TAKE, RELEASE or FORCE is refused (R536 to R538). -/
def State.semCheck (s : State) (m n cmd : Nat) : Option Nat :=
  let st := s.get LOCK_STATE 0 n
  if cmd = 0 then none
  else if cmd = 1 then if st = 2 ∨ s.heldByOther m n then some cLOCKED else none
  else if cmd = 2 then
    if st = 2 then some cLOCKED else if s.heldByOther m n then some cOWNER else none
  else if cmd = 4 then none
  else some cRANGE

/-- What an accepted TAKE (1), RELEASE (2) or FORCE (4) does. FORCE logs LOCK_FORCED and orphans (R538). -/
def State.semDo (s : State) (m n cmd : Nat) : State :=
  let st := s.get LOCK_STATE 0 n
  if cmd = 1 then if st = 0 then s.takeSem m n else s
  else if cmd = 2 then if st = 1 then s.freeSem n else s
  else if cmd = 4 then if st = 1 then (s.event 0x0511 (n + m * 2 ^ 8)).orphan n 7 else s
  else s

/-- The recovery of an orphaned semaphore ends (R539). -/
def State.recoveryEnd (s : State) (n : Nat) : State := if s.get LOCK_STATE 0 n = 2 then s.freeSem n else s

/-- The hold limit of R540 passes: at once while PD_CORE is on, otherwise when it is on again.
DESIGN CHOICE, log 15, unsafe. -/
def State.holdExpire (s : State) (n : Nat) : State :=
  if s.get LOCK_STATE 0 n = 1 ∧ s.semHold.getD n 0 = 1 then
    if s.coreOn then s.orphan n 6 else { s with semHold := s.semHold.set n 2 }
  else s

/-- Hold limits that expired while PD_CORE was off take effect (R540). -/
def State.lateHolds (s : State) : State :=
  (List.range 8).foldl (fun s n => if s.semHold.getD n 0 = 2 then s.orphan n 6 else s) s

/-- A write to SYS.SESSION by master `m` (R61, R552). -/
def State.newSession (s : State) (m : Nat) : State := (s.advanceEpoch m).orphanAll m 1

/-- OWNER of a page returns to 0xFF because its master lost privilege (R62). -/
def State.revertOwner (s : State) (m p : Nat) : State :=
  if s.get HDR_OWNER p = m then ((s.put HDR_OWNER 0xFF p).setDefaulted p).event (p * 0x100 + 0x02) p else s

/-- An EXTEST in force is replaced by BYPASS (R585). -/
def State.extestEnd (s : State) : State :=
  if s.on PIN_TAP_EXTEST then (s.put PIN_TAP_IR 15).put PIN_TAP_EXTEST 0 else s

/-- A change of the privilege bits P_M1 to P_M4 (R62), in the order of R630: epochs, OWNER fields, then orphans; a
supervisor that loses privilege is reported (R554), and EXTEST ends with M4's (R585). The events of an orphan's recovery follow its
LOCK_ORPHANED, and WDT_SUPERVISOR_U stands last. DEDUCED, log 46, unsafe. DESIGN CHOICE, log 46, unsafe. -/
def State.setPriv (s : State) (bits : Nat) : State :=
  let old := s.get SYS_PRIV
  let changed := (List.range 4).filter fun i => bitAt old i != bitAt bits i
  let lost := changed.filter fun i => bitAt old i
  let s := s.put SYS_PRIV bits
  let s := if lost.contains 3 then s.extestEnd else s
  let s := changed.foldl (fun s i => s.advanceEpoch (i + 1)) s
  let s := allPages.foldl (fun s p => lost.foldl (fun s i => s.revertOwner (i + 1) p) s) s
  let s := (List.range 8).foldl (fun s n =>
    if changed.any (fun i => s.get LOCK_OWNER 0 n == i + 1) then s.orphan n 2 else s) s
  if lost.any (fun i => s.get WDT_SUPERVISOR == i + 1) then
    (s.raise 3 2).event 0x0311 (s.get WDT_SUPERVISOR)
  else s

/-! ### Watchdog -/

/-- The holds of R534: before DONE and in SAFE, from DORMANT entry to the DONE of the exit (until BUSY clears for an
abandoned one), and in SERVICE entered by WC4 until a mode command is accepted. -/
def State.wdtHeld (s : State) : Bool :=
  !s.done || s.safe || s.runMode == DORMANT || s.yard.cut ||
  (match s.yard.trans with | some t => t.entering || t.back | none => false) || s.yard.service.isSome

/-- The debug pause of R535. -/
def State.wdtPaused (s : State) : Bool := s.wdt.dbgHalt && s.on WDT_DEBUG_PAUSE && !s.on WDT_DEBUG_LOCK

/-- WDT.STATE (Table WDT-2). -/
def State.wdtState (s : State) : Nat :=
  if s.wdt.expiring then 4
  else if !s.en 3 then 0
  else if s.wdtHeld then 5
  else if s.wdtPaused then 3
  else if s.wdt.cycle ≥ s.wdt.openAt then 2 else 1

/-- The watchdog runs (R523): a period is in progress and no debug pause holds it. -/
def State.wdtRuns (s : State) : Bool := s.wdt.running && !s.wdtPaused && !s.wdt.expiring

/-- P = round(PERIOD × 32.768) (R523). -/
def wdtPeriod (ms : Nat) : Nat := (ms * 32768 + 500) / 1000

/-- A period starts (R523, R524, R529): the length and the window are latched and CHALLENGE takes the LFSR. -/
def State.startPeriod (s : State) : State :=
  let p := wdtPeriod (s.get WDT_PERIOD)
  { s with wdt := { s.wdt with running := true, cycle := 0, len := p,
                               openAt := p * (256 - s.get WDT_WINDOW_OPEN) / 256 } }.put WDT_CHALLENGE s.yard.lfsr

/-- Follow EN, DONE and the holds (R523, R524, R532, R534): a period starts when the watchdog begins to run, and
MISSED is 0 while it does not. -/
def State.wdtSync (s : State) : State :=
  if s.en 3 && !s.wdtHeld then
    if s.wdt.running then s else (s.put WDT_MISSED 0).startPeriod
  else
    let s := if s.wdtHeld then s.put WDT_MISSED 0 else s
    { s with wdt := { s.wdt with running := false } }

/-- The answer that a service must carry (R530). -/
def wdtAnswer (challenge key count : Nat) : Nat :=
  let t := (challenge ^^^ key) % 2 ^ 16
  let r := challenge % 16
  let a := (t * 2 ^ r + t / 2 ^ (16 - r)) % 2 ^ 16
  (a + count % 2 ^ 16) % 2 ^ 16

/-- The window counts as open for the RWW fields (R525): the watchdog does not run, or is in its open window; a debug
pause keeps the window as it was. -/
def State.wdtWindow (s : State) : Bool := !s.wdt.running || s.wdt.cycle ≥ s.wdt.openAt

/-- A correct service (R531). -/
def State.wdtServed (s : State) : State := ((s.incWrap WDT_COUNT).put WDT_MISSED 0).startPeriod

/-- The counts of a missed period (R532). At the first consecutive miss a warning is logged and a period starts; at
the second the watchdog is EXPIRING and the reset of R154 follows. -/
def State.missedPeriod (s : State) (reason : Nat) : State :=
  let s := ((s.put WDT_MISSED (s.get WDT_MISSED + 1)).inc WDT_MISSES).put WDT_LAST_MISS reason
  if s.get WDT_MISSED ≥ 2 then
    { s.inc WDT_WDT_RESETS with wdt := { s.wdt with expiring := true } }
  else ((s.raise 3 1).event 0x0310 reason).startPeriod

/-- The Galois LFSR of R529: feedback mask 0xB400, one shift right per YCLK cycle. DESIGN CHOICE, log 10, unsafe. -/
def lfsrNext (x : Nat) : Nat := if x % 2 = 1 then (x / 2) ^^^ 0xB400 else x / 2

end Sys2Proof.Machine
end

