-- ==== Sys2Proof/Machine/Commit.lean ====
section
/-! DEFINITION. Commits: what a COMMIT.GO brings into force (R54, R57, R76). -/

namespace Sys2Proof.Machine

/-- The reset value of the element whose key is `k` on page `p`. -/
def keyRst (p k : Nat) : Nat :=
  match (wordRows p (keyWord k % 0x1000)).find? fun e => e.1.key (e.1.nth p) e.2 == k with
  | some (r, i) => r.rst i
  | none => 0

/-- Bring one staged value into force. -/
def State.takeStaged (s : State) (p : Nat) (e : Nat × Nat) : State :=
  { s with regs := s.regs.set e.1 e.2 (keyRst p e.1), staged := s.staged.erase e.1 }

/-- All staged values of a page that a test selects take effect together (R54). -/
def State.takeWhere (s : State) (p : Nat) (f : Nat → Bool) : State :=
  (s.staged.filter fun e => keyPage e.1 == p && f e.1).foldl (fun s e => s.takeStaged p e) s

/-- The boot follows a SOFT or LINK reset. -/
def BootS.soft (b : BootS) : Bool := b.kind == 4 || b.kind == 5

/-- What a SOFT or LINK reset has left pending waits for DONE (R167). -/
def State.commitHeld (s : State) : Bool := s.boot.booting && s.boot.soft

/-- GO of a page reads 1. -/
def State.going (s : State) (p : Nat) : Bool := s.get HDR_GO p == 1

/-- A whole page's commit: the values, then GO 0 and COUNT (R54). -/
def State.commitPage (s : State) (p : Nat) : State :=
  if s.going p then ((s.takeWhere p fun _ => true).put HDR_GO 0 p).incWrap HDR_COUNT p else s

/-- A field's value for a check across pages: staged where its page is the one being committed or has GO pending,
otherwise in force (R198). -/
def State.comb (s : State) (p : Nat) (r : Row) (n i : Nat := 0) : Nat :=
  if r.page + n = p ∨ s.going (r.page + n) then s.getStaged r n i else s.get r n i

end Sys2Proof.Machine
end

