-- ==== Sys2Proof/Machine/Arith.lean ====
section
/-! DEFINITION. Exact arithmetic that several blocks share: rounding, signed fields and fixed-point logarithm and
exponential. -/

namespace Sys2Proof.Machine

/-- `a / b` rounded to nearest, a half away from zero (the manual's "rounded"). -/
def roundDiv (a b : Int) : Int :=
  if b = 0 then 0
  else if a ≥ 0 then (2 * a + b) / (2 * b) else -((2 * (-a) + b) / (2 * b))

/-- `a / b` rounded up, for naturals. -/
def ceilDiv (a b : Nat) : Nat := if b = 0 then 0 else (a + b - 1) / b

/-- The signed number that the low `w` bits hold in two's complement. -/
def signed (w v : Nat) : Int := if v % 2 ^ w ≥ 2 ^ (w - 1) then (v % 2 ^ w : Int) - 2 ^ w else (v % 2 ^ w : Int)

/-- The low `w` bits of a signed number. -/
def unsigned (w : Nat) (x : Int) : Nat := (x % (2 ^ w : Int)).toNat

/-- Clamp to a range. -/
def clampInt (lo hi x : Int) : Int := max lo (min hi x)

/-- The scale of the fixed-point logarithm and exponential. -/
def fix : Int := 2 ^ 48

/-- ln 2 at that scale. -/
def ln2 : Int := 195103586505167

/-- The odd terms z + z³/3 + z⁵/5 + … of the logarithm's series, `n` more from exponent `k`. -/
def lnSeries (z2 : Int) : Nat → Int → Int → Int
  | 0, _, _ => 0
  | n + 1, p, k => p / k + lnSeries z2 n (p * z2 / fix) (k + 2)

/-- Halve or double a ratio into 1 to 2, counting the powers of 2. -/
def lnNormal : Nat → Int → Int → Int → Int × Int × Int
  | 0, a, b, e => (a, b, e)
  | n + 1, a, b, e =>
    if a ≥ 2 * b then lnNormal n a (2 * b) (e + 1)
    else if a < b then lnNormal n (2 * a) b (e - 1)
    else (a, b, e)

/-- ln (a / b) at scale `fix`, for positive a and b. -/
def lnFix (a b : Int) : Int :=
  let (a, b, e) := lnNormal 96 a b 0
  let z := (a - b) * fix / (a + b)
  e * ln2 + 2 * lnSeries (z * z / fix) 24 z 1

/-- Terms of the exponential's series for a small argument. -/
def expSeries (x : Int) : Nat → Int → Int → Int
  | 0, _, t => t
  | n + 1, k, t => t + expSeries x n (k + 1) (t * x / (k * fix))

/-- e^(a/b) at scale `fix`, for -64 ≤ a/b ≤ 0. -/
def expFix (a b : Int) : Int :=
  let x := a * fix / (b * 64)
  let y := expSeries x 24 1 fix
  (List.range 6).foldl (fun y _ => y * y / fix) y

end Sys2Proof.Machine
end

