-- ==== Sys2Proof/Machine/Temp.lean ====
section
/-! DEFINITION. Temperatures, the band, plausibility, the housing NTC and throttling (R329 to R350). -/

namespace Sys2Proof.Machine

/-- The reading row of a die sensor. -/
def tsRow (k : Nat) : Row := if k = 0 then TEMP_TS0 else if k = 1 then TEMP_TS1 else if k = 2 then TEMP_TS2 else TEMP_TS3

/-- A sensor is marked bad (R348, R349). -/
def State.tsBad (s : State) (k : Nat) : Bool := bitAt (s.get TEMP_TS_STATE) k

/-- A signed reading in 1/16 °C. -/
def State.ts (s : State) (k : Nat) : Int := signed 16 (s.get (tsRow k))

/-- What stands for TS0 (R348): TS0 itself, or while it is bad the higher good one of TS2 and TS3. -/
def State.tj (s : State) : Int :=
  if s.tsBad 0 then
    if s.tsBad 2 then s.ts 3 else if s.tsBad 3 then s.ts 2 else max (s.ts 2) (s.ts 3)
  else s.ts 0

/-- The sensor that stands for TS0 (R348). -/
def State.tjSensor (s : State) : Nat :=
  if !s.tsBad 0 then 0 else if s.tsBad 2 then 3 else if s.tsBad 3 then 2 else if s.ts 3 ≤ s.ts 2 then 2 else 3

/-- U(b) of Table TEMP-2, in 1/16 °C. -/
def bandUpper (b : Nat) : Int := if b = 0 then -160 else if b = 1 then 400 else if b = 2 then 1120 else 1760

/-- The band follows Tj with 2 K of hysteresis, both tests repeated (R332). DEDUCED, log 49, unsafe. -/
def bandFollow (tj : Int) : Nat → Nat → Nat
  | 0, b => b
  | n + 1, b =>
    if b < 4 ∧ tj ≥ bandUpper b then bandFollow tj n (b + 1)
    else if 0 < b ∧ tj < bandUpper (b - 1) - 32 then bandFollow tj n (b - 1)
    else b

/-- The band read directly from the ranges, a boundary value in the upper band (R334). DEDUCED, log 49, unsafe. -/
def bandDirect (tj : Int) : Nat :=
  if tj ≥ 1760 then 4 else if tj ≥ 1120 then 3 else if tj ≥ 400 then 2 else if tj ≥ -160 then 1 else 0

/-- A band change (R332, R333): BAND_PREV, the event, the cause; the choice re-runs and slot 0 is re-armed. -/
def State.setBand (s : State) (b : Nat) : State :=
  let old := s.band
  if b = old then s
  else
    let s := ((s.put TEMP_BAND_PREV old).put TEMP_BAND b).event 0x0410 (b + old * 2 ^ 4) |>.raise 4 1
    if s.gran.scanning then s.rechoose else s.rechoose.armScan

/-- A band change in L1 or L2 (R142): a state no longer allowed in the new band is left through its exit path. -/
def State.bandLeave (s : State) : State :=
  if (s.yard.pstate = 1 ∨ s.yard.pstate = 2) ∧ (s.unmeetable.isSome ∨ (s.limiting (s.choiceTime s.yard.pstate)).isSome) then
    s.internalReturn
  else s

/-- The mean that TS0 is checked against, doubled (R348, R349); `none` when both others are bad. -/
def State.others2 (s : State) : Option Int :=
  if s.tsBad 2 ∧ s.tsBad 3 then none
  else if s.tsBad 2 then some (2 * s.ts 3)
  else if s.tsBad 3 then some (2 * s.ts 2)
  else some (s.ts 2 + s.ts 3)

/-- Set or clear a TS_STATE bit. -/
def State.setTsBad (s : State) (k : Nat) (b : Bool) : State :=
  let v := s.get TEMP_TS_STATE
  s.put TEMP_TS_STATE (if b then v ||| 2 ^ k else if bitAt v k then v - 2 ^ k else v)

/-- R348's check at a TS0 conversion. DEDUCED, log 49, unsafe. -/
def State.plausible (s : State) : State :=
  match s.others2 with
  | none => s
  | some m2 =>
    let d2 := 2 * s.ts 0 - m2
    if d2.natAbs > 256 then
      let n := s.temp.disagree + 1
      let s := { s with temp := { s.temp with disagree := n, agree := 0 } }
      if n ≥ 16 ∧ s.tsBad 0 = false then
        ((s.setTsBad 0 true).event 0x0415 (min (d2.natAbs / 2) 0x7FFF)).raise 4 4
      else s
    else
      let n := s.temp.agree + 1
      let s := { s with temp := { s.temp with agree := n, disagree := 0 } }
      if n ≥ 16 then s.setTsBad 0 false else s

/-- What a conversion of the sensor that stands for TS0 drives (R332, R334, R337, R340, R342, R348): the band, the count towards the
cut, THERMAL_RELEASE and TJ_HIGH. DEDUCED, log 49, unsafe. -/
def State.tjDrives (s : State) : State :=
  let tj := s.tj
  let s := if s.temp.first then
      { s.setBand (bandDirect tj) with temp := { s.temp with first := false } }
    else s.setBand (bandFollow tj 8 s.band)
  let s := s.bandLeave
  let s := { s with temp := { s.temp with hot := if tj ≥ 2480 then s.temp.hot + 1 else 0 } }
  let s := if s.temp.released then
    { s.event 0x0414 (unsigned 16 tj) with temp := { s.temp with released := false } } else s
  if s.role = CAB then
    if tj ≥ (s.get TEMP_THR_START : Int) then
      if s.temp.tjHigh then s
      else { (s.event 0x0417 (unsigned 16 tj)).raise 4 8 with temp := { s.temp with tjHigh := true } }
    else { s with temp := { s.temp with tjHigh := false } }
  else s

/-- A reading completes (R329): it is stored, TS0 drives its check and the peak; the 34 points of TS1 are stored too and TS1 is the
hottest. DEDUCED, log 49, unsafe. -/
def State.reading (s : State) (k : Nat) (reading : Int) (points : List Int) : State :=
  if k = 1 then
    let s := s.put TEMP_TS1 (unsigned 16 (points.foldl max (points.headD reading)))
    (List.range points.length).foldl (fun s i => s.put CH_TCH (unsigned 16 (points.getD i 0)) i) s
  else if k ≠ 0 then (s.put (tsRow k) (unsigned 16 reading)).setTsBad k false
  else
    let s := s.put TEMP_TS0 (unsigned 16 reading)
    (if reading > signed 16 (s.get TEMP_TJ_PEAK) then s.put TEMP_TJ_PEAK (unsigned 16 reading) else s).plausible

/-- A conversion (R329, R348). -/
def State.conversion (s : State) (k : Nat) (reading : Int) (points : List Int) : State :=
  let s := s.reading k reading points
  if k = s.tjSensor then s.tjDrives else s

/-- A conversion that does not complete within 4 ms (R349). DEDUCED, log 49, unsafe. -/
def State.sensorTimeout (s : State) (k : Nat) : State :=
  if s.tsBad k then s else ((s.setTsBad k true).event 0x0415 (2 ^ 15 + k)).raise 4 4

/-- Every sensor that could stand for TS0 is bad, which enters the thermal cut (R349). -/
def State.allTsBad (s : State) : Bool := s.tsBad 0 && s.tsBad 2 && s.tsBad 3

/-- Thous in 1/16 °C for a 12-bit ratio code (R331). -/
def thousOf (code rpu r25 beta : Nat) : Int :=
  let l := lnFix ((rpu * code : Nat) : Int) (((4096 - code) * r25 : Nat) : Int)
  let den := 100 * (beta : Int) * fix + 29815 * l
  let num := 29815 * (beta : Int) * fix
  roundDiv (160 * num - 43704 * den) (10 * den)

/-- An NTC conversion (R331). DEDUCED, log 49, unsafe. -/
def State.ntc (s : State) (code : Nat) : State :=
  let t := thousOf code (s.get TEMP_NTC_RPU) (s.get TEMP_NTC_R25) (s.get TEMP_NTC_BETA)
  let bad := !s.on TEMP_AUX_EN || code * 50 < 4096 || code * 50 > 49 * 4096 || t < -640 || t > 2400
  if bad then
    let s := s.put TEMP_THOUS_BAD 1
    if s.temp.auxBad then s else { s.event 0x0416 code with temp := { s.temp with auxBad := true } }
  else { (s.put TEMP_THOUS (unsigned 16 t)).put TEMP_THOUS_BAD 0 with temp := { s.temp with auxBad := false } }

/-- THOUS_BAD (R331). -/
def State.thousBad (s : State) : Bool := !s.on TEMP_AUX_EN || s.on TEMP_THOUS_BAD

/-- Tfpa in 1/16 °C from ΔVBE in 10 µV, the slope in 0.01 µV/K and the offset in 1/16 K (R330). -/
def tfpaOf (dvbe slope : Nat) (ofs : Int) : Int :=
  roundDiv ((160000 * dvbe : Nat) - 43704 * (slope : Int) + 10 * ofs * slope) (10 * slope)

/-- FRAME_EFF for a frame (R335), and whether the rate is at its minimum. -/
def throttle (period start span rateMin : Nat) (ts0 : Int) : Nat × Bool :=
  -- rate = 40e6 / period × (span − over) / span, floored at rateMin / 10, never above nominal
  if ts0 < start then (period, false)
  else
    let isOver := (ts0 - start).toNat
    let left := span - isOver
    -- compare 40e6 × left / (period × span) with rateMin / 10
    if 400000000 * left ≤ rateMin * period * span then
      if 400000000 ≤ rateMin * period then (period, true) else (ceilDiv 400000000 rateMin, true)
    else (ceilDiv (period * span) left, false)

end Sys2Proof.Machine
end

