-- ==== Sys2Proof/Machine/Sol.lean ====
section
/-! DEFINITION. The actuator channels, the boost rail, the coil model and TRIP_N (R294 to R328). -/

namespace Sys2Proof.Machine

/-- Channel `n`. -/
def State.chan (s : State) (n : Nat) : SolS := s.sol.getD n SolS.idle

/-- Replace channel `n`. -/
def State.setChan (s : State) (n : Nat) (ch : SolS) : State := { s with sol := s.sol.set n ch }

/-- Both switches off (R295): after HS_BAT (3) or HS_BST (4) the dead time runs with nothing to follow it yet. A restart out of BOOST
passes it to either switch (5). DEDUCED, log 38, unsafe. -/
def SolS.off (ch : SolS) : SolS :=
  { ch with sw := 0, chopOff := false
            dead := if ch.sw = 1 ∨ ch.dead = 2 then 4 else if ch.sw = 2 ∨ ch.dead = 1 ∨ ch.chopOff then 3 else ch.dead }

/-- The dead time comes before HS_BAT, or before HS_BST (R295, R298, R301). -/
def SolS.waitsBat (ch : SolS) : Bool := ch.sw == 1 || ch.dead == 2 || ch.dead == 4 || ch.dead == 5
def SolS.waitsBst (ch : SolS) : Bool := ch.sw == 2 || ch.dead == 1 || ch.dead == 3 || ch.dead == 5

/-- The page of channel `n`. -/
def solPage (n : Nat) : Nat := 0x060 + n

/-- A channel's event (Table SOL-7). -/
def solEvent (n code : Nat) : Nat := 0x6000 + n * 0x100 + code

/-- The channel is named in SHUT.MAP while SHUT.CTRL.EN is 1; CH_OPEN only in BISTABLE (R282, R306). -/
def State.isShut (s : State) (n : Nat) : Bool :=
  s.get HDR_EN 0x065 == 1 && (n == s.get SHUT_CH_CLOSE || (s.on SHUT_TYPE && n == s.get SHUT_CH_OPEN))

/-- HOLD lasts until STOP (R297, R315). -/
def State.holdUntil (s : State) (n : Nat) : Bool :=
  s.on SOL_HOLD_UNTIL_OFF n || (s.get HDR_EN 0x065 == 1 && !s.on SHUT_TYPE && n == s.get SHUT_CH_CLOSE)

/-- The profile has a HOLD phase (R297), unless the coil is HOT (R311). -/
def State.hasHold (s : State) (n : Nat) : Bool :=
  s.get SOL_I_HOLD n != 0 && (s.get SOL_T_HOLD n != 0 || s.holdUntil n) && !s.on SOL_HOT n

/-- The phase after `ph`, skipped phases left out; 0 is OFF (R297). -/
def State.nextPhase (s : State) (n ph : Nat) : Nat :=
  if ph < 1 ∧ s.get SOL_T_BOOST_MAX n ≠ 0 then 1
  else if ph < 2 ∧ s.get SOL_T_PEAK n ≠ 0 then 2
  else if ph < 3 ∧ s.hasHold n then 3 else 0

/-- INHIBIT: SECONDS has not reached INHIBIT_END (R325). -/
def State.inhibited (s : State) (n : Nat) : Bool := s.get YARD_SECONDS < s.get SOL_INHIBIT_END n

/-- Set a bit of SOLn.FLAGS and its interrupt cause. -/
def State.solFlag (s : State) (n b : Nat) : State :=
  (s.put SOL_FLAGS (s.get SOL_FLAGS n ||| 2 ^ b) n).raise (solPage n) 16

/-! ### The boost controller (R308, R309, R327) -/

/-- The controller may run: enabled, not tripped, no start failure. -/
def State.boostMay (s : State) : Bool :=
  s.get HDR_EN 0x064 == 1 && !s.on BOOST_TRIP_STICKY && !s.on BOOST_START_FAIL

/-- A channel needs the rail: it holds it, or waits for it (R309). -/
def State.railNeeded (s : State) : Bool := s.get BOOST_HOLDER != 7 || (List.range 4).any fun n => (s.chan n).wait != 0

/-- RUN after a change of an enable, a trip, a failure or ON_DEMAND (R309); `need`: a channel is about to need the rail. -/
def State.boostSync (s : State) (need : Bool) : State :=
  s.put BOOST_RUN (bit (s.boostMay && (!s.on BOOST_ON_DEMAND || need || s.railNeeded || s.on BOOST_RUN)))

/-- Release the rail if channel `n` holds it (R306). -/
def State.releaseRail (s : State) (n : Nat) : State := if s.get BOOST_HOLDER = n then s.put BOOST_HOLDER 7 else s

/-! ### Phases -/

/-- A channel goes to OFF: switches off, rail released; a profile that had started ends, and under MIN_OFF its minimum
off time begins (R297, R300), while one that runs goes on. `rest`: whether a new one applies. A watch of the current check goes on to its
verdict (R324). DEDUCED, log 38, unsafe. -/
def State.toOff (s : State) (n : Nat) (rest : Bool) : State :=
  let ch := s.chan n
  let s := if ch.started then s.raise (solPage n) 1 else s
  let off := rest && ch.started && !s.on SOL_RETRIG n && s.get SOL_T_MIN_OFF n != 0
  let s := s.setChan n { ch.off with wait := 0, started := false, minOff := off || ch.minOff }
  (s.put SOL_PHASE 0 n).releaseRail n

/-- The origin of a profile, its first switch-on (R297): FIRES and the total of Table GRAN-8 count it, the motion detector is armed and the peak
is awaited (R301, R302, R305). DEDUCED, log 38, unsafe. -/
def State.origin (s : State) (n sw : Nat) : State :=
  let s := (((s.inc SOL_FIRES n).put SOL_MOTION 0 n).put SOL_T_MOTION 0xFFFF n).put SOL_T_TO_PEAK 0xFFFF n
  let s := { s with shadow := { s.shadow with fires := s.shadow.fires.set n ((s.shadow.fires.getD n 0 + 1) % 2 ^ 32) } }
  s.setChan n { s.chan n with sw := sw, dead := 0, chopOff := false, wait := 0, started := true, minOff := false,
                              motDone := s.get SOL_MOT_WIN_END n == 0, peakDone := false }

/-- Enter PEAK or HOLD, on HS_BAT (R295, R297, R298): after HS_BST the dead time comes first, and `cur` says that the
current had reached its target; with no profile running it is the origin. -/
def State.enterBat (s : State) (n ph : Nat) (cur : Bool) : State :=
  let s := s.put SOL_PHASE ph n
  let ch := s.chan n
  if ch.waitsBat then s.setChan n { ch with sw := 0, dead := 2, chopOff := cur }
  else if !ch.started then s.origin n 2
  else s

/-- Leave phase `ph` for the next one. -/
def State.advance (s : State) (n ph : Nat) (cur : Bool) : State :=
  let nx := s.nextPhase n ph
  if nx = 0 then s.toOff n true else s.enterBat n nx cur

/-- BOOST begins (R297); after HS_BAT, and in a restart, the dead time comes first (R295, R301). -/
def State.boostOn (s : State) (n : Nat) : State :=
  let s := s.put SOL_PHASE 1 n
  let ch := s.chan n
  if ch.waitsBst then s.setChan n { ch with sw := 0, dead := 1, chopOff := false, wait := 0, started := false }
  else s.origin n 1

/-- READY did not come (R304): the channel falls back to VBAT, or ends. -/
def State.notReady (s : State) (n : Nat) : State :=
  let fall := s.on SOL_BNR_FALLBACK n
  let s := ((s.solFlag n 2).event (solEvent n 0x12) (bit fall)).releaseRail n
  let s := s.setChan n { (s.chan n).off with wait := 0, started := false }
  if fall then s.advance n 1 false else s.toOff n false

/-- The channel holds the rail: BOOST starts, or the readiness wait (R304). -/
def State.withRail (s : State) (n : Nat) : State :=
  let s := s.put BOOST_HOLDER n
  if s.on SOL_BNR_EN n && !s.on BOOST_READY then
    if s.get SOL_T_BST_WAIT n = 0 then s.notReady n
    else (s.setChan n { (s.chan n).off with wait := 2, started := false }).put SOL_PHASE 4 n
  else s.boostOn n

/-- A start abandoned for want of the rail (R307). -/
def State.railRefuse (s : State) (n : Nat) : State :=
  let h := s.get BOOST_HOLDER
  let s := ((s.toOff n false).solFlag n 3).inc SOL_BST_REFUSALS n
  let p := solPage n
  (s.noteErr (s.chan n).firedBy true p 0x078 cBUSY).event 0x6414 (n + h * 2 ^ 4)

/-- A channel's rank on the rail (R306). -/
def State.railRank (s : State) (n : Nat) : Nat := if s.isShut n then 0 else if s.on SOL_USE n then 1 else 2

/-- No channel that waits for the rail goes before a newcomer (R306). -/
def State.railFirst (s : State) (n : Nat) : Bool :=
  (List.range 4).all fun k => k == n || (s.chan k).wait != 1 || decide (s.railRank n < s.railRank k)

/-- A channel needs the rail for BOOST (R306, R307, R309). -/
def State.needRail (s : State) (n : Nat) : State :=
  let s := s.boostSync true
  let h := s.get BOOST_HOLDER
  if h = n ∨ (h = 7 ∧ s.railFirst n) then s.withRail n
  else if !s.isShut n && s.get SOL_BST_DEFER n == 0 then s.railRefuse n
  else
    let k := s.solc.arrivals + 1
    let s := { s with solc := { s.solc with arrivals := k } }
    (s.setChan n { (s.chan n).off with wait := 1, order := k, started := false }).put SOL_PHASE 4 n

/-- A profile starts from OFF (R300): its first phase that is not skipped. -/
def State.startProfile (s : State) (n : Nat) : State :=
  let s := s.put SOL_PENDING 0 n
  let s := s.setChan n { (s.chan n).off with minOff := false, started := false }
  let ph := s.nextPhase n 0
  if ph = 1 then s.needRail n else if ph = 0 then s else s.enterBat n ph false

/-- A restart (R301): the switch that is on turns off, and a new profile starts from BOOST at once, after the dead time. -/
def State.restartProfile (s : State) (n : Nat) : State :=
  let ph := s.nextPhase n 0
  if ph = 1 then
    let s := if (s.chan n).started then s.raise (solPage n) 1 else s
    let ch := (s.chan n).off
    (s.setChan n { ch with dead := if 4 ≤ ch.dead then 5 else 3 }).needRail n
  else (s.toOff n false).startProfile n

/-- After a profile has ended, a pending command starts unless the minimum off time or the current check's watch runs. -/
def State.runPending (s : State) (n : Nat) : State :=
  if s.on SOL_PENDING n ∧ s.get SOL_PHASE n = 0 ∧ (s.chan n).minOff = false ∧ (s.chan n).watch = false then s.startProfile n else s

/-- The channel is latched off by the fault of the shutter (R289). DEDUCED, log 37, unsafe. -/
def State.shutOff (s : State) (n : Nat) : Bool :=
  s.on SHUT_FAULTED && (n == s.get SHUT_CH_CLOSE || (s.on SHUT_TYPE && n == s.get SHUT_CH_OPEN))

/-- FIRE is refused in these states (R289, R299, Table SOL-3, R321). -/
def State.fireBlocked (s : State) (n : Nat) : Bool :=
  s.shutOff n ||
  s.get HDR_EN (solPage n) == 0 || s.on SOL_TRIPPED n || s.get SOL_LATCH n != 0 || s.on SOL_HOT n || s.inhibited n ||
  s.solc.tripLow

/-- An accepted FIRE (Table SOL-3). During the watch of the current check, which always ends in a latch, it only becomes pending.
DEDUCED, log 38, unsafe. -/
def State.fire (s : State) (m n : Nat) : State :=
  let s := s.setChan n { s.chan n with firedBy := m }
  let ph := s.get SOL_PHASE n
  let restart := s.on SOL_RETRIG n
  if ph = 4 ∨ s.on SOL_PENDING n then s.inc SOL_COALESCED n
  else if (s.chan n).watch then s.put SOL_PENDING 1 n
  else if ph = 0 then if (s.chan n).minOff && !restart then s.put SOL_PENDING 1 n else s.startProfile n
  else if restart then s.restartProfile n
  else s.put SOL_PENDING 1 n

/-- STOP (R299): any phase and any wait end, and a pending command is discarded. -/
def State.stopChan (s : State) (n : Nat) : State := (s.put SOL_PENDING 0 n).toOff n true

/-- A FIRE from a master is refused with STATE_REJECT, mask 0 (R282, R299, Table SOL-3); a STOP only by R282. -/
def State.solCheck (s : State) (n : Nat) (stop : Bool) : Option Refuse :=
  if s.isShut n then some ⟨cSTATE, 0, false⟩
  else if s.mode = DORMANT then some ⟨cSTATE, 0xE, false⟩
  else if stop then none
  else if s.fireBlocked n then some ⟨cSTATE, 0, false⟩
  else none

/-- What an accepted write of SOLn.CMD does; STOP wins over FIRE (R299). -/
def State.solDo (s : State) (m n : Nat) (fire stop : Bool) : State :=
  if stop then s.stopChan n else if fire then s.fire m n else s

/-! ### Events of a profile -/

/-- The time to peak is out of its window (R305). -/
def State.tpkFlag (s : State) (n : Nat) : State :=
  let s := (s.solFlag n 1).event (solEvent n 0x13) (s.get SOL_T_TO_PEAK n)
  if s.on SOL_TPK_ABORT n then (s.toOff n true).runPending n else s

/-- I reaches I_PEAK (R297, R305): the time is recorded and judged, and BOOST ends. -/
def State.peak (s : State) (n t : Nat) : State :=
  let ch := s.chan n
  if !ch.started then s
  else
    let boost := s.get SOL_PHASE n == 1
    let first := !ch.peakDone
    let early := first && s.on SOL_TPK_EN n && s.get SOL_TPK_MIN n != 0 && decide (t < s.get SOL_TPK_MIN n)
    let s := if first then
      (s.put SOL_T_TO_PEAK (min t 0xFFFE) n).setChan n { s.chan n with peakDone := true } else s
    let s := if early then s.tpkFlag n else s
    if boost && !(early && s.on SOL_TPK_ABORT n) then ((s.releaseRail n).advance n 1 true).runPending n else s

/-- The peak has not come by TPK_MAX (R305). -/
def State.tpkLate (s : State) (n : Nat) : State :=
  let ch := s.chan n
  if ch.started && !ch.peakDone && s.on SOL_TPK_EN n && s.get SOL_TPK_MAX n != 0 then
    ((s.put SOL_T_TO_PEAK 0xFFFF n).setChan n { ch with peakDone := true }).tpkFlag n
  else s

/-- A phase reaches its time limit (R297). DESIGN CHOICE, log 15, unsafe. -/
def State.phaseTimer (s : State) (n : Nat) : State :=
  let ph := s.get SOL_PHASE n
  let ch := s.chan n
  if !ch.started then s
  else if ph = 1 then ((s.releaseRail n).advance n 1 false).runPending n
  else if ph = 2 then (s.advance n 2 false).runPending n
  else if ph = 3 ∧ s.holdUntil n = false then (s.toOff n true).runPending n
  else s

/-- Chopping (R298), at a sensed current: the mean of the last 4 samples (R296). DEDUCED, log 38, unsafe. -/
def State.chop (s : State) (n mA : Nat) : State :=
  let ch := s.chan n
  let ph := s.get SOL_PHASE n
  let target := if ph = 2 then s.get SOL_I_PEAK n else s.get SOL_I_HOLD n
  if (ph = 2 ∨ ph = 3) ∧ ch.dead = 0 ∧ ch.watch = false then
    if ch.sw = 2 ∧ mA ≥ target then s.setChan n { ch with sw := 0, chopOff := true }
    else if ch.sw = 0 ∧ mA + s.get SOL_I_HYST n ≤ target then s.setChan n { ch with sw := 2, chopOff := false }
    else s
  else s

/-- I_NOW (R296): I = V / RSNS in mA, for a 12-bit code of the sense voltage, 0 to 400 mV. The voltage is the coil's, which the model
leaves open. DESIGN CHOICE, log 8, safe. -/
def State.senseNow (s : State) (n code : Nat) : Nat :=
  (roundDiv ((code % 4096 * 400000 : Nat) : Int) (4096 * s.get SOL_RSNS n : Nat)).toNat

/-- The dead time ends (R295, R298, R301), and the switch it led to turns on; during the watch of the current check both switches stay off (R324). -/
def State.deadEnd (s : State) (n : Nat) : State :=
  let ch := s.chan n
  if ch.watch then s.setChan n { ch with dead := 0 }
  else if ch.dead = 1 then s.origin n 1
  else if ch.dead = 2 then
    if ch.started then s.setChan n { ch with dead := 0, sw := if ch.chopOff then 0 else 2 } else s.origin n 2
  else s.setChan n { ch with dead := 0 }

/-- The minimum off time ends (R300). -/
def State.minOffEnd (s : State) (n : Nat) : State :=
  if (s.chan n).minOff then (s.setChan n { s.chan n with minOff := false }).runPending n else s

/-- Motion is detected in the open window with a switch on (R302); answers whether it was. -/
def State.motionSeen (s : State) (n t : Nat) : Bool :=
  let ch := s.chan n
  ch.started && ch.sw != 0 && !ch.motDone && decide (s.get SOL_MOT_WIN_START n ≤ t) &&
    decide (t ≤ s.get SOL_MOT_WIN_END n)

/-- Record the motion (R302). -/
def State.motion (s : State) (n t : Nat) : State :=
  if s.motionSeen n t then
    ((s.put SOL_T_MOTION (min t 0xFFFE) n).put SOL_MOTION 1 n).setChan n { s.chan n with motDone := true }
  else s

/-- The window closes with no detection (R303). -/
def State.motMiss (s : State) (n : Nat) : State :=
  if (s.chan n).motDone then s
  else ((s.put SOL_T_MOTION 0xFFFF n).solFlag n 4).setChan n { s.chan n with motDone := true }

/-! ### The rail -/

/-- The channel that the free rail serves next (R306). -/
def State.railNext (s : State) : Option Nat :=
  (List.range 4).foldl (fun best n =>
    if (s.chan n).wait ≠ 1 then best
    else
      match best with
      | none => some n
      | some b =>
        if s.railRank n < s.railRank b ∨ (s.railRank n = s.railRank b ∧ (s.chan n).order < (s.chan b).order) then some n
        else best) none

/-- The rail is granted to the channel that is next (R306). -/
def State.railGrant (s : State) (n : Nat) : State :=
  if s.get BOOST_HOLDER = 7 ∧ s.railNext = some n then
    (s.setChan n { s.chan n with wait := 0 }).withRail n
  else s

/-- A washer or general channel has waited BST_DEFER (R307). -/
def State.railDefer (s : State) (n : Nat) : State :=
  if (s.chan n).wait = 1 ∧ s.isShut n = false then s.railRefuse n else s

/-- READY follows VBST with its hysteresis (R308); a holder that waits for READY starts BOOST. DEDUCED, log 38, unsafe. -/
def State.readyJudge (s : State) (v : Nat) : State :=
  let set := s.get BOOST_VSET
  if 10 * v ≥ 9 * set then
    let s := s.put BOOST_READY 1
    (List.range 4).foldl (fun s n =>
      if (s.chan n).wait = 2 then (s.setChan n { s.chan n with wait := 0 }).boostOn n else s) s
  else if 20 * v < 17 * set then s.put BOOST_READY 0
  else s

/-- OV follows VBST: set above VSET + 2.0 V or 62.0 V, clear below VSET + 1.0 V; logged once per episode (R308). -/
def State.ovJudge (s : State) (v : Nat) : State :=
  let set := s.get BOOST_VSET
  if v > set + 8 ∨ v > 248 then if s.on BOOST_OV then s else (s.put BOOST_OV 1).event 0x6411 v
  else if v < set + 4 then s.put BOOST_OV 0
  else s

/-- VBST is measured (R308): all that follows from it. -/
def State.vbst (s : State) (v : Nat) : State := ((s.put BOOST_VBST_NOW v).ovJudge v).readyJudge v

/-- IDLE_MS after the last BOOST phase (R309). -/
def State.boostIdle (s : State) : State :=
  if s.on BOOST_ON_DEMAND ∧ s.get BOOST_HOLDER = 7 ∧ (List.range 4).all (fun n => (s.chan n).wait == 0) then
    s.put BOOST_RUN 0 else s

/-- READY not reached within START_MAX (R327). -/
def State.startFail (s : State) (v : Nat) : State :=
  if s.on BOOST_RUN ∧ s.on BOOST_READY = false ∧ s.get BOOST_START_MAX ≠ 0 then
    (((s.vbst v).put BOOST_START_FAIL 1).put BOOST_RUN 0).event 0x6410 v
  else s

/-- BOOST.FAULT_CLR (R327). -/
def State.boostFaultClr (s : State) : State := (s.put BOOST_START_FAIL 0).boostSync false

/-! ### Coil model (R310 to R312) -/

/-- The housing temperature in 1/256 °C: Thous, or TS2 while Thous is invalid (R310, R331). -/
def State.housing (s : State) : Int :=
  16 * (if s.thousBad then signed 16 (s.get TEMP_TS2) else signed 16 (s.get TEMP_THOUS))

/-- One 1 ms step of a coil temperature in 1/256 °C, rounded to nearest (R310). What the rounding leaves is carried into the next step:
without it 300 mA would not reach the 150.3 °C that R310 gives. DEDUCED, log 38, unsafe. -/
def coilNext (tc frac th : Int) (i2 r20 rth tau : Nat) : Int × Int :=
  let k : Int := 2 ^ 24
  let x : Int := tc * k + frac
  let d : Int := 2 ^ 20 * 10000000000
  let rise : Int := (i2 * r20 * rth : Nat) * (2 ^ 28 * k + 4121 * (x - 5120 * k))
  let y := roundDiv (x * d * (tau * 100 : Nat) + rise - (x - th * k) * d) (d * (tau * 100 : Nat))
  let c := roundDiv y k
  (c, y - c * k)

/-- TCOIL: Tc in 1/16 °C, rounded to nearest (R310). DEDUCED, log 38, unsafe. -/
def State.tcoil (s : State) (n : Nat) : Nat := unsigned 16 (roundDiv (s.chan n).tc 16)

/-- HOT follows Tc (R311). -/
def State.judgeHot (s : State) (n : Nat) : State :=
  let tc := (s.chan n).tc
  let lim : Int := 16 * s.get SOL_COIL_TLIM n
  if tc ≥ lim then
    if s.on SOL_HOT n then s
    else
      let s := (((s.put SOL_HOT 1 n).put SOL_PENDING 0 n).raise (solPage n) 8).event (solEvent n 0x11)
        (s.tcoil n)
      if s.get SOL_PHASE n = 3 then s.toOff n true else s
  else if tc < lim - 16 * (s.get SOL_COIL_THYS n : Nat) then s.put SOL_HOT 0 n
  else s

/-- The step of one channel with its mean I² in mA² (R310). -/
def State.coilStep (s : State) (n i2 : Nat) : State :=
  let ch := s.chan n
  let c := coilNext ch.tc ch.frac s.housing i2 (s.get SOL_COIL_R20 n) (s.get SOL_COIL_RTH n) (s.get SOL_COIL_TAU n)
  (s.setChan n { ch with tc := c.1, frac := c.2 }).judgeHot n

/-- Tc after `ticks` YCLK cycles without HFRC (R312). -/
def coilDecay (tc th : Int) (ticks tau : Nat) : Int :=
  let a : Nat := ticks * 10
  let b : Nat := 32768 * tau
  if a > 60 * b then th else th + roundDiv ((tc - th) * expFix (-(a : Int)) (b : Int)) fix

/-- HFRC is back (R312): every model takes the elapsed interval in one step. -/
def State.coilResume (s : State) : State :=
  match s.solc.stopped with
  | none => s
  | some (sec, tick) =>
    let el := (s.get YARD_SECONDS - sec) * 32768 + s.get YARD_SUBSEC - tick
    let s := { s with solc := { s.solc with stopped := none } }
    (List.range 4).foldl (fun s n =>
      (s.setChan n { s.chan n with tc := coilDecay (s.chan n).tc s.housing el (s.get SOL_COIL_TAU n), frac := 0 }).judgeHot n) s

/-- HFRC stops with L3 reached (R312, Table YARD-5). -/
def State.coilStop (s : State) : State :=
  { s with solc := { s.solc with stopped := some (s.get YARD_SECONDS, s.get YARD_SUBSEC) } }

/-! ### TRIP_N and faults -/

/-- Every switch off, BST_GATE low, every profile in OFF, pending commands discarded (R319, R340). -/
def State.actuatorsOff (s : State) : State :=
  let s := (List.range 4).foldl (fun s n => (s.put SOL_PENDING 0 n).toOff n false) s
  (s.put BOOST_RUN 0).put BOOST_HOLDER 7

/-- TRIP_N has been low for 100 ns with PD_SOL on (R321, R322). -/
def State.tripAct (s : State) : State :=
  let out := (List.range 4).foldl (fun a n => if s.get SOL_PHASE n ≠ 0 then a + 2 ^ n else a) 0
  let dead := (List.range 4).foldl (fun a n => if (s.chan n).dead = 1 ∨ (s.chan n).dead = 2 then a + 2 ^ n else a) 0
  let s := s.actuatorsOff
  let s := (List.range 4).foldl (fun s n =>
    ((s.put SOL_TRIPPED 1 n).put SOL_TRIP_STICKY 1 n).raise (solPage n) 4) s
  ((s.put BOOST_TRIP_STICKY 1).inc BOOST_TRIPS).event 0x6412 (out + dead * 2 ^ 4)

/-- TRIP_N falls (R321). With PD_SOL off it acts when the domain opens (R328). -/
def State.trip (s : State) : State :=
  let s := { s with solc := { s.solc with tripLow := true, tripRecent := false } }
  if s.pd 8 = 2 ∨ s.pd 8 = 3 then s.tripAct else s

/-- TRIP_N rises (R323). -/
def State.tripRelease (s : State) : State :=
  if s.solc.tripLow then { s with solc := { s.solc with tripLow := false, tripRecent := true } } else s

/-- A clear written while TRIP_N is low or within 10 µs of its rise is ignored (R323). -/
def State.tripClrIgnored (s : State) : Bool := s.solc.tripLow || s.solc.tripRecent

/-- SOLn.TRIP_CLR (R323). -/
def State.solTripClr (s : State) (n : Nat) : State :=
  if s.tripClrIgnored then
    let s := (s.solFlag n 0).inc SOL_TRIP_REJECTS n
    s.event (solEvent n 0x14) (s.get SOL_TRIP_REJECTS n)
  else (s.put SOL_TRIPPED 0 n).put SOL_TRIP_STICKY 0 n

/-- BOOST.TRIP_CLR (R323). -/
def State.boostTripClr (s : State) : State :=
  if s.tripClrIgnored then
    let s := (s.put BOOST_TRIP_CLR_REJECT 1).inc BOOST_TRIP_REJECTS
    s.event 0x6413 (s.get BOOST_TRIP_REJECTS)
  else (s.put BOOST_TRIP_STICKY 0).boostSync false

/-- The current check fires (R324): both switches off, and SOLn_OUT is watched. -/
def State.currentCheck (s : State) (n : Nat) : State :=
  let ch := s.chan n
  if ch.sw ≠ 0 ∧ s.get SOL_T_OPEN_DET n ≠ 0 then s.setChan n { ch with sw := 0, dead := 0, watch := true } else s

/-- A verdict latches the channel (R325): 1 open coil, 2 sense failure, which puts Tc at its limit (R311), 3 overcurrent. -/
def State.latch (s : State) (n v : Nat) : State :=
  let s := (s.put SOL_PENDING 0 n).toOff n false
  let s := s.setChan n { s.chan n with watch := false }
  let s := ((s.put SOL_LATCH v n).raise (solPage n) 2).event (solEvent n 0x10) v
  if v = 2 then
    ((s.setChan n { s.chan n with tc := 16 * s.get SOL_COIL_TLIM n, frac := 0 }).put SOL_INHIBIT_END
      (s.get YARD_SECONDS + (s.get SOL_COIL_TAU n + 1) / 2) n).judgeHot n
  else s

/-- SOLn.FAULT_CLR is refused while TRIP_N is low, TRIPPED or INHIBIT (R326). -/
def State.solFaultCheck (s : State) (n : Nat) : Option Refuse :=
  if s.solc.tripLow ∨ s.on SOL_TRIPPED n ∨ s.inhibited n then some ⟨cSTATE, 0, false⟩ else none

/-- PD_SOL opens (R328): after a loss of class C the models start, and a TRIP_N that is low acts. -/
def State.solOpen (s : State) (fresh : Bool) : State :=
  let s := if fresh then
      (List.range 4).foldl (fun s n =>
        (s.setChan n { SolS.idle with tc := if s.inhibited n then 16 * s.get SOL_COIL_TLIM n else s.housing }).judgeHot n)
        { s with sol := List.replicate 4 SolS.idle }
    else s
  let s := s.boostSync false
  if s.solc.tripLow then s.tripAct else s

/-- A SOLn page is idle: OFF with no pending command (R314). -/
def State.solIdle (s : State) (n : Nat) : Bool := s.get SOL_PHASE n == 0 && !s.on SOL_PENDING n

/-! ### Limits (R313, R315) -/

/-- `v` lies in a range. -/
def inRange (lo hi v : Nat) : Bool := lo ≤ v && v ≤ hi

/-- The values that a COMMIT.GO on SOLn would bring into force pass R313 and R315. -/
def State.solGoOk (s : State) (n : Nat) : Bool :=
  let g := fun r => s.getStaged r n
  let ih := g SOL_I_HOLD
  inRange 50 3000 (g SOL_I_PEAK) && (ih == 0 || inRange 20 1000 ih) && inRange 10 500 (g SOL_I_HYST) &&
  inRange 1 20 (g SOL_CHOP_MIN) && (g SOL_T_BOOST_MAX == 0 || inRange 10 10000 (g SOL_T_BOOST_MAX)) &&
  inRange 4 32 (g SOL_DEAD) && inRange 5 500 (g SOL_MOT_DIP) && inRange 20 500 (g SOL_RSNS) &&
  inRange 10 1000 (g SOL_I_SENSE_MIN) && decide (100 ≤ g SOL_COIL_R20) && decide (1 ≤ g SOL_COIL_TAU) &&
  decide (16 ≤ g SOL_COIL_THYS) && decide (ih ≤ g SOL_I_PEAK) && (ih == 0 || decide (g SOL_I_HYST < ih)) &&
  decide (g SOL_I_PEAK * g SOL_RSNS ≤ 400000) &&
  (g SOL_MOT_WIN_END == 0 || decide (g SOL_MOT_WIN_START < g SOL_MOT_WIN_END)) &&
  (g SOL_TPK_MIN == 0 || g SOL_TPK_MAX == 0 || decide (g SOL_TPK_MIN < g SOL_TPK_MAX)) &&
  !(ih == 0 && s.get HDR_EN 0x065 == 1 && !s.on SHUT_TYPE && n == s.get SHUT_CH_CLOSE)

/-- The values that a COMMIT.GO on BOOST would bring into force pass R313. -/
def State.boostGoOk (s : State) : Bool :=
  inRange 80 240 (s.getStaged BOOST_VSET) && inRange 20 200 (s.getStaged BOOST_ILIM)

end Sys2Proof.Machine
end

