-- ==== Sys2Proof/Machine/Fpa.lean ====
section
/-! DEFINITION. The array interface: formats, band sets, the timing checks, bias ramps and overload, conversion and the
array diode (R182 to R209, R330, R335, R336). -/

namespace Sys2Proof.Machine

/-- Columns and active rows of the format in force (R182). -/
def State.width (s : State) : Nat := [320, 384, 640].getD (s.get FPA_WIDTH) 640
def State.height (s : State) : Nat := [240, 256, 288, 480, 512].getD (s.get FPA_HEIGHT) 512

/-- Columns per input (R182). -/
def State.group (s : State) : Nat := s.width / 32

/-- The input and the mux step of column `col` (R183). -/
def State.inputOf (s : State) (col : Nat) : Nat := if s.get FPA_MAP = 1 then col % 32 else col / s.group
def State.stepOf (s : State) (col : Nat) : Nat := if s.get FPA_MAP = 1 then col / 32 else col % s.group

/-- Row periods of a frame (R185). -/
def State.rows (s : State) : Nat := s.height + 16

/-- A bias code in force: the band set's, or the override's (R194). -/
def State.biasCode (s : State) (set ovr : Row) : Nat := if s.on BIAS_OVR then s.get ovr else s.get set 0 (s.get BAND_BAND_NOW)

/-- VCM in force. -/
def State.vcm (s : State) : Nat := s.biasCode BAND_VCM BIAS_VCM_OVR

/-! ### Checks of a GO on FPA, BIAS or BANDSET (R184, R194, R198) -/

/-- VDET_ON plus every SHAPE lies in the VDET range of R190. -/
def State.shapeOk (s : State) (p b : Nat) : Bool :=
  let on : Int := if s.comb p BIAS_OVR = 1 then s.comb p BIAS_VDET_OVR else s.comb p BAND_VDET_ON 0 b
  (List.range 32).all fun k =>
    let v := on + signed 16 (s.comb p BAND_SHAPE 0 (32 * b + k))
    decide (3641 ≤ v) && decide (v ≤ 61895)

/-- The constraints of Table FPA-5 for band set `b`. -/
def State.timingOk (s : State) (p b : Nat) : Bool :=
  let g := fun r => s.comb p r
  let rp := g FPA_ROW_PERIOD
  let rise := s.comb p BAND_RISE 0 b
  let fall := s.comb p BAND_FALL 0 b
  let w := [320, 384, 640].getD (g FPA_WIDTH) 640
  let h := [240, 256, 288, 480, 512].getD (g FPA_HEIGHT) 512
  decide (g FPA_ROW_RST_W + 8 ≤ g FPA_INT_START) && decide (rise + fall ≤ g FPA_INT_LEN) &&
  decide (g FPA_INT_START + g FPA_INT_LEN + fall + 8 ≤ rp) &&
  decide (s.comb p BAND_SETTLE 0 b + 16 ≤ g FPA_COL_PERIOD) &&
  decide (g FPA_COL_START + w / 32 * g FPA_COL_PERIOD + 4 ≤ rp) && decide ((h + 16) * rp ≤ g FPA_FRAME_PERIOD)

/-- The whole check of R198 with each of the five band sets. -/
def State.arrayGoOk (s : State) (p : Nat) : Bool := (List.range 5).all fun b => s.timingOk p b && s.shapeOk p b

/-- A GO on FPA that changes WIDTH, HEIGHT or MAP (R184). -/
def State.formatChange (s : State) : Bool :=
  s.getStaged FPA_WIDTH != s.get FPA_WIDTH || s.getStaged FPA_HEIGHT != s.get FPA_HEIGHT ||
    s.getStaged FPA_MAP != s.get FPA_MAP

/-! ### Conversion (R193, R208, R209, R217) -/

/-- A converter's code for an input voltage in µV (own errors of the array and the converter included), before clipping:
the input trim, VCM, and the gain and offset trims of converter `inst`, rounded to nearest, a half LSB away from zero.
DESIGN CHOICE, log 60, unsafe. DESIGN CHOICE, log 11, safe. -/
def State.codeOf (s : State) (inst k uv : Nat) : Int :=
  let v : Int := (uv : Int) + ((s.get BIAS_TRIM 0 k : Int) - 2048) * 50
  let x : Int := v * 65536 - (s.vcm : Int) * 1800000
  let g : Int := 100000 + 2 * signed 10 (s.get CH_GAIN_TRIM inst)
  let o : Int := signed 10 (s.get CH_OFS_TRIM inst)
  roundDiv (x * g * 8 + o * 180000000000) 1440000000000

/-- Clip to the 16-bit range, with CLIP (R208, R209). -/
def clip16 (x : Int) : Int × Bool :=
  if x < -32768 then (-32768, true) else if x > 32767 then (32767, true) else (x, false)

/-! ### Bias and timing (R202, R204) -/

/-- The bias may be up: both enables, no overload (R202, R204, Table REG-2A). -/
def State.biasMay (s : State) : Bool := s.get HDR_EN 0x010 == 1 && s.get HDR_EN 0x011 == 1 && !s.fpa.ovl

/-- A frame is in progress (R10, R185): from its FSYNC to the next one. A sentry frame, which no stretch follows (R351), ends with its
last row period. -/
def State.frameRuns (s : State) : Bool := s.fpa.on && s.fpa.inFrame

/-- Row periods of the frame in progress have still to start. -/
def State.rowsLeft (s : State) : Bool := s.fpa.on && s.fpa.inFrame && s.fpa.row < s.rows

/-- The row in progress (R185, Table FPA-6). -/
def State.rowNow (s : State) : Nat := if s.frameRuns then s.fpa.row - 1 else 0

/-- The row in progress is integrated (R186, R187): blind and active rows. -/
def State.rowIntegrates (s : State) : Bool := s.frameRuns && 0 < s.fpa.row && s.fpa.row ≤ s.height + 8

/-- A point `n` of `d` on a line from `a` to `b`, rounded to nearest. DESIGN CHOICE, log 59, unsafe. -/
def lerp (a b n d : Nat) : Nat := ((a : Int) + roundDiv (((b : Int) - a) * n) d).toNat

/-- VDET_IDLE of the band set in force. -/
def State.vdetIdle (s : State) : Nat := s.get BAND_VDET_IDLE 0 (s.get BAND_BAND_NOW)

/-- VDET in segment `k` of a row's waveform: VDET_ON, or its override, plus SHAPE_k (R191, R194). -/
def State.vdetStep (s : State) (k : Nat) : Nat :=
  ((s.biasCode BAND_VDET_ON BIAS_VDET_OVR : Int) + signed 16 (s.get BAND_SHAPE 0 (32 * s.get BAND_BAND_NOW + k))).toNat

/-- The VDET waveform of a row that integrates, at PXCLK cycle `c` of the row (R191). -/
def State.vdetAt (s : State) (c : Nat) : Nat :=
  let b := s.get BAND_BAND_NOW
  let start := s.get FPA_INT_START
  let len := s.get FPA_INT_LEN
  let rise := s.get BAND_RISE 0 b
  let fall := s.get BAND_FALL 0 b
  if c < start then s.vdetIdle
  else if c < start + rise then lerp s.vdetIdle (s.vdetStep 0) (c - start) rise
  else if c < start + len then
    s.vdetStep (((List.range 32).filter fun k => decide (start + rise + k * (len - rise) / 32 ≤ c)).foldl max 0)
  else if c < start + len + fall then lerp (s.vdetStep 31) s.vdetIdle (c - (start + len)) fall
  else s.vdetIdle

/-- The PXCLK cycles of a ramp: over RAMP_MS, in a closing domain over 100 µs (R202, R203). -/
def State.rampCycles (s : State) : Nat := if s.fpa.ramp = 2 ∧ s.pd 1 = 3 then 4000 else s.get BIAS_RAMP_MS * 40000

/-- The VDET code at instant `x` of a ramp, or of a row that integrates; the level at rest otherwise (R191, R202, R204). -/
def State.vdet (s : State) (x : Nat) : Nat :=
  if s.fpa.ramp = 1 then lerp s.fpa.level s.vdetIdle (x % (s.rampCycles + 1)) (max 1 s.rampCycles)
  else if s.fpa.ramp = 2 then lerp s.fpa.level 0 (x % (s.rampCycles + 1)) (max 1 s.rampCycles)
  else if s.rowIntegrates && !s.fpa.tripped then s.vdetAt (x % s.get FPA_ROW_PERIOD)
  else s.get BIAS_VDET_NOW

/-- A ramp starts from the present level (R202): within another ramp that is the level at an instant the model leaves open.
DESIGN CHOICE, log 8, safe. -/
def State.rampFrom (s : State) : State :=
  let (x, t) := s.fresh
  if s.fpa.ramp = 0 then { s with fpa := { s.fpa with level := s.get BIAS_VDET_NOW } }
  else { t with fpa := { t.fpa with level := s.vdet x } }

/-- The timing is on, its bias at the band set in force. -/
def State.rampTop (s : State) : State :=
  ({ s with fpa := { s.fpa with on := true, ramp := 0, row := 0, inFrame := false, due := false } }).put BIAS_VDET_NOW s.vdetIdle

/-- Start the timing with a bias ramp (R202); a RAMP_MS of 0 steps at once. A stop that has not come yet is taken back, but not that
of an overload (R204). DEDUCED, log 34, unsafe. -/
def State.rampUp (s : State) : State :=
  if s.pd 1 ≠ 2 ∨ s.fpa.on then { s with fpa := { s.fpa with stop := s.fpa.tripped, halt := false } }
  else if s.get BIAS_RAMP_MS = 0 then s.rampTop
  else { s.rampFrom with fpa := { s.rampFrom.fpa with ramp := 1 } }

/-- While the timing rests no frame is throttled; that throttling has ended is logged with the next frame (R336). -/
def State.throttleRest (s : State) : State := (s.put TEMP_ACTIVE 0).put TEMP_AT_MIN 0

/-- Stop the timing now: outputs low, the bias ramps to 0 V and no frame is produced (R202, R203, R204).
DEDUCED, log 34, unsafe. -/
def State.rampDown (s : State) : State :=
  let s := s.rampFrom.throttleRest
  let r := if s.get BIAS_RAMP_MS = 0 ∨ s.fpa.ovl then 0 else 2
  ({ s with fpa := { s.fpa with on := false, ramp := r, stop := false, halt := false, tripped := false, inFrame := false, row := 0,
                                sentry := false, due := false }
            sen := { s.sen with binning := false }
            mill := { s.mill with clearTf := true, frame := false } }).put BIAS_VDET_NOW 0

/-- FPA.CTRL.EN or BIAS.CTRL.EN changes (R202): a running timing stops at the next boundary, at once where no frame
brings one. -/
def State.biasSync (s : State) : State :=
  if s.biasMay then s.rampUp
  else if s.fpa.on then
    if s.frameRuns then { s with fpa := { s.fpa with stop := true } } else s.rampDown
  else if s.fpa.ramp = 1 then { s.rampFrom with fpa := { s.rampFrom.fpa with ramp := 2 } }
  else s

/-- The ramp in progress ends (R202). DEDUCED, log 34, unsafe. -/
def State.rampEnd (s : State) : State :=
  if s.fpa.ramp = 1 then s.rampTop else { s with fpa := { s.fpa with ramp := 0 } }

/-- An output stays in current limit for 10 µs (R204): every bias output goes to 0 V, within 100 µs, and the timing stops at the next
boundary. While PD_PIX closes the outputs are still driven. DEDUCED, log 34, unsafe. -/
def State.overload (s : State) (outputs : Nat) : State :=
  if s.pd 1 < 2 ∨ outputs % 16 = 0 then s
  else
    let o := outputs % 16
    let s := ((s.put BIAS_OVL (s.get BIAS_OVL ||| o)).event 0x1110 o).raise 0x011 1
    let s := { s with fpa := { s.fpa with ovl := true, ramp := 0 } }.put BIAS_VDET_NOW 0
    if s.frameRuns then { s with fpa := { s.fpa with stop := true, tripped := true } } else if s.fpa.on then s.rampDown else s

/-! ### The diode (R197, R205, R330) -/

/-- Latch a reading at the end of idle row 5, where DIODE_CFG.EN is looked at. DESIGN CHOICE, log 34, unsafe. -/
def State.diode (s : State) (dvbe : Nat) : State :=
  if s.on FPA_EN then
    let s := s.put FPA_DIODE_DVBE dvbe
    if dvbe < 4000 ∨ 12000 < dvbe then
      if s.on FPA_TFPA_BAD then s else ((s.put FPA_TFPA_BAD 1).event 0x1010 dvbe).raise 0x010 2
    else
      let t := tfpaOf dvbe (s.get TEMP_DIODE_SLOPE) (signed 16 (s.get TEMP_DIODE_OFS))
      let s := (s.put FPA_TFPA_BAD 0).put TEMP_TFPA (unsigned 16 t)
      { s with fpa := { s.fpa with tfpaValid := true } }
  else s

/-- Tfpa (R330), in 1/16 °C. -/
def State.tfpa (s : State) : Int := signed 16 (s.get TEMP_TFPA)

/-! ### Band set and throttle at a boundary (R196, R200, R335, R336) -/

/-- The band set follows TEMP's band (R196, Table REG-2A); answers whether it changed. -/
def State.bandSwitch (s : State) : State × Bool :=
  let old := s.get BAND_BAND_NOW
  if s.get HDR_EN 0x012 = 1 ∧ s.band ≠ old then
    ((s.put BAND_BAND_NOW s.band).event 0x1210 (s.band + old * 2 ^ 4), true)
  else (s, false)

/-- A changed band set moves the bias in one step (R196); between frames VDET rests at its idle level. The array rests, so that the
change is at once (R10, Table REG-2A). DEDUCED, log 34, unsafe. -/
def State.bandRest (s : State) : State :=
  if s.frameRuns then s
  else
    let s := s.bandSwitch.1
    if s.fpa.on then s.put BIAS_VDET_NOW s.vdetIdle else s

/-- FRAME_EFF (R188): the period of the frame in progress; otherwise the one in force for the next. -/
def State.frameEff (s : State) : Nat := if s.frameRuns then s.get FPA_FRAME_EFF else s.get FPA_FRAME_PERIOD

/-- The frame period of the frame that starts (R188, R335, R336). In SENTRY, which does not use FRAME_PERIOD, FRAME_EFF shows it all the
same. DESIGN CHOICE, log 34, unsafe. -/
def State.throttleAt (s : State) : State :=
  let tj := s.tj
  let s := { s with fpa := { s.fpa with tj := tj } }
  let per := s.get FPA_FRAME_PERIOD
  let acts := s.on TEMP_THR_EN && (s.runMode == LIVE || s.runMode == SERVICE)
  let (eff, atMin) := if acts then
      throttle per (s.get TEMP_THR_START) (s.get TEMP_THR_SPAN) (s.get TEMP_THR_RATE_MIN) tj
    else (per, false)
  let was := s.fpa.throttled
  let now := eff > per
  let s := (({ s with fpa := { s.fpa with throttled := now } }.put FPA_FRAME_EFF eff).flag TEMP_ACTIVE now).flag TEMP_AT_MIN (now && atMin)
  let s := if now then s.inc TEMP_THR_FRAMES else s
  if now && !was then (s.event 0x0411 (unsigned 16 tj)).raise 4 2
  else if was && !now then (s.event 0x0412 (unsigned 16 tj)).raise 4 2
  else s

end Sys2Proof.Machine
end

