-- ==== Sys2Proof/Machine/Granary.lean ====
section
/-! DEFINITION. The Granary's program engine (R493 to R501, R635), its commands' checks (Table GRAN-3), protection
(R508, R509), and the shadow store (R505 to R517). -/

namespace Sys2Proof.Machine

/-! ### Job kinds: 0x01 to 0x0B are the host opcodes of Table GRAN-2 -/

def jSTORE : Nat := 0x20
def jPREERASE : Nat := 0x21
def jTRIM : Nat := 0x22
def jFIELD : Nat := 0x23
def jREFRESH : Nat := 0x24
def jRELOCATE : Nat := 0x25
def jCLOSE : Nat := 0x26

/-- Work on the Granary part of the state. -/
def State.onGran (s : State) (f : GranS → GranS) : State := { s with gran := f s.gran }

/-- The bytes of BUF that LEN names (Table GRAN-10). -/
def State.bufBytes (s : State) (n : Nat) : List Byte :=
  ((List.range ((n + 3) / 4)).flatMap fun i => le32 (s.get GRAN_BUF 0 i)).take n

/-- Cut a byte sequence into page operations: none crosses a 256-byte page (R494). -/
def pageOps : Nat → Nat → List Byte → List GOp
  | 0, _, _ => []
  | fuel + 1, a, bs =>
    if bs.isEmpty then []
    else
      let n := 256 - a % 256
      .program a (bs.take n) :: pageOps fuel (a + n) (bs.drop n)

/-! ### Where a log's next record goes (R497 to R500) -/

/-- A sector holds only erased bytes. -/
def GranS.sectorErased (g : GranS) (sec : Nat) : Bool :=
  !(g.mem.any fun c => c.1 / 0x1000 == sec) && !g.isSpoiled (sec * 0x1000) 0x1000

/-- The erased sectors of a log, from the one after its newest sector on, round the log. -/
def GranS.erasedSectors (g : GranS) (records : Bool) : List Nat :=
  let first := logFirst records
  let n := logCount records
  let start := match (g.logSectors records).getLast? with | some e => e.2 - first + 1 | none => 0
  ((List.range n).map fun i => first + (start + i) % n).filter g.sectorErased

/-- The newest sector of a log and where its free space starts. -/
def GranS.logEnd (g : GranS) (records : Bool) : Option (Nat × Nat) :=
  match (g.logSectors records).getLast? with
  | none => none
  | some e => some (e.2, (g.sectorRecs 512 (e.2 * 0x1000 + 16)).2.2)

/-- Where a record of `len` bytes would go: at the end of the newest sector, or in a new one when `reserve` more
erased sectors stay free. The answer is the operations and the Granary after them. -/
def GranS.place (g : GranS) (records : Bool) (bs : List Byte) (reserve : Nat) : Option (List GOp × GranS) :=
  let inNew : Option (List GOp × GranS) :=
    match g.erasedSectors records with
    | [] => none
    | sec :: rest =>
      if rest.length < reserve then none
      else
        let gen := match (g.logSectors records).getLast? with | some e => (e.1 + 1) % 2 ^ 32 | none => 1
        let h := sectorHeader gen records
        let a := sec * 0x1000
        some (pageOps 8 a h ++ pageOps 8 (a + 16) bs, (g.program a h).program (a + 16) bs)
  match g.logEnd records with
  | none => inNew
  | some (sec, e) =>
    if e % 0x1000 ≠ 0 ∧ e + bs.length ≤ sec * 0x1000 + 0x1000 then some (pageOps 8 e bs, g.program e bs) else inNew

/-- The records of a log that lie in one sector and are still worth keeping (R500): the newest valid one of its TYPE
and KEY, and a complete group whole, from its begin record on, when a member of it is still the newest. -/
def keepOf (valid : List Rec) (sec : Nat) : List Rec → List Rec
  | [] => []
  | r :: l =>
    let newest := fun (x : Rec) => (newestRec valid x.typ x.key).any fun n => n.addr == x.addr
    if r.addr / 0x1000 ≠ sec then keepOf valid sec l
    else if r.typ = 0xFE then
      if r.payload.length = 0 then
        match groupEnd (r.key % 128) l 0 with
        | some (n, k) =>
          let members := (l.takeWhile fun x => !(x.typ == 0xFE && x.key % 128 == r.key % 128)).filter
            fun x => x.grp && x.gid == r.key % 128
          let fin := (l.find? fun x => x.typ == 0xFE && x.key % 128 == r.key % 128).toList
          if n = k ∧ members.any newest then r :: members ++ fin ++ keepOf valid sec l else keepOf valid sec l
        | none => keepOf valid sec l
      else keepOf valid sec l
    else if !r.grp ∧ (valid.any fun x => x.addr == r.addr) ∧ newest r then r :: keepOf valid sec l
    else keepOf valid sec l

/-- Re-append records, using a reserve sector where needed (R500). -/
def GranS.reappend (g : GranS) (records : Bool) : List Rec → Option (List GOp × GranS)
  | [] => some ([], g)
  | r :: l =>
    match g.place records (recBytes r.typ r.grp r.gid r.key r.seq r.payload) 0 with
    | none => none
    | some (ops, g') =>
      match g'.reappend records l with
      | none => none
      | some (ops', g'') => some (ops ++ ops', g'')

/-- Compact the oldest sectors of a log in turn until one sector more is erased than before, at most once around the
log (R500): the operations, also of a pass that frees none, and the Granary after them. Each erase opens and closes a journal
entry (R635). -/
def GranS.compact (g : GranS) (records : Bool) (free : Nat) : Nat → List GOp × GranS
  | 0 => ([], g)
  | fuel + 1 =>
    match g.logSectors records with
    | [] => ([], g)
    | (_, sec) :: _ =>
      let recs := (g.logRecs records).1
      match g.reappend records (keepOf (validRecs recs []) sec recs) with
      | none => ([], g)
      | some (ops, g') =>
        let g' := g'.eraseSector sec
        let ops := ops ++ [.journalOpen 0 sec, .erase sec, .journalClose 0 sec]
        if (g'.erasedSectors records).length > free then (ops, g')
        else
          let (ops', g'') := g'.compact records free fuel
          (ops ++ ops', g'')

/-- The operations of an append whose turn has come (R499, R500), and whether the record finds room: SEQ one newer than the newest of its
TYPE and KEY, of an open group too, placed without opening either reserve sector, after a compaction where one is needed; a pass that
frees no sector is run without the record. -/
def GranS.planAppend (g : GranS) (records : Bool) (typ : Nat) (grp : Bool) (gid key : Nat) (payload : List Byte) :
    List GOp × Bool :=
  let seq := if typ = 0xFE then 0 else nextSeq ((g.logRecs records).1.filter fun r => r.typ != 0xFE) typ key
  let bs := recBytes typ grp gid key seq payload
  match g.place records bs 2 with
  | some (ops, _) => (ops, true)
  | none =>
    let (ops, g') := g.compact records (g.erasedSectors records).length (logCount records)
    match g'.place records bs 2 with
    | some x => (ops ++ x.1, true)
    | none => (ops, false)

/-! ### The engine -/

/-- HOST_JOB: a host job waits or runs (R493). -/
def Job.host (j : Job) : Bool := 1 ≤ j.op && j.op ≤ 0x0B
def GranS.hostJob (g : GranS) : Bool := g.cur.any Job.host || g.jobs.any Job.host

/-- SAVING: a field-map save waits or runs (R279). -/
def GranS.saving (g : GranS) : Bool := g.cur.any (·.op == jFIELD) || g.jobs.any (·.op == jFIELD)

/-- A host job ends (R493): RESULT, DONE, the interrupt cause. -/
def State.hostJobEnd (s : State) (op code : Nat) : State :=
  (((s.put GRAN_RES_CODE code).put GRAN_RES_OP op).put GRAN_RES_DONE 1).raise 0x080 1

/-- The rank of a job's next operation: journal and remap writes have rank 2 whatever job they belong to (R496, R635, Table
GRAN-5). -/
def Job.opRank (j : Job) : Nat :=
  match j.ops with
  | .journalOpen _ _ :: _ => min 2 j.rank
  | .journalClose _ _ :: _ => min 2 j.rank
  | .journalErase :: _ => min 2 j.rank
  | .journalCopy :: _ => min 2 j.rank
  | .remap _ _ :: _ => min 2 j.rank
  | _ => j.rank

/-- The engine's next job: the highest rank, and among equals the first to arrive (R496). Jobs without operations
left only wait for their end to be reported. -/
def nextJob (jobs : List Job) : Option Job :=
  jobs.foldl (fun acc j =>
    if j.ops.isEmpty then acc
    else match acc with
      | none => some j
      | some b => if j.opRank < b.opRank then some j else acc) none

/-- Waiting jobs leave the list; those that arrived before the one in progress are counted again. -/
def GranS.without (g : GranS) (p : Job → Bool) : GranS :=
  { g with ahead := g.ahead - ((g.jobs.take g.ahead).filter p).length, jobs := g.jobs.filter fun j => !p j }

/-- The job in progress waits again, in its place in the order of arrival (R496). -/
def GranS.waitAgain (g : GranS) (j : Job) : GranS := { g with jobs := g.jobs.take g.ahead ++ j :: g.jobs.drop g.ahead }

/-- What goes before a journal entry where the journal sector in use is full (R635): the other one is erased and takes over every entry
that is still open. -/
def GranS.journalTake (g : GranS) (ops : List GOp) : List GOp :=
  let full := decide (256 ≤ g.jUsed)
  match ops with
  | .journalOpen _ _ :: _ => if full then .journalErase :: List.replicate g.journal.length .journalCopy ++ ops else ops
  | .journalClose _ _ :: _ => if full then .journalErase :: List.replicate g.journal.length .journalCopy ++ ops else ops
  | _ => ops

/-- A job leaves the list. -/
def removeJob (j : Job) : List Job → List Job
  | [] => []
  | x :: l => if x = j then l else x :: removeJob j l

/-- A record whose CRC fails is counted and logged once, with its sector (R498). -/
def State.reportTorn (s : State) (places : List Nat) : State :=
  places.foldl (fun s a =>
    if s.gran.tornSeen.contains a then s
    else ((s.onGran fun g => { g with tornSeen := g.tornSeen ++ [a] }).inc GRAN_TORN).event 0x8011 (a / 0x1000)) s

/-- The engine refuses a trim record (R222). -/
def State.trimRefused (s : State) (i : Nat) : State := (s.put CH_UNSAVED 1 i).event 0x4818 i

/-- A record has found no room after a whole pass (R500): GRAN_REGION_FULL; an APPEND ends with RANGE_REJECT, a device record counts as
refused. -/
def State.regionFull (s : State) (j : Job) : State :=
  let s := s.event 0x8019 (bit (j.op == jTRIM))
  if j.host then s.onGran fun g => { g with jobs := g.jobs ++ [{ j with started := true, ops := [], code := cRANGE }] }
  else if j.op = jTRIM then s.trimRefused j.arg
  else s

/-- The engine, when free, takes its next job (R496). An append is planned then, which reads its log (R498); one that finds no room runs
the compaction alone, and is refused after it (R500). A debug halt starts no operation (R587). -/
def State.engineLook : Nat → State → State
  | 0, s => s
  | f + 1, s =>
  if s.gran.cur.isSome ∨ s.wdt.dbgHalt then s
  else
    match nextJob s.gran.jobs with
    | none => s
    | some j =>
      let g := { s.gran with jobs := removeJob j s.gran.jobs, ahead := s.gran.jobs.findIdx (· == j) }
      let take := fun (s : State) (j : Job) => s.onGran fun g =>
        { g with cur := some { j with started := true, ops := g.journalTake j.ops }, gap := false }
      match j.ops with
      | .append records typ grp gid key payload :: rest =>
        let (ops, fits) := g.planAppend records typ grp gid key payload
        let s := { s with gran := g }.reportTorn (g.logRecs records).2
        if fits then take s { j with ops := ops ++ rest }
        else if ops.isEmpty then (s.regionFull j).engineLook f
        else take s { j with ops := ops, code := cRANGE }
      | _ => take { s with gran := g } j

/-- The engine, when free, goes on. -/
def State.engineStart (s : State) : State := s.engineLook (s.gran.jobs.length + 1)

/-- An operation has ended: the engine goes on with the next one, and accesses that come at this instant fall between the
two (R495, R496). -/
def State.engineNext (s : State) : State := s.engineStart.onGran fun g => { g with gap := g.cur.isSome }

/-- The engine is within an operation, so that accesses are not served (R66, R495). -/
def State.nvmBusy (s : State) : Bool := s.gran.cur.isSome && !s.gran.gap

/-- A job reaches the engine. -/
def State.addJob (s : State) (j : Job) : State := (s.onGran fun g => { g with jobs := g.jobs ++ [j] }).engineStart

/-- RESULT.DONE is cleared by the next OPCODE write (Table GRAN-10); CODE and OP keep the last job's result. -/
def State.clearResult (s : State) : State := s.put GRAN_RES_DONE 0

/-- A byte of an undefined mix after a cut or failed program (R159, R519): bits that the program would clear are
cleared or not. -/
def mixByte (old new free : Byte) : Byte := old &&& (new ||| free)

/-- The bytes of a range become an undefined mix. DESIGN CHOICE, log 8, safe. -/
def State.mixBytes (s : State) : Nat → List Byte → State
  | _, [] => s
  | a, b :: l =>
    let (f, s) := s.fresh
    (s.onGran fun g => g.setByte a (mixByte (g.byte a) b (BitVec.ofNat 8 f))).mixBytes (a + 1) l

/-- Program a range to an undefined mix, which is never read as data (R519). DESIGN CHOICE, log 8, safe. -/
def State.programMix (s : State) (a : Nat) (bs : List Byte) : State := (s.mixBytes a bs).onGran fun g => g.spoil a bs.length

/-- Leave a sector an undefined mix of erased and earlier content (R519): each programmed byte keeps or loses bits.
DESIGN CHOICE, log 8, safe. -/
def State.eraseMix (s : State) (sec : Nat) : State :=
  let s := s.onGran fun g => g.spoil (sec * 0x1000) 0x1000
  match inImage (sec * 0x1000) with
  | some (k, i) =>
    (List.range 1024).foldl (fun s j =>
      let (f, s) := s.fresh
      s.onGran fun g => g.setImage k ((g.image k).setWord (i + j) ((g.image k).word (i + j) ||| f))) s
  | none =>
    (s.gran.mem.filter fun c => c.1 / 0x1000 == sec).foldl
      (fun s c => let (f, s) := s.fresh
                  s.onGran fun g => g.setByte c.1 (c.2 ||| BitVec.ofNat 8 f)) s

/-- An erase that fails or is cut: a refresh holds the content in a verified second place (R512), so that it stands. -/
def State.eraseCut (s : State) (j : Job) (sec : Nat) : State := if j.op = jREFRESH then s else s.eraseMix sec

/-- SPARE_FREE: pool sectors that hold nothing (R514). -/
def GranS.spareFree (g : GranS) : Nat := poolCount - g.poolUsed.length

/-- Log GRAN_SPARE_LOW once when fewer than 16 pool sectors are free (R514). -/
def State.spareCheck (s : State) : State :=
  if s.gran.spareFree < 16 ∧ s.gran.spareLow = false then
    ((s.onGran fun g => { g with spareLow := true }).raise 0x080 8).event 0x8015 s.gran.spareFree
  else s

/-- The rank of a region's repairs (R512, Table GRAN-5). -/
def repairRank (sec : Nat) : Nat :=
  match regionOf (sec * 0x1000) with
  | .fieldA => 3 | .fieldB => 3 | _ => 4

/-- The 16 page programs that write a sector's content (R512, Table GRAN-4). -/
def rewrites : List GOp := List.replicate 16 .rewrite

/-- Erases of SHADOW_A, SHADOW_B and of the journal sectors open no journal entry (R635). -/
def journaled (sec : Nat) (ops : List GOp) : List GOp :=
  if sec = 0x660 ∨ sec = 0x661 ∨ sec = 0x664 ∨ sec = 0x665 then ops else .journalOpen 1 sec :: ops ++ [.journalClose 1 sec]

/-- Queue the relocation of a sector (R512, R514, R519): the content is copied and verified, and the older REMAP copy is written. Or
report that no pool sector is free. -/
def State.queueRelocation (s : State) (sec : Nat) : State :=
  match ((List.range poolCount).map (poolFirst + ·)).find? fun p => !s.gran.poolUsed.contains p with
  | none => ((s.onGran fun g => { g with spareFault := true })).event 0x8016 sec
  | some p =>
    (s.onGran fun g => { g with poolUsed := g.poolUsed ++ [p] }).addJob
      ⟨jRELOCATE, repairRank sec, false, 7, false, .journalOpen 1 sec :: rewrites ++ [.remap sec p, .journalClose 1 sec], 0, sec⟩

/-- Queue the refresh of a weak sector (R512): erased, and programmed again with its content. -/
def State.queueRefresh (s : State) (sec : Nat) : State :=
  s.addJob ⟨jREFRESH, repairRank sec, false, 7, false, journaled sec (.erase sec :: rewrites), 0, sec⟩

/-- One journal write: a page program in the sector in use (R635). DEDUCED, log 48, unsafe. -/
def GranS.journalWrite (g : GranS) : GranS := { g with jUsed := g.jUsed + 1, devWrites := g.devWrites + 1 }

/-- The bank in force of the Loft. -/
def State.activeBank (s : State) : Image := if s.get MILL_ACTIVE = 0 then s.loft.bankA else s.loft.bankB

/-- The header of a FIELD save into copy `k` (Table GRAN-7, R503). -/
def State.fieldHeader (s : State) (k : Nat) : List Byte :=
  let other := 3 - k
  let gen := if s.gran.copyValid other then (s.gran.copyGen other + 1) % 2 ^ 32 else 1
  let gen := if genValid gen then gen else 1
  let tref := s.get (if s.get MILL_ACTIVE = 0 then MILL_TREF_A else MILL_TREF_B)
  let h := le32 gen ++ le32 0x00050000 ++ le16 tref ++ [0, 0] ++ le32 (s.get YARD_SECONDS) ++
    le32 s.activeBank.crc ++ List.replicate 8 0
  h ++ le32 (crc32 h)

/-- Step `k` of a FIELD save into copy `c` (R503): the header sector's erase, 320 data-sector erases, 5,120 page
programs of data, the header. -/
def State.fieldStep (s : State) (c k : Nat) : State :=
  if k = 0 then s.onGran fun g => g.eraseSector (copyBase c / 0x1000)
  else if k ≤ 320 then s.onGran fun g => g.eraseSector (imageBase c / 0x1000 + k - 1)
  else if k ≤ 5440 then
    let b := s.activeBank
    s.onGran fun g => g.setImage c ((List.range 64).foldl
      (fun im i => let w := (k - 321) * 64 + i; im.setWord w (b.word w)) (g.image c))
  else s.onGran fun g => g.program (copyBase c) (s.fieldHeader c)

/-- The sector an operation works on, for GRAN_OP_FAIL. -/
def State.opSector (s : State) (j : Job) : GOp → Nat
  | .program a _ => a / 0x1000
  | .erase sec => sec
  | .burst _ => 0x660 + s.shadow.target
  | .journalOpen _ _ => 0x664
  | .journalClose _ _ => 0x664
  | .journalErase => 0x664
  | .journalCopy => 0x664
  | .lockRow _ _ _ => 0
  | .remap sec _ => sec
  | .rewrite => (j.ops.findSome? fun op => match op with | .remap _ p => some p | _ => none).getD j.arg
  | .fieldStep k =>
    if k = 0 ∨ 5441 ≤ k then copyBase j.arg / 0x1000
    else imageBase j.arg / 0x1000 + (if k ≤ 320 then k - 1 else (k - 321) / 16)
  | .append _ _ _ _ _ _ => 0

/-- The byte of a store's snapshot (Table GRAN-8). -/
def State.snapByte (s : State) (a : Nat) : Byte := s.shadow.snapshot.read a 0

/-- `n` bytes of the snapshot. -/
def State.snapBytes (s : State) : Nat → Nat → List Byte
  | _, 0 => []
  | a, n + 1 => s.snapByte a :: s.snapBytes (a + 1) n

/-- The sector that step `k` of a FIELD save into copy `c` erases, if it is an erase (R503). -/
def fieldErase (c k : Nat) : Option Nat :=
  if k = 0 then some (copyBase c / 0x1000) else if k ≤ 320 then some (imageBase c / 0x1000 + k - 1) else none

/-- The sector that an operation erases, if it is an erase. -/
def GOp.erases (j : Job) : GOp → Option Nat
  | .erase sec => some sec
  | .journalErase => some 0x664
  | .fieldStep k => fieldErase j.arg k
  | _ => none

/-- An operation that fails, or is cut by a loss of power, leaves an undefined mix (R159, R519): lock bits (R509) that it
programs are set or not. -/
def State.cutGOp (s : State) (j : Job) (op : GOp) : State :=
  match op.erases j with
  | some sec => s.eraseCut j sec
  | none =>
    match op with
    | .program a bs => s.programMix a bs
    | .burst k => s.programMix (shadowBase s.shadow.target + k * 0x400) (s.snapBytes (k * 0x400) 0x400)
    | .fieldStep k =>
      if k ≤ 5440 then
        s.programMix (imageBase j.arg + (k - 321) * 256)
          ((List.range 64).flatMap fun i => le32 (s.activeBank.word ((k - 321) * 64 + i)))
      else s.programMix (copyBase j.arg) (s.fieldHeader j.arg)
    | .lockRow pages rprot factory =>
      let (f, s) := s.fresh
      s.onGran fun g => { g with pageLocked := g.pageLocked ||| (pages &&& f), pageRprot := g.pageRprot ||| (rprot &&& f),
                                 factoryLocked := g.factoryLocked || (factory && bitAt f 0) }
    | _ => s

/-- What a completed operation leaves in the Granary (R495, R506, R509, R512, R635). DEDUCED, log 48, unsafe. -/
def State.applyOp (s : State) (j : Job) : GOp → State
  | .program a bs => s.onGran fun g => g.program a bs
  | .erase sec =>
    if j.op = jREFRESH then s   -- read with correction, erased and programmed again: the content stands (R512)
    else s.onGran fun g => g.eraseSector sec
  | .burst k =>
    let bs := s.snapBytes (k * 0x400) 0x400
    let s := s.onGran fun g => g.program (shadowBase s.shadow.target + k * 0x400) bs
    { s with shadow := { s.shadow with storing := s.shadow.storing.map fun x => (x.1, k + 1) } }
  | .journalOpen what arg => s.onGran fun g => { g.journalWrite with journal := g.journal ++ [(what, arg)] }
  | .journalClose what arg => s.onGran fun g => { g.journalWrite with journal := g.journal.erase (what, arg) }
  | .journalErase => s.onGran fun g => { g with jUsed := 0, devWrites := g.devWrites + 1 }
  | .journalCopy => s.onGran GranS.journalWrite
  | .lockRow pages rprot factory =>
    (s.onGran fun g => { g with pageLocked := g.pageLocked ||| pages, pageRprot := g.pageRprot ||| rprot,
                                factoryLocked := g.factoryLocked || factory }).event 0x8210
      (if factory then 2 ^ 9 else if pages ≠ 0 then Nat.log2 pages else Nat.log2 rprot + 2 ^ 8)
  | .remap sec p =>
    let s := s.onGran fun g => { g with remap := (g.remap.filter fun (e : Nat × Nat) => e.1 != sec) ++ [(sec, p)]
                                        devWrites := g.devWrites + 1 }
    (((s.onGran fun g => g.unspoil sec).inc GRAN_RELOCATED).raise 0x080 4).event 0x8014 sec
  | .rewrite => s
  | .fieldStep k => s.fieldStep j.arg k
  | .append _ _ _ _ _ _ => s

/-- The rank of a job (Table GRAN-5), which one whose erase a power-fail store has cut short has again after it (R516). -/
def Job.baseRank (j : Job) : Nat :=
  if j.op = jSTORE then j.rank
  else if j.host then 4
  else if j.op = jFIELD then 3
  else if j.op = jREFRESH ∨ j.op = jRELOCATE then repairRank j.arg
  else 2

/-- What remains of a job after its head operation: a FIELD save goes on to its next step (R503). -/
def Job.rest (j : Job) : List GOp :=
  match j.ops with
  | .fieldStep k :: _ => if k < 5441 ∧ j.op = jFIELD then [.fieldStep (k + 1)] else [.journalClose 2 (j.arg - 1)]
  | _ :: l => l
  | [] => []

/-- What closes the journal entry that a job has opened, where the job ends at its head operation (R635). -/
def Job.closing (j : Job) : List GOp :=
  match j.ops with
  | .fieldStep _ :: _ => [.journalClose 2 (j.arg - 1)]
  | .journalOpen _ _ :: _ => []
  | _ :: l =>
    ((l.takeWhile fun op => match op with | .journalOpen _ _ => false | _ => true).find?
      fun op => match op with | .journalClose _ _ => true | _ => false).toList
  | [] => []

/-- A job that closes a journal entry at rank 2 (R635, Table GRAN-5). -/
def closeJob (ops : List GOp) : Job := ⟨jCLOSE, 2, false, 7, true, ops, 0, 0⟩

/-- A record of a group is appended (R501): the begin record opens the group for the holder of SEM2, a member counts, the end record
closes it. -/
def State.groupStep (s : State) (j : Job) : State :=
  if j.code ≠ cOK then s
  else if j.op = 5 then
    if s.holds j.master 2 then
      ((s.put GRAN_SEQ_OPEN 1).put GRAN_GROUP s.gran.groupNext).onGran fun g =>
        { g with groupNext := (g.groupNext + 1) % 128, groupMaster := j.master, groupCount := 0 }
    else s.onGran fun g => { g with groupNext := (g.groupNext + 1) % 128 }
  else if j.op = 3 ∧ j.arg = 2 then s.onGran fun g => { g with groupCount := g.groupCount + 1 }
  else if j.op = 6 then s.put GRAN_SEQ_OPEN 0
  else s

/-- A job without operations left: a refresh is reported, a host job waits for its end to be reported, a record
append of a channel's trims is done. -/
def State.jobRunOut (s : State) (j : Job) : State :=
  if j.code = cRANGE then s.regionFull j
  else if j.op = jREFRESH then (s.inc GRAN_REFRESHED).event 0x8013 j.arg
  else if j.op = jTRIM then s.put CH_UNSAVED 0 j.arg
  else let s := s.groupStep j; if j.host ∨ j.op = jSTORE ∨ j.op = jFIELD then s.onGran fun g => { g with jobs := g.jobs ++ [j] }
  else s

/-- An operation ends (R496, R519). A failed one ends its job with CHECK_FAIL, is logged, and queues the sector for
relocation; the protection row has no sector. DEDUCED, log 48, unsafe. -/
def State.opDone (s : State) (fails : Bool) : State :=
  match s.gran.cur with
  | none => s
  | some j =>
    match j.ops with
    | [] => (s.onGran fun g => { g with cur := none }).engineNext
    | op :: _ =>
      if fails then
        let sec := s.opSector j op
        let s := s.cutGOp j op
        let s := ((s.onGran fun g => { g with cur := none }).inc GRAN_FAILS).event 0x8018 sec
        let s := if j.closing.isEmpty then s else s.onGran fun g => { g with jobs := g.jobs ++ [closeJob j.closing] }
        let s := { j with ops := [], code := cCHECK } |> fun j' =>
          if j.host ∨ j.op = jSTORE ∨ j.op = jFIELD then s.onGran fun g => { g with jobs := g.jobs ++ [j'] }
          else if j.op = jTRIM then s.trimRefused j.arg
          else s
        let s := match op with | .lockRow _ _ _ => s | .rewrite => s.queueRelocation j.arg | _ => s.queueRelocation sec
        s.spareCheck.engineNext
      else
        let s := s.applyOp j op
        let rest := j.rest
        let j := { j with ops := rest, rank := j.baseRank }
        let s := s.onGran fun g => { g with cur := none }
        let s := if rest.isEmpty then s.jobRunOut j
          else s.onGran fun g => g.waitAgain j
        s.spareCheck.engineNext

/-! ### The checks of an OPCODE write (R493, Table GRAN-3, R508, R509) -/

/-- The modes a command is legal in (Table GRAN-2). -/
def granModes (op addr : Nat) : List Nat :=
  if op = 1 ∨ op = 2 then
    match regionOf addr with
    | .boot => [SERVICE] | .factory => [SERVICE] | _ => [SENTRY, LIVE, SERVICE]
  else if op = 3 ∨ op = 4 ∨ op = 5 ∨ op = 6 then [SENTRY, LIVE, SERVICE]
  else if op = 7 ∨ op = 8 then [LIVE, SERVICE]
  else [SERVICE]

/-- A PROGRAM or ERASE at an offset is refused by protection or by a permanent lock (R508, R509). -/
def State.granProtected (s : State) (a : Nat) : Bool :=
  match regionOf a with
  | .boot => s.on GPROT_BOOT_WP
  | .factory => s.gran.factoryLocked
  | .lockPages => bitAt s.gran.pageLocked (a / 0x1000 % 16)
  | .user =>
    let bp := s.get GPROT_USER_BP
    bp == 3 || (bp == 2 && a ≥ 0x5E0000) || (bp == 1 && a ≥ 0x620000)
  | _ => false

/-- A region allowed for PROGRAM and ERASE (Table GRAN-2). -/
def granWritable (a : Nat) : Bool :=
  match regionOf a with
  | .boot => true | .factory => true | .lockPages => true | .user => true | _ => false

/-- The value checks of Table GRAN-3 (RANGE_REJECT). -/
def State.granRange (s : State) (op : Nat) : Bool :=
  let a := s.get GRAN_ADDR
  let n := s.get GRAN_LEN
  let t := s.get GRAN_TYPE
  let typBad := t == 0 || t == 0xFE || t == 0xFF
  if op = 1 then
    a % 4 != 0 || n % 4 != 0 || n > 256 ||
      (n != 0 && !(granWritable a && a + n ≤ 0x800000 && regionOf a == regionOf (a + n - 1)))
  else if op = 2 then a % 4 != 0 || !granWritable a
  else if op = 3 then n % 4 != 0 || n > 256 || typBad
  else if op = 4 then typBad
  else if op = 9 ∨ op = 0x0A then a % 4 != 0 || regionOf a != .lockPages
  else !(1 ≤ op && op ≤ 0x0B)

/-- A word that the opcode would use fails parity (R520): ADDR, LEN, TYPE with KEY and REGION, DEFER_MAX, the words of BUF that LEN
names, and the write protection where the target is BOOT or USER. DEDUCED, log 48, unsafe. -/
def State.granParity (s : State) (op : Nat) : Bool :=
  let bad := fun off => s.parity.contains (0x080, off)
  let prot := match regionOf (s.get GRAN_ADDR) with | .boot => true | .user => true | _ => false
  ([1, 2, 9, 0x0A].contains op && bad 0x044) || ([1, 3].contains op && bad 0x048) || ([3, 4].contains op && bad 0x04C) ||
  ([1, 2, 3, 5, 6, 8, 9, 0x0A, 0x0B].contains op && bad 0x050) ||
  ([1, 3].contains op && (List.range ((s.get GRAN_LEN + 3) / 4)).any fun i => bad (0x100 + 4 * i)) ||
  ([1, 2].contains op && prot && s.parity.contains (0x082, 0x040))

/-- The whole check of an OPCODE write, in the order of Table REG-4: LOCKED, the state checks, then RANGE_REJECT. -/
def State.granCheck (s : State) (m op : Nat) : Option Refuse :=
  let a := s.get GRAN_ADDR
  let n := s.get GRAN_LEN
  let known := 1 ≤ op && op ≤ 0x0B
  let bad := s.granRange op
  let locked :=
    (op == 1 && (s.granProtected a || (n != 0 && s.granProtected (a + n - 1)))) ||
    (op == 2 && s.granProtected a) ||
    (op == 5 && !s.holds m 2) ||
    ((op == 3 || op == 6) && s.on GRAN_SEQ_OPEN && s.gran.groupMaster != m)
  if op = 8 ∧ s.role = CAB then some ⟨cROLE, 0, false⟩
  else if locked then some ⟨cLOCKED, 0, false⟩
  else if s.granParity op then some ⟨cCHECK, 0, false⟩
  else if known && !(granModes op a).contains s.mode then some ⟨cSTATE, maskOf (granModes op a), false⟩
  else if op == 1 && n != 0 && !bad && (!s.gran.isErased a n || s.gran.isSpoiled a n) then some ⟨cCHECK, 0, false⟩
  else if s.gran.hostJob then some ⟨cBUSY, 0, false⟩
  else if bad then some ⟨cRANGE, 0, false⟩
  else none

/-- A refusable job meets DEFER_MAX 0 and a busy engine (R496). -/
def State.refusedAtOnce (s : State) : Bool := s.get GRAN_DEFER_MAX == 0 && s.gran.cur.isSome

/-- GRAN_DEFER_REFUSED for the device (R496). -/
def State.deviceRefused (s : State) (rank : Nat) : State := s.event 0x8017 (7 + rank * 2 ^ 8)

/-- Start a host job of rank 4 (R493, R496); with DEFER_MAX 0 and a busy engine it ends at once. `arg` is 2 for a member of a group. -/
def State.hostJobStart (s : State) (m op arg : Nat) (ops : List GOp) : State :=
  if s.refusedAtOnce then (s.hostJobEnd op cBUSY).event 0x8017 (m + 4 * 2 ^ 8)
  else s.addJob ⟨op, 4, true, m, false, ops, 0, arg⟩

/-- FIND (R498): the newest valid record of TYPE and KEY; EMPTY when none exists or when its key is deleted. It reads
only, and its job waits for its end to be reported. -/
def State.granFind (s : State) (m : Nat) : State :=
  let (recs, torn) := s.gran.logRecs (s.on GRAN_REGION)
  let s := s.reportTorn torn
  match newestRec (validRecs recs []) (s.get GRAN_TYPE) (s.get GRAN_KEY) with
  | some r =>
    if r.payload.length = 0 then
      s.onGran fun g => { g with jobs := g.jobs ++ [⟨4, 4, true, m, true, [], cEMPTY, 0⟩] }
    else
      let s := ((s.put GRAN_FOUND_ADDR r.addr).put GRAN_FOUND_SEQ r.seq).put GRAN_FOUND_LEN r.payload.length
      s.onGran fun g => { g with jobs := g.jobs ++ [⟨4, 4, true, m, true, [], cOK, 0⟩] }
  | none => s.onGran fun g => { g with jobs := g.jobs ++ [⟨4, 4, true, m, true, [], cEMPTY, 0⟩] }

/-- The older FIELD copy, the target of a save (R503): 1 FIELD_A, 2 FIELD_B. An erased or invalid copy counts as older, and of two such
copy A is written (R628). -/
def GranS.fieldOlder (g : GranS) : Nat :=
  if g.copyValid 1 then (if g.copyValid 2 && decide (g.copyGen 1 < g.copyGen 2) then 1 else 2) else 1

/-- Start a field-map save into the older copy (R279, R503, R635). -/
def State.startFieldSave (s : State) (m : Nat) : State :=
  let c := s.gran.fieldOlder
  s.addJob ⟨jFIELD, 3, true, m, false, [.journalOpen 2 (c - 1), .fieldStep 0], 0, c⟩

/-- The host's FIELD_SAVE ends with the code of the save that it started (R496, R519). -/
def State.saveCode (s : State) (code : Nat) : State :=
  s.onGran fun g => { g with jobs := g.jobs.map fun j => if j.op = 8 then { j with code := code } else j }

/-- A margin scan starts (R511). -/
def State.startScan (s : State) : State := s.onGran fun g => { g with scanning := true }

/-- What an accepted OPCODE write starts (Table GRAN-2). DEDUCED, log 48, unsafe. -/
def State.granDo (s : State) (m op : Nat) : State :=
  let s := s.clearResult
  let a := s.get GRAN_ADDR
  let n := s.get GRAN_LEN
  if op = 1 then
    if n = 0 then s.hostJobEnd 1 cEMPTY else s.hostJobStart m 1 0 (pageOps 8 a (s.bufBytes n))
  else if op = 2 then
    let sec := a / 0x1000
    s.hostJobStart m 2 0 [.journalOpen 0 sec, .erase sec, .journalClose 0 sec]
  else if op = 3 then
    let grp := s.on GRAN_SEQ_OPEN
    s.hostJobStart m 3 (2 * bit grp) [.append false (s.get GRAN_TYPE) grp (if grp then s.get GRAN_GROUP else 0)
      (s.get GRAN_KEY) (s.bufBytes n)]
  else if op = 4 then s.granFind m
  else if op = 5 then
    let gid := s.gran.groupNext
    s.hostJobStart m 5 0 [.append false 0xFE false gid gid []]
  else if op = 6 then
    if s.on GRAN_SEQ_OPEN then
      let gid := s.get GRAN_GROUP
      s.hostJobStart m 6 0 [.append false 0xFE false gid gid (le16 s.gran.groupCount)]
    else s.hostJobEnd 6 cEMPTY
  else if op = 7 then
    s.startScan.onGran fun g => { g with jobs := g.jobs ++ [⟨7, 4, false, m, true, [], cOK, 1⟩] }
  else if op = 8 then
    if !s.gran.saving && s.refusedAtOnce then (s.hostJobEnd 8 cBUSY).event 0x8017 (m + 3 * 2 ^ 8) else
    let s := if s.gran.saving then s else (s.startFieldSave m).put NUC_SAVING 1
    s.onGran fun g => { g with jobs := g.jobs ++ [⟨8, 4, false, m, true, [], cOK, 1⟩] }
  else
    let p := a / 0x1000 % 16
    let (pages, rprot, fac) := if op = 9 then (2 ^ p, 0, false) else if op = 0x0A then (0, 2 ^ p, false) else (0, 0, true)
    let already := (op == 9 && bitAt s.gran.pageLocked p) || (op == 0x0A && bitAt s.gran.pageRprot p) ||
      (op == 0x0B && s.gran.factoryLocked)
    if already then s.hostJobEnd op cOK
    else s.hostJobStart m op 0 [.lockRow pages rprot fac]

/-! ### Shadow SRAM and the store (R505, R506) -/

/-- The 32 mirror entries, oldest first; missing ones read as no event (R547, Table GRAN-8). -/
def State.mirrorBytes (s : State) : List Byte :=
  let m := s.log.mirror
  List.replicate (8 * (32 - m.length)) 0 ++ (m.flatMap fun e => le32 e.ts ++ le16 e.code ++ le16 e.data)

/-- The device area of shadow SRAM, 0x000 to 0x033 (Table GRAN-8). -/
def State.deviceWords (s : State) : List Nat :=
  [s.shadow.seconds, s.shadow.boots, s.shadow.scanAcc] ++ s.shadow.band ++ [s.get SHUT_CYCLES] ++ s.shadow.fires

/-- The byte of shadow SRAM at an offset (Table GRAN-8). -/
def State.sramByte (s : State) (a : Nat) : Byte :=
  if a < 0x034 then BitVec.ofNat 8 (s.deviceWords.getD (a / 4) 0 / 2 ^ (8 * (a % 4)))
  else if a < 0x100 then 0
  else if a < 0x200 then s.mirrorBytes.getD (a - 0x100) 0
  else s.shadow.sram.read a 0

/-- `n` bytes of shadow SRAM. -/
def State.sramBytes (s : State) : Nat → Nat → List Byte
  | _, 0 => []
  | a, n + 1 => s.sramByte a :: s.sramBytes (a + 1) n

/-- The word of shadow SRAM at an offset. -/
def State.sramWord (s : State) (a : Nat) : Nat := ofLe (s.sramBytes a 4)

/-- Store a word into shadow SRAM. -/
def State.sramWrite (s : State) (a w : Nat) : State :=
  let m := s.shadow.sram
  let m := (List.range 4).foldl (fun m i => Memory.write m (a + i) ((le32 w).getD i 0) 0) m
  { s with shadow := { s.shadow with sram := m } }

/-- Bytes as memory cells from an offset, those of value 0 left out. -/
def cellsOf : Nat → List Byte → Memory
  | _, [] => []
  | a, b :: l => if b = 0 then cellsOf (a + 1) l else (a, b) :: cellsOf (a + 1) l

/-- A store is committed (R506): the target is the older copy, the snapshot and its trailer are fixed, and the store
job starts, with an erase first where the target is not erased, in place of a pre-erase that waits. Causes: 0 command or auto, 1 DORMANT or cut, 2 WDT,
3 power-fail. -/
def State.commitStore (s : State) (cause rank : Nat) : State :=
  let t := s.gran.shadowOlder
  let gen := match s.gran.shadowNewer with | some k => (s.gran.shadowGen k + 1) % 2 ^ 32 | none => 1
  let gen := if genValid gen then gen else 1
  let s := { s with shadow := { s.shadow with scanAcc := s.get GRAN_SCAN_ACC } }
  let s := ((s.sramWrite 0xFF0 gen).sramWrite 0xFF4 0x0FF0).sramWrite 0xFF8 (s.get YARD_SECONDS)
  let s := s.sramWrite 0xFFC (crc32 (s.sramBytes 0 0xFFC))
  let snap := cellsOf 0 (s.sramBytes 0 0x1000)
  let pre := if s.gran.shadowErased t then [] else [GOp.erase (0x660 + t)]
  let s := { s with shadow := { s.shadow with storing := some (cause, 0), target := t, snapshot := snap }
                    log := { s.log with storedSeq := s.get LINKC_EVSEQ }
                    gran := s.gran.without fun j => j.op == jPREERASE }
  s.addJob ⟨jSTORE, rank, false, 7, false, pre ++ [.burst 0, .burst 1, .burst 2, .burst 3], 0, cause⟩

/-- READY: the older copy is erased (R506). -/
def State.storeReady (s : State) : Bool := s.gran.shadowErased s.gran.shadowOlder

/-- Pre-erase the older copy at rank 2 (R506). -/
def State.preErase (s : State) : State :=
  if s.storeReady then s
  else s.addJob ⟨jPREERASE, 2, false, 7, false, [.erase (0x660 + s.gran.shadowOlder)], 0, 0⟩

/-- A power-fail store is committed and not ended: BOR_CORE and POR_AON are held off (R507, R592). -/
def State.pfStoring (s : State) : Bool := s.shadow.pfCommitted && s.shadow.storing.isSome

/-- Carry out the operations left of the store job in progress, wherever it waits. -/
def State.runStoreOps (s : State) : State :=
  let all := s.gran.cur.toList ++ s.gran.jobs
  match all.find? fun j => j.op == jSTORE with
  | none => s
  | some j =>
    let s := j.ops.foldl (fun s op => s.applyOp j op) s
    s.onGran fun g => { g.without (· == j) with cur := if g.cur = some j then none else g.cur }

/-- A store ends with its four bursts written (R506): counts, the cause, the late log entries; a power-fail store's
outcome is latched (R516). -/
def State.finishStore (s : State) : State :=
  match s.shadow.storing with
  | none => s
  | some (cause, _) =>
    let s := s.runStoreOps
    let s := ((s.inc SHADOW_STORES).put SHADOW_LAST_CAUSE cause).mirrorLate
    let out := if cause = 3 then 1 else s.shadow.outcome
    { s with shadow := { s.shadow with storing := none, snapshot := [], outcome := out } }

/-- A store ends without a valid trailer: its target fails verify (R519) or the floor stopped it (R515). -/
def State.breakStore (s : State) : State :=
  match s.shadow.storing with
  | none => s
  | some (cause, _) =>
    let s := s.mirrorLate
    let s := s.onGran fun g => { g.without (·.op == jSTORE) with cur := if g.cur.any (·.op == jSTORE) then none else g.cur }
    let out := if cause = 3 then 2 else s.shadow.outcome
    { s with shadow := { s.shadow with storing := none, snapshot := [], outcome := out } }

/-- A whole store in one step, for a DORMANT entry or a cut, after one that already runs (R88, R516): none before boot step 8
(R175), and no second one after a power-fail store (R346). -/
def State.storeNow (s : State) (cause : Nat) : State :=
  if !s.boot.stored then s
  else if s.pfStoring then { s.finishStore with shadow := { s.finishStore.shadow with pfCommitted := false } }
  else (s.finishStore.commitStore cause 1).finishStore

/-- A reset meets a store that power-fail has not committed (R517, Table RST-2): the burst in progress completes, an erase in progress
is abandoned, and what is left is dropped. -/
def State.storeStop (s : State) : State :=
  if s.shadow.storing.isNone then s
  else if (s.gran.cur.toList ++ s.gran.jobs).any (fun j => j.op == jSTORE && j.ops.isEmpty && j.code == cOK) then s.finishStore
  else match s.gran.cur with
    | some j =>
      if j.op = jSTORE then
        match j.ops with
        | [_] => s.finishStore
        | .burst k :: _ => (s.applyOp j (.burst k)).breakStore
        | op :: _ => (s.cutGOp j op).breakStore
        | [] => s.breakStore
      else s.breakStore
    | none => s.breakStore

/-- The store in progress ends after `k` bursts, the next one cut (R154, R515). -/
def State.storeCut (s : State) (k : Nat) : State :=
  let ops := ((s.gran.cur.toList ++ s.gran.jobs).filter fun j => j.op == jSTORE).flatMap Job.ops
  let j : Job := ⟨jSTORE, 1, false, 7, true, [], 0, 2⟩
  (ops.foldl (fun s op => match op with
    | .burst b => if b < k then s.applyOp j op else if b = k ∧ 0 < k then s.cutGOp j op else s
    | .erase _ => if k = 0 then s.cutGOp j op else s.applyOp j op
    | _ => s) s).breakStore

/-- The store ahead of a WDT reset (R154). Where the older copy has still to be erased, the erase and the bursts may last longer than
30 ms: how far they come by then is open, and the copy stays invalid unless all four are written. DESIGN CHOICE, log 8, safe. -/
def State.storeWdt (s : State) : State :=
  if !s.boot.stored then s
  else
    let slow := !s.storeReady
    let s := s.finishStore.commitStore 2 1
    if slow then
      let (f, s) := s.fresh
      if f % 5 = 4 then s.finishStore else s.storeCut (f % 5)
    else s.finishStore

/-! ### Cutting jobs (R517) -/

/-- Drop every job that has not ended: a host job ends with STATE_REJECT and is logged; the open store stays. -/
def State.dropJobs (s : State) : State :=
  let all := s.gran.cur.toList ++ s.gran.jobs
  let js := all.filter fun j => j.op != jSTORE
  let s := s.onGran fun g => { g with cur := none, jobs := all.filter (fun j => j.op == jSTORE), scanning := false }
  js.foldl (fun s j =>
    if j.host then
      if j.ops.isEmpty ∧ j.arg ≠ 1 then s.hostJobEnd j.op j.code
      else (s.hostJobEnd j.op cSTATE).event 0x801A j.op
    else s) s

/-- The operation in progress at a reset or an entry: a page program completes, and with it a job that it was the last one of; an erase
completes (`whole`) or is abandoned with its journal entry open (Table RST-2, R155). A store's operations are left to the store. -/
def State.endOp (s : State) (whole : Bool) : State :=
  match s.gran.cur with
  | none => s
  | some j =>
    match j.ops with
    | op :: _ =>
      if j.op = jSTORE then s
      else if !whole && (op.erases j).isSome then s.cutGOp j op
      else
        let j' := { j with ops := j.rest }
        let s := (s.applyOp j op).onGran fun g => { g with cur := if j'.ops.isEmpty then none else some j' }
        if j'.ops.isEmpty then s.jobRunOut j' else s
    | [] => s

/-- The operation in progress is cut by a loss of power (R159). -/
def State.cutOp (s : State) : State :=
  match s.gran.cur with
  | none => s
  | some j => match j.ops with | op :: _ => s.cutGOp j op | [] => s

/-- The write of a converter's trim record (R221). -/
def trimJob (i : Nat) (bs : List Byte) : Job := ⟨jTRIM, 2, true, 7, false, [.append true 0x0C false 0 i bs], 0, i⟩

/-- Pending trim records are written before a DORMANT entry or a cut, those that the engine refused among them (R222, R232, R517).
DEDUCED, log 29, unsafe. -/
def State.flushTrims (s : State) : State :=
  let js := (s.gran.cur.toList ++ s.gran.jobs).filter fun j => j.op == jTRIM
  let late := (s.cal.trims.filter fun e => s.on CH_UNSAVED e.1 && !(js.any fun j => j.arg == e.1)).map fun e => trimJob e.1 e.2
  (js ++ late).foldl (fun s j =>
    let (s, ops, fits) := match j.ops with
      | .append r t g gi k p :: _ => (s.reportTorn (s.gran.logRecs r).2, s.gran.planAppend r t g gi k p)
      | l => (s, l, j.code == cOK)
    let s := ops.foldl (fun s op => s.applyOp j op) s
    if fits then s.put CH_UNSAVED 0 j.arg else s.regionFull j) s

end Sys2Proof.Machine
end

