-- ==== Sys2Proof/Machine/Chcal.lean ====
section
/-! DEFINITION. Readout channels, spares and the calibration scheduler (R210 to R240). Converter instances: 0 to 31 the
channels, 32 SPA, 33 SPB. -/

namespace Sys2Proof.Machine

/-- The page of an instance. -/
def instPage (i : Nat) : Nat := 0x020 + i

/-- Slot `k`: 0 A, 1 B. -/
def State.slot (s : State) (k : Nat) : Slot := s.cal.slots.getD k Slot.none

/-- The row that shows the instance of a slot. -/
def slotRow (k : Nat) : Row := if k = 0 then CHCAL_SLOT_A else CHCAL_SLOT_B

/-- Replace slot `k` and show its instance (Table CH-3). -/
def State.setSlot (s : State) (k : Nat) (sl : Slot) : State :=
  { s with cal := { s.cal with slots := s.cal.slots.set k sl } }.put (slotRow k) sl.inst

/-- An instance is being calibrated (R229). -/
def State.calibrating (s : State) (i : Nat) : Bool := s.cal.slots.any fun sl => sl.stage != 0 && sl.inst == i

/-- A converter has FAILED (R236). -/
def State.calFailed (s : State) (i : Nat) : Bool := s.cal.failed.getD i false

/-- A channel is parked: its spare holds its input (R236). -/
def State.parked (s : State) (i : Nat) : Bool := i < 32 && s.get CH_STATE i == 4

/-- The spare (0 A, 1 B) that carries input `k`, from row 9 of a takeover or for a parked channel (R210, R211, R236). -/
def State.carrier (s : State) (k : Nat) : Option Nat :=
  if s.get CH_HOLDS 32 = k then some 0 else if s.get CH_HOLDS 33 = k then some 1 else none

/-- |TCH − TCH_REF| of an instance, in 1/16 K. -/
def State.tempMoved (s : State) (i : Nat) : Nat := (signed 16 (s.get CH_TCH i) - signed 16 (s.get CH_TCH_REF i)).natAbs

/-- Temperature-due (R213, R239, R240). -/
def State.calDue (s : State) (i : Nat) : Bool :=
  (decide (s.get CHCAL_TEMP_DELTA < s.tempMoved i) || s.cal.bare.getD i false) && s.get HDR_EN (instPage i) == 1 &&
    s.get HDR_EN 0x048 == 1 && !s.on CH_HELD i && s.cal.retry.getD i 0 == 0 && s.get CH_STATE i != 6

/-- A parity error stands on a CHCAL word (R238). -/
def State.calParity (s : State) : Bool := s.parity.any fun e => e.1 == 0x048

/-- Slot `k` is free (R223). -/
def State.slotFree (s : State) (k : Nat) : Bool :=
  s.get HDR_EN (instPage (32 + k)) == 1 && s.get CH_HOLDS (32 + k) == 0xFF && !s.calFailed (32 + k) &&
    (s.slot k).stage == 0

/-- Takeovers are made: the timing runs, outside SENTRY, in the mode that a frame now begins in (R226, R230). -/
def State.takeovers (s : State) : Bool := s.fpa.on && !s.fpa.ovl && (s.runMode == LIVE || s.runMode == SERVICE)

/-! ### Requests (R214, R225, R229, R237) -/

/-- The bits of REQ0 and REQ1 as instances, in ascending order. -/
def reqInsts (word1 : Bool) (data : Nat) : List Nat :=
  if word1 then ((List.range 2).filter (bitAt data)).map (32 + ·) else (List.range 32).filter (bitAt data)

/-- The REQ and REFUSED rows and bit of an instance. -/
def reqRow (i : Nat) : Row := if i < 32 then CHCAL_REQ0 else CHCAL_REQ1
def refRow (i : Nat) : Row := if i < 32 then CHCAL_REFUSED0 else CHCAL_REFUSED1

/-- Set or clear an instance's bit in a row. -/
def State.instBit (s : State) (r : Row) (i : Nat) (b : Bool) : State :=
  let v := s.get r
  let k := i % 32
  s.put r (if b then v ||| 2 ^ k else if bitAt v k then v - 2 ^ k else v)

/-- Why a write to REQ0 or REQ1 is refused (R214, R237). -/
def State.chcalReqCheck (s : State) (insts : List Nat) : Option Refuse :=
  if s.mode ≠ LIVE ∧ s.mode ≠ SERVICE then some ⟨cSTATE, 0xC, false⟩
  else if s.mode ≠ SERVICE ∧ insts.any s.parked then some ⟨cSTATE, 0x8, false⟩
  else none

/-- A request is dropped (R225). -/
def State.calRefuse (s : State) (i m : Nat) : State :=
  let s := (s.instBit (reqRow i) i false).instBit (refRow i) i true
  let s := { s with cal := { s.cal with order := s.cal.order.filter fun e => e % 0x100 != i } }
  (s.noteErr m true 0x048 (if i < 32 then 0x058 else 0x05C) cBUSY).event 0x4814 i

/-- Accepted requests (R214): one for a converter already calibrating merges (R229); DEFER_MAX 0 refuses at once.
DEDUCED, log 35, unsafe. -/
def State.request (s : State) (m : Nat) (insts : List Nat) : State :=
  insts.foldl (fun s i =>
    if s.calibrating i ∨ bitAt (s.get (reqRow i)) (i % 32) then s
    else if s.get CHCAL_DEFER_MAX = 0 then s.calRefuse i m
    else
      { s.instBit (reqRow i) i true with cal := { s.cal with order := s.cal.order ++ [i + 0x100 * m] } }) s

/-- A request has waited DEFER_MAX (R225). -/
def State.calDefer (s : State) (i : Nat) : State :=
  match s.cal.order.find? fun e => e % 0x100 == i with
  | some e => s.calRefuse i (e / 0x100)
  | none => s

/-! ### Scheduling (R223, R226) -/

/-- CAL_LAST_S for the order: one in the future counts as 0 (R223). -/
def State.calAge (s : State) (i : Nat) : Nat := if s.get CH_CAL_LAST_S i > s.get YARD_SECONDS then 0 else s.get CH_CAL_LAST_S i

/-- Temperature-due converter `a` goes before `b` (R223, R239). -/
def State.calBefore (s : State) (a b : Nat) : Bool :=
  let ba := s.cal.bare.getD a false
  let bb := s.cal.bare.getD b false
  if ba != bb then ba
  else if s.tempMoved a ≠ s.tempMoved b then s.tempMoved b < s.tempMoved a
  else if s.calAge a ≠ s.calAge b then s.calAge a < s.calAge b
  else a < b

/-- The slot that could take a candidate now: a spare only its own, on command whatever its CTRL.EN and its FAILED (R214, R215); a
parked channel that of the spare that holds it (R237); a channel SPA before SPB, not with a SUSPECT spare where it needs a takeover
(R223, R235). A spare that FAILED is not tried again of itself (R236). DEDUCED, log 35, unsafe. -/
def State.slotFor (s : State) (i : Nat) (asked : Bool) : Option Nat :=
  if 32 ≤ i then
    if s.slotFree (i - 32) || (asked && s.get CH_HOLDS i == 0xFF && (s.slot (i - 32)).stage == 0) then some (i - 32) else none
  else if s.parked i then
    match s.carrier i with
    | some k => if (s.slot k).stage = 0 ∧ s.mode = SERVICE then some k else none
    | none => none
  else (List.range 2).find? fun k => s.slotFree k && !(s.takeovers && s.on CH_SUSPECT (32 + k))

/-- The next candidate, with its slot (R223). A SUSPECT spare is taken whatever its retry wait, HELD and CHCAL.CTRL.EN say.
DESIGN CHOICE, log 35, unsafe. -/
def State.calNext (s : State) : Option (Nat × Nat) :=
  let ok := fun i asked => if s.calibrating i then none else (s.slotFor i asked).map fun k => (i, k)
  match [32, 33].findSome? fun i => if s.on CH_SUSPECT i then ok i false else none with
  | some r => some r
  | none =>
    match s.cal.order.findSome? fun e => ok (e % 0x100) true with
    | some r => some r
    | none =>
      (List.range 34).foldl (fun (best : Option (Nat × Nat)) i =>
        if s.calDue i && !s.parked i && !s.calFailed i then
          match ok i false, best with
          | some r, some b => if s.calBefore i b.1 then some r else best
          | some r, none => some r
          | none, _ => best
        else best) none

/-- Slot 1 holds the device out of L3 while a calibration runs (R226): it is armed for its end, which Table CH-1 puts 6.706 ms
after the converter goes offline. DEDUCED, log 32, unsafe. DESIGN CHOICE, log 58, safe. -/
def State.armCal (s : State) : State :=
  let t := s.get YARD_SUBSEC + 220
  s.armSlot 1 (s.get YARD_SECONDS + t / 32768) (t % 32768)

/-- A calibration runs. -/
def State.calRuns (s : State) : Bool := s.cal.slots.any fun sl => sl.stage == 2

/-- No calibration runs: slot 1 is no longer needed. -/
def State.calRest (s : State) : State :=
  if s.calRuns then s else if s.on YARD_ARMED 0 1 then s.disarmSlot 1 else s

/-- A calibration is assigned to a slot (R211, R214, R215, R226). -/
def State.calStart (s : State) (i k : Nat) : State :=
  let take := i < 32 && !s.parked i && s.takeovers
  let keep := s.parked i
  let asked := s.cal.order.find? fun e => e % 0x100 == i
  let s := s.instBit (reqRow i) i false
  let s := { s with cal := { s.cal with order := s.cal.order.filter fun e => e % 0x100 != i } }
  let s := s.setSlot k ⟨i, if take then 1 else 2, !take, 0, s.get CH_TCH i, 0, 0, 0, 0, asked, !s.takeovers⟩
  let s := if s.takeovers then s else s.armCal
  if keep then s else s.put CH_STATE (if take then 1 else 2) i

/-- The scheduler fills its free slots (R223, R238). -/
def State.schedule (s : State) : State :=
  if s.calParity then s
  else
    (List.range 2).foldl (fun s _ => match s.calNext with | some (i, k) => s.calStart i k | none => s) s

/-! ### Overlap (R211, R231, R235) -/

/-- A parallel sample of an overlap: the channel's code less the spare's. -/
def State.overlapAdd (s : State) (k : Nat) (d : Int) : State :=
  let sl := s.slot k
  if sl.stage = 1 then s.setSlot k { sl with sum := sl.sum + d } else s

/-- After blind row 7 the match offset is latched (R211); a mean beyond the field's 11 bits takes its end. DESIGN CHOICE, log 60, unsafe. -/
def State.matchLatch (s : State) (k : Nat) : State :=
  let sl := s.slot k
  if sl.stage = 1 then
    s.put CH_MATCH_OFS (unsigned 11 (clampInt (-1024) 1023 (roundDiv sl.sum (s.group : Int)))) (32 + k)
  else s

/-- A run or an overlap in slot `k` is given up: the slot is empty, and a commanded converter stays due, first in the order
(R231, R233, R235). DEDUCED, log 35, unsafe. -/
def State.slotDrop (s : State) (k : Nat) : State :=
  let sl := s.slot k
  let s := s.setSlot k Slot.none
  match sl.asked with
  | some e => { s.instBit (reqRow sl.inst) sl.inst true with cal := { s.cal with order := e :: s.cal.order } }
  | none => s

/-- At the edge of row 9 the spare takes the input, or the takeover is aborted (R211, R235). -/
def State.takeInput (s : State) (k : Nat) : State :=
  let sl := s.slot k
  if sl.stage = 1 then
    let mo := signed 11 (s.get CH_MATCH_OFS (32 + k))
    if mo.natAbs > 8 * s.get CHCAL_MATCH_LIMIT then
      let s := ((s.put CH_MATCH_OFS 0 (32 + k)).put CH_SUSPECT 1 (32 + k)).put CH_STATE 0 sl.inst
      (s.slotDrop k).event 0x4815 (sl.inst + k * 2 ^ 8)
    else
      let s := s.setSlot k { sl with stage := 2, tref := s.get CH_TCH sl.inst }
      ((s.put CH_STATE 2 sl.inst).put CH_HOLDS sl.inst (32 + k)).put CH_STATE 4 (32 + k)
  else s

/-- The timing stops (R231): an overlap is abandoned. -/
def State.dropOverlaps (s : State) : State :=
  (List.range 2).foldl (fun s k =>
    let sl := s.slot k
    if sl.stage = 1 then ((s.put CH_STATE 0 sl.inst).put CH_MATCH_OFS 0 (32 + k)).slotDrop k else s) s

/-! ### Results (R216 to R222, R236, R237) -/

/-- The comparator chosen (R216): eligible, lowest noise, then smaller offset, then lower index. -/
def chooseCmp (noiseMax : Nat) (m : CalMeas) : Option Nat :=
  (List.range 4).foldl (fun best i =>
    let n := m.noise.getD i 0xFFFF
    let o := (m.offset.getD i 0xFFFF).natAbs
    if n ≤ noiseMax ∧ o ≤ 960 then
      match best with
      | none => some i
      | some b =>
        let nb := m.noise.getD b 0xFFFF
        let ob := (m.offset.getD b 0xFFFF).natAbs
        if n < nb ∨ (n = nb ∧ o < ob) then some i else best
    else best) none

/-- One step of the offset search (R216): the code kept, the sum measured at it, the sum measured at the last code not kept, and the
step. A higher code gives a higher sum (R217). -/
def ofsStep (acc : Int × Option Int × Option Int) (step : Int) (sum : Int) : Int × Option Int × Option Int :=
  if sum ≤ 0 then (acc.1 + step, some sum, acc.2.2) else (acc.1, acc.2.1, some sum)

/-- The 10-step binary search over OFS_TRIM (R216): it ends at the code whose mean lies nearest to 0. DESIGN CHOICE, log 60, unsafe. -/
def ofsSearch (sums : List Int) : Int :=
  let (c, low, high) := (List.range 10).foldl (fun acc i => ofsStep acc (2 ^ (9 - i)) (sums.getD i 0)) (-512, none, none)
  match low, high with
  | some l, some h => if h.natAbs < l.natAbs then c + 1 else c
  | _, _ => c

/-- The GAIN_TRIM code that brings the span nearest to 54,613 (R216, R217), for a span of sums of 1,024 codes measured with code `g`; an
end of the range where none does. DESIGN CHOICE, log 60, unsafe. -/
def gainFit (g : Int) (span : Nat) : Int :=
  if span = 0 then 511
  else clampInt (-512) 511 (roundDiv (54613 * 1024 * (100000 + 2 * g) - 100000 * (span : Int)) (2 * (span : Int)))

/-- The mean of two codes, rounded to nearest with halves toward zero (R218). -/
def meanCode (a b : Int) : Int := (a + b).tdiv 2

/-- CRC-16/CCITT shifts (R221). -/
def crc16Shift : Nat → Nat → Nat
  | 0, c => c
  | k + 1, c => crc16Shift k (if c ≥ 0x8000 then ((c * 2) % 0x10000) ^^^ 0x1021 else c * 2)

/-- CRC-16/CCITT of bytes, initial value 0xFFFF (R221). -/
def crc16 (bs : List Byte) : Nat := bs.foldl (fun c b => crc16Shift 8 (c ^^^ (b.toNat * 256))) 0xFFFF

/-- The 16-byte payload of a trim record (R221). -/
def State.trimPayload (s : State) (i : Nat) : List Byte :=
  let b := [BitVec.ofNat 8 i, BitVec.ofNat 8 (s.get CH_CMP_SEL i)] ++
    le16 (unsigned 16 (signed 10 (s.get CH_OFS_TRIM i))) ++ le16 (unsigned 16 (signed 10 (s.get CH_GAIN_TRIM i))) ++
    le16 (s.get CH_TCH_REF i) ++ le32 (s.get CH_CAL_LAST_S i) ++ le16 (s.get CH_CAL_COUNT i)
  b ++ le16 (crc16 b)

/-- Offer a converter's newest record to the Granary engine, which refuses it at once where it is busy and DEFER_MAX is 0 (R221, R222,
R496). -/
def State.offerTrim (s : State) (i : Nat) : State :=
  match s.cal.trims.find? fun e => e.1 == i with
  | none => s
  | some (_, bs) =>
    let s := s.onGran fun g => g.without fun j => j.op == jTRIM && j.arg == i && !j.started
    if s.refusedAtOnce then (s.deviceRefused 2).trimRefused i else s.addJob (trimJob i bs)

/-- Accepted trims come into force (R219 to R221, R237). FAILED ends for a parked channel only, a retry wait runs on.
DEDUCED, log 35, unsafe. DESIGN CHOICE, log 35, unsafe. -/
def State.acceptTrims (s : State) (i k : Nat) (sl : Slot) : State :=
  let s := ((s.put CH_CMP_SEL sl.cmp i).put CH_OFS_TRIM (unsigned 10 sl.ofs) i).put CH_GAIN_TRIM (unsigned 10 sl.gain) i
  let s := ((s.inc CH_CAL_COUNT i).put CH_CAL_LAST_S (s.get YARD_SECONDS) i).put CH_TCH_REF sl.tref i
  let s := (((s.put CH_DISAGREE 0 i).put CH_HELD 0 i).put CH_SUSPECT 0 i).inc CHCAL_ACCEPTED
  let s := (s.raise (instPage i) 1).event 0x4810 (i + sl.cmp * 2 ^ 8)
  let was := s.parked i
  let s := { s with cal := { s.cal with bare := s.cal.bare.set i false,
                                        failed := if was then s.cal.failed.set i false else s.cal.failed,
                                        trims := (s.cal.trims.filter fun (e : Nat × List Byte) => e.1 != i) ++ [(i, s.trimPayload i)] } }
  let s := if was then ((s.put CH_HOLDS 0xFF (32 + k)).put CH_STATE 0 (32 + k)).event 0x4817 (i + k * 2 ^ 8) else s
  (s.put CH_STATE (if s.calFailed i then 5 else 0) i).offerTrim i

/-- Handback of slot `k` (R212, R219, R236). DEDUCED, log 35, unsafe. -/
def State.handback (s : State) (k : Nat) : State :=
  let sl := s.slot k
  if sl.stage ≠ 3 then s
  else
    let i := sl.inst
    let wasParked := s.parked i
    let s := s.put CH_MATCH_OFS 0 (32 + k)
    let s := if i < 32 ∧ wasParked = false then (s.put CH_HOLDS 0xFF (32 + k)).put CH_STATE 0 (32 + k) else s
    let s := if sl.res = 1 then s.acceptTrims i k sl
      else if sl.res = 3 then
        if 32 ≤ i then s.put CH_STATE 5 i
        else if wasParked then s
        else
          (((s.put CH_STATE 4 i).put CH_HOLDS i (32 + k)).put CH_STATE 4 (32 + k)).raise (instPage i) 4 |>.event 0x4816
            (i + k * 2 ^ 8)
      else if wasParked then s
      else s.put CH_STATE (if s.cal.retry.getD i 0 = 0 then 0 else 6) i
    s.setSlot k Slot.none

/-- A result that is not accepted (R219). -/
def State.calDisagree (s : State) (i bits : Nat) : State :=
  let s := ((s.event 0x4811 (i + bits)).inc CH_DISAGREE i).inc CHCAL_DISAGREED
  let s := s.raise (instPage i) 2
  let s := { s with cal := { s.cal with retry := s.cal.retry.set i (s.get CHCAL_RETRY_FRAMES) } }
  if s.get CHCAL_DISAGREE_MAX ≠ 0 ∧ s.get CH_DISAGREE i ≥ s.get CHCAL_DISAGREE_MAX ∧ s.on CH_HELD i = false then
    (s.put CH_HELD 1 i).event 0x4813 i
  else s

/-- A calibration FAILS (R236). -/
def State.calFail (s : State) (i reason : Nat) : State :=
  let s := (s.event 0x4812 (i + reason * 2 ^ 8)).raise (instPage i) 4
  { s with cal := { s.cal with failed := s.cal.failed.set i true } }

/-- A code stands at an end of its range (R217, R236). -/
def atEnd (c : Int) : Bool := c ≤ -512 || 511 ≤ c

/-- The two runs end (R216, R218, R219, R236). Of a run that was selected without array frames the outcome takes effect at once (R226).
DEDUCED, log 35, unsafe. -/
def State.calEnd (s : State) (i : Nat) (m : CalMeas) : State :=
  match (List.range 2).find? fun k => (s.slot k).stage == 2 && (s.slot k).inst == i with
  | none => s
  | some k =>
    let sl := s.slot k
    let noise := (List.range 4).foldl (fun a j => a + min 255 (m.noise.getD j 255) * 256 ^ j) 0
    let s := s.put CH_CMP_NOISE noise i
    let s :=
      match chooseCmp (s.get CHCAL_NOISE_MAX) m with
      | none => (s.calFail i 1).setSlot k { sl with stage := 3, res := 3 }
      | some cmp =>
        let g := signed 10 (s.get CH_GAIN_TRIM i)
        let (o1, o2) := (ofsSearch m.sums1, ofsSearch m.sums2)
        let (g1, g2) := (gainFit g m.span1, gainFit g m.span2)
        if atEnd o1 || atEnd o2 then (s.calFail i 2).setSlot k { sl with stage := 3, res := 3 }
        else if atEnd g1 || atEnd g2 then (s.calFail i 3).setSlot k { sl with stage := 3, res := 3 }
        else
          let badO := decide ((o1 - o2).natAbs > s.get CHCAL_AGREE_OFS)
          let badG := decide ((g1 - g2).natAbs > s.get CHCAL_AGREE_GAIN)
          let badN := decide (m.noise2 > s.get CHCAL_NOISE_MAX)
          if badO || badG || badN then
            (s.calDisagree i (bit badO * 2 ^ 8 + bit badG * 2 ^ 9 + bit badN * 2 ^ 10)).setSlot k
              { sl with stage := 3, res := 2 }
          else
            s.setSlot k { sl with stage := 3, res := 1, cmp := cmp, ofs := meanCode o1 o2, gain := meanCode g1 g2 }
    let s := if s.parked i then s else s.put CH_STATE 3 i
    (if s.takeovers && !sl.rest then s else s.handback k).calRest

/-- Both handbacks due at a boundary (R212, R230). -/
def State.handbacks (s : State) : State := (s.handback 0).handback 1

/-- Retry waits count array frames (R219). -/
def State.retryTick (s : State) : State :=
  { s with cal := { s.cal with retry := s.cal.retry.map fun n => n - 1 } }

/-- A retry wait of RETRY_FRAMES frames has ended (R219). -/
def State.retryEnd (s : State) (i : Nat) : State :=
  if s.get CH_STATE i = 6 ∧ s.cal.retry.getD i 0 = 0 then s.put CH_STATE 0 i else s

/-- Every second a record that is not written is offered again (R222). -/
def State.trimRetry (s : State) : State :=
  (List.range 34).foldl (fun s i => if s.on CH_UNSAVED i then s.offerTrim i else s) s


end Sys2Proof.Machine
end

