-- ==== Sys2Proof/Machine/Mill.lean ====
section
/-! DEFINITION. The Millrace: the six stages, drift, statistics, embedded lines and the Loft's fill, load and switch
(R241 to R267). -/

namespace Sys2Proof.Machine

/-! ### The Loft (R244, R253) -/

/-- Bank `b`: 0 A, 1 B. -/
def State.bank (s : State) (b : Nat) : Image := if b = 0 then s.loft.bankA else s.loft.bankB

/-- Replace bank `b`. -/
def State.setBank (s : State) (b : Nat) (im : Image) : State :=
  if b = 0 then { s with loft := { s.loft with bankA := im } } else { s with loft := { s.loft with bankB := im } }

/-- The TREF row of a bank. -/
def trefRow (b : Nat) : Row := if b = 0 then MILL_TREF_A else MILL_TREF_B

/-- The TREF of the bank in force. -/
def State.tref (s : State) : Int := signed 16 (s.get (trefRow (s.get MILL_ACTIVE)))

/-- A coefficient word (Table MILL-3). -/
structure Coef where
  o : Int
  g : Nat
  k : Nat
  bad : Bool
  deriving DecidableEq, Repr

/-- Read a coefficient word. -/
def coefOf (w : Nat) : Coef := ⟨signed 14 (bitsOf w 18 14), bitsOf w 6 12, bitsOf w 1 5, bitAt w 0⟩

/-- What stands for a coefficient word that fails parity (R264). -/
def Coef.parity : Coef := ⟨0, 1024, 0, true⟩

/-- Why a FILL_START or LOAD is refused (R253, R261): semaphore, mode, the temporal store. -/
def State.fillCheck (s : State) (m : Nat) : Option Refuse :=
  if !s.holds m 0 then some ⟨cLOCKED, 0, false⟩
  else if s.mode ≠ LIVE ∧ s.mode ≠ SERVICE then some ⟨cSTATE, 0xC, false⟩
  else if s.on MILL_TF_STORE then some ⟨cBUSY, 0, false⟩
  else none

/-- FILL_START (R253): one in a fill begins it again, one in a load ends the load. DEDUCED, log 36, unsafe. -/
def State.fillStart (s : State) : State :=
  let s := ((s.put (completeRow s.inactive) 0).put MILL_CHECKING 0).put MILL_FILLING 1
  { s with loft := { s.loft with checking := none } }

/-- Why a FILL_END or FILL_ABORT is refused (R253). DEDUCED, log 36, unsafe. -/
def State.fillEndCheck (s : State) (m : Nat) (abort : Bool) : Option Refuse :=
  if !s.holds m 0 then some ⟨cLOCKED, 0, false⟩
  else if abort ∨ s.on MILL_FILLING then none
  else some ⟨cSTATE, 0xC, s.loft.checking.isSome⟩

/-- FILL_END: the computation starts (R253), again where one runs; its result is compared with FILL_CRC as it stands now.
DESIGN CHOICE, log 61, unsafe. -/
def State.fillEnd (s : State) : State :=
  { s.put MILL_CHECKING 1 with loft := { s.loft with checking := some (false, s.get MILL_FILL_CRC, 0, false) } }

/-- The source of a LOAD: 0 FACTORY, 1 FIELD_A, 2 FIELD_B; and whether the other FIELD copy may be tried after it. -/
def State.loadSource (s : State) (fromFactory : Bool) : Option (Nat × Bool) :=
  if fromFactory then if s.gran.headerOk (copyBase 0) then some (0, false) else none
  else match s.gran.fieldOrder with
    | [] => none
    | [k] => some (k, false)
    | k :: _ => some (k, true)

/-- Fill the inactive bank from copy `k` (R253): a load reads as FILLING 0 and CHECKING 1 from its start to its end. DESIGN CHOICE,
log 61, unsafe. -/
def State.loadFrom (s : State) (k : Nat) (retry : Bool) : State :=
  let b := s.inactive
  let s := ((s.setBank b (s.gran.image k)).put (trefRow b) (s.gran.copyTref k)).put MILL_FILLING 0
  { s.put MILL_CHECKING 1 with loft := { s.loft with checking := some (true, s.gran.copyCrc k, k, retry) } }

/-- LOAD (R253): without a valid source RESULT reads 3 and nothing is written. DEDUCED, log 36, unsafe. -/
def State.loadBank (s : State) (fromFactory : Bool) : State :=
  match s.loadSource fromFactory with
  | none => s.put MILL_RESULT 3
  | some (k, retry) => (s.put (completeRow s.inactive) 0).loadFrom k retry

/-- The check of a fill or a load ends (R253). DEDUCED, log 36, unsafe. -/
def State.checkDone (s : State) : State :=
  match s.loft.checking with
  | none => s
  | some (load, want, k, retry) =>
    let b := s.inactive
    let got := (s.bank b).crc
    let s := s.put MILL_CRC_CALC got
    if got = want ∧ !(load && !s.gran.copyWhole k) then
      let s := (((s.put MILL_FILLING 0).put MILL_CHECKING 0).put (completeRow b) 1).put MILL_RESULT 1
      ({ s with loft := { s.loft with checking := none
                                      identity := if s.loft.identity = some b then none else s.loft.identity } }.event 0x5012 b).raise 0x050 2
    else if load ∧ retry then s.loadFrom (3 - k) false
    else
      let s := (s.endFill 2).noteErr (s.get LOCK_OWNER 0 0) true 0x050 0x054 cCHECK
      (s.event 0x5011 (b + 2 * 2 ^ 4)).raise 0x050 2

/-- FILL_ABORT (R253); with nothing open there is nothing to end. DEDUCED, log 36, unsafe. -/
def State.fillAbort (s : State) : State := if s.fillOpen then s.endFill 0 else s

/-- Why a SWITCH is refused (R253, R261). -/
def State.switchCheck (s : State) : Option Refuse :=
  if s.mode ≠ LIVE ∧ s.mode ≠ SERVICE then some ⟨cSTATE, 0xC, false⟩
  else if s.on MILL_FILLING ∨ s.on (completeRow s.inactive) = false then some ⟨cSTATE, 0xC, s.on MILL_FILLING⟩
  else none

/-- Why a host write to a Loft word is refused (R253, R254). With a fill open and SEM0 free the write is LOCKED. DESIGN CHOICE,
log 61, unsafe. DEDUCED, log 36, unsafe. -/
def State.loftCheck (s : State) (m b : Nat) : Option Refuse :=
  if b = s.get MILL_ACTIVE then some ⟨cSTATE, 0, false⟩
  else if s.heldByOther m 0 then some ⟨cLOCKED, 0, false⟩
  else if s.on MILL_FILLING = false then some ⟨cSTATE, 0xC, s.loft.checking.isSome⟩
  else if !s.holds m 0 then some ⟨cLOCKED, 0, false⟩
  else none

/-- Store a Loft word. -/
def State.loftPut (s : State) (b i w : Nat) : State := s.setBank b ((s.bank b).setWord i w)

/-! ### Drift (R248) -/

/-- A drift coefficient of class `k`, band `b`. -/
def State.driftC (s : State) (k b n : Nat) : Int := signed 32 (s.get DRIFT_C 0 (20 * k + 4 * b + n))

/-- Saturate to the signed 24-bit range (R241). -/
def sat24 (x : Int) : Int × Bool :=
  if x < -8388608 then (-8388608, true) else if x > 8388607 then (8388607, true) else (x, false)

/-- D[k] for a clamped temperature difference (R248), without intermediate rounding. -/
def driftAt (c0 c1 c2 c3 x : Int) : Int :=
  (sat24 (roundDiv (c0 * 2 ^ 24 + c1 * x * 2 ^ 16 + c2 * x ^ 2 * 2 ^ 8 + c3 * x ^ 3) (2 ^ 24))).1

/-- Evaluate every D[k] at a boundary (R248, Table REG-2A). -/
def State.driftEval (s : State) : State :=
  let raw := s.mill.tfpa - s.tref
  let x := clampInt (-1023) 1023 raw
  let cl := x != raw
  let b := s.get BAND_BAND_NOW
  let d := (List.range 32).map fun k =>
    if s.fpa.driftOn then driftAt (s.driftC k b 0) (s.driftC k b 1) (s.driftC k b 2) (s.driftC k b 3) x else 0
  let s := (s.put DRIFT_DT_NOW (unsigned 16 x)).put DRIFT_DT_CLAMP (bit cl)
  let s := (List.range 32).foldl (fun s k => s.put DRIFT_DNOW (unsigned 24 (d.getD k 0)) 0 k) s
  let s := if cl && !s.mill.dtRun then s.event 0x5111 (unsigned 16 (clampInt (-32768) 32767 raw)) else s
  { s with mill := { s.mill with drift := d, dtRun := cl } }

/-! ### The stages (R242 to R247) -/

/-- Table MILL-1's word. -/
structure Pipe where
  v : Int
  clip : Bool
  spare : Bool
  bad : Bool
  replaced : Bool
  sat : Bool
  deriving DecidableEq, Repr

/-- Put a value into a pipeline word, saturating (R241). -/
def Pipe.set (p : Pipe) (x : Int) : Pipe := let (v, o) := sat24 x; { p with v := v, sat := p.sat || o }

/-- Stage 1 (R243). -/
def stage1 (on : Bool) (code b : Int) : Int := 16 * (code - if on then b else 0)

/-- Stage 2 (Table MILL-2). -/
def stage2 (v1 o : Int) (g : Nat) : Int := roundDiv ((v1 + 8 * o) * g) 1024

/-- The mean of a list, rounded; `none` of an empty one. -/
def meanOf (l : List Int) : Option Int :=
  if l.isEmpty then none else some (roundDiv (l.foldl (· + ·) 0) l.length)

/-- Stage 4 over a row (R245, Table MILL-4): `cur` holds V3 with its badness, `prev` the row before. Tier 3 takes the value that the
neighbour was replaced with. DESIGN CHOICE, log 61, unsafe. -/
def stage4At (cur : List (Int × Bool)) (prev : List Pix) (c : Nat) : Int × Bool :=
  let same := fun i => match cur[i]? with | some (v, false) => [v] | _ => []
  let left := fun d => if c < d then [] else same (c - d)
  let up := match prev[c]? with | some p => if p.good then [p.v3] else [] | none => []
  let v := (cur.getD c (0, false)).1
  match meanOf (left 1 ++ same (c + 1) ++ up) with
  | some m => (m, true)
  | none =>
    match meanOf (left 2 ++ same (c + 2)) with
    | some m => (m, true)
    | none =>
      match prev[c]? with
      | some p => if p.replaced then (p.v4, true) else (v, false)
      | none => (v, false)

/-- CN[c], signed (R246). -/
def State.cnOf (s : State) (c : Nat) : Int := signed 24 (s.get MILL_CN 0 c)

/-- Twice the residual of a pixel (R246). -/
def residual2 (v5 : List Int) (w c : Nat) : Int :=
  let g := fun i => v5.getD i 0
  if c = 0 then 2 * (g 0 - g 1)
  else if c + 1 = w then 2 * (g c - g (c - 1))
  else 2 * g c - (g (c - 1) + g (c + 1))

/-- Stage 6 (R247): the store word's value, if valid, against V5. -/
def stage6 (thresh shift : Nat) (p : Option Int) (v5 : Int) : Int :=
  match p with
  | none => v5
  | some p => if (v5 - p).natAbs > 16 * thresh then v5 else p + roundDiv (v5 - p) (2 ^ shift)

/-- The value that a store word holds (R247). -/
def storeValue (w : Nat) : Option Int := if bitAt w 31 then some (signed 24 w) else none

/-- out16 (R250), with its clipping. -/
def out16Of (v6 : Int) : Int × Bool :=
  let x := roundDiv v6 16
  if x < -32768 then (-32768, true) else if x > 32767 then (32767, true) else (x, false)

/-- The pixel of an out16 in the output format, and whether it clipped (R250). -/
def State.outPix (s : State) (o : Int) : Nat × Bool :=
  if s.on MILL_OUT_FMT then
    let x := o / (2 ^ s.get MILL_SHIFT14 : Int) + 8192
    if x < 0 then (0, true) else if x > 16383 then (16383, true) else (x.toNat, false)
  else (unsigned 16 o, false)

/-- The output word (R250) of an out16; `sat`: a stage saturated or out16 was clipped. -/
def State.outWord (s : State) (o : Int) (replaced sat : Bool) : Nat :=
  let (pix, cl) := s.outPix o
  pix + bit replaced * 2 ^ 16 + bit (sat || cl) * 2 ^ 17

/-! ### Statistics -/

/-- Count an output pixel (Table MILL-7). -/
def Stats.add (t : Stats) (o : Int) : Stats :=
  if t.count = 0 then { t with count := 1, sum := o, lo := o, hi := o }
  else { t with count := t.count + 1, sum := t.sum + o, lo := min t.lo o, hi := max t.hi o }

/-- A signed half word, little-endian. -/
def leS16 (x : Int) : List Byte := le16 (unsigned 16 x)

/-- A count that saturates at 0xFFFF. -/
def leSat (n : Nat) : List Byte := le16 (min n 0xFFFF)

/-- A statistic over `n` values: over none the rules give no value, and `free` stands for it. -/
def overN (n : Nat) (v : Int) (free : Nat) : Int := if n = 0 then signed 16 free else v

/-- The bytes of embedded line 2 before its CRC: the frame's counter, its statistics and the largest column correction in LSB
(Table MILL-7). A minimum, maximum or mean over nothing is a free value. DESIGN CHOICE, log 61, safe. -/
def statBytes (fc : Nat) (t : Stats) (cn : Nat) (free : Nat → Nat) : List Byte :=
  [0xE1, 0x02] ++ le32 fc ++ leS16 (overN t.count t.lo (free 0)) ++ leS16 (overN t.count t.hi (free 1)) ++
    leS16 (overN t.count (roundDiv t.sum t.count) (free 2)) ++ leS16 (overN t.blindN (roundDiv t.blind t.blindN) (free 3)) ++
    leS16 (overN t.blind0N (roundDiv t.blind0 t.blind0N) (free 4)) ++ leSat t.replaced ++ leSat t.unrep ++
    leSat t.clipped ++ leSat cn ++ leSat t.par ++ leSat t.loss

/-- Embedded line 2 (R251, Table MILL-7): in the first frame after a reset the counter reads 0xFFFF_FFFF and every statistic 0. -/
def State.lineTwo (s : State) : List Byte :=
  let b := match s.mill.last with
    | none => [0xE1, 0x02] ++ le32 0xFFFFFFFF ++ List.replicate 22 0
    | some (fc, t) =>
      let cn := (List.range s.width).foldl (fun a c => max a (s.cnOf c).natAbs) 0
      statBytes fc t (roundDiv cn 16).toNat fun i => (Config.freeWord (s.freeCtr + i)).toNat
  b ++ le32 (crc32 b)

/-- Line 2 is formed when a frame ends (R251); a REPEAT frame keeps the line of the last frame that carried pixels (R276). -/
def State.formLine2 (s : State) : State :=
  let l := s.lineTwo
  let pix := s.mill.frame && !s.mill.wasRep && !s.fpa.sentry
  { s with freeCtr := s.freeCtr + 5
           mill := { s.mill with line2 := l, linePix := if pix || s.mill.last.isNone then l else s.mill.linePix } }

/-- Embedded line 1 (Table MILL-6) from the values latched for the frame. -/
def State.lineOne (s : State) : List Byte :=
  let en := bitsOf (s.get MILL_BLIND_EN + s.get MILL_OG_EN * 2 + s.get MILL_DRIFT_EN * 4 + s.get MILL_BAD_EN * 8 +
    s.get MILL_CN_EN * 16 + s.get MILL_TF_EN * 32) 0 6
  let b := [0xE1, 0x01] ++ le32 (s.get MILL_FRAME_COUNT) ++ le16 s.mill.flags ++ leS16 s.mill.tfpa ++ leS16 s.fpa.tj ++
    [BitVec.ofNat 8 (s.get BAND_BAND_NOW), BitVec.ofNat 8 (s.get MILL_ACTIVE), BitVec.ofNat 8 s.mill.causes,
      BitVec.ofNat 8 (s.get NUC_CONF)] ++ le32 (if s.mill.rep then s.nuc.src else 0) ++ le32 (s.get YARD_SECONDS) ++
    le32 (s.get FPA_FRAME_EFF) ++ le16 s.width ++ le16 s.height ++
    [BitVec.ofNat 8 (s.get MILL_OUT_FMT), BitVec.ofNat 8 en] ++ List.replicate 10 0
  b ++ le32 (crc32 b)

/-- Line 1 with flags changed by the stage that sets RESUMED or TRUNCATED_PREV (R252). DEDUCED, log 30, unsafe. -/
def reflag (line : List Byte) (flags : Nat) : List Byte :=
  let b := line.take 6 ++ le16 flags ++ (line.drop 8).take 36
  b ++ le32 (crc32 b)

/-- Line 1 of a frame that turns into a REPEAT frame before the line leaves (R276, R288): the flags and the counter of the frame
repeated. -/
def relineRep (line : List Byte) (flags src : Nat) : List Byte :=
  let b := line.take 6 ++ le16 flags ++ (line.drop 8).take 8 ++ le32 src ++ (line.drop 20).take 24
  b ++ le32 (crc32 b)

/-! ### A row (R186, R209 to R211, R242 to R247, R264, R265, R277, R353) -/

/-- The sample of column `c`: code, CLIP, SPARE (R208 to R211). With MATCH_OFS, in 1/8 LSB, the code is rounded to nearest.
DESIGN CHOICE, log 60, unsafe. DESIGN CHOICE, log 11, safe. -/
def State.sample (s : State) (r : RowIn) (c : Nat) : Int × Bool × Bool :=
  let k := s.inputOf c
  match s.carrier k with
  | some sp =>
    let uv := ((if sp = 0 then r.spareA else r.spareB)[s.stepOf c]?).getD (r.uv.getD c 0)
    let x := roundDiv (8 * s.codeOf (32 + sp) k uv + signed 11 (s.get CH_MATCH_OFS (32 + sp))) 8
    let (v, cl) := clip16 x
    (v, cl, true)
  | none =>
    let (v, cl) := clip16 (s.codeOf k k (r.uv.getD c 0))
    (v, cl, false)

/-- The parallel samples of the overlaps (R211). -/
def State.overlapRow (s : State) (r : RowIn) : State :=
  (List.range 2).foldl (fun s k =>
    let sl := s.slot k
    if sl.stage ≠ 1 then s
    else
      (List.range s.width).foldl (fun s c =>
        if s.inputOf c = sl.inst then
          let uv := r.uv.getD c 0
          let uvS := ((if k = 0 then r.spareA else r.spareB)[s.stepOf c]?).getD uv
          s.overlapAdd k ((clip16 (s.codeOf sl.inst sl.inst uv)).1 - (clip16 (s.codeOf (32 + k) sl.inst uvS)).1)
        else s) s) s

/-- A blind row passes stage 1 (R243): row 0 feeds statistics only. Words lost before the Millrace take part in nothing (R265), clipped
samples in the count of clipped ones alone. DESIGN CHOICE, log 61, unsafe. -/
def State.blindRow (s : State) (r : RowIn) (row : Nat) : State :=
  let px := (List.range s.width).map fun c => if r.lost.contains c then (0, true, false) else s.sample r c
  let t := s.mill.stats
  let ok := px.filter fun e => !e.2.1
  let sum := ok.foldl (fun (a : Int) e => a + e.1) 0
  let clips := px.length - ok.length - ((List.range s.width).filter r.lost.contains).length
  if row = 0 then
    let t := { t with blind0 := sum, blind0N := ok.length, clipped := t.clipped + clips }
    { s with mill := { s.mill with blind := List.replicate s.width (0, 0), stats := t } }
  else
    let acc := (List.range s.width).map fun c =>
      let (b, n) := s.mill.blind.getD c (0, 0)
      match px[c]? with
      | some (v, false, _) => (b + v, n + 1)
      | _ => (b, n)
    let t := { t with blind := t.blind + sum, blindN := t.blindN + ok.length, clipped := t.clipped + clips }
    { s with mill := { s.mill with blind := acc, stats := t } }

/-- Every B[c] is formed from blind rows 1 to 7; a column with every sample clipped keeps its last, which is 0 where none has been formed.
With BLIND_EN 0 it is 0 (R243). DESIGN CHOICE, log 61, unsafe. -/
def State.formRef (s : State) : State :=
  let b := (List.range s.width).map fun c =>
    let (v, n) := s.mill.blind.getD c (0, 0)
    if s.on MILL_BLIND_EN = false then 0 else if n = 0 then s.mill.bref.getD c 0 else roundDiv v n
  { s with mill := { s.mill with bref := b } }

/-- A row on its way: per column the words after stage 3, with what NUC and sentry need, and whether the word is missing (R265). -/
structure Front where
  pipe : Pipe
  coef : Coef
  v2 : Int
  sat2 : Bool
  xs : Int
  lost : Bool
  deriving DecidableEq, Repr

/-- Stages 1 to 3 of one pixel (R242, R264), and the sentry value V1 + 8 × O (R353). -/
def State.front (s : State) (r : RowIn) (row c : Nat) : Front :=
  let (code, cl, sp) := s.sample r c
  let og := s.on MILL_OG_EN
  let cf := if r.coefBad.contains c then Coef.parity
    else coefOf ((s.bank (s.get MILL_ACTIVE)).word (640 * row + c))
  let p : Pipe := ⟨0, cl, sp, cf.bad, false, false⟩
  let p1 := p.set (stage1 (s.on MILL_BLIND_EN) code (s.mill.bref.getD c 0))
  let xs := (sat24 (p1.v + 8 * cf.o)).1
  let p2 := if og then p1.set (stage2 p1.v cf.o cf.g) else p1
  let p3 := if s.on MILL_DRIFT_EN then p2.set (p2.v - s.mill.drift.getD cf.k 0) else p2
  ⟨p3, cf, p2.v, p2.sat, xs, r.lost.contains c⟩

/-- A pixel is bad in stage 4 (R245). -/
def State.badIn (s : State) (f : Front) : Bool := f.pipe.bad || (f.pipe.clip && s.on MILL_CLIP_BAD)

/-- Stages 4 to 6 of a row (R245 to R247), with the store's write and the column-noise sums; answers the pipeline
words. A missing word (R265) is no candidate of stage 4, takes no part in the column-noise sums and leaves the store's word; in a
neighbour's residual its V5 is that of the code before the Sluice. DEDUCED, log 36, unsafe. DESIGN CHOICE, log 61, unsafe. -/
def State.backEnd (s : State) (r : RowIn) (row : Nat) (fs : List Front) : List Pipe × State :=
  let cur := fs.map fun f => (f.pipe.v, s.badIn f || f.lost)
  let badEn := s.on MILL_BAD_EN
  let p4 := (List.range fs.length).map fun c =>
    match fs[c]? with
    | none => (⟨0, false, false, false, false, false⟩ : Pipe)
    | some f =>
      if badEn && s.badIn f && !f.lost then
        let (v, rep) := stage4At cur s.mill.prev c
        { f.pipe.set v with replaced := rep }
      else f.pipe
  let p5 := (List.range p4.length).map fun c =>
    match p4[c]? with
    | none => (⟨0, false, false, false, false, false⟩ : Pipe)
    | some p => if s.on MILL_CN_EN then p.set (p.v - s.cnOf c) else p
  let v5 := p5.map Pipe.v
  let lim : Nat := 32 * s.get MILL_CN_THRESH
  let cn := (List.range fs.length).map fun c =>
    let (a, n) := s.mill.cn.getD c (0, 0)
    let e := residual2 v5 s.width c
    let bad := match cur[c]? with | some (_, b) => b | none => true
    if s.on MILL_CN_EN && !bad && decide (e.natAbs ≤ lim) then (a + e, n + 1) else (a, n)
  let b := s.inactive
  let tf := s.on MILL_TF_EN
  let old := s.bank b
  let p6 := (List.range p5.length).map fun c =>
    match p5[c]? with
    | none => (⟨0, false, false, false, false, false⟩ : Pipe)
    | some p =>
      if tf then
        let w := old.word (640 * row + c)
        let pv := if r.storeBad.contains c then none else storeValue w
        p.set (stage6 (s.get MILL_TF_THRESH) (s.get MILL_TF_SHIFT) pv p.v)
      else p
  let s := if tf then
      s.setBank b ((List.range p6.length).foldl (fun (im : Image) c =>
        if r.lost.contains c then im else im.setWord (640 * row + c) (unsigned 24 ((p6.getD c ⟨0, false, false, false, false, false⟩).v) + 2 ^ 31)) old)
    else s
  let prev := (List.range fs.length).map fun c =>
    let (v3, bad) := cur.getD c (0, true)
    let q := p4.getD c ⟨0, false, false, false, false, false⟩
    (⟨v3, q.v, !bad, q.replaced⟩ : Pix)
  (p6, { s with mill := { s.mill with cn := cn, prev := prev } })

/-- The out16 of a row, and whether it clipped (R250): a missing word takes the out16 of its column in the previous row (R265), a free
value in active row 0, which has none before it. DESIGN CHOICE, log 61, safe. -/
def State.rowOut (s : State) (r : RowIn) (ps : List Pipe) : List (Int × Bool) :=
  (List.range ps.length).map fun c =>
    if r.lost.contains c then (s.mill.prevOut.getD c (signed 16 (Config.freeWord (s.freeCtr + c)).toNat), false)
    else out16Of (ps.getD c ⟨0, false, false, false, false, false⟩).v

/-- The output words of a row: every word of a row that misses some carries bit 17 (R250, R265). -/
def State.rowWords (s : State) (r : RowIn) (ps : List Pipe) (os : List (Int × Bool)) : List Nat :=
  let short := (List.range ps.length).any fun c => r.lost.contains c
  (List.range ps.length).map fun c =>
    let p := ps.getD c ⟨0, false, false, false, false, false⟩
    let (o, cl) := os.getD c (0, false)
    if r.lost.contains c then s.outWord o false true else s.outWord o p.replaced (p.sat || cl || short)

/-- A row that reaches the Millrace incomplete is counted and logged with its row index (R185, R265). -/
def State.countLost (s : State) (r : RowIn) (index : Nat) : State :=
  if r.lost.isEmpty then s
  else
    let t := s.mill.stats
    (({ s with mill := { s.mill with stats := { t with loss := t.loss + 1 } } }.inc MILL_INPUT_LOSS).event 0x5014 index).raise 0x050 8

/-- An active row's Loft parity failures and its lost words are counted, in a REPEAT frame too (R264, R265). -/
def State.countLoss (s : State) (r : RowIn) (row : Nat) : State :=
  let t := s.mill.stats
  let par := ((List.range s.width).filter fun c => r.coefBad.contains c).length
  { s with mill := { s.mill with stats := { t with par := t.par + par } } }.countLost r (row + 8)

/-- Count a row's pixels (Table MILL-7). DEDUCED, log 36, unsafe. -/
def State.countRow (s : State) (fs : List Front) (ps : List Pipe) (os : List (Int × Bool)) : State :=
  let t := os.foldl (fun (t : Stats) o => t.add o.1) s.mill.stats
  let rep := (ps.filter Pipe.replaced).length
  let unrep := ((List.range ps.length).filter fun c =>
    match fs[c]?, ps[c]? with
    | some f, some p => s.on MILL_BAD_EN && s.badIn f && !f.lost && !p.replaced
    | _, _ => false).length
  let clips := (fs.filter fun f => f.pipe.clip && !f.lost).length
  let t : Stats := { t with replaced := t.replaced + rep, unrep := t.unrep + unrep, clipped := t.clipped + clips }
  { s with mill := { s.mill with stats := t } }

/-! ### Boundary work (R246, R247, R253, R259) -/

/-- The end of a frame's pixels (R246, R264, Table MILL-10): the last-frame counts are shown, a frame's parity failures are logged
once, and CN[c] is updated, but for a REPEAT frame. DEDUCED, log 36, unsafe. -/
def State.frameStats (s : State) : State :=
  if s.mill.frame = false then s
  else
    let t := s.mill.stats
    let s := if t.par > 0 then (s.event 0x5013 (min t.par 0xFFFF)).raise 0x050 4 else s
    let s := (((s.put MILL_REPLACED (min t.replaced 0xFFFF)).put MILL_UNREPAIRABLE (min t.unrep 0xFFFF)).put MILL_CLIPPED
      (min t.clipped 0xFFFF)).put MILL_LOFT_PAR (min t.par 0xFFFF)
    let lim : Int := 16 * (s.get MILL_CN_LIMIT : Nat)
    let s := if s.on MILL_CN_EN && !s.mill.rep then
        (List.range s.width).foldl (fun s c =>
          let (e, n) := s.mill.cn.getD c (0, 0)
          if n < 16 then s
          else
            let est := roundDiv e (2 * n)
            s.put MILL_CN (unsigned 24 (clampInt (-lim) lim (s.cnOf c + roundDiv est (2 ^ s.get MILL_CN_SHIFT)))) 0 c) s
      else s
    { s with mill := { s.mill with last := some (s.get MILL_FRAME_COUNT, t), lossPrev := t.loss > 0, wasRep := s.mill.rep } }

/-- Clear every CN[c] (R246). -/
def State.zeroCn (s : State) : State := (List.range 640).foldl (fun s c => s.put MILL_CN 0 0 c) s

/-- Clear every valid bit of the temporal-filter store: they stand in the inactive bank only while TF_STORE is 1 (R247). -/
def State.zeroTf (s : State) : State :=
  if s.on MILL_TF_STORE then
    let b := s.inactive
    let im := s.bank b
    s.setBank b ⟨im.fill % 2 ^ 31, (im.cells.map fun e => (e.1, e.2 % 2 ^ 31)).filter fun e => e.2 != im.fill % 2 ^ 31⟩
  else s

/-- A pending bank switch may take effect at the next boundary (R253): the bank is complete. -/
def State.switchDue (s : State) : Bool := s.on MILL_SWITCH_PEND && s.on (completeRow s.inactive)

/-- The pending bank switch takes effect (R253, R259), but not into a bank that a later fill has left incomplete: then it stays pending
(R262). Answers whether it did. -/
def State.bankSwitch (s : State) : State × Bool :=
  if s.switchDue then
    let b := s.inactive
    let s := (((s.put MILL_SWITCH_PEND 0).put MILL_ACTIVE b).event 0x5010 b).raise 0x050 1
    (s.zeroCn, true)
  else (s, false)

/-- The clearing of the store that is due at a boundary (R247, R259). DEDUCED, log 36, unsafe. -/
def State.clearings (s : State) : State :=
  let s := if s.mill.clearTf || s.mill.wasRep then s.zeroTf else s
  { s with mill := { s.mill with clearTf := false, wasRep := false } }

/-! ### Commits of MILL and DRIFT -/

/-- A GO on MILL that would set TF_EN to 1 while a fill or a switch is pending is refused (R261). -/
def State.millGoCheck (s : State) : Option Refuse :=
  if s.getStaged MILL_TF_EN = 1 ∧ s.get MILL_TF_EN = 0 ∧ (s.on MILL_FILLING ∨ s.on MILL_SWITCH_PEND ∨ s.loft.checking.isSome)
  then some ⟨cBUSY, 0, false⟩ else none

/-- An accepted GO on MILL that will set TF_EN claims the inactive bank at once (R261). DEDUCED, log 36, unsafe. -/
def State.millGo (s : State) : State :=
  if s.getStaged MILL_TF_EN = 1 ∧ s.get MILL_TF_EN = 0 ∧ s.going 0x050 then
    (((s.put (completeRow s.inactive) 0).put MILL_TF_STORE 1).event 0x5015 s.inactive)
  else s

/-- MILL's commit (R247, R261): setting TF_EN clears the valid bits, clearing it frees the store. -/
def State.millCommit (s : State) : State :=
  let was := s.on MILL_TF_EN
  let s := s.commitPage 0x050
  if s.on MILL_TF_EN then if was then s else { s with mill := { s.mill with clearTf := true } }
  else if was then s.put MILL_TF_STORE 0 else s

/-- FPA's commit: a change of format clears CN[c] and the valid bits (R246, R247). -/
def State.fpaCommit (s : State) : State :=
  let ch := s.going 0x010 && s.formatChange
  let s := s.commitPage 0x010
  if ch then { s with mill := { s.mill with clearTf := true, prev := [], cn := [] } }.zeroCn else s

/-- DRIFT's commit: none takes place in SENTRY (R366), so that a GO that still stands there waits for its end. -/
def State.driftCommit (s : State) : State :=
  if s.going 0x051 ∧ s.mode ≠ SENTRY then (s.commitPage 0x051).raise 0x051 1 else s

end Sys2Proof.Machine
end

