-- ==== Sys2Proof/Machine/Nuc.lean ====
section
/-! DEFINITION. The NUC policy, closures, the offset update, field-map saves and the shutter sequencer (R268 to R293). -/

namespace Sys2Proof.Machine

/-- EFF_POLICY (Table NUC-1): 0 SHUTTER, 1 SHUTTERLESS, 2 HYBRID, 3 none. -/
def State.effPolicy (s : State) : Nat := s.get YARD_EFF_POLICY

/-- Confidence (R268, R290, R292). DEDUCED, log 36, unsafe. -/
def State.confidence (s : State) : Nat :=
  let t := (s.get YARD_SECONDS - s.get NUC_LAST_S) / 60
  let d := if s.nuc.tSet then (s.tfpa - signed 16 (s.get NUC_LAST_T)).natAbs else 0
  let v := s.nuc.base - t * s.get NUC_DECAY_T / 16 - d * s.get NUC_DECAY_K / 16
  if s.on FPA_TFPA_BAD then min v (s.get NUC_CONF_FLOOR - 1) else v

/-- Show C (R268). -/
def State.confUpdate (s : State) : State := s.put NUC_CONF s.confidence

/-- Due conditions of Table NUC-1. -/
def State.nucDue (s : State) : Bool :=
  s.fpa.nucOn &&
  (if s.effPolicy = 0 then
    (s.get NUC_PERIOD_S != 0 && decide (s.get NUC_PERIOD_S ≤ s.get YARD_SECONDS - s.get NUC_LAST_S)) ||
    (s.get NUC_DT_REF != 0 && s.nuc.tSet &&
      decide (s.get NUC_DT_REF ≤ (s.tfpa - signed 16 (s.get NUC_LAST_T)).natAbs))
  else if s.effPolicy = 2 then decide (s.get NUC_CONF < s.get NUC_CONF_REF) else false)

/-- DEGRADED causes (Table MILL-9, R269). -/
def State.degraded (s : State) : Nat :=
  bit (s.loft.identity == some (s.get MILL_ACTIVE)) + bit (s.on NUC_DEFER_EXP) * 2 + bit (s.on SHUT_FAULTED) * 4 +
  bit (decide (s.get NUC_CONF < s.get NUC_CONF_FLOOR) && (s.mode == LIVE || s.mode == SERVICE)) * 8 +
  bit s.mill.lossPrev * 16

/-- NUC.CTRL.EN as it is in force: a change waits for the array frame boundary (R10, Table REG-2A). -/
def State.nucEn (s : State) : Bool := if s.frameRuns then s.fpa.nucOn else s.get HDR_EN 0x052 == 1

/-- Why NUC.CMD.CLOSE is refused (R271, Table REG-2A). -/
def State.closeCheck (s : State) : Option Refuse :=
  if s.nucEn = false ∨ s.get YARD_POLICY_WHY = 3 ∨ s.get YARD_POLICY_WHY = 4 then some ⟨cSTATE, 0, false⟩
  else if s.mode ≠ LIVE ∧ s.mode ≠ SERVICE then some ⟨cSTATE, 0xC, false⟩
  else if s.effPolicy = 3 then some ⟨cSTATE, 0, false⟩
  else if s.mode = LIVE ∧ s.effPolicy = 1 then some ⟨cSTATE, 0x8, false⟩
  else none

/-- A commanded closure (R271); one made while a closure runs merges with it. FORCE counts where the command came in SERVICE (R272). -/
def State.closeReq (s : State) (force : Bool) : State :=
  if s.nuc.form ≠ 0 then s
  else { s with nuc := { s.nuc with req := true, force := (force && s.mode == SERVICE) || s.nuc.force } }

/-! ### Field-map saves (R279, R287) -/

/-- A save is in the engine. -/
def State.saving (s : State) : Bool := s.gran.saving

/-- Start a device save; the engine refuses it at once where it is busy and DEFER_MAX is 0 (R279, R496). -/
def State.saveStart (s : State) : State :=
  if s.refusedAtOnce then ((s.deviceRefused 3).event 0x5215 1).saveCode cBUSY
  else (s.startFieldSave 7).put NUC_SAVING 1

/-- What is left of an abandoned save in the engine: its operation in progress ends, and its journal entry is closed (R635). -/
def GranS.dropSave (g : GranS) : GranS :=
  let waits := g.jobs.flatMap fun j => if j.op = jFIELD then j.closing else []
  let ends := fun (j : Job) => match j.ops with
    | .journalOpen w a :: _ => [GOp.journalOpen w a, .journalClose w a]
    | l => if l.any fun op => match op with | .journalOpen _ _ => true | _ => false then l.take 1 else l
  let g : GranS := { g with cur := g.cur.map fun j => if j.op = jFIELD then { j with op := jCLOSE, refusable := false, ops := ends j } else j }
  let g := g.without fun j => j.op == jFIELD
  { g with jobs := g.jobs ++ (if waits.isEmpty then [] else [closeJob waits]) }

/-- A save is abandoned (R279, R287): 1 refused, 2 by an update, a switch or DORMANT. DEDUCED, log 37, unsafe. -/
def State.saveAbort (s : State) (reason : Nat) (again : Bool) : State :=
  if s.saving then
    let s := s.onGran GranS.dropSave
    let s := (s.put NUC_SAVING 0).event 0x5215 reason
    { s with nuc := { s.nuc with saveAgain := again } }.engineStart
  else s

/-- The copy a save has finished: its image, its header and the closed journal entry (R503, R635). -/
def State.saveFinish (s : State) (k : Nat) : State :=
  let hdr := s.fieldHeader k
  s.onGran fun g =>
    let g := g.setImage k s.activeBank
    let g := (g.eraseSector (copyBase k / 0x1000)).program (copyBase k) hdr
    { g with journal := g.journal.filter fun e => e != (2, k - 1) }

/-- A save completes (R279): the copy is whole, and NUC_SAVE_DONE is logged with its number. -/
def State.saveDone (s : State) : State :=
  match (s.gran.cur.toList ++ s.gran.jobs).find? fun j => j.op == jFIELD with
  | none => s
  | some j =>
    let s := s.onGran fun g => { g.without (·.op == jFIELD) with cur := if g.cur.any (·.op == jFIELD) then none else g.cur }
    let s := s.put NUC_SAVING 0
    if j.code ≠ 0 then (s.saveCode j.code).engineStart
    else
      let s := (s.saveFinish j.arg).event 0x5214 (j.arg - 1)
      { s with nuc := { s.nuc with lastSave := some (s.get YARD_SECONDS) } }.engineStart

/-! ### The shutter -/

/-- The shutter's channels (SHUT.MAP): the close channel, and in BISTABLE the open channel. -/
def State.shutChans (s : State) : List Nat :=
  if s.on SHUT_TYPE then [s.get SHUT_CH_CLOSE, s.get SHUT_CH_OPEN] else [s.get SHUT_CH_CLOSE]

/-- A shutter channel is latched or TRIPPED (R272, R289). -/
def State.shutBlocked (s : State) : Bool := s.shutChans.any fun n => s.get SOL_LATCH n != 0 || s.on SOL_TRIPPED n

/-- The sequencer's FIRE (R317): a refused one yields no motion. A faulted shutter's channels stay off (R289). DEDUCED, log 38, unsafe. -/
def State.shutFire (s : State) (n : Nat) : State := if s.fireBlocked n ∨ s.pd 8 ≠ 2 then s else s.fire 0 n

/-- A closure fails (R288, R289); after a close miss it stays one that writes no offset. -/
def State.nucFail (s : State) (reason : Nat) : State :=
  let s := ((s.inc NUC_FAILS).event 0x5211 reason).raise 0x052 2
  { s with nuc := { s.nuc with fail := if s.nuc.fail = 1 then 1 else reason } }

/-- The closure is over. -/
def State.closureOver (s : State) : State :=
  { s with nuc := { s.nuc with form := 0, frame := 0, closed := false, measuring := false, opening := false,
                               confirmed := false, opened := false, second := false, integ := false,
                               isOver := false } }.put NUC_STATE 0

/-- A closure is cut: a failure with reason 4 (R286, R289, R291). DEDUCED, log 37, unsafe. -/
def State.closureCut (s : State) : State := if s.nuc.form = 0 then s else (s.nucFail 4).closureOver

/-- The shutter faults (R289): its channels are off, and stay so while FAULTED is 1; the policy follows at the next frame boundary. -/
def State.shutFault (s : State) (cause : Nat) : State :=
  if s.on SHUT_FAULTED then s
  else
    let s := s.shutChans.foldl (fun s n => (s.put SOL_PENDING 0 n).toOff n false) s
    { (s.put SHUT_FAULTED 1).event 0x6510 cause with nuc := { s.nuc with bootFail := s.nuc.bootPulse } }

/-- A shutter channel latched (3) or tripped (4) (R289): the shutter faults, and a closure ends. -/
def State.shutLost (s : State) (cause : Nat) : State :=
  if s.get HDR_EN 0x065 = 1 then (s.shutFault cause).closureCut else s

/-- Count a close or open miss (R288, R289). -/
def State.shutMiss (s : State) : State :=
  let s := s.inc SHUT_MISS
  if s.get SHUT_MISS_MAX ≠ 0 ∧ s.get SHUT_MISS ≥ s.get SHUT_MISS_MAX then s.shutFault 1 else s

/-- The open command (R273, R275): MONO ends HOLD, BISTABLE pulses the open channel. -/
def State.openCommand (s : State) : State :=
  let s := { s with nuc := { s.nuc with opening := true, measuring := false, integ := false } }.put NUC_STATE 4
  if s.on SHUT_TYPE then s.shutFire (s.get SHUT_CH_OPEN) else (s.stopChan (s.get SHUT_CH_CLOSE))

/-- A stop of the timing or an overload ends a closure with reason 4 (R291), and the shutter opens. DEDUCED, log 37, unsafe. -/
def State.closureStop (s : State) : State :=
  if s.nuc.form = 0 then s else (if s.nuc.opening then s else s.openCommand).closureCut

/-- The closure may end: its frames of Table NUC-2 have passed, and the shutter is open, or has faulted (R289). -/
def State.closureMayEnd (s : State) : State :=
  let last := if s.nuc.form = 1 ∨ s.nuc.fail = 1 then 2 else 3
  if s.nuc.form ≠ 0 ∧ (s.nuc.opened ∨ s.on SHUT_FAULTED ∧ (s.nuc.isOver ∨ s.nuc.form = 2)) ∧ s.nuc.frame ≥ last then s.closureOver
  else s

/-- The shutter counts as open (R275, R293). -/
def State.shutOpened (s : State) : State :=
  let boot := s.nuc.form = 0
  let s := { s with nuc := { s.nuc with bootPulse := false, bootFail := false, confirmed := !boot && s.nuc.confirmed
                                        opened := !boot } }
  if boot then s else (if s.nuc.closed then s.inc SHUT_CYCLES else s).closureMayEnd

/-- The row that integrates, active row `a`, is measured (R274). -/
def State.rowMeasured (s : State) (a : Nat) : Bool :=
  s.nuc.form != 0 && s.nuc.measuring && !s.nuc.opening && s.nuc.fail != 1 && decide (a < s.height) &&
  (if s.nuc.form = 1 then
    s.nuc.frame == 0 || (s.nuc.frame == 1 && decide (a < s.nuc.first.getD s.height))
  else s.nuc.frame == 1)

/-- Active row `a` is measured (R274): with the first one the update starts (R287), and in the split form it is row k1. -/
def State.nucMeasure (s : State) (a : Nat) : State :=
  let s := if s.nuc.tN = 0 ∧ s.nuc.here = false then s.saveAbort 2 true else s
  let s := if s.nuc.form = 1 ∧ s.nuc.first.isNone then
      { s.put NUC_FIRST_ROW a with nuc := { s.nuc with first := some a } } else s
  { s with nuc := { s.nuc with integ := true, here := true } }

/-- The measuring interval begins (R274). Whether that is before the FPA_INTEG rise of the row in progress, which is then measured, the
model leaves open. DESIGN CHOICE, log 8, safe. -/
def State.measureStart (s : State) : State :=
  let s := { s.put NUC_STATE 3 with nuc := { s.nuc with measuring := true } }
  if s.rowIntegrates && decide (8 ≤ s.rowNow) && s.rowMeasured (s.rowNow - 8) then
    if s.fresh.1 % 2 = 1 then s.fresh.2.nucMeasure (s.rowNow - 8) else s.fresh.2
  else s

/-- SETTLE_US after a confirmation (R274, R275). DESIGN CHOICE, log 15, unsafe. -/
def State.settled (s : State) : State :=
  if s.nuc.confirmed ∧ s.nuc.opened = false ∧ (s.nuc.form ≠ 0 ∨ s.nuc.bootPulse) then s.shutOpened
  else if s.nuc.form ≠ 0 ∧ s.nuc.closed ∧ s.nuc.measuring = false ∧ s.nuc.opening = false then s.measureStart
  else s

/-- Opening is confirmed after `t` µs (R275); with SETTLE_US 0 the shutter is open at once. -/
def State.openConfirm (s : State) (t : Nat) : State :=
  let s := { s.put SHUT_T_LAST_OPEN t with nuc := { s.nuc with confirmed := true } }
  if s.get SHUT_SETTLE_US = 0 then s.settled else s

/-- MONO: T_OPEN_MAX after the open command (R275). -/
def State.monoOpen (s : State) : State :=
  if s.nuc.form ≠ 0 ∧ s.nuc.opening ∧ s.nuc.confirmed = false ∧ s.on SHUT_TYPE = false then
    s.openConfirm (s.get SHUT_T_OPEN_MAX)
  else s

/-- A motion of a shutter channel (R274, R275, R293). -/
def State.shutMotion (s : State) (n : Nat) : State :=
  if s.get HDR_EN 0x065 = 0 then s
  else if s.nuc.form ≠ 0 ∧ s.nuc.closed = false ∧ s.nuc.opening = false ∧ n = s.get SHUT_CH_CLOSE then
    let s := { s.put SHUT_T_LAST_CLOSE (s.get SOL_T_MOTION n) with nuc := { s.nuc with closed := true } }
    if s.get SHUT_SETTLE_US = 0 then s.settled else s
  else if s.on SHUT_TYPE ∧ n = s.get SHUT_CH_OPEN ∧ s.nuc.confirmed = false ∧
      (s.nuc.opening ∨ (s.nuc.form = 0 ∧ s.nuc.bootPulse ∧ s.nuc.bootFail = false)) then
    s.openConfirm (s.get SOL_T_MOTION n)
  else s

/-- Closed is not confirmed within T_CLOSE_MAX (R288). -/
def State.closeMiss (s : State) : State :=
  if s.nuc.form ≠ 0 ∧ s.nuc.closed = false ∧ s.nuc.opening = false then (s.nucFail 1).shutMiss.openCommand else s

/-- A BISTABLE open pulse shows no motion within T_OPEN_MAX (R288, R293): a second one follows, and if that fails too the shutter is
faulted. With the shutter faulted no pulse is out. DEDUCED, log 37, unsafe. -/
def State.openMiss (s : State) : State :=
  if s.on SHUT_TYPE ∧ s.on SHUT_FAULTED = false ∧ s.nuc.confirmed = false ∧
      ((s.nuc.form ≠ 0 ∧ s.nuc.opening) ∨ (s.nuc.form = 0 ∧ s.nuc.bootPulse ∧ s.nuc.bootFail = false)) then
    if s.nuc.second then (s.inc SHUT_MISS).shutFault 2
    else
      let s := (if s.nuc.form ≠ 0 then s.nucFail 2 else s).shutMiss
      if s.on SHUT_FAULTED then s
      else ({ s with nuc := { s.nuc with second := true } }).shutFire (s.get SHUT_CH_OPEN)
  else s

/-- SHUT.FAULT_CLR is refused while a channel stays latched or TRIPPED (R289). -/
def State.shutClrCheck (s : State) : Option Refuse := if s.shutBlocked then some ⟨cSTATE, 0, false⟩ else none

/-- The open pulse of a BISTABLE shutter at DONE (R293). -/
def State.shutBoot (s : State) : State :=
  if s.get HDR_EN 0x065 = 1 ∧ s.on SHUT_TYPE then
    (({ s with nuc := { s.nuc with bootPulse := true, bootFail := false, second := false, confirmed := false,
                                   opened := false } }).event 0x6511 0).shutFire
      (s.get SHUT_CH_OPEN)
  else s

/-- A GO on SHUT (R281): range, then MAP while enabled. -/
def State.shutGoCheck (s : State) : Option Refuse :=
  let g := fun r => s.getStaged r
  if s.get HDR_EN 0x065 = 1 ∧ (g SHUT_CH_CLOSE ≠ s.get SHUT_CH_CLOSE ∨ g SHUT_CH_OPEN ≠ s.get SHUT_CH_OPEN ∨
      g SHUT_TYPE ≠ s.get SHUT_TYPE) then some ⟨cSTATE, 0, false⟩
  else if g SHUT_T_CLOSE_MAX + g SHUT_T_OPEN_MAX + 2 * g SHUT_SETTLE_US > 16000 ∨
      (g SHUT_TYPE = 1 ∧ g SHUT_CH_CLOSE = g SHUT_CH_OPEN) then some ⟨cRANGE, 0, false⟩
  else none

/-! ### The offset update (R277) -/

/-- The new coefficient word, and whether O was clamped (R277). -/
def newOffset (w : Nat) (cf : Coef) (e : Int) (shift : Nat) : Nat × Bool :=
  let o := cf.o + roundDiv (-e * 128) ((cf.g * 2 ^ shift : Nat) : Int)
  let o' := clampInt (-8192) 8191 o
  (w % 2 ^ 18 + unsigned 14 o' * 2 ^ 18, o != o')

/-- A good pixel of R277; a missing word (R265) is none. DEDUCED, log 36, unsafe. -/
def Front.good (f : Front) : Bool := !f.pipe.bad && !f.pipe.clip && !f.sat2 && !f.lost

/-- The update of one measured row (R255, R277): offsets go to the bank in force; M comes from the first measured row
that holds a good pixel. With OG_EN 0 no offset is written (R278). DEDUCED, log 37, unsafe. -/
def State.nucRow (s : State) (row : Nat) (fs : List Front) : State :=
  if s.on MILL_OG_EN = false then { s with nuc := { s.nuc with dry := true } }
  else
  let b := s.get BAND_BAND_NOW
  let c0 := fun k => if s.on MILL_DRIFT_EN && s.fpa.driftOn then s.driftC k b 0 else 0
  let u := fun (f : Front) => f.v2 - c0 f.coef.k
  let m := match s.nuc.m with
    | some m => some m
    | none => meanOf ((fs.filter Front.good).map u)
  let s := { s with nuc := { s.nuc with m := m } }
  match m with
  | none => s
  | some m =>
    let lim := 16 * s.get NUC_E_MAX
    let sh := s.get NUC_UPD_SHIFT
    let act := s.get MILL_ACTIVE
    let (im, out, clamped) := (List.range fs.length).foldl (fun (acc : Image × Nat × Nat) c =>
      match fs[c]? with
      | none => acc
      | some f =>
        if f.good then
          let e := u f - m
          if f.coef.g = 0 then acc
          else if e.natAbs > lim then (acc.1, acc.2.1 + 1, acc.2.2)
          else
            let i := 640 * row + c
            let (w, cl) := newOffset (acc.1.word i) f.coef e sh
            (acc.1.setWord i w, acc.2.1, acc.2.2 + bit cl)
        else acc) (s.bank act, 0, 0)
    ((s.setBank act im).addSat NUC_OUTLIERS out).addSat NUC_O_CLAMPED clamped

/-! ### At the boundary (R259, R260, R270 to R280) -/

/-- An update is still in progress: a switch waits for its end (R260). -/
def State.updating (s : State) : Bool := s.nuc.form != 0 && s.nuc.frame < 2

/-- The frame that ends held measured rows: its Tfpa enters the mean (R278). A split closure that measured none in F has k1 = H: every
row is left to F + 1 (R273, R274). DEDUCED, log 37, unsafe. -/
def State.nucFrameEnd (s : State) : State :=
  if s.nuc.form = 0 then s
  else
    let s := if s.nuc.here then
        { s with nuc := { s.nuc with tSum := s.nuc.tSum + s.mill.tfpa, tN := s.nuc.tN + 1 } }
      else s
    let s := if s.nuc.form = 1 ∧ s.nuc.frame = 0 ∧ s.nuc.first.isNone ∧ s.nuc.fail ≠ 1 then
        { s.put NUC_FIRST_ROW s.height with nuc := { s.nuc with first := some s.height } }
      else s
    { s with nuc := { s.nuc with frame := s.nuc.frame + 1, here := false, integ := false } }

/-- The update's end and the judgement (R255, R278, R288); a close miss has no update to judge. DEDUCED, log 37, unsafe. -/
def State.closureJudge (s : State) : State :=
  if s.nuc.form ≠ 0 ∧ s.nuc.frame = 2 then
    if s.nuc.tN = 0 ∨ s.nuc.fail = 1 then s
    else
      let t := roundDiv s.nuc.tSum s.nuc.tN
      let s := if s.nuc.dry then s else s.put (trefRow (s.get MILL_ACTIVE)) (unsigned 16 t)
      if s.get NUC_OUTLIERS ≤ s.get NUC_OUTLIER_MAX ∧ s.nuc.dry = false then
        let s := ((s.put NUC_LAST_S (s.get YARD_SECONDS)).put NUC_LAST_T (unsigned 16 t)).put NUC_DEFER_EXP 0
        let s := ((s.put SHUT_MISS 0).inc NUC_CLOSURES).raise 0x052 1
        let s := { s with nuc := { s.nuc with base := 255, tSet := true } }
        let s := s.event 0x5210 ((if s.nuc.form = 1 then 0 else 1) + s.nuc.cBefore * 2 ^ 8)
        let old := match s.nuc.lastSave with
          | none => true
          | some l => decide (s.get NUC_SAVE_MIN_S ≤ s.get YARD_SECONDS - l)
        if s.on NUC_SAVE_EN && (old || s.nuc.saveAgain) && !s.saving then
          { s.saveStart with nuc := { s.nuc with saveAgain := false } }
        else s
      else s.event 0x5213 (s.get NUC_OUTLIERS)
  else s

/-- A save abandoned by an update or a switch restarts when it is over (R287). DEDUCED, log 37, unsafe. -/
def State.saveRestart (s : State) : State :=
  if s.nuc.saveAgain ∧ s.updating = false ∧ s.saving = false then
    { s.saveStart with nuc := { s.nuc with saveAgain := false } }
  else s

/-- A pending switch takes effect at once where no frame is in progress (R10, R253): no update and no save of the bank left goes on.
DEDUCED, log 36, unsafe. -/
def State.switchRest (s : State) : State :=
  if s.frameRuns || !s.switchDue || s.mode == SENTRY || s.mode == DORMANT || s.updating then s
  else ((s.saveAbort 2 true).bankSwitch.1).saveRestart

/-- Veto, deferral and the start of a closure (R272, R273, R280); `switched`: a bank switch took effect here.
DEDUCED, log 37, unsafe. -/
def State.closureStart (s : State) (switched : Bool) : State :=
  let due := s.nucDue
  let veto := s.on NUC_VETO || (s.on NUC_VETO_PIN_EN && s.nuc.pin)
  let s := ((s.flag NUC_DUE due).flag NUC_VETO_IN veto)
  if s.nuc.form ≠ 0 then s
  else if !(due || s.nuc.req) then
    ({ s with nuc := { s.nuc with deferAt := none } }.put NUC_STATE 0).put NUC_DEFER_S 0
  else
    let forced := s.nuc.req && s.nuc.force
    if veto && !forced then
      let at0 := s.nuc.deferAt.getD (s.get YARD_SECONDS)
      ({ s with nuc := { s.nuc with deferAt := some at0 } }.put NUC_STATE 1).put NUC_DEFER_S
        (min 0xFFFF (s.get YARD_SECONDS - at0))
    else if s.fpa.nucOn && (s.mode == LIVE || s.mode == SERVICE) && !s.busy && s.get HDR_EN 0x065 == 1 &&
        !s.on SHUT_FAULTED && !s.shutBlocked && !switched && !s.switchDue && (!s.nuc.bootPulse || s.nuc.bootFail) then
      let form := if s.get FPA_FRAME_EFF < 1333320 then 1 else 2
      let s := { s with nuc := { s.nuc with req := false, force := false, deferAt := none, form := form, frame := 0,
                                            closed := false, measuring := false, opening := false, confirmed := false,
                                            opened := false, fail := 0, second := false, first := none, integ := false,
                                            here := false, m := none, tSum := 0, tN := 0, isOver := false, dry := false,
                                            cBefore := s.get NUC_CONF,
                                            src := if s.mill.rep then s.nuc.src else s.get MILL_FRAME_COUNT } }
      let s := (((s.put NUC_DEFER_S 0).put NUC_STATE 2).put NUC_OUTLIERS 0).put NUC_O_CLAMPED 0
      s.shutFire (s.get SHUT_CH_CLOSE)
    else s

/-- The frame that starts repeats: Table NUC-2's frames (R273, R276). -/
def State.nucRepeat (s : State) : Bool :=
  s.nuc.form != 0 && decide (s.nuc.frame < (if s.nuc.form = 1 ∨ s.nuc.fail = 1 then 2 else 3))

/-- The seconds of a deferral (R280). -/
def State.deferTick (s : State) : State :=
  match s.nuc.deferAt with
  | some a => s.put NUC_DEFER_S (min 0xFFFF (s.get YARD_SECONDS - a))
  | none => s

/-- The defer limit is reached (R280): once per deferral. -/
def State.deferExpired (s : State) : State :=
  if s.nuc.deferAt.isSome ∧ s.get NUC_DEFER_S ≥ s.get NUC_DEFER_MAX ∧ s.on NUC_DEFER_EXP = false then
    ((s.put NUC_DEFER_EXP 1).event 0x5212 (s.get NUC_DEFER_MAX)).raise 0x052 4
  else s

/-! ### At a row (R273, R274, R288) -/

/-- The open command falls at the start of this row period (R273): the last row to be measured has integrated. -/
def State.openNow (s : State) (row : Nat) : Bool :=
  s.nuc.form != 0 && !s.nuc.opening &&
  (if s.nuc.form = 1 then
    (s.nuc.frame == 1 && row == 8 + s.nuc.first.getD s.height) ||
    (s.nuc.frame == 0 && s.nuc.first == some 0 && row == 8 + s.height) || (s.nuc.frame == 1 && row == 8 + s.height)
  else s.nuc.frame == 1 && row == 8 + s.height)

/-- The split closure's shutter is not open when active row 0 of F + 2 integrates (R288): F + 2 carries REPEAT, before its lines have
left (R251). -/
def State.overrun (s : State) : State :=
  let s := (s.nucFail 3).inc SHUT_OVERRUNS
  let s := { s with nuc := { s.nuc with isOver := true } }
  if s.mill.frame then
    let f := s.mill.flags ||| 1
    { s with mill := { s.mill with rep := true, flags := f, line1 := relineRep s.mill.line1 f s.nuc.src, line2 := s.mill.linePix } }
  else s

/-- What the start of row period `row` does in a closure: the open command, the overrun, the row's measuring.
DEDUCED, log 37, unsafe. -/
def State.nucRowStart (s : State) (row : Nat) : State :=
  let s := if s.openNow row then s.openCommand else s
  let s := if s.nuc.form = 1 ∧ s.nuc.frame = 2 ∧ row = 8 ∧ s.nuc.opened = false ∧ s.nuc.isOver = false then s.overrun
    else s
  if decide (8 ≤ row) && s.rowMeasured (row - 8) then s.nucMeasure (row - 8)
  else { s with nuc := { s.nuc with integ := false } }

/-- After a loss of class C or a DORMANT exit (R292): C and LAST_S at DONE; LAST_T waits for a valid Tfpa.
DEDUCED, log 37, unsafe. -/
def State.nucBoot (s : State) : State :=
  let s := s.put NUC_LAST_S (s.get YARD_SECONDS)
  { s with nuc := { s.nuc with base := if s.loft.identity = some (s.get MILL_ACTIVE) then 0 else s.get NUC_CONF_BOOT, tSet := false } }.confUpdate

/-- LAST_T takes the first valid Tfpa (R292). -/
def State.nucFirstT (s : State) : State :=
  if s.nuc.tSet = false ∧ s.fpa.tfpaValid ∧ s.on FPA_TFPA_BAD = false then
    { s.put NUC_LAST_T (s.get TEMP_TFPA) with nuc := { s.nuc with tSet := true } }
  else s

end Sys2Proof.Machine
end

