-- ==== Sys2Proof/Machine/Sentry.lean ====
section
/-! DEFINITION. Sentry watch: binning, the background, judgement and alarms (R351 to R371). -/

namespace Sys2Proof.Machine

/-- Bins across and down (R354). -/
def State.gridW (s : State) : Nat := s.width / 4
def State.gridH (s : State) : Nat := s.height / 4

/-- A background reset (R361): learning restarts with the next evaluated frame. -/
def State.bgReset (s : State) : State :=
  { (s.put SENTRY_BG_READY 0).put SENTRY_CONFIRM_CNT 0 with sen := { s.sen with learned := 0, bg := [] } }

/-- A frame is binned from its start (R353, R354, R360). DEDUCED, log 50, unsafe. -/
def State.senFrame (s : State) : State :=
  { s with
      sen := { s.sen with acc := [], grid := [], binning := true, ready := false, loss := false } }

/-- A bin's value: the rounded mean of its good pixels, with at least 8 of them (R354). -/
def binValue (sum : Int) (n : Nat) : Option Int := if n < 8 then none else some (roundDiv sum n)

/-- An active row enters the bins (R354): the values of its pixels, `none` where a pixel is not good. -/
def State.senRow (s : State) (row : Nat) (xs : List (Option Int)) (lost : Bool) : State :=
  if !s.sen.binning then s
  else
    let acc := (List.range s.gridW).map fun b =>
      let (a, n) := if row % 4 = 0 then ((0, 0) : Int × Nat) else s.sen.acc.getD b (0, 0)
      (List.range 4).foldl (fun (e : Int × Nat) i =>
        match xs.getD (4 * b + i) none with | some v => (e.1 + v, e.2 + 1) | none => e) (a, n)
    let sen := { s.sen with acc := acc, loss := s.sen.loss || lost }
    let sen := if row % 4 = 3 then { sen with grid := sen.grid ++ acc.map fun e => binValue e.1 e.2 } else sen
    let sen := if row + 1 = s.height then { sen with binning := false, ready := true } else sen
    { s with sen := sen }

/-- Adapt a background value (R358). -/
def adapt (bg x : Int) (shift : Nat) : Int := bg + roundDiv (x - bg) (2 ^ shift)

/-- The zone of bin (r, c) is armed (R356). -/
def State.armed (s : State) (r c : Nat) : Bool := bitAt (s.get SENTRY_ZONE 0 (r / 8)) (c / 8)

/-- A bin exceeds (R356). -/
def State.exceeds (s : State) (x bg : Int) : Bool :=
  let lim : Int := 16 * (s.get SENTRY_DELTA : Nat)
  decide (x - bg > lim) || (!s.on SENTRY_POLARITY && decide (x - bg < -lim))

/-- EXCEED: armed, valid bins with a background value that exceed (R356). -/
def State.exceedCount (s : State) : Nat :=
  let w := s.gridW
  ((List.range s.sen.grid.length).filter fun i =>
    match s.sen.grid.getD i none, s.sen.bg.getD i none with
    | some x, some b => s.exceeds x b && s.armed (i / w) (i % w)
    | _, _ => false).length

/-- The background after a frame: learning copies or adapts every valid bin, judging adapts by whether it exceeded
(R355, R358). DEDUCED, log 50, unsafe. -/
def State.adaptAll (s : State) (learning first : Bool) : State :=
  let bg := (List.range s.sen.grid.length).map fun i =>
    match s.sen.grid.getD i none, s.sen.bg.getD i none with
    | some x, some b =>
      if learning then some (if first then x else adapt b x (s.get SENTRY_ADAPT_SHIFT))
      else some (adapt b x (if s.exceeds x b then s.get SENTRY_ADAPT_SHIFT_X else s.get SENTRY_ADAPT_SHIFT))
    | some x, none => some x
    | none, b => b
  { s with sen := { s.sen with bg := bg } }

/-- An alarm's own effects (R357, R359); what it does to the mode, the link and the wakes is the caller's.
DEDUCED, log 50, unsafe. -/
def State.alarm (s : State) (exceed : Nat) : State :=
  let s := (((s.put SENTRY_CONFIRM_CNT 0).flag SENTRY_HOLDOFF (s.get SENTRY_HOLDOFF_S != 0)).put SENTRY_ALARM 1).raise 0x054 1
  (s.inc SENTRY_ALARMS).event 0x5410 exceed

/-- The judgement of a completed grid (R355 to R358, R369): the state, and whether an alarm was raised.
DEDUCED, log 50, unsafe. -/
def State.evaluate (s : State) : State × Bool :=
  if !s.sen.ready then (s, false)
  else
    let s := { s with sen := { s.sen with ready := false } }
    let invalid := (s.sen.grid.filter Option.isNone).length
    if s.sen.loss then ((s.inc SENTRY_BAD_FRAMES).event 0x5413 1, false)
    else if 2 * invalid > s.sen.grid.length then ((s.inc SENTRY_BAD_FRAMES).event 0x5413 2, false)
    else
      let s := s.inc SENTRY_FRAMES
      if s.on SENTRY_BG_READY then
        let e := s.exceedCount
        let s := s.put SENTRY_EXCEED e
        let gm := s.get SENTRY_GLOBAL_MAX
        if gm ≠ 0 ∧ e ≥ gm then
          ((((s.inc SENTRY_SCENE_CHANGES).raise 0x054 2).event 0x5411 e).bgReset, false)
        else if e ≥ s.get SENTRY_COUNT_MIN then
          let n := min 15 (s.get SENTRY_CONFIRM_CNT + 1)
          let s' := s.put SENTRY_CONFIRM_CNT n
          if n ≥ s.get SENTRY_CONFIRM ∧ s.on SENTRY_HOLDOFF = false then ((s'.alarm e).adaptAll false false, true)
          else (s'.adaptAll false false, false)
        else ((s.put SENTRY_CONFIRM_CNT 0).adaptAll false false, false)
      else
        let s := s.adaptAll true (s.sen.learned = 0)
        let s := { s with sen := { s.sen with learned := s.sen.learned + 1 } }
        if s.sen.learned ≥ s.get SENTRY_LEARN_FRAMES then
          (((s.put SENTRY_BG_READY 1).event 0x5412 0).raise 0x054 4, false)
        else (s, false)

/-- HOLDOFF ends (R357). -/
def State.holdoffEnd (s : State) : State := s.put SENTRY_HOLDOFF 0

/-- Slot 2 fires (R351, R352, R360, R370): in SENTRY a frame falls due while the bias is up, or is skipped inside one; in LIVE and SERVICE
the next frame is evaluated. -/
def State.senFire (s : State) : State :=
  if s.get HDR_EN 0x054 = 0 then s
  else if s.mode = SENTRY then
    if s.frameRuns then s.inc SENTRY_SKIPS else { s with fpa := { s.fpa with due := s.fpa.on && !s.fpa.ovl } }
  else if s.on SENTRY_LIVE_DET then { s with sen := { s.sen with liveDue := true } }
  else s

/-- Slot 2 is paced while SENTRY frames or live detection run (R113, R351): the ticks of a period. -/
def State.senPeriod (s : State) : Nat := 32768 / 2 ^ s.get SENTRY_RATE

/-- Arm slot 2 one period ahead. DEDUCED, log 32, unsafe. -/
def State.senArm (s : State) : State :=
  let t := s.get YARD_SUBSEC + s.senPeriod
  s.armSlot 2 (s.get YARD_SECONDS + t / 32768) (t % 32768)

/-- Slot 2 is in use (R351, R360). -/
def State.senPaced (s : State) : Bool :=
  s.get HDR_EN 0x054 == 1 && s.pd 1 == 2 &&
    (s.mode == SENTRY || ((s.mode == LIVE || s.mode == SERVICE) && s.on SENTRY_LIVE_DET))

/-- Follow CTRL.EN, LIVE_DET and the mode (R351, R360); where slot 2 is not in use no frame is due. DEDUCED, log 32, unsafe. -/
def State.senSync (s : State) : State :=
  if s.senPaced then if s.on YARD_ARMED 0 2 then s else s.senArm
  else
    let s := { s with fpa := { s.fpa with due := false } }
    if s.on YARD_ARMED 0 2 then s.disarmSlot 2 else s

/-- Sentry frames are read, one at each firing of slot 2 (R351). -/
def State.senFrames (s : State) : Bool := s.mode == SENTRY && s.senPaced && s.fpa.on && !s.fpa.stop

/-- A GO on SENTRY (R363). -/
def State.senGoOk (s : State) : Bool :=
  let gm := s.getStaged SENTRY_GLOBAL_MAX
  gm == 0 || decide (s.getStaged SENTRY_COUNT_MIN < gm)

end Sys2Proof.Machine
end

