-- ==== Sys2Proof/Machine/Link.lean ====
section
/-! DEFINITION. Thrumlink ports: negotiation, training, power over coax, keep-alive and the message engine (R372 to R414,
R420 to R427). -/

namespace Sys2Proof.Machine

/-- Port `n`. -/
def State.port (s : State) (n : Nat) : LinkS := s.link.getD n LinkS.idle

/-- Replace port `n`. -/
def State.setPort (s : State) (n : Nat) (p : LinkS) : State := { s with link := s.link.set n p }

/-- The page of port `n`, and an event of it (Tables LINK-6 and LINK-14). -/
def linkPage (n : Nat) : Nat := 0x070 + n
def linkEv (n code : Nat) : Nat := 0x7000 + n * 0x100 + code

/-- The device is the head end of its port: in HEAD role (R28, Table ROLE-1). -/
def State.headEnd (s : State) : Bool := s.role == HEAD

/-- The device is a head as its Yard knows it, in DORMANT too (R387). -/
def State.headYard (s : State) : Bool := match s.yard.roleCopy with | some r => r == HEAD | none => false

/-- The port's domain is ON. -/
def State.linkOn (s : State) (n : Nat) : Bool := s.pd (2 + n) == 2

/-- The port is UP. -/
def State.linkUp (s : State) (n : Nat) : Bool := s.get LINK_STATE n == 5

/-! ### Sending (R397, R401 to R403) -/

/-- The bytes of words, each little-endian. -/
def wordBytes (ws : List Nat) : List Byte := ws.flatMap le32

/-- A CTRL packet on the wire (R401): header, payload, trailer with ACK and CRC-16. -/
def ctrlWords (msg seq ack : Nat) (ws : List Nat) : List Nat :=
  let h := 0x80000000 + (ws.length + 1) * 2 ^ 16 + seq * 2 ^ 8 + msg
  let c := crc16 (wordBytes (h :: ws) ++ [0, BitVec.ofNat 8 ack])
  h :: ws ++ [ack * 2 ^ 24 + c]

/-- The SEQ last received in order. -/
def LinkS.acked (p : LinkS) : Nat := (p.expSeq + 255) % 256

/-- Put a packet on the wire. -/
def LinkS.put (p : LinkS) (ws : List Nat) : LinkS := { p with out := p.out ++ [ws] }

/-- Send an unnumbered message: it repeats the last SEQ sent (R402), and its trailer acknowledges (R401). -/
def LinkS.plain (p : LinkS) (msg : Nat) (ws : List Nat) : LinkS :=
  { p.put (ctrlWords msg ((p.nextSeq + 255) % 256) p.acked ws) with ackOwed := false }

/-- Send a numbered message of the window. -/
def LinkS.emit (p : LinkS) (m : Msg) : LinkS :=
  { p.put (ctrlWords m.msg m.seq p.acked m.words) with ackOwed := false }

/-- Messages that wait enter the window while it has room (R403). -/
def LinkS.fillWindow : Nat → LinkS → LinkS
  | 0, p => p
  | k + 1, p =>
    match p.waiting with
    | [] => p
    | m :: l =>
      if p.window.length ≥ 16 then p
      else
        let m := { m with seq := p.nextSeq }
        let p := { p with waiting := l, window := p.window ++ [m], nextSeq := (p.nextSeq + 1) % 256 }
        LinkS.fillWindow k (p.emit m)

/-- The port may send numbered messages: UP with an active session, or SESSION and SESSION_ACK which begin it. -/
def State.mayPost (s : State) (n : Nat) : Bool := s.linkUp n && s.get LINK_SES_STATE n == 1

/-- Message units of a port: 16-byte units (Table SLU-4). -/
def LinkS.units (p : LinkS) : Nat :=
  ceilDiv (4 * (p.waiting ++ p.window).foldl (fun a m => a + m.words.length + 2) 0) 16

/-- The units of the message part of a Stall in one direction: 2 KiB (Table SLU-3). -/
def msgRoom : Nat := 128

/-- A frame that dropped lines is logged once, with their number (R381). -/
def State.stallReport (s : State) (n : Nat) : State :=
  let d := (s.port n).dropped
  if d = 0 then s else (s.setPort n { s.port n with dropped := 0 }).event (linkEv n 0x1A) d

/-- Queue a numbered message (R402, R403); where the message part is full its sender waits, and the wait counts (R381, R561). -/
def State.post (s : State) (n msg : Nat) (ws : List Nat) : State :=
  let s := if (s.port n).units + ceilDiv (4 * (ws.length + 2)) 16 > msgRoom then s.inc SLUICE_STALLS 0 (5 + n) else s
  let p := s.port n
  let p := { p with waiting := p.waiting ++ [⟨msg, 0, ws, 0⟩] }
  s.setPort n (if s.mayPost n then LinkS.fillWindow 17 p else p)

/-- Send a numbered message whatever the session state: SESSION and SESSION_ACK (R404). -/
def State.postNow (s : State) (n msg : Nat) (ws : List Nat) : State :=
  let p := s.port n
  s.setPort n (LinkS.fillWindow 1 { p with waiting := ⟨msg, 0, ws, 0⟩ :: p.waiting })

/-- Send an unnumbered message. -/
def State.postPlain (s : State) (n msg : Nat) (ws : List Nat) : State := s.setPort n ((s.port n).plain msg ws)

/-- Resend every unacknowledged message from index `i` on, in order (R403). -/
def State.resend (s : State) (n i : Nat) : State :=
  let p := s.port n
  let l := (p.window.drop i).map fun m => { m with tries := m.tries + 1 }
  let s := s.setPort n (l.foldl LinkS.emit { p with window := p.window.take i ++ l })
  s.addSat LINK_RETX l.length n

/-! ### Status and events of a head (R411, R412) -/

/-- The STATUS payload (Table LINK-8). -/
def State.statusWord (s : State) : Nat :=
  s.mode + s.get YARD_MODE_TARGET * 4 + s.get YARD_MODE_BUSY * 16 + s.band * 2 ^ 8

/-- A change of mode, target, BUSY or band is sent (R411); during a recovery it waits. DEDUCED, log 55, safe. -/
def State.noteStatus (s : State) : State :=
  if s.headEnd && s.get LINK_SES_STATE 0 != 0 && (s.port 0).status != s.statusWord then
    let s := s.setPort 0 { s.port 0 with status := s.statusWord }
    s.post 0 0x20 [s.statusWord]
  else s

/-- The log slot that holds the entry numbered `q` (R412): `none` where it has been overwritten, or was lost with the log. -/
def State.evSlot (s : State) (q : Nat) : Option Nat :=
  match s.log.fwd.find? fun e => e.1 == q with
  | some (_, k) => if (s.get EVT_TOTAL + 2 ^ 32 - k) % 2 ^ 32 ≤ 256 then some (k % 256) else none
  | none => none

/-- Forward log entries (R412): in log order, with their numbers, times and flags.
DEDUCED, log 40, unsafe. DEDUCED, log 55, safe. -/
def State.forward : Nat → State → State
  | 0, s => s
  | k + 1, s =>
    if s.headEnd && s.mayPost 0 && s.get LINKC_EVT_FWD == 1 && s.linkc.fwd != s.get LINKC_EVSEQ &&
        decide ((s.port 0).waiting.length < 32) then
      let q := (s.linkc.fwd + 1) % 65536
      let s := { s with linkc := { s.linkc with fwd := q } }
      match s.evSlot q with
      | none => State.forward k s
      | some i =>
        let held := decide ((s.linkc.heldTo + 65536 - q) % 65536 < 32768)
        let coll := s.get EVT_CODE 0 i == 0x702B && bitAt (s.get EVT_DATA 0 i) 8
        let flags := bit coll + bit s.linkc.porNow * 2 + bit held * 4
        State.forward k (s.post 0 0x21
          [q + flags * 2 ^ 16, s.get EVT_TS 0 i, s.get EVT_CODE 0 i * 2 ^ 16 + s.get EVT_DATA 0 i])
    else s

/-! ### Keys (R420) -/

/-- Load K at a session start (R420). -/
def State.loadKey (s : State) (n : Nat) : State :=
  let pg := s.get LINKC_KEY_PAGE
  if s.on LINKC_KEY_EN ∧ bitAt s.gran.pageLocked pg then
    let k := (s.gran.bytes (0x550000 + 0x1000 * pg) 16).map BitVec.toNat
    ((s.setPort n { s.port n with key := some k }).put LINKC_KCV (kcvOf k)).put LINKC_KEY_STATE 1
  else ((s.setPort n { s.port n with key := none }).put LINKC_KCV 0).put LINKC_KEY_STATE 2

/-! ### Tunnel views of the cab (R407, R409, R413) -/

/-- Show the oldest reply, the counts of the pool and the oldest head event. -/
def State.showPort (s : State) (n : Nat) : State :=
  let p := s.port n
  let s := (s.put LINK_PENDING p.pool.length n).put LINK_REPLIES p.replies.length n
  let r := p.replies.head?.getD ⟨0, 0, false, false, false, 0, 0⟩
  let s := (((((((s.put LINK_REP_TAG r.tag n).put LINK_REP_CODE r.code n).put LINK_REP_WR (bit r.wr) n).put LINK_REP_UNKNOWN
    (bit r.unknown) n).put LINK_REP_RST (bit r.rst) n).put LINK_REP_MASTER r.master n).put LINK_REP_VALID
    (bit (!p.replies.isEmpty)) n).put LINK_TUN_RDATA r.data n
  let e := p.hevts.head?.getD ⟨0, 0, 0, 0, 0⟩
  (((((s.put LINK_HEVT_SEQ e.seq n).put LINK_HEVT_FLAGS e.flags n).put LINK_HEVT_VALID (bit (!p.hevts.isEmpty)) n).put
    LINK_HEVT_TS e.ts n).put LINK_HEVT_CODE e.code n).put LINK_HEVT_DATA e.data n |>.put LINK_HEVT_COUNT p.hevts.length n

/-- A reply enters the reply FIFO (R409). -/
def State.addReply (s : State) (n : Nat) (r : Reply) : State :=
  ((s.setPort n { s.port n with replies := (s.port n).replies ++ [r] }).showPort n).raise (linkPage n) 0x20

/-- Why a write of TUN_ADDR is refused (R407). -/
def State.tunCheck (s : State) (n : Nat) : Option Refuse :=
  let st := s.get LINK_SES_STATE n
  let p := s.port n
  if st = 0 ∨ s.headEnd then some ⟨cSTATE, 0, false⟩
  else if p.pool.length + p.replies.length ≥ 32 then some ⟨if st = 2 then cRECOVERING else cBUSY, 0, false⟩
  else none

/-- An accepted write of TUN_ADDR (R407): the next tag, and TUN_RD or TUN_WR. -/
def State.tunIssue (s : State) (m n data : Nat) : State :=
  let tag := s.get LINK_NEXT_TAG n
  let wr := bitAt data 0
  let addr := data / 4 * 4
  let w := (s.port n).wdata.getD m 0
  let a : TunAcc := ⟨tag, wr, addr, w, m, false, false⟩
  let s := (s.setPort n { s.port n with pool := (s.port n).pool ++ [a] }).incWrap LINK_NEXT_TAG n
  let s := s.post n (if wr then 0x11 else 0x10) (if wr then [tag, addr, w] else [tag, addr])
  s.showPort n

/-- The accesses whose message has entered the window count as sent (R405). -/
def LinkS.isSent (p : LinkS) (a : TunAcc) : Bool :=
  !a.unsent && !(p.waiting.any fun m => (m.msg == 0x10 || m.msg == 0x11) && m.words.head? == some a.tag)

/-- The messages in flight are dropped; an access whose message was still waiting stays unsent (R405, R424). -/
def LinkS.dropMsgs (p : LinkS) : LinkS :=
  { p with pool := p.pool.map fun a => { a with unsent := !p.isSent a }, window := [], waiting := [], sending := false }

/-- The reply with which an access ends that a closing peer has turned away (R424), or that is lost with its session (R405). -/
def LinkS.endOf (p : LinkS) (a : TunAcc) : Reply :=
  ⟨a.tag, if a.closed then cCLOSING else cRECOVERING, a.wr, !a.closed && p.isSent a, false, a.master, 0⟩

/-- Accesses that a closing peer has turned away complete once every earlier one has its reply (R409, R424). -/
def State.poolSettle : Nat → Nat → State → State
  | 0, _, s => s
  | f + 1, n, s =>
    match (s.port n).pool with
    | [] => s
    | a :: l =>
      if a.closed then ((s.setPort n { s.port n with pool := l }).addReply n ((s.port n).endOf a)).poolSettle f n else s

/-- TUN_POP and HEVT_POP (R409, R413). -/
def State.tunPop (s : State) (n : Nat) : State :=
  (s.setPort n { s.port n with replies := (s.port n).replies.drop 1 }).showPort n
def State.hevtPop (s : State) (n : Nat) : State :=
  (s.setPort n { s.port n with hevts := (s.port n).hevts.drop 1 }).showPort n

/-- RRESET at the cab (R410). -/
def State.rresetIssue (s : State) (m n : Nat) (image : Bool) : State :=
  (s.setPort n { s.port n with rrMaster := (s.port n).rrMaster ++ [m] }).post n 0x30 [bit image * 2 ^ 8]

/-! ### Sessions (R404 to R406, R419) -/

/-- At a head Q_LINK is cleared with the session (R486): its items, the one that executes and a partial one; completions stand. -/
def State.linkQueueCut (s : State) : State :=
  let c := (s.host.queues.getD 3 Queue.empty).compl
  { s with host := { s.host with queues := s.host.queues.set 3 { Queue.empty with compl := c } } }

/-- The message part of port `n` is about to shrink: what it has held counts for PEAK (Table SLU-4). -/
def State.msgPeak (s : State) (n : Nat) : State := s.sluicePeak (5 + n) (min msgRoom (s.port n).units)

/-- A session is lost (R405): 1 down for 100 ms, 2 domain off, 3 the peer was FRESH. -/
def State.sessionLost (s : State) (n cause : Nat) : State :=
  if s.get LINK_SES_STATE n = 0 then s
  else
    let s := s.msgPeak n
    let p := s.port n
    let done := if s.headEnd then 0 else p.pool.length
    let s := if s.headEnd then
        let s := (s.advanceEpoch 3).orphanAll 3 1
        let s := (s.setPort 0 { s.port 0 with window := [], waiting := [], held := [], nextSeq := 0, expSeq := 0 }).linkQueueCut
        { s with linkc := { s.linkc with fwd := s.get LINKC_EVT_ACKED, heldTo := s.get LINKC_EVSEQ, fresh := true } }
      else
        let rs := p.pool.map p.endOf
        let lost := ((p.window ++ p.waiting).filter fun m => m.msg != 0x10 && m.msg != 0x11).length
        let s := s.setPort n { p with pool := [], replies := p.replies ++ rs, window := [], waiting := [], nextSeq := 0,
                                      expSeq := 0, rrMaster := [] }
        let s := (s.addSat LINK_MSG_LOST lost n).showPort n
        if rs.isEmpty then s else s.raise (linkPage n) 0x20
    let s := (s.put LINK_SES_STATE 0 n).raise (linkPage n) 0x200
    (s.setPort n { s.port n with rx := none, nakSent := false, ackOwed := false, sending := false }).event
      (linkEv n 0x21) (cause + done * 2 ^ 8)

/-- A session is active from here on (R404). -/
def State.sessionStart (s : State) (n : Nat) : State :=
  let s := ((s.put LINK_SES_STATE 1 n).inc LINK_SESSIONS n)
  let s := s.event (linkEv n 0x20) (s.get LINK_SESSIONS n)
  s.setPort n (LinkS.fillWindow 17 { s.port n with downgraded := false, lastFc := none, firstEv := true })

/-- No frame of the port is started on any output (R418, R419). -/
def State.downgraded (s : State) (n : Nat) : Bool :=
  s.on LINK_AUTH_REQ n && (decide (s.get LINK_GEN n < 3) || s.on LINK_KEY_MISMATCH n)

/-- A downgraded session is logged once (R419). -/
def State.downgradeNote (s : State) (n : Nat) : State :=
  if s.downgraded n && !(s.port n).downgraded then
    (s.setPort n { s.port n with downgraded := true }).event (linkEv n 0x24) (s.get LINK_GEN n)
  else s

/-- Both ends number from 0x00 (R402, R404). -/
def State.renumber (s : State) (n : Nat) : State :=
  s.setPort n { s.port n with window := [], nextSeq := 0, expSeq := 0, nakSent := false, ackOwed := false }

/-- A port reaches UP after a negotiation (R404): the cab opens the session, at once with a legacy head. -/
def State.sessionOpen (s : State) (n : Nat) : State :=
  let s := s.renumber n
  if s.headEnd then s
  else if s.on LINK_LEGACY n then
    (((((s.loadKey n).put LINK_NONCE 0 n 0).put LINK_NONCE 0 n 1).put LINK_KEY_MISMATCH 0 n).sessionStart n).downgradeNote n
  else
    let (a, s) := s.fresh
    let (b, s) := s.fresh
    let s := ((s.loadKey n).put LINK_NONCE a n 0).put LINK_NONCE b n 1
    s.postNow n 0x04 [a, b, s.get LINKC_KCV]

/-! ### The state machine (R375 to R378) -/

/-- The port leaves UP (Table LINK-5): its interrupt cause, the lines that its frame has dropped (R381), the recovery of an active
session (R426), and the receive side ends its frame as truncated. -/
def State.leaveUp (s : State) (n st : Nat) : State :=
  let was := s.linkUp n
  let s := s.put LINK_STATE st n
  if was then
    let s := (s.raise (linkPage n) 2).stallReport n
    let s := if s.get LINK_SES_STATE n = 1 then s.put LINK_SES_STATE 2 n else s
    s.setPort n { s.port n with downLogged := false, sending := false }
  else s

/-- Start over at TL1 signalling (R375). -/
def State.toBase (s : State) (n : Nat) : State :=
  (s.leaveUp n 2).setPort n { (s.leaveUp n 2).port n with attempts := 0, gen := 1 }

/-- The highest generation of a set, 0 for none (R375). -/
def topGen (g : Nat) : Nat := if bitAt g 2 then 3 else if bitAt g 1 then 2 else if bitAt g 0 then 1 else 0

/-- The generations both ends have (R375). -/
def State.common (s : State) (n : Nat) : Nat := (s.get LINK_GEN_EN n) &&& (s.get LINK_PEER n)

/-- No common generation (R376). -/
def State.noCommon (s : State) (n : Nat) : State :=
  (s.leaveUp n 8).event (linkEv n 0x14) (s.get LINK_GEN_EN n + s.get LINK_PEER n * 2 ^ 4)

/-- Train on a generation (R375, R376). -/
def State.train (s : State) (n g : Nat) : State :=
  (s.put LINK_STATE 4 n).setPort n { s.port n with gen := g, attempts := 0 }

/-- The domain has reached ON (R383, R384, R391): power-up at a cab end that sources 12 V, where a latched fault keeps the path off;
otherwise base training. DEDUCED, log 39, unsafe. -/
def State.portStart (s : State) (n : Nat) : State :=
  if s.get HDR_EN (linkPage n) = 0 ∨ (s.headEnd ∧ s.get LINK_STATE n = 9) then s
  else if s.headEnd ∨ s.on LINK_POC_EN n = false then
    ((s.put LINK_STATE 2 n).put LINK_PATH 0 n).setPort n { s.port n with gen := 1, attempts := 0, noPeer := false }
  else
    ((s.put LINK_STATE 1 n).put LINK_PATH (bit (!(s.port n).pocLatched)) n).setPort n { s.port n with noPeer := false }

/-- The soft start ends (R382). -/
def State.softStartEnd (s : State) (n : Nat) : State :=
  if s.get LINK_STATE n = 1 ∧ s.get LINK_PATH n = 1 ∧ s.linkOn n then s.toBase n else s

/-- First lock (R375): the capability message goes out. -/
def State.linkLock (s : State) (n : Nat) : State :=
  if s.get LINK_STATE n = 2 ∧ s.linkOn n then
    let s := (s.put LINK_STATE 3 n).put LINK_LEGACY 0 n
    s.postPlain n 0x02 [s.get LINK_GEN_EN n + (if s.headEnd then bit s.linkc.fresh * 2 ^ 8 + bit s.linkc.por * 2 ^ 9 else 0)]
  else s

/-- No capability message within 2 ms (R375). -/
def State.capsTimeout (s : State) (n : Nat) : State :=
  if s.get LINK_STATE n = 3 ∧ s.headEnd = false then
    let s := (s.put LINK_LEGACY 1 n).put LINK_PEER 1 n
    if s.common n = 0 then s.noCommon n else s.train n 1
  else s

/-- The peer's capabilities are known (R375, R405). -/
def State.capsIn (s : State) (n w : Nat) : State :=
  if s.get LINK_STATE n = 3 then
    let s := s.put LINK_PEER (bitsOf w 0 3) n
    let s := s.setPort n { s.port n with peerPor := bitAt w 9 }
    let s := if bitAt w 8 then s.sessionLost n 3 else s
    let g := topGen (s.common n)
    if g = 0 then s.noCommon n
    else if s.headEnd then s
    else (s.postPlain n 0x03 [g]).train n g
  else s

/-- The cab's choice (R375). -/
def State.choiceIn (s : State) (n g : Nat) : State :=
  if s.get LINK_STATE n = 3 ∧ s.headEnd ∧ 1 ≤ g ∧ g ≤ 3 then s.train n g else s

/-- Training ends well (R377, R404, R426). -/
def State.trained (s : State) (n : Nat) : State :=
  let st := s.get LINK_STATE n
  if (st = 4 ∨ st = 6) ∧ s.linkOn n then
    let p := s.port n
    let s := ((s.put LINK_STATE 5 n).put LINK_GEN p.gen n).inc LINK_LINKUPS n
    let s := (s.raise (linkPage n) 1).event (linkEv n 0x10)
      (p.gen + s.get LINK_PEER n * 2 ^ 4 + s.get LINK_LEGACY n * 2 ^ 8)
    let s := s.setPort n { p with attempts := 0, downLogged := true, rateLogged := false }
    if s.get LINK_SES_STATE n = 2 then
      let s := ((s.put LINK_SES_STATE 1 n).inc LINK_RECOVERIES n)
      let s := s.setPort n { s.port n with resumed := true }
      let s := if s.headEnd then { s with linkc := { s.linkc with heldTo := s.get LINKC_EVSEQ } } else s
      let s := s.setPort n { s.port n with window := (s.port n).window.map fun m => { m with tries := 0 } }
      let s := s.resend n 0
      s.setPort n (LinkS.fillWindow 17 (s.port n))
    else s.sessionOpen n
  else s

/-- An attempt fails (R376, R378, R395). -/
def State.trainFail (s : State) (n : Nat) : State :=
  let st := s.get LINK_STATE n
  if st = 4 ∨ st = 6 then
    let p := s.port n
    let s := s.inc LINK_TRAIN_FAILS n
    if !s.linkOn n then s.put LINK_STATE 0 n
    else if p.attempts < s.get LINK_RETRAINS n then s.setPort n { p with attempts := p.attempts + 1 }
    else if st = 6 then s.toBase n
    else
      let low := topGen (s.common n % 2 ^ (p.gen - 1))
      if low = 0 then if s.get LINK_RETRY_MS n = 0 then s.toBase n else s.put LINK_STATE 7 n
      else (s.event (linkEv n 0x13) (low + p.gen * 2 ^ 4)).train n low
  else s

/-- RETRY_MS ends (R376). -/
def State.failWaitEnd (s : State) (n : Nat) : State := if s.get LINK_STATE n = 7 then s.toBase n else s

/-- No first lock within 1 s of power good (R376). -/
def State.noPeerNow (s : State) (n : Nat) : State :=
  if s.get LINK_STATE n = 2 ∧ (s.port n).noPeer = false then
    (s.setPort n { s.port n with noPeer := true }).event (linkEv n 0x15) 0
  else s

/-- Loss of lock while UP (R378, R426). -/
def State.lockLost (s : State) (n : Nat) : State :=
  if s.linkUp n then
    let s := (s.leaveUp n 6).event (linkEv n 0x11) (s.get LINK_GEN n)
    s.setPort n { s.port n with gen := s.get LINK_GEN n, attempts := 0 }
  else s

/-- Not UP for 100 ms (R378, R405). -/
def State.linkDown (s : State) (n : Nat) : State :=
  if s.linkUp n = false ∧ s.get LINK_GEN n ≠ 0 ∧ (s.port n).downLogged = false then
    let s := (s.event (linkEv n 0x12) (s.get LINK_GEN n)).put LINK_GEN 0 n
    (s.setPort n { s.port n with downLogged := true }).sessionLost n 1
  else s

/-! ### Power over coax (R382 to R386, Table LINK-4) -/

/-- A path fault (R384, R393): the path goes off and the link drops. -/
def State.pocFault (s : State) (n cause : Nat) (latch : Bool) : State :=
  let s := (((s.put LINK_POC_CAUSE cause n).inc LINK_POC_FAULTS n).put LINK_PATH 0 n).raise (linkPage n) 4
  let s := if s.linkOn n then s.leaveUp n 1 else s
  if latch then (s.setPort n { s.port n with pocLatched := true }).event (linkEv n 0x16) cause else s

/-- Overcurrent (R383, R384). DEDUCED, log 39, unsafe. -/
def State.pocOver (s : State) (n : Nat) : State :=
  if s.get LINK_PATH n = 1 then
    s.pocFault n 1 (decide ((s.port n).retries ≥ s.get LINK_RETRIES n))
  else s

/-- The retry after 1 s (R384). DESIGN CHOICE, log 15, unsafe. -/
def State.pocRetry (s : State) (n : Nat) : State :=
  if s.headEnd = false ∧ s.get LINK_POC_CAUSE n = 1 ∧ s.get LINK_PATH n = 0 ∧ (s.port n).pocLatched = false ∧ s.linkOn n ∧
      s.on LINK_POC_EN n then
    ((s.put LINK_PATH 1 n).put LINK_STATE 1 n).setPort n { s.port n with retries := (s.port n).retries + 1 }
  else s

/-- Ten seconds in UP (R384). -/
def State.pocCalm (s : State) (n : Nat) : State :=
  if s.linkUp n then s.setPort n { s.port n with retries := 0 } else s

/-- Backfeed (Table LINK-4): on a path that is on, or that waits for its retry. DEDUCED, log 39, unsafe. -/
def State.pocBack (s : State) (n : Nat) : State :=
  if s.get LINK_PATH n = 1 ∨ (s.headEnd = false ∧ s.linkOn n ∧ s.on LINK_POC_EN n ∧ s.get LINK_STATE n = 1 ∧ (s.port n).pocLatched = false)
  then s.pocFault n 2 true else s

/-- A keep-alive fault (Table LINK-4, R396): held in the Yard and logged at the next boot. DEDUCED, log 39, unsafe. -/
def State.pocKa (s : State) (n : Nat) : State :=
  if s.get LINK_PATH n = 2 then (s.put LINK_PATH 0 n).setPort n { s.port n with kaFault := true, kaTold := false } else s

/-- Status conditions (Table LINK-4): NO_LOAD below 5 mA while not UP, VIN_LOW below 10.0 V. The sense input of a port that the role
has not is ignored (R27).
DEDUCED, log 39, unsafe. -/
def State.pocLoad (s : State) (n mA : Nat) : State :=
  if s.safe ∨ !s.present (linkPage n) then s
  else
  let s := s.put LINK_POC_I mA n
  if mA < 5 ∧ s.get LINK_PATH n = 1 ∧ s.get LINK_STATE n ≠ 1 ∧ s.linkUp n = false then
    if s.on LINK_NO_LOAD n then s else (s.put LINK_NO_LOAD 1 n).event (linkEv n 0x17) mA
  else s.put LINK_NO_LOAD 0 n
def State.pocVin (s : State) (n dV : Nat) : State :=
  if s.safe ∨ s.headEnd ∨ !s.present (linkPage n) then s
  else if dV < 100 then
    if s.on LINK_VIN_LOW n then s else (s.put LINK_VIN_LOW 1 n).event (linkEv n 0x18) dV
  else s.put LINK_VIN_LOW 0 n

/-- POC_CLR (R384): refused while the condition persists; a path that is on stays on. DEDUCED, log 39, unsafe. -/
def pocClrCheck (persists : Bool) : Option Refuse := if persists then some ⟨cSTATE, 0, false⟩ else none
def State.pocClr (s : State) (n : Nat) : State :=
  let p := s.port n
  if p.pocLatched ∨ p.kaFault ∨ s.get LINK_POC_CAUSE n ≠ 0 then
    let path := s.get LINK_PATH n
    let s := (s.put LINK_POC_CAUSE 0 n).setPort n { p with pocLatched := false, kaFault := false, kaTold := false, retries := 0 }
    if path = 1 ∨ !s.linkOn n ∨ !s.on LINK_POC_EN n ∨ s.headEnd then s else (s.leaveUp n 1).portStart n
  else s

/-- PD_LINKn reaches OFF (R385, R392, R405): the path turns off, or to keep-alive in DORMANT. A head's coax node that is low stays
so (R387). DEDUCED, log 39, unsafe. -/
def State.portOff (s : State) (n : Nat) (dormant : Bool) : State :=
  let s := (s.sessionLost n 2).msgPeak n
  let p := s.port n
  let ka := dormant && p.kaEn && !p.kaFault && s.get LINK_PATH n == 1
  let low := n == 0 && s.headYard && s.get LINK_STATE n == 9
  let s := (((s.put LINK_STATE (if low then 9 else 0) n).put LINK_GEN 0 n).put LINK_PATH (if ka then 2 else 0) n)
  let s := s.setPort n { LinkS.idle with pocLatched := p.pocLatched, kaFault := p.kaFault, kaTold := p.kaTold, kaEn := p.kaEn,
                                         wakeEn := p.wakeEn, retries := p.retries, wdata := p.wdata,
                                         action := p.action }
  s.showPort n

/-- The latches of a DORMANT entry (R385); a port whose head was not DORMANT is reported. -/
def State.portLatch (s : State) (n : Nat) : State :=
  let en := s.get HDR_EN (linkPage n) == 1 && !s.headEnd
  let s := s.setPort n { s.port n with kaEn := en && s.on LINK_KA_EN n, wakeEn := en && s.on LINK_WAKE_EN n }
  if en && bitsOf (s.get LINK_HEAD_STAT n) 0 2 != 0 then s.event (linkEv n 0x1C) 0 else s

/-- A commit on a port's page (R391): a POC_EN that is set turns the path on without retraining. DEDUCED, log 39, unsafe. -/
def State.linkCommit (s : State) (n : Nat) : State :=
  let pg := linkPage n
  if s.going pg then
    let med := s.get LINK_MEDIUM n
    let poc := s.get LINK_POC_EN n
    let was := s.get LINK_STATE n
    let s := s.commitPage pg
    if !s.linkOn n || was == 0 || was == 9 then s
    else if was = 1 ∧ !(poc = 1 ∧ s.get LINK_POC_EN n = 0) then s
    else if poc = 1 ∧ s.get LINK_POC_EN n = 0 ∧ s.headEnd = false then (s.put LINK_PATH 0 n).toBase n
    else
    let s := if poc = 0 ∧ s.get LINK_POC_EN n = 1 ∧ s.headEnd = false then s.put LINK_PATH (bit (!(s.port n).pocLatched)) n else s
    if s.get LINK_MEDIUM n ≠ med then s.toBase n
    else if was = 8 then s.toBase n
    else if (was = 5 ∨ was = 6 ∨ was = 4) ∧ bitAt (s.get LINK_GEN_EN n) ((s.port n).gen - 1) = false then s.toBase n
    else s
  else s

/-- The limits of R390. -/
def linkFieldsOk (g : Row → Nat) : Bool :=
  inRange 50 600 (g LINK_ILIM) && decide (1 ≤ g LINK_OC_BLANK) && inRange 50 1000 (g LINK_RPOC)

/-! ### Receiving control messages (R403, R424) -/

/-- Retire the messages that an ACK covers; forwarded events count as acknowledged (R403, R412). -/
def State.retire (s : State) (n ack : Nat) : State :=
  let p := s.port n
  match p.window.findIdx? fun m => m.seq == ack with
  | none => s
  | some i =>
    let gone := p.window.take (i + 1)
    let s := s.msgPeak n
    let s := s.setPort n { p with window := p.window.drop (i + 1) }
    let s := match (gone.filter fun m => m.msg == 0x21).getLast? with
      | some m => s.put LINKC_EVT_ACKED (m.words.headD 0 % 65536)
      | none => s
    if s.mayPost n then s.setPort n (LinkS.fillWindow 17 (s.port n)) else s

/-- Take a received control message of `len` payload words (R398, R401 to R403, R424): answers whether it is delivered. One whose CRC
or LEN is wrong is discarded and counted; a CRC failure of a numbered one is answered by one NAK for its gap. In CLOSING what a message
acknowledges counts, and a numbered one is turned away. DEDUCED, log 40, unsafe. -/
def State.take (s : State) (n : Nat) (c : Ctrl) (len : Nat) (numbered : Bool) : State × Bool :=
  if s.pd (2 + n) ≤ 1 then (s, false)
  else if !c.crcOk ∨ c.words.length ≠ len then
    let s := s.inc LINK_RX_ERR n
    if c.crcOk ∨ !numbered ∨ (s.port n).nakSent ∨ s.pd (2 + n) = 3 then (s, false)
    else ((s.setPort n { s.port n with nakSent := true }).postPlain n 0x01 [(s.port n).expSeq + 2 ^ 8], false)
  else if s.pd (2 + n) = 3 then
    let s := s.retire n c.ack.val
    (if numbered then s.postPlain n 0x01 [(s.port n).expSeq + 2 * 2 ^ 8] else s, !numbered && s.linkUp n)
  else
    let s := s.retire n c.ack.val
    if !numbered then (s, true)
    else
      let p := s.port n
      if c.seq.val = p.expSeq then
        (s.setPort n { p with expSeq := (p.expSeq + 1) % 256, nakSent := false, ackOwed := true }, true)
      else if (p.expSeq + 256 - c.seq.val) % 256 ≤ 16 then (s.setPort n { p with ackOwed := true }, false)
      else if p.nakSent then (s, false)
      else ((s.setPort n { p with nakSent := true }).postPlain n 0x01 [p.expSeq], false)

/-- A word of a message's payload. -/
def ctrlWord (c : Ctrl) (i : Nat) : Nat := ((c.words[i]?).getD 0).toNat

/-- Resend from index `i` of the window on; a message that has been resent 16 times already since the port was last UP forces a retrain
(R403, R427). DESIGN CHOICE, log 15, unsafe. -/
def State.again (s : State) (n i : Nat) : State :=
  match ((s.port n).window.drop i).find? fun m => decide (16 ≤ m.tries) with
  | some m => (s.event (linkEv n 0x29) m.msg).lockLost n
  | none => s.resend n i

/-- A NAK (R403, R424): reason 2 ends the tunnel accesses it answers, in issue order (R409), and the next message takes the SEQ that the
peer expects; an EVENT waits for the next session. -/
def State.nakIn (s : State) (n w : Nat) : State :=
  let q := w % 256
  let p := s.port n
  match p.window.findIdx? fun m => m.seq == q with
  | none => s
  | some i =>
    if w / 256 % 256 = 2 then
      let cut := p.window.drop i
      let tags := cut.filterMap fun m => if m.msg = 0x10 ∨ m.msg = 0x11 then m.words.head? else none
      let s := (s.msgPeak n).setPort n { p with
        pool := p.pool.map fun a => { a with closed := a.closed || tags.contains a.tag }
        window := p.window.take i, nextSeq := q }
      (s.poolSettle 32 n).showPort n
    else s.again n i

/-- No acknowledgement in time (R403). -/
def State.retx (s : State) (n : Nat) : State := if s.linkUp n then s.again n 0 else s

/-- The acknowledgement delay ends (R403). -/
def State.ackNow (s : State) (n : Nat) : State :=
  if (s.port n).ackOwed then (s.setPort n { s.port n with ackOwed := false }).postPlain n 0x00 [] else s

/-- SESSION at a head (R404, R406, R420, R423). DEDUCED, log 40, unsafe. -/
def State.sessionIn (s : State) (c : Ctrl) : State :=
  let s := ((s.put LINK_NONCE (ctrlWord c 0) 0 0).put LINK_NONCE (ctrlWord c 1) 0 1).loadKey 0
  let w := s.get LINKC_WAKE_REASON
  let coll := s.on LINKC_COLLIDED
  let s := { s with linkc := { s.linkc with porNow := s.linkc.por, fresh := false, por := false,
                                            heldTo := s.get LINKC_EVSEQ, fwd := s.get LINKC_EVT_ACKED } }
  let s := s.postNow 0 0x05 [s.get LINKC_KCV + w * 2 ^ 24 + bit coll * 2 ^ 29]
  let s := s.setPort 0 { s.port 0 with status := s.statusWord }
  let s := s.postNow 0 0x20 [s.statusWord]
  (s.sessionStart 0).forward 32

/-- A head whose cab has begun another session, with another nonce, numbers from 0x00 again before it takes SESSION (R402, R404); what it
had not yet sent of the old session is discarded, and its entries are sent again. DEDUCED, log 40, unsafe. -/
def State.sessionAnew (s : State) (c : Ctrl) : State :=
  let old := s.get LINK_NONCE 0 0 == ctrlWord c 0 && s.get LINK_NONCE 0 1 == ctrlWord c 1
  if s.headEnd && s.linkUp 0 && s.linkOn 0 && c.crcOk && c.seq.val == 0 && (s.port 0).expSeq != 0 && !old then
    (s.renumber 0).setPort 0 { (s.renumber 0).port 0 with waiting := [], held := [] }
  else s

/-- SESSION_ACK at a cab (R404, R419, R420). DEDUCED, log 40, unsafe. -/
def State.sessionAckIn (s : State) (n : Nat) (c : Ctrl) : State :=
  let k := bitsOf (ctrlWord c 0) 0 24
  let s := s.sessionStart n
  (if k ≠ s.get LINKC_KCV then (s.put LINK_KEY_MISMATCH 1 n).event (linkEv n 0x25) (k % 65536)
   else s.put LINK_KEY_MISMATCH 0 n).downgradeNote n

/-- TUN_REPLY at a cab (R409, R410). -/
def State.replyIn (s : State) (n : Nat) (c : Ctrl) : State :=
  let w := ctrlWord c 0
  let tag := bitsOf w 0 8
  let code := bitsOf w 8 8
  let p := s.port n
  if bitAt w 18 then
    (s.setPort n { p with rrMaster := p.rrMaster.drop 1 }).addReply n
      ⟨0, code, bitAt w 16, false, true, p.rrMaster.headD 0, ctrlWord c 1⟩
  else
    match p.pool.find? fun a => a.tag == tag with
    | none => s
    | some a =>
      ((s.setPort n { p with pool := p.pool.erase a }).addReply n
        ⟨tag, code, bitAt w 16, false, false, a.master, ctrlWord c 1⟩).poolSettle 32 n

/-- EVENT at a cab (R412, R413). DEDUCED, log 40, unsafe. -/
def State.eventIn (s : State) (n : Nat) (c : Ctrl) : State :=
  let w := ctrlWord c 0
  let q := bitsOf w 0 16
  let p := s.port n
  let follows := match p.lastEv with
    | none => true
    | some l => let d := (q + 65536 - l) % 65536; decide (1 ≤ d) && decide (d < 32768)
  if follows || (p.firstEv && p.peerPor) then
    let gap := match p.lastEv with
      | some l => if p.firstEv && p.peerPor then 0 else (q + 65536 - l) % 65536 - 1
      | none => 0
    let s := if gap > 0 then s.event (linkEv n 0x26) gap else s
    let p := { p with lastEv := some q, firstEv := false }
    if p.hevts.length ≥ 64 then
      let was := s.on LINK_HEVT_OVF n
      let s := ((s.setPort n p).inc LINK_HEVT_LOST n).put LINK_HEVT_OVF 1 n
      if was then s else s.event (linkEv n 0x27) 0
    else
      let e : HEvt := ⟨q, bitsOf w 16 8, ctrlWord c 1, ctrlWord c 2 / 65536, ctrlWord c 2 % 65536⟩
      ((s.setPort n { p with hevts := p.hevts ++ [e] }).showPort n).raise (linkPage n) 0x40
  else s

/-- A head answers a tunnelled access (R408). -/
def State.tunAnswer (s : State) (a : TunAcc) (code data : Nat) : State :=
  s.post 0 0x12 [a.tag + code * 2 ^ 8 + bit a.wr * 2 ^ 16, if a.wr then 0 else data]

/-- The head's wake signature (R387). -/
def State.signature (s : State) : State :=
  if s.headYard ∧ s.get LINK_STATE 0 = 9 then s.setPort 0 { s.port 0 with signature := true } else s

/-- The coax node falls (R387). -/
def State.coaxFall (s : State) : State := if s.headYard then s.leaveUp 0 9 else s

/-- The coax node rises (R387, R423): it ends a signature and KEEP_ALIVE. -/
def State.coaxUp (s : State) : State :=
  let s := s.setPort 0 { s.port 0 with signature := false }
  if s.get LINK_STATE 0 = 9 then if s.linkOn 0 then s.toBase 0 else s.put LINK_STATE 0 0 else s

end Sys2Proof.Machine
end

