-- ==== Sys2Proof/Machine/Video.lean ====
section
/-! DEFINITION. Display processing, the CSI-2 transmitter and the parallel video port (R429 to R460). -/

namespace Sys2Proof.Machine

/-! ### Which outputs are to carry video (R90, R93, R95, Table MODE-3) -/

/-- OUT_NA: members without a source in the role. -/
def State.outNa (s : State) : Nat := if s.role = HEAD then 0 else s.get YARD_OUTSET % 2

/-- The outputs that carry video in mode `m`. -/
def State.outOf (s : State) (m : Nat) : Nat :=
  if m = LIVE ∨ m = SERVICE then s.get YARD_OUTSET - s.outNa else 0

/-- The outputs that a frame which starts now goes out on (R10, R90). -/
def State.outTarget (s : State) : Nat := s.outOf s.runMode

/-! ### Streams and their commits (R24, R54, R429, R455) -/

/-- Stream `n`'s context. -/
def State.stream (s : State) (n : Nat) : VidS := s.vid.getD n VidS.idle

/-- Replace stream `n`'s context. -/
def State.setStream (s : State) (n : Nat) (w : VidS) : State := { s with vid := s.vid.set n w }

/-- The pages of several streams: DISP and CSI. -/
def pDISP : Nat := 0x053
def pCSI : Nat := 0x078
def pPVP : Nat := 0x079

/-- A field that several streams share, as stream `st` has it: staged once `st` has taken the pending commit (R54). -/
def State.outGet (s : State) (r : Row) (st i : Nat) : Nat :=
  if s.going r.page && !s.owed.contains (r.page, st) then s.getStaged r 0 i else s.get r 0 i

/-- A staged key of DISP belongs to stream `st`'s block; palettes belong to all (Table DISP-2). -/
def dispBlock (st k : Nat) : Bool := let o := keyWord k % 0x1000; decide (0x100 + 0x80 * st ≤ o) && decide (o < 0x180 + 0x80 * st)

/-- The streams that the staged values of a page affect. -/
def State.affected (s : State) (p : Nat) : List Nat :=
  if p = pDISP ∧ !(s.staged.any fun e => keyPage e.1 == p && decide (0x800 ≤ keyWord e.1 % 0x1000)) then
    (List.range 4).filter fun st => s.staged.any fun e => keyPage e.1 == p && dispBlock st e.1
  else List.range 4

/-- The PHY fields that a pending commit on CSI changes (R452). DEDUCED, log 43, unsafe. -/
def State.phyChange (s : State) : Bool :=
  [CSI_LANES, CSI_RATE, CSI_CLK_CONT, CSI_V11_TIMING].any fun r => s.getStaged r != s.get r

/-- A stream takes a pending commit at its frame boundary (R54, R452, R455), after SOFT and LINK from DONE on (R167); COUNT advances with
the last one. -/
def State.streamTake (s : State) (p st : Nat) : State :=
  if s.going p && !s.commitHeld then
    let s := if p = pDISP then s.takeWhere p (dispBlock st) else s
    let s := if p = pCSI ∧ s.pd 6 = 2 ∧ s.phyChange then { s with vout := { s.vout with reinit := true } } else s
    let s := { s with owed := s.owed.filter fun e => e != (p, st) }
    if s.owed.any fun e => e.1 == p then s else s.commitPage p
  else s

/-- A frame of stream `st` is in progress for page `p` (R10). -/
def State.inFrameOf (s : State) (p st : Nat) : Bool := if p = pCSI then (s.stream st).csi else (s.stream st).live

/-- An accepted GO on DISP or CSI: streams with no frame in progress take the values at once (R10). -/
def State.streamsGo (s : State) (p : Nat) : State :=
  let l := s.affected p
  let s := { s with owed := s.owed.filter (fun e => e.1 != p) ++ l.map fun st => (p, st) }
  l.foldl (fun s st => if s.inFrameOf p st then s else s.streamTake p st) s

/-! ### Lane capacity (R451) -/

/-- The sum of R451 in bit/s, with fields read through `g`. -/
def bwSum (g : Row → Nat → Nat) : Nat :=
  (List.range 4).foldl (fun a st =>
    if bitAt (g CSI_VC_EN 0) st then
      let i := 4 * st + g DISP_FOV_SEL st
      let z := 1 + g DISP_ZOOM i
      let (w, h) := if g DISP_FULL i = 1 then (640, 512) else (z * g DISP_WW i, z * g DISP_WH i)
      a + (2 * w + 12) * (h + 4) * 480
    else a) 0

/-- BW_REQ (R451). -/
def State.bwReq (s : State) : Nat := ceilDiv (bwSum fun r i => s.get r 0 i) 1000000

/-- A GO on CSI or DISP exceeds the lanes (R451). -/
def State.overCapacity (s : State) (p : Nat) : Bool :=
  let g := fun (r : Row) i => s.comb p r 0 i
  decide (10 * bwSum g > 9 * (g CSI_LANES 0 + 1) * g CSI_RATE 0 * 1000000)

/-- The limits of R450 on a stream's fields, read through `g` with the window `f`, whose place is judged where FULL = 0 makes it a window:
the worked case of chapter 15 writes X0 and Y0 first, with FULL = 1. DEDUCED, log 21, unsafe. -/
def dispFieldsOk (g : Row → Nat → Nat) (st f : Nat) : Bool :=
  let i := 4 * st + f
  let w := g DISP_WW i
  let h := g DISP_WH i
  w % 4 == 0 && inRange 64 640 w && inRange 32 512 h &&
  (g DISP_FULL i == 1 || decide (g DISP_X0 i + w ≤ 640 ∧ g DISP_Y0 i + h ≤ 512)) && (g DISP_ZOOM i == 0 || decide (2 * w ≤ 640) && decide (2 * h ≤ 512))

/-! ### Tone map, local contrast, palette, YUV (R430 to R434) -/

/-- The pixel as a signed value (R430). -/
def pixX (fmt p : Nat) : Int := if fmt = 1 then (((p % 2 ^ 14 : Nat) : Int) - 8192) * 4 else signed 16 p

/-- The bin of a pixel (R432). -/
def binOf (x : Int) : Nat := ((x + 32768) / 64).toNat

/-- The identity ramp (R432). -/
def ramp (x : Int) : Nat := (clampInt 0 255 (x / 16 + 128)).toNat

/-- The ramp's value for a bin, at its lower edge. -/
def rampBin (b : Nat) : Nat := ramp (64 * (b : Int) - 32768)

/-- Cumulative sums. -/
def cumulate : Nat → List Nat → List Nat
  | _, [] => []
  | a, n :: l => (a + n) :: cumulate (a + n) l

/-- The map of a histogram (R432): y(b) of each bin, lo and hi. -/
def toneMap (h : List Nat) (loClip hiClip plateau mix : Nat) : List Nat × Nat × Nat :=
  let n := h.foldl (· + ·) 0
  let cum := cumulate 0 h
  let lo := (cum.findIdx? fun k => decide (k * 1024 > n * loClip)).getD 0
  let hi := (cum.findIdx? fun k => decide (k * 1024 ≥ n * (1024 - hiClip))).getD 1023
  let cap := max 1 (n * plateau / 4096)
  let cl := (List.range 1024).map fun b =>
    if lo ≤ b ∧ b ≤ hi then (if plateau = 0 then h.getD b 0 else min cap (h.getD b 0)) else 0
  let ac := cumulate 0 cl
  let tot := ac.getD 1023 0
  let ys := (List.range 1024).map fun b =>
    if b < lo then 0
    else if b > hi then 255
    else
      let (l, d) := if hi = lo then (1, 2) else (b - lo, hi - lo)
      (roundDiv (255 * (mix * ac.getD b 0 * d + (16 - mix) * l * tot : Nat)) (16 * tot * d : Nat)).toNat
  (ys, lo, hi)

/-- The map in force is rebuilt from the histogram, at the stream's frame boundary (R432). DEDUCED, log 43, unsafe. -/
def State.rebuildMap (s : State) (st : Nat) : State :=
  let w := s.stream st
  if w.hist.isEmpty then s
  else
    let h := (List.range 1024).map fun b => w.hist.find b 0
    let (ys, lo, hi) := toneMap h (s.get DISP_LO_CLIP 0 st) (s.get DISP_HI_CLIP 0 st) (s.get DISP_PLATEAU 0 st)
      (s.get DISP_EQ_MIX 0 st)
    let old := match w.map with | some (m, _, _) => m | none => (List.range 1024).map rampBin
    let k := 2 ^ s.get DISP_TM_SMOOTH 0 st
    let m := (List.range 1024).map fun b =>
      let o := (old.getD b 0 : Int)
      (o + roundDiv ((ys.getD b 0 : Int) - o) k).toNat
    s.setStream st { w with map := some (m, lo, hi), hist := [] }

/-- Stage 2 of a pixel (R432). -/
def VidS.tone (w : VidS) (x : Int) : Nat :=
  match w.map with
  | some (m, _, _) => m.getD (binOf x) 0
  | none => ramp x

/-- Stage 3 (R433): pixel `k` of line `i` of a list of lines of indices. -/
def localContrast (gain : Nat) (ls : List (List Nat)) (i k : Nat) : Nat :=
  let at' := fun (a b : Int) =>
    let l := ls.getD (min (ls.length - 1) a.toNat) []
    l.getD (min (l.length - 1) b.toNat) 0
  let yy := at' i k
  if gain = 0 then yy
  else
    let sum := (List.range 25).foldl (fun t j => t + at' ((i : Int) + (j / 5 : Nat) - 2) ((k : Int) + (j % 5 : Nat) - 2)) 0
    (clampInt 0 255 ((yy : Int) + roundDiv ((gain : Int) * (25 * yy - sum)) (16 * 25))).toNat

/-- Stage 4 (R434, R458): the palette entry; black where it fails parity. -/
def State.palette (s : State) (st y : Nat) : Nat :=
  if s.get HDR_EN pDISP = 0 then y * 0x010101
  else
    let one := s.get DISP_PAL_SEL 0 st == 1
    if s.parity.contains (pDISP, (if one then 0xC00 else 0x800) + 4 * y) then 0
    else if one then s.outGet DISP_PAL1 st y else s.outGet DISP_PAL0 st y

/-- The parts of an RGB value. -/
def rOf (p : Nat) : Int := (bitsOf p 16 8 : Nat)
def gOf (p : Nat) : Int := (bitsOf p 8 8 : Nat)
def bOf (p : Nat) : Int := (bitsOf p 0 8 : Nat)

/-- BT.601 limited range (R434). -/
def lumaOf (p : Nat) : Int := 16 + (66 * rOf p + 129 * gOf p + 25 * bOf p + 128) / 256
def cbOf (p : Nat) : Int := 128 + (-38 * rOf p - 74 * gOf p + 112 * bOf p + 128) / 256
def crOf (p : Nat) : Int := 128 + (112 * rOf p - 94 * gOf p - 18 * bOf p + 128) / 256

/-- Stage 6 (R434, R438): pairs as Cb, Y, Cr, Y. -/
def yuvPack : List Nat → List Nat
  | a :: b :: l =>
    (roundDiv (cbOf a + cbOf b) 2).toNat :: (lumaOf a).toNat :: (roundDiv (crOf a + crOf b) 2).toNat ::
      (lumaOf b).toNat :: yuvPack l
  | _ => []

/-- Each item twice (R431, stage 5). -/
def twice (l : List Nat) : List Nat := l.flatMap fun a => [a, a]

/-! ### A frame of a stream (R431, R435, R438 to R442, R454) -/

/-- DISP processes its streams (R431). -/
def State.dispOn (s : State) : Bool := s.get HDR_EN pDISP == 1

/-- The stream leaves DISP as YUV422 (R431). -/
def State.yuvOut (s : State) (st : Nat) : Bool := s.dispOn && s.get DISP_OUT_TYPE 0 st == 1

/-- Reversals (R435). -/
def State.rotOf (s : State) (st : Nat) : Bool := s.dispOn && s.on DISP_ROT180 0 st
def State.mirOf (s : State) (st : Nat) : Bool := s.dispOn && (s.on DISP_MIRROR 0 st != s.on DISP_ROT180 0 st)

/-- Output size of the frame (R431, R454). -/
def VidS.wout (w : VidS) : Nat := if w.zoom then 2 * w.ww else w.ww
def VidS.hout (w : VidS) : Nat := if w.zoom then 2 * w.wh else w.wh

/-- The data type and the byte length of a pixel line (R438). -/
def State.dtOf (s : State) (st : Nat) : Nat :=
  if s.yuvOut st then 0x1E else if (s.stream st).fmt = 1 then 0x2D else 0x2E
def State.lineBytes (s : State) (st : Nat) : Nat :=
  let w := (s.stream st).wout
  if s.dtOf st = 0x2D then ceilDiv (14 * w) 8 else 2 * w

/-- Put a packet on CSI-2 where the stream's frame goes out. DESIGN CHOICE, log 14, safe. -/
def State.csiPut (s : State) (st dt : Nat) (items : List Nat) : State :=
  if (s.stream st).csi then { s with vout := { s.vout with sent := s.vout.sent ++ [⟨st, dt, items⟩] } } else s

/-- A pixel line, with line start and line end (R438). -/
def State.csiLine (s : State) (st dt no : Nat) (items : List Nat) : State :=
  if s.outGet CSI_LSLE_EN st 0 = 1 then ((s.csiPut st 0x02 [no + 1]).csiPut st dt items).csiPut st 0x03 [no + 1]
  else s.csiPut st dt items

/-- A DT 0x12 packet, zero-padded to the pixel line (R438). -/
def State.csiEmb (s : State) (st : Nat) (bs : List Byte) : State :=
  let l := bs.map BitVec.toNat
  s.csiPut st 0x12 (l ++ List.replicate (s.lineBytes st - l.length) 0)

/-- Line `i` of the window as it leaves DISP, before vertical reversal (Table DISP-1, R441). -/
def State.outLine (s : State) (st i : Nat) : List Nat :=
  let w := s.stream st
  let yuv := s.yuvOut st
  let k := w.lines.take (i + 1) |>.reverse |>.findIdx fun l => !l.fill
  if k > i then List.replicate (if yuv then 2 * w.wout else w.wout) 0
  else
    let i := i - k
    let px := if yuv then
        (List.range w.ww).map fun c => s.palette st (localContrast (s.get DISP_LC_GAIN 0 st) (w.lines.map VLine.idx) i c)
      else (w.lines.getD i ⟨[], [], false⟩).raw
    let px := if w.zoom then twice px else px
    let px := if s.mirOf st then px.reverse else px
    if yuv then yuvPack px else px

/-- The stage-3 RGB picture of a whole frame for PVP (R445), with the stream's palette and orientation. -/
def State.pictOf (s : State) (st : Nat) : Pict :=
  let w := s.stream st
  let gain := if s.dispOn then s.get DISP_LC_GAIN 0 st else 0
  let ls := (List.range w.lines.length).map fun i =>
    let k := w.lines.take (i + 1) |>.reverse |>.findIdx fun l => !l.fill
    let px := if k > i then List.replicate w.ww 0
      else (List.range w.ww).map fun c => s.palette st (localContrast gain (w.lines.map VLine.idx) (i - k) c)
    if s.mirOf st then px.reverse else px
  ⟨st, w.ww, w.wh, if s.rotOf st then ls.reverse else ls⟩

/-- Send window line `i` (both copies where zoomed). -/
def State.sendLine (s : State) (st i : Nat) : State :=
  let w := s.stream st
  let l := s.outLine st i
  let dt := s.dtOf st
  if w.zoom then (s.csiLine st dt (2 * i) l).csiLine st dt (2 * i + 1) l else s.csiLine st dt i l

/-- Send the lines that can go: local contrast waits for two more lines (R433, R435). -/
def State.flushLines (s : State) (st : Nat) (all : Bool) : State :=
  let w := s.stream st
  if s.rotOf st then s
  else
    let upto := if !all && s.yuvOut st && s.get DISP_LC_GAIN 0 st != 0 then w.lines.length - 2 else w.lines.length
    let s := (List.range (upto - w.sent)).foldl (fun s k => s.sendLine st (w.sent + k)) s
    s.setStream st { s.stream st with sent := max w.sent upto }

/-- The frame's format and window are known (R430, R454, R455); ZOOM acts on the whole frame too. DEDUCED, log 43, unsafe. -/
def State.shape (s : State) (st width height fmt : Nat) (rep : Bool) : State :=
  let w := s.stream st
  let i := 4 * st + s.get DISP_FOV_SEL 0 st
  let full := !s.dispOn || s.on DISP_FULL 0 i
  let out := !full && (decide (s.get DISP_X0 0 i + s.get DISP_WW 0 i > width) ||
    decide (s.get DISP_Y0 0 i + s.get DISP_WH 0 i > height))
  let w := if w.lastW = width ∧ w.lastH = height then w
    else { w with map := none, hist := [], alt := false, lastW := width, lastH := height }
  let w := { w with shaped := true, width := width, height := height, fmt := fmt, rep := rep, alt := !w.alt }
  let was := w.back
  let w := if full || out then
      { w with x0 := 0, y0 := 0, ww := width, wh := height, back := out,
               zoom := !out && s.dispOn && s.on DISP_ZOOM 0 i }
    else
      { w with x0 := s.get DISP_X0 0 i, y0 := s.get DISP_Y0 0 i, ww := s.get DISP_WW 0 i,
               wh := s.get DISP_WH 0 i, zoom := s.on DISP_ZOOM 0 i, back := false }
  let s := s.setStream st w
  if out && !was then s.event 0x5310 st else s

/-- Shown sources of PVP (R447): the stream of each quadrant, or of the whole picture. -/
def State.pvpSources (s : State) : List (Option Nat) :=
  if s.get PVP_SRC = 4 then
    (List.range 4).map fun q => let m := bitsOf (s.get PVP_MOSAIC_MAP) (4 * q) 4; if m < 4 then some m else none
  else [some (s.get PVP_SRC)]

/-- A frame of the stream starts (R432, R438, R446, R452, R457): `shown` is false where R418 or R419 withholds it. -/
def State.streamStart (s : State) (st ctr : Nat) (shown : Bool) : State :=
  let s := ((s.streamTake pDISP st).streamTake pCSI st).rebuildMap st
  let vc := bitAt (s.outGet CSI_VC_EN st 0) st && s.get HDR_EN pCSI == 1 && bitAt s.outTarget 1 && s.pd 6 == 2
  let csi := vc && shown && !s.vout.reinit
  let s := if vc && shown && s.vout.reinit then s.inc CSI_SKIPPED 0 st else s
  let pvp := shown && s.vout.pvpOn && bitAt s.outTarget 2 && s.pd 7 == 2
  let w := s.stream st
  let s := s.setStream st { w with live := true, csi := csi, pvp := pvp, ctr := ctr, rep := false, shaped := false,
                                   lines := [], row := 0, sent := 0, filled := 0 }
  let s := if csi then s.inc CSI_FRAMES 0 st else s
  s.csiPut st 0x00 [ctr % 65535 + 1]

/-- Line 1 as the stream's outputs carry it (R252, R87): TRUNCATED_PREV after a cut frame, SERVICE in SERVICE.
DEDUCED, log 30, unsafe. -/
def State.outLine1 (s : State) (st : Nat) (l : List Byte) : List Byte :=
  let f := ofLe ((l.drop 6).take 2)
  let f1 := if (s.stream st).cut && !bitAt f 4 then f + 0x10 else f
  let f2 := if s.mode == SERVICE && !bitAt f1 6 then f1 + 0x40 else f1
  if f2 = f then l else reflag l f2

/-- Embedded line 1 of the frame: format, window, and its packet. -/
def State.streamEmb1 (s : State) (st : Nat) (l : List Byte) : State :=
  let half := fun i => ofLe ((l.drop i).take 2)
  let s := s.shape st (half 28) (half 30) ((l.getD 32 0).toNat) (bitAt (half 6) 0)
  let s := if s.get DISP_EMB_EN 0 st = 1 then s.csiEmb st (s.outLine1 st l) else s
  s.setStream st { s.stream st with cut := false }

/-- Embedded line 2. -/
def State.streamEmb2 (s : State) (st : Nat) (l : List Byte) : State :=
  if s.get DISP_EMB_EN 0 st = 1 then s.csiEmb st l else s

/-- A row enters the window as a line: pixels, or a missing line (R432, R441). -/
def State.addLine (s : State) (st row : Nat) (px : Option (List Nat)) : State :=
  let w := s.stream st
  if row < w.y0 ∨ w.y0 + w.wh ≤ row then s
  else
    match px with
    | none =>
      let prev := w.lines.getLast?.getD ⟨List.replicate w.ww 0, List.replicate w.ww 0, true⟩
      s.setStream st { w with lines := w.lines ++ [{ prev with fill := true }], filled := w.filled + 1 }
    | some l =>
      let l := (l.drop w.x0).take w.ww
      let xs := l.map (pixX w.fmt)
      let hist := if s.dispOn then
          xs.foldl (fun (h : Store) x => h.insert (binOf x) (h.find (binOf x) 0 + 1)) w.hist
        else w.hist
      let idx := if s.dispOn then xs.map w.tone else xs.map ramp
      s.setStream st { w with lines := w.lines ++ [⟨l, idx, false⟩], hist := hist }

/-- Rows up to `row` that have not come are missing (R441). -/
def State.fillTo (s : State) (st row : Nat) : State :=
  let w := s.stream st
  let s := (List.range (row - w.row)).foldl (fun s k => s.addLine st (w.row + k) none) s
  s.setStream st { s.stream st with row := max w.row row }

/-- A row of pixels of the stream (R431). -/
def State.streamRow (s : State) (st row : Nat) (px : List Nat) : State :=
  let w := s.stream st
  if w.live = false ∨ row < w.row then s
  else
    let s := if w.shaped then s else s.shape st w.width w.height w.fmt false
    if (s.stream st).rep then s
    else
      let s := (s.fillTo st row).addLine st row (some px)
      (s.setStream st { s.stream st with row := row + 1 }).flushLines st false

/-- The trailer of a received frame (Table LINK-9). -/
def trailer (ctr result n tag : Nat) : List Byte :=
  let b := [0xE1, 0x03] ++ le32 ctr ++ [BitVec.ofNat 8 result, BitVec.ofNat 8 n] ++ le32 tag ++ le32 (tag / 2 ^ 32)
  b ++ le32 (crc32 b)

/-- The frame of a stream that PVP drops (R446). -/
def State.pvpDrop (s : State) (st why : Nat) : State := (s.inc PVP_DROPPED).event 0x7911 (st + why * 2 ^ 4)

/-- A whole picture becomes ready in every buffer that shows the stream (R446). -/
def State.pvpReady (s : State) (st : Nat) : State :=
  let p := s.pictOf st
  let qs := (List.range s.vout.quads.length).map fun q =>
    let b := s.vout.quads.getD q Quad.empty
    if s.vout.shown.getD q none = some st then { b with ready := some p } else b
  { s with vout := { s.vout with quads := qs } }

/-- PVP shows the stream. -/
def State.pvpShows (s : State) (st : Nat) : Bool := s.vout.shown.contains (some st)

/-- The lines that were filled in a frame on CSI-2 are counted, and logged once for it (R441). -/
def State.fillNote (s : State) (st : Nat) : State :=
  let w := s.stream st
  if w.csi && decide (0 < w.filled) then
    (s.addSat CSI_LINES_FILLED w.filled 0 st).event 0x7810 (st + w.filled * 2 ^ 4)
  else s

/-- A row that input loss has taken whole is missing (R441). -/
def State.streamGap (s : State) (st row : Nat) : State :=
  let w := s.stream st
  if w.live = false ∨ row < w.row then s
  else
    let s := if w.shaped then s else s.shape st w.width w.height w.fmt false
    if (s.stream st).rep then s else (s.fillTo st (row + 1)).flushLines st false

/-- The frame of a stream ends (R438, R440, R441, R446): the rest of its lines, a REPEAT frame's lines from the store, the
trailer, the frame end, and the PVP buffer. `ok` is false where authentication forbids PVP the frame.
DEDUCED, log 43, unsafe. -/
def State.streamEnd (s : State) (st : Nat) (tail : Option (List Byte)) (ok : Bool) : State :=
  let w := s.stream st
  if !w.live then s
  else
    let s := if w.shaped then s else s.shape st w.width w.height w.fmt w.rep
    let s : State := if (s.stream st).rep then
        match (s.stream st).store with
        | some (dt, ls) =>
          if s.on DISP_REPEAT_FILL 0 st then
            (List.range ls.length).foldl (fun s i => s.csiLine st dt i (ls.getD i [])) s
          else s
        | none => s
      else
        let s := (s.fillTo st (s.stream st).height).flushLines st true
        let w := s.stream st
        let ls := (List.range w.lines.length).flatMap fun i => let l := s.outLine st i; if w.zoom then [l, l] else [l]
        let dt := s.dtOf st
        let ls := if s.rotOf st then ls.reverse else ls
        let s := if s.rotOf st then (List.range ls.length).foldl (fun s i => s.csiLine st dt i (ls.getD i [])) s else s
        s.setStream st { s.stream st with store := some (dt, ls) }
    let s : State := match tail with | some b => s.csiEmb st b | none => s
    let w := s.stream st
    let s := (s.csiPut st 0x01 [w.ctr % 65535 + 1]).fillNote st
    let s := if w.pvp && s.pvpShows st && !w.rep then (if ok then s.pvpReady st else s.pvpDrop st 2) else s
    s.setStream st { s.stream st with live := false, csi := false, pvp := false, lines := [] }

/-- The frame of a stream is cut short (R442): frame end at once, and the next frame carries TRUNCATED_PREV.
DEDUCED, log 43, unsafe. -/
def State.streamCut (s : State) (st : Nat) : State :=
  let w := s.stream st
  if !w.live then s
  else
    let s := (s.csiPut st 0x01 [w.ctr % 65535 + 1]).fillNote st
    let s := if w.csi then s.inc CSI_TRUNC 0 st else s
    let s := if w.pvp && s.pvpShows st && !w.rep then s.pvpDrop st 1 else s
    s.setStream st { s.stream st with live := false, csi := false, pvp := false, lines := [],
                                          cut := w.cut || w.csi || (w.pvp && s.pvpShows st) }

/-- Packets of the last command are gone. DESIGN CHOICE, log 42, safe. -/
def State.quiet (s : State) : State :=
  { s with vout := { s.vout with sent := [] }
           link := s.link.map fun p => { p with out := [] } }

/-! ### CSI-2 (R452) and PVP (R443 to R448, R456) -/

/-- The lanes restart once no VC has a frame in progress (R452). DEDUCED, log 43, unsafe. -/
def State.csiReinit (s : State) : State :=
  if s.vout.reinit && !(s.vid.any VidS.csi) && !(s.owed.any fun e => e.1 == pCSI) then
    { s with vout := { s.vout with reinit := false } }
  else s

/-- The picture area of a raster (Table PVP-1). -/
def pvpArea (std : Nat) : Nat × Nat := if std = 0 then (720, 576) else if std = 1 then (720, 480) else (640, 512)

/-- The place of a scaled picture inside an area (R445): x, y, width, height. -/
def placeIn (aw ah w h : Nat) : Nat × Nat × Nat × Nat :=
  let (pw, ph) := if w = 0 ∨ h = 0 then (0, 0)
    else if aw * h ≤ ah * w then (aw, h * aw / w) else (w * ah / h, ah)
  let pw := pw / 2 * 2
  ((aw - pw) / 2 / 2 * 2, (ah - ph) / 2, pw, ph)

/-- What the raster shows from the buffers (R445 to R448). DEDUCED, log 43, unsafe. -/
def State.pvpScreen (s : State) : List Tile :=
  let (aw, ah) := pvpArea (s.get PVP_STD)
  if s.vout.pvpOn = false then [⟨0, 0, aw, ah, some 0, none⟩]
  else
    let mosaic := s.get PVP_SRC == 4
    let (tw, th) := if mosaic then (aw / 2, ah / 2) else (aw, ah)
    (List.range s.vout.shown.length).map fun q =>
      let (ox, oy) := if mosaic then (q % 2 * tw, q / 2 * th) else (0, 0)
      match s.vout.shown.getD q none with
      | none => ⟨ox, oy, tw, th, some 0, none⟩
      | some _ =>
        let b := s.vout.quads.getD q Quad.empty
        if b.fill && s.get PVP_STALE_MS != 0 then ⟨ox, oy, tw, th, some (s.get PVP_STALE_RGB), none⟩
        else match b.front with
          | none => ⟨ox, oy, tw, th, some 0, none⟩
          | some p => let (x, y, w, h) := placeIn tw th p.width p.height; ⟨ox + x, oy + y, w, h, none, some p⟩

/-- The source position of scaled sample `x` on an axis of `a` source samples and `b` scaled ones, in 1/65,536 (R445).
DESIGN CHOICE, log 43, safe. -/
def samplePos (a b x : Nat) : Nat :=
  (clampInt 0 ((a - 1) * 65536 : Nat) ((x * a * 65536 / b : Nat) + (Config.scalePhase a b).toInt)).toNat

/-- Bilinear interpolation of one colour at a source position, rounded to nearest (R432, R445). -/
def bilinear (part : Nat → Int) (ls : List (List Nat)) (px py : Nat) : Nat :=
  let at' := fun y x => let l := ls.getD (min (ls.length - 1) y) []; part (l.getD (min (l.length - 1) x) 0)
  let x := px / 65536
  let y := py / 65536
  let fx : Int := (px % 65536 : Nat)
  let fy : Int := (py % 65536 : Nat)
  let row := fun j => at' j x * (65536 - fx) + at' j (x + 1) * fx
  (roundDiv (row y * (65536 - fy) + row (y + 1) * fy) 4294967296).toNat

/-- A pixel of the picture area (R445): `none` outside the tile, black outside its picture. -/
def Tile.pixel (t : Tile) (x y : Nat) : Option Nat :=
  if x < t.x ∨ t.x + t.w ≤ x ∨ y < t.y ∨ t.y + t.h ≤ y then none
  else match t.pic with
    | none => some (t.fill.getD 0)
    | some p =>
      if t.w = p.width ∧ t.h = p.height then some ((p.lines.getD (y - t.y) []).getD (x - t.x) 0)
      else
        let px := samplePos p.width t.w (x - t.x)
        let py := samplePos p.height t.h (y - t.y)
        some (bilinear rOf p.lines px py * 2 ^ 16 + bilinear gOf p.lines px py * 2 ^ 8 + bilinear bOf p.lines px py)

/-- The line of the picture that raster line `n` shows, in the field that shows it (R446, Table PVP-1). -/
def pvpRowOf (std n : Nat) : Option Nat :=
  let field := fun a b k => if a ≤ n ∧ n ≤ b then some (2 * (n - a) + k) else none
  if std = 0 then (field 23 310 0).or (field 336 623 1)
  else if std = 1 then (field 21 260 0).or (field 284 523 1)
  else if 1 ≤ n ∧ n ≤ 512 then some (n - 1) else none

/-- Y with Cb and Cr in turn, as the 16 data pins carry them (R444). -/
def pvpWide : List Nat → List Nat
  | c :: y :: l => (y + c * 2 ^ 8) :: pvpWide l
  | _ => []

/-- The picture data of raster line `n` on the pins (R443, R444): Cb, Y, Cr, Y clamped to 0x01 to 0xFE, black where the line shows no
picture. -/
def State.pvpLine (s : State) (n : Nat) : List Nat :=
  let std := s.get PVP_STD
  let px := (List.range (pvpArea std).1).map fun x =>
    match pvpRowOf std n with
    | none => 0
    | some y => (s.vout.screen.findSome? fun t => t.pixel x y).getD 0
  let l := (yuvPack px).map fun v => min 0xFE (max 1 v)
  if s.on PVP_WIDTH16 then pvpWide l else l

/-- The lines of a raster and the clocks of a line in 8-bit mode, of which SAV, EAV and the blanking are all but the picture (Table PVP-1).
PRESUMED, log 43, unsafe. -/
def pvpLines (std : Nat) : Nat := if std = 0 then 625 else if std = 1 then 525 else 528
def pvpClocks (std : Nat) : Nat := if std = 0 then 1728 else if std = 1 then 1716 else 1704

/-- F and V of raster line `n`: BT.656's for STD 0 and 1, progressive for STD 2. PRESUMED, log 43, unsafe. -/
def pvpField (std n : Nat) : Bool := if std = 0 then decide (313 ≤ n) else if std = 1 then decide (n < 4 ∨ 266 ≤ n) else false
def pvpBlank (std n : Nat) : Bool :=
  if std = 0 then decide (n < 23 ∨ (311 ≤ n ∧ n < 336) ∨ 624 ≤ n)
  else if std = 1 then decide (n < 20 ∨ (264 ≤ n ∧ n < 283))
  else decide (512 < n)

/-- SAV, or EAV where `h`: the preamble and the word of F, V, H and their protection bits (R443). PRESUMED, log 43, unsafe. -/
def pvpCode (f v h : Bool) : List Nat :=
  [0xFF, 0, 0, 0x80 + 64 * bit f + 32 * bit v + 16 * bit h + 8 * bit (v != h) + 4 * bit (f != h) + 2 * bit (f != v) +
    bit ((f != v) != h)]

/-- Raster line `n` whole, in 8-bit mode (R443, Table PVP-1): EAV, horizontal blanking, SAV, and the picture data or vertical blanking.
PRESUMED, log 43, unsafe. -/
def State.pvpRaster (s : State) (n : Nat) : List Nat :=
  let std := s.get PVP_STD
  let f := pvpField std n
  let v := pvpBlank std n
  let act := 2 * (pvpArea std).1
  let blank := fun k => (List.range k).map fun i => if i % 2 = 0 then 0x80 else 0x10
  pvpCode f v true ++ blank (pvpClocks std - act - 8) ++ pvpCode f v false ++ (if v then blank act else s.pvpLine n)

/-- The D-PHY intervals of Table CSI-2, in its order, as transmitted: in byte-clock periods, rounded up (R437). -/
def dphyTable (v11 : Bool) : List (Nat × Nat) :=
  [(60, 0), (if v11 then 85 else 50, if v11 then 6 else 5), (if v11 then 200 else 115, 10), (70, 8), (120, 0), (60, 0),
   (if v11 then 300 else 260, 0), (70, 0), (70, 52), (0, 16)]
def State.dphyTimes (s : State) : List Nat :=
  (dphyTable (s.on CSI_V11_TIMING)).map fun (ns, ui) => ceilDiv (ns * s.get CSI_RATE + 1000 * ui) 8000

/-- The parallel port holds PVP_D8 to PVP_D15 while WIDTH16 = 1 is in force (R582). DEDUCED, log 47, safe. -/
def State.pvpPins (s : State) : State :=
  (List.range 8).foldl (fun s i =>
    let k := 16 + i
    if s.on PVP_WIDTH16 then s.put PIN_PAD_OWNER 6 0 k
    else if s.get PIN_PAD_OWNER 0 k = 6 then s.put PIN_PAD_OWNER 7 0 k else s) s

/-- An output frame starts (R446, R456, R460): the commit, cleared or new buffers, flips, and the picture. The pictures of a store that has
just opened are stale and black.
DEDUCED, log 43, unsafe. -/
def State.pvpFrame (s : State) : State :=
  if s.pd 7 ≠ 2 then s
  else
    let std := s.get PVP_STD
    let wide := s.get PVP_WIDTH16
    let s := (s.commitPage pPVP).pvpPins
    let s := { s with vout := { s.vout with pvpOn := s.get HDR_EN pPVP == 1 } }
    let src := s.pvpSources
    let clear := std != s.get PVP_STD || wide != s.get PVP_WIDTH16
    let qs := (List.range 4).map fun q =>
      let b := s.vout.quads.getD q Quad.empty
      if s.vout.shown.getD q none != src.getD q none || s.vout.shown.length != src.length then
        { Quad.empty with stale := s.vout.shown.isEmpty }
      else if clear then { Quad.empty with stale := b.stale, fill := b.fill }
      else b
    let flips := if s.vout.pvpOn then (qs.filter fun b => b.ready.isSome).length else 0
    let qs := if s.vout.pvpOn then
        qs.map fun b => match b.ready with | some p => ⟨some p, none, false, false⟩ | none => b
      else qs
    let s := (s.addSat PVP_FLIPS flips)
    let s := { s with vout := { s.vout with quads := qs, shown := src } }
    { s with vout := { s.vout with screen := s.pvpScreen } }

/-- A stream has made no buffer front for STALE_MS (R448): the fill, and one event for each episode. -/
def State.pvpStale (s : State) (st : Nat) : State :=
  if s.pd 7 ≠ 2 ∨ s.get PVP_STALE_MS = 0 ∨ s.vout.pvpOn = false then s
  else
    let mosaic := s.get PVP_SRC == 4
    (List.range s.vout.shown.length).foldl (fun s q =>
      let b := s.vout.quads.getD q Quad.empty
      if s.vout.shown.getD q none = some st && !b.fill then
        let s := { s with vout := { s.vout with quads := s.vout.quads.set q { b with stale := true, fill := true } } }
        ({ s with vout := { s.vout with screen := s.pvpScreen } }).event 0x7910 (if mosaic then q + 16 else st)
      else s) s

/-- STAT.STALE (Table PVP-2). -/
def State.staleBits (s : State) : Nat :=
  (List.range 4).foldl (fun a q =>
    a + bit ((s.vout.shown.getD q none).isSome && (s.vout.quads.getD q Quad.empty).stale) * 2 ^ q) 0

/-- STAT of a stream (R431, R432, R454): WOUT and HOUT in force. -/
def State.outSize (s : State) (st : Nat) : Nat × Nat :=
  let w := s.stream st
  let i := 4 * st + s.get DISP_FOV_SEL 0 st
  if w.live && w.shaped then (w.wout, w.hout)
  else if w.back || !s.dispOn then (w.lastW, w.lastH)
  else
    let z := 1 + s.get DISP_ZOOM 0 i
    if s.on DISP_FULL 0 i then (z * w.lastW, z * w.lastH) else (z * s.get DISP_WW 0 i, z * s.get DISP_WH 0 i)

/-- PD_CORE is gated or reset: the stores, histograms and maps are gone (R460). A stream with a CSI-2 or PVP frame open is recorded
(R156), and a CSI-2 frame ends with frame end (R442). -/
def State.dispLost (s : State) : State :=
  let s := (List.range 4).foldl (fun s st => s.csiPut st 0x01 [(s.stream st).ctr % 65535 + 1]) s
  { s with vid := (List.range s.vid.length).map fun st =>
      let w := s.stream st
      { VidS.idle with cut := w.cut || w.csi || (w.pvp && s.pvpShows st) } }

/-- PD_CSI reaches OFF: no frame is in progress, no restart is due. -/
def State.csiOff (s : State) : State :=
  { s with vout := { s.vout with reinit := false }
           vid := s.vid.map fun w => { w with csi := false } }

/-- PD_PVP reaches OFF: its store is gone, every picture stale (R460). -/
def State.pvpOff (s : State) : State :=
  { s with vout := { s.vout with pvpOn := false, quads := List.replicate 4 Quad.empty, screen := [], shown := []
                                 raster := false }
           vid := s.vid.map fun w => { w with pvp := false } }

end Sys2Proof.Machine
end

