-- ==== Sys2Proof/Machine/LinkVideo.lean ====
section
/-! DEFINITION. Video on the ports: a head's frames on LINK0, and the frames a cab receives, checks, authenticates and
hands to the outputs (R379, R381, R397 to R400, R415 to R419). -/

namespace Sys2Proof.Machine

/-! ### Packing (R399) -/

/-- Pack RAW16 pixels two to a word. -/
def pack16 : List Nat → List Nat
  | a :: b :: l => (a % 2 ^ 16 + b % 2 ^ 16 * 2 ^ 16) :: pack16 l
  | [a] => [a % 2 ^ 16]
  | [] => []

/-- Pack RAW14 pixels as a bit stream: `acc` holds `have'` bits not yet cut into a word. -/
def pack14 (acc have' : Nat) : List Nat → List Nat
  | [] => if have' = 0 then [] else [acc]
  | p :: l =>
    let acc := acc + p % 2 ^ 14 * 2 ^ have'
    if have' + 14 ≥ 32 then acc % 2 ^ 32 :: pack14 (acc / 2 ^ 32) (have' + 14 - 32) l else pack14 acc (have' + 14) l

/-- The payload of a row. -/
def packRow (fmt : Nat) (px : List Nat) : List Nat := if fmt = 1 then pack14 0 0 px else pack16 px

/-- The pixels of a RAW16 payload. -/
def unpack16 (ws : List Nat) : List Nat := ws.flatMap fun w => [w % 2 ^ 16, w / 2 ^ 16]

/-- Take whole RAW14 pixels off a bit buffer. -/
def takePix : Nat → Nat → Nat → List Nat × Nat × Nat
  | 0, acc, have' => ([], acc, have')
  | k + 1, acc, have' =>
    if have' < 14 then ([], acc, have')
    else let (l, a, h) := takePix k (acc / 2 ^ 14) (have' - 14); (acc % 2 ^ 14 :: l, a, h)

/-- The pixels of a RAW14 payload. -/
def unpack14 (acc have' : Nat) : List Nat → List Nat
  | [] => []
  | w :: l => let (px, a, h) := takePix 3 (acc + w * 2 ^ have') (have' + 32); px ++ unpack14 a h l

/-- The pixels of a payload. -/
def unpackRow (fmt : Nat) (ws : List Nat) : List Nat := if fmt = 1 then unpack14 0 0 ws else unpack16 ws

/-- The words of a row of `w` pixels. -/
def rowLen (fmt w : Nat) : Nat := if fmt = 1 then ceilDiv (14 * w) 32 else w / 2

/-- The words that bytes make, little-endian. -/
def bytesWords : List Byte → List Nat
  | a :: b :: c :: d :: l => ofLe [a, b, c, d] :: bytesWords l
  | [] => []
  | l => [ofLe l]

/-- A header word (R397). -/
def hdrWord (typ len info : Nat) : Nat := typ * 2 ^ 28 + len * 2 ^ 16 + info

/-- The words of a forward packet without its CRC, then with it (R398). -/
def pktWords (typ info extra : Nat) (ws : List Nat) : List Nat := hdrWord typ (ws.length + extra + 1) info :: ws
def withCrc (ws : List Nat) : List Nat := ws ++ [crc32 (wordBytes ws)]

/-! ### A head sends (R379, R381, R400, R416) -/

/-- The nonce of the session as words. DESIGN CHOICE, log 8, safe. -/
def State.nonce (s : State) (n : Nat) : List Nat := [s.get LINK_NONCE n 0, s.get LINK_NONCE n 1]

/-- The words enter the CMAC of the frame being sent (R416). -/
def State.txAbsorb (s : State) (ws : List Nat) : State :=
  let p := s.port 0
  match p.key with
  | some k => if s.get LINK_GEN 0 = 3 then s.setPort 0 { p with txMac := p.txMac.words k ws } else s
  | none => s

/-- Send a forward packet. -/
def State.headPkt (s : State) (typ info : Nat) (ws : List Nat) : State :=
  let l := pktWords typ info 0 ws
  let s := s.txAbsorb l
  s.setPort 0 ((s.port 0).put (withCrc l))

/-- Video may be sent on LINK0 (R400, R404). -/
def State.headVideo (s : State) : Bool :=
  s.headEnd && bitAt s.outTarget 0 && s.linkUp 0 && s.get LINK_SES_STATE 0 == 1

/-- A frame starts on LINK0, or is skipped while the Stall still holds lines of the previous one (R379). -/
def State.headStart (s : State) (stallHeld : Bool) : State :=
  if !s.headVideo then s
  else if stallHeld then
    let s := s.inc LINK_FRAMES_SKIPPED
    if (s.port 0).rateLogged then s
    else (s.setPort 0 { s.port 0 with rateLogged := true }).event (linkEv 0 0x1B) (s.get LINK_GEN 0)
  else
    let c := s.get MILL_FRAME_COUNT
    let s := s.stallReport 0
    let s := s.setPort 0 { s.port 0 with sending := true, dropped := 0, txMac := Mac.start }
    (s.txAbsorb (s.nonce 0 ++ [c])).headPkt 1 0 [c]

/-- Line 1 as the link stage sends it: RESUMED in the first frame after recovery, TRUNCATED_PREV after a frame cut open,
SERVICE in SERVICE (R87, R156, R252, Table LINK-10). -/
def State.headLine1 (s : State) : List Byte :=
  let f := ofLe ((s.mill.line1.drop 6).take 2)
  let f1 := if (s.port 0).resumed then f ||| 2 else f
  let f2 := if s.boot.cutStreams = 1 then f1 ||| 0x10 else f1
  let f3 := if s.mode == SERVICE then f2 ||| 0x40 else f2
  if f3 = f then s.mill.line1 else reflag s.mill.line1 f3

/-- The embedded lines (R400). -/
def State.headEmb (s : State) : State :=
  if (s.port 0).sending && s.linkUp 0 then
    let s := s.headPkt 2 1 (bytesWords s.headLine1)
    let s := s.headPkt 2 2 (bytesWords s.mill.line2)
    { s.setPort 0 { s.port 0 with resumed := false } with boot := { s.boot with cutStreams := 0 } }
  else s

/-- The Stall takes a line of `bytes` on top of `fill` (R381, R561, Table SLU-3): answers whether it fits. -/
def State.stallTake (s : State) (n fill bytes : Nat) : State × Bool :=
  let s := if fill = 0 then s.sluiceEmpty (1 + n) else s
  let s := s.sluicePeak (1 + n) (ceilDiv (if fill + bytes > 61440 then fill else fill + bytes) 16)
  if fill + bytes > 61440 then
    let s := ((s.inc LINK_STALL_OVR n).raise (linkPage n) 0x10).sluiceOver (1 + n) 1
    (s.setPort n { s.port n with dropped := (s.port n).dropped + 1 }, false)
  else (s.put LINK_STALL_PEAK (max (s.get LINK_STALL_PEAK n) (ceilDiv (fill + bytes) 16)) n, true)

/-- An active row (R399, R400). -/
def State.headRow (s : State) (row stall : Nat) (px : List Nat) : State :=
  if (s.port 0).sending && s.linkUp 0 then
    let ws := packRow (s.get MILL_OUT_FMT) px
    match s.stallTake 0 stall (4 * (ws.length + 2)) with
    | (s, true) => s.headPkt 3 row ws
    | (s, false) => s
  else s

/-- The frame end, with the tag on TL3 (R400, R416). -/
def State.headFrameEnd (s : State) (rep : Bool) : State :=
  if (s.port 0).sending && s.linkUp 0 then
    let c := s.get MILL_FRAME_COUNT
    let p := s.port 0
    let info := if rep then 0 else s.height - p.dropped
    let s := if s.get LINK_GEN 0 = 3 then
        let l := pktWords 4 info 2 [c]
        let tag := match p.key with
          | some k => (p.txMac.words k l).tag k
          | none => 0
        s.setPort 0 (p.put (withCrc (l ++ [tag / 2 ^ 32, tag % 2 ^ 32])))
      else s.headPkt 4 info [c]
    (s.setPort 0 { s.port 0 with sending := false }).stallReport 0
  else s

/-! ### A cab receives (R398, R415 to R419) -/

/-- The port receives forward packets: a cab end that is UP. -/
def State.hears (s : State) (n : Nat) : Bool := !s.headEnd && (s.linkOn n || s.pd (2 + n) == 3) && s.linkUp n

/-- The port takes frames: with an active session (R404). -/
def State.takesFrames (s : State) (n : Nat) : Bool := s.hears n && s.get LINK_SES_STATE n == 1

/-- Codewords corrected and not (R415). -/
def State.fecCount (s : State) (n : Nat) (p : Packet) : State :=
  if s.get LINK_GEN n = 3 then (s.addSat LINK_FEC_CORR p.corrected n).addSat LINK_FEC_UNCORR p.uncorrectable n else s

/-- The packet's words. -/
def pktAll (p : Packet) : List Nat := p.header.toNat :: p.words.map BitVec.toNat

/-- The packet passes its checks (R398, R415): type, LEN, CRC-32. -/
def State.pktGood (s : State) (n typ len : Nat) (p : Packet) : Bool :=
  let ws := p.words.map BitVec.toNat
  bitsOf p.header.toNat 28 4 == typ && bitsOf p.header.toNat 16 12 == len && ws.length == len &&
  !(s.get LINK_GEN n == 3 && p.uncorrectable != 0) &&
  ws.getLast? == some (crc32 (wordBytes (p.header.toNat :: ws.dropLast)))

/-- A discarded packet (R398, R417). -/
def State.rxBad (s : State) (n : Nat) : State :=
  let s := s.inc LINK_RX_ERR n
  s.setPort n { s.port n with rx := (s.port n).rx.map fun f => { f with bad := true } }

/-- Words enter the CMAC of the frame being received (R416). -/
def State.rxAbsorb (s : State) (n : Nat) (ws : List Nat) : State :=
  let p := s.port n
  match p.key, p.rx with
  | some k, some f => if s.get LINK_GEN n = 3 then s.setPort n { p with rx := some { f with mac := f.mac.words k ws } } else s
  | _, _ => s

/-- Record a result (R417, R418). -/
def State.authResult (s : State) (n r : Nat) : State :=
  let s := s.put LINK_LAST_RESULT r n
  if r = 0 then (s.put LINK_CONSEC 0 n).setPort n { s.port n with authRun := false }
  else if r = 1 then
    ((s.inc LINK_AUTH_PASSES n).put LINK_CONSEC 0 n).setPort n { s.port n with authRun := false }
  else
    let s := ((s.inc LINK_AUTH_FAILS n).inc LINK_CONSEC n).raise (linkPage n) 0x100
    let s := if (s.port n).authRun then s
      else (s.setPort n { s.port n with authRun := true }).event (linkEv n 0x22) r
    if s.get LINK_AUTH_MODE n = 2 ∧ s.get LINK_BLOCKED n = 0 ∧ s.get LINK_FAIL_MAX n ≤ s.get LINK_CONSEC n then
      (s.put LINK_BLOCKED 1 n).event (linkEv n 0x23) (s.get LINK_CONSEC n)
    else s

/-- The result of a received frame (R417, R420): `tag` is what FE carried. -/
def State.resultOf (s : State) (n : Nat) (f : RxFrame) (tag : Nat) : Nat :=
  if s.get LINK_AUTH_MODE n = 0 ∨ s.get LINK_GEN n < 3 ∨ s.on LINK_LEGACY n then 0
  else if s.on LINK_KEY_MISMATCH n then 2
  else
    match (s.port n).key with
    | none => 2
    | some k => if f.bad then 4 else if f.mac.tag k = tag then 1 else 2

/-- Close the frame of a port with a result (R418, R438). -/
def State.rxClose (s : State) (n tag : Nat) (f : RxFrame) (rep : Bool) : State :=
  let s := s.setPort n { s.port n with rx := none }
  if !f.shown then s
  else
    let r := s.resultOf n f tag
    let s := s.authResult n r
    let s := s.stallReport n
    let s := if rep then s.setStream n { s.stream n with rep := true } else s
    let mode := s.get LINK_AUTH_MODE n
    s.streamEnd n (if mode = 0 then none else some (trailer f.counter r n tag)) (mode == 0 || r == 1)

/-- A frame whose port is no longer UP, or whose session is gone, ends at the outputs as truncated (Table LINK-10). -/
def State.rxSync (s : State) (n : Nat) : State :=
  if (s.port n).rx.isSome && !s.takesFrames n then
    ((s.stallReport n).setPort n { (s.stallReport n).port n with rx := none }).streamCut n
  else if !s.headEnd && (s.stream n).live && (s.port n).rx.isNone && !(n == 0 && s.role == DUO) then s.streamCut n
  else s

/-- Between two frames that a port receives its pending values take effect (R10, R54, R391). -/
def State.portBoundary (s : State) (n : Nat) : State := if s.commitHeld then s else (s.linkCommit n).rxSync n

/-- FS (R10, R417, R419, Table LINK-10): a frame in progress has lost its FE, and ends. DEDUCED, log 40, unsafe. -/
def State.fsIn (s : State) (n : Nat) (p : Packet) : State :=
  if !s.hears n then s
  else
    let s := s.fecCount n p
    if !s.pktGood n 1 2 p then s.rxBad n
    else
      let s := match (s.port n).rx with | some f => (s.rxClose n 0 { f with bad := true } false).portBoundary n | none => s
      if !s.takesFrames n then s
      else
      let c := ((p.words[0]?).getD 0).toNat
      let gap := match (s.port n).lastFc with
        | none => some 0
        | some l => let d := (c + 2 ^ 32 - l) % 2 ^ 32; if 1 ≤ d ∧ d < 2 ^ 31 then some (d - 1) else none
      match gap with
      | none =>
        let s := (s.inc LINK_FRAMES_DUP n).authResult n 3
        s.setPort n { s.port n with rx := some ⟨c, false, false, 0, 0, Mac.start⟩ }
      | some g =>
        let s := (s.addSat LINK_FRAME_GAPS g n).put LINK_LAST_FC c n
        let s := s.setPort n { s.port n with lastFc := some c, dropped := 0, rx := some ⟨c, true, false, 0, 0, Mac.start⟩ }
        let s := s.rxAbsorb n (s.nonce n ++ [c] ++ (pktAll p).dropLast)
        let s := s.downgradeNote n
        s.streamStart n c (!s.on LINK_BLOCKED n && !s.downgraded n)

/-- EMB (R398, R430). -/
def State.embIn (s : State) (n : Nat) (p : Packet) : State :=
  if !s.hears n then s
  else
    let s := s.fecCount n p
    let no := bitsOf p.header.toNat 0 16
    if !(s.pktGood n 2 (if no = 1 then 13 else 9) p && (no == 1 || no == 2)) then s.rxBad n
    else
      match (s.port n).rx with
      | none => s
      | some f =>
        let s := s.rxAbsorb n (pktAll p).dropLast
        let bs := wordBytes ((p.words.map BitVec.toNat).dropLast)
        if !f.shown then s else if no = 1 then s.streamEmb1 n bs else s.streamEmb2 n bs

/-- LINE (R381, R398). DEDUCED, log 43, unsafe. -/
def State.lineIn (s : State) (n : Nat) (p : Packet) : State :=
  if !s.hears n then s
  else
    let s := s.fecCount n p
    let w := s.stream n
    let len := rowLen w.fmt w.width + 1
    if !s.pktGood n 3 len p then s.rxBad n
    else
      match (s.port n).rx with
      | none => s
      | some f =>
        let s := s.rxAbsorb n (pktAll p).dropLast
        if !f.shown then s
        else
          match s.stallTake n p.stall (4 * (len + 1)) with
          | (s, false) => s
          | (s, true) => s.streamRow n (bitsOf p.header.toNat 0 16) (unpackRow w.fmt ((p.words.map BitVec.toNat).dropLast))

/-- FE (R417, R418). -/
def State.feIn (s : State) (n : Nat) (p : Packet) : State :=
  if !s.hears n then s
  else
    let s := s.fecCount n p
    let tl3 := s.get LINK_GEN n == 3
    if !s.pktGood n 4 (if tl3 then 4 else 2) p then s.rxBad n
    else
      match (s.port n).rx with
      | none => s
      | some _ =>
        let s := s.rxAbsorb n (hdrWord 4 (if tl3 then 4 else 2) (bitsOf p.header.toNat 0 16) ::
          [((p.words[0]?).getD 0).toNat])
        let tag := if tl3 then ((p.words[1]?).getD 0).toNat * 2 ^ 32 + ((p.words[2]?).getD 0).toNat else 0
        match (s.port n).rx with
        | none => s
        | some f => s.rxClose n tag f (bitsOf p.header.toNat 0 16 == 0)

/-- A packet of reserved type (R397). -/
def State.reservedIn (s : State) (n : Nat) : State :=
  if s.linkUp n then s.inc LINK_RX_ERR n else s

/-- AUTH_CLR (R418). -/
def State.authClr (s : State) (n : Nat) : State := (s.put LINK_BLOCKED 0 n).put LINK_CONSEC 0 n

end Sys2Proof.Machine
end

