-- ==== Sys2Proof/Machine/Pads.lean ====
section
/-! DEFINITION. What the pins of the device carry, as far as State determines it (R27, R36, R50, R168, R185 to R191, R202, R576, R579,
R582, R583, Table RST-6, Table PIN-2). A cycle `c` counts PXCLK cycles from the FPA_ROWCLK rising edge of the row in progress. -/

namespace Sys2Proof.Machine

/-- What a pin of the device carries. -/
inductive Pad where
  /-- High-impedance. -/
  | z
  | low
  | high
  /-- A DAC output, code × 1.8 V / 65,536 (R190). -/
  | dac (code : Nat)
  /-- A DAC output within a bias ramp that moves all outputs together (R202). -/
  | ramp
  /-- A D-PHY lane at LP-11. -/
  | lp11
  /-- The traffic of its function. -/
  | live
  deriving DecidableEq, Repr

/-- A driven level. -/
def padLevel (b : Bool) : Pad := if b then .high else .low

/-- INT_PEND of a page (Table REG-3). -/
def State.intPend (s : State) (p : Nat) : Nat := s.get HDR_INT_RAW p &&& s.get HDR_INT_EN p

/-- IRQ_N is asserted (R50). -/
def State.irq (s : State) : Bool := allPages.any fun p => s.intPend p != 0

/-- The pins have left the state of a reset (Table RST-6): the internal reset is released and the role is latched, and valid (R36). -/
def State.pinsLive (s : State) : Bool := !s.boot.inReset && s.boot.waiting.isNone && !s.safe

/-- DORMANT's power state (Table PIN-2). -/
def State.inL4 (s : State) : Bool := s.yard.pstate == 4

/-! ### The array (R27, R185 to R191, R202, R351) -/

/-- The timing outputs run: a frame is in progress. Otherwise they are low. -/
def State.timingRuns (s : State) : Bool := s.pinsLive && s.frameRuns && decide (0 < s.fpa.row)

/-- FPA_FSYNC: the first ROW_RST_W cycles of row 0. -/
def State.padFsync (s : State) (c : Nat) : Pad := padLevel (s.timingRuns && s.rowNow == 0 && decide (c < s.get FPA_ROW_RST_W))

/-- FPA_ROWCLK: whether it rises at cycle `c`, in every row, idle rows too (R187). Its high time is given nowhere. -/
def State.rowclkRises (s : State) (c : Nat) : Bool := s.timingRuns && c == 0

/-- FPA_ROWRST: low in idle rows (R187). -/
def State.padRowrst (s : State) (c : Nat) : Pad := padLevel (s.timingRuns && s.rowIntegrates && decide (c < s.get FPA_ROW_RST_W))

/-- FPA_INTEG: low in idle rows (R187). -/
def State.padInteg (s : State) (c : Nat) : Pad :=
  padLevel (s.timingRuns && s.rowIntegrates && decide (s.get FPA_INT_START ≤ c) &&
    decide (c < s.get FPA_INT_START + s.get FPA_INT_LEN))

/-- FPA_COLCLK: the mux steps of the row before, up to idle row 0, which reads out the last active row (R186, R187, R189).
DEDUCED, log 34, unsafe. -/
def State.padColclk (s : State) (c : Nat) : Pad :=
  let t := c - s.get FPA_COL_START
  padLevel (s.timingRuns && decide (1 ≤ s.rowNow ∧ s.rowNow ≤ s.height + 8) && decide (s.get FPA_COL_START ≤ c) &&
    decide (t / s.get FPA_COL_PERIOD < s.group) && decide (t % s.get FPA_COL_PERIOD < s.get FPA_COL_PERIOD / 2))

/-- The bias outputs are driven: from BIAS.CTRL.EN on, until a ramp to 0 V has ended (R168, R202); not in L4, in CAB or where the array has
no supply. -/
def State.biasDriven (s : State) : Bool :=
  s.pinsLive && !s.inL4 && s.role != CAB && s.pd 1 != 0 && (s.fpa.on || s.fpa.ramp != 0)

/-- VDET at cycle `c` of the row or ramp in progress (R190, R191). -/
def State.padVdet (s : State) (c : Nat) : Pad := if s.biasDriven then .dac (s.vdet c) else .z

/-- VBLIND, VSKIM or VCM: its level is held while the timing is on (R190), 0 V after an overload (R204). -/
def State.padBias (s : State) (set ovr : Row) : Pad :=
  if !s.biasDriven then .z
  else if s.fpa.ramp ≠ 0 then .ramp
  else .dac (if s.fpa.tripped then 0 else s.biasCode set ovr)

/-- VBLIND. -/
def State.padVblind (s : State) : Pad := s.padBias BAND_VBLIND BIAS_VBLIND_OVR

/-- VSKIM. -/
def State.padVskim (s : State) : Pad := s.padBias BAND_VSKIM BIAS_VSKIM_OVR

/-- VCM. -/
def State.padVcm (s : State) : Pad := s.padBias BAND_VCM BIAS_VCM_OVR

/-- FPA_A00 to FPA_A31 and the diode pins are inputs (R27, Table RST-6); otherwise high-impedance and ignored. -/
def State.arrayInputs (s : State) : Bool := s.pinsLive && s.role != CAB && s.pd 1 != 0 && s.get HDR_EN 0x010 == 1

/-! ### Actuators (R36, R295, R308, Table RST-6) -/

/-- SOLn_OUT: 0 both switches off, 1 VBST, 2 VBAT. -/
def State.padSol (s : State) (n : Nat) : Nat := if s.pinsLive && s.pd 8 != 0 then (s.chan n).sw else 0

/-- BST_GATE: low unless the controller runs, and in overvoltage (R308). -/
def State.padBstGate (s : State) : Pad :=
  if s.pinsLive && s.pd 8 != 0 && s.on BOOST_RUN && !s.on BOOST_OV then .live else .low

/-! ### Links and video (R27, R36, R168, R582, Table PIN-2) -/

/-- LINKn_TXP and LINKn_TXN. -/
def State.padLink (s : State) (n : Nat) : Pad :=
  if s.pinsLive && !s.inL4 && s.present (linkPage n) && (s.pd (2 + n) == 2 || s.pd (2 + n) == 3) then .live else .z

/-- The power path of port `n` (R28, R36, R169, Table LINK-13): 0 off, 1 on, 2 the keep-alive. It holds through a reset. -/
def State.padPoc (s : State) (n : Nat) : Nat := if s.safe then 0 else s.get LINK_PATH n

/-- No VC has a frame in progress while a restart of the lanes is due: they are held in LP-11 (R452). -/
def State.lanesHeld (s : State) : Bool := s.vout.reinit && !(s.vid.any VidS.csi)

/-- The CSI-2 lanes: high-impedance through reset and boot until PD_CSI opens, in SAFE, in L4 and without VDDA or VDDPHY (Table PIN-6);
the keeper's LP-11 while PD_CSI is off. -/
def State.padCsi (s : State) : Pad :=
  if !s.pinsLive || s.inL4 || !s.boot.vdda || !s.boot.vddphy then .z
  else if s.pd 6 == 2 || s.pd 6 == 3 then (if s.lanesHeld then .lp11 else .live)
  else if s.boot.booting then .z else .lp11

/-- The clock lane: with CLK_CONT = 0 it returns to LP-11 between bursts (R437). -/
def State.padCsiClk (s : State) : Pad :=
  if s.padCsi == .live && !s.on CSI_CLK_CONT && s.vout.sent.isEmpty then .lp11 else s.padCsi

/-- PVP_CLK and PVP_D0 to PVP_D7. -/
def State.padPvp (s : State) : Pad :=
  if s.pinsLive && !s.inL4 && s.boot.vddio && (s.pd 7 == 2 || s.pd 7 == 3) then .live else .z

/-! ### Host and multiplexed pins (R50, R168, R579, R583) -/

/-- IRQ_N's level: in L3 it keeps the one it entered with (Table PIN-2). -/
def State.irqHeld (s : State) : Bool := if s.yard.pstate = 3 then (s.yard.held.getD 24 none).isSome else s.irq

/-- IRQ_N: pulled low while asserted; released through reset, in SAFE and in L4. -/
def State.padIrq (s : State) : Pad := if s.pinsLive && !s.inL4 && s.irqHeld then .low else .z

/-- MISO: driven while CS_N is low, from step 6 of the boot. -/
def State.padMiso (s : State) : Pad := if !s.boot.inReset && s.boot.served && s.host.spiTxn.isSome then .live else .z

/-- The level of a pin function before INV (Table PIN-3, R583), at cycle `c` of the row in progress; `none`: an input. -/
def State.pinLevel (s : State) (k c : Nat) : Option Bool :=
  let f := s.get PIN_FUNC 0 k
  let cab := s.role == CAB
  let m := s.get PIN_ARG 0 k
  if f = 1 then some (bitAt (s.get PIN_GPIO_OUT) k)
  else if f = 2 then some (!cab && s.timingRuns && s.rowNow == 0 && decide (c < 40))
  else if f = 3 then some (!cab && s.frameRuns && s.mill.frame && bitAt s.mill.flags 3)
  else if f = 4 then some (!cab && s.get NUC_STATE != 0)
  else if f = 5 then some (s.present (linkPage m) && s.linkUp m)
  else if f = 6 then some (s.get WDT_MISSED != 0)
  else if f = 7 then some (!s.irq)
  else none

/-- The level that pin `k` drives (R579), `none` where it drives none: INV inverts, and OD drives the low level alone. -/
def State.pinDrive (s : State) (k c : Nat) : Option Bool :=
  match s.pinLevel k c with
  | none => none
  | some b =>
    let b := b != s.on PIN_INV 0 k
    if b && s.on PIN_OD 0 k then none else some b

/-- Pad retention at the entry to L3 (Table PIN-2): what the multiplexed pins drive, and in place 24 whether IRQ_N is asserted. -/
def State.holdPads (s : State) : State :=
  let l := (List.range 24).map fun k => s.pinDrive k 40
  { s with yard := { s.yard with held := l ++ [if s.irq then some false else none] } }

/-- Multiplexed pin `k` (R579): the parallel port holds GPIO16 to GPIO23 with WIDTH16 (R582); an output is held in L3, and no pad is
driven without VDDIO (Table PIN-2, Table PIN-6). -/
def State.padGpio (s : State) (k c : Nat) : Pad :=
  if !s.pinsLive || s.inL4 || !s.boot.vddio then .z
  else if s.get PIN_PAD_OWNER 0 k = 6 then s.padPvp
  else
    match if s.yard.pstate = 3 then s.yard.held.getD k none else s.pinDrive k c with
    | none => .z
    | some b => padLevel b

/-- GPIO_IN (R579): the live level of every pin; the surroundings decide that of a pin that the device does not drive.
DESIGN CHOICE, log 8, safe. -/
def State.gpioIn (s : State) (x : Nat) : Nat :=
  (List.range 24).foldl (fun a k =>
    a + 2 ^ k * (match s.padGpio k (x / 2 ^ 24 % s.get FPA_ROW_PERIOD) with
      | .low => 0
      | .high => 1
      | _ => bit (bitAt x k))) 0

end Sys2Proof.Machine
end

