-- ==== Sys2Proof/Machine/Power.lean ====
section
/-! DEFINITION. The orthogonal axes, power domains and their closing, mode transitions, DORMANT, wakes, the return after a
WC4 service and the thermal cut (R82 to R110, R114, R123, R124, R130 to R135, R145, R174, R203, R340 to R346, R570, R571). -/

namespace Sys2Proof.Machine

/-! ### Axes (R89 to R95, R105, Table MODE-3) -/

/-- EFF_POLICY and POLICY_WHY in mode `m`. -/
def State.policyOf (s : State) (m : Nat) : Nat × Nat :=
  let p := s.get YARD_POLICY
  if s.role = CAB then (3, 1)
  else if p = 1 then (1, 0)
  else if m = SENTRY then (1, 2)
  else if s.get HDR_EN 0x065 = 0 then (1, 3)
  else if s.on SHUT_FAULTED then (1, 4)
  else (p, 0)

/-- EFF_OUT (R10, R90, R91): each output follows its target at the next frame boundary of the streams it affects, at once where
none of them has a frame in progress. LINK affects the local stream; CSI2 every stream of the role, so that it is added with the
first and gone with the last of them; PVP its own output frames. `all`: a mode change, which all axes follow (R105).
DEDUCED, log 34, unsafe. -/
def State.effOut (s : State) (all : Bool) : Nat :=
  let t := s.outTarget
  let eff := s.get YARD_EFF_OUT
  let rests := (if s.role = HEAD then [0] else List.range 4).any fun st => !(s.stream st).live
  let link := if all || !((s.port 0).sending || (s.stream 0).live) then bitAt t 0 else bitAt eff 0
  let csi := if all then bitAt t 1 else if bitAt t 1 then bitAt eff 1 || rests else bitAt eff 1 && s.vid.any VidS.csi
  let pvp := if all || !s.vout.raster then bitAt t 2 else bitAt eff 2
  bit link + 2 * bit csi + 4 * bit pvp

/-- The policy takes effect (R90, R91): at a boundary of the local array's frames. -/
def State.policyNow (s : State) : State :=
  let (p, why) := s.policyOf s.runMode
  (s.put YARD_EFF_POLICY p).put YARD_POLICY_WHY why

/-- AXES has a parity error: the axes derived before it stay in force until the word is rewritten (R107). -/
def State.axesKept (s : State) : Bool := s.parity.contains (0x001, 0x048)

/-- The axes take effect: the policy at a boundary of the local array (`here`) and where the array rests between frames, the outputs as
their streams allow; all at a mode change (R10, R90, R91, R105). LINK in CAB and DUO affects no stream, so that OUT_NA follows at once
(R10). DEDUCED, log 34, unsafe. -/
def State.axesAt (s : State) (all here : Bool) : State :=
  if s.axesKept then s
  else
    let s := if all || here || !s.frameRuns then s.policyNow else s
    (s.put YARD_OUT_NA s.outNa).put YARD_EFF_OUT (s.effOut all)

/-- The axes take effect outside an array boundary. -/
def State.axesNow (s : State) (all : Bool) : State := s.axesAt all false

/-! ### Domains (R130 to R135, R145) -/

/-- The device runs in a mode, or boots into one, so that domains other than PD_CORE may be on. -/
def State.awake (s : State) : Bool :=
  !s.boot.inReset && s.boot.waiting.isNone && !s.safe && !s.yard.cut && s.boot.drain.isNone && !s.wdt.expiring &&
  s.runMode != DORMANT &&
  !(match s.yard.trans with | some t => t.entering | none => false)

/-- A supply that domain `d` needs has been lost and is not back (R598, Table PIN-6): bit 0 VDDA, 1 VDDIO, 2 VDDPHY. -/
def State.lostFor (s : State) (d : Nat) : Bool :=
  let l := s.yard.lostSupplies
  (bitAt l 0 && (d == 1 || d == 8)) || (bitAt l 1 && (d == 1 || d == 7)) || (bitAt l 2 && decide (2 ≤ d ∧ d ≤ 6))

/-- PD_CSI and PD_PVP may be on: not in L3 nor on the way there; on the way back once CCLK runs (Table YARD-4). -/
def State.outsOpen (s : State) : Bool := s.yard.pstate != 3 || (s.yard.exit.isSome && s.pd 0 == 2 && s.granted 1)

/-- The device keeps domain `d` on; an output's while it carries video or its frame is in progress (R95). -/
def State.wants (s : State) (d : Nat) : Bool :=
  s.awake && !s.lostFor d && !bitAt (s.get YARD_PD_FAULT) d && (d != 8 || s.get YARD_PD_FAULT8 == 0) &&
  (if d = 1 then s.role != CAB
   else if 2 ≤ d ∧ d ≤ 5 then s.get HDR_EN (linkPage (d - 2)) == 1 && s.present (linkPage (d - 2))
   else if d = 6 then (bitAt (s.get YARD_EFF_OUT) 1 || s.vid.any VidS.csi) && s.outsOpen
   else if d = 7 then (bitAt (s.get YARD_EFF_OUT) 2 || s.vout.raster) && s.outsOpen
   else d == 8)

/-- The supplies that a domain waits for are good (R589, Table PIN-6). -/
def State.supplied (s : State) (d : Nat) : Bool :=
  if d = 1 then s.boot.vdda && s.boot.vddio
  else if d = 8 then s.boot.vdda
  else if d = 7 then s.boot.vddio
  else if 2 ≤ d ∧ d ≤ 6 then s.boot.vddphy
  else s.boot.vdd

/-- A DORMANT entry is in progress: its store has run, and the domains close (R88). -/
def State.toDormant (s : State) : Bool := match s.yard.trans with | some t => t.entering | none => false

/-- PD_CORE may close (R131): every other domain that is to close is OFF, no store runs, and a DORMANT or an L3 entry wants it
off. -/
def State.coreMayClose (s : State) : Bool :=
  s.pd 0 == 2 &&
  ((s.toDormant && (List.range 8).all (fun i => s.pd (i + 1) == 0) && s.shadow.storing.isNone) ||
   (s.yard.entering && s.yard.pstate == 3 && s.pd 6 == 0 && s.pd 7 == 0 && (List.range 8).all fun i => s.pd (i + 1) != 3))

/-- PD_PIX closes (R203): the timing stops after the row in progress, at once between rows; what it has not dropped by then goes on if
the domain comes back (R134). A ramp in progress goes on to 0 V, within 100 µs. -/
def State.pixCloses (s : State) : State :=
  if s.fpa.on && s.frameRuns then { s with fpa := { s.fpa with halt := true } }
  else if s.fpa.on || s.fpa.ramp != 0 then s.dropOverlaps.rampDown
  else s

/-- A domain leaves ON (R131). -/
def State.closing (s : State) (d : Nat) : State :=
  let s := { s.setPd d 3 with yard := { s.yard with
    drainLogged := s.yard.drainLogged - (if bitAt s.yard.drainLogged d then 2 ^ d else 0) } }
  if d = 1 then s.pixCloses else s

/-- A closing domain is wanted again before it is OFF (R134): nothing is dropped, and the array goes on. -/
def State.reopen (s : State) (d : Nat) : State :=
  let s := s.setPd d 2
  if d = 1 then (if s.biasMay then s.rampUp else s) else s

/-- A domain that is opening is no longer wanted: a port's power path ends with it (R385, R392), but for a reset that keeps it (R169). -/
def State.openingEnds (s : State) (d : Nat) : State :=
  let s := s.setPd d 0
  if 2 ≤ d ∧ d ≤ 5 then
    let path := s.get LINK_PATH (d - 2)
    let s := s.portOff (d - 2) s.toDormant
    if s.boot.drain.isSome then s.put LINK_PATH path (d - 2) else s
  else s

/-- Every domain follows what is wanted of it (R131, R134), and the clocks follow the domains (R128). -/
def State.domainsSync (s : State) : State :=
  let s := (List.range 8).foldl (fun s i =>
    let d := i + 1
    let st := s.pd d
    if s.wants d then (if st = 0 then s.setPd d 1 else if st = 3 then s.reopen d else s)
    else (if st = 2 then s.closing d else if st = 1 then s.openingEnds d else s)) s
  (if s.coreMayClose then s.setPd 0 3 else s).clockSync

/-- The pages of a domain. -/
def domainPages (d : Nat) : List Nat := allPages.filter fun p => pageDomain p == some d

/-- Commit a page in full, as its block does. -/
def State.commitFull (s : State) (p : Nat) : State :=
  if p = 0x010 then s.fpaCommit
  else if p = 0x050 then s.millCommit
  else if p = 0x051 then s.driftCommit
  else if 0x070 ≤ p ∧ p ≤ 0x073 then s.linkCommit (p - 0x070)
  else
    let s := { s with owed := s.owed.filter fun e => e.1 != p }.commitPage p
    if p = pPVP then s.pvpPins else s

/-- The axes and the domains follow where a frame has started or ended (R10, R91, R95). -/
def State.outSync (s : State) : State := (s.axesNow false).domainsSync

/-- No reading has been made since PD_CORE opened (R350): the sensors and their checks stand as at reset; Tfpa's last valid value is
FPA's (R205). DEDUCED, log 49, unsafe. -/
def State.noReadings (s : State) : State :=
  let s := ([TEMP_TS0, TEMP_TS1, TEMP_TS2, TEMP_TS3, TEMP_THOUS, TEMP_THOUS_BAD, TEMP_TS_STATE]).foldl
    (fun s r => s.put r r.reset) s
  let s := (List.range 34).foldl (fun s n => s.put CH_TCH 0 n) s
  { s with temp := { s.temp with first := true, disagree := 0, agree := 0, auxBad := false } }

/-- PD_CORE is on again after L3 (R334, R350, R546, Table YARD-4): the Yard buffer is logged, no reading has been made. -/
def State.coreGood (s : State) : State :=
  (((s.setPd 0 2).drainYardBuf).lateHolds).noReadings.domainsSync

/-- An output frame starts (R10, R95, R446): OUTSET takes effect, and where PVP has left EFF_OUT the port closes. -/
def State.pvpBoundary (s : State) : State :=
  let s := { s with vout := { s.vout with raster := false } }.axesNow false
  if s.pd 7 = 2 ∧ bitAt (s.get YARD_EFF_OUT) 2 then { s.pvpFrame with vout := { s.pvpFrame.vout with raster := true } }
  else ((if s.pd 7 = 2 ∧ !s.commitHeld then s.commitFull pPVP else s)).domainsSync

/-- Power good (R65, R135): the domain's supplies are good and its clocks granted; pending commits of its pages take effect, those that a
SOFT or LINK reset left only after DONE (R167); then the block starts. -/
def State.domainGood (s : State) (d : Nat) : State :=
  if s.pd d ≠ 1 ∨ !s.supplied d ∨ !s.clocked d then s
  else if d = 0 then (if s.yard.pstate = 3 ∧ s.yard.exit.isSome then s.coreGood else s)
  else
    let s := s.setPd d 2
    let s := if s.commitHeld then s else (domainPages d).foldl State.commitFull s
    if d = 1 then s.biasSync.senSync
    else if 2 ≤ d ∧ d ≤ 5 then s.portStart (d - 2)
    else if d = 8 then
      let s := s.solOpen s.sol.isEmpty
      if s.solc.tripLow then s.shutLost 4 else s
    else s

/-- A domain does not come up (R145). PD_CORE is opened again at the next wake or reset: an exit that was to open it ends.
DEDUCED, log 31, safe. -/
def State.domainFault (s : State) (d : Nat) : State :=
  if d = 0 ∧ !s.boot.inReset ∧ !s.boot.booting ∧ s.boot.vdd ∧ s.yard.exit.isSome ∧
      ((s.yard.pstate = 3 ∧ s.pd 0 = 1) ∨ (s.yard.pstate = 4 ∧ !s.done)) then
    let s := { s.setPd 0 0 with yard := { s.yard with exit := none } }.put YARD_PD_FAULT (s.get YARD_PD_FAULT ||| 1)
    s.clockSync.event 0x011A 0
  else if s.pd d ≠ 1 ∨ !s.supplied d then s
  else
    let s := s.setPd d 0
    let s := if d = 8 then s.put YARD_PD_FAULT8 1 else s.put YARD_PD_FAULT (s.get YARD_PD_FAULT ||| 2 ^ d)
    (s.event 0x011A d).clockSync

/-- Calibrations and overlaps in progress are abandoned; inputs return to their channels (R233). -/
def State.calAbandon (s : State) : State :=
  (List.range 2).foldl (fun s k =>
    let sl := s.slot k
    if sl.stage = 0 then s
    else
      let s := if s.parked sl.inst then s else s.put CH_STATE 0 sl.inst
      let s := if sl.offline then s else ((s.put CH_HOLDS 0xFF (32 + k)).put CH_STATE 0 (32 + k)).put CH_MATCH_OFS 0 (32 + k)
      s.slotDrop k) s

/-- The array block is off. -/
def State.pixOff (s : State) : State :=
  let s := (s.closureStop.dropOverlaps.calAbandon.calRest.disarmSlot 2).streamCut 0
  let s := s.throttleRest.put BIAS_VDET_NOW 0
  { s with fpa := { s.fpa with on := false, ramp := 0, row := 0, inFrame := false, stop := false, halt := false, tripped := false,
                               sentry := false, due := false }
           mill := { s.mill with frame := false, clearTf := true }
           sen := { s.sen with binning := false, ready := false } }

/-- A LINK0 frame that a head has not ended is cut: its next frame carries TRUNCATED_PREV (R133, R156). -/
def State.linkCut (s : State) (n : Nat) : State :=
  if n = 0 ∧ s.headEnd ∧ (s.port 0).sending then
    { s.setPort 0 { s.port 0 with sending := false } with boot := { s.boot with cutStreams := 1 } }
  else s

/-- DORMANT is reached, or a reset cuts a domain: what reaches OFF loses (R131, R571). -/
def State.domainLost (s : State) (d : Nat) : State :=
  let s := s.setPd d 0
  if d = 1 then s.pixOff.sluiceFlush 0 0
  else if 2 ≤ d ∧ d ≤ 5 then
    let n := d - 2
    let u := (s.port n).units
    let dormant := s.toDormant
    let path := s.get LINK_PATH n
    let s := ((s.linkCut n).portOff n dormant).rxSync n
    let s := if s.boot.drain.isSome then s.put LINK_PATH path n else s
    (s.sluiceFlush (1 + n) 0).sluiceFlush (5 + n) u
  else if d = 6 then s.csiOff.sluiceFlush 9 0
  else if d = 7 then s.pvpOff
  else if d = 8 then { s.actuatorsOff with sol := s.actuatorsOff.sol.map fun ch => { ch with watch := false } }
  else s

/-- What PVP has in flight (R133): its output frame, and the frames on their way into its store. -/
def State.pvpFlight (s : State) : Nat :=
  bit s.vout.raster + ((List.range 4).filter fun st => (s.stream st).pvp && s.pvpShows st).length

/-- Drop what a closing domain still holds (R133): answers how much the model holds of it. -/
def State.dropFlight (s : State) (d : Nat) : State × Nat :=
  if d = 6 then
    let k := (s.vid.filter VidS.csi).length
    ((List.range 4).foldl (fun s st =>
      let w := s.stream st
      if w.csi then
        let s := ((s.csiPut st 0x01 [w.ctr % 65535 + 1]).fillNote st).inc CSI_TRUNC 0 st
        s.setStream st { s.stream st with csi := false, cut := true }
      else s) s, k)
  else if d = 7 then
    let k := s.pvpFlight
    ((List.range 4).foldl (fun s st =>
      let w := s.stream st
      if w.pvp then
        let s := if s.pvpShows st then s.pvpDrop st 1 else s
        s.setStream st { s.stream st with pvp := false
                                          cut := (s.stream st).cut || (s.boot.drain.isSome && s.pvpShows st) }
      else s) s, k)
  else if d = 8 then
    ((List.range 4).foldl (fun s n => (s.put SOL_PENDING 0 n).toOff n false) s,
      ((List.range 4).filter fun n => s.get SOL_PHASE n != 0).length)
  else if 2 ≤ d ∧ d ≤ 5 then
    let n := d - 2
    let p := s.port n
    ((s.stallReport n).linkCut n |>.setPort n { p.dropMsgs with dropped := 0 },
      p.window.length + p.waiting.length)
  else (s, 0)

/-- Count and log what a closing domain dropped (R133, R570): once per closing. -/
def State.drainDrop (s : State) (d k : Nat) : State :=
  if k = 0 ∨ bitAt s.yard.drainLogged d then s
  else
    let s := (s.addSat YARD_DRAIN_DROP k 0 d).event 0x0116 (d + min k 0xFFF * 2 ^ 4)
    { s with yard := { s.yard with drainLogged := s.yard.drainLogged + 2 ^ d } }

/-- The drain limit passes with `inFlight` items still in flight beside those the model holds (R133). -/
def State.drainLimit (s : State) (d inFlight : Nat) : State :=
  if s.pd d ≠ 3 then s
  else let (s, k) := s.dropFlight d; s.drainDrop d (k + inFlight)

/-! ### Loss of class C (R148, R166, Table SCOPE-5) -/

/-- The block states after a loss of class C, in the shape of `s`. -/
def State.blocksIdle (s : State) : State :=
  { s with
    sol := []
    solc := { s.solc with arrivals := 0, stopped := none }
    fpa := FpaS.idle
    cal := CalS.idle
    mill := MillS.idle
    nuc := NucS.idle
    sen := SenS.idle
    link := s.link.map fun p => { LinkS.idle with kaFault := p.kaFault, kaTold := p.kaTold, kaEn := p.kaEn, wakeEn := p.wakeEn }
    vid := s.vid.map fun w => { VidS.idle with cut := w.cut }
    vout := { OutS.idle with sent := s.vout.sent }
    slu := sluIdle
    temp := { s.temp with disagree := 0, agree := 0, tjHigh := false, auxBad := false } }

/-- A live value that a loss of class C leaves (Table SCOPE-5): what the Yard holds, what the surroundings show, the power
paths, and the band that the Yard keeps (R334, R350). -/
def liveKept (k : Nat) : Bool :=
  [0x000, 0x001, 0x002, 0x003, 0x007, 0x008, 0x070, 0x071, 0x072, 0x073].contains (keyPage k) ||
  k == TEMP_BAND.key 0 0 || k == TEMP_BAND_PREV.key 0 0

/-- Every other live value shows a block at rest: no frame, no drive, no reading; BAND_NOW is the B2 set (Table REG-2A). DEDUCED, log 26, unsafe. -/
def State.loseLive (s : State) : State :=
  { s with regs := s.regs.filter fun e => keyClass e.1 != Cls.none.code || liveKept e.1 }

/-- Class C, the Loft and the shadow SRAM are lost (R148); DEFAULTED is set on every page (R166). Class V goes with it. The
power paths stand (R169, R385), and so does which Loft bank is in force (R160). DEDUCED, log 26, unsafe. -/
def State.loseC (s : State) : State :=
  let paths := (List.range 4).map fun n => s.get LINK_PATH n
  let bank := s.get MILL_ACTIVE
  let s := (((s.loseClass .c).loseClass .v).loseLive).put MILL_ACTIVE bank
  let s := (List.range 4).foldl (fun s n => s.put LINK_PATH (paths.getD n 0) n) s
  let s := { s.blocksIdle with
    loft := ⟨Image.zero, Image.zero, none, none⟩
    shadow := { s.shadow with sram := [], seconds := 0, boots := 0, scanAcc := 0, band := List.replicate 5 0, fires := List.replicate 4 0,
                              storing := none, snapshot := [] }
    log := { s.log with mirror := [], late := [], fwd := [] }
    gran := { s.gran with tornSeen := [], spareFault := false }
    parity := s.parity.filter fun e => wordHas e.1 e.2 fun r => r.cls == .y && r.stored
    hsFault := false
    boot := { s.boot with seedFault := false, imageFault := false }
    semHold := List.replicate 8 0 }
  allPages.foldl State.setDefaulted s

/-! ### The end of an array frame (R54, R185, R200, R230) -/

/-- The commits of the array pages (R54, R200, Table REG-2): FPA, BIAS and BANDSET first, then the others. -/
def State.arrayCommits (s : State) : State :=
  [0x011, 0x012, 0x052, 0x048].foldl State.commitPage s.fpaCommit.millCommit.driftCommit

/-- SENTRY's commit, which may start or stop live detection (R360, R364). -/
def State.senCommit (s : State) : State := if s.going 0x054 then (s.commitPage 0x054).senSync else s

/-- The frame that ends: its statistics, its closure frame, and the handbacks (R212, R230). -/
def State.frameEnds (s : State) : State :=
  (s.frameStats.formLine2.nucFrameEnd).handbacks

/-- An array frame boundary (R185, R230): the frame before it ends, and pending commits take effect. -/
def State.frameOver (s : State) : State := (s.frameEnds.arrayCommits.senCommit).raise 0x010 1

/-- The timing stops at a boundary (R202, R204, R231), which is one for the band set and for a bank switch too (R196, R253). Where an overload has been cleared
before it, the ramp starts again. DEDUCED, log 34, unsafe. -/
def State.timingStop (s : State) : State :=
  let s := (s.bandSwitch.1.dropOverlaps.closureStop).rampDown.switchRest
  if s.biasMay then s.rampUp else s

/-! ### Modes (R82 to R107) -/

/-- On leaving SERVICE the bias override returns to 0, a pending commit's with it (R194), and an EXTEST in force is replaced by BYPASS
(R585). DEDUCED, log 34, unsafe. -/
def State.leaveService (s : State) : State :=
  let s := if s.on BIAS_OVR then (s.put BIAS_OVR 0).setDefaulted 0x011 else s
  let s := if s.going 0x011 ∧ s.getStaged BIAS_OVR = 1 then s.stage BIAS_OVR 0 else s
  s.extestEnd

/-- The SERVICE flag of a frame whose boundary a change between LIVE and SERVICE shares (R87, R633): its lines have not left. -/
def State.serviceFlag (s : State) (service : Bool) : State :=
  if s.fpa.inFrame ∧ s.fpa.row = 0 ∧ s.mill.frame then
    let f := s.mill.flags - (if bitAt s.mill.flags 6 then 64 else 0) + bit service * 64
    { s with mill := { s.mill with flags := f, line1 := reflag s.mill.line1 f } }
  else s

/-- The mode in force changes, or a boot ends in one (R84, R105): MODE_CHANGED, the axes, the domains. A fill that is open at the entry
to SENTRY ends as FILL_ABORT ends it (R366). DEDUCED, log 36, unsafe. -/
def State.enterMode (s : State) (target cause : Nat) : State :=
  let old := s.mode
  let s := if old = SERVICE ∧ target ≠ SERVICE then s.leaveService else s
  let s := (((s.put YARD_MODE target).put YARD_MODE_TARGET target).put YARD_MODE_BUSY 0).put YARD_MODE_CAUSE cause
  let s := if old ≠ target ∧ (old = SENTRY ∨ target = SENTRY) then s.bgReset else s
  let s := { s with yard := { s.yard with trans := none }
                    fpa := if old = SENTRY ∨ target = SENTRY ∨ target = DORMANT then
                        { s.fpa with inFrame := false, row := 0, sentry := false, due := false } else s.fpa
                    sen := if old = SENTRY ∨ target = SENTRY then { s.sen with binning := false, ready := false } else s.sen }
  let s := if target = SENTRY ∧ s.fillOpen then s.endFill 0 else s
  let s := s.event 0x0110 (target + old * 2 ^ 2 + cause * 2 ^ 4 + s.get YARD_MODE_MASTER * 2 ^ 8)
  let s := ((s.serviceFlag (target == SERVICE)).axesNow true).domainsSync
  ((s.senSync.wdtSync).rechoose).noteStatus

/-- A transition begins (R84, R98): TARGET, BUSY, CAUSE. -/
def State.beginTrans (s : State) (target cause : Nat) : State :=
  let s := ((s.put YARD_MODE_TARGET target).put YARD_MODE_BUSY 1).put YARD_MODE_CAUSE cause
  { s with yard := { s.yard with trans := some ⟨target, cause, false, false⟩ } }.noteStatus

/-- A mode command has been accepted (R85, R104): it ends a WC4 service task and its automatic return. -/
def State.modeAccepted (s : State) (m : Nat) : State :=
  let task := s.yard.service.isSome
  let s := { s.put YARD_MODE_MASTER m with yard := { s.yard with service := none, autoReturn := false } }
  let s := if task && s.gran.scanning then (s.onGran fun g => { g with scanning := false }).armScan else s
  { s with yard := { s.yard with scanTask := s.yard.scanTask && s.gran.scanning, hostSlot := none } }.wdtSync

/-- Why a mode command is refused (R85, R98, R123). -/
def State.modeCheck (s : State) (target : Nat) : Option Refuse :=
  if s.busy then some ⟨cSTATE, 0, true⟩
  else if target = s.mode then none
  else if (s.mode = SENTRY ∧ target = SERVICE) ∨ (s.mode = SERVICE ∧ target = SENTRY) then some ⟨cSTATE, 4, false⟩
  else if target = DORMANT ∧ s.mode = SERVICE ∧ s.gran.cur.any (fun j => j.host && !j.ops.isEmpty) then
    some ⟨cSTATE, 8, true⟩
  else if target = DORMANT ∧ s.l4Limit.isSome then some ⟨cSTATE, 0, false⟩
  else none

/-- The block's part of a refusal (R123, R630): BUDGET_BLOCKS_DORMANT. -/
def State.modeBlocked (s : State) (target : Nat) : State :=
  if !s.busy && target != s.mode && target == DORMANT &&
      !(s.mode == SERVICE && s.gran.cur.any (fun j => j.host && !j.ops.isEmpty)) then
    match s.l4Limit with
    | some n => (s.put YARD_L4_BLOCKED 1).event 0x0114 n
    | none => s
  else s

/-- An accepted mode command (R84, R85). -/
def State.modeDo (s : State) (m target : Nat) : State :=
  let s := s.modeAccepted m
  if target = s.mode then s
  else
    let s := if target = DORMANT then s.put YARD_L4_BLOCKED 0 else s
    s.beginTrans target 0

/-! ### DORMANT (R88, R102, R131, R232, R263, R287, R385) -/

/-- The interfaces when a reset asserts or DORMANT is reached (R486, R490, Table RST-5): without a loss of class C the completion FIFOs and the
posted writes stand. DEDUCED, log 26, unsafe. -/
def HostS.cut (h : HostS) (lost : Bool) : HostS :=
  { HostS.idle with
      queues := if lost then List.replicate 4 Queue.empty else h.queues.map fun q => { Queue.empty with compl := q.compl }
      posted := if lost then [] else h.posted
      attnEvents := if lost then 0 else h.attnEvents
      attnDone := if lost then false else h.attnDone
      lastRead := h.lastRead
      tapDone := h.tapDone
      tapCode := h.tapCode
      tapData := h.tapData }

/-- A DORMANT entry or a cut ends a script run without completing it; no slot of the AUTO list starts until the next DONE (R482). -/
def State.scriptCut (s : State) : State :=
  let s := { s with host := { s.host with autoNext := 4 } }
  if s.host.script.isSome then
    let qs := s.host.queues.map fun q => match q.busy with
      | some (1 :: _) => { q with busy := none }
      | _ => q
    { s.put SEQ_RUN_STATE 0 with host := { s.host with script := none, queues := qs } }
  else s

/-- Sentry ends at once (R368): a grid that is not judged yet is dropped. -/
def State.senEnd (s : State) : State := { s with sen := { s.sen with binning := false, ready := false } }

/-- The entry to DORMANT begins: jobs end, the store runs, then the domains close. DEDUCED, log 29, unsafe. -/
def State.dormantStart (s : State) (cause : Nat) : State :=
  let scan := s.gran.scanning
  let s := ((s.scriptCut).endOp (cause != 6)).saveAbort 2 false
  let s := if s.fillOpen then s.endFill 0 else s
  let s := s.senEnd.flushTrims.dropJobs
  let s := (List.range 4).foldl State.portLatch s
  let s := (s.disarmSlot 1).disarmSlot 2
  let s := if scan then s.armScan else s
  let s := s.storeNow 1
  let s := s.put YARD_L4_BLOCKED 0
  { s with yard := { s.yard with trans := some ⟨DORMANT, cause, true, false⟩, service := none, autoReturn := false, scanTask := false, hostSlot := none
                                 i2cWake := s.on I2C_WAKE_EN, spiWake := s.on SPI_WAKE_EN } }.wdtSync.domainsSync

/-- PD_CORE has reached OFF on the way to DORMANT (R84, R116, R340): class C is gone, MODE_CHANGED is held in the Yard.
DEDUCED, log 29, unsafe. -/
def State.dormantReached (s : State) (cause : Nat) : State :=
  let old := s.mode
  let s := if old = SERVICE then s.leaveService else s
  let lat := s.link.map fun p => (p.kaEn, p.wakeEn)
  let low := s.headYard && s.get LINK_STATE 0 == 9
  let s := s.setPd 0 0
  let s := s.loseC
  let s := (((s.put YARD_MODE DORMANT).put YARD_MODE_TARGET DORMANT).put YARD_MODE_BUSY 0).put YARD_MODE_CAUSE cause
  let s := { s with
    yard := { s.yard with trans := none, pstate := 4, entering := false, exit := none, cut := cause == 6, stuck := false,
                          hostSlot := if cause = 6 then s.yard.hostSlot else none, scanTask := cause == 6 && s.yard.scanTask,
                          heldWakes := if cause = 6 then s.yard.heldWakes else 0, lostSupplies := 0 }
    link := (List.range s.link.length).map fun n =>
      let (k, w) := lat.getD n (false, false); { s.port n with kaEn := k, wakeEn := w }
    boot := { s.boot with served := false, stored := false }
    temp := { s.temp with hot := 0, released := s.temp.released || cause == 6 }
    host := s.host.cut true
    gran := { s.gran with cur := none, jobs := [], scanning := false } }
  let s := if low then s.put LINK_STATE 9 0 else s
  let s := (s.put SYS_RESET_THERMAL (bit (cause == 6))).clockSync
  s.event 0x0110 (DORMANT + old * 2 ^ 2 + cause * 2 ^ 4 + s.get YARD_MODE_MASTER * 2 ^ 8)

/-- L3 is reached (R116, R312, R634): PD_CORE is gated and HFRC stops. -/
def State.l3Reached (s : State) : State :=
  { s.holdPads with yard := { s.holdPads.yard with entering := false } }.dispLost.reachL3.coilStop.clockSync

/-- The pulses raised in the cycle in which their crossings are flushed are discarded and counted (R569); how many there are the model
leaves open. DESIGN CHOICE, log 8, safe. -/
def State.pulsesLost (s : State) : State := s.fresh.2.addSat SLUICE_PULSE_OVR s.fresh.1

/-- On the way to DORMANT out of L3 PD_CORE is off already, so that the last other domain to reach OFF ends the entry (R131, R340). -/
def State.dormantIfOff (s : State) : State :=
  match s.yard.trans with
  | some t =>
    if t.entering ∧ s.pd 0 ≤ 1 ∧ (List.range 8).all (fun i => s.pd (i + 1) == 0) ∧ !s.boot.inReset then s.dormantReached t.cause
    else s
  | none => s

/-- A closing domain reaches OFF (R131): PD_CORE last, on the way to DORMANT or to L3; PD_PIX when its bias has come to 0 V (R203). -/
def State.domainOff (s : State) (d : Nat) : State :=
  if s.pd d ≠ 3 ∨ (d = 1 ∧ (s.fpa.on ∨ s.fpa.ramp ≠ 0)) then s
  else if d = 0 then
    match s.yard.trans with
    | some t => if t.entering then s.dormantReached t.cause else if s.yard.entering then s.l3Reached else s
    | none => if s.yard.entering then s.l3Reached else s
  else (s.domainLost d).pulsesLost.outSync.dormantIfOff

/-- The return from an abandoned DORMANT entry takes effect (R102). -/
def State.entryBack (s : State) : State :=
  ({ s.put YARD_MODE_BUSY 0 with yard := { s.yard with trans := none } }).domainsSync.wdtSync.noteStatus

/-- The array's last frame before SENTRY or DORMANT ends at the boundary of the transition: handbacks, commits, then no further frame
(R230). -/
def State.lastFrame (s : State) : State :=
  if s.frameRuns && s.mode != SENTRY then
    let s := s.frameOver
    if s.fpa.stop then s.timingStop
    else { s.throttleRest with fpa := { s.fpa with inFrame := false, row := 0 }, mill := { s.mill with frame := false } }.bandRest
  else s

/-- The boundary of a transition is now (R633): after the boundary actions of a frame that a LIVE or SERVICE target starts, at the end of
the last row before SENTRY or DORMANT; at once where no frame runs. A command to DORMANT in SENTRY lets the sentry frame in progress be
judged first (R367). DEDUCED, log 29, unsafe. -/
def State.transitionMay (s : State) (target : Nat) : Bool :=
  if s.mode == SENTRY then !(target == DORMANT && (s.sen.binning || s.sen.ready))
  else !s.frameRuns || (if target == LIVE || target == SERVICE then s.fpa.row == 0 else !s.rowsLeft)

/-- The transition takes effect at its boundary (R84, R101, R633). A DORMANT entry that begins here ends with PD_CORE, and a fault
of R97 clears when a transition has ended. -/
def State.modeTransition (s : State) : State :=
  match s.yard.trans with
  | none => s
  | some t =>
    if t.entering || s.boot.booting || s.yard.exit.isSome then s
    else if !s.transitionMay t.target then s
    else
      let u := if t.target = LIVE ∨ t.target = SERVICE then s else s.lastFrame
      if u.nuc.form ≠ 0 then s
      else if t.target = DORMANT then u.dormantStart t.cause
      else
        let u := { u with yard := { u.yard with stuck := false } }
        if t.back then u.entryBack else u.enterMode t.target t.cause

/-- Domain `d` is off at once: what it still holds is dropped and counted (R97, R133). -/
def State.domainDrop (s : State) (d : Nat) : State :=
  if s.pd d = 0 then s
  else let (s, k) := s.dropFlight d; (s.drainDrop d k).domainLost d

/-- The frames that an output or LINK0 has in flight are dropped and counted, whatever their domain does (R97). -/
def State.dropFrames (s : State) : State :=
  let note := fun (s : State) (d k : Nat) =>
    if k = 0 then s
    else
      let l := s.yard.drainLogged
      { s with yard := { s.yard with drainLogged := l - (if bitAt l d then 2 ^ d else 0) } }.drainDrop d k
  let (t, csi) := s.dropFlight 6
  let (u, pvp) := t.dropFlight 7
  let link := bit (u.headEnd && (u.port 0).sending)
  (List.range 4).foldl State.streamCut (note (note (note (u.linkCut 0) 2 link) 6 csi) 7 pvp)

/-- A transition that has not ended within twice its bound is completed at once (R97): what is in flight is dropped and counted; on
the way to DORMANT the store runs, if it has not yet (R88), and every domain goes off. -/
def State.modeStuck (s : State) : State :=
  match s.yard.trans with
  | none => s
  | some t =>
    if s.boot.booting then s
    else
      let s := (s.event 0x0112 t.target).closureStop
      let dorm := t.entering || t.target == DORMANT
      let s := if dorm && !t.entering then s.dormantStart t.cause else s
      let s := if s.shadow.storing.isSome then s.finishStore else s
      let s := [6, 7, 1, 2, 3, 4, 5, 8].foldl (fun s d => if dorm || s.pd d == 3 then s.domainDrop d else s) s.dropFrames
      let s := if dorm then s.dormantReached t.cause else if t.back then s.entryBack else s.enterMode t.target t.cause
      { s with yard := { s.yard with stuck := true } }

/-! ### The return after a WC4 service (R114, R123, R510) -/

/-- The test of R123 for the automatic return: it is repeated at every re-run of the choice; a return's `first` test that fails is
logged. DEDUCED, log 29, unsafe. -/
def State.tryReturn (s : State) (first : Bool) : State :=
  if s.yard.autoReturn && s.mode == SERVICE && !s.busy then
    match s.l4Limit with
    | some n => let s := s.put YARD_L4_BLOCKED 1; if first then s.event 0x0114 n else s
    | none => { s.put YARD_L4_BLOCKED 0 with yard := { s.yard with autoReturn := false } }.beginTrans DORMANT 4
  else s

/-- L4_BLOCKED clears when the test passes (R123). -/
def State.rechooseAll (s : State) : State :=
  let s := s.rechoose
  let s := if s.on YARD_L4_BLOCKED && s.l4Limit.isNone then s.put YARD_L4_BLOCKED 0 else s
  s.tryReturn false

/-- The service task of the WC4 that led here has finished. -/
def State.serviceOver (s : State) : State :=
  match s.yard.service with
  | some _ => { s with yard := { s.yard with autoReturn := true } }.tryReturn true
  | none => s

/-- The hold of a host slot ends (R114), and with it the service, unless slot 0's scan still runs. -/
def State.holdOver (s : State) : State :=
  match s.yard.service with
  | some v =>
    if v.slot ≠ 0 ∧ v.holdLeft = 0 ∧ !s.yard.scanTask ∧ s.mode = SERVICE ∧ s.yard.autoReturn = false then s.serviceOver else s
  | none => s

/-! ### Wakes (R102, R118, R139, R174, R342) -/

/-- What MODE shows of a DORMANT exit until its mode takes effect (R110, R114): SERVICE for WC4 alone, otherwise START_MODE as it
stood when the exit began. A wake that joins after the boot turns the transition and ends the service. -/
def State.exitMode (s : State) (e : Exit) : State :=
  let wc4 := e.classes == 16
  let target := if wc4 then SERVICE else e.startMode
  let cause := if wc4 then 3 else 2
  let s := ((s.put YARD_MODE_TARGET target).put YARD_MODE_BUSY 1).put YARD_MODE_CAUSE cause
  { s with yard := { s.yard with
      trans := s.yard.trans.map fun t => { t with target := target, cause := cause }
      service := if wc4 then s.yard.service else none
      autoReturn := wc4 && s.yard.autoReturn } }

/-- The tasks that the slots of a DORMANT exit ask for (R114): slot 0 its scan, and of several host slots the longest hold.
DEDUCED, log 32, unsafe. -/
def State.noteSlot (s : State) (slot : Option Nat) : State :=
  match slot with
  | none => s
  | some k =>
    if k = 0 then { s with yard := { s.yard with scanTask := true } }
    else
      let longer := match s.yard.hostSlot with | some j => decide (s.get YARD_HOLD_S 0 j < s.get YARD_HOLD_S 0 k) | none => true
      if longer then { s with yard := { s.yard with hostSlot := some k } } else s

/-- A wake starts an exit from L4, or joins the one in progress (R114, R139). -/
def State.wakeDormant (s : State) (cls : Nat) (slot : Option Nat) : State :=
  let s := (s.wakeExit cls slot).noteSlot slot
  match s.yard.exit with
  | some e => s.exitMode e
  | none => s

/-- A head latches the classes of the last wake (R423). DEDUCED, log 31, safe. -/
def State.noteWake (s : State) (fresh : Bool) : State :=
  if s.headYard then
    match s.yard.exit with
    | some e => if e.classes = 0 then s
                else (s.put LINKC_WAKE_REASON e.classes).put LINKC_COLLIDED (if fresh then 0 else s.get LINKC_COLLIDED)
    | none => s
  else s

/-- A thermal cut holds wakes back: its entry is in progress, or Tj has not fallen below release (R102, R342). -/
def State.cutHolds (s : State) : Bool :=
  (match s.yard.trans with | some t => t.cause == 6 | none => false) ||
  (s.yard.cut && s.mode == DORMANT && s.yard.pstate == 4 && !s.boot.booting)

/-- A wake that waits until a cut is over (R102, R342). -/
def State.holdWake (s : State) (cls : Nat) (slot : Option Nat) : State :=
  let s := s.put YARD_WAKE_CAUSE (s.get YARD_WAKE_CAUSE ||| 2 ^ cls)
  let s := (match slot with | some k => s.put YARD_SLOT k | none => s).noteSlot slot
  { s with yard := { s.yard with heldWakes := s.yard.heldWakes ||| 2 ^ cls } }

/-- A DORMANT entry is abandoned by a wake (R102). -/
def State.abandonEntry (s : State) (t : Trans) (cls : Nat) : State :=
  let s := s.event 0x0111 cls
  let s := if s.pd 0 = 3 then s.setPd 0 2 else s
  let s := { s.put YARD_MODE_TARGET s.mode with yard := { s.yard with trans := some ⟨s.mode, t.cause, false, true⟩ } }
  s.domainsSync.senSync.noteStatus

/-- A wake of a class, from anywhere (R118, R139, R140, R174, R342): a boot that follows a reset serves it by itself.
DEDUCED, log 29, unsafe. DEDUCED, log 31, safe. -/
def State.wakeIn (s : State) (cls : Nat) (slot : Option Nat) : State :=
  if s.safe ∨ s.boot.inReset then s
  else if s.cutHolds then s.holdWake cls slot
  else if s.yard.exit.any fun e => e.left == 4 then s.wakeDormant cls slot
  else if s.boot.booting then s
  else if s.mode = DORMANT ∧ s.yard.pstate = 4 then s.wakeDormant cls slot
  else
    match s.yard.trans with
    | some t =>
      if t.target = DORMANT ∧ (s.pd 0 = 2 ∨ s.pd 0 = 3) then s.abandonEntry t cls
      else (s.wakeExit cls slot).domainsSync
    | none => (s.wakeExit cls slot).domainsSync

/-- A wake, and what a head notes of it (R423). -/
def State.wake (s : State) (cls : Nat) (slot : Option Nat) : State :=
  (s.wakeIn cls slot).noteWake s.yard.exit.isNone

/-- Tj falls below release after a cut (R342). DEDUCED, log 31, safe. -/
def State.thermalRelease (s : State) : State :=
  if s.yard.cut ∧ s.mode = DORMANT then
    let held := s.yard.heldWakes
    let s := { s with yard := { s.yard with cut := false, heldWakes := 0 } }
    if held = 0 then s
    else
      let slot := if bitAt held 4 then some (s.get YARD_SLOT) else none
      let e : Exit := ⟨4, s.band, held, slot, true, s.get YARD_START_MODE⟩
      ({ s with yard := { s.yard with exit := some e } }).exitMode e
  else s

/-! ### The thermal cut (R103, R124, R340, R346) -/

/-- The cut itself (R340, Table TEMP-4). In L3 PD_CORE is off, and DORMANT is reached once the domains still on are off. DEDUCED, log 29, unsafe. -/
def State.cutNow (s : State) (comparator : Bool) : State :=
  let s := s.event 0x0413 (bit comparator * 2 ^ 15 + unsigned 12 (max 0 (s.ts 0)))
  let s := match s.l4Limit with | some n => s.event 0x0114 (n + 2 ^ 15) | none => s
  let s := (((s.put YARD_MODE_TARGET DORMANT).put YARD_MODE_BUSY 1).put YARD_MODE_CAUSE 6).noteStatus
  let prof := ((List.range 4).filter fun n => s.get SOL_PHASE n != 0).length
  let s := s.actuatorsOff.closureCut.dropOverlaps
  let csi := (s.vid.filter VidS.csi).length
  let pvp := s.pvpFlight
  let s := (List.range 4).foldl State.streamCut s
  let s := s.rampDown
  let ports := (List.range 4).map fun n => (s.port n).window.length + (s.port n).waiting.length
  let s := (List.range 4).foldl (fun s n => ((s.stallReport n).linkCut n).setPort n { (s.port n).dropMsgs with dropped := 0 }) s
  let s := s.dormantStart 6
  let s := (List.range 4).foldl (fun s n => s.drainDrop (2 + n) (ports.getD n 0)) s
  let s := ((s.drainDrop 6 csi).drainDrop 7 pvp).drainDrop 8 prof
  s.dormantIfOff

/-- The cut's condition arises (R340, R346): during a boot it waits for DONE, in L4 the comparator is not armed. -/
def State.thermalCut (s : State) (comparator : Bool) : State :=
  if s.safe || s.boot.inReset || (s.mode == DORMANT && s.yard.pstate == 4 && !s.boot.booting) ||
      s.get YARD_MODE_CAUSE == 6 && s.busy then s
  else if !comparator && s.temp.hot < 2 && !s.allTsBad then s
  else if s.boot.booting then { s with boot := { s.boot with cut := some (s.boot.cut.getD comparator) } }
  else s.cutNow comparator

end Sys2Proof.Machine
end

