-- ==== Sys2Proof/Machine/Array.lean ====
section
/-! DEFINITION. The array frame: the boundary's steps in their order (R185, R200, R230, R259, R260, R379) and the rows, each
integrated in its own period and converted in the next (R186, R197, R211, R242, R265, R353, R360). -/

namespace Sys2Proof.Machine

/-- A frame may start: after DONE (R207), the timing runs in an open domain and on its clock, every row of the last frame has started,
and the mode produces frames: LIVE and SERVICE, and SENTRY when slot 2 has made one due (R188, R230, R351). -/
def State.boundaryMay (s : State) : Bool :=
  s.done && s.fpa.on && s.pd 1 == 2 && s.granted 2 && !s.rowsLeft &&
    (s.runMode == LIVE || s.runMode == SERVICE || (s.runMode == SENTRY && s.fpa.due && s.get HDR_EN 0x054 == 1))

/-- Flags of Table MILL-8 that the local stream sets. DEDUCED, log 30, unsafe. -/
def State.frameFlags (s : State) (rep bandSw bankSw : Bool) : Nat :=
  bit rep + bit (s.nuc.form != 0 || s.nuc.bootPulse) * 2 ^ 2 + bit (s.degraded != 0) * 2 ^ 3 +
  bit (s.on TEMP_ACTIVE) * 2 ^ 5 + bit (s.mode == SERVICE) * 2 ^ 6 + bit (s.on FPA_TFPA_BAD) * 2 ^ 7 +
  bit bandSw * 2 ^ 8 + bit bankSw * 2 ^ 9 + bit (s.on MILL_TF_EN) * 2 ^ 10

/-- What is latched for the frame that starts (R196, R200, R248, R335, Table REG-2A); answers whether the band set changed. -/
def State.frameLatch (s : State) : State × Bool :=
  let (s, bandSw) := s.bandSwitch
  let s := { s with fpa := { s.fpa with millOn := s.get HDR_EN 0x050 == 1, driftOn := s.get HDR_EN 0x051 == 1,
                                        nucOn := s.get HDR_EN 0x052 == 1 } }
  let s := s.throttleAt
  let s := (if s.fpa.tripped then s else s.put BIAS_VDET_NOW s.vdetIdle).axesAt false true
  ({ s with mill := { s.mill with tfpa := s.tfpa } }.domainsSync, bandSw)

/-- The Millrace's steps and the NUC's (R230, R253, R255, R259, R260, R272, R278, R287, R366); answers whether the bank
switched. -/
def State.frameOrder (s : State) : State × Bool :=
  let s := s.closureJudge.closureMayEnd
  let mayswitch := s.switchDue && !s.updating && s.mode != SENTRY
  let (s, sw) := if mayswitch then (s.saveAbort 2 true).bankSwitch else (s, false)
  let s := (s.clearings.driftEval.retryTick.nucFirstT).confUpdate
  let s := (s.closureStart sw).saveRestart
  (if s.runMode = SENTRY then s else s.schedule, sw)

/-- The frame counter (R156, R252): the first frame after a loss of class C is 0. -/
def State.countFrame (s : State) : State :=
  if s.mill.started then s.incWrap MILL_FRAME_COUNT else { s with mill := { s.mill with started := true } }

/-- The Millrace takes a frame: counter, flags, lines, sentry bins, and the streams that carry it (R251, R252, R353, R360,
R379). A REPEAT frame has no V6 values, so that a live detection waits for the frame after it. DEDUCED, log 50, unsafe. -/
def State.frameTaken (s : State) (sentry bandSw bankSw stallHeld : Bool) : State :=
  let rep := s.nucRepeat
  let s := s.countFrame
  let s := { s with mill := { s.mill with rep := rep, frame := true, flags := s.frameFlags rep bandSw bankSw,
                                          causes := s.degraded, stats := Stats.zero, blind := [], prev := [],
                                          prevOut := [], cn := [] } }
  let s := { s with mill := { s.mill with line1 := s.lineOne, line2 := if rep then s.mill.linePix else s.mill.line2 } }
  let live := s.sen.liveDue && !sentry && !rep && s.on SENTRY_LIVE_DET && s.get HDR_EN 0x054 == 1
  let s := if sentry || live then { s.senFrame with sen := { s.senFrame.sen with liveDue := false } }
    else { s with sen := { s.sen with binning := false } }
  if sentry then s else (s.headStart stallHeld).streamStart 0 (s.get MILL_FRAME_COUNT) true

/-- FPA_FSYNC rises (R185, R230, R259): a frame starts, or the timing stops where that has been asked for (R202, R204).
DEDUCED, log 13, unsafe. DEDUCED, log 34, unsafe. -/
def State.arrayBoundary (s : State) (vetoPin stallHeld : Bool) : State :=
  if !s.boundaryMay then s
  else
    let s := { s.quiet with nuc := { s.nuc with pin := vetoPin } }
    let s := s.frameOver
    if s.fpa.stop then s.timingStop
    else
      let (s, bandSw) := s.frameLatch
      let (s, bankSw) := s.frameOrder
      let sentry := s.runMode == SENTRY
      let s := { s with fpa := { s.fpa with row := 0, inFrame := true, sentry := sentry, due := false } }
      if s.fpa.millOn then s.frameTaken sentry bandSw bankSw stallHeld
      else { s with mill := { s.mill with frame := false, rep := false } }

/-! ### Rows -/

/-- Units lost at the readout's Sluice (R265, R561). DEDUCED, log 36, unsafe. -/
def State.rowLoss (s : State) (r : RowIn) : State :=
  if r.lost.isEmpty then s.sluiceEmpty 0 else (s.sluiceOver 0 r.lost.length).sluicePeak 0 (s.get SLUICE_DEPTH 0 0)

/-- A blind row is converted (R211, R243). -/
def State.blindIn (s : State) (r : RowIn) (q : Nat) : State :=
  let s := s.overlapRow r
  let s := if s.mill.frame then ((s.rowLoss r).countLost r q).blindRow r q else s
  if q = 7 then
    let s := (s.matchLatch 0).matchLatch 1
    if s.mill.frame then
      let s := s.formRef
      if s.fpa.sentry then s else ((s.headEmb).streamEmb1 0 s.mill.line1).streamEmb2 0 s.mill.line2
    else s
  else s

/-- A pixel's value for the sentry bins: `none` where it is BAD, CLIP or missing (R354, R369). -/
def senPix (bad clip : Bool) (x : Int) : Option Int := if bad || clip then none else some x

/-- An active row of a sentry frame (R353, R354, R369). -/
def State.sentryRow (s : State) (r : RowIn) (a : Nat) (fs : List Front) : State :=
  s.senRow a (fs.map fun f => senPix (f.coef.bad || f.lost) f.pipe.clip f.xs) (!r.lost.isEmpty)

/-- An active row of a frame with pixels: stages 4 to 6, statistics, and the word's way out (R242, R250, R360, R399); a row that input loss
has taken whole is a missing line of the outputs (R441). -/
def State.liveRow (s : State) (r : RowIn) (a : Nat) (fs : List Front) : State :=
  let (ps, s) := s.backEnd r a fs
  let os := s.rowOut r ps
  let ws := s.rowWords r ps os
  let s := s.countRow fs ps os
  let s := { s with mill := { s.mill with prevOut := os.map Prod.fst }
                    freeCtr := s.freeCtr + if a = 0 ∧ !r.lost.isEmpty then s.width else 0 }
  let s := s.senRow a ((List.range ps.length).map fun c =>
    match ps[c]? with | some p => senPix (p.bad || r.lost.contains c) p.clip p.v | none => none) (!r.lost.isEmpty)
  let px := ws.map (· % 2 ^ 16)
  let s := s.headRow a r.stall px
  if (List.range s.width).all r.lost.contains then s.streamGap 0 a else s.streamRow 0 a px

/-- An active row is converted; `meas`: it is a measured row of a closure (R277). A REPEAT frame sends no pixel lines. -/
def State.activeIn (s : State) (r : RowIn) (a : Nat) (meas : Bool) : State :=
  if !s.mill.frame then s
  else
    let s := (s.rowLoss r).countLoss r a
    let fs := (List.range s.width).map (s.front r a)
    let s := if meas then s.nucRow a fs else s
    let s := if s.fpa.sentry then s.sentryRow r a fs else if s.mill.rep then s else s.liveRow r a fs
    if a + 1 = s.height ∧ s.fpa.sentry = false then ((s.headFrameEnd s.mill.rep).streamEnd 0 none true).outSync else s

/-- What reaches the Millrace of a row: nothing while a debug halt stops it (R587). DEDUCED, log 46, unsafe. -/
def State.rowHalted (s : State) (r : RowIn) : RowIn := if s.on PIN_TAP_HALT then { r with lost := List.range s.width } else r

/-- FPA_ROWCLK rises on row period `i` (R186): what the period starts, and the conversion of the row before. -/
def State.rowAt (s : State) (r : RowIn) (i : Nat) : State :=
  let r := s.rowHalted r
  let meas := s.nuc.integ
  let s := s.nucRowStart i
  let s := if i = 9 then (s.takeInput 0).takeInput 1 else s
  if 1 ≤ i ∧ i ≤ 8 then s.blindIn r (i - 1)
  else if 9 ≤ i ∧ i ≤ s.height + 8 then
    let last := s.fpa.sentry && i == s.height + 8
    let s := s.activeIn r (i - 9) meas
    if last then s.schedule else s
  else if i = s.height + 14 then s.diode r.diode
  else s

/-- The last row period of a sentry frame ends (R351): no stretch follows, and the array rests until slot 2 fires again. What waits for a
boundary takes effect, since no frame brings one (R10, R202); a GO on SENTRY waits for the next sentry frame (R364).
DEDUCED, log 34, unsafe. -/
def State.sentryEnd (s : State) : State :=
  let s := { s.quiet with fpa := { s.fpa with inFrame := false, row := 0 } }.arrayCommits
  let s := if s.senFrames then s else s.senCommit
  (if s.fpa.stop then s.timingStop else s.bandRest).clockSync

/-- A row period starts (R185), or the array stops after the last one (R203). After the last row period of a sentry frame the next
row's instant is that frame's end. DESIGN CHOICE, log 11, safe. DEDUCED, log 34, unsafe. -/
def State.rowStart (s : State) (r : RowIn) : State :=
  if s.fpa.halt then (s.quiet.dropOverlaps.rampDown).clockSync
  else if s.rowsLeft then
    let i := s.fpa.row
    ({ s.quiet with fpa := { s.fpa with row := i + 1 } }).rowAt r i
  else if s.fpa.sentry && s.frameRuns then s.sentryEnd
  else s

/-- BIAS_RAMP_DONE (R202): with the ramp of a closing PD_PIX the domain is OFF (R203). -/
def State.rampOver (s : State) : State :=
  let ramps := s.fpa.ramp != 0
  let s := s.rampEnd
  if ramps && s.pd 1 == 3 then s.domainOff 1 else s.clockSync

end Sys2Proof.Machine
end

