-- ==== Sys2Proof/Machine/Reset.lean ====
section
/-! DEFINITION. The six reset kinds, from their triggers to the internal reset (R148 to R156, R167, R170, R177, R486, R517). -/

namespace Sys2Proof.Machine

/-- The kinds of Table RST-1, strongest first, as their cause bits; 6 is a DORMANT exit in LAST. -/
def kPOR : Nat := 0
def kBOR : Nat := 1
def kPIN : Nat := 2
def kWDT : Nat := 3
def kSOFT : Nat := 4
def kLINK : Nat := 5
def kEXIT : Nat := 6

/-- The strongest kind of a mask. DEDUCED, log 26, unsafe. -/
def strongest (mask : Nat) : Nat := ((List.range 6).find? (bitAt mask)).getD kEXIT

/-- A kind asserts (R149): its cause bit, and LAST as the strongest since the last boot began.
DEDUCED, log 26, unsafe. -/
def State.markKind (s : State) (k : Nat) : State :=
  let a := s.boot.asserted ||| 2 ^ k
  ({ s with boot := { s.boot with asserted := a } }.put SYS_RESET_CAUSE (s.get SYS_RESET_CAUSE ||| 2 ^ k)).put
    SYS_RESET_LAST (strongest a)

/-- The TAP goes to Test-Logic-Reset: IDCODE, no EXTEST, no halt (R170, R584, R587). -/
def State.tapRest (s : State) : State :=
  { ((s.put PIN_TAP_IR 2).put PIN_TAP_HALT 0).put PIN_TAP_EXTEST 0 with wdt := { s.wdt with dbgHalt := false } }

/-- The internal reset is asserted: what every kind leaves (R110, R162, R167, R178, R587). DEDUCED, log 26, unsafe. -/
def State.assertRest (s : State) (lost : Bool) : State :=
  let s := s.dispLost
  let s := (List.range 8).foldl (fun s i => s.setPd (i + 1) 0) (s.setPd 0 1)
  let s := if s.host.script.isSome then s.put SEQ_RUN_STATE 0 else s
  let s := (s.disarmSlot 1).disarmSlot 2
  let s := (((s.put WDT_MISSED 0).put CLK_GRANT 0).put PIN_TAP_HALT 0).put SEQ_BOOT_DONE 0
  { s with
    yard := { s.yard with pstate := 0, entering := false, exit := none, trans := none, service := none,
                          autoReturn := false, cut := false, heldWakes := 0, hostSlot := none, scanTask := false, drainLogged := 0, lostSupplies := 0 }
    wdt := { s.wdt with running := false, dbgHalt := false, expiring := false }
    boot := { s.boot with inReset := true, booting := false, served := false, stored := false, waiting := none }
    host := s.host.cut lost
    shadow := { s.shadow with storing := none, pfCommitted := false }
    gran := { s.gran with cur := none, jobs := [], scanning := false }
    mill := { s.mill with last := none }
    temp := { s.temp with hot := 0 } }

/-- A kind that loses class C asserts (R148, R156, R405, R571): the writes that the Yard has not taken are discarded, and a head's session
ends with its port's domain.
DEDUCED, log 26, unsafe. -/
def State.assertLost (s : State) (k : Nat) : State :=
  let n := s.host.posted.length
  let s := ((s.markKind k).linkCut 0).quiet.dispLost
  let s := if s.headEnd ∧ s.get LINK_SES_STATE 0 ≠ 0 then s.advanceEpoch 3 else s
  let s := s.loseC.assertRest true
  let s := { s with boot := { s.boot with drain := none } }
  if n = 0 then s else s.event 0x0C11 (0xF + n * 2 ^ 4)

/-- What runs in the Granary before the internal reset of PIN, WDT, SOFT and LINK (Table RST-2, R155, R287, R516, R517): a store that
power-fail has committed and a page program are completed, an erase is abandoned, every job is dropped. -/
def State.granStop (s : State) : State :=
  let s := if s.pfStoring then s.finishStore else s.storeStop
  ((s.endOp false).saveAbort 2 false).dropJobs

/-- What the surroundings of the device show, whatever resets. -/
def State.keepPins (s t : State) : State :=
  [SYS_PIN_NOW, PIN_VBAT_LOW, PIN_VBAT_HIGH, PIN_VDDIO_3V3, I2C_SDA_HELD].foldl (fun t r => t.put r (s.get r)) t

/-- POR_AON (R148, R153, R159): everything but the Granary is at reset. DESIGN CHOICE, log 10, unsafe. -/
def State.porAon (s : State) : State :=
  if s.pfStoring then s
  else
    let c := s.cutOp
    let t := { State.reset with
      pending := s.pending
      freeCtr := c.freeCtr
      gran := { c.gran with cur := none, jobs := [], scanning := false, tornSeen := [], spareFault := false }
      boot := { State.reset.boot with vdd := s.boot.vdd, vdda := s.boot.vdda, vddio := s.boot.vddio, vddphy := s.boot.vddphy }
      solc := { State.reset.solc with tripLow := s.solc.tripLow } }
    (s.keepPins t).put I2C_SDA_HELD 0

/-- BOR_CORE (R148, R150, R153, R170): armed while PD_CORE is powered or in L3. In L4 VDD may go, and an exit waits for it.
DEDUCED, log 27, unsafe. -/
def State.borCore (s : State) : State :=
  if s.pfStoring then s
  else if !(s.boot.inReset || s.pd 0 == 1 || s.pd 0 == 2 || s.yard.pstate == 3) then
    (if s.yard.pstate = 4 then { s with boot := { s.boot with vdd := false } } else s)
  else (s.cutOp.tapRest).assertLost kBOR

/-- PIN (R153, R174). -/
def State.pinReset (s : State) : State := s.granStop.assertLost kPIN

/-- WDT (R153, R154): the switches go off, WDT_RESET is logged, the shadow is stored, the reset follows.
DEDUCED, log 26, unsafe. -/
def State.wdtReset (s : State) : State :=
  let s := (s.actuatorsOff.granStop).event 0x0021 (s.get WDT_COUNT)
  s.storeWdt.assertLost kWDT

/-- Every domain but PD_CORE is off. -/
def State.drained (s : State) : Bool := (List.range 8).all fun i => s.pd (i + 1) == 0

/-- SOFT and LINK assert once the domains have drained (R153, R165, R167, R233, R371, R486).
DEDUCED, log 26, unsafe. -/
def State.softGo (s : State) : State :=
  if s.boot.drain.isSome ∧ !s.boot.inReset ∧ s.drained then
    let s := (s.granStop.calAbandon).bgReset
    let s := s.orphanAll 0 4
    let s := vPages.foldl State.setDefaulted (s.loseClass .v)
    s.assertRest false
  else s

/-- A SOFT or LINK reset is accepted (R151, R152, R177): the domains drain; a request that finds one draining is merged.
DEDUCED, log 54, unsafe. -/
def State.softReset (s : State) (k : Nat) (image : Bool) : State :=
  if s.boot.inReset then s
  else
    let s := s.markKind k
    let s := { s with boot := { s.boot with drain := some (image || s.boot.drain.getD false) }
                      yard := { s.yard with trans := none } }
    s.senEnd.domainsSync.softGo

end Sys2Proof.Machine
end

