-- ==== Sys2Proof/Machine/Cmdq.lean ====
section
/-! DEFINITION. The command queues (R473 to R478) and the sequencer's scripts (R479 to R482): items in, completions out. -/

namespace Sys2Proof.Machine

/-- Queue `q`: 0 Q_SEQ, 1 Q_SPI, 2 Q_I2C, 3 Q_LINK; its master has the same number (R473). -/
def State.queue (s : State) (q : Nat) : Queue := s.host.queues.getD q Queue.empty

/-- Replace queue `q`. -/
def State.setQueue (s : State) (q : Nat) (x : Queue) : State :=
  { s with host := { s.host with queues := s.host.queues.set q x } }

/-- Words held (LEVEL): complete items not yet started and a partial item. -/
def Queue.level (x : Queue) : Nat := x.items.foldl (fun a i => a + i.length) x.part.length

/-- Words free (FREE): 64 less the words held and the words reserved for the rest of a partial item (R474). -/
def Queue.free (x : Queue) : Nat := 64 - x.level - (x.need - x.part.length)

/-- The fields of an item's header (R474). -/
def itemOp (i : List Nat) : Nat := bitsOf (i.headD 0) 24 8
def itemLen (i : List Nat) : Nat := bitsOf (i.headD 0) 16 8
def itemTag (i : List Nat) : Nat := bitsOf (i.headD 0) 0 16

/-- The payload lengths of Table CMDQ-1 and, for Q_SEQ, Table SEQ-2. -/
def lenOk (q op l : Nat) : Bool :=
  if op = 0x01 then 2 ≤ l && l ≤ 63
  else if op = 0x02 then l == 3
  else if op = 0x03 then l == 4
  else if op = 0x04 ∨ op = 0x05 ∨ op = 0x10 ∨ op = 0x11 ∨ op = 0x12 then l == 1
  else if op = 0x20 then q == 0 && l == 2
  else if op = 0x21 then q == 0 && l == 1
  else false

/-- An item that has no effect: the code it completes with (R474). -/
def trivialCode (q : Nat) (i : List Nat) : Option Nat :=
  if itemLen i = 0 then some cEMPTY
  else if itemLen i > 63 ∨ !lenOk q (itemOp i) (itemLen i) then some cRANGE
  else none

/-! ### Scripts (R479 to R482) -/

/-- The script area's first offset, and its size. -/
def scriptBase : Nat := 0x00C000
def scriptSize : Nat := 0x4000

/-- The directory entry of a script id (Table SEQ-1). -/
def State.scriptEntry (s : State) (id : Nat) : Option Nat :=
  (List.range 32).find? fun e => s.gran.word (scriptBase + 16 * e) % 2 ^ 16 == id

/-- Cut a script body into its items (R474, R479). The last one lacks words where the body ends inside it.
DEDUCED, log 45, unsafe. -/
def cutItems : Nat → List Nat → List (List Nat)
  | 0, _ => []
  | _, [] => []
  | f + 1, h :: ws =>
    let l := bitsOf h 16 8
    (h :: ws.take l) :: cutItems f (ws.drop l)

/-- A run has ended (R481): RUN_STAT, the interrupt and SEQ_SCRIPT_END. -/
def State.runOver (s : State) (state code : Nat) : State :=
  match s.host.script with
  | none => s
  | some r =>
    let s := ((s.put SEQ_RUN_STATE state).put SEQ_RUN_INDEX r.index).put SEQ_RUN_CODE code
    let s := { s with host := { s.host with script := none } }
    (s.event 0x0B14 (r.entry + state * 2 ^ 5 + code * 2 ^ 8)).raise 0x00B 1

/-- A run starts (R480): the parameters are sampled; a body that fails its checks ends the run with CHECK_FAIL. -/
def State.runStart (s : State) (id e : Nat) : State :=
  let at_ := scriptBase + 16 * e
  let off := s.gran.word (at_ + 4)
  let len := s.gran.word (at_ + 8)
  let params := (List.range 8).map fun i => s.get SEQ_PARAM 0 i
  let ok := off % 4 == 0 && 0x200 ≤ off && len % 4 == 0 && 4 ≤ len && len ≤ 15872 && off + len ≤ scriptSize
  let s := (s.put SEQ_RUN_STATE 1).put SEQ_RUN_ID id
  let good := ok && crc32 (s.gran.bytes (scriptBase + off) len) == s.gran.word (at_ + 12)
  let words := if good then (List.range (len / 4)).map fun i => s.gran.word (scriptBase + off + 4 * i) else []
  let s := { s with host := { s.host with script := some ⟨e, params, cutItems words.length words, 0, false⟩ } }
  if good then s else s.runOver 4 cCHECK

/-- Why a write of SEQ.RUN is refused (R480). -/
def State.runCheck (s : State) (id : Nat) : Option Refuse :=
  if s.host.script.isSome then some ⟨cBUSY, 0, false⟩
  else if id = 0 ∨ id = 0xFFFF ∨ (s.scriptEntry id).isNone then some ⟨cRANGE, 0, false⟩
  else none

/-- The next script of the AUTO list starts once no run is in progress (R482). -/
def State.autoRun : Nat → State → State
  | 0, s => s
  | f + 1, s =>
    if s.host.script.isSome ∨ s.host.autoNext ≥ 4 then s
    else
      let id := s.get SEQ_AUTO 0 s.host.autoNext
      let s := { s with host := { s.host with autoNext := s.host.autoNext + 1 } }
      if id = 0 ∨ (s.runCheck id).isSome then s.autoRun f
      else (s.runStart id ((s.scriptEntry id).getD 0)).autoRun f

/-- A script's item has ended (R481). DEDUCED, log 45, unsafe. -/
def State.scriptItemEnd (s : State) (code : Nat) (notMet : Bool) : State :=
  match s.host.script with
  | none => s
  | some r =>
    if notMet then s.runOver 5 0
    else if code ≠ cOK ∧ code ≠ cEMPTY then s.runOver 3 code
    else
      let rest := r.items.drop 1
      if r.stop then s.runOver 3 0
      else if rest.isEmpty then s.runOver 2 code
      else { s with host := { s.host with script := some { r with items := rest, index := r.index + 1 } } }

/-! ### Completions (R475, R476) -/

/-- An item of queue `q` ends (R476). A script's results go to RUN_STAT alone (R481). -/
def State.itemEnd (s : State) (q : Nat) (script : Bool) (i : List Nat) (code : Nat) (flushed met : Bool) (result : Nat) : State :=
  let s := s.inc CMDQ_EXECUTED 0 q
  if script then s.scriptItemEnd code (itemOp i == 0x03 && !met && itemLen i != 0 && code == cOK)
  else
    let x := s.queue q
    (s.setQueue q { x with compl := x.compl ++ [⟨itemTag i, code, flushed, met, result % 2 ^ 32⟩] }).raise 0x00A (2 ^ q)

/-- The item of queue `q` that may execute next, and whether a script feeds it (R475, R476, R587). -/
def State.itemNext (s : State) (q : Nat) : Option (Bool × List Nat) :=
  let x := s.queue q
  if x.busy.isSome ∨ s.on PIN_TAP_HALT then none
  else match x.items with
    | i :: _ => if x.compl.length < 16 then some (false, i) else none
    | [] =>
      if q = 0 then
        match s.host.script with
        | some r => match r.items with
          | i :: _ => if i.length = 1 + itemLen i then some (true, i) else none
          | [] => none
        | none => none
      else none

/-- Take a port's item out of its queue; a script's item stays with its run until it ends. -/
def State.itemTake (s : State) (q : Nat) (script : Bool) : State :=
  if script then s else let x := s.queue q; s.setQueue q { x with items := x.items.drop 1 }

/-- The next executable item in the cyclic order, starting after the queue served last (R475): queue, script, words. -/
def State.itemTurn (s : State) : Option (Nat × Bool × List Nat) :=
  ((List.range 4).map fun k => (s.host.lastQueue + 1 + k) % 4).findSome? fun q => (s.itemNext q).map fun e => (q, e.1, e.2)

/-- An item without effect ends. -/
def State.itemVoid (s : State) (q : Nat) (script : Bool) (i : List Nat) (code : Nat) : State :=
  ((s.itemTake q script).itemEnd q script i code false false 0).autoRun 4

/-- Empty items complete at once when they are next in their queue (R474); `f` bounds how many. -/
def State.settleQueue : Nat → Nat → State → State
  | 0, _, s => s
  | f + 1, q, s =>
    match s.itemNext q with
    | none => s
    | some (script, i) => if itemLen i = 0 then (s.itemVoid q script i cEMPTY).settleQueue f q else s

/-- Empty items of every queue complete. -/
def State.settleEmpty (s : State) : State := (List.range 4).foldl (fun s q => s.settleQueue 4096 q) s

/-- Items that are rejected for their opcode or length complete in their turn of the cyclic order (R474, R475). -/
def State.settleTurns : Nat → State → State
  | 0, s => s
  | f + 1, s =>
    match s.itemTurn with
    | none => s
    | some (q, script, i) =>
      match trivialCode q i with
      | none => s
      | some code => (({ s with host := { s.host with lastQueue := q } }.itemVoid q script i code).settleEmpty).settleTurns f

/-- Every queue after a change: a run that was stopped between items ends (R481). DEDUCED, log 45, unsafe. -/
def State.settle (s : State) : State :=
  let s := match s.host.script with
    | some r => if r.stop ∧ (s.queue 0).busy.isNone then (s.runOver 3 0).autoRun 4 else s
    | none => s.autoRun 4
  s.settleEmpty.settleTurns 4096

/-! ### The ports (R473, R474, R478) -/

/-- A header arrives (R474): it is accepted where its words are free. Answers the refusal. -/
def State.headerIn (s : State) (q w : Nat) : State × Option Refuse :=
  let x := s.queue q
  let l := bitsOf w 16 8
  if 1 + l ≤ x.free then
    if l = 0 then ((s.setQueue q { x with items := x.items ++ [[w]] }), none)
    else (s.setQueue q { x with part := [w], need := 1 + l }, none)
  else
    let s := (s.inc CMDQ_HDR_REFUSED 0 q).setQueue q { x with resync := l }
    ((s.event 0x0A10 (q + x.free * 2 ^ 8)).raise 0x00A 0x100, some ⟨cBUSY, 0, false⟩)

/-- A word written to DATA would be refused (R474). -/
def State.dataCheck (s : State) (q w : Nat) : Option Refuse :=
  let x := s.queue q
  if x.waitStart ∨ x.resync ≠ 0 ∨ x.part ≠ [] then none
  else if 1 + bitsOf w 16 8 ≤ x.free then none else some ⟨cBUSY, 0, false⟩

/-- A word written to DATA (R473, R474, R477). A refused header has its effects too. -/
def State.dataIn (s : State) (q w : Nat) : State :=
  let x := s.queue q
  if x.waitStart then s.inc CMDQ_PARTIAL_DISCARD 0 q
  else if x.resync ≠ 0 then (s.inc CMDQ_PARTIAL_DISCARD 0 q).setQueue q { x with resync := x.resync - 1 }
  else if x.part = [] then (s.headerIn q w).1.settle
  else
    let p := x.part ++ [w]
    if p.length = x.need then (s.setQueue q { x with items := x.items ++ [p], part := [], need := 0 }).settle
    else s.setQueue q { x with part := p }

/-- START ends RESYNC and WAIT_START and discards a partial item (R478). -/
def State.startClear (s : State) (q : Nat) : State :=
  let x := s.queue q
  (s.addSat CMDQ_PARTIAL_DISCARD x.part.length 0 q).setQueue q { x with part := [], need := 0, resync := 0, waitStart := false }

/-- A word written to START (R478). -/
def State.startIn (s : State) (q w : Nat) : State := ((s.startClear q).headerIn q w).1.settle

/-- A header written to START would be refused (R474, R478). -/
def State.startCheck (s : State) (q w : Nat) : Option Refuse :=
  if 1 + bitsOf w 16 8 ≤ ((s.startClear q).queue q).free then none else some ⟨cBUSY, 0, false⟩

/-- WAIT or POLL of queue `q` ends at once (R477, R481). A POLL's result is the last value it read (Table CMDQ-1). -/
def State.busyCut (s : State) (q : Nat) (flushed : Bool) : State :=
  let x := s.queue q
  match x.busy with
  | none => s
  | some (2 :: _) => s
  | some (b :: i) => (s.setQueue q { x with busy := none }).itemEnd q (b == 1) i cOK flushed false (if itemOp i = 0x03 then x.last else 0)
  | some [] => s.setQueue q { x with busy := none }

/-- The producer's interface may be part-way through a word for a port of queue `q` that would be taken as a header (R477): an open SPI
transaction whose words have not come, or a write on the two-wire bus at the port. No command says so. -/
def State.midHeader (s : State) (q : Nat) : Bool :=
  let x := s.queue q
  x.part.isEmpty && x.resync == 0 &&
  ((q == 1 && s.host.spiTxn == some 0) ||
   (q == 2 && s.host.i2cTxn == some false && (s.host.i2cPtr == 0x4000A180 || s.host.i2cPtr == 0x4000A184)))

/-- WAIT_START is entered where a header word is part-way in (R477): a free value where it may be. DESIGN CHOICE, log 8, safe. -/
def State.waitStart (s : State) (q : Nat) : State :=
  if s.midHeader q then
    let (b, s) := s.fresh
    s.setQueue q { s.queue q with waitStart := (s.queue q).waitStart || b % 2 == 1 }
  else s

/-- FLUSH (R477). -/
def State.flush (s : State) (q : Nat) : State :=
  let s := s.waitStart q
  let x := s.queue q
  let k := x.items.length
  let s := (s.addSat CMDQ_FLUSHED_ITEMS k 0 q).setQueue q { x with items := [], flushing := true, removed := x.removed + k }
  let s := s.busyCut q true
  let x := s.queue q
  (if x.part = [] then s else s.setQueue q { x with part := [], resync := x.need - x.part.length, need := 0 }).settle

/-- A flush ends once neither RESYNC nor WAIT_START remains (R477). -/
def State.flushDone (s : State) (q : Nat) : State :=
  let x := s.queue q
  if x.flushing ∧ x.resync = 0 ∧ !x.waitStart then
    let s := (s.put CMDQ_FLUSH_DONE 1 0 q).setQueue q { x with flushing := false, removed := 0 }
    (s.event 0x0A11 (q + min x.removed 0xFF * 2 ^ 8)).raise 0x00A (2 ^ (4 + q))
  else s

/-- POP (R476). -/
def State.complPop (s : State) (q : Nat) : State :=
  let x := s.queue q
  (s.setQueue q { x with compl := x.compl.drop 1 }).settle

/-- Why a port write is refused (R473): only the queue's own master, and never M4. -/
def portCheck (m q : Nat) : Option Refuse := if m = q then none else some ⟨cOWNER, 0, false⟩

/-- SEQ.STOP (R481): the run ends after the item in progress; WAIT, WAIT_P and POLL end at once. -/
def State.seqStop (s : State) : State :=
  match s.host.script with
  | none => s
  | some r =>
    let s := { s with host := { s.host with script := some { r with stop := true } } }
    match (s.queue 0).busy with
    | some (1 :: _) =>
      let x := s.queue 0
      (((s.setQueue 0 { x with busy := none }).inc CMDQ_EXECUTED 0 0).runOver 3 0).settle
    | _ => s.settle

end Sys2Proof.Machine
end

