-- ==== Sys2Proof/Machine/Access.lean ====
section
/-! DEFINITION. What a register word reads as, and the checks of Table REG-4 that every page shares (R46 to R78, R563). -/

namespace Sys2Proof.Machine

/-! ### Reading -/

/-- A page's block has an operation in progress (STATUS.BUSY, Table REG-3). DEDUCED, log 18, unsafe. -/
def State.blockBusy (s : State) (p : Nat) : Bool :=
  if p = 0x001 then s.busy
  else if p = 0x008 then s.host.i2cTxn.isSome || s.host.attnTries != 0
  else if p = 0x009 then s.host.spiTxn.isSome
  else if p = 0x00A then s.queueHolds
  else if p = 0x00B then s.boot.booting || s.host.script.isSome
  else if p = 0x010 then s.fpa.on
  else if p = 0x011 then s.fpa.ramp != 0
  else if 0x020 ≤ p ∧ p ≤ 0x041 then s.calibrating (p - 0x020)
  else if p = 0x048 then s.cal.slots.any fun sl => sl.stage != 0
  else if p = 0x050 then s.fillOpen
  else if p = 0x052 then s.get NUC_STATE != 0
  else if p = 0x053 then s.vid.any VidS.live
  else if p = 0x054 then s.sen.binning
  else if 0x060 ≤ p ∧ p ≤ 0x063 then s.get SOL_PHASE (p - 0x060) != 0
  else if p = 0x064 then s.on BOOST_RUN
  else if p = 0x065 then s.nuc.form != 0 || (s.nuc.bootPulse && !s.nuc.bootFail)
  else if 0x070 ≤ p ∧ p ≤ 0x073 then (s.port (p - 0x070)).sending || (s.port (p - 0x070)).rx.isSome
  else if p = 0x078 then s.vid.any VidS.csi
  else if p = 0x079 then s.vout.pvpOn
  else if p = 0x080 then s.gran.cur.isSome || s.gran.scanning || s.gran.jobs.any (fun j => j.op == 4)
  else if p = 0x081 then s.shadow.storing.isSome
  else false

/-- A fault cause of page `p` stands (R632). -/
def State.blockFault (s : State) (p : Nat) : Bool :=
  s.parity.any (fun e => e.1 == p) ||
  (if p = 0x001 then s.yard.stuck || s.boot.seedFault
   else if p = 0x003 then !s.priv (s.get WDT_SUPERVISOR)
   else if p = 0x004 then s.get TEMP_TS_STATE != 0
   else if p = 0x007 then s.get PIN_SUPPLY_LOST != 0
   else if p = 0x00B then s.boot.imageFault
   else if p = 0x00C then s.hsFault
   else if p = 0x011 then s.fpa.ovl
   else if 0x020 ≤ p ∧ p ≤ 0x041 then
       s.calFailed (p - 0x020) || s.on CH_SUSPECT (p - 0x020) || s.on CH_HELD (p - 0x020) ||
         s.cal.bare.getD (p - 0x020) false
   else if p = 0x054 then s.fpa.ovl
   else if 0x060 ≤ p ∧ p ≤ 0x063 then s.get SOL_LATCH (p - 0x060) != 0
   else if p = 0x064 then s.on BOOST_START_FAIL
   else if p = 0x065 then s.on SHUT_FAULTED
   else if 0x070 ≤ p ∧ p ≤ 0x073 then (s.port (p - 0x070)).pocLatched || (s.port (p - 0x070)).kaFault
   else if p = 0x080 then s.gran.spareFault
   else false)

/-- Word `k` of INT_SUMMARY (R50). -/
def State.intSummary (s : State) (k : Nat) : Nat :=
  allPages.foldl (fun a p => if ordinal p / 32 = k ∧ s.intPend p ≠ 0 then a + 2 ^ (ordinal p % 32) else a) 0

/-- LEVEL of crossing `x` (Table SLU-3): the I²C buffer, and what waits in a port's Stall. -/
def State.sluiceLevel (s : State) (x : Nat) : Nat :=
  if x = 12 then s.host.i2cBuf.length else if 5 ≤ x ∧ x ≤ 8 then min msgRoom (s.port (x - 5)).units else 0

/-- A value that the surroundings decide at each read (R579), or that the manual does not give (R432).
DESIGN CHOICE, log 8, safe. DESIGN CHOICE, log 9, safe. -/
def State.openValue (s : State) (r : Row) : Nat := (Config.freeWord s.freeCtr).toNat % 2 ^ r.wid

/-- The fields of a page header that are not stored (Table REG-3). -/
def State.headField (s : State) (p : Nat) (r : Row) : Nat :=
  if r = HDR_BLOCK then p
  else if r = HDR_INSTANCE then
    if (0x020 ≤ p ∧ p ≤ 0x041) then p - 0x020
    else if 0x060 ≤ p ∧ p ≤ 0x063 then p - 0x060
    else if 0x070 ≤ p ∧ p ≤ 0x073 then p - 0x070 else 0
  else if r = HDR_BLOCK_REV then (Config.blockRev p).toNat
  else if r = HDR_EN then bit (s.en p)
  else if r = HDR_BUSY then bit (s.blockBusy p)
  else if r = HDR_FAULT then bit (s.blockFault p)
  else if r = HDR_INT_PEND then s.intPend p
  else s.get r p

/-- The fields of the queue block `q` (Table CMDQ-3). -/
def State.cmdqField (s : State) (q : Nat) (r : Row) : Nat :=
  let x := s.queue q
  let k := x.compl.head?
  if r = CMDQ_LEVEL then x.level
  else if r = CMDQ_FREE then x.free
  else if r = CMDQ_ITEMS then x.items.length
  else if r = CMDQ_RESYNC then bit (x.resync != 0)
  else if r = CMDQ_WAIT_START then bit x.waitStart
  else if r = CMDQ_FLUSH_PEND then bit x.flushing
  else if r = CMDQ_TAG then (k.map Completion.tag).getD 0
  else if r = CMDQ_CODE then (k.map Completion.code).getD 0
  else if r = CMDQ_FLUSHED then bit ((k.map Completion.flushed).getD false)
  else if r = CMDQ_MET then bit ((k.map Completion.met).getD false)
  else if r = CMDQ_VALID then bit k.isSome
  else if r = CMDQ_RESULT then (k.map Completion.result).getD 0
  else s.get r 0 q

/-- The fields of a stream that show what DISP does (R432, R454, Table DISP-2). -/
def State.dispField (s : State) (st : Nat) (r : Row) : Nat :=
  let w := s.stream st
  if r = DISP_WOUT then (s.outSize st).1
  else if r = DISP_HOUT then (s.outSize st).2
  else if r = DISP_FALLBACK then bit w.back
  else if r = DISP_HIST_LO then match w.map with | some (_, lo, _) => lo | none => s.openValue r
  else if r = DISP_HIST_HI then match w.map with | some (_, _, hi) => hi | none => s.openValue r
  else s.getStaged r 0 st

/-- The fields outside a page header that show live state. -/
def State.liveField (s : State) (m p : Nat) (r : Row) (i : Nat) : Nat :=
  let n := r.nth p
  if p = 0x000 then
    if r = SYS_BASE_REV then Config.baseRev.toNat
    else if r = SYS_METAL_REV then Config.metalRev.toNat
    else if r = SYS_INT_SUMMARY then s.intSummary i
    else s.get r n i
  else if p = 0x001 then
    if r = YARD_XTAL_OK then bit s.yard.xtal
    else if r = YARD_EXIT then s.exitTime (i / 5 + 1) (i % 5)
    else if r = YARD_SUBSEC then s.yard.secCap.getD (s.get YARD_SUBSEC)
    else s.get r n i
  else if p = 0x002 then if r = CLK_REQ then s.clockReq else s.get r n i
  else if p = 0x003 then
    if r = WDT_STATE then s.wdtState
    else if r = WDT_DBG_HALT then bit s.wdt.dbgHalt
    else if r = WDT_DEBUG_PAUSE then bit (s.on WDT_DEBUG_PAUSE && !s.on WDT_DEBUG_LOCK)
    else s.get r n i
  else if p = 0x004 then if r = TEMP_THOUS_BAD then bit s.thousBad else s.get r n i
  else if p = 0x006 then
    if r = EVT_UNREAD then min 256 ((s.get EVT_TOTAL + 2 ^ 32 - s.get EVT_ACK) % 2 ^ 32) else s.get r n i
  else if p = 0x007 then
    if r = PIN_GPIO_IN then s.gpioIn (Config.freeWord s.freeCtr).toNat
    else if r = PIN_SUPPLY_OK then bit s.boot.vdda + 2 * bit s.boot.vddio + 4 * bit s.boot.vddphy
    else if r = PIN_STRAP_LIVE then (s.openValue r / 4) * 4 + s.get SYS_PIN_NOW
    else s.get r n i
  else if p = 0x008 then if r = I2C_ATTN_BUSY then bit (s.host.attnTries != 0) else s.get r n i
  else if p = 0x00A then s.cmdqField i r
  else if p = 0x00C then
    if r = SLUICE_LEVEL then s.sluiceLevel i
    else if r = SLUICE_PEAK then max (s.get r n i) (s.sluiceLevel i)
    else if r = SLUICE_POSTED then s.host.posted.length
    else s.get r n i
  else if p = 0x010 then
    if r = FPA_ROW_NOW then s.rowNow else if r = FPA_FRAME_EFF then s.frameEff else s.getStaged r n i
  else if p = 0x011 then if r = BIAS_VDET_NOW then s.vdet (Config.freeWord s.freeCtr).toNat else s.getStaged r n i
  else if 0x020 ≤ p ∧ p ≤ 0x041 then if r = CH_DUE then bit (s.calDue n) else s.getStaged r n i
  else if p = 0x053 then s.dispField i r
  else if p = 0x054 then
    if r = SENTRY_GRID_W then s.gridW else if r = SENTRY_GRID_H then s.gridH else s.getStaged r n i
  else if 0x060 ≤ p ∧ p ≤ 0x063 then
    if r = SOL_INHIBIT then bit (s.inhibited n)
    else if r = SOL_I_NOW then s.senseNow n (Config.freeWord s.freeCtr).toNat
    else if r = SOL_TCOIL then s.tcoil n
    else s.getStaged r n i
  else if 0x070 ≤ p ∧ p ≤ 0x073 then
    if r = LINK_TUN_WDATA then (s.port n).wdata.getD m 0
    else if r = LINK_VPOC then s.openValue r
    else if r = LINK_NO_LOAD then bit (s.on LINK_NO_LOAD n && s.get LINK_PATH n == 1 && !s.linkUp n)
    else s.getStaged r n i
  else if p = 0x078 then
    if r = CSI_REINIT then bit s.vout.reinit
    else if r = CSI_IN_FRAME then (List.range 4).foldl (fun a st => a + bit (s.stream st).csi * 2 ^ st) 0
    else if r = CSI_BW_REQ then s.bwReq
    else s.getStaged r n i
  else if p = 0x079 then
    if r = PVP_STALE then s.staleBits
    else if r = PVP_FIELD_NOW then s.openValue r
    else s.getStaged r n i
  else if p = 0x080 then
    if r = GRAN_HOST_JOB then bit s.gran.hostJob
    else if r = GRAN_SAVING then bit s.saving
    else if r = GRAN_SCANNING then bit s.gran.scanning
    else if r = GRAN_SPARE_FREE then s.gran.spareFree
    else s.get r n i
  else if p = 0x081 then
    if r = SHADOW_STORING then bit s.shadow.storing.isSome
    else if r = SHADOW_READY then bit s.storeReady
    else if r = SHADOW_TARGET then s.gran.shadowOlder
    else if r = SHADOW_GEN then s.gran.shadowGen i
    else s.get r n i
  else if p = 0x082 then
    if r = GPROT_FACTORY_LOCKED then bit s.gran.factoryLocked
    else if r = GPROT_PAGE_LOCKED then s.gran.pageLocked
    else if r = GPROT_PAGE_RPROT then s.gran.pageRprot
    else s.get r n i
  else s.getStaged r n i

/-- What one field of a page reads as for master `m` (Table SCOPE-4). -/
def State.field (s : State) (m p : Nat) (r : Row) (i : Nat) : Nat :=
  match r.acc with
  | .wo => 0
  | _ => if r.off < 0x040 then s.headField p r else s.liveField m p r i

/-- What the word at an offset of a page reads as (R2, R46). -/
def State.wordNow (s : State) (m p off : Nat) : Nat :=
  (wordRows p off).foldl (fun a e => a + s.field m p e.1 e.2 % 2 ^ e.1.wid * 2 ^ e.1.lo) 0

/-! ### What a write would change -/

/-- The value that a write word gives a field. -/
def wordField (r : Row) (data : Nat) : Nat := bitsOf data r.lo r.wid

/-- A lock field that shares its word with others (R69). -/
def sharedLock (r : Row) : Bool := r == SYS_PRIV_LOCK || r == WDT_DEBUG_LOCK

/-- A RW1 field has been written (Table SCOPE-4). -/
def State.rw1Used (s : State) (p : Nat) (r : Row) : Bool :=
  if r = WDT_KEY then s.wdt.keyUsed else s.get r (r.nth p) != 0

/-- The write writes the RW1 field (R69). -/
def rw1Written (r : Row) (data : Nat) : Bool := if sharedLock r then wordField r data == 1 else true

/-- The write changes this field as configuration (R51). -/
def State.configField (s : State) (m p : Nat) (r : Row) (i data : Nat) : Bool :=
  let w := wordField r data
  match r.acc with
  | .rw => r != HDR_EN && w != s.field m p r i
  | .rws => w != s.field m p r i
  | .rww => w != s.field m p r i
  | .rw1 => rw1Written r data && w != s.field m p r i
  | .w1s => r.off == 0x02C && w != 0
  | .wo => (r.off == 0x01C || r.off == 0x02C) && w != 0
  | _ => false

/-- A configuration write (R51). -/
def State.configWrite (s : State) (m p off data : Nat) : Bool :=
  (wordRows p off).any fun e => s.configField m p e.1 e.2 data

/-- A field whose writes the OWNER check leaves out (R60): W1C bits, INT_RAW among them, and ERR_CODE.CLR. -/
def Row.ownerFree (r : Row) : Bool := r.acc == .w1c || r == HDR_ERR_CLR

/-- The write acts on W1C bits, INT_RAW and ERR_CODE.CLR alone (R60): its word has nothing else that is written, or every
other field holds the value already and a 1 is written to such a bit. DEDUCED, log 20, unsafe. -/
def State.exemptWrite (s : State) (m p off data : Nat) : Bool :=
  let fields := (wordRows p off).filter fun e => e.1.acc != .ro
  fields.any (fun e => e.1.ownerFree) &&
  (fields.all (fun e => e.1.ownerFree) ||
   (fields.any (fun e => e.1.ownerFree && wordField e.1 data != 0) && !s.configWrite m p off data &&
    fields.all fun e =>
      match e.1.acc with
      | .wo => e.1 == HDR_ERR_CLR || wordField e.1 data == 0
      | .w1s => wordField e.1 data == 0
      | .rw => e.1 != HDR_EN || enFixed p || wordField HDR_EN data == s.get HDR_EN p
      | _ => true))

/-! ### Table REG-4, steps 2 to 10 as every page has them -/

/-- Steps 4 and 5 for a write (R64, R65): its block's domain. -/
def State.domainCheck (s : State) (p off : Nat) : Option Refuse :=
  match pageDomain p with
  | none => none
  | some d =>
    let st := s.pd d
    if off ≥ 0x040 ∧ st ≤ 1 ∧ wordHas p off (fun r => r.acc == .wo) then some ⟨cOFF, 0, false⟩
    else if st = 3 ∧ (off ≥ 0x040 ∨ off = 0x02C) then some ⟨cCLOSING, 0, false⟩
    else none

/-- A queue's port (Table CMDQ-3): DATA or START. -/
def queuePort (p off : Nat) : Option Nat :=
  if p = 0x00A ∧ 0x100 ≤ off ∧ off < 0x200 ∧ (off % 0x40 = 0 ∨ off % 0x40 = 4) then some ((off - 0x100) / 0x40) else none

/-- A queue's FLUSH. -/
def queueFlush (p off : Nat) : Option Nat :=
  if p = 0x00A ∧ 0x100 ≤ off ∧ off < 0x200 ∧ off % 0x40 = 8 then some ((off - 0x100) / 0x40) else none

/-- The words of timer slots 0 to 2 are the device's (R113). -/
def deviceSlot (p off : Nat) : Bool := p == 0x001 && decide (0x114 ≤ off ∧ off < 0x12C)

/-- Step 6 (R58, R59, R113, R473). A FLUSH is its own master's; that of Q_SEQ meets OWNER_REJECT from every other one (R477). -/
def State.privCheck (s : State) (m p off : Nat) : Option Refuse :=
  if s.priv m ∨ (p = 0x000 ∧ off = 0x04C) ∨ (queuePort p off).isSome ∨ queueFlush p off = some m ∨
    queueFlush p off = some 0 then (if deviceSlot p off ∧ m ≠ 0 then some ⟨cPRIV, 0, false⟩ else none)
  else some ⟨cPRIV, 0, false⟩

/-- Step 7 (R60): the page's OWNER, which binds the privileged masters but M0; a FLUSH is accepted from any of them (R477). -/
def State.ownerCheck (s : State) (m p off data : Nat) : Option Refuse :=
  let o := s.get HDR_OWNER p
  if m = 0 ∨ o = 0xFF ∨ o = m ∨ !s.priv m ∨ (queuePort p off).isSome ∨ (queueFlush p off).isSome ∨ s.exemptWrite m p off data then none
  else some ⟨cOWNER, 0, false⟩

/-- Step 8 as every page has it (R8, R52, R69): the page lock and the RW1 fields. -/
def State.lockCheck (s : State) (m p off data : Nat) : Option Refuse :=
  if (s.get (lockRow p) p = 1 ∧ s.configWrite m p off data) ∨
      (wordRows p off).any (fun e => e.1.acc == .rw1 && rw1Written e.1 data && s.rw1Used p e.1) then some ⟨cLOCKED, 0, false⟩
  else none

/-- Step 9 as every page has it (R56): a staged field while GO reads 1. -/
def State.pendingCheck (s : State) (p off : Nat) : Option Refuse :=
  if s.going p ∧ wordHas p off (fun r => r.acc == .rws) then some ⟨cSTATE, 0xF, true⟩ else none

/-- Step 10 (R8, R525). -/
def State.windowCheck (s : State) (p off : Nat) : Option Refuse :=
  if !s.wdtWindow ∧ wordHas p off (fun r => r.acc == .rww) then some ⟨cWINDOW, 0, false⟩ else none

/-- The first of two checks that fails. -/
def orElse (a b : Option Refuse) : Option Refuse := match a with | some r => some r | none => b

/-- A refusal that belongs to step 9 (R67, R98, R206, R467, R580): state, busy, memory, check, pin and recovery codes. -/
def Refuse.isState (r : Refuse) : Bool :=
  r.code == cSTATE || r.code == cBUSY || r.code == cPIN || r.code == cRECOVERING || r.code == cNVM || r.code == cCHECK

end Sys2Proof.Machine
end

