-- ==== Sys2Proof/Machine/Limits.lean ====
section
/-! DEFINITION. Steps 11 and 12 of Table REG-4: the fields that refuse zero (Table REG-5) and the values each field accepts. -/

namespace Sys2Proof.Machine

/-- Step 11 (R69, Table REG-5): the write would leave a zero where zero is refused. -/
def zeroBad (p off data : Nat) : Bool :=
  let f := fun r => wordField r data
  if off = 0x028 then f HDR_LOCK == 0
  else if p = 0x001 then
    (off == 0x064 && f YARD_DRAIN_LIMIT == 0) ||
    (0x068 ≤ off && off < 0x07C && f YARD_BUDGET_EN == 1 && f YARD_BUDGET == 0)
  else if p = 0x003 then (off == 0x040 && f WDT_PERIOD == 0) || (off == 0x044 && f WDT_WINDOW_OPEN == 0)
  else if p = 0x004 then off == 0x064 && f TEMP_THR_SPAN == 0
  else if p = 0x005 then 0x040 ≤ off && off % 0x10 == 8 && off < 0x0C0 && f LOCK_HOLD_EN == 1 && f LOCK_HOLD_MAX == 0
  else if p = 0x010 then (off == 0x044 && f FPA_ROW_PERIOD == 0) || (off == 0x048 && f FPA_FRAME_PERIOD == 0)
  else if p = 0x048 then off == 0x040 && f CHCAL_TEMP_DELTA == 0
  else if p = 0x052 then off == 0x044 && f NUC_DEFER_MAX == 0
  else if p = 0x054 then off == 0x044 && f SENTRY_COUNT_MIN == 0
  else if 0x060 ≤ p ∧ p ≤ 0x063 then off == 0x070 && f SOL_COIL_TAU == 0
  else if p = 0x074 then off == 0x040 && f LINKC_TUNNEL_TIMEOUT == 0
  else false

/-- A VDET, VBLIND or VSKIM code, and a VCM code (R190). -/
def biasOk (x : Nat) : Bool := inRange 3641 61895 x
def vcmOk (x : Nat) : Bool := inRange 21846 43690 x

/-- The codes of R190 on BIAS and BANDSET, and SETTLE of Table FPA-2. -/
def biasBad (p off data : Nat) : Bool :=
  let f := fun r => wordField r data
  if p = 0x011 then
    (off == 0x048 && !(biasOk (f BIAS_VDET_OVR) && biasOk (f BIAS_VBLIND_OVR))) ||
    (off == 0x04C && !(biasOk (f BIAS_VSKIM_OVR) && vcmOk (f BIAS_VCM_OVR)))
  else if p = 0x012 then
    let o := if off < 0x040 ∨ 0x540 ≤ off then 0 else (off - 0x040) % 0x100
    0x040 ≤ off && off < 0x540 &&
      ((o == 0 && !(biasOk (f BAND_VDET_ON) && biasOk (f BAND_VDET_IDLE))) ||
       (o == 4 && !(biasOk (f BAND_VBLIND) && biasOk (f BAND_VSKIM))) ||
       (o == 8 && !(vcmOk (f BAND_VCM) && decide (8 ≤ f BAND_SETTLE))))
  else false

/-- The values of Table FPA-1 and R182. -/
def fpaBad (off data : Nat) : Bool :=
  let f := fun r => wordField r data
  (off == 0x040 && (f FPA_WIDTH == 3 || decide (4 < f FPA_HEIGHT))) ||
  (off == 0x044 && decide (f FPA_ROW_PERIOD < 400)) || (off == 0x048 && decide (f FPA_FRAME_PERIOD < 666667)) ||
  (off == 0x04C && (decide (f FPA_ROW_RST_W < 4) || decide (f FPA_COL_START < 4))) ||
  (off == 0x050 && (decide (f FPA_INT_START < 8) || decide (f FPA_INT_LEN < 16))) ||
  (off == 0x054 && decide (f FPA_COL_PERIOD < 40))

/-- A stream's fields after a write of DISP (R450): the windows are judged with what is staged.
DEDUCED, log 21, unsafe. -/
def State.dispBad (s : State) (off data : Nat) : Bool :=
  if off < 0x100 ∨ 0x300 ≤ off then false
  else
    let st := (off - 0x100) / 0x80
    let o := (off - 0x100) % 0x80
    let g := fun (r : Row) (i : Nat) => if r.at off = some i then wordField r data else s.getStaged r 0 i
    (o == 0x08 && decide (16 < wordField DISP_EQ_MIX data)) ||
    (0x10 ≤ o && o < 0x30 && !dispFieldsOk g st ((o - 0x10) / 8))

/-- Step 12: a value outside its field's range (R60, R85, R86, R190, R199, R257, R283, R338, R363, R390, R421, R450, R484,
R527, R544, R549, R579, and the tables of the register pages). DEDUCED, log 21, unsafe. -/
def State.rangeBad (s : State) (p off data : Nat) : Bool :=
  let f := fun r => wordField r data
  if off = 0x024 then decide (4 < f HDR_OWNER) && f HDR_OWNER != 0xFF
  else if off < 0x040 then false
  else if p = 0x001 then (off == 0x048 && f YARD_POLICY == 3) || (off == 0x050 && f YARD_START_MODE == 0)
  else if p = 0x003 then
    (off == 0x040 && !inRange 8 65000 (f WDT_PERIOD)) || (off == 0x044 && !inRange 1 256 (f WDT_WINDOW_OPEN)) ||
    (off == 0x048 && !(inRange 1 4 (f WDT_SUPERVISOR) && s.priv (f WDT_SUPERVISOR)))
  else if p = 0x004 then
    (off == 0x060 && !inRange 1360 2400 (f TEMP_THR_START)) || (off == 0x064 && !inRange 1 960 (f TEMP_THR_SPAN)) ||
    (off == 0x068 && !inRange 20 600 (f TEMP_THR_RATE_MIN)) || (off == 0x074 && !inRange 15000 25000 (f TEMP_DIODE_SLOPE)) ||
    (off == 0x07C && decide (f TEMP_NTC_R25 < 100)) || (off == 0x080 && !inRange 1000 10000 (f TEMP_NTC_BETA)) ||
    (off == 0x084 && decide (f TEMP_NTC_RPU < 100))
  else if p = 0x006 then off == 0x044 && decide (256 < (s.get EVT_TOTAL + 2 ^ 32 - data % 2 ^ 32) % 2 ^ 32)
  else if p = 0x007 then
    0x040 ≤ off && off < 0x0A0 &&
      ((decide (7 < f PIN_FUNC) && f PIN_FUNC != 0xF) || f PIN_PULL == 3)
  else if p = 0x008 then
    off == 0x044 && (!inRange 0x08 0x77 (f I2C_ATTN_ADDR) || f I2C_ATTN_ADDR == s.get I2C_OWN_ADDR || f I2C_ATTN_SPEED == 3)
  else if p = 0x010 then fpaBad off data
  else if p = 0x011 ∨ p = 0x012 then biasBad p off data
  else if p = 0x048 then
    (off == 0x048 && f CHCAL_NOISE_MAX == 0) || (off == 0x054 && decide (64 < f CHCAL_MATCH_LIMIT))
  else if p = 0x050 then
    (off == 0x040 && f MILL_SHIFT14 == 3) || (off == 0x044 && decide (8 < f MILL_CN_SHIFT)) ||
    (off == 0x048 && !inRange 1 4 (f MILL_TF_SHIFT))
  else if p = 0x052 then
    (off == 0x044 && decide (3600 < f NUC_DEFER_MAX)) || (off == 0x058 && f NUC_E_MAX == 0)
  else if p = 0x053 then s.dispBad off data
  else if p = 0x054 then
    (off == 0x040 && f SENTRY_RATE == 3) || (off == 0x044 && decide (20480 < f SENTRY_COUNT_MIN)) ||
    (off == 0x048 && (decide (10 < f SENTRY_ADAPT_SHIFT) || f SENTRY_LEARN_FRAMES == 0 || f SENTRY_CONFIRM == 0))
  else if p = 0x065 then
    (off == 0x044 && !inRange 500 15000 (f SHUT_T_CLOSE_MAX)) || (off == 0x048 && !inRange 500 15000 (f SHUT_T_OPEN_MAX)) ||
    (off == 0x04C && decide (8000 < f SHUT_SETTLE_US))
  else if 0x070 ≤ p ∧ p ≤ 0x073 then
    ((off == 0x050 || off == 0x054) &&
      !linkFieldsOk (fun r => if r.off = off then f r else s.getStaged r (p - 0x070))) ||
    (off == 0x100 && (f LINK_AUTH_MODE == 3 || f LINK_FAIL_MAX == 0))
  else if p = 0x078 then off == 0x040 && !inRange 80 1500 (f CSI_RATE)
  else if p = 0x079 then
    (off == 0x040 && (f PVP_STD == 3 || decide (4 < f PVP_SRC))) ||
    (off == 0x044 && (List.range 4).any fun q => let v := bitsOf data (4 * q) 4; decide (3 < v) && v != 0xF)
  else if p = 0x080 then off == 0x048 && (f GRAN_LEN % 4 != 0 || decide (256 < f GRAN_LEN))
  else false

end Sys2Proof.Machine
end

