-- ==== Sys2Proof/Machine/Strobes.lean ====
section
/-! DEFINITION. What each page adds to a write: its own checks (steps 7, 8, 9 and 12 of Table REG-4) and what an accepted
write does besides storing its fields. Every command row that is such a write goes through these. -/

namespace Sys2Proof.Machine

/-! ### Commit requests (R54 to R57, R63 step 9) -/

/-- The guard of a page's staged fields and GO (R249, R314): the semaphore its writer must hold. -/
def stageGuard (p : Nat) : Option Nat :=
  if p = 0x051 then some 1 else if 0x060 ≤ p ∧ p ≤ 0x063 then some 3 else none

/-- The writer does not hold the guard. -/
def State.unguarded (s : State) (m p : Nat) : Bool :=
  match stageGuard p with | some n => !s.holds m n | none => false

/-- A staged value stands in a word with a parity error, on a page whose commits that stops (R206, R266, R458).
DEDUCED, log 22, safe. -/
def State.parityStops (s : State) (p : Nat) : Bool :=
  (p == 0x010 || p == 0x011 || p == 0x012 || p == 0x050 || p == 0x051 || p == pDISP || p == pCSI || p == pPVP) &&
  s.staged.any fun e => keyPage e.1 == p && s.parity.contains (p, keyWord e.1 % 0x1000)

/-- A PVP commit would take pins that are claimed (R582). -/
def State.pvpClaims (s : State) : Bool :=
  s.getStaged PVP_WIDTH16 == 1 && !s.on PVP_WIDTH16 &&
  (List.range 8).any fun i => s.get PIN_PAD_OWNER 0 (16 + i) != 7 && s.get PIN_PAD_OWNER 0 (16 + i) != 6

/-- A commit of SENTRY would change the zone mask (Table MODE-4A). -/
def State.zoneChange (s : State) : Bool := (List.range 16).any fun i => s.getStaged SENTRY_ZONE 0 i != s.get SENTRY_ZONE 0 i

/-- Why a GO that has staged values to bring into force is refused (R98, R184, R194, R198, R261, R281, R363, R451, R582). While a boot runs
MODE reads 0b00 (R110), so that a GO that changes the format or the zone mask, or sets OVR, is refused then too, the BOOT image's with it.
DEDUCED, log 22, safe. DEDUCED, log 62, unsafe. -/
def State.goBlock (s : State) (p : Nat) : Option Refuse :=
  if (p = 0x010 ∧ s.formatChange ∧ s.mode ≠ SERVICE) ∨ (p = 0x011 ∧ s.getStaged BIAS_OVR = 1 ∧ s.get BIAS_OVR = 0 ∧ s.mode ≠ SERVICE) then
    some ⟨cSTATE, 0x8, false⟩
  else if p = 0x054 ∧ s.mode = DORMANT ∧ s.zoneChange then some ⟨cSTATE, 0xE, false⟩
  else if s.parityStops p then some ⟨cCHECK, 0, false⟩
  else if p = 0x050 then s.millGoCheck
  else if p = 0x065 then s.shutGoCheck
  else if p = pPVP ∧ s.pvpClaims then some ⟨cPIN, 0, false⟩
  else if ((p = 0x010 ∨ p = 0x011 ∨ p = 0x012) ∧ !s.arrayGoOk p) ∨ (p = 0x054 ∧ !s.senGoOk) ∨
      (0x060 ≤ p ∧ p ≤ 0x063 ∧ !s.solGoOk (p - 0x060)) ∨ (p = 0x064 ∧ !s.boostGoOk) ∨
      ((p = pDISP ∨ p = pCSI) ∧ s.overCapacity p) then some ⟨cRANGE, 0, false⟩
  else none

/-- GO finds something to do (R55, R56). -/
def State.goActs (s : State) (p : Nat) : Bool := s.anyStaged p && !s.going p

/-- The array's pages (Table REG-2). -/
def arrayPage (p : Nat) : Bool := decide (0x010 ≤ p ∧ p ≤ 0x052) || p == 0x054

/-- A page's commit boundary is now (R10, R314, Table REG-2): its domain is on and nothing of it is in progress. For BOOST that is while no
channel holds the rail, HOLDER 7. SENTRY's in SENTRY is the start of a sentry frame (R364). DEDUCED, log 18, unsafe. -/
def State.atBoundary (s : State) (p : Nat) : Bool :=
  (match pageDomain p with | none => true | some d => s.pd d == 2) &&
  (if arrayPage p then !s.frameRuns && !(p == 0x054 && s.senFrames)
   else if 0x060 ≤ p ∧ p ≤ 0x063 then s.solIdle (p - 0x060)
   else if p = 0x064 then s.get BOOST_HOLDER == 7
   else if p = 0x065 then s.nuc.form == 0 && (!s.nuc.bootPulse || s.nuc.bootFail)
   else if 0x070 ≤ p ∧ p ≤ 0x073 then !(s.port (p - 0x070)).sending && (s.port (p - 0x070)).rx.isNone
   else if p = pPVP then !s.vout.raster
   else p != pDISP && p != pCSI)

/-- The commit of a page at its boundary, and what follows from the new values. -/
def State.commitNow (s : State) (p : Nat) : State :=
  let s := s.commitFull p
  if p = 0x054 then s.senSync
  else if p = 0x064 then (s.vbst (s.get BOOST_VBST_NOW)).boostSync false
  else if p = 0x065 then s.outSync
  else s

/-- An accepted GO (R54, R55, R64, R65, R261): GO reads 1 until the boundary, which may be now. -/
def State.goDo (s : State) (p : Nat) : State :=
  if s.goActs p then
    let s := s.put HDR_GO 1 p
    let s := if p = 0x050 then s.millGo else s
    if p = pDISP ∨ (p = pCSI ∧ s.pd 6 = 2) then s.streamsGo p
    else if s.atBoundary p then s.commitNow p
    else s
  else s

/-- A commit boundary of a page, or of one stream of a page of several (R10, R54, R455). What a SOFT or LINK reset has left pending
waits for DONE (R167). -/
def State.commitBoundary (s : State) (p st : Nat) : State :=
  if !s.going p ∨ s.commitHeld then s
  else if p = pDISP ∨ p = pCSI then
    if (p = pCSI ∧ s.pd 6 ≠ 2) ∨ s.inFrameOf p st ∨ !s.owed.contains (p, st) then s else s.streamTake p st
  else if p = pPVP then (if s.vout.raster then s else s.commitFull pPVP)
  else if s.atBoundary p then s.commitNow p
  else s

/-- Every page whose boundary is now takes its pending commit (R10, R167). -/
def State.boundariesNow (s : State) : State :=
  allPages.foldl (fun s p => (List.range 4).foldl (fun s st => s.commitBoundary p st) s) s

/-- DROP (R57); what an accepted GO on MILL had claimed is free again (R261). DEDUCED, log 36, unsafe. -/
def State.dropDo (s : State) (p : Nat) : State :=
  let s := s.dropStaged p
  if p = 0x050 ∧ !s.on MILL_TF_EN then s.put MILL_TF_STORE 0 else s

/-! ### Enables (R48, Table REG-2A) -/

/-- A port's EN has changed: a disable during negotiation abandons it at once, and the 12 V path stays until the domain is OFF (R392); where
EN returns before that (R134), the port starts again. -/
def State.portEn (s : State) (n : Nat) : State :=
  let s := s.domainsSync
  if s.get HDR_EN (linkPage n) = 0 then
    (if [1, 2, 3, 4, 7, 8].contains (s.get LINK_STATE n) then s.put LINK_STATE 0 n else s)
  else if s.pd (2 + n) ≥ 2 ∧ s.get LINK_STATE n = 0 then s.portStart n
  else s

/-- CTRL.EN of a page has changed. A shutter that is enabled over a latched or TRIPPED channel is faulted (R289). -/
def State.enChanged (s : State) (p : Nat) : State :=
  if p = 0x003 then (if s.en 3 then (s.put WDT_COUNT 0).put WDT_MISSED 0 else s).wdtSync
  else if p = 0x010 ∨ p = 0x011 then s.biasSync.clockSync
  else if p = 0x012 then s.bandRest
  else if p = 0x054 then (if s.atBoundary 0x054 then s.senCommit else s).senSync
  else if 0x060 ≤ p ∧ p ≤ 0x063 then if s.get HDR_EN p = 0 then s.stopChan (p - 0x060) else s
  else if p = 0x064 then s.boostSync false
  else if p = 0x065 then
    (if s.get HDR_EN p = 1 ∧ s.shutBlocked then
      s.shutFault (if s.shutChans.any fun n => s.on SOL_TRIPPED n then 4 else 3) else s).outSync
  else if 0x070 ≤ p ∧ p ≤ 0x073 then s.portEn (p - 0x070)
  else s

/-! ### Watchdog writes (R526 to R533) -/

/-- A master whose writes to the supervisor's fields are accepted (R526). -/
def State.supervises (s : State) (m : Nat) : Bool := m == s.get WDT_SUPERVISOR || (m == 0 && !s.done)

/-- The watchdog runs, so that a write to ANSWER is a service (R523, R531). -/
def State.wdtServing (s : State) : Bool := s.wdtRuns && s.en 3

/-- Why a service is bad beyond Table REG-4's shared checks (R530, R531). -/
def State.answerCheck (s : State) (data : Nat) : Option Refuse :=
  if !s.wdtServing then none
  else if !s.wdtWindow then some ⟨cWINDOW, 0, false⟩
  else if data % 2 ^ 16 ≠ wdtAnswer (s.get WDT_CHALLENGE) (s.get WDT_KEY) (s.get WDT_COUNT) then some ⟨cCHECK, 0, false⟩
  else none

/-- A missed period, and at the second in a row the WDT reset (R532). -/
def State.wdtMiss (s : State) (reason : Nat) : State :=
  let s := s.missedPeriod reason
  if s.wdt.expiring then s.wdtReset else s

/-- A refused write to ANSWER is a bad service (R531, Table WDT-1). -/
def State.badService (s : State) (code : Nat) : State :=
  if s.wdtServing then s.wdtMiss (if code = cCHECK then 2 else if code = cWINDOW then 3 else 4) else s

/-! ### Pins (R580 to R582) -/

/-- An accepted GO is about to bring WIDTH16 = 1 into force (R582): its pins have their claimant (R100). DEDUCED, log 47, safe. -/
def State.pvpComing (s : State) (k : Nat) : Bool :=
  decide (16 ≤ k) && s.going pPVP && s.getStaged PVP_WIDTH16 == 1

/-- A write to PIN.GPIOk that another master's claim, or the parallel port's hold, refuses. DEDUCED, log 47, safe. -/
def State.pinBlock (s : State) (m k data : Nat) : Bool :=
  let o := s.get PIN_PAD_OWNER 0 k
  (o ≤ 4 && o != m) || ((o == 6 || (o == 7 && s.pvpComing k)) && bitsOf data 0 4 != 0xF)

/-- A write to GPIO_OUT changes a bit of a pin that another master claims (R581). DEDUCED, log 47, safe. -/
def State.outBlock (s : State) (m data : Nat) : Bool :=
  (List.range 24).any fun k =>
    bitAt data k != bitAt (s.get PIN_GPIO_OUT) k && s.get PIN_PAD_OWNER 0 k ≤ 4 && s.get PIN_PAD_OWNER 0 k != m

/-- The lowest pin that R581 stops a write for. -/
def State.outBlockPin (s : State) (m data : Nat) : Nat :=
  ((List.range 24).find? fun k =>
    bitAt data k != bitAt (s.get PIN_GPIO_OUT) k && s.get PIN_PAD_OWNER 0 k ≤ 4 && s.get PIN_PAD_OWNER 0 k != m).getD 0

/-- PIN_CLAIM_REFUSED (R580). -/
def State.pinRefused (s : State) (m k : Nat) : State :=
  ((s.inc PIN_CONFLICTS).event 0x0710 (k + m * 2 ^ 8)).raise 0x007 4

/-- A changed FUNC claims or releases the pin (R580). DEDUCED, log 47, safe. -/
def State.pinClaim (s : State) (m k data : Nat) (was : Nat) : State :=
  let f := bitsOf data 0 4
  if s.get PIN_PAD_OWNER 0 k = 6 then s
  else if f = 0xF then s.put PIN_PAD_OWNER 7 0 k
  else if was = 0xF then s.put PIN_PAD_OWNER m 0 k
  else s

/-! ### The checks of each page -/

/-- Step 7 as a page adds to it (R473, R477, R526, R528). -/
def State.blockOwner (s : State) (m p off : Nat) : Option Refuse :=
  if p = 0x003 ∧ (off = 0x008 ∨ off = 0x040 ∨ off = 0x044 ∨ off = 0x048 ∨ off = 0x04C ∨ off = 0x054) ∧ !s.supervises m then
    some ⟨cOWNER, 0, false⟩
  else match queuePort p off with
    | some q => portCheck m q
    | none => if queueFlush p off = some 0 ∧ m ≠ 0 then some ⟨cOWNER, 0, false⟩ else none

/-- BANK_CMD (R253, R631). -/
def State.bankCheck (s : State) (m data : Nat) : Option Refuse :=
  let w := data % 32
  if w = 0 then none
  else if w = 1 ∨ w = 16 then s.fillCheck m
  else if w = 2 then s.fillEndCheck m false
  else if w = 4 then s.switchCheck
  else if w = 8 then s.fillEndCheck m true
  else some ⟨cRANGE, 0, false⟩

/-- A refusal by code alone. -/
def codeCheck (c : Option Nat) : Option Refuse := c.map fun k => ⟨k, 0, false⟩

/-- What page `p` itself refuses of a write: the guards of step 8, step 9, and step 12 of its commands.
DEDUCED, log 20, unsafe. -/
def State.blockCheck (s : State) (m p off data : Nat) : Option Refuse :=
  if wordHas p off (fun r => r.acc == .rws) ∧ s.unguarded m p then some ⟨cLOCKED, 0, false⟩
  else if off = 0x02C then
    if bitAt data 0 ∧ !bitAt data 1 then
      if s.unguarded m p then some ⟨cLOCKED, 0, false⟩
      else if p = 0x051 ∧ s.mode = SENTRY then some ⟨cSTATE, 0xC, false⟩
      else if s.goActs p then s.goBlock p
      else none
    else none
  else if p = 0x000 then
    if off = 0x048 ∧ s.on SYS_PRIV_LOCK then some ⟨cLOCKED, 0, false⟩
    else if off = 0x068 ∧ data % 256 ≠ 0x5A then some ⟨cRANGE, 0, false⟩
    else none
  else if p = 0x001 then
    if off = 0x040 then s.modeCheck (data % 4)
    else if 0x114 ≤ off ∧ off < 0x154 then codeCheck (s.slotCheck m ((off - 0x114) / 8))
    else none
  else if p = 0x003 then
    if off = 0x054 then s.answerCheck data
    else if off = 0x008 ∧ !bitAt data 0 ∧ s.wdtServing ∧ !s.wdtWindow then some ⟨cSTATE, 0, false⟩
    else none
  else if p = 0x005 then
    if 0x040 ≤ off ∧ off < 0x0C0 ∧ off % 16 = 0 then codeCheck (s.semCheck m ((off - 0x040) / 16) (data % 8)) else none
  else if p = 0x007 then
    if 0x040 ≤ off ∧ off < 0x0A0 ∧ s.pinBlock m ((off - 0x040) / 4) data then some ⟨cPIN, 0, false⟩
    else if off = 0x0A4 ∧ s.outBlock m data then some ⟨cPIN, 0, false⟩
    else none
  else if p = 0x00A then
    match queuePort p off with
    | some q => if off % 0x40 = 0 then s.dataCheck q data else s.startCheck q data
    | none => none
  else if p = 0x00B then if off = 0x048 then s.runCheck (data % 2 ^ 16) else none
  else if p = 0x048 then
    if off = 0x058 ∨ off = 0x05C then s.chcalReqCheck (reqInsts (off == 0x05C) data) else none
  else if p = 0x050 then
    if off = 0x054 then s.bankCheck m data
    else if off = 0x05C ∨ off = 0x060 then s.loftCheck m ((off - 0x05C) / 4)
    else none
  else if p = 0x052 then if off = 0x064 ∧ bitAt data 0 then s.closeCheck else none
  else if p = 0x054 then if off = 0x050 ∧ bitAt data 0 ∧ s.mode = DORMANT then some ⟨cSTATE, 0xE, false⟩ else none
  else if p = 0x065 then if off = 0x060 ∧ bitAt data 0 then s.shutClrCheck else none
  else if 0x060 ≤ p ∧ p ≤ 0x063 then
    let n := p - 0x060
    if off = 0x078 ∧ data % 4 ≠ 0 then s.solCheck n (bitAt data 1)
    else if off = 0x098 ∧ bitAt data 1 then s.solFaultCheck n
    else none
  else if 0x070 ≤ p ∧ p ≤ 0x073 then
    let n := p - 0x070
    if off = 0x05C ∧ bitAt data 0 then pocClrCheck (((Config.freeWord s.freeCtr).toNat % 2 == 1) && ((s.port n).pocLatched || (s.port n).kaFault))
    else if off = 0x124 then s.tunCheck n
    else if off = 0x138 ∧ data % 256 ≠ 0x5A then some ⟨cRANGE, 0, false⟩
    else none
  else if p = 0x080 then
    if off = 0x040 then s.granCheck m (data % 256) else none
  else if p = 0x081 then
    if off = 0x048 ∧ bitAt data 0 ∧ s.parity.any (fun e => e.1 == 0x081) then some ⟨cCHECK, 0, false⟩ else none
  else none

/-! ### What an accepted write does -/

/-- Store one field of a written word (Table SCOPE-4). The fields whose page gives them a home of their own are left to
`blockAct`. -/
def State.storeField (s : State) (p data : Nat) (r : Row) (i : Nat) : State :=
  let n := r.nth p
  let w := wordField r data
  match r.acc with
  | .rw => if r = SYS_PRIV ∨ r = LINK_TUN_WDATA ∨ (r = HDR_EN ∧ enFixed p) then s else s.put r w n i
  | .rww => s.put r w n i
  | .rws => s.stage r w n i
  | .rw1 => if rw1Written r data then
      let s := s.put r w n i
      if r = WDT_KEY then { s with wdt := { s.wdt with keyUsed := true } } else s
    else s
  | .w1c => s.put r (s.get r n i ^^^ (s.get r n i &&& w)) n i
  | _ => s

/-- Store every field of a written word; a rewrite ends a parity error (R78). -/
def State.storeWord (s : State) (p off data : Nat) : State :=
  let s := (wordRows p off).foldl (fun s e => s.storeField p data e.1 e.2) s
  { s with parity := s.parity.filter fun e => e != (p, off) }

/-- BANK_CMD (R253). -/
def State.bankDo (s : State) (data : Nat) : State :=
  let w := data % 32
  if w = 1 then s.fillStart
  else if w = 2 then s.fillEnd
  else if w = 4 then (s.put MILL_SWITCH_PEND 1).switchRest
  else if w = 8 then s.fillAbort
  else if w = 16 then s.loadBank (bitAt data 5)
  else s

/-- BIAS.FAULT_CLR (R204, R370): the ramp restarts, and with it C is 0 (R291). -/
def State.biasClear (s : State) : State :=
  if s.fpa.ovl then
    (({ s with fpa := { s.fpa with ovl := false }, nuc := { s.nuc with base := 0 } }).put NUC_CONF 0).biasSync.bgReset
  else s

/-- SHADOW.STORE (R506): a commanded store of rank 2; one that runs already serves it. -/
def State.storeCmd (s : State) : State := if s.shadow.storing.isSome then s else s.commitStore 0 2

/-- A wake signature by command (R387). -/
def State.wakeCmd (s : State) (n : Nat) : State := if n = 0 then s.signature else s

/-- What an accepted write does beyond its stored fields. `was` is the word as it read before. -/
def State.blockAct (s : State) (m p off data was : Nat) : State :=
  if off = 0x008 then if bitAt was 0 != (bitAt data 0 || enFixed p) then s.enChanged p else s
  else if off = 0x01C then s.raise p data
  else if off = 0x020 then
    if bitAt data 31 then (((s.put HDR_ERR_CODE 0 p).put HDR_ERR_MASTER 0 p).put HDR_ERR_WR 0 p).put HDR_ERR_OFFSET 0 p else s
  else if off = 0x02C then if bitAt data 1 then s.dropDo p else if bitAt data 0 then s.goDo p else s
  else if off < 0x040 then s
  else if p = 0x000 then
    if off = 0x048 then s.setPriv (wordField SYS_PRIV data)
    else if off = 0x04C then s.newSession m
    else if off = 0x068 then s.softReset kSOFT (bitAt data 8)
    else s
  else if p = 0x001 then
    if off = 0x040 then s.modeDo m (data % 4)
    else if off = 0x048 then s.outSync
    else if off = 0x058 then { s with yard := { s.yard with xtal := s.on YARD_SRC } }
    else if 0x068 ≤ off ∧ off < 0x07C then s.rechooseAll
    else if off = 0x088 then if bitAt data 0 then s.reseed.rechooseAll else s
    else if off = 0x0E4 ∨ off = 0x0E8 then s.domainsSync
    else if off = 0x110 then
      (List.range 9).foldl (fun s d => if bitAt data d then s.put YARD_DRAIN_DROP 0 0 d else s) s
    else if 0x114 ≤ off ∧ off < 0x154 ∧ off % 8 = 0 then
      if bitAt data 31 then s.put YARD_HOLDER m 0 ((off - 0x118) / 8) else s
    else s
  else if p = 0x002 then if off = 0x048 then s.rechooseAll.clockSync else s
  else if p = 0x003 then if off = 0x054 ∧ s.wdtServing then s.wdtServed else s
  else if p = 0x004 then if off = 0x08C ∧ bitAt data 0 then s.put TEMP_TJ_PEAK 0x8000 else s
  else if p = 0x005 then
    if off < 0x0C0 ∧ off % 16 = 0 then s.semDo m ((off - 0x040) / 16) (data % 8) else s
  else if p = 0x007 then
    if off < 0x0A0 then s.pinClaim m ((off - 0x040) / 4) data (was % 16) else s
  else if p = 0x00A then
    match queuePort p off with
    | some q =>
      let s := if m = 0 then s else s.wake 1 none
      if off % 0x40 = 0 then s.dataIn q data else s.startIn q data
    | none =>
      if off < 0x100 ∨ !bitAt data 0 then s
      else if off % 0x40 = 8 then s.flush ((off - 0x100) / 0x40)
      else if off % 0x40 = 0x18 then s.complPop ((off - 0x100) / 0x40)
      else s
  else if p = 0x00B then
    if off = 0x048 then s.runStart (data % 2 ^ 16) ((s.scriptEntry (data % 2 ^ 16)).getD 0) |>.settle
    else if off = 0x04C ∧ bitAt data 0 then s.seqStop
    else s
  else if p = 0x00C then
    match SLUICE_PEAK_CLR.at off with
    | some x => if bitAt data 8 then s.put SLUICE_PEAK 0 0 x else s
    | none => s
  else if p = 0x011 then if off = 0x0D8 ∧ bitAt data 0 then s.biasClear else s
  else if p = 0x048 then
    if off = 0x058 ∨ off = 0x05C then (s.request m (reqInsts (off == 0x05C) data)) else s
  else if p = 0x050 then if off = 0x054 then s.bankDo data else s
  else if p = 0x052 then if off = 0x064 ∧ bitAt data 0 then s.closeReq (bitAt data 1) else s
  else if p = 0x054 then if off = 0x050 ∧ bitAt data 0 then s.bgReset else s
  else if 0x060 ≤ p ∧ p ≤ 0x063 then
    let n := p - 0x060
    if off = 0x078 then s.solDo m n (bitAt data 0) (bitAt data 1)
    else if off = 0x098 then
      let s := if bitAt data 0 then s.solTripClr n else s
      if bitAt data 1 then s.put SOL_LATCH 0 n else s
    else s
  else if p = 0x064 then
    if off = 0x050 then
      let s := if bitAt data 0 then s.boostTripClr else s
      if bitAt data 1 then s.boostFaultClr else s
    else s
  else if p = 0x065 then if off = 0x060 ∧ bitAt data 0 then (s.put SHUT_FAULTED 0).outSync else s
  else if 0x070 ≤ p ∧ p ≤ 0x073 then
    let n := p - 0x070
    if off = 0x05C then
      let s := if bitAt data 0 then s.pocClr n else s
      let s := if bitAt data 1 then s.wakeCmd n else s
      if bitAt data 2 then s.put LINK_STALL_PEAK 0 n else s
    else if off = 0x10C then if bitAt data 0 then s.authClr n else s
    else if off = 0x120 then s.setPort n { s.port n with wdata := (s.port n).wdata.set m (data % 2 ^ 32) }
    else if off = 0x124 then s.tunIssue m n data
    else if off = 0x134 then
      let s := if bitAt data 0 then s.tunPop n else s
      if bitAt data 1 then s.hevtPop n else s
    else if off = 0x138 then if s.headEnd then s else s.rresetIssue m n (bitAt data 8)
    else s
  else if p = 0x080 then if off = 0x040 then s.granDo m (data % 256) else s
  else if p = 0x081 then if off = 0x048 ∧ bitAt data 0 then s.storeCmd else s
  else s

/-- What a refusal brings beyond its record, in the order of R630: the events of the refusing block. `own` says that the
block itself refused. -/
def State.refusalAct (s : State) (m p off data code : Nat) (own : Bool) : State :=
  if p = 0x003 ∧ off = 0x054 then s.badService code
  else if !own then s
  else if p = 0x001 ∧ off = 0x040 then s.modeBlocked (data % 4)
  else if p = 0x001 ∧ 0x114 ≤ off ∧ off < 0x154 ∧ code = cBUSY then s.slotRefused m ((off - 0x114) / 8)
  else if p = 0x007 ∧ off < 0x0A0 then s.pinRefused m ((off - 0x040) / 4)
  else if p = 0x007 then s.pinRefused m (s.outBlockPin m data)
  else if p = pPVP ∧ code = cPIN then s.pinRefused m 0x1F
  else match queuePort p off with
    | some q => if code = cBUSY then (if off % 0x40 = 0 then s.dataIn q data else s.startIn q data) else s
    | none => s

end Sys2Proof.Machine
end

