-- ==== Sys2Proof/Machine/Bus.lean ====
section
/-! DEFINITION. One access of a master to the address space: the regions, the order of checks, the data windows, the posted
writes of YARD and WDT (R37, R43 to R46, R63 to R73, R467, R563, R631). -/

namespace Sys2Proof.Machine

/-! ### Where an access lands (R43 to R45, Table REG-1) -/

/-- What an address names. -/
inductive Target where
  | page (p off : Nat)
  | slot (off : Nat)
  | sram (a : Nat)
  | loft (b i : Nat)
  | gran (a : Nat)
  | nowhere
  deriving DecidableEq, Repr

/-- The region an address lies in. -/
def target (addr : Nat) : Target :=
  if 0x40000000 ≤ addr ∧ addr < 0x40100000 then
    let p := (addr - 0x40000000) / 0x1000
    if pageExists p then .page p (addr % 0x1000) else .slot (addr % 0x1000)
  else if 0x50000000 ≤ addr ∧ addr < 0x50001000 then .sram (addr - 0x50000000)
  else if 0x60000000 ≤ addr ∧ addr < 0x60140000 then .loft 0 ((addr - 0x60000000) / 4)
  else if 0x60200000 ≤ addr ∧ addr < 0x60340000 then .loft 1 ((addr - 0x60200000) / 4)
  else if 0x70000000 ≤ addr ∧ addr < 0x70800000 then .gran (addr - 0x70000000)
  else .nowhere

/-- The page whose ERR_CODE records a refusal, and LAST_REFUSAL.PAGE (R44, Table REG-1, Table REG-6). -/
def Target.record : Target → Nat × Nat
  | .page p _ => (p, p % 0x100)
  | .slot _ => (0x000, 0xFE)
  | .sram _ => (0x081, 0xF0)
  | .loft _ _ => (0x050, 0xF6)
  | .gran _ => (0x080, 0xF7)
  | .nowhere => (0x000, 0xFF)

/-- Record a refusal where its address belongs (R44, R67, R98). -/
def State.refuseAt (s : State) (m : Nat) (wr : Bool) (addr : Nat) (r : Refuse) : State :=
  let (p, lr) := (target addr).record
  let s := s.refuse m wr p lr (addr % 0x1000) r.code
  if r.code = cSTATE then s.stateRejected r.mask r.blocking (p % 0x100) else s

/-- SAFE: a refusal is recorded in SYS.ERR_CODE alone (R37). -/
def State.refuseSafe (s : State) (m : Nat) (wr : Bool) (addr : Nat) : State :=
  (((s.put HDR_ERR_CODE cROLE 0).put HDR_ERR_MASTER m 0).put HDR_ERR_WR (bit wr) 0).put HDR_ERR_OFFSET (addr % 0x1000) 0

/-! ### Page writes (Table REG-4) -/

/-- Strobes of one word that act one after another (R631): the word that each of them is written with.
DEDUCED, log 19, safe. -/
def strobeParts (p off data : Nat) : List Nat :=
  let k := if (0x060 ≤ p ∧ p ≤ 0x063 ∧ off = 0x098) ∨ (p = 0x064 ∧ off = 0x050) ∨ (0x070 ≤ p ∧ p ≤ 0x073 ∧ off = 0x134) then 2
    else if 0x070 ≤ p ∧ p ≤ 0x073 ∧ off = 0x05C then 3 else 0
  let l := (List.range k).filter (bitAt data)
  if l.length ≤ 1 then [data] else l.map fun b => 2 ^ b

/-- The checks that an access meets as a whole, whatever its strobes: Table REG-4, steps 4 to 8. DEDUCED, log 20, unsafe. -/
def State.accessCheck (s : State) (m p off data : Nat) : Option Refuse :=
  orElse (s.domainCheck p off) (orElse (s.privCheck m p off) (orElse (s.ownerCheck m p off data)
    (orElse (s.blockOwner m p off) (s.lockCheck m p off data))))

/-- The first check of Table REG-4, steps 4 to 12, that a write fails, and whether the block itself refuses: `own` is what the
block refuses. Every check looks at the state before the access (R63). DEDUCED, log 20, unsafe. -/
def State.checkWith (s : State) (own : Option Refuse) (m p off data : Nat) : Option (Refuse × Bool) :=
  let pre := s.accessCheck m p off data
  let late := if zeroBad p off data then some (⟨cZERO, 0, false⟩, false)
    else if s.rangeBad p off data then some (⟨cRANGE, 0, false⟩, false)
    else own.map fun r => (r, true)
  match pre with
  | some r => some (r, false)
  | none =>
    match own with
    | some r =>
      if r.code = cLOCKED ∨ r.code = cPRIV then some (r, true)
      else match s.pendingCheck p off with
        | some r' => some (r', false)
        | none =>
          if r.isState then some (r, true)
          else match s.windowCheck p off with
            | some r' => some (r', false)
            | none => late
    | none =>
      match orElse (s.pendingCheck p off) (s.windowCheck p off) with
      | some r' => some (r', false)
      | none => late

/-- The check of a write of a page's word. DEDUCED, log 20, unsafe. -/
def State.writeCheck (s : State) (m p off data : Nat) : Option (Refuse × Bool) :=
  s.checkWith (s.blockCheck m p off data) m p off data

/-- Once IRQ_N is released, its next assertion is a new one (R468). -/
def State.attnRest (s : State) : State := if s.irq then s else { s with host := { s.host with attnDone := false } }

/-- What an accepted write of a page's word does. -/
def State.writeDo (s : State) (m p off data : Nat) : State :=
  let was := s.wordNow m p off
  let t := (s.storeWord p off data).blockAct m p off data was
  if off = 0x010 ∨ off = 0x014 then t.attnRest else t

/-- One write of one word of a page: the role (R20), a reserved word (R46), then Table REG-4. -/
def State.pageWrite (s : State) (m p off data : Nat) : State × Nat :=
  if !s.present p then
    if off = 0x020 ∧ bitAt data 31 then (s.writeDo m p off data, cOK)
    else (s.refusePage m true p off cROLE, cROLE)
  else if (wordRows p off).isEmpty then (s, cOK)
  else match s.writeCheck m p off data with
    | some (r, own) => ((s.refuseWith m true p off r).refusalAct m p off data r.code own, r.code)
    | none => (s.writeDo m p off data, cOK)

/-- A write of a page's word whose strobes may act one after another: the code of the last refused one. An access that is
refused whatever its strobes is refused once. DEDUCED, log 19, safe. -/
def State.pageWrites (s : State) (m p off data : Nat) : State × Nat :=
  if !s.present p || (s.accessCheck m p off data).isSome then s.pageWrite m p off data
  else (strobeParts p off data).foldl (fun (a : State × Nat) d =>
    let (t, k) := a.1.pageWrite m p off d
    (t, if k = cOK then a.2 else k)) (s, cOK)

/-! ### The data windows (R70 to R73, R253, R505) -/

/-- Why a write to shadow SRAM is refused (R73, R505). -/
def State.sramCheck (s : State) (m a : Nat) : Option Refuse :=
  if !s.priv m then some ⟨cPRIV, 0, false⟩
  else if m ≠ 0 ∧ (a < 0x200 ∨ 0xFF0 ≤ a) then some ⟨cLOCKED, 0, false⟩
  else if s.shadow.storing.isSome then some ⟨cNVM, 0, false⟩
  else none

/-- Why a write to a Loft word is refused (R20, R70, R72, R253). DEDUCED, log 51, safe. -/
def State.loftWriteCheck (s : State) (m b : Nat) : Option Refuse :=
  if !s.present 0x050 then some ⟨cROLE, 0, false⟩
  else if !s.priv m then some ⟨cPRIV, 0, false⟩
  else s.loftCheck m b

/-- One write, with every check of Table REG-4 in order. -/
def State.writeWord (s : State) (m addr data : Nat) : State × Nat :=
  if addr % 4 ≠ 0 then (s.refuseAt m true addr ⟨cALIGN, 0, false⟩, cALIGN)
  else match target addr with
  | .page p off => s.pageWrites m p off data
  | .slot _ => (s, cOK)
  | .sram a =>
    match s.sramCheck m a with
    | some r => (s.refuseAt m true addr r, r.code)
    | none => (s.sramWrite a data, cOK)
  | .loft b i =>
    match s.loftWriteCheck m b with
    | some r => (s.refuseAt m true addr r, r.code)
    | none => (s.loftPut b i data, cOK)
  | .gran _ => let k := if s.priv m then cLOCKED else cPRIV; (s.refuseAt m true addr ⟨k, 0, false⟩, k)
  | .nowhere => (s.refuseAt m true addr ⟨cRANGE, 0, false⟩, cRANGE)

/-! ### Reads -/

/-- Posted writes show in reads (R563): the fields that store what is written read as posted. -/
def State.posted (s : State) (addr p off w : Nat) : Nat :=
  s.host.posted.foldl (fun w e =>
    if e.2.1 = addr then
      (wordRows p off).foldl (fun w (f : Row × Nat) =>
        let r := f.1
        let shows := r.acc == .rw || r.acc == .rws || r.acc == .rww ||
          (r.acc == .rw1 && rw1Written r e.2.2 && !s.rw1Used p r)
        if shows then w - bitsOf w r.lo r.wid * 2 ^ r.lo + wordField r e.2.2 * 2 ^ r.lo else w) w
    else w) w

/-- A word shows a value that the surroundings decide, or that the manual leaves open. -/
def wordOpen (p off : Nat) : Bool :=
  (p == 0x007 && (off == 0x0A0 || off == 0x0B0)) || (p == pDISP && off % 0x80 == 0x34) || (p == pPVP && off == 0x050) ||
  (0x070 ≤ p && p ≤ 0x073 && off == 0x058) || (p == 0x011 && off == 0x0D0) ||
  (0x060 ≤ p && p ≤ 0x063 && off == 0x088)

/-- Reading SECONDS captures SUBSEC for the next read of it (R112); an open value is drawn. -/
def State.readAct (s : State) (p off : Nat) : State :=
  let s := if wordOpen p off && !(wordRows p off).isEmpty then s.fresh.2 else s
  if p = 0x001 ∧ off = 0x05C then { s with yard := { s.yard with secCap := some (s.get YARD_SUBSEC) } }
  else if p = 0x001 ∧ off = 0x060 then { s with yard := { s.yard with secCap := none } }
  else s

/-- A read of a block-area word that holds a field without a stored value, live or write-only, while its domain is OFF or
OPENING (R65). -/
def State.readOff (s : State) (p off : Nat) : Bool :=
  decide (0x040 ≤ off) && (match pageDomain p with | some d => decide (s.pd d ≤ 1) | none => false) &&
  wordHas p off fun r => r.live || r.acc == .wo

/-- One read of a page's word: value and code. -/
def State.pageRead (s : State) (m p off : Nat) : State × Nat × Nat :=
  if !s.present p then
    (s, if off = 0x000 ∨ off = 0x004 ∨ off = 0x020 then s.wordNow m p off else 0, cOK)
  else if s.readOff p off then (s.refusePage m false p off cOFF, 0xFFFFFFFF, cOFF)
  else
    let w := s.wordNow m p off
    let w := if p = 0x001 ∨ p = 0x003 then s.posted (0x40000000 + p * 0x1000 + off) p off w else w
    (s.readAct p off, w, cOK)

/-- A LOCKPAGES page that is read-protected (R71, R509). -/
def State.readProtected (s : State) (a : Nat) : Bool :=
  regionOf a == .lockPages && bitAt s.gran.pageRprot (a / 0x1000 % 16)

/-- One read, with the checks of Table REG-4 that apply to reads. -/
def State.readWord (s : State) (m addr : Nat) : State × Nat × Nat :=
  if addr % 4 ≠ 0 then (s.refuseAt m false addr ⟨cALIGN, 0, false⟩, 0xFFFFFFFF, cALIGN)
  else match target addr with
  | .page p off => s.pageRead m p off
  | .slot _ => (s, 0, cOK)
  | .sram a => (s, s.sramWord a, cOK)
  | .loft b i => (s, if s.present 0x050 then (s.bank b).word i else 0, cOK)
  | .gran a =>
    if s.readProtected a then (s.refuseAt m false addr ⟨cLOCKED, 0, false⟩, 0, cLOCKED) else (s, s.gran.window a, cOK)
  | .nowhere => (s.refuseAt m false addr ⟨cRANGE, 0, false⟩, 0, cRANGE)

/-! ### The arbiter (R66, R467, R563) -/

/-- The arbiter serves accesses, or would but for the Granary: PD_CORE is on, the boot has reached step 6, which DORMANT undoes,
the device is not in L3, and no power-fail store runs (R66, R158, Table GRAN-9). DEDUCED, log 6, safe. -/
def State.reachable (s : State) : Bool :=
  s.boot.served && !s.boot.inReset && (s.pd 0 == 2 || s.pd 0 == 3) && s.yard.pstate != 3 && !s.pfStoring

/-- The identity words that SAFE serves (R37). -/
def safeWord (addr : Nat) : Bool :=
  (0x40000000 ≤ addr && addr < 0x40000040) || addr == 0x40000060 || addr == 0x40000064

/-- A write to a YARD or WDT field, which the Yard takes later (R563). DEDUCED, log 17, unsafe. -/
def isPosted (addr : Nat) : Bool :=
  (0x40001040 ≤ addr && addr < 0x40002000 || 0x40003040 ≤ addr && addr < 0x40004000) && addr % 4 == 0

/-- LAST of SPI and I2C holds the code of the last access made by M1 and M2, those of their queues' items among them (R464, R472). -/
def State.noteLast (s : State) (m k : Nat) : State :=
  if m = 1 then s.put SPI_LAST_CODE k else if m = 2 then s.put I2C_LAST_CODE k else s

/-- The interface of master `m` learns the code of an access (R464, R472, R586); of a posted write when the Yard takes it.
DEDUCED, log 6, safe. DEDUCED, log 44, safe. -/
def State.noteCode (s : State) (m k : Nat) : State :=
  let s := s.noteLast m k
  if m = 4 then { s with host := { s.host with tapCode := k } }
  else if k = cOK then s
  else if m = 1 then
    { s.inc SPI_REFUSALS with host := if s.host.spiTxn.isSome then { s.host with spiErrNow := true } else { s.host with spiErr := true } }
  else if m = 2 then s.inc I2C_REFUSALS
  else s

/-- The Yard takes the oldest posted write, and it is carried out (R563). DEDUCED, log 17, unsafe. -/
def State.takePosted (s : State) : State :=
  match s.host.posted with
  | [] => s
  | (m, addr, data) :: l =>
    let s := { s with host := { s.host with posted := l } }
    let (s, k) := s.writeWord m addr data
    s.noteCode m k

/-- Every posted write is taken, oldest first. -/
def State.takeAllPosted : Nat → State → State
  | 0, s => s
  | f + 1, s => if s.host.posted.isEmpty then s else s.takePosted.takeAllPosted f

/-- The posted writes ahead of one that is carried out now. DEDUCED, log 17, unsafe. -/
def State.settlePosted (s : State) (addr : Nat) : State := if isPosted addr then s.takeAllPosted 16 else s

/-- Master `m` has a source of accesses in the latched role (R25, Table ROLE-3): M3 is the cab on LINK0 of a head. -/
def State.sources (s : State) (m : Nat) : Bool := m != 3 || s.role == HEAD

/-- A write that meets a Granary operation (R467); one to WDT.ANSWER is a bad service, as with any refusal (R531). -/
def State.refuseNvm (s : State) (m addr : Nat) : State :=
  let s := s.refuseAt m true addr ⟨cNVM, 0, false⟩
  if addr = 0x40003054 then s.badService cNVM else s

/-- A write that is carried out in this step. An access of a master that has no source in the role does not come about (R25). Where the
arbiter serves nothing it has no effect; within a Granary operation it is recorded with NVM_BUSY (R467); in SAFE it is ignored (R37).
DEDUCED, log 6, safe. -/
def State.busWrite (s : State) (m addr data : Nat) : State × Nat :=
  if !s.reachable then (s, cNVM)
  else if !s.sources m ∧ !s.safe then (s, cOK)
  else if s.safe then (s.refuseSafe m true addr, cROLE)
  else if s.nvmBusy then (s.refuseNvm m addr, cNVM)
  else (s.settlePosted addr).writeWord m addr data

/-- A write is one that the arbiter accepts into the post buffer (R563). -/
def State.posts (s : State) (m addr : Nat) : Bool := s.reachable && s.sources m && !s.safe && !s.nvmBusy && isPosted addr

/-- A write as an interface hands it over: one to YARD or WDT is posted; a full buffer makes it wait until the oldest has been
taken, and the wait counts (R563). DEDUCED, log 17, unsafe. -/
def State.postWrite (s : State) (m addr data : Nat) : State × Nat :=
  if !s.posts m addr then s.busWrite m addr data
  else
    let s := if s.host.posted.length ≥ 16 then (s.inc SLUICE_HS_STALLS).takePosted else s
    ({ s with host := { s.host with posted := s.host.posted ++ [(m, addr, data)] } }, cOK)

/-- A read: the value and the code, which the reader keeps. DEDUCED, log 6, safe. -/
def State.busRead (s : State) (m addr : Nat) : State × Nat × Nat :=
  let (s, w, k) :=
    if !s.reachable then (s, 0xFFFFFFFF, cNVM)
    else if !s.sources m ∧ !s.safe then (s, 0, cOK)
    else if s.safe then
      if safeWord addr ∧ addr % 4 = 0 then (s, s.wordNow m 0 (addr % 0x1000), cOK)
      else (s.refuseSafe m false addr, 0xFFFFFFFF, cROLE)
    else if s.nvmBusy then (s.refuseAt m false addr ⟨cNVM, 0, false⟩, 0xFFFFFFFF, cNVM)
    else s.readWord m addr
  ({ s with host := { s.host with lastRead := s.host.lastRead.set m (w % 2 ^ 32, k) } }, w % 2 ^ 32, k)

/-- The address lies in a block that the latched role has not (R20, R72). -/
def State.absentAt (s : State) (addr : Nat) : Bool :=
  match target addr with
  | .page p _ => !s.present p
  | .loft _ _ => !s.present 0x050
  | _ => false

/-- An aligned access reaches the checks of Table REG-4. -/
def State.servesNow (s : State) (addr : Nat) : Bool := s.reachable && !s.safe && !s.nvmBusy && addr % 4 == 0

/-- A read that a queue item or a tunnelled access asks for: one of an absent block is not made, and ends with ROLE_REJECT
(R21, R22). -/
def State.busReadFor (s : State) (m addr : Nat) : State × Nat × Nat :=
  if s.servesNow addr && s.absentAt addr then (s, 0, cROLE) else s.busRead m addr

/-- A write that a queue item or a tunnelled access asks for: one to an absent block, its ERR_CODE.CLR too, ends with ROLE_REJECT and
has no other effect (R22). -/
def State.busWriteFor (s : State) (m addr data : Nat) : State × Nat :=
  if s.servesNow addr && s.sources m && s.absentAt addr then (s.refuseAt m true addr ⟨cROLE, 0, false⟩, cROLE)
  else s.busWrite m addr data

/-- The address lies where a closing domain refuses new traffic (Table YARD-7): its block area and COMMIT. -/
def State.closingAt (s : State) (addr : Nat) : Bool :=
  match target addr with
  | .page p off => s.present p && (decide (0x040 ≤ off) || off == 0x02C) &&
      (match pageDomain p with | some d => s.pd d == 3 | none => false)
  | _ => false

/-- A read of an item of queue `q`: it ends with DOMAIN_CLOSING toward a closing domain (R487), and LAST takes its code (R464, R472). -/
def State.itemRead (s : State) (q addr : Nat) : State × Nat × Nat :=
  if s.servesNow addr && s.closingAt addr then (s.noteLast q cCLOSING, 0, cCLOSING)
  else let (s, w, k) := s.busReadFor q addr; (s.noteLast q k, w, k)

/-- A write of an item of queue `q`; LAST takes its code (R464, R472). -/
def State.itemWrite (s : State) (q addr data : Nat) : State × Nat :=
  let (s, k) := s.busWriteFor q addr data
  (s.noteLast q k, k)

/-- The address of a page's register. -/
def regAddr (p off : Nat) : Nat := 0x40000000 + p * 0x1000 + off

/-- The interface of master `m` learns the code of an access that `s` has made, `t` being what it left; where the arbiter serves nothing
none is made. -/
def State.noteFrom (s t : State) (m k : Nat) : State := if s.reachable then t.noteCode m k else t

/-- A write carried out in this step, whose code the master's interface learns. DEDUCED, log 6, safe. -/
def State.writeNow (s : State) (m addr data : Nat) : State :=
  let (t, k) := s.busWrite m addr data
  s.noteFrom t m k

/-- A command that is one write of a register, carried out in this step. DEDUCED, log 6, safe. -/
def State.command (s : State) (m p off data : Nat) : State := s.writeNow m (regAddr p off) data

end Sys2Proof.Machine
end

