-- ==== Sys2Proof/Machine/Boot.lean ====
section
/-! DEFINITION. Boot (R157 to R181): from the release of the internal reset, or a DORMANT exit, to DONE. -/

namespace Sys2Proof.Machine

/-! ### Step 1 and step 2: the role (R16, R17, R36 to R41, R578) -/

/-- Nothing holds the internal reset, or a DORMANT exit back (R153, R516, R589). DEDUCED, log 27, unsafe. -/
def State.mayBoot (s : State) : Bool :=
  s.boot.vdd && !s.pfStoring &&
  ((s.boot.inReset && s.pd 0 == 1) || (s.mode == DORMANT && s.yard.pstate == 4 && s.yard.exit.isSome && !s.boot.booting && !s.done && !s.safe))

/-- A boot begins (R110, R149, R181, R194, R334, R350, R406): causes, MODE as it reads until DONE, BOOT_STATUS rewritten; HFRC is
granted, PD_CORE on and CCLK runs (Table RST-3, Table YARD-4). -/
def State.bootBegin (s : State) : State :=
  let exit := !s.boot.inReset
  let k := if exit then kEXIT else strongest s.boot.asserted
  let s := (if s.mode = SERVICE then s.leaveService else s).bgReset
  let s := if k = kPOR then s else s.inc SYS_RESET_COUNT
  let s := s.put SYS_RESET_LAST k
  let s := if exit then s.put SYS_DORMANT_EXIT 1
    else (((s.put YARD_MODE_TARGET (s.get YARD_START_MODE)).put YARD_MODE_CAUSE 1).put YARD_MODE_BUSY 1).put YARD_MODE DORMANT
  let s := { s with boot := { s.boot with inReset := false, booting := true, served := false, stored := false, asserted := 0,
                                          kind := k, waiting := none, cut := none }
                    temp := { s.temp with first := true, hot := 0 }
                    linkc := { s.linkc with fresh := true } }
  let s := (((s.put SEQ_SHADOW_SRC 0).put SEQ_LOFT_SRC 0).put SEQ_GRAN_FIX 0).put SEQ_TRIMS 0
  ((s.put TEMP_TS0 0x8000).put CLK_GRANT 3).setPd 0 2

/-- PORTS of a role (Table ROLE-7). -/
def portsOf (role : Nat) : Nat := if role = HEAD then 0x1 else if role = CAB then 0xF else if role = DUO then 0xE else 0

/-- A power path on a port that the role has not, or that is no source in it, is off (R27, R28). -/
def State.pathsOff (s : State) : State :=
  (List.range 4).foldl (fun s n => if s.role = HEAD ∨ !s.present (linkPage n) then s.put LINK_PATH 0 n else s) s

/-- The straps are latched (R17, R38, R41, R109, R527, R578); what the Yard buffered is logged before anything else (R546). The
defaults by role come at the first latch since POR_AON, whichever reset's boot it is in; an invalid role takes the OUTSET default of
CAB and DUO, for which the manual gives none.
DESIGN CHOICE, log 5, unsafe. DEDUCED, log 25, unsafe. -/
def State.strapLatch (s : State) (s1 s2 s3 s4 addr : Nat) (hostsel : Bool) : State :=
  let same := s1 == s2 && s2 == s3 && s3 == s4
  let role := if same then s1 else 3
  let s := (((s.put SYS_ROLE role).flag SYS_UNSTABLE (!same)).flag SYS_SAFE (role == 3)).put SYS_PORTS (portsOf role)
  let s := ((s.flag SYS_ARRAY (role == HEAD || role == DUO)).put SYS_PIN_NOW s4).put I2C_OWN_ADDR (0x48 + addr)
  let s := ((s.put PIN_STRAP_ROLE role).put PIN_STRAP_ADDR addr).flag PIN_STRAP_HOSTSEL hostsel
  let s := if s.boot.porRole then
      { (s.put WDT_SUPERVISOR (if hostsel then 2 else 1)).put YARD_OUTSET (if role = HEAD then 1 else 2) with
          boot := { s.boot with porRole := false } }
    else s
  let s := s.drainYardBuf
  let s := if role = 3 then s.event 0x0030 (s1 + s2 * 4 + s3 * 16 + s4 * 64 + bit (!same) * 2 ^ 8) else s
  let s := match s.yard.roleCopy with
    | some old => if old = role then s else (s.put SYS_MOVED 1).event 0x0031 (role + old * 4 + 2 ^ 8)
    | none => s
  { s with yard := { s.yard with roleCopy := some role, ownAddr := 0x48 + addr } }.pathsOff

/-- SAFE is entered (R36): no mode, every power path off; identity reads are served. DEDUCED, log 25, unsafe. -/
def State.enterSafe (s : State) : State :=
  let s := (List.range 4).foldl (fun s n => s.put LINK_PATH 0 n) s
  let s := (s.put YARD_MODE_TARGET DORMANT).put YARD_MODE_BUSY 0
  { s with boot := { s.boot with booting := false, served := true }
           yard := { s.yard with exit := none, pstate := 0 } }

/-! ### Step 3: the Granary (R155, R159, R521) -/

/-- An open journal entry is fixed. -/
def State.journalFix (s : State) (e : Nat × Nat) : State :=
  if e.1 = 2 then (s.event 0x8012 e.2).put SEQ_GRAN_FIX 3
  else
    let s := if e.1 = 0 then s.onGran fun g => g.eraseSector e.2 else s
    (s.event 0x8010 e.2).put SEQ_GRAN_FIX 1

/-- A SHADOW copy with programmed bytes and no valid trailer. -/
def State.shadowFix (s : State) (k : Nat) : State :=
  if s.gran.shadowErased k ∨ s.gran.shadowValid k then s
  else ((s.event 0x8110 k).inc SHADOW_TORN).put SEQ_GRAN_FIX 3

/-- The Granary completion. -/
def State.granBoot (s : State) : State :=
  let s := s.gran.journal.foldl State.journalFix s
  let s := s.onGran fun g => { g with journal := [] }
  let s := (s.shadowFix 0).shadowFix 1
  if s.shadow.outcome = 0 then s
  else { s.event 0x8111 s.shadow.outcome with shadow := { s.shadow with outcome := 0 } }

/-! ### Step 4: exit seeds (R126, R146, R504) -/

/-- The payload of the seed record of FACTORY. -/
def GranS.seedRecord (g : GranS) : Option (List Byte) :=
  match g.recAt 0x152000 with
  | .ok r _ => if r.typ = 1 ∧ r.payload.length = 84 then some r.payload else none
  | _ => none

/-- The seeds and the RC trim. DESIGN CHOICE, log 5, unsafe. DEDUCED, log 24, unsafe. -/
def State.seedBoot (s : State) : State :=
  match s.gran.seedRecord with
  | some bs =>
    let s := { s with yard := { s.yard with seeds := (List.range 20).map fun i => ofLe ((bs.drop (4 * i)).take 4) }
    }
    s.put YARD_RC_TRIM (ofLe ((bs.drop 80).take 1))
  | none =>
    { s.event 0x011B 0 with yard := { s.yard with seeds := seedTable.map (2 * ·) }
                            boot := { s.boot with seedFault := true } }

/-! ### Step 5: the BOOT image (R34, R160, R172, R179, R626) -/

/-- The newer valid BOOT copy, and the copy that fails where just one does. -/
def GranS.bootNewer (g : GranS) : Option Nat × Option Nat :=
  let a := g.bootValid 0
  let b := g.bootValid 1
  if a && b then (some (if g.word (bootBase 0) ≥ g.word (bootBase 1) then 0 else 1), none)
  else if a then (some 0, some 1) else if b then (some 1, some 0) else (none, none)

/-- One entry: skipped where its page is absent in the role. -/
def State.bootEntry (s : State) (e : Nat × Nat) : State :=
  let skip : Option Nat := match target e.1 with
    | .page p _ => if s.present p then none else some p
    | _ => none
  match skip with
  | some p => (if s.get SYS_SKIPPED = 0 then s.event 0x0032 p else s).inc SYS_SKIPPED
  | none => (s.writeWord 0 e.1 e.2).1

/-- The configuration comes from the newer valid copy. Bit 8 of BOOT_IMAGE_FAIL records that P_M3 has been set: where it was 1
already nothing changes, and the bit stays 0 (R179). DEDUCED, log 24, unsafe. -/
def State.imageBoot (s : State) : State :=
  if s.get SEQ_STALLS ≥ 3 then s.put SEQ_IMG_COPY 3
  else match s.gran.bootNewer with
    | (some k, bad) =>
      let s := match bad with | some b => s.event 0x0B11 b | none => s
      (s.gran.bootEntries k).foldl State.bootEntry ((s.put SEQ_IMG_COPY (1 + k)).put SYS_SKIPPED 0)
    | (none, _) =>
      let grant := s.role == HEAD && !s.on SYS_PRIV_LOCK && !s.priv 3
      let s := { s.put SEQ_IMG_COPY 0 with boot := { s.boot with imageFault := true } }
      let s := if grant then s.setPriv (s.get SYS_PRIV ||| 4) else s
      s.event 0x0B10 (bit grant * 2 ^ 8)

/-! ### Step 7: channel trims (R160, R221, R239) -/

/-- A trim payload whose check word and instance are right. -/
def trimOk (i : Nat) (bs : List Byte) : Bool :=
  bs.length == 16 && ofLe (bs.take 1) == i && crc16 (bs.take 14) == ofLe (bs.drop 14)

/-- The factory trim record of a converter: one of 34 records of 28 bytes. DEDUCED, log 35, unsafe. -/
def GranS.factoryTrim (g : GranS) (i : Nat) : Option (List Byte) :=
  (List.range 34).findSome? fun j =>
    match g.recAt (0x151000 + 28 * j) with
    | .ok r _ => if r.typ = 0x0C ∧ r.key = i ∧ trimOk i r.payload then some r.payload else none
    | _ => none

/-- Put a converter's trims in force. -/
def State.trimPut (s : State) (i : Nat) (bs : List Byte) (factory : Bool) : State :=
  let f := fun a n => ofLe ((bs.drop a).take n)
  let s := (((s.put CH_CMP_SEL (f 1 1) i).put CH_OFS_TRIM (f 2 2) i).put CH_GAIN_TRIM (f 4 2) i).put CH_TCH_REF (f 6 2) i
  (s.put CH_CAL_COUNT (if factory then 0 else f 12 2) i).put CH_CAL_LAST_S (if factory then 0 else f 8 4) i

/-- Restore one converter. DEDUCED, log 35, unsafe. -/
def State.trimBoot (valid : List Rec) (s : State) (i : Nat) : State :=
  match newestRec (valid.filter fun r => trimOk i r.payload) 0x0C i with
  | some r => (s.trimPut i r.payload false).inc SEQ_TRIMS
  | none =>
    match s.gran.factoryTrim i with
    | some bs => s.trimPut i bs true
    | none => { s.event 0x0B13 i with cal := { s.cal with bare := s.cal.bare.set i true } }

/-- Restore every converter; a torn record found on the way is reported (R498, R521). DESIGN CHOICE, log 5, unsafe. -/
def State.trimsBoot (s : State) : State :=
  let (recs, torn) := s.gran.logRecs true
  let n := s.gran.tornSeen.length
  let s := s.reportTorn torn
  let s := if s.gran.tornSeen.length > n then s.put SEQ_GRAN_FIX 2 else s
  (List.range 34).foldl (State.trimBoot (validRecs recs [])) s

/-! ### Step 8: the shadow SRAM and the event mirror (R160, R505, R522, R547, R557) -/

/-- The entries of the mirror in a shadow image, oldest first. -/
def mirrorEntries (bs : List Byte) : List Event :=
  (List.range 32).map fun i =>
    let e := (bs.drop (0x100 + 8 * i)).take 8
    ⟨ofLe (e.take 4), ofLe ((e.drop 4).take 2), ofLe (e.drop 6)⟩

/-- A head's restored entries that no cab has acknowledged keep their numbers, and wait in the log for the next session (R412, R557): the
newest one had the number that EVSEQ read when the mirror was stored. DEDUCED, log 52, safe. -/
def State.restoredSeq (s : State) (es : List Event) : List (Nat × Nat) :=
  let owed := (s.log.storedSeq + 65536 - s.get LINKC_EVT_ACKED) % 65536
  (es.zipIdx).filterMap fun (e : Event × Nat) =>
    if e.1.code != 0 && decide (31 - e.2 < owed ∧ owed < 32768) then some ((s.log.storedSeq + 65536 - (31 - e.2)) % 65536, e.2) else none

/-- Mirror entries go back to slots 0 to 31, save where a slot has been written since.
DESIGN CHOICE, log 5, unsafe. -/
def State.mirrorBoot (s : State) (es : List Event) : State :=
  let total := s.get EVT_TOTAL
  let s := (es.zipIdx).foldl (fun s (e : Event × Nat) =>
    if total > 256 + e.2 then s
    else ((s.put EVT_TS e.1.ts 0 e.2).put EVT_CODE e.1.code 0 e.2).put EVT_DATA e.1.data 0 e.2) s
  let m := es.filter (fun e => e.code != 0) ++ s.log.mirror
  { s with log := { s.log with mirror := m.drop (m.length - 32), fwd := s.restoredSeq es ++ s.log.fwd } }

/-- The shadow SRAM is reloaded. -/
def State.shadowBoot (s : State) : State :=
  match s.gran.shadowNewer with
  | none => s.put SEQ_SHADOW_SRC 3
  | some k =>
    let bs := s.gran.bytes (shadowBase k) 0x1000
    let w := fun i => ofLe ((bs.drop (4 * i)).take 4)
    let s := if s.boot.porSeeds then s.put GRAN_SCAN_ACC (w 2) else s
    let s := { s with shadow := { s.shadow with
        sram := (cellsOf 0 bs).filter fun c => decide (0x200 ≤ c.1)
        seconds := w 0
        boots := w 1 + 1
        scanAcc := w 2
        band := [w 3, w 4, w 5, w 6, w 7]
        fires := [w 9, w 10, w 11, w 12] } }
    ((s.put SHUT_CYCLES (w 8)).put SEQ_SHADOW_SRC (1 + k)).mirrorBoot (mirrorEntries bs)

/-- A keep-alive fault that the Yard holds is reported (R396). DEDUCED, log 24, unsafe. -/
def State.kaReport (s : State) (n : Nat) : State :=
  let p := s.port n
  if p.kaFault ∧ p.kaTold = false then
    let s := (((s.put LINK_POC_CAUSE 3 n).inc LINK_POC_FAULTS n).raise (linkPage n) 4).setPort n { p with kaTold := true }
    s.event (linkEv n 0x16) n
  else s

/-! ### Steps 10 and 11: the Loft (R160, R161, R267) -/

/-- The bank that was in force is reloaded; the other one is incomplete. -/
def State.loftBoot (s : State) : State :=
  let b := s.get MILL_ACTIVE
  let src := (s.gran.fieldOrder ++ [0]).find? s.gran.copyValid
  let s := (s.setBank (1 - b) Image.zero).put (completeRow (1 - b)) 0
  match src with
  | some k =>
    let s := (s.setBank b (s.gran.image k)).put (trefRow b) (s.gran.copyTref k)
    let s := { s with loft := { s.loft with identity := none } }
    (s.put (completeRow b) 1).put SEQ_LOFT_SRC (if k = 0 then 3 else k)
  | none =>
    let s := { s.setBank b Image.identity with loft := { (s.setBank b Image.identity).loft with identity := some b } }
    (((s.put (completeRow b) 1).put (trefRow b) 0).put SEQ_LOFT_SRC 4).event 0x0B12 b

/-! ### The sequence -/

/-- Steps 3 to 12 of Table RST-3. DEDUCED, log 24, unsafe. -/
def State.bootRun (s : State) : State :=
  let soft := s.boot.soft
  let image := s.boot.drain.getD false
  let s := ({ s with boot := { s.boot with drain := none } }.put SEQ_BOOT_PHASE 1).granBoot
  let s := s.put SEQ_BOOT_PHASE 2
  let s := if s.boot.porSeeds then s.seedBoot else s
  let s := if !soft || image then (s.put SEQ_BOOT_PHASE 3).imageBoot else s.put SEQ_IMG_COPY 3
  let s := { s with boot := { s.boot with served := true } }
  let s := if soft then (List.range 4).foldl State.kaReport s
    else
      let s := if s.role = CAB then s else (s.put SEQ_BOOT_PHASE 4).trimsBoot
      let s := (List.range 4).foldl State.kaReport (s.put SEQ_BOOT_PHASE 5).shadowBoot
      let s := s.event 0x0020 (s.get SYS_RESET_LAST + s.get SYS_RESET_COUNT * 2 ^ 8)
      if s.role = CAB then s else (s.put SEQ_BOOT_PHASE 6).loftBoot
  let s := if s.role = CAB then s.put SEQ_LOFT_SRC 5 else s
  let s := if s.on YARD_ARMED 0 0 ∨ s.boot.kind = kEXIT then s else s.armScan
  let s := { s with boot := { s.boot with stored := true, porSeeds := false } }.preErase
  ((s.axesNow true).domainsSync).rechoose

/-- The samples have been taken (R16): SAFE, or the rest of the boot. DEDUCED, log 25, unsafe. -/
def State.bootSampled (s : State) (s1 s2 s3 s4 addr : Nat) (hostsel : Bool) : State :=
  let s := s.strapLatch s1 s2 s3 s4 addr hostsel
  if s.safe then s.enterSafe else s.bootRun

/-- The internal reset is released, or a DORMANT exit reaches its boot (R157). Boot waits at step 2 for VDDA and VDDIO (R589).
SOFT and LINK keep the latched role. DEDUCED, log 3, safe. DEDUCED, log 24, unsafe. -/
def State.resetRelease (s : State) (s1 s2 s3 s4 addr : Nat) (hostsel : Bool) : State :=
  if !s.mayBoot then s
  else
    let s := s.bootBegin
    if s.boot.soft then s.drainYardBuf.bootRun
    else if s.boot.vdda && s.boot.vddio then s.bootSampled s1 s2 s3 s4 addr hostsel
    else { s with boot := { s.boot with waiting := some (s1, s2, s3, s4, addr, hostsel) } }

/-- A supply that boot waits for is good (R589). DEDUCED, log 24, unsafe. -/
def State.bootResume (s : State) : State :=
  match s.boot.waiting with
  | some (s1, s2, s3, s4, addr, hostsel) =>
    if s.boot.vdda && s.boot.vddio then
      { s with boot := { s.boot with waiting := none } }.bootSampled s1 s2 s3 s4 addr hostsel
    else s
  | none => s

/-! ### DONE (R157, R162, R172, R176, R293, R386, R482) -/

/-- The port is configured to source 12 V, in force or by a commit that waits for its domain (R65, R383). -/
def State.sources12 (s : State) (n : Nat) : Bool :=
  s.get HDR_EN (linkPage n) == 1 && s.comb (linkPage n) LINK_POC_EN n == 1

/-- Keep-alive, or a path that a reset has held, ends where the port is not configured to source 12 V (R28, R383, R386).
DEDUCED, log 39, unsafe. -/
def State.kaEnd (s : State) (n : Nat) : State :=
  if s.get LINK_PATH n ≠ 0 ∧ !s.sources12 n then s.put LINK_PATH 0 n else s

/-- A WC4 alone brought the device up: SERVICE runs the tasks of its slots, slot 0's scan and a host slot's hold (R104, R114, R510).
The scan that slot 0 has asked for runs in START_MODE too. DEDUCED, log 32, unsafe. -/
def State.serviceBoot (s : State) : State :=
  let k := s.yard.hostSlot.getD 0
  let wc4 := s.yard.exit.isSome && s.get YARD_MODE_CAUSE == 3
  let s := if wc4 then { s with yard := { s.yard with service := some ⟨k, s.get YARD_HOLD_S 0 k⟩ } } else s
  let s := { s with yard := { s.yard with hostSlot := none } }
  if s.yard.scanTask then s.startScan else s

/-- The last step of boot has ended (R157): in HEAD and DUO PD_PIX is on and its bias ramp over; in CAB the domains in EFF_OUT are
on. SOFT and LINK have no such step. -/
def State.bootReady (s : State) : Bool :=
  let up := fun d => !(s.wants d && s.supplied d) || s.pd d == 2
  s.boot.soft || (if s.role = CAB then up 6 && up 7 else up 1 && s.fpa.ramp != 1)

/-- The thermal cut that DONE meets (R176, R343, R346, R349): one that has waited for it, or a reading at or above 155 °C; answers
whether the comparator made it. -/
def State.cutAtDone (s : State) : Option Bool :=
  match s.boot.cut with
  | some c => some c
  | none => if s.temp.hot ≥ 1 ∨ s.allTsBad then some false else none

/-- Boot ends (R157). DEDUCED, log 24, unsafe. -/
def State.bootDone (s : State) (us : Nat) : State :=
  if !s.boot.booting ∨ s.boot.waiting.isSome ∨ !s.bootReady then s
  else
    let cut := s.cutAtDone
    let lost := !s.boot.soft
    let s := (((s.put SEQ_BOOT_DONE 1).put SEQ_BOOT_PHASE 0).put SEQ_BOOT_TIME (min us (2 ^ 24 - 1))).put SEQ_STALLS 0
    let s := { s with boot := { s.boot with booting := false, cut := none }
                      yard := { s.yard with trans := some ⟨s.get YARD_MODE_TARGET, s.get YARD_MODE_CAUSE, false, false⟩ } }
    let s := s.serviceBoot
    let s := (List.range 4).foldl State.kaEnd s
    let s := if lost then s.nucBoot else s
    let s := s.shutBoot.reportYardLost
    let s := if lost then s else s.boundariesNow
    let s := { s.wdtSync with host := { s.host with autoNext := 0 } }
    let s := (s.autoRun 4).settle
    match cut with
    | some c => s.cutNow c
    | none => s

/-- The boot time limit passes (R172). DEDUCED, log 26, unsafe. -/
def State.bootStalled (s : State) : State :=
  if s.boot.booting then (s.inc SEQ_STALLS).wdtReset else s

end Sys2Proof.Machine
end

