-- ==== Sys2Proof/Machine/Items.lean ====
section
/-! DEFINITION. The items of the command queues and of scripts: which one executes, and what each does (R474 to R476, R479,
R481, Table CMDQ-1, Table SEQ-2). -/

namespace Sys2Proof.Machine

/-- The next executable item in the cyclic order, starting after the queue served last (R475): queue, script, words.
DEDUCED, log 45, unsafe. -/
def State.itemPick (s : State) : Option (Nat × Bool × List Nat) :=
  if !s.reachable || s.safe then none else s.itemTurn

/-- Payload word `k` of an item. -/
def itemArg (i : List Nat) (k : Nat) : Nat := i.getD (1 + k) 0

/-- The item leaves its queue and executes. -/
def State.itemBegin (s : State) (q : Nat) (script : Bool) (i : List Nat) : State :=
  let s := { s.itemTake q script with host := { (s.itemTake q script).host with lastQueue := q } }
  s.setQueue q { s.queue q with busy := some (2 :: i) }

/-- The item completes, unless a reset has ended it without a completion (R486). -/
def State.itemFinish (s : State) (q : Nat) (script : Bool) (i : List Nat) (code : Nat) (met : Bool) (result : Nat) : State :=
  match (s.queue q).busy with
  | some _ => ((s.setQueue q { s.queue q with busy := none }).itemEnd q script i code false met result).settle
  | none => s

/-- The item goes on: a WAIT, or a POLL that has read `w`. -/
def State.itemHold (s : State) (q : Nat) (script : Bool) (i : List Nat) (w : Nat) : State :=
  s.setQueue q { s.queue q with busy := some (bit script :: i), last := w }

/-- Execute the next item where it has opcode `op`. DEDUCED, log 45, unsafe. -/
def State.itemRun (s : State) (op : Nat) (act : State → Nat → Bool → List Nat → State) : State :=
  match s.itemPick with
  | some (q, script, i) => if itemOp i = op then act (s.itemBegin q script i) q script i else s
  | none => s

/-- An address is a queue's DATA or START port, which a burst of words does not advance past (R463, Table CMDQ-3). -/
def isPort (addr : Nat) : Bool :=
  decide (0x4000A100 ≤ addr ∧ addr < 0x4000A200) && (addr % 0x40 == 0 || addr % 0x40 == 4)

/-- The address of the word after `addr`. -/
def nextAddr (addr : Nat) : Nat := if isPort addr then addr else (addr + 4) % 2 ^ 32

/-- Write words one after another, stopping at the first refused one: its code and index. -/
def State.writeRun (s : State) (m : Nat) : Nat → Nat → List Nat → State × Nat × Nat
  | _, k, [] => (s, cOK, k)
  | addr, k, w :: ws =>
    let (t, code) := s.itemWrite m addr w
    if code ≠ cOK then (t, code, k) else State.writeRun t m (nextAddr addr) (k + 1) ws

/-- WRITE. -/
def State.doWrite (s : State) (q : Nat) (script : Bool) (i : List Nat) : State :=
  let (s, code, k) := s.writeRun q (itemArg i 0) 0 (i.drop 2)
  s.itemFinish q script i code false k

/-- MODIFY: no access comes between the read and the write. -/
def State.doModify (s : State) (q : Nat) (script : Bool) (i : List Nat) : State :=
  let a := itemArg i 0
  let mask := itemArg i 1
  let (s, old, code) := s.itemRead q a
  if code ≠ cOK then s.itemFinish q script i code false old
  else
    let (s, code) := s.itemWrite q a ((old &&& (0xFFFFFFFF - mask)) ||| (itemArg i 2 &&& mask))
    s.itemFinish q script i code false old

/-- A read of POLL: `last` where no other follows. -/
def State.doPoll (s : State) (last : Bool) (q : Nat) (script : Bool) (i : List Nat) : State :=
  let (s, w, code) := s.itemRead q (itemArg i 0)
  if code ≠ cOK then s.itemFinish q script i code false w
  else if w &&& itemArg i 1 = itemArg i 2 then s.itemFinish q script i cOK true w
  else if last || itemArg i 3 % 2 ^ 24 = 0 then s.itemFinish q script i cOK false w
  else s.itemHold q script i w

/-- A wait of `us` microseconds: 0 completes at once. -/
def State.doWait (us : Nat) (s : State) (q : Nat) (script : Bool) (i : List Nat) : State :=
  if us % 2 ^ 24 = 0 then s.itemFinish q script i cOK false 0 else s.itemHold q script i 0

/-- An item that is one write, with RESULT 0. -/
def State.doOne (addr data : List Nat → Nat) (s : State) (q : Nat) (script : Bool) (i : List Nat) : State :=
  let (s, code) := s.itemWrite q (addr i) (data i)
  s.itemFinish q script i code false 0

/-- The parameter that an item names, as sampled when the run started (R480). -/
def State.param (s : State) (i : List Nat) (k : Nat) : Nat :=
  match s.host.script with
  | some r => r.params.getD (itemArg i k % 8) 0
  | none => 0

/-- The WAIT, WAIT_P or POLL that queue `q` is held by: whether a script fed it, and its words. In a debug halt the engine does nothing
with it (R587). -/
def State.itemHeld (s : State) (q : Nat) : Option (Bool × List Nat) :=
  match (s.queue q).busy with
  | some (b :: i) => if b ≤ 1 && !s.on PIN_TAP_HALT then some (b == 1, i) else none
  | _ => none

/-- A POLL reads again, for the last time where it does not match (R474). -/
def State.pollEnd (s : State) (q : Nat) : State :=
  match s.itemHeld q with
  | some (script, i) => if itemOp i = 0x03 then s.doPoll true q script i else s
  | none => s

/-- The time of a WAIT or WAIT_P has passed (R474, R479). -/
def State.waitEnd (s : State) (q : Nat) : State :=
  match s.itemHeld q with
  | some (script, i) => if itemOp i = 0x04 ∨ itemOp i = 0x21 then s.itemFinish q script i cOK false 0 else s
  | none => s

end Sys2Proof.Machine
end

