-- ==== Sys2Proof/Machine/Host.lean ====
section
/-! DEFINITION. The host's interfaces as they meet the arbiter: the two-wire bus, attention, SPI and the test port (R461 to
R472, R488, R584 to R587). -/

namespace Sys2Proof.Machine

/-- Work on the interfaces' part of the state. -/
def State.onHost (s : State) (f : HostS → HostS) : State := { s with host := f s.host }

/-- The device is in DORMANT, or leaving it before its boot. -/
def State.inDormant (s : State) : Bool := s.mode == DORMANT && s.yard.pstate == 4 && !s.boot.booting && !s.done

/-- One write by an interface at its address pointer (R463, R464, R472); of a posted one it learns the code when the Yard takes it. -/
def State.ifWrite (s : State) (m addr data : Nat) : State × Nat :=
  let (t, k) := s.postWrite m addr data
  (if s.posts m addr then t else s.noteFrom t m k, k)

/-- Writes by an interface from an address on (R463, R471). -/
def State.ifWrites (s : State) (m : Nat) : Nat → List Nat → State
  | _, [] => s
  | addr, w :: ws => State.ifWrites (s.ifWrite m addr w).1 m (nextAddr addr) ws

/-! ### The two-wire bus -/

/-- The bytes of an address or data word on the two-wire bus and on SPI, in either direction: most significant first (R461). -/
def busBytes (w : Nat) : List Byte := (le32 w).reverse

/-- L1 and L2: the arbiter does not run until the wake has ended (R465). -/
def State.arbiterRests (s : State) : Bool := s.yard.pstate == 1 || s.yard.pstate == 2

/-- A boot that has not reached step 6 of Table RST-3: the targets serve nothing, and nothing wakes (R466, R470, R490). -/
def State.bootEarly (s : State) : Bool := s.boot.booting && !s.boot.served

/-- A START ends an open write that had an address phase and no data word, unless a read follows it at the target (R463). -/
def State.i2cLeft (s : State) (addr : Nat) (read : Bool) : State :=
  if s.host.i2cTxn == some false && s.host.i2cAddr && s.host.i2cWords == 0 && (addr != s.yard.ownAddr || !read) then
    s.put I2C_LAST_CODE cEMPTY
  else s

/-- The target answers its address with N. -/
def State.i2cNack (s : State) : State := s.onHost fun h => { h with i2cAck := false, i2cTxn := none }

/-- A transaction opens, or goes on after a repeated START (R463). -/
def State.i2cOpen (s : State) (read : Bool) (ptr : Option Nat) : State :=
  let s := if s.host.i2cTxn.isSome then s else s.put I2C_REFUSALS 0
  s.onHost fun h => { h with i2cAck := true, i2cTxn := some read, i2cAddr := ptr.isSome, i2cWords := 0, i2cOut := []
                             i2cPtr := ptr.getD h.i2cPtr }

/-- The address byte (R462, R463, R465, R466, Table I2C-2). DEDUCED, log 44, safe. -/
def State.i2cAddress (s : State) (addr : Nat) (read : Bool) (ptr : Option Nat) : State :=
  let s := s.i2cLeft addr read
  if addr ≠ s.yard.ownAddr ∨ s.boot.inReset ∨ s.bootEarly then s.i2cNack
  else if s.safe then s.i2cOpen read (if read then none else ptr)
  else if s.inDormant then
    if s.yard.i2cWake then (s.i2cNack.onHost fun h => { h with sleepNack := true }).wake 1 none else s.i2cNack
  else
    let s := s.wake 1 none
    if s.yard.pstate = 3 then s.i2cNack.onHost fun h => { h with sleepNack := true }
    else if !s.reachable then s.i2cNack
    else if s.nvmBusy then (s.i2cNack.inc I2C_BUSY_NACKS)
    else if !s.arbiterRests then s.i2cOpen read (if read then none else ptr)
    else if read then s.i2cNack.inc I2C_LATE_NACKS
    else s.i2cOpen false ptr

/-- A data word is complete (R463, R465): in L1 and L2 it waits in the 4-word buffer. DEDUCED, log 44, safe. -/
def State.i2cWrite (s : State) (data : Nat) : State :=
  if s.host.i2cTxn ≠ some false then s
  else
    let a := s.host.i2cPtr
    if !s.safe && s.arbiterRests && s.host.i2cBuf.length ≥ 4 then
      (s.inc I2C_PARTIAL).onHost fun h => { h with i2cAck := false }
    else
      let s := s.onHost fun h => { h with i2cAck := true, i2cPtr := nextAddr a, i2cWords := h.i2cWords + 1 }
      if !s.safe && s.arbiterRests then s.onHost fun h => { h with i2cBuf := h.i2cBuf ++ [(a, data)] }
      else (s.ifWrite 2 a data).1

/-- The words that waited are written once the arbiter runs (R465). -/
def State.i2cDrain (s : State) : State :=
  let l := s.host.i2cBuf
  l.foldl (fun s e => (s.ifWrite 2 e.1 e.2).1) ((s.sluicePeak 12 l.length).onHost fun h => { h with i2cBuf := [] })

/-- A word is read (R461, R463). -/
def State.i2cRead (s : State) : State :=
  if s.host.i2cTxn ≠ some true then s
  else
    let a := s.host.i2cPtr
    let (s, w, k) := s.busRead 2 a
    (s.noteCode 2 k).onHost fun h => { h with i2cOut := h.i2cOut ++ busBytes w, i2cPtr := nextAddr a, i2cWords := h.i2cWords + 1 }

/-- STOP or START (R463, R465): a hold follows each STOP that the target sees. DEDUCED, log 44, safe. -/
def State.i2cStop (s : State) (cut : Bool) : State :=
  match s.host.i2cTxn with
  | none => if s.reachable then s.onHost fun h => { h with i2cHold := decide (s.get I2C_HOLD_US ≠ 0) } else s
  | some read =>
    let s := if cut then s.inc I2C_PARTIAL else s
    let s := if !read && s.host.i2cAddr && s.host.i2cWords == 0 then s.put I2C_LAST_CODE cEMPTY else s
    s.onHost fun h => { h with i2cTxn := none, i2cHold := decide (s.get I2C_HOLD_US ≠ 0) }

/-- SDA has been driven low for 10 ms without SCL activity (R488). -/
def State.sdaStuck (s : State) : State := if s.on I2C_SDA_HELD then s else (s.put I2C_SDA_HELD 1).event 0x0811 0

/-! ### Attention (R468, R469) -/

/-- A trigger: the assertion of IRQ_N, or a repeat where ATTN_REPEAT allows one; it is merged into attempts in progress. -/
def State.attnStart (s : State) : State :=
  let first := !s.host.attnDone
  let s := if s.irq then s.onHost fun h => { h with attnDone := true } else s
  if s.reachable && s.on I2C_ATTN_EN && s.irq && (first || s.get I2C_ATTN_REPEAT != 0) && s.host.attnTries == 0 then
    s.onHost fun h => { h with attnTries := 1 }
  else s

/-- Some page's STATUS.FAULT is set (R632). -/
def State.someFault (s : State) : Bool := allPages.any s.blockFault

/-- The message (Table I2C-3). -/
def State.attnBytes (s : State) : List Byte :=
  let code := s.get EVT_CODE 0 ((s.get EVT_TOTAL + 255) % 256)
  let summary := bit s.irq + 2 * bit ((List.range 3).any fun k => s.get SYS_DEFAULTED_SUMMARY 0 k != 0) +
    4 * bit s.someFault + 8 * s.host.attnEvents
  [BitVec.ofNat 8 (2 * s.get I2C_OWN_ADDR), BitVec.ofNat 8 summary, BitVec.ofNat 8 (code / 256), BitVec.ofNat 8 code]

/-- An attempt (R469): 0 delivered, 1 arbitration lost, 2 a byte not acknowledged. -/
def State.attnTry (s : State) (outcome : Nat) : State :=
  let n := s.host.attnTries
  if n = 0 then s
  else if outcome = 0 then
    (s.inc I2C_ATTN_SENT).onHost fun h =>
      { h with attnMsg := s.attnBytes, attnTo := (s.get I2C_ATTN_ADDR, s.get I2C_ATTN_SPEED), attnEvents := 0, attnTries := 0 }
  else
    let s := s.inc I2C_ATTN_LOST
    if n ≥ 1 + s.get I2C_ATTN_RETRY then
      ((s.onHost fun h => { h with attnTries := 0 }).put I2C_GAVE_UP 1).event 0x0810 (n + bit (outcome == 2) * 2 ^ 8)
    else s.onHost fun h => { h with attnTries := n + 1 }

/-! ### SPI -/

/-- The status byte but for its bits 2 to 0 (Table SPI-2). -/
def State.spiStatus (s : State) : Nat :=
  0x80 + 32 * bit s.irq + 16 * bit (s.yard.pstate == 0) + 8 * bit s.host.spiErr

/-- CS_N falls: the transaction as it will be treated, and the status byte; a discarded one carries 0xFF after it. -/
def State.spiBegin (s : State) (txn low : Nat) : State :=
  s.onHost fun h => { h with spiTxn := some txn, spiErrNow := false
                             miso := BitVec.ofNat 8 (s.spiStatus + low) :: (if txn = 1 then [0xFF] else []) }

/-- CS_N falls (R470). DEDUCED, log 44, safe. -/
def State.spiFall (s : State) : State :=
  if s.boot.inReset then s
  else if s.safe then (s.put SPI_REFUSALS 0).spiBegin 0 1
  else if s.inDormant then
    if s.yard.spiWake then ((s.spiBegin 1 4).inc SPI_NOT_READY_TX).wake 1 none else s
  else if s.bootEarly then (s.spiBegin 1 4).inc SPI_NOT_READY_TX
  else
    let s : State := if s.yard.pstate = 3 ∨ s.arbiterRests ∨ !s.reachable then (s.spiBegin 1 4).inc SPI_NOT_READY_TX
      else if s.nvmBusy then (s.spiBegin 1 2).inc SPI_BUSY_TX
      else (s.put SPI_REFUSALS 0).spiBegin 0 1
    s.wake 1 none

/-- NOP (Table SPI-1). -/
def State.spiNop (s : State) : State :=
  if s.host.spiTxn = some 0 then s.onHost fun h => { h with spiTxn := some 1, miso := h.miso ++ [0] } else s

/-- WRITE (R471): the words received whole. -/
def State.spiWrite (s : State) (addr : Nat) (words : List Nat) : State :=
  if s.host.spiTxn ≠ some 0 then s
  else
    let s := s.onHost fun h => { h with spiTxn := some 2, miso := h.miso ++ [0] }
    if words.isEmpty then s.put SPI_LAST_CODE cEMPTY else s.ifWrites 1 addr words

/-- The bytes of a read word: the token and the data, most significant byte first (R461, R472). -/
def spiWord (w k : Nat) : List Byte := (if k = cOK then 0xA5 else 0x5A) :: busBytes w

/-- Words are read one after another (R472). DEDUCED, log 44, safe. -/
def State.spiReads (s : State) : Nat → Nat → State
  | _, 0 => s
  | addr, n + 1 =>
    let (s, w, k) := s.busRead 1 addr
    State.spiReads ((s.noteCode 1 k).onHost fun h => { h with miso := h.miso ++ spiWord w k }) (nextAddr addr) n

/-- READ. -/
def State.spiRead (s : State) (addr n : Nat) : State :=
  if s.host.spiTxn ≠ some 0 then s else (s.onHost fun h => { h with spiTxn := some 3 }).spiReads addr n

/-- Any other command (R470). -/
def State.spiBad (s : State) (b : Nat) : State :=
  if s.host.spiTxn ≠ some 0 ∨ b = 0 ∨ b = 2 ∨ b = 3 then s
  else ((s.onHost fun h => { h with spiTxn := some 1, spiErrNow := true }).inc SPI_PROTOCOL_ERRS).event 0x0910 b

/-- CS_N rises (R471, R472). DEDUCED, log 44, safe. -/
def State.spiRise (s : State) (cut : Bool) : State :=
  match s.host.spiTxn with
  | none => s
  | some t =>
    let part := cut && t == 2
    let s := if part then s.inc SPI_PARTIAL else s
    s.onHost fun h => { h with spiTxn := none, spiHold := decide (s.get SPI_HOLD_US ≠ 0), spiErr := h.spiErrNow || part }

/-! ### The test port (R584 to R587) -/

/-- TCK acts: VDDIO is good, outside L3 and DORMANT (Table PIN-2). DEDUCED, log 46, unsafe. -/
def State.tapOn (s : State) : Bool := s.boot.vddio && s.yard.pstate != 3 && !s.inDormant

/-- TDO (Table PIN-2). -/
def State.padTdo (s : State) : Pad := if s.tapOn then .live else .z

/-- An instruction comes into force. -/
def State.tapInstr (s : State) (code : Nat) : State :=
  if s.tapOn then (s.put PIN_TAP_IR code).put PIN_TAP_EXTEST 0 else s

/-- The mode and the privilege that EXTEST and HALT need. -/
def State.tapMay (s : State) : Bool := s.mode == SERVICE && s.priv 4

/-- EXTEST (R585). -/
def State.tapExtest (s : State) : State :=
  if !s.tapOn then s
  else if s.tapMay then (s.put PIN_TAP_IR 0).put PIN_TAP_EXTEST 1
  else ((s.put PIN_TAP_IR 15).put PIN_TAP_EXTEST 0).event 0x0714 0

/-- REGACC's Update-DR (R586). DEDUCED, log 46, unsafe. -/
def State.tapAccess (s : State) (write : Bool) (addr data : Nat) : State :=
  let s := s.tapInstr 8
  if !s.tapOn || !(s.reachable || s.safe) then s
  else if write then
    let (s, k) := s.postWrite 4 addr data
    s.onHost fun h => { h with tapDone := true, tapCode := k, tapData := 0 }
  else
    let (s, w, k) := s.busRead 4 addr
    s.onHost fun h => { h with tapDone := true, tapCode := k, tapData := w }

/-- What Capture-DR of REGACC loads (R586). DEDUCED, log 46, unsafe. -/
def State.tapCapture (s : State) : Nat := s.host.tapData + s.host.tapCode * 2 ^ 32 + bit s.host.tapDone * 2 ^ 40

/-- A halt ends (R587): the engine, the queues and the watchdog go on. -/
def State.haltEnd (s : State) : State :=
  let s := { s.put PIN_TAP_HALT 0 with wdt := { s.wdt with dbgHalt := false } }
  s.engineStart.settle

/-- HALT (R587). -/
def State.tapHalt (s : State) (on : Bool) : State :=
  let s := s.tapInstr 9
  if !s.tapOn then s
  else if on then
    if s.tapMay then { s.put PIN_TAP_HALT 1 with wdt := { s.wdt with dbgHalt := true } } else s.event 0x0714 9
  else if s.on PIN_TAP_HALT then s.haltEnd else s

/-- Test-Logic-Reset (R584, R587, Table LOCK-2). DEDUCED, log 46, unsafe. -/
def State.tapReset (s : State) : State :=
  if !s.tapOn then s
  else
    let s := (s.put PIN_TAP_IR 2).put PIN_TAP_EXTEST 0
    let s := if s.on PIN_TAP_HALT then s.haltEnd else s
    if (List.range 8).any (s.holds 4) then (s.advanceEpoch 4).orphanAll 4 5 else s

/-- What Capture-DR of IDCODE loads (Table PIN-4). -/
def idcode : Nat := Config.baseRev.toNat % 16 * 2 ^ 28 + 0x6432 * 2 ^ 12 + 0x2A7 * 2 + 1

end Sys2Proof.Machine
end

