-- ==== Sys2Proof/Machine/Supply.lean ====
section
/-! DEFINITION. Supplies, straps and VBAT (R33, R577, R589, R590, R598, R599), and the power-fail store (R507, R515, R516). -/

namespace Sys2Proof.Machine

/-! ### Supplies -/

/-- A supply is good or not: 0 VDDA, 1 VDDIO, 2 VDDPHY. -/
def State.setSupply (s : State) (k : Nat) (b : Bool) : State :=
  { s with boot := if k = 0 then { s.boot with vdda := b } else if k = 1 then { s.boot with vddio := b }
                   else { s.boot with vddphy := b } }

/-- The domains that a lost supply closes (Table PIN-6). DEDUCED, log 56, safe. -/
def lossDomains (k : Nat) : List Nat := if k = 0 then [1, 8] else if k = 1 then [1, 7] else [2, 3, 4, 5, 6]

/-- A supply falls below its monitor threshold (R598). In DORMANT, and on the way there, it may be removed (R150).
DEDUCED, log 56, safe. -/
def State.supplyLoss (s : State) (k : Nat) : State :=
  let was := if k = 0 then s.boot.vdda else if k = 1 then s.boot.vddio else s.boot.vddphy
  let entering := match s.yard.trans with | some t => t.entering | none => false
  let s := s.setSupply k false
  if !was || s.boot.inReset || s.safe || entering || s.inDormant || s.boot.waiting.isSome then s
  else
    let s := { s with yard := { s.yard with lostSupplies := s.yard.lostSupplies ||| 2 ^ k } }
    let s := ((s.put PIN_SUPPLY_LOST (s.get PIN_SUPPLY_LOST ||| 2 ^ k)).raise 0x007 1).event 0x0711 (2 ^ k)
    let open_ := (lossDomains k).filter fun d => s.pd d == 2 || s.pd d == 3
    let s := if k = 0 then s.actuatorsOff else s
    let s := s.domainsSync
    open_.foldl (fun s d => s.drainLimit d 0) s

/-- A lost supply has been good for 1 ms (R599). DEDUCED, log 56, safe. -/
def State.supplyBack (s : State) (k : Nat) : State :=
  if bitAt s.yard.lostSupplies k then
    let s := { s.setSupply k true with yard := { s.yard with lostSupplies := s.yard.lostSupplies - 2 ^ k } }
    ((s.event 0x0712 (2 ^ k)).raise 0x007 2).domainsSync
  else s

/-- A supply rises to good at power-up, or after its removal in DORMANT (R150, R589): 0 VDD, 1 VDDA, 2 VDDIO, 3 VDDPHY.
DEDUCED, log 27, unsafe. DEDUCED, log 56, safe. -/
def State.supplyGood (s : State) (k : Nat) : State :=
  if k = 0 then { s with boot := { s.boot with vdd := true } }
  else if bitAt s.yard.lostSupplies (k - 1) then s
  else (s.setSupply (k - 1) true).bootResume

/-- VBAT has been outside 7.0 to 40.0 V for 10 µs (R590). DEDUCED, log 12, unsafe. DEDUCED, log 56, safe. -/
def State.vbatOut (s : State) (mv : Nat) : State :=
  let note := fun (s : State) (r : Row) (n : Nat) => if s.on r then s else ((s.put r 1).event 0x0713 n).raise 0x007 8
  if mv < 7000 then note s PIN_VBAT_LOW 1 else if mv > 40000 then note s PIN_VBAT_HIGH 2 else s

/-- VBAT is back inside (R590). -/
def State.vbatIn (s : State) : State := (s.put PIN_VBAT_LOW 0).put PIN_VBAT_HIGH 0

/-- The live role levels have differed from the latched role for 1 ms (R33); until the role is latched there is none to differ
from. -/
def State.strapMoved (s : State) (live : Nat) : State :=
  if s.boot.inReset || s.inDormant || s.boot.waiting.isSome then s
  else
    let s := s.put SYS_PIN_NOW live
    if live = s.role ∨ s.on SYS_MISMATCH then s else (s.put SYS_MISMATCH 1).event 0x0031 (live + s.role * 4)

/-! ### Power-fail (R175, R507, R515, R516) -/

/-- The operation in progress when a store is committed at power-fail: a program completes; an erase is abandoned, to be redone
at once after the store if the device goes on (R516); that of the store's own target is the store's. DEDUCED, log 28, unsafe. -/
def State.pfCurrent (s : State) : State :=
  match s.gran.cur with
  | none => s
  | some j =>
    if j.op = jSTORE then s
    else if (match j.ops with | op :: _ => (op.erases j).isSome | [] => false) then
      (s.cutOp.onGran fun g =>
        { g with cur := none, jobs := if j.op = jPREERASE then g.jobs else g.jobs ++ [{ j with rank := 1 }] }).engineStart
    else s.opDone false

/-- PFI has been below its threshold for 2 µs (R507): armed from boot step 8, and not in DORMANT.
DEDUCED, log 28, unsafe. -/
def State.powerFail (s : State) : State :=
  if s.get SHADOW_PF_EN = 0 ∨ !s.boot.stored ∨ s.inDormant ∨ s.pfStoring then s
  else
    let s : State := match s.shadow.storing with
      | some e =>
        let s : State := { s with shadow := { s.shadow with storing := some (3, e.2) } }
        s.onGran fun g => { g with jobs := g.jobs.map fun (j : Job) => if j.op = jSTORE then { j with rank := 1 } else j }
      | none => s.commitStore 3 1
    { s with shadow := { s.shadow with pfCommitted := true } }.pfCurrent

/-- The store has ended (R506, R516, R519). `fails`: its target did not verify; `powered`: a power-fail store ends with main power
back, and the device goes on. DEDUCED, log 28, unsafe. -/
def State.storeDone (s : State) (fails powered : Bool) : State :=
  match s.shadow.storing with
  | none => s
  | some (cause, _) =>
    let was := s.shadow.outcome
    let bad := fails || (s.gran.jobs.any fun j => j.op == jSTORE && j.code != cOK)
    let s := if bad then s.breakStore else s.finishStore
    let s := if bad then { s with shadow := { s.shadow with outcome := was } } else s
    let s := { s with shadow := { s.shadow with pfCommitted := false } }
    let s := if cause = 3 ∧ powered then
        { s.event 0x8111 (bit (!bad) + 4) with shadow := { s.shadow with outcome := was } }
      else s
    (if bad then s.engineStart else s.preErase.engineStart).domainsSync

/-- VBKP falls below the store floor with `bursts` bursts written (R515): the store stops, and BOR_CORE follows.
DEDUCED, log 28, unsafe. -/
def State.storeFloor (s : State) (bursts : Nat) : State :=
  if !s.pfStoring then s
  else
    let all := s.gran.cur.toList ++ s.gran.jobs
    let ops := (all.filter fun j => j.op == jSTORE).flatMap Job.ops
    let s := ops.foldl (fun s op => match op with
      | .burst k => if k < bursts then s.applyOp ⟨jSTORE, 1, false, 7, true, [], 0, 3⟩ op else s
      | .erase sec => if bursts = 0 then s else s.onGran fun g => g.eraseSector sec
      | _ => s) s
    let s := s.breakStore
    { s with shadow := { s.shadow with pfCommitted := false } }.borCore

end Sys2Proof.Machine
end

