-- ==== Sys2Proof/Machine/Tunnel.lean ====
section
/-! DEFINITION. What a head does with tunnelled accesses and remote resets (R152, R408, R410, R425), and what the block does
of its own accord: calibrations that start at once, STATUS, the accesses a head holds, the events it forwards (R226, R408, R411,
R412). -/

namespace Sys2Proof.Machine

/-- The head serves accesses now (R66, R158, R408). -/
def State.headServes (s : State) : Bool := s.reachable && !s.safe && !s.nvmBusy

/-- A tunnelled write whose effect waits for its reply (R425): the action it defers. 1 and 2 are a SOFT reset without and with
IMAGE, 4 + data a write that clears LINK0.CTRL.EN; 0 is the LINK reset of RRESET (R410). DEDUCED, log 41, safe. -/
def State.tunDefers (s : State) (addr data : Nat) : Option Nat :=
  if addr = regAddr 0x000 0x068 ∧ (s.writeCheck 3 0x000 0x068 data).isNone then some (1 + bit (bitAt data 8))
  else if addr = regAddr 0x070 0x008 ∧ s.present 0x070 ∧ s.get HDR_EN 0x070 = 1 ∧ !bitAt data 0 ∧
      (s.writeCheck 3 0x070 0x008 data).isNone then some (4 + data)
  else none

/-- Serve one tunnelled access, and answer it (R408). DEDUCED, log 41, safe. -/
def State.tunServe (s : State) (a : TunAcc) : State :=
  if a.wr then
    match s.tunDefers a.addr a.data with
    | some k => (s.setPort 0 { s.port 0 with action := (s.port 0).action ++ [k] }).tunAnswer a cOK 0
    | none => let (s, k) := s.busWriteFor 3 a.addr a.data; s.tunAnswer a k 0
  else
    let (s, w, k) := s.busReadFor 3 a.addr
    s.tunAnswer a k w

/-- The accesses that a head has held are served, oldest first (R408).
DEDUCED, log 41, safe. DEDUCED, log 55, safe. -/
def State.serveHeld : Nat → State → State
  | 0, s => s
  | f + 1, s =>
    if s.headServes then
      match (s.port 0).held with
      | [] => s
      | a :: l => ((s.setPort 0 { s.port 0 with held := l }).tunServe a).serveHeld f
    else s

/-- TUN_RD or TUN_WR at a head (R118, R408): a remote command, WC2; in SEQ order, after those it holds. -/
def State.tunIn (s : State) (wr : Bool) (c : Ctrl) : State :=
  let a : TunAcc := ⟨ctrlWord c 0 % 256, wr, ctrlWord c 1, if wr then ctrlWord c 2 else 0, 3, false, false⟩
  ((s.wake 2 none).setPort 0 { (s.wake 2 none).port 0 with held := ((s.wake 2 none).port 0).held ++ [a] }).serveHeld 64

/-- The tunnel timeout passes (R408): the oldest held access is answered NVM_BUSY. DEDUCED, log 41, safe. -/
def State.tunExpire (s : State) : State :=
  if s.headEnd ∧ !s.headServes then
    match (s.port 0).held with
    | [] => s
    | a :: l => (s.setPort 0 { s.port 0 with held := l }).tunAnswer a cNVM 0
  else s

/-- RRESET at a head (R118, R152, R410): WC2, the reply, and the reset that waits for it.
DEDUCED, log 41, safe. DEDUCED, log 54, unsafe. -/
def State.rresetIn (s : State) : State :=
  let ok := s.priv 3
  let s := (s.wake 2 none).post 0 0x12 [(if ok then cOK else cPRIV) * 2 ^ 8 + 2 ^ 18, 0]
  if ok then s.setPort 0 { s.port 0 with action := (s.port 0).action ++ [0] } else s

/-- The reply has been acknowledged, or 1 ms has passed (R410, R425): the oldest action that waits begins.
DEDUCED, log 41, safe. DEDUCED, log 54, unsafe. -/
def State.actionGo (s : State) : State :=
  match (s.port 0).action with
  | [] => s
  | k :: l =>
    let s := s.setPort 0 { s.port 0 with action := l }
    if k = 0 then s.softReset kLINK false
    else if k ≤ 2 then s.softReset kSOFT (k == 2)
    else s.writeDo 3 0x070 0x008 (k - 4)

/-- With the timing stopped the scheduler selects its candidates at once (R226), after DONE (R240). DEDUCED, log 55, safe. -/
def State.calAtOnce (s : State) : State :=
  if s.done && s.pd 1 == 2 && !s.fpa.on && (s.get HDR_EN 0x010 == 0 || s.get HDR_EN 0x011 == 0 || s.fpa.ovl) && s.mode != DORMANT then s.schedule else s

/-- What the block does of its own accord (R226, R408, R411, R412).
DESIGN CHOICE, log 2, unsafe. DEDUCED, log 55, safe. -/
def State.finish (s : State) : State := (s.calAtOnce.noteStatus.serveHeld 64).forward 32

end Sys2Proof.Machine
end

