-- ==== Sys2Proof/Machine/Tick.lean ====
section
/-! DEFINITION. The Yard's time: a YCLK cycle, which an empty queue takes, the second, and the timer slots (R112 to R115,
R510, R523, R529). -/

namespace Sys2Proof.Machine

/-- A due slot fires (R114, R115): ARMED clears. Slot 0 starts the margin scan, in DORMANT after its wake; slot 1 is a deadline
only, armed again while a calibration still runs (R226); slot 2 starts a SENTRY frame; a host slot raises WC4. DEDUCED, log 32, unsafe. -/
def State.slotFire (s : State) (k : Nat) : State :=
  if !s.slotDue k || s.boot.inReset || s.safe then s
  else
    let s := s.disarmSlot k
    if k = 0 then
      let asleep := s.inDormant
      let s := s.wake 4 (some 0)
      if asleep then s else s.startScan
    else if k = 1 then (if s.calRuns then s.armCal else s).internalReturn.domainsSync
    else if k = 2 then s.internalReturn.domainsSync.senFire.senSync
    else s.wake 4 (some k)

/-- Every slot that is due, in order. DESIGN CHOICE, log 2, unsafe. DEDUCED, log 16, safe. -/
def State.fireDue (s : State) : State := (List.range 8).foldl State.slotFire s

/-- The device counts of a second outside DORMANT (Table GRAN-8, R506).
DEDUCED, log 16, safe. DEDUCED, log 28, unsafe. -/
def State.countSecond (s : State) : State :=
  if s.inDormant then s
  else
    let b := s.band
    { s with shadow := { s.shadow with
        seconds := (s.shadow.seconds + 1) % 2 ^ 32
        band := s.shadow.band.set b ((s.shadow.band.getD b 0 + 1) % 2 ^ 32)
        autoLeft := if s.get SHADOW_AUTO_S = 0 then 0 else s.shadow.autoLeft + 1 } }

/-- A second of the hold that follows a host slot's wake (R114). DEDUCED, log 16, safe. -/
def State.holdSecond (s : State) : State :=
  match s.yard.service with
  | some v =>
    if s.mode = SERVICE ∧ !s.busy then
      { s with yard := { s.yard with service := some { v with holdLeft := v.holdLeft - 1 } } }
    else s
  | none => s

/-- SECONDS increments (R112): the scan's accumulator, the counts of seconds, and the slots that the instant reaches.
DEDUCED, log 16, safe. -/
def State.second (s : State) : State :=
  let s := (s.incWrap YARD_SECONDS).put YARD_SUBSEC 0
  let s := s.addSat GRAN_SCAN_ACC (scanWeight s.band)
  s.countSecond.holdSecond.deferTick.fireDue

/-- The watchdog counts a cycle; cycle P ends the period (R523, R532). DESIGN CHOICE, log 2, unsafe. -/
def State.wdtCycle (s : State) : State :=
  if !s.wdtServing then s
  else
    let n := s.wdt.cycle + 1
    if n < s.wdt.len then { s with wdt := { s.wdt with cycle := n } } else s.wdtMiss 1

/-- A YCLK cycle: what lasts less than one ends, the counters advance, and what the block does of its own accord follows.
DESIGN CHOICE, log 2, unsafe. -/
def State.cycle (s : State) : State :=
  let s := s.entryEnd
  let s := { s with solc := { s.solc with tripRecent := false }
                    sol := s.sol.map fun (ch : SolS) => if 3 ≤ ch.dead then { ch with dead := 0 } else ch
                    gran := { s.gran with gap := false }
                    yard := { s.yard with lfsr := lfsrNext s.yard.lfsr } }
  let s := s.wdtCycle
  (if s.get YARD_SUBSEC ≥ 32767 then s.second else (s.put YARD_SUBSEC (s.get YARD_SUBSEC + 1)).fireDue).finish

end Sys2Proof.Machine
end

