-- ==== Sys2Proof/Machine/ExecAccess.lean ====
section
/-! DEFINITION. The commands of the register pages and the data windows (R49 to R57, R61 to R63, R73, R78, R112, R253, R254). -/

namespace Sys2Proof.Machine

/-- What a command answers. -/
abbrev Answer := Host.Outcome State Fault Refusal

/-- REGISTER_WRITE (R63, R563): a write to YARD or WDT is posted. -/
def execRegisterWrite (m : Master) (addr data : Word) (s : State) : Answer :=
  .next (s.ifWrite m.num addr.toNat data.toNat).1

/-- SECONDS_READ (R112). -/
def execSecondsRead (m : Master) (s : State) : Answer :=
  let (t, _, k) := s.busRead m.num (regAddr 0x001 0x05C)
  .next (s.noteFrom t m.num k)

/-- ERR_CODE_CLR (R49). -/
def execErrCodeClr (m : Master) (page : Fin 256) (s : State) : Answer := .next (s.command m.num page.val 0x020 0x80000000)

/-- INT_SET (R49). -/
def execIntSet (m : Master) (page : Fin 256) (bits : Word) (s : State) : Answer :=
  .next (s.command m.num page.val 0x01C bits.toNat)

/-- COMMIT_GO (R54). -/
def execCommitGo (m : Master) (page : Fin 256) (s : State) : Answer := .next (s.command m.num page.val 0x02C 1)

/-- COMMIT_DROP (R57); `go`: GO is written 1 in the same word. -/
def execCommitDrop (m : Master) (page : Fin 256) (go : Bool) (s : State) : Answer :=
  .next (s.command m.num page.val 0x02C (2 + bit go))

/-- COMMIT_APPLY (R54). -/
def execCommitApply (page : Fin 256) (stream : Fin 4) (s : State) : Answer :=
  .next (s.commitBoundary page.val stream.val)

/-- The first detection of a parity error (R78), and what its block does (R539, R555). The stored value stays. -/
def State.parityError (s : State) (p off : Nat) : State :=
  if !pageExists p || !storedWord p off || s.parity.contains (p, off) || s.boot.inReset then s
  else
    let s := { s with parity := s.parity ++ [(p, off)] }.event (p * 0x100 + 0x03) off
    if p = 0x003 then (if s.wdtServing then s.wdtMiss 4 else s)
    else if p = 0x005 ∧ 0x040 ≤ off ∧ off < 0x0C0 then s.orphan ((off - 0x040) / 16) 7
    else s

/-- CFG_PARITY (R78): at a read of the word by its block or a register read, with one effect.
DEDUCED, log 22, safe. -/
def execCfgParity (page : Fin 256) (word : Fin 1024) (_byBlock : Bool) (s : State) : Answer :=
  .next (s.parityError page.val (4 * word.val))

/-- SYS_SESSION_WRITE (R61). -/
def execSysSessionWrite (m : Master) (data : Word) (s : State) : Answer := .next (s.command m.num 0x000 0x04C data.toNat)

/-- MASTER_PRIV_WRITE (R62). -/
def execMasterPrivWrite (m : Master) (data : Word) (s : State) : Answer := .next (s.command m.num 0x000 0x048 data.toNat)

/-- The address of a Loft word (Table REG-1). -/
def loftAddr (bankB : Bool) (i : Nat) : Nat := (if bankB then 0x60200000 else 0x60000000) + 4 * i

/-- LOFT_WORD_WRITE (R253). -/
def execLoftWordWrite (m : Master) (bankB : Bool) (index : Fin 327680) (data : Word) (s : State) : Answer :=
  .next (s.writeNow m.num (loftAddr bankB index.val) data.toNat)

/-- A host word write has waited LOFT_DEFER for the write port (R254): one that would have been carried out is refused. -/
def State.loftRefused (s : State) (m b i : Nat) : State :=
  if !s.reachable || !s.sources m || s.safe || s.nvmBusy || (s.loftWriteCheck m b).isSome then s
  else ((s.refuseAt m true (loftAddr (b == 1) i) ⟨cBUSY, 0, false⟩).event 0x5016 m).noteCode m cBUSY

/-- LOFT_WRITE_REFUSED (R254). DEDUCED, log 51, safe. -/
def execLoftWriteRefused (m : Master) (bankB : Bool) (index : Fin 327680) (s : State) : Answer :=
  .next (s.loftRefused m.num (bit bankB) index.val)

/-- SHADOW_SRAM_WRITE (R73). -/
def execShadowSramWrite (m : Master) (word : Fin 1024) (data : Word) (s : State) : Answer :=
  .next (s.writeNow m.num (0x50000000 + 4 * word.val) data.toNat)

end Sys2Proof.Machine
end

