-- ==== Sys2Proof/Machine/ExecReset.lean ====
section
/-! DEFINITION. The commands of resets, boot and modes (R33, R84 to R101, R112 to R115, R148 to R157, R172). -/

namespace Sys2Proof.Machine

/-- POR_AON (R148). -/
def execPorAon (s : State) : Answer := .next s.porAon

/-- BOR_CORE_RESET (R148, R150). -/
def execBorCoreReset (s : State) : Answer := .next s.borCore

/-- PIN_RESET (R148). -/
def execPinReset (s : State) : Answer := .next s.pinReset

/-- RESET_CMD (R151). -/
def execResetCmd (m : Master) (data : Word) (s : State) : Answer := .next (s.command m.num 0x000 0x068 data.toNat)

/-- INTERNAL_RESET_RELEASE (R157), with the four samples of ROLE and the levels of ADDR and HOSTSEL at the fourth (R16). -/
def execInternalResetRelease (s1 s2 s3 s4 addr : Fin 4) (hostsel : Bool) (s : State) : Answer :=
  .next (s.resetRelease s1.val s2.val s3.val s4.val addr.val hostsel)

/-- BOOT_DONE (R157), `us` µs after the release. -/
def execBootDone (us : Nat) (s : State) : Answer := .next (s.bootDone us)

/-- BOOT_TIME_LIMIT (R172). -/
def execBootTimeLimit (s : State) : Answer := .next s.bootStalled

/-- ROLE_STRAP_MOVED (R33). -/
def execRoleStrapMoved (live : Fin 4) (s : State) : Answer := .next (s.strapMoved live.val)

/-- MODE_CMD (R85). -/
def execModeCmd (m : Master) (data : Word) (s : State) : Answer := .next (s.command m.num 0x001 0x040 data.toNat)

/-- MODE_TRANSITION_DONE (R84). -/
def execModeTransitionDone (s : State) : Answer := .next s.modeTransition

/-- MODE_STUCK (R97). -/
def execModeStuck (s : State) : Answer := .next s.modeStuck

/-- SERVICE_HOLD_EXPIRE (R114). -/
def execServiceHoldExpire (s : State) : Answer := .next s.holdOver

/-- YARD_AXES_WRITE (R90). -/
def execYardAxesWrite (m : Master) (data : Word) (s : State) : Answer := .next (s.command m.num 0x001 0x048 data.toNat)

/-- YARD_SECOND_TICK (R112). -/
def execYardSecondTick (s : State) : Answer := .next s.second

/-- TIMER_SLOT_WRITE (R115): MATCH_SEC, or the word with MATCH_TICK, HOLD_S and ARMED. -/
def execTimerSlotWrite (m : Master) (slot : Fin 8) (tickWord : Bool) (data : Word) (s : State) : Answer :=
  .next (s.command m.num 0x001 (0x114 + 8 * slot.val + (if tickWord then 4 else 0)) data.toNat)

/-- TIMER_SLOT_FIRE (R114). -/
def execTimerSlotFire (slot : Fin 8) (s : State) : Answer := .next (s.slotFire slot.val)

end Sys2Proof.Machine
end

