-- ==== Sys2Proof/Machine/ExecPower.lean ====
section
/-! DEFINITION. The commands of the Yard's power states, clocks and domains (R118 to R145). -/

namespace Sys2Proof.Machine

/-- With no work before its next deadline the device enters the deepest state that passes the tests of R120, or an entry under way
ends (R634). DORMANT is left alone: L4 is its state. -/
def State.sleep (s : State) (deadlineUs : Nat) : State :=
  if s.safe || s.boot.inReset || !s.done || s.mode == DORMANT || s.yard.exit.isSome || s.yard.cut then s
  else if s.yard.entering then s.entryEnd
  else if s.yard.pstate ≠ 0 then s
  else
    let s := s.rechooseAll
    let st := s.choose deadlineUs
    if st = 0 then s
    else { s with yard := { s.yard with pstate := st, entering := true } }.domainsSync

/-- POWER_STATE_ENTRY (R120): `deadlineUs` is the time to the next internal deadline that the state does not hold. -/
def execPowerStateEntry (deadlineUs : Nat) (s : State) : Answer := .next (s.sleep deadlineUs)

/-- WAKE_PIN_EDGE (R118, R387): WC0; at a head in KEEP_ALIVE the wake signature goes out. -/
def execWakePinEdge (s : State) : Answer := .next (s.wake 0 none).signature

/-- INTERNAL_RETURN (R119). -/
def execInternalReturn (s : State) : Answer := .next s.internalReturn.domainsSync

/-- L0 can be reached (R119): CCLK is granted, and every domain that the mode requires is on; out of DORMANT, its boot is over. -/
def State.l0Ready (s : State) (e : Exit) : Bool :=
  !(e.left == 4 && (!s.done || s.boot.booting)) && s.pd 0 == 2 && s.granted 1 &&
  (List.range 8).all fun i => !(s.wants (i + 1) && s.supplied (i + 1)) || s.pd (i + 1) == 2

/-- An exit reaches L0 (R119, R120, R139, R312, R465, R540): what has been learned re-runs the choice. -/
def State.exitOver (s : State) (us : Nat) : State :=
  match s.yard.exit with
  | none => s
  | some e =>
    if s.l0Ready e then ((s.exitDone us).lateHolds.coilResume).domainsSync.rechooseAll.i2cDrain else s

/-- EXIT_COMPLETE (R139), `us` µs after the origin of the exit. -/
def execExitComplete (us : Nat) (s : State) : Answer := .next (s.exitOver us).finish

/-- BUDGET_WRITE (R141). -/
def execBudgetWrite (m : Master) (wc : Fin 5) (data : Word) (s : State) : Answer :=
  .next (s.command m.num 0x001 (0x068 + 4 * wc.val) data.toNat)

/-- CLK_KEEP_WRITE (R129). -/
def execClkKeepWrite (m : Master) (data : Word) (s : State) : Answer := .next (s.command m.num 0x002 0x048 data.toNat)

/-- RESEED (R126). -/
def execReseed (m : Master) (data : Word) (s : State) : Answer := .next (s.command m.num 0x001 0x088 data.toNat)

/-- DRAIN_CLR (R133). -/
def execDrainClr (m : Master) (data : Word) (s : State) : Answer := .next (s.command m.num 0x001 0x110 data.toNat)

/-- A clock is granted (R128): on an exit from L3, HFRC opens PD_CORE and CCLK the outputs (Table YARD-4). -/
def State.clockGrant (s : State) (k : Nat) : State :=
  let s := s.grantClock k
  let s := if k = 0 ∧ s.granted 0 ∧ s.pd 0 = 0 ∧ s.yard.pstate = 3 ∧ s.yard.exit.isSome then s.setPd 0 1 else s
  s.domainsSync

/-- CLOCK_GRANT (R128). -/
def execClockGrant (clock : Fin 9) (s : State) : Answer := .next (s.clockGrant clock.val)

/-- The crystal gives no edge (R144): YCLK runs from the RC until SRC is written again. -/
def State.xtalLost (s : State) : State :=
  if s.on YARD_SRC ∧ s.yard.xtal then
    { s.put YARD_XTAL_FAIL 1 with yard := { s.yard with xtal := false } }.event 0x0117 0
  else s

/-- YCLK_XTAL_FAIL (R144). DEDUCED, log 33, unsafe. -/
def execYclkXtalFail (s : State) : Answer := .next s.xtalLost

/-- DRAIN_LIMIT_EXPIRE (R133); `inFlight` counts what the state does not hold: Sluice units and writes. -/
def execDrainLimitExpire (d : Fin 9) (inFlight : Nat) (s : State) : Answer := .next (s.drainLimit d.val inFlight)

/-- DOMAIN_OFF (R131): a SOFT or LINK reset that waited for the last domain begins (R153). -/
def execDomainOff (d : Fin 9) (s : State) : Answer := .next (s.domainOff d.val).softGo

/-- DOMAIN_POWER_GOOD (R135). -/
def execDomainPowerGood (d : Fin 9) (s : State) : Answer := .next (s.domainGood d.val)

/-- DOMAIN_FAULT (R145). -/
def execDomainFault (d : Fin 9) (s : State) : Answer := .next (s.domainFault d.val)

/-- PD_FAULT_CLR (R145): the word with PD_FAULT 0 to 7, or PD_FAULT8. -/
def execPdFaultClr (m : Master) (word8 : Bool) (data : Word) (s : State) : Answer :=
  .next (s.command m.num 0x001 (if word8 then 0x0E8 else 0x0E4) data.toNat)

end Sys2Proof.Machine
end

