-- ==== Sys2Proof/Machine/ExecArray.lean ====
section
/-! DEFINITION. The commands of the array interface, the readout channels, the Millrace and the NUC (R185, R186, R202, R204, R214 to
R225, R253, R271 to R289). -/

namespace Sys2Proof.Machine

/-- FPA_CTRL_EN (R202): a write of FPA.CTRL; with the timing stopped the scheduler acts at once (R226). -/
def execFpaCtrlEn (m : Master) (en : Bool) (s : State) : Answer := .next (s.command m.num 0x010 0x008 (bit en)).calAtOnce

/-- BIAS_RAMP_DONE (R202). -/
def execBiasRampDone (s : State) : Answer := .next s.rampOver

/-- ARRAY_FRAME_BOUNDARY (R185): the level of the veto pin, and whether LINK0's Stall still holds the previous frame. -/
def execArrayFrameBoundary (vetoPin stallHeld : Bool) (s : State) : Answer := .next (s.arrayBoundary vetoPin stallHeld)

/-- ROW_START (R186). -/
def execRowStart (r : RowIn) (s : State) : Answer := .next (s.rowStart r)

/-- An overload (R204) also ends a closure for which no frame boundary is to come (R291). -/
def State.overloaded (s : State) (outputs : Nat) : State :=
  let s := s.overload outputs
  if s.fpa.ovl && !s.fpa.tripped then s.closureStop else s

/-- BIAS_OVERLOAD (R204): the outputs in current limit, a bit each. -/
def execBiasOverload (outputs : Fin 16) (s : State) : Answer := .next (s.overloaded outputs.val).calAtOnce

/-- BIAS_FAULT_CLR (R204). -/
def execBiasFaultClr (m : Master) (s : State) : Answer := .next (s.command m.num 0x011 0x0D8 1)

/-- CHCAL_REQ (R214): a write of REQ0, or of REQ1. -/
def execChcalReq (m : Master) (word1 : Bool) (data : Word) (s : State) : Answer :=
  .next (s.command m.num 0x048 (if word1 then 0x05C else 0x058) data.toNat).calAtOnce

/-- CALIBRATION_END (R218). -/
def execCalibrationEnd (inst : Fin 34) (meas : CalMeas) (s : State) : Answer := .next (s.calEnd inst.val meas).calAtOnce

/-- CHTRIM_RETRY (R222). -/
def execChtrimRetry (s : State) : Answer := .next s.trimRetry

/-- RETRY_WAIT_EXPIRE (R219). -/
def execRetryWaitExpire (inst : Fin 34) (s : State) : Answer := .next (s.retryEnd inst.val).calAtOnce

/-- CAL_REFUSED (R225). -/
def execCalRefused (inst : Fin 34) (s : State) : Answer := .next (s.calDefer inst.val)

/-- FILL_START (R253). -/
def execFillStart (m : Master) (s : State) : Answer := .next (s.command m.num 0x050 0x054 1)

/-- FILL_END (R253). -/
def execFillEnd (m : Master) (s : State) : Answer := .next (s.command m.num 0x050 0x054 2)

/-- BANK_LOAD (R253). -/
def execBankLoad (m : Master) (fromFactory : Bool) (s : State) : Answer :=
  .next (s.command m.num 0x050 0x054 (16 + 32 * bit fromFactory))

/-- BANK_CHECK_DONE (R253). -/
def execBankCheckDone (s : State) : Answer := .next s.checkDone.switchRest

/-- FILL_ABORT (R253). -/
def execFillAbort (m : Master) (s : State) : Answer := .next (s.command m.num 0x050 0x054 8)

/-- BANK_SWITCH_CMD (R253). -/
def execBankSwitchCmd (m : Master) (s : State) : Answer := .next (s.command m.num 0x050 0x054 4)

/-- NUC_CLOSE (R271). -/
def execNucClose (m : Master) (force : Bool) (s : State) : Answer := .next (s.command m.num 0x052 0x064 (1 + 2 * bit force))

/-- SHUTTER_SETTLE_END (R274). -/
def execShutterSettleEnd (s : State) : Answer := .next s.settled

/-- SHUTTER_OPEN_CONFIRM (R275). -/
def execShutterOpenConfirm (s : State) : Answer := .next s.monoOpen

/-- CLOSE_MISS (R288). -/
def execCloseMiss (s : State) : Answer := .next s.closeMiss

/-- OPEN_MISS (R288). -/
def execOpenMiss (s : State) : Answer := .next s.openMiss

/-- NUC_DEFER_EXPIRED (R280). -/
def execNucDeferExpired (s : State) : Answer := .next s.deferExpired

/-- FIELD_SAVE_DONE (R279). -/
def execFieldSaveDone (s : State) : Answer := .next s.saveDone

/-- SHUT_FAULT_CLR (R289). -/
def execShutFaultClr (m : Master) (s : State) : Answer := .next (s.command m.num 0x065 0x060 1)

end Sys2Proof.Machine
end

