-- ==== Sys2Proof/Machine/ExecActuators.lean ====
section
/-! DEFINITION. The commands of the actuator channels, the boost rail and TRIP_N (R295 to R310, R321 to R327). -/

namespace Sys2Proof.Machine

/-- SOL_FIRE (R300). -/
def execSolFire (m : Master) (n : Fin 4) (s : State) : Answer := .next (s.command m.num (solPage n.val) 0x078 1)

/-- SOL_STOP (R299). -/
def execSolStop (m : Master) (n : Fin 4) (s : State) : Answer := .next (s.command m.num (solPage n.val) 0x078 2)

/-- PHASE_TIMER_EXPIRE (R297). -/
def execPhaseTimerExpire (n : Fin 4) (s : State) : Answer := .next (s.phaseTimer n.val)

/-- PEAK_CURRENT_REACHED (R297, R305), `tUs` µs after the origin. -/
def execPeakCurrentReached (n : Fin 4) (tUs : Nat) (s : State) : Answer := .next (s.peak n.val tUs)

/-- CHOP_SWITCH (R298), at the sensed current. -/
def execChopSwitch (n : Fin 4) (mA : Nat) (s : State) : Answer := .next (s.chop n.val mA)

/-- DEAD_TIME_END (R295). -/
def execDeadTimeEnd (n : Fin 4) (s : State) : Answer := .next (s.deadEnd n.val)

/-- MIN_OFF_END (R300). -/
def execMinOffEnd (n : Fin 4) (s : State) : Answer := .next (s.minOffEnd n.val)

/-- A motion, and what the shutter makes of it (R274, R275, R302). -/
def State.motionIn (s : State) (n t : Nat) : State := if s.motionSeen n t then (s.motion n t).shutMotion n else s

/-- MOTION_DETECT (R302), `tUs` µs after the origin. -/
def execMotionDetect (n : Fin 4) (tUs : Nat) (s : State) : Answer := .next (s.motionIn n.val tUs)

/-- MOT_WINDOW_CLOSE (R303). -/
def execMotWindowClose (n : Fin 4) (s : State) : Answer := .next (s.motMiss n.val)

/-- TPK_OUT (R305). -/
def execTpkOut (n : Fin 4) (s : State) : Answer := .next (s.tpkLate n.val)

/-- RAIL_GRANT (R306). -/
def execRailGrant (n : Fin 4) (s : State) : Answer := .next (s.railGrant n.val)

/-- RAIL_REFUSED (R307). -/
def execRailRefused (n : Fin 4) (s : State) : Answer := .next (s.railDefer n.val)

/-- T_BST_WAIT has passed while the channel holds the rail and waits for READY (R304). -/
def State.readyLate (s : State) (n : Nat) : State := if (s.chan n).wait = 2 then s.notReady n else s

/-- BST_NOT_READY (R304). -/
def execBstNotReady (n : Fin 4) (s : State) : Answer := .next (s.readyLate n.val)

/-- BOOST_READY (R308): VBST in 0.25 V. -/
def execBoostReady (vbst : Nat) (s : State) : Answer := .next (s.vbst vbst)

/-- BST_OVERVOLT (R308). -/
def execBstOvervolt (vbst : Nat) (s : State) : Answer := .next (s.vbst vbst)

/-- BST_OV_CLEAR (R308). -/
def execBstOvClear (vbst : Nat) (s : State) : Answer := .next (s.vbst vbst)

/-- BOOST_IDLE_STOP (R309). -/
def execBoostIdleStop (s : State) : Answer := .next s.boostIdle

/-- BST_START_FAIL (R327). -/
def execBstStartFail (vbst : Nat) (s : State) : Answer := .next (s.startFail vbst)

/-- BOOST_FAULT_CLR (R327). -/
def execBoostFaultClr (m : Master) (s : State) : Answer := .next (s.command m.num 0x064 0x050 2)

/-- The step of the four coil models (R310), while HFRC runs (R312) and the channels hold a model. -/
def State.coilTick (s : State) (i2 : List Nat) : State :=
  if s.yard.pstate ≥ 3 ∨ s.sol.isEmpty then s
  else (List.range 4).foldl (fun s n => s.coilStep n (i2.getD n 0)) s

/-- COIL_MODEL_STEP (R310): the mean of each squared current over the step, in mA². -/
def execCoilModelStep (i0 i1 i2 i3 : Nat) (s : State) : Answer := .next (s.coilTick [i0, i1, i2, i3])

/-- TRIP_N has been low for 100 ns (R289, R321): a shutter channel is tripped with the others. -/
def State.tripAll (s : State) : State :=
  let acts := s.pd 8 = 2 ∨ s.pd 8 = 3
  let s := s.trip
  if acts ∧ !s.shutChans.isEmpty then s.shutLost 4 else s

/-- TRIP_EVENT (R321). -/
def execTripEvent (s : State) : Answer := .next s.tripAll

/-- TRIP_RELEASE (R323). -/
def execTripRelease (s : State) : Answer := .next s.tripRelease

/-- SOL_TRIP_CLR (R323). -/
def execSolTripClr (m : Master) (n : Fin 4) (s : State) : Answer := .next (s.command m.num (solPage n.val) 0x098 1)

/-- BOOST_TRIP_CLR (R323). -/
def execBoostTripClr (m : Master) (s : State) : Answer := .next (s.command m.num 0x064 0x050 1)

/-- CURRENT_CHECK_FIRE (R324). -/
def execCurrentCheckFire (n : Fin 4) (s : State) : Answer := .next (s.currentCheck n.val)

/-- A channel latches; for a shutter channel it is the fault of the shutter policy (R289, R325). -/
def State.latchIn (s : State) (n v : Nat) : State :=
  let shut := s.shutChans.contains n
  let s := s.latch n v
  if shut then s.shutLost 3 else s

/-- The 5 µs watch ends (R324, R325): an external path conducts, or the coil is open. -/
def State.watchEnd (s : State) (n : Nat) (conducts : Bool) : State :=
  if (s.chan n).watch then s.latchIn n (if conducts then 2 else 1) else s

/-- SOL_LATCH (R325). -/
def execSolLatch (n : Fin 4) (conducts : Bool) (s : State) : Answer := .next (s.watchEnd n.val conducts)

/-- The current of an internal switch has been at its limit for 1 µs (R324): only a switch that is on can carry it. -/
def State.overcurrent (s : State) (n : Nat) : State := if (s.chan n).sw ≠ 0 then s.latchIn n 3 else s

/-- OVERCURRENT_LIMIT (R324). -/
def execOvercurrentLimit (n : Fin 4) (s : State) : Answer := .next (s.overcurrent n.val)

/-- SOL_FAULT_CLR (R326). -/
def execSolFaultClr (m : Master) (n : Fin 4) (s : State) : Answer := .next (s.command m.num (solPage n.val) 0x098 2)

end Sys2Proof.Machine
end

