-- ==== Sys2Proof/Machine/ExecSensors.lean ====
section
/-! DEFINITION. The commands of the temperature block and of sentry (R329, R331, R340, R342, R349, R357, R361). -/

namespace Sys2Proof.Machine

/-- The sensors convert: PD_CORE is on, which it is not in L3 and L4 (R334, R350). -/
def State.sensing (s : State) : Bool := !s.boot.inReset && s.pd 0 == 2

/-- A conversion of a die sensor completes (R329). A changed band re-runs the state choice with its return (R123, R142), and a head
reports it (R411). -/
def State.converted (s : State) (k : Nat) (reading : Int) (points : List Int) : State :=
  if !s.sensing then s
  else
    let was := s.band
    let s := (s.conversion k reading points).bandRest
    (if s.band = was then s else s.rechooseAll).noteStatus

/-- TEMP_CONVERSION (R329): sensor TS0 to TS3, its reading in 1/16 °C, and the 34 points of TS1. -/
def execTempConversion (sensor : Fin 4) (reading : Int) (points : List Int) (s : State) : Answer :=
  .next (s.converted sensor.val reading points)

/-- SENSOR_TIMEOUT (R349). -/
def execSensorTimeout (sensor : Fin 4) (s : State) : Answer :=
  .next (if s.sensing then s.sensorTimeout sensor.val else s)

/-- NTC_CONVERSION (R331): the 12-bit ratio. -/
def execNtcConversion (code : Fin 4096) (s : State) : Answer := .next (if s.sensing then s.ntc code.val else s)

/-- TJ_PEAK_CLR (R329). -/
def execTjPeakClr (m : Master) (s : State) : Answer := .next (s.command m.num 0x004 0x08C 1)

/-- THERMAL_CUT (R340). -/
def execThermalCut (comparator : Bool) (s : State) : Answer := .next (s.thermalCut comparator)

/-- THERMAL_RELEASE (R342). -/
def execThermalRelease (s : State) : Answer := .next s.thermalRelease

/-- An alarm raises WC3 (R359). Where a command to DORMANT waits for this frame's judgement, it is carried out after it (R367).
DEDUCED, log 29, unsafe. -/
def State.alarmWake (s : State) : State :=
  if s.yard.trans.any fun t => t.target == DORMANT && !t.entering then (s.wakeExit 3 none).noteWake s.yard.exit.isNone
  else s.wake 3 none

/-- What an alarm brings about (R106, R359, R360): WC3 in SENTRY; at a head the message, or the signature on keep-alive; ALARM_LIVE. -/
def State.alarmOut (s : State) : State :=
  let watch := s.mode == SENTRY
  let e := s.get SENTRY_EXCEED
  let s := if watch then s.alarmWake else s
  let s :=
    if s.role = HEAD then
      let s := if s.linkUp 0 ∨ s.get LINK_SES_STATE 0 ≠ 0 then s.post 0 0x22 [e] else s
      if watch then s.signature else s
    else s
  if s.on YARD_ALARM_LIVE && s.mode == SENTRY && !s.busy then s.beginTrans LIVE 5 else s

/-- A completed grid is judged (R357); a debug halt holds the evaluation back (R587). -/
def State.judge (s : State) : State :=
  if s.on PIN_TAP_HALT then s
  else
    let (t, hit) := s.evaluate
    if hit then t.alarmOut else t

/-- SENTRY_EVALUATE (R357). DEDUCED, log 50, unsafe. -/
def execSentryEvaluate (s : State) : Answer := .next s.judge

/-- SENTRY_HOLDOFF_EXPIRE (R357). -/
def execSentryHoldoffExpire (s : State) : Answer := .next s.holdoffEnd

/-- BG_RESET (R361). -/
def execBgReset (m : Master) (s : State) : Answer := .next (s.command m.num 0x054 0x050 1)

end Sys2Proof.Machine
end

