-- ==== Sys2Proof/Machine/ExecLink.lean ====
section
/-! DEFINITION. The commands of the Thrumlink ports' negotiation and power over coax (R375 to R392). -/

namespace Sys2Proof.Machine

/-- What follows a command of port `n`: a received frame whose port no longer takes it ends (Table LINK-10), and the block goes on
of its own accord. -/
def State.linkDone (s : State) (n : Nat) : State := (s.rxSync n).outSync.finish

/-- LINK_CTRL_EN (R392). -/
def execLinkCtrlEn (m : Master) (n : Fin 4) (en : Bool) (s : State) : Answer :=
  .next ((s.command m.num (linkPage n.val) 0x008 (bit en)).linkDone n.val)

/-- POC_SOFT_START_END (R382). -/
def execPocSoftStartEnd (n : Fin 4) (s : State) : Answer := .next (s.softStartEnd n.val)

/-- LINK_LOCK (R375). -/
def execLinkLock (n : Fin 4) (s : State) : Answer := .next (s.quiet.linkLock n.val)

/-- CAPS_TIMEOUT (R375). -/
def execCapsTimeout (n : Fin 4) (s : State) : Answer := .next (s.capsTimeout n.val)

/-- TRAINING_DONE (R377). -/
def execTrainingDone (n : Fin 4) (s : State) : Answer := .next ((s.quiet.trained n.val).linkDone n.val)

/-- TRAINING_FAIL (R376). -/
def execTrainingFail (n : Fin 4) (s : State) : Answer := .next (s.trainFail n.val)

/-- FAIL_WAIT_EXPIRE (R376). -/
def execFailWaitExpire (n : Fin 4) (s : State) : Answer := .next (s.failWaitEnd n.val)

/-- LINK_NO_PEER (R376). -/
def execLinkNoPeer (n : Fin 4) (s : State) : Answer := .next (s.noPeerNow n.val)

/-- LOSS_OF_LOCK (R378). -/
def execLossOfLock (n : Fin 4) (s : State) : Answer := .next ((s.lockLost n.val).linkDone n.val)

/-- LINK_DOWN (R378). -/
def execLinkDown (n : Fin 4) (s : State) : Answer := .next ((s.linkDown n.val).linkDone n.val)

/-- POC_OVERCURRENT (R383): a fast trip and a slow one have one effect on the state. -/
def execPocOvercurrent (n : Fin 4) (_fast : Bool) (s : State) : Answer := .next ((s.pocOver n.val).linkDone n.val)

/-- POC_RETRY (R384). -/
def execPocRetry (n : Fin 4) (s : State) : Answer := .next (s.pocRetry n.val)

/-- POC_RETRY_COUNT_CLEAR (R384). -/
def execPocRetryCountClear (n : Fin 4) (s : State) : Answer := .next (s.pocCalm n.val)

/-- POC_BACKFEED (R384). -/
def execPocBackfeed (n : Fin 4) (s : State) : Answer := .next ((s.pocBack n.val).linkDone n.val)

/-- POC_KEEPALIVE_FAULT (R384). -/
def execPocKeepaliveFault (n : Fin 4) (s : State) : Answer := .next (s.pocKa n.val)

/-- POC_NO_LOAD (R384): the current in mA. -/
def execPocNoLoad (n : Fin 4) (mA : Nat) (s : State) : Answer := .next (s.pocLoad n.val mA)

/-- POC_VIN_LOW (R384): the voltage in 0.1 V. -/
def execPocVinLow (n : Fin 4) (dV : Nat) (s : State) : Answer := .next (s.pocVin n.val dV)

/-- A write of POC_CLR (R384): `persists`, the latched condition is still there. -/
def State.pocClrWrite (s : State) (m n : Nat) (persists : Bool) : State :=
  let p := linkPage n
  let addr := regAddr p 0x05C
  if !s.reachable || (!s.sources m && !s.safe) then s
  else if s.safe then s.refuseSafe m true addr
  else if s.nvmBusy then s.refuseAt m true addr ⟨cNVM, 0, false⟩
  else if !s.present p then s.refusePage m true p 0x05C cROLE
  else match s.checkWith (pocClrCheck (persists && ((s.port n).pocLatched || (s.port n).kaFault))) m p 0x05C 1 with
    | some (r, own) => (s.refuseWith m true p 0x05C r).refusalAct m p 0x05C 1 r.code own
    | none => s.writeDo m p 0x05C 1

/-- POC_CLR (R384). -/
def execPocClr (m : Master) (n : Fin 4) (persists : Bool) (s : State) : Answer :=
  .next (s.pocClrWrite m.num n.val persists)

/-- WAKE_CMD (R387). -/
def execWakeCmd (m : Master) (n : Fin 4) (s : State) : Answer := .next (s.command m.num (linkPage n.val) 0x05C 2)

/-- STALL_PEAK_CLR (R381). -/
def execStallPeakClr (m : Master) (n : Fin 4) (s : State) : Answer := .next (s.command m.num (linkPage n.val) 0x05C 4)

/-- The coax node of a head is above 8 V for 1 ms (R387): WC2. `near`: within the times of R423, which COLLIDED reports; WAKE_REASON is
logged at once, ahead of what the boot logs. DEDUCED, log 40, unsafe. -/
def State.coaxRise (s : State) (near : Bool) : State :=
  if s.headYard ∧ !s.boot.inReset ∧ !s.safe then
    let s := s.coaxUp.wake 2 none
    if near then (s.put LINKC_COLLIDED 1).event 0x702B (s.get LINKC_WAKE_REASON + 2 ^ 8) else s
  else s

/-- COAX_RISE (R387). -/
def execCoaxRise (near : Bool) (s : State) : Answer := .next (s.coaxRise near)

/-- COAX_FALL (R387). -/
def execCoaxFall (s : State) : Answer := .next (s.coaxFall.linkDone 0)

/-- A cab port detects the signature (R388, R423): on its keep-alive, with WAKE_EN latched and a baseline of at most 15 mA. -/
def State.signatureIn (s : State) (n mA : Nat) (collided : Bool) : State :=
  if (s.port n).wakeEn ∧ s.get LINK_PATH n = 2 ∧ mA ≤ 15 ∧ !s.boot.inReset ∧ !s.safe then
    let s := (((s.inc LINK_WAKE_SIGS n).event (linkEv n 0x19) mA).raise (linkPage n) 8).wake 2 none
    if collided then s.event (linkEv n 0x2A) 0 else s
  else s

/-- WAKE_SIG_RX (R388): the baseline in mA, and whether it is within 10 ms of the start of the cab's own exit. -/
def execWakeSigRx (n : Fin 4) (mA : Nat) (collided : Bool) (s : State) : Answer := .next (s.signatureIn n.val mA collided)

end Sys2Proof.Machine
end

