-- ==== Sys2Proof/Machine/ExecMessages.lean ====
section
/-! DEFINITION. The packets and messages that the ports receive, and the tunnel's commands (R397 to R425). -/

namespace Sys2Proof.Machine

/-- FS_PACKET (R417). -/
def execFsPacket (n : Fin 4) (p : Packet) (s : State) : Answer := .next (s.quiet.fsIn n.val p).outSync

/-- EMB_PACKET (R398). -/
def execEmbPacket (n : Fin 4) (p : Packet) (s : State) : Answer := .next (s.quiet.embIn n.val p)

/-- LINE_PACKET (R398). -/
def execLinePacket (n : Fin 4) (p : Packet) (s : State) : Answer := .next (s.quiet.lineIn n.val p)

/-- FE_PACKET (R417). -/
def execFePacket (n : Fin 4) (p : Packet) (s : State) : Answer := .next (s.quiet.feIn n.val p).outSync

/-- RESERVED_PACKET (R397). -/
def execReservedPacket (n : Fin 4) (s : State) : Answer := .next (s.reservedIn n.val)

/-- A control message (R401 to R403): where it is delivered, `act` is what it does. `len`: the words of its payload; `up`: it belongs to a
port that is UP; `toHead`: the end of the port that takes it, if only one does (Table LINK-8). -/
def State.message (s : State) (n : Nat) (c : Ctrl) (len : Nat) (numbered up : Bool) (toHead : Option Bool) (act : State → State) : State :=
  let s := s.quiet
  if up && !s.linkUp n then s
  else
    let (t, ok) := s.take n c len numbered
    let mine := match toHead with | none => true | some h => h == s.headEnd
    (if ok && mine then act t else t).linkDone n

/-- ACK_MSG (R403): the ACK of its trailer is all it brings. -/
def execAckMsg (n : Fin 4) (c : Ctrl) (s : State) : Answer := .next (s.message n.val c 0 false true none id)

/-- NAK_MSG (R403, R424). -/
def execNakMsg (n : Fin 4) (c : Ctrl) (s : State) : Answer :=
  .next (s.message n.val c 1 false true none fun t => t.nakIn n.val (ctrlWord c 0))

/-- CAPS_MSG (R375). -/
def execCapsMsg (n : Fin 4) (c : Ctrl) (s : State) : Answer :=
  .next (s.message n.val c 1 false false none fun t => t.capsIn n.val (ctrlWord c 0))

/-- CHOICE_MSG (R375). -/
def execChoiceMsg (n : Fin 4) (c : Ctrl) (s : State) : Answer :=
  .next (s.message n.val c 1 false false (some true) fun t => t.choiceIn n.val (bitsOf (ctrlWord c 0) 0 3))

/-- SESSION_MSG (R404): at a head, whose one port is LINK0. -/
def execSessionMsg (n : Fin 4) (c : Ctrl) (s : State) : Answer :=
  .next ((s.sessionAnew c).message n.val c 3 true true (some true) fun t => t.sessionIn c)

/-- SESSION_ACK_MSG (R404). -/
def execSessionAckMsg (n : Fin 4) (c : Ctrl) (s : State) : Answer :=
  .next (s.message n.val c 1 true true (some false) fun t => t.sessionAckIn n.val c)

/-- TUN_RD_MSG (R408). -/
def execTunRdMsg (n : Fin 4) (c : Ctrl) (s : State) : Answer :=
  .next (s.message n.val c 2 true true (some true) fun t => t.tunIn false c)

/-- TUN_WR_MSG (R408). -/
def execTunWrMsg (n : Fin 4) (c : Ctrl) (s : State) : Answer :=
  .next (s.message n.val c 3 true true (some true) fun t => t.tunIn true c)

/-- The cab accepts status, tunnel and event traffic once its session is active (R404). -/
def State.inSession (s : State) (n : Nat) (act : State → State) : State := if s.get LINK_SES_STATE n = 1 then act s else s

/-- TUN_REPLY_MSG (R409). -/
def execTunReplyMsg (n : Fin 4) (c : Ctrl) (s : State) : Answer :=
  .next (s.message n.val c 2 true true (some false) fun t => t.inSession n.val fun t => (t.replyIn n.val c).showPort n.val)

/-- STATUS_MSG (R411). -/
def execStatusMsg (n : Fin 4) (c : Ctrl) (s : State) : Answer :=
  .next (s.message n.val c 1 true true (some false) fun t => t.inSession n.val fun t => t.put LINK_HEAD_STAT (ctrlWord c 0) n.val)

/-- EVENT_MSG (R412, R413). -/
def execEventMsg (n : Fin 4) (c : Ctrl) (s : State) : Answer :=
  .next (s.message n.val c 3 true true (some false) fun t => t.inSession n.val fun t => t.eventIn n.val c)

/-- An alarm of the head reaches the cab (R414). -/
def State.alarmIn (s : State) (n exceed : Nat) : State :=
  ((s.event (linkEv n 0x28) exceed).raise (linkPage n) 0x80).wake 3 none

/-- ALARM_MSG (R414). -/
def execAlarmMsg (n : Fin 4) (c : Ctrl) (s : State) : Answer :=
  .next (s.message n.val c 1 true true (some false) fun t => t.alarmIn n.val (ctrlWord c 0))

/-- RRESET_MSG (R410). -/
def execRresetMsg (n : Fin 4) (c : Ctrl) (s : State) : Answer :=
  .next (s.message n.val c 1 true true (some true) State.rresetIn)

/-- RETX_TIMEOUT (R403). -/
def execRetxTimeout (n : Fin 4) (s : State) : Answer := .next ((s.quiet.retx n.val).linkDone n.val)

/-- ACK_DELAY_EXPIRE (R403). -/
def execAckDelayExpire (n : Fin 4) (s : State) : Answer := .next (s.quiet.ackNow n.val)

/-- TUN_ADDR (R407). -/
def execTunAddr (m : Master) (n : Fin 4) (data : Word) (s : State) : Answer :=
  .next (s.quiet.command m.num (linkPage n.val) 0x124 data.toNat)

/-- TUN_POP (R409). -/
def execTunPop (m : Master) (n : Fin 4) (s : State) : Answer := .next (s.command m.num (linkPage n.val) 0x134 1)

/-- HEVT_POP (R413). -/
def execHevtPop (m : Master) (n : Fin 4) (s : State) : Answer := .next (s.command m.num (linkPage n.val) 0x134 2)

/-- AUTH_CLR (R418). -/
def execAuthClr (m : Master) (n : Fin 4) (s : State) : Answer := .next (s.command m.num (linkPage n.val) 0x10C 1)

/-- RRESET (R410). -/
def execRreset (m : Master) (n : Fin 4) (data : Word) (s : State) : Answer :=
  .next (s.quiet.command m.num (linkPage n.val) 0x138 data.toNat)

/-- TUNNEL_TIMEOUT (R408). -/
def execTunnelTimeout (s : State) : Answer := .next s.quiet.tunExpire.finish

/-- TUNNEL_ACTION_RELEASE (R425). -/
def execTunnelActionRelease (s : State) : Answer := .next s.actionGo.finish

/-- CSI_REINIT (R452). -/
def execCsiReinit (s : State) : Answer := .next s.csiReinit

/-- PVP_FRAME_START (R446). -/
def execPvpFrameStart (s : State) : Answer := .next s.pvpBoundary

/-- PVP_STALE (R448). -/
def execPvpStale (stream : Fin 4) (s : State) : Answer := .next (s.pvpStale stream.val)

end Sys2Proof.Machine
end

