-- ==== Sys2Proof/Machine/ExecHost.lean ====
section
/-! DEFINITION. The commands of the two-wire bus, SPI, the command queues' ports and the sequencer (R462 to R481, R488). -/

namespace Sys2Proof.Machine

/-- I2C_ADDRESS (R466); `ptr`: the address phase of a write, if it comes whole. -/
def execI2cAddress (addr : Fin 128) (read : Bool) (ptr : Option Word) (s : State) : Answer :=
  .next (s.i2cAddress addr.val read (ptr.map BitVec.toNat))

/-- I2C_WRITE_WORD (R463). -/
def execI2cWriteWord (data : Word) (s : State) : Answer := .next (s.i2cWrite data.toNat)

/-- I2C_READ_WORD (R463). -/
def execI2cReadWord (s : State) : Answer := .next s.i2cRead

/-- I2C_STOP (R463); `cut`: part of a word had been received. -/
def execI2cStop (cut : Bool) (s : State) : Answer := .next (s.i2cStop cut)

/-- I2C_HOLD_EXPIRE (R465). -/
def execI2cHoldExpire (s : State) : Answer := .next (s.onHost fun h => { h with i2cHold := false })

/-- I2C_SDA_HELD (R488). -/
def execI2cSdaHeld (s : State) : Answer := .next s.sdaStuck

/-- ATTN_TRIGGER (R468). -/
def execAttnTrigger (s : State) : Answer := .next s.attnStart

/-- ATTN_ATTEMPT (R469): 0 delivered, 1 arbitration lost, 2 not acknowledged. -/
def execAttnAttempt (outcome : Fin 3) (s : State) : Answer := .next (s.attnTry outcome.val)

/-- SPI_CS_FALL (R470). -/
def execSpiCsFall (s : State) : Answer := .next s.spiFall

/-- SPI_NOP (R470). -/
def execSpiNop (s : State) : Answer := .next s.spiNop

/-- SPI_WRITE (R471): the words received whole. -/
def execSpiWrite (addr : Word) (words : List Word) (s : State) : Answer :=
  .next (s.spiWrite addr.toNat (words.map BitVec.toNat))

/-- SPI_READ (R472): `n` words are clocked out. -/
def execSpiRead (addr : Word) (n : Nat) (s : State) : Answer := .next (s.spiRead addr.toNat n)

/-- SPI_PROTOCOL (R470). -/
def execSpiProtocol (byte : Byte) (s : State) : Answer := .next (s.spiBad byte.toNat)

/-- SPI_CS_RISE (R471); `cut`: part of a word had been received. -/
def execSpiCsRise (cut : Bool) (s : State) : Answer := .next (s.spiRise cut)

/-- SPI_HOLD_EXPIRE (R472). -/
def execSpiHoldExpire (s : State) : Answer := .next (s.onHost fun h => { h with spiHold := false })

/-- The offset of a queue's word (Table CMDQ-3). -/
def queueOff (q off : Nat) : Nat := 0x100 + 0x40 * q + off

/-- CMDQ_DATA (R474). -/
def execCmdqData (m : Master) (q : Fin 4) (data : Word) (s : State) : Answer :=
  .next (s.command m.num 0x00A (queueOff q.val 0) data.toNat)

/-- CMDQ_START (R478). -/
def execCmdqStart (m : Master) (q : Fin 4) (data : Word) (s : State) : Answer :=
  .next (s.command m.num 0x00A (queueOff q.val 4) data.toNat)

/-- CMDQ_FLUSH (R477). -/
def execCmdqFlush (m : Master) (q : Fin 4) (s : State) : Answer := .next (s.command m.num 0x00A (queueOff q.val 8) 1)

/-- CMDQ_FLUSH_DONE (R477). -/
def execCmdqFlushDone (q : Fin 4) (s : State) : Answer := .next (s.flushDone q.val)

/-- CMDQ_POP (R476). -/
def execCmdqPop (m : Master) (q : Fin 4) (s : State) : Answer := .next (s.command m.num 0x00A (queueOff q.val 0x18) 1)

/-- ITEM_WRITE (Table CMDQ-1). -/
def execItemWrite (s : State) : Answer := .next (s.itemRun 0x01 State.doWrite)

/-- ITEM_MODIFY (Table CMDQ-1). -/
def execItemModify (s : State) : Answer := .next (s.itemRun 0x02 State.doModify)

/-- ITEM_POLL (Table CMDQ-1): its first read. -/
def execItemPoll (s : State) : Answer := .next (s.itemRun 0x03 fun t q script i => t.doPoll false q script i)

/-- ITEM_POLL_END (R474): the read that matches, or the last one. -/
def execItemPollEnd (q : Fin 4) (s : State) : Answer := .next (s.pollEnd q.val)

/-- ITEM_WAIT (Table CMDQ-1). -/
def execItemWait (s : State) : Answer := .next (s.itemRun 0x04 fun t q script i => State.doWait (itemArg i 0) t q script i)

/-- ITEM_WAIT_END (R474, R479). -/
def execItemWaitEnd (q : Fin 4) (s : State) : Answer := .next (s.waitEnd q.val)

/-- ITEM_MARK (Table CMDQ-1). -/
def execItemMark (s : State) : Answer :=
  .next (s.itemRun 0x05 fun t q script i => t.itemFinish q script i cOK false (itemArg i 0))

/-- ITEM_MODE (Table CMDQ-1): a write to YARD.MODE_CMD. -/
def execItemMode (s : State) : Answer :=
  .next (s.itemRun 0x10 (State.doOne (fun _ => regAddr 0x001 0x040) fun i => itemArg i 0 % 4))

/-- ITEM_SOL (Table CMDQ-1): a write to SOLn.CMD. -/
def execItemSol (s : State) : Answer :=
  .next (s.itemRun 0x11 (State.doOne (fun i => regAddr (solPage (itemArg i 0 % 4)) 0x078) fun i => bitsOf (itemArg i 0) 8 2))

/-- ITEM_CLOSE (Table CMDQ-1): a write of CLOSE to NUC.CMD. -/
def execItemClose (s : State) : Answer :=
  .next (s.itemRun 0x12 (State.doOne (fun _ => regAddr 0x052 0x064) fun i => 1 + 2 * (itemArg i 0 % 2)))

/-- ITEM_WRITE_P (Table SEQ-2). -/
def execItemWriteP (s : State) : Answer :=
  .next (s.itemRun 0x20 fun t q script i => State.doOne (fun j => itemArg j 0) (fun j => t.param j 1) t q script i)

/-- ITEM_WAIT_P (Table SEQ-2). -/
def execItemWaitP (s : State) : Answer :=
  .next (s.itemRun 0x21 fun t q script i => State.doWait (t.param i 0) t q script i)

/-- SEQ_RUN (R480). -/
def execSeqRun (m : Master) (data : Word) (s : State) : Answer := .next (s.command m.num 0x00B 0x048 data.toNat)

/-- SEQ_STOP (R481). -/
def execSeqStop (m : Master) (s : State) : Answer := .next (s.command m.num 0x00B 0x04C 1)

end Sys2Proof.Machine
end

