-- ==== Sys2Proof/Machine/ExecGranary.lean ====
section
/-! DEFINITION. The commands of the Granary and of the shadow store (R493 to R516). -/

namespace Sys2Proof.Machine

/-- A write of GRAN.OPCODE (R493). -/
def State.granOp (s : State) (m : Master) (op : Nat) : State := s.command m.num 0x080 0x040 op

/-- GRAN_PROGRAM (R494). -/
def execGranProgram (m : Master) (s : State) : Answer := .next (s.granOp m 0x01)

/-- GRAN_ERASE (R493). -/
def execGranErase (m : Master) (s : State) : Answer := .next (s.granOp m 0x02)

/-- GRAN_APPEND (R499). -/
def execGranAppend (m : Master) (s : State) : Answer := .next (s.granOp m 0x03)

/-- GRAN_FIND (R498). -/
def execGranFind (m : Master) (s : State) : Answer := .next (s.granOp m 0x04)

/-- GRAN_SEQ_BEGIN (R501). -/
def execGranSeqBegin (m : Master) (s : State) : Answer := .next (s.granOp m 0x05)

/-- GRAN_SEQ_END (R501). -/
def execGranSeqEnd (m : Master) (s : State) : Answer := .next (s.granOp m 0x06)

/-- GRAN_SCAN_CMD (R511). -/
def execGranScanCmd (m : Master) (s : State) : Answer := .next (s.granOp m 0x07)

/-- GRAN_FIELD_SAVE (R493). -/
def execGranFieldSave (m : Master) (s : State) : Answer := .next (s.granOp m 0x08)

/-- GRAN_LOCK_PAGE (R509). -/
def execGranLockPage (m : Master) (s : State) : Answer := .next (s.granOp m 0x09)

/-- GRAN_RPROT_PAGE (R509). -/
def execGranRprotPage (m : Master) (s : State) : Answer := .next (s.granOp m 0x0A)

/-- GRAN_LOCK_FACTORY (R509). -/
def execGranLockFactory (m : Master) (s : State) : Answer := .next (s.granOp m 0x0B)

/-- An operation has ended (R496); a mode command or a domain that waited for it goes on. -/
def State.granStep (s : State) (fails : Bool) : State := (s.opDone fails).domainsSync

/-- GRAN_OPERATION_DONE (R496); `fails`: it did not verify (R519). -/
def execGranOperationDone (fails : Bool) (s : State) : Answer := .next (s.granStep fails)

/-- A host job that has nothing left to wait for: SCAN waits for the scan's end, FIELD_SAVE for the save's. -/
def State.jobReady (s : State) (j : Job) : Bool :=
  j.host && j.ops.isEmpty &&
  !(j.op == 7 && s.gran.scanning) && !(j.op == 8 && (s.gran.saving || s.nuc.saveAgain))

/-- A host job ends (R493). -/
def State.jobDone (s : State) : State :=
  match s.gran.jobs.find? s.jobReady with
  | none => s
  | some j => (s.onGran fun g => g.without (· == j)).hostJobEnd j.op j.code

/-- GRAN_JOB_DONE (R493). -/
def execGranJobDone (s : State) : Answer := .next s.jobDone

/-- A job that can be refused has waited DEFER_MAX for its first operation (R222, R279, R496): the first such job. -/
def State.deferRefused (s : State) : State :=
  match s.gran.jobs.find? fun j => j.refusable && !j.started && !j.ops.isEmpty with
  | none => s
  | some j =>
    let s := s.event 0x8017 (j.master + j.rank * 2 ^ 8)
    if j.op = jFIELD then (s.saveAbort 1 false).saveCode cBUSY
    else
      let s := s.onGran fun g => g.without (· == j)
      if j.host then s.hostJobEnd j.op cBUSY else if j.op = jTRIM then s.trimRefused j.arg else s

/-- GRAN_DEFER_REFUSED (R496). -/
def execGranDeferRefused (s : State) : Answer := .next s.deferRefused

/-- A margin scan ends (R104, R510 to R512): the weak sectors are counted and repaired, slot 0 is armed, a WC4 service that ran it is
over. -/
def State.scanDone (s : State) (weak : List Nat) : State :=
  if s.gran.scanning then
    let s := ({ s.onGran fun g => { g with scanning := false } with yard := { s.yard with scanTask := false } }).put GRAN_SCAN_ACC 0
    let s := ((s.put GRAN_SCAN_LAST_S (s.get YARD_SECONDS)).raise 0x080 2).event 0x801B weak.length
    let s := (weak.foldl State.queueRefresh s).armScan
    match s.yard.service with
    | some v => if v.slot = 0 then s.serviceOver else s.holdOver
    | none => s
  else s

/-- GRAN_SCAN_DONE (R511): the indices of the weak sectors. -/
def execGranScanDone (weak : List Nat) (s : State) : Answer := .next (s.scanDone weak)

/-- SHADOW_STORE_CMD (R506). -/
def execShadowStoreCmd (m : Master) (s : State) : Answer := .next (s.command m.num 0x081 0x048 1)

/-- AUTO_S seconds have passed since the last automatic store (R506). -/
def State.autoStore (s : State) : State :=
  let n := s.get SHADOW_AUTO_S
  if n ≠ 0 ∧ s.shadow.autoLeft ≥ n ∧ s.mode ≠ DORMANT ∧ s.shadow.storing.isNone ∧ s.boot.stored ∧ !s.boot.inReset then
    { s.commitStore 0 2 with shadow := { (s.commitStore 0 2).shadow with autoLeft := 0 } }
  else s

/-- SHADOW_AUTO_STORE (R506). -/
def execShadowAutoStore (s : State) : Answer := .next s.autoStore

/-- SHADOW_STORE_DONE (R506); `fails`: the target does not verify; `powered`: a power-fail store ends with main power back (R516). -/
def execShadowStoreDone (fails powered : Bool) (s : State) : Answer := .next (s.storeDone fails powered)

/-- POWER_FAIL (R507). -/
def execPowerFail (s : State) : Answer := .next s.powerFail

/-- VBKP_FLOOR (R515): the bursts that are written whole. -/
def execVbkpFloor (bursts : Nat) (s : State) : Answer := .next (s.storeFloor bursts)

end Sys2Proof.Machine
end

