-- ==== Sys2Proof/Machine/ExecIntegrity.lean ====
section
/-! DEFINITION. The commands of the watchdog, the semaphores, the event log and the crossings (R523 to R545, R563 to R573). -/

namespace Sys2Proof.Machine

/-- WDT_ANSWER (R531): carried out by the Yard. -/
def execWdtAnswer (m : Master) (data : Word) (s : State) : Answer := .next (s.command m.num 0x003 0x054 data.toNat)

/-- The period has reached the cycle that opens the window (R523). -/
def State.windowOpens (s : State) : State :=
  if s.wdtServing then { s with wdt := { s.wdt with cycle := max s.wdt.cycle s.wdt.openAt } } else s

/-- WDT_WINDOW_OPEN (R523). -/
def execWdtWindowOpen (s : State) : Answer := .next s.windowOpens

/-- The period ends without a correct service (R532). -/
def State.periodEnds (s : State) : State := if s.wdtServing then s.wdtMiss 1 else s

/-- WDT_PERIOD_END (R532). -/
def execWdtPeriodEnd (s : State) : Answer := .next s.periodEnds

/-- WDT_EN_WRITE (R528). -/
def execWdtEnWrite (m : Master) (en : Bool) (s : State) : Answer := .next (s.command m.num 0x003 0x008 (bit en))

/-- The Yard takes a posted write (R563): the write has passed the arbiter, so that a Granary operation does not hold it back. -/
def State.yardTakes (s : State) : State :=
  if s.boot.inReset || s.safe || !s.coreOn then s else s.takePosted

/-- YARD_POSTED_WRITE (R563). -/
def execYardPostedWrite (s : State) : Answer := .next s.yardTakes

/-- The offset of a semaphore's command word (Table LOCK-3). -/
def semOff (n : Nat) : Nat := 0x040 + 16 * n

/-- SEM_TAKE (R536). -/
def execSemTake (m : Master) (n : Fin 8) (s : State) : Answer := .next (s.command m.num 0x005 (semOff n.val) 1)

/-- SEM_RELEASE (R537). -/
def execSemRelease (m : Master) (n : Fin 8) (s : State) : Answer := .next (s.command m.num 0x005 (semOff n.val) 2)

/-- SEM_FORCE (R538). -/
def execSemForce (m : Master) (n : Fin 8) (s : State) : Answer := .next (s.command m.num 0x005 (semOff n.val) 4)

/-- SEM_HOLD_EXPIRE (R540). -/
def execSemHoldExpire (n : Fin 8) (s : State) : Answer := .next (s.holdExpire n.val)

/-- SEM_RECOVERY_END (R539). -/
def execSemRecoveryEnd (n : Fin 8) (s : State) : Answer := .next (s.recoveryEnd n.val)

/-- EVT_ACK (R544). -/
def execEvtAck (m : Master) (data : Word) (s : State) : Answer := .next (s.command m.num 0x006 0x044 data.toNat)

/-- The event crossings that dropped entries have emptied (R545). -/
def State.crossingLost (s : State) (dropped : Nat) : State :=
  if dropped = 0 then s else (s.addSat EVT_XING_LOST dropped).event 0x0611 (min dropped 0xFFFF)

/-- EVT_XING_LOST (R545): the entries dropped since the last one. DEDUCED, log 52, safe. -/
def execEvtXingLost (dropped : Nat) (s : State) : Answer := .next (s.crossingLost dropped)

/-- The stored field of a write that never arrived is undefined until it is rewritten (R567). -/
def State.undefField (s : State) (p : Nat) (r : Row) (i : Nat) : State :=
  match r.acc with
  | .rw | .rww | .rw1 => let (v, t) := s.fresh; t.put r v (r.nth p) i
  | .rws => let (v, t) := s.fresh; t.stage r v (r.nth p) i
  | _ => s

/-- A held-data write without an acknowledgement is abandoned (R567). -/
def State.handshakeLost (s : State) (m addr : Nat) : State :=
  if !s.sources m then s
  else match target addr with
  | .page p off =>
    let s := { s with host := { s.host with posted := s.host.posted.filter fun e => !(e.1 == m && e.2.1 == addr) } }
    let s := { (s.noteErr m true p off cCHECK).raise 0x00C 4 with hsFault := true }.event 0x0C13 p
    (wordRows p off).foldl (fun s e => s.undefField p e.1 e.2) s
  | _ => s

/-- XING_HS_TIMEOUT (R567). DEDUCED, log 23, safe. -/
def execXingHsTimeout (m : Master) (addr : Word) (s : State) : Answer := .next (s.handshakeLost m.num addr.toNat)

/-- SLUICE_PEAK_CLR (R573). -/
def execSluicePeakClr (m : Master) (x : Fin 13) (s : State) : Answer :=
  .next (s.command m.num 0x00C (0x048 + 16 * x.val) 0x100)

end Sys2Proof.Machine
end

