-- ==== Sys2Proof/Machine/ExecPins.lean ====
section
/-! DEFINITION. The commands of the pins, the test port and the supplies (R577 to R599). -/

namespace Sys2Proof.Machine

/-- GPIO_CONFIG_WRITE (R580). -/
def execGpioConfigWrite (m : Master) (k : Fin 24) (data : Word) (s : State) : Answer :=
  .next (s.command m.num 0x007 (0x040 + 4 * k.val) data.toNat)

/-- GPIO_OUT_WRITE (R581). -/
def execGpioOutWrite (m : Master) (data : Word) (s : State) : Answer := .next (s.command m.num 0x007 0x0A4 data.toNat)

/-- TAP_EXTEST (R585). -/
def execTapExtest (s : State) : Answer := .next s.tapExtest

/-- TAP_SAMPLE_PRELOAD (R584). -/
def execTapSamplePreload (s : State) : Answer := .next (s.tapInstr 1)

/-- TAP_IDCODE (R584). -/
def execTapIdcode (s : State) : Answer := .next (s.tapInstr 2)

/-- TAP_BYPASS (R584). -/
def execTapBypass (s : State) : Answer := .next (s.tapInstr 15)

/-- TAP_REGACC (R586). -/
def execTapRegacc (write : Bool) (addr data : Word) (s : State) : Answer := .next (s.tapAccess write addr.toNat data.toNat)

/-- TAP_HALT (R587). -/
def execTapHalt (on : Bool) (s : State) : Answer := .next (s.tapHalt on)

/-- TAP_RESET (R584). -/
def execTapReset (s : State) : Answer := .next s.tapReset

/-- SUPPLY_LOSS (R598): 0 VDDA, 1 VDDIO, 2 VDDPHY. -/
def execSupplyLoss (k : Fin 3) (s : State) : Answer := .next (s.supplyLoss k.val)

/-- SUPPLY_BACK (R599). -/
def execSupplyBack (k : Fin 3) (s : State) : Answer := .next (s.supplyBack k.val)

/-- VBAT_STATUS (R590). The monitor sees a VBAT beyond Table ELEC-1 like any other outside 7.0 to 40.0 V (R623).
DEDUCED, log 12, unsafe. -/
def execVbatStatus (mv : Nat) (s : State) : Answer := .next (s.vbatOut mv)

/-- VDDIO_LEVEL_DETECT (R577). -/
def execVddioLevelDetect (v33 : Bool) (s : State) : Answer := .next (s.put PIN_VDDIO_3V3 (bit v33))

/-- SUPPLY_GOOD (R589): 0 VDD, 1 VDDA, 2 VDDIO, 3 VDDPHY. -/
def execSupplyGood (k : Fin 4) (s : State) : Answer := .next (s.supplyGood k.val)

/-- VBAT_EPISODE_END (R590). -/
def execVbatEpisodeEnd (s : State) : Answer := .next s.vbatIn

end Sys2Proof.Machine
end

