-- ==== Sys2Proof/Machine/Dispatch.lean ====
section
/-! DEFINITION. One arm per command. -/

namespace Sys2Proof.Machine

def exec (i : Instr) (s : State) : Host.Outcome State Fault Refusal :=
  match i with
  | .registerWrite m addr data => Sys2Proof.Machine.execRegisterWrite m addr data s
  | .secondsRead m => Sys2Proof.Machine.execSecondsRead m s
  | .errCodeClr m page => Sys2Proof.Machine.execErrCodeClr m page s
  | .intSet m page bits => Sys2Proof.Machine.execIntSet m page bits s
  | .commitGo m page => Sys2Proof.Machine.execCommitGo m page s
  | .commitDrop m page go => Sys2Proof.Machine.execCommitDrop m page go s
  | .commitApply page stream => Sys2Proof.Machine.execCommitApply page stream s
  | .cfgParity page word byBlock => Sys2Proof.Machine.execCfgParity page word byBlock s
  | .sysSessionWrite m data => Sys2Proof.Machine.execSysSessionWrite m data s
  | .masterPrivWrite m data => Sys2Proof.Machine.execMasterPrivWrite m data s
  | .loftWordWrite m bankB index data => Sys2Proof.Machine.execLoftWordWrite m bankB index data s
  | .loftWriteRefused m bankB index => Sys2Proof.Machine.execLoftWriteRefused m bankB index s
  | .shadowSramWrite m word data => Sys2Proof.Machine.execShadowSramWrite m word data s
  | .porAon => Sys2Proof.Machine.execPorAon s
  | .borCoreReset => Sys2Proof.Machine.execBorCoreReset s
  | .pinReset => Sys2Proof.Machine.execPinReset s
  | .resetCmd m data => Sys2Proof.Machine.execResetCmd m data s
  | .internalResetRelease s1 s2 s3 s4 addr hostsel => Sys2Proof.Machine.execInternalResetRelease s1 s2 s3 s4 addr hostsel s
  | .bootDone us => Sys2Proof.Machine.execBootDone us s
  | .bootTimeLimit => Sys2Proof.Machine.execBootTimeLimit s
  | .roleStrapMoved live => Sys2Proof.Machine.execRoleStrapMoved live s
  | .modeCmd m data => Sys2Proof.Machine.execModeCmd m data s
  | .modeTransitionDone => Sys2Proof.Machine.execModeTransitionDone s
  | .modeStuck => Sys2Proof.Machine.execModeStuck s
  | .serviceHoldExpire => Sys2Proof.Machine.execServiceHoldExpire s
  | .yardAxesWrite m data => Sys2Proof.Machine.execYardAxesWrite m data s
  | .yardSecondTick => Sys2Proof.Machine.execYardSecondTick s
  | .timerSlotWrite m slot tickWord data => Sys2Proof.Machine.execTimerSlotWrite m slot tickWord data s
  | .timerSlotFire slot => Sys2Proof.Machine.execTimerSlotFire slot s
  | .powerStateEntry deadlineUs => Sys2Proof.Machine.execPowerStateEntry deadlineUs s
  | .wakePinEdge => Sys2Proof.Machine.execWakePinEdge s
  | .internalReturn => Sys2Proof.Machine.execInternalReturn s
  | .exitComplete us => Sys2Proof.Machine.execExitComplete us s
  | .budgetWrite m wc data => Sys2Proof.Machine.execBudgetWrite m wc data s
  | .clkKeepWrite m data => Sys2Proof.Machine.execClkKeepWrite m data s
  | .reseed m data => Sys2Proof.Machine.execReseed m data s
  | .drainClr m data => Sys2Proof.Machine.execDrainClr m data s
  | .clockGrant clock => Sys2Proof.Machine.execClockGrant clock s
  | .yclkXtalFail => Sys2Proof.Machine.execYclkXtalFail s
  | .drainLimitExpire d inFlight => Sys2Proof.Machine.execDrainLimitExpire d inFlight s
  | .domainOff d => Sys2Proof.Machine.execDomainOff d s
  | .domainPowerGood d => Sys2Proof.Machine.execDomainPowerGood d s
  | .domainFault d => Sys2Proof.Machine.execDomainFault d s
  | .pdFaultClr m word8 data => Sys2Proof.Machine.execPdFaultClr m word8 data s
  | .fpaCtrlEn m en => Sys2Proof.Machine.execFpaCtrlEn m en s
  | .biasRampDone => Sys2Proof.Machine.execBiasRampDone s
  | .arrayFrameBoundary vetoPin stallHeld => Sys2Proof.Machine.execArrayFrameBoundary vetoPin stallHeld s
  | .rowStart r => Sys2Proof.Machine.execRowStart r s
  | .biasOverload outputs => Sys2Proof.Machine.execBiasOverload outputs s
  | .biasFaultClr m => Sys2Proof.Machine.execBiasFaultClr m s
  | .chcalReq m word1 data => Sys2Proof.Machine.execChcalReq m word1 data s
  | .calibrationEnd inst meas => Sys2Proof.Machine.execCalibrationEnd inst meas s
  | .chtrimRetry => Sys2Proof.Machine.execChtrimRetry s
  | .retryWaitExpire inst => Sys2Proof.Machine.execRetryWaitExpire inst s
  | .calRefused inst => Sys2Proof.Machine.execCalRefused inst s
  | .fillStart m => Sys2Proof.Machine.execFillStart m s
  | .fillEnd m => Sys2Proof.Machine.execFillEnd m s
  | .bankLoad m fromFactory => Sys2Proof.Machine.execBankLoad m fromFactory s
  | .bankCheckDone => Sys2Proof.Machine.execBankCheckDone s
  | .fillAbort m => Sys2Proof.Machine.execFillAbort m s
  | .bankSwitchCmd m => Sys2Proof.Machine.execBankSwitchCmd m s
  | .nucClose m force => Sys2Proof.Machine.execNucClose m force s
  | .shutterSettleEnd => Sys2Proof.Machine.execShutterSettleEnd s
  | .shutterOpenConfirm => Sys2Proof.Machine.execShutterOpenConfirm s
  | .closeMiss => Sys2Proof.Machine.execCloseMiss s
  | .openMiss => Sys2Proof.Machine.execOpenMiss s
  | .nucDeferExpired => Sys2Proof.Machine.execNucDeferExpired s
  | .fieldSaveDone => Sys2Proof.Machine.execFieldSaveDone s
  | .shutFaultClr m => Sys2Proof.Machine.execShutFaultClr m s
  | .solFire m n => Sys2Proof.Machine.execSolFire m n s
  | .solStop m n => Sys2Proof.Machine.execSolStop m n s
  | .phaseTimerExpire n => Sys2Proof.Machine.execPhaseTimerExpire n s
  | .peakCurrentReached n tUs => Sys2Proof.Machine.execPeakCurrentReached n tUs s
  | .chopSwitch n mA => Sys2Proof.Machine.execChopSwitch n mA s
  | .deadTimeEnd n => Sys2Proof.Machine.execDeadTimeEnd n s
  | .minOffEnd n => Sys2Proof.Machine.execMinOffEnd n s
  | .motionDetect n tUs => Sys2Proof.Machine.execMotionDetect n tUs s
  | .motWindowClose n => Sys2Proof.Machine.execMotWindowClose n s
  | .tpkOut n => Sys2Proof.Machine.execTpkOut n s
  | .railGrant n => Sys2Proof.Machine.execRailGrant n s
  | .railRefused n => Sys2Proof.Machine.execRailRefused n s
  | .bstNotReady n => Sys2Proof.Machine.execBstNotReady n s
  | .boostReady vbst => Sys2Proof.Machine.execBoostReady vbst s
  | .bstOvervolt vbst => Sys2Proof.Machine.execBstOvervolt vbst s
  | .bstOvClear vbst => Sys2Proof.Machine.execBstOvClear vbst s
  | .boostIdleStop => Sys2Proof.Machine.execBoostIdleStop s
  | .bstStartFail vbst => Sys2Proof.Machine.execBstStartFail vbst s
  | .boostFaultClr m => Sys2Proof.Machine.execBoostFaultClr m s
  | .coilModelStep i0 i1 i2 i3 => Sys2Proof.Machine.execCoilModelStep i0 i1 i2 i3 s
  | .tripEvent => Sys2Proof.Machine.execTripEvent s
  | .tripRelease => Sys2Proof.Machine.execTripRelease s
  | .solTripClr m n => Sys2Proof.Machine.execSolTripClr m n s
  | .boostTripClr m => Sys2Proof.Machine.execBoostTripClr m s
  | .currentCheckFire n => Sys2Proof.Machine.execCurrentCheckFire n s
  | .solLatch n conducts => Sys2Proof.Machine.execSolLatch n conducts s
  | .overcurrentLimit n => Sys2Proof.Machine.execOvercurrentLimit n s
  | .solFaultClr m n => Sys2Proof.Machine.execSolFaultClr m n s
  | .tempConversion sensor reading points => Sys2Proof.Machine.execTempConversion sensor reading points s
  | .sensorTimeout sensor => Sys2Proof.Machine.execSensorTimeout sensor s
  | .ntcConversion code => Sys2Proof.Machine.execNtcConversion code s
  | .tjPeakClr m => Sys2Proof.Machine.execTjPeakClr m s
  | .thermalCut comparator => Sys2Proof.Machine.execThermalCut comparator s
  | .thermalRelease => Sys2Proof.Machine.execThermalRelease s
  | .sentryEvaluate => Sys2Proof.Machine.execSentryEvaluate s
  | .sentryHoldoffExpire => Sys2Proof.Machine.execSentryHoldoffExpire s
  | .bgReset m => Sys2Proof.Machine.execBgReset m s
  | .linkCtrlEn m n en => Sys2Proof.Machine.execLinkCtrlEn m n en s
  | .pocSoftStartEnd n => Sys2Proof.Machine.execPocSoftStartEnd n s
  | .linkLock n => Sys2Proof.Machine.execLinkLock n s
  | .capsTimeout n => Sys2Proof.Machine.execCapsTimeout n s
  | .trainingDone n => Sys2Proof.Machine.execTrainingDone n s
  | .trainingFail n => Sys2Proof.Machine.execTrainingFail n s
  | .failWaitExpire n => Sys2Proof.Machine.execFailWaitExpire n s
  | .linkNoPeer n => Sys2Proof.Machine.execLinkNoPeer n s
  | .lossOfLock n => Sys2Proof.Machine.execLossOfLock n s
  | .linkDown n => Sys2Proof.Machine.execLinkDown n s
  | .pocOvercurrent n fast => Sys2Proof.Machine.execPocOvercurrent n fast s
  | .pocRetry n => Sys2Proof.Machine.execPocRetry n s
  | .pocRetryCountClear n => Sys2Proof.Machine.execPocRetryCountClear n s
  | .pocBackfeed n => Sys2Proof.Machine.execPocBackfeed n s
  | .pocKeepaliveFault n => Sys2Proof.Machine.execPocKeepaliveFault n s
  | .pocNoLoad n mA => Sys2Proof.Machine.execPocNoLoad n mA s
  | .pocVinLow n dV => Sys2Proof.Machine.execPocVinLow n dV s
  | .pocClr m n persists => Sys2Proof.Machine.execPocClr m n persists s
  | .wakeCmd m n => Sys2Proof.Machine.execWakeCmd m n s
  | .stallPeakClr m n => Sys2Proof.Machine.execStallPeakClr m n s
  | .coaxRise near => Sys2Proof.Machine.execCoaxRise near s
  | .coaxFall => Sys2Proof.Machine.execCoaxFall s
  | .wakeSigRx n mA collided => Sys2Proof.Machine.execWakeSigRx n mA collided s
  | .fsPacket n p => Sys2Proof.Machine.execFsPacket n p s
  | .embPacket n p => Sys2Proof.Machine.execEmbPacket n p s
  | .linePacket n p => Sys2Proof.Machine.execLinePacket n p s
  | .fePacket n p => Sys2Proof.Machine.execFePacket n p s
  | .reservedPacket n => Sys2Proof.Machine.execReservedPacket n s
  | .ackMsg n c => Sys2Proof.Machine.execAckMsg n c s
  | .nakMsg n c => Sys2Proof.Machine.execNakMsg n c s
  | .capsMsg n c => Sys2Proof.Machine.execCapsMsg n c s
  | .choiceMsg n c => Sys2Proof.Machine.execChoiceMsg n c s
  | .sessionMsg n c => Sys2Proof.Machine.execSessionMsg n c s
  | .sessionAckMsg n c => Sys2Proof.Machine.execSessionAckMsg n c s
  | .tunRdMsg n c => Sys2Proof.Machine.execTunRdMsg n c s
  | .tunWrMsg n c => Sys2Proof.Machine.execTunWrMsg n c s
  | .tunReplyMsg n c => Sys2Proof.Machine.execTunReplyMsg n c s
  | .statusMsg n c => Sys2Proof.Machine.execStatusMsg n c s
  | .eventMsg n c => Sys2Proof.Machine.execEventMsg n c s
  | .alarmMsg n c => Sys2Proof.Machine.execAlarmMsg n c s
  | .rresetMsg n c => Sys2Proof.Machine.execRresetMsg n c s
  | .retxTimeout n => Sys2Proof.Machine.execRetxTimeout n s
  | .ackDelayExpire n => Sys2Proof.Machine.execAckDelayExpire n s
  | .tunAddr m n data => Sys2Proof.Machine.execTunAddr m n data s
  | .tunPop m n => Sys2Proof.Machine.execTunPop m n s
  | .hevtPop m n => Sys2Proof.Machine.execHevtPop m n s
  | .authClr m n => Sys2Proof.Machine.execAuthClr m n s
  | .rreset m n data => Sys2Proof.Machine.execRreset m n data s
  | .tunnelTimeout => Sys2Proof.Machine.execTunnelTimeout s
  | .tunnelActionRelease => Sys2Proof.Machine.execTunnelActionRelease s
  | .csiReinit => Sys2Proof.Machine.execCsiReinit s
  | .pvpFrameStart => Sys2Proof.Machine.execPvpFrameStart s
  | .pvpStale stream => Sys2Proof.Machine.execPvpStale stream s
  | .i2cAddress addr read ptr => Sys2Proof.Machine.execI2cAddress addr read ptr s
  | .i2cWriteWord data => Sys2Proof.Machine.execI2cWriteWord data s
  | .i2cReadWord => Sys2Proof.Machine.execI2cReadWord s
  | .i2cStop cut => Sys2Proof.Machine.execI2cStop cut s
  | .i2cHoldExpire => Sys2Proof.Machine.execI2cHoldExpire s
  | .i2cSdaHeld => Sys2Proof.Machine.execI2cSdaHeld s
  | .attnTrigger => Sys2Proof.Machine.execAttnTrigger s
  | .attnAttempt outcome => Sys2Proof.Machine.execAttnAttempt outcome s
  | .spiCsFall => Sys2Proof.Machine.execSpiCsFall s
  | .spiNop => Sys2Proof.Machine.execSpiNop s
  | .spiWrite addr words => Sys2Proof.Machine.execSpiWrite addr words s
  | .spiRead addr n => Sys2Proof.Machine.execSpiRead addr n s
  | .spiProtocol byte => Sys2Proof.Machine.execSpiProtocol byte s
  | .spiCsRise cut => Sys2Proof.Machine.execSpiCsRise cut s
  | .spiHoldExpire => Sys2Proof.Machine.execSpiHoldExpire s
  | .cmdqData m q data => Sys2Proof.Machine.execCmdqData m q data s
  | .cmdqStart m q data => Sys2Proof.Machine.execCmdqStart m q data s
  | .cmdqFlush m q => Sys2Proof.Machine.execCmdqFlush m q s
  | .cmdqFlushDone q => Sys2Proof.Machine.execCmdqFlushDone q s
  | .cmdqPop m q => Sys2Proof.Machine.execCmdqPop m q s
  | .itemWrite => Sys2Proof.Machine.execItemWrite s
  | .itemModify => Sys2Proof.Machine.execItemModify s
  | .itemPoll => Sys2Proof.Machine.execItemPoll s
  | .itemPollEnd q => Sys2Proof.Machine.execItemPollEnd q s
  | .itemWait => Sys2Proof.Machine.execItemWait s
  | .itemWaitEnd q => Sys2Proof.Machine.execItemWaitEnd q s
  | .itemMark => Sys2Proof.Machine.execItemMark s
  | .itemMode => Sys2Proof.Machine.execItemMode s
  | .itemSol => Sys2Proof.Machine.execItemSol s
  | .itemClose => Sys2Proof.Machine.execItemClose s
  | .itemWriteP => Sys2Proof.Machine.execItemWriteP s
  | .itemWaitP => Sys2Proof.Machine.execItemWaitP s
  | .seqRun m data => Sys2Proof.Machine.execSeqRun m data s
  | .seqStop m => Sys2Proof.Machine.execSeqStop m s
  | .granProgram m => Sys2Proof.Machine.execGranProgram m s
  | .granErase m => Sys2Proof.Machine.execGranErase m s
  | .granAppend m => Sys2Proof.Machine.execGranAppend m s
  | .granFind m => Sys2Proof.Machine.execGranFind m s
  | .granSeqBegin m => Sys2Proof.Machine.execGranSeqBegin m s
  | .granSeqEnd m => Sys2Proof.Machine.execGranSeqEnd m s
  | .granScanCmd m => Sys2Proof.Machine.execGranScanCmd m s
  | .granFieldSave m => Sys2Proof.Machine.execGranFieldSave m s
  | .granLockPage m => Sys2Proof.Machine.execGranLockPage m s
  | .granRprotPage m => Sys2Proof.Machine.execGranRprotPage m s
  | .granLockFactory m => Sys2Proof.Machine.execGranLockFactory m s
  | .granOperationDone fails => Sys2Proof.Machine.execGranOperationDone fails s
  | .granJobDone => Sys2Proof.Machine.execGranJobDone s
  | .granDeferRefused => Sys2Proof.Machine.execGranDeferRefused s
  | .granScanDone weak => Sys2Proof.Machine.execGranScanDone weak s
  | .shadowStoreCmd m => Sys2Proof.Machine.execShadowStoreCmd m s
  | .shadowAutoStore => Sys2Proof.Machine.execShadowAutoStore s
  | .shadowStoreDone fails powered => Sys2Proof.Machine.execShadowStoreDone fails powered s
  | .powerFail => Sys2Proof.Machine.execPowerFail s
  | .vbkpFloor bursts => Sys2Proof.Machine.execVbkpFloor bursts s
  | .wdtAnswer m data => Sys2Proof.Machine.execWdtAnswer m data s
  | .wdtWindowOpen => Sys2Proof.Machine.execWdtWindowOpen s
  | .wdtPeriodEnd => Sys2Proof.Machine.execWdtPeriodEnd s
  | .wdtEnWrite m en => Sys2Proof.Machine.execWdtEnWrite m en s
  | .yardPostedWrite => Sys2Proof.Machine.execYardPostedWrite s
  | .semTake m n => Sys2Proof.Machine.execSemTake m n s
  | .semRelease m n => Sys2Proof.Machine.execSemRelease m n s
  | .semForce m n => Sys2Proof.Machine.execSemForce m n s
  | .semHoldExpire n => Sys2Proof.Machine.execSemHoldExpire n s
  | .semRecoveryEnd n => Sys2Proof.Machine.execSemRecoveryEnd n s
  | .evtAck m data => Sys2Proof.Machine.execEvtAck m data s
  | .evtXingLost dropped => Sys2Proof.Machine.execEvtXingLost dropped s
  | .xingHsTimeout m addr => Sys2Proof.Machine.execXingHsTimeout m addr s
  | .sluicePeakClr m x => Sys2Proof.Machine.execSluicePeakClr m x s
  | .gpioConfigWrite m k data => Sys2Proof.Machine.execGpioConfigWrite m k data s
  | .gpioOutWrite m data => Sys2Proof.Machine.execGpioOutWrite m data s
  | .tapExtest => Sys2Proof.Machine.execTapExtest s
  | .tapSamplePreload => Sys2Proof.Machine.execTapSamplePreload s
  | .tapIdcode => Sys2Proof.Machine.execTapIdcode s
  | .tapBypass => Sys2Proof.Machine.execTapBypass s
  | .tapRegacc write addr data => Sys2Proof.Machine.execTapRegacc write addr data s
  | .tapHalt on => Sys2Proof.Machine.execTapHalt on s
  | .tapReset => Sys2Proof.Machine.execTapReset s
  | .supplyLoss k => Sys2Proof.Machine.execSupplyLoss k s
  | .supplyBack k => Sys2Proof.Machine.execSupplyBack k s
  | .vbatStatus mv => Sys2Proof.Machine.execVbatStatus mv s
  | .vddioLevelDetect v33 => Sys2Proof.Machine.execVddioLevelDetect v33 s
  | .supplyGood k => Sys2Proof.Machine.execSupplyGood k s
  | .vbatEpisodeEnd => Sys2Proof.Machine.execVbatEpisodeEnd s

end Sys2Proof.Machine
end

