-- ==== Sys2Proof/Machine/Step.lean ====
section
/-! DEFINITION. One step: the command at the front of the queue, or a cycle of YCLK. -/

namespace Sys2Proof.Machine

/-- The command at the front of the queue acts on the state with the queue's rest. With no command waiting the Yard's clock goes on
(R112): one YCLK cycle passes. DESIGN CHOICE, log 2, unsafe. DEDUCED, log 3, safe. DEDUCED, log 13, unsafe. -/
def step (s : State) : Host.Outcome State Fault Refusal :=
  match s.pending with
  | [] => .next s.cycle
  | c :: rest => exec c { s with pending := rest }

/-- The state with the command that a word spells at the front of its queue. DEDUCED, log 3, safe. -/
def State.withFetchWord (s : State) (nbits w : Nat) : State :=
  match decodeTableWord nbits w with
  | some c => { s with pending := c :: s.pending }
  | none => s

end Sys2Proof.Machine
end

