-- ==== Sys2Proof/Safety.lean ====
section
/-! DEFINITION. The terms that claims about the block are stated in: when a write is carried out, what two states share, and what
every step keeps. -/

namespace Sys2Proof.Machine

/-- Accesses are served (R66, R158, R467) and the device is not in SAFE (R37). -/
def State.serves (s : State) : Bool := s.reachable && !s.safe && !s.nvmBusy

/-- A write of `data` to the word at `off` of page `p` by master `m` is carried out: accesses are served, the master has a source in the
role (R25), the word exists and its page is present (R20, R43, R46), no check of Table REG-4 fails (R63), it carries one strobe (R631),
and no posted write is ahead of it (R563). -/
def State.accepts (s : State) (m p off data : Nat) : Bool :=
  s.serves && s.sources m && pageExists p && s.present p && off % 4 == 0 && decide (off < 0x1000) && !(wordRows p off).isEmpty &&
  strobeParts p off data == [data] && (s.writeCheck m p off data).isNone && (!isPosted (regAddr p off) || s.host.posted.isEmpty)

/-- The word at `off` of page `p` has been rewritten: a parity error of it ends (R78). -/
def State.rewritten (s : State) (p off : Nat) : State := { s with parity := s.parity.filter fun e => e != (p, off) }

/-- Every port's domain that is OPENING is wanted: one that is not turns off with the next thing that happens (R131). -/
def State.portsSettled (s : State) : Bool := (List.range 4).all fun k => s.pd (2 + k) != 1 || s.wants (2 + k)

/-- Every port's domain that is OPENING or ON is wanted: one that is not closes with the next thing that happens (R131). -/
def State.portsWanted (s : State) : Bool :=
  (List.range 4).all fun k => (s.pd (2 + k) != 1 && s.pd (2 + k) != 2) || s.wants (2 + k)

/-- Every byte of the Granary, of its Loft images, of both Loft banks and of the shadow SRAM reads the same. -/
def State.SameMemory (s t : State) : Prop :=
  (∀ a, t.gran.byte a = s.gran.byte a) ∧ (∀ b i, (t.bank b).word i = (s.bank b).word i) ∧
  ∀ a, t.shadow.sram.read a 0 = s.shadow.sram.read a 0

/-- Every register field outside the given pages and beside the given keys reads the same, in force and as staged. -/
def State.SameBut (s t : State) (pages keys : List Nat) : Prop :=
  ∀ k d, keyPage k ∉ pages → k ∉ keys → t.regs.find k d = s.regs.find k d ∧ t.staged.find k d = s.staged.find k d

/-- The fields in which SPI and the two-wire bus show the code of their master's last access (R464, R472). -/
def lastKeys : List Nat := [SPI_LAST_CODE.key 0 0, I2C_LAST_CODE.key 0 0]

/-- These, and the counts of refusals. -/
def noteKeys : List Nat := lastKeys ++ [SPI_REFUSALS.key 0 0, I2C_REFUSALS.key 0 0]

/-- The words of a control message's payload (Table LINK-8). -/
def messageLen : Instr → Nat
  | .sessionMsg _ _ | .tunWrMsg _ _ | .eventMsg _ _ => 3
  | .tunRdMsg _ _ | .tunReplyMsg _ _ => 2
  | .nakMsg _ _ | .capsMsg _ _ | .choiceMsg _ _ | .sessionAckMsg _ _ | .statusMsg _ _ | .alarmMsg _ _ | .rresetMsg _ _ => 1
  | _ => 0

/-- The newest entry of the event log is `code` with `data`, at the second it was raised (R542, R544). -/
def State.lastEvent (s : State) (code data : Nat) : Bool :=
  let i := (s.get EVT_TOTAL + 2 ^ 32 - 1) % 256
  s.get EVT_CODE 0 i == code && s.get EVT_DATA 0 i == data && s.get EVT_TS 0 i == s.get YARD_SECONDS % 2 ^ 32

/-- The register stores and the memories are in their canonical form, and the ports, streams and queues are as many as the
manual gives the device. -/
def State.Inv (s : State) : Prop :=
  s.regs.sorted = true ∧ s.staged.sorted = true ∧
  Memory.wf 0xFF s.gran.mem = true ∧ Memory.wf 0x00 s.shadow.sram = true ∧ Memory.wf 0x00 s.shadow.snapshot = true ∧
  s.link.length = 4 ∧ s.vid.length = 4 ∧ s.host.queues.length = 4 ∧ (s.sol.length = 0 ∨ s.sol.length = 4)

/-- The command is one write of a register, and nothing beside it: its master, the page, the offset and the word. -/
def commandWrite : Instr → Option (Nat × Nat × Nat × Nat)
  | .errCodeClr m page => some (m.num, page.val, 0x020, 0x80000000)
  | .intSet m page bits => some (m.num, page.val, 0x01C, bits.toNat)
  | .commitGo m page => some (m.num, page.val, 0x02C, 1)
  | .commitDrop m page go => some (m.num, page.val, 0x02C, 2 + bit go)
  | .sysSessionWrite m data => some (m.num, 0x000, 0x04C, data.toNat)
  | .masterPrivWrite m data => some (m.num, 0x000, 0x048, data.toNat)
  | .resetCmd m data => some (m.num, 0x000, 0x068, data.toNat)
  | .modeCmd m data => some (m.num, 0x001, 0x040, data.toNat)
  | .yardAxesWrite m data => some (m.num, 0x001, 0x048, data.toNat)
  | .timerSlotWrite m slot tickWord data => some (m.num, 0x001, 0x114 + 8 * slot.val + 4 * bit tickWord, data.toNat)
  | .budgetWrite m wc data => some (m.num, 0x001, 0x068 + 4 * wc.val, data.toNat)
  | .clkKeepWrite m data => some (m.num, 0x002, 0x048, data.toNat)
  | .reseed m data => some (m.num, 0x001, 0x088, data.toNat)
  | .drainClr m data => some (m.num, 0x001, 0x110, data.toNat)
  | .pdFaultClr m word8 data => some (m.num, 0x001, if word8 then 0x0E8 else 0x0E4, data.toNat)
  | .wdtAnswer m data => some (m.num, 0x003, 0x054, data.toNat)
  | .wdtEnWrite m en => some (m.num, 0x003, 0x008, bit en)
  | .tjPeakClr m => some (m.num, 0x004, 0x08C, 1)
  | .semTake m n => some (m.num, 0x005, semOff n.val, 1)
  | .semRelease m n => some (m.num, 0x005, semOff n.val, 2)
  | .semForce m n => some (m.num, 0x005, semOff n.val, 4)
  | .evtAck m data => some (m.num, 0x006, 0x044, data.toNat)
  | .gpioConfigWrite m k data => some (m.num, 0x007, 0x040 + 4 * k.val, data.toNat)
  | .gpioOutWrite m data => some (m.num, 0x007, 0x0A4, data.toNat)
  | .cmdqData m q data => some (m.num, 0x00A, queueOff q.val 0, data.toNat)
  | .cmdqStart m q data => some (m.num, 0x00A, queueOff q.val 4, data.toNat)
  | .cmdqFlush m q => some (m.num, 0x00A, queueOff q.val 8, 1)
  | .cmdqPop m q => some (m.num, 0x00A, queueOff q.val 0x18, 1)
  | .seqRun m data => some (m.num, 0x00B, 0x048, data.toNat)
  | .seqStop m => some (m.num, 0x00B, 0x04C, 1)
  | .sluicePeakClr m x => some (m.num, 0x00C, 0x048 + 16 * x.val, 0x100)
  | .biasFaultClr m => some (m.num, 0x011, 0x0D8, 1)
  | .fillStart m => some (m.num, 0x050, 0x054, 1)
  | .fillEnd m => some (m.num, 0x050, 0x054, 2)
  | .bankSwitchCmd m => some (m.num, 0x050, 0x054, 4)
  | .fillAbort m => some (m.num, 0x050, 0x054, 8)
  | .bankLoad m fromFactory => some (m.num, 0x050, 0x054, 16 + 32 * bit fromFactory)
  | .nucClose m force => some (m.num, 0x052, 0x064, 1 + 2 * bit force)
  | .bgReset m => some (m.num, 0x054, 0x050, 1)
  | .shutFaultClr m => some (m.num, 0x065, 0x060, 1)
  | .solFire m n => some (m.num, solPage n.val, 0x078, 1)
  | .solStop m n => some (m.num, solPage n.val, 0x078, 2)
  | .solTripClr m n => some (m.num, solPage n.val, 0x098, 1)
  | .solFaultClr m n => some (m.num, solPage n.val, 0x098, 2)
  | .boostTripClr m => some (m.num, 0x064, 0x050, 1)
  | .boostFaultClr m => some (m.num, 0x064, 0x050, 2)
  | .wakeCmd m n => some (m.num, linkPage n.val, 0x05C, 2)
  | .stallPeakClr m n => some (m.num, linkPage n.val, 0x05C, 4)
  | .tunPop m n => some (m.num, linkPage n.val, 0x134, 1)
  | .hevtPop m n => some (m.num, linkPage n.val, 0x134, 2)
  | .authClr m n => some (m.num, linkPage n.val, 0x10C, 1)
  | .granProgram m => some (m.num, 0x080, 0x040, 0x01)
  | .granErase m => some (m.num, 0x080, 0x040, 0x02)
  | .granAppend m => some (m.num, 0x080, 0x040, 0x03)
  | .granFind m => some (m.num, 0x080, 0x040, 0x04)
  | .granSeqBegin m => some (m.num, 0x080, 0x040, 0x05)
  | .granSeqEnd m => some (m.num, 0x080, 0x040, 0x06)
  | .granScanCmd m => some (m.num, 0x080, 0x040, 0x07)
  | .granFieldSave m => some (m.num, 0x080, 0x040, 0x08)
  | .granLockPage m => some (m.num, 0x080, 0x040, 0x09)
  | .granRprotPage m => some (m.num, 0x080, 0x040, 0x0A)
  | .granLockFactory m => some (m.num, 0x080, 0x040, 0x0B)
  | .shadowStoreCmd m => some (m.num, 0x081, 0x048, 1)
  | _ => none

end Sys2Proof.Machine
end

