-- ==== Sys2Proof/Certificates/Slice0/Obligations.lean ====
section
/-! DEFINITION. The statements for the provers. -/

open Sys2Proof Sys2Proof.Machine

/-- With command c at the front of the queue a step is exec of c on the state with the queue's rest. With an empty queue a step
is one YCLK cycle; that the idle step stands for a cycle is the model's own choice (log entry 2). -/
def Obligations.StepRunsFrontCommand : Prop :=
  (∀ (c : Instr) (rest : List Instr) (s : State), s.pending = c :: rest →
    step s = exec c { s with pending := rest }) ∧
  (∀ s : State, s.pending = [] → step s = .next s.cycle)

/-- In the state after reset every field of every page reads the reset value of its row, nothing is staged, no command waits;
MASTER_PRIV makes M1 and M2 privileged, every OWNER is 0xFF, the Yard time is 0, no semaphore is held and TOTAL of the log is
32. That the state after reset is the one in which POR_AON is asserted is the model's reading (log entry 3). -/
def Obligations.ResetState : Prop :=
  (∀ (r : Row) (n i : Nat), State.reset.get r n i = r.rst i ∧ State.reset.getStaged r n i = r.rst i) ∧
  (State.reset.pending = [] ∧ State.reset.get SYS_PRIV = 3 ∧ (∀ p, State.reset.get HDR_OWNER p = 0xFF) ∧ State.reset.get
    YARD_SECONDS = 0 ∧
    (∀ n, n < 8 → State.reset.get LOCK_STATE 0 n = 0) ∧ State.reset.get EVT_TOTAL = 32 ∧ State.reset.get EVT_ACK = 0 ∧
      State.reset.boot.inReset = true ∧
    State.reset.serves = false)

/-- The state after reset has its register stores and memories in their canonical form and four ports, four output streams and
four command queues; no port domain opens or is on that is not wanted. The canonical forms are the model's own (log entry 1). -/
def Obligations.InvariantAtReset : Prop :=
  (State.reset.Inv) ∧
  (State.reset.portsWanted = true)

/-- From every state that has the register stores and the memories of the Granary and of the shadow SRAM in their canonical
form, and four ports, output streams and command queues, every step that answers a next state leads to one that has them too: no
command and no idle cycle loses, doubles or misplaces an entry. The canonical forms are the model's own (log entry 1). -/
def Obligations.InvariantKept : Prop :=
  ∀ s t : State, s.Inv → step s = .next t → t.Inv

/-- Every command, in every state and with every operand, answers a next state with the same waiting commands: no command faults
or is refused. -/
def Obligations.CommandsComplete : Prop :=
  ∀ (c : Instr) (s : State), ∃ t, exec c s = .next t ∧ t.pending = s.pending

/-- Whatever a step does, FACTORY once locked stays locked, and a page of LOCKPAGES once locked or read-protected stays so. -/
def Obligations.PermanentLocks : Prop :=
  ∀ s t : State, step s = .next t →
    (s.gran.factoryLocked = true → t.gran.factoryLocked = true) ∧
    ∀ k, (bitAt s.gran.pageLocked k = true → bitAt t.gran.pageLocked k = true) ∧
      (bitAt s.gran.pageRprot k = true → bitAt t.gran.pageRprot k = true)

/-- While accesses are served, an aligned access of a master that has a source in the role to an address outside every region of
Table REG-1, the gap between the Loft banks among them, is refused with RANGE_REJECT, and a read returns 0; the refusal is
recorded in SYS ERR_CODE and SYS.LAST_REFUSAL with PAGE 0xFF. An unaligned access there is recorded there too. An unaligned
access to a reserved page slot is refused with ALIGN_REJECT and recorded with PAGE 0xFE; an aligned one reads 0, writes nothing
and is recorded nowhere. -/
def Obligations.AddressesOutside : Prop :=
  (∀ (m addr : Nat) (s : State), s.serves = true → s.sources m = true → addr % 4 = 0 →
    (addr < 0x40000000 ∨ (0x40100000 ≤ addr ∧ addr < 0x50000000) ∨ (0x50001000 ≤ addr ∧ addr < 0x60000000) ∨
      (0x60140000 ≤ addr ∧ addr < 0x60200000) ∨ (0x60340000 ≤ addr ∧ addr < 0x70000000) ∨ 0x70800000 ≤ addr) →
    (s.busRead m addr).2 = (0, cRANGE) ∧ (s.busRead m addr).1.get HDR_ERR_CODE = cRANGE ∧ (s.busRead m addr).1.get HDR_ERR_OFFSET
      = addr % 0x1000 ∧ (s.busRead m addr).1.get HDR_ERR_WR = 0 ∧
      (s.busRead m addr).1.get SYS_LR_CODE = cRANGE ∧ (s.busRead m addr).1.get SYS_LR_PAGE = 0xFF ∧ (s.busRead m addr).1.get
        SYS_LR_WORD = addr % 0x1000 / 4) ∧
  (∀ (m addr data : Nat) (s : State), s.serves = true → s.sources m = true → addr % 4 = 0 →
    (addr < 0x40000000 ∨ (0x40100000 ≤ addr ∧ addr < 0x50000000) ∨ (0x50001000 ≤ addr ∧ addr < 0x60000000) ∨
      (0x60140000 ≤ addr ∧ addr < 0x60200000) ∨ (0x60340000 ≤ addr ∧ addr < 0x70000000) ∨ 0x70800000 ≤ addr) →
    (s.busWrite m addr data).2 = cRANGE ∧ (s.busWrite m addr data).1.get HDR_ERR_CODE = cRANGE ∧ (s.busWrite m addr data).1.get
      HDR_ERR_OFFSET = addr % 0x1000 ∧ (s.busWrite m addr data).1.get HDR_ERR_WR = 1 ∧
      (s.busWrite m addr data).1.get SYS_LR_CODE = cRANGE ∧ (s.busWrite m addr data).1.get SYS_LR_PAGE = 0xFF ∧ (s.busWrite m addr
        data).1.get SYS_LR_WORD = addr % 0x1000 / 4) ∧
  (∀ (m addr : Nat) (s : State), s.serves = true → s.sources m = true → addr % 4 ≠ 0 →
    (addr < 0x40000000 ∨ (0x40100000 ≤ addr ∧ addr < 0x50000000) ∨ (0x50001000 ≤ addr ∧ addr < 0x60000000) ∨
      (0x60140000 ≤ addr ∧ addr < 0x60200000) ∨ (0x60340000 ≤ addr ∧ addr < 0x70000000) ∨ 0x70800000 ≤ addr) →
    (s.busRead m addr).2 = (0xFFFFFFFF, cALIGN) ∧ (s.busRead m addr).1.get HDR_ERR_CODE = cALIGN ∧ (s.busRead m addr).1.get
      HDR_ERR_OFFSET = addr % 0x1000 ∧ (s.busRead m addr).1.get HDR_ERR_WR = 0 ∧
      (s.busRead m addr).1.get SYS_LR_CODE = cALIGN ∧ (s.busRead m addr).1.get SYS_LR_PAGE = 0xFF ∧ (s.busRead m addr).1.get
        SYS_LR_WORD = addr % 0x1000 / 4) ∧
  (∀ (m addr data : Nat) (s : State), s.serves = true → s.sources m = true → addr % 4 ≠ 0 →
    (addr < 0x40000000 ∨ (0x40100000 ≤ addr ∧ addr < 0x50000000) ∨ (0x50001000 ≤ addr ∧ addr < 0x60000000) ∨
      (0x60140000 ≤ addr ∧ addr < 0x60200000) ∨ (0x60340000 ≤ addr ∧ addr < 0x70000000) ∨ 0x70800000 ≤ addr) →
    (s.busWrite m addr data).2 = cALIGN ∧ (s.busWrite m addr data).1.get HDR_ERR_CODE = cALIGN ∧ (s.busWrite m addr data).1.get
      HDR_ERR_OFFSET = addr % 0x1000 ∧ (s.busWrite m addr data).1.get HDR_ERR_WR = 1 ∧
      (s.busWrite m addr data).1.get SYS_LR_CODE = cALIGN ∧ (s.busWrite m addr data).1.get SYS_LR_PAGE = 0xFF ∧ (s.busWrite m addr
        data).1.get SYS_LR_WORD = addr % 0x1000 / 4) ∧
  (∀ (m addr : Nat) (s : State), s.serves = true → s.sources m = true → addr % 4 = 0 → 0x40000000 ≤ addr → addr < 0x40100000 →
      pageExists ((addr - 0x40000000) / 0x1000) = false →
    (s.busRead m addr).2 = (0, cOK) ∧ (s.busRead m addr).1 =
      { s with host := { s.host with lastRead := s.host.lastRead.set m (0, cOK) } }) ∧
  (∀ (m addr data : Nat) (s : State), s.serves = true → s.sources m = true → addr % 4 = 0 → 0x40000000 ≤ addr → addr < 0x40100000
    →
      pageExists ((addr - 0x40000000) / 0x1000) = false →
    (s.busWrite m addr data).2 = cOK ∧ (s.busWrite m addr data).1 = s) ∧
  (∀ (m addr : Nat) (s : State), s.serves = true → s.sources m = true → addr % 4 ≠ 0 → 0x40000000 ≤ addr → addr < 0x40100000 →
      pageExists ((addr - 0x40000000) / 0x1000) = false →
    (s.busRead m addr).2 = (0xFFFFFFFF, cALIGN) ∧ (s.busRead m addr).1.get HDR_ERR_CODE = cALIGN ∧ (s.busRead m addr).1.get
      HDR_ERR_OFFSET = addr % 0x1000 ∧ (s.busRead m addr).1.get HDR_ERR_WR = 0 ∧
      (s.busRead m addr).1.get SYS_LR_CODE = cALIGN ∧ (s.busRead m addr).1.get SYS_LR_PAGE = 0xFE ∧ (s.busRead m addr).1.get
        SYS_LR_WORD = addr % 0x1000 / 4) ∧
  (∀ (m addr data : Nat) (s : State), s.serves = true → s.sources m = true → addr % 4 ≠ 0 → 0x40000000 ≤ addr → addr < 0x40100000
    →
      pageExists ((addr - 0x40000000) / 0x1000) = false →
    (s.busWrite m addr data).2 = cALIGN ∧ (s.busWrite m addr data).1.get HDR_ERR_CODE = cALIGN ∧ (s.busWrite m addr data).1.get
      HDR_ERR_OFFSET = addr % 0x1000 ∧ (s.busWrite m addr data).1.get HDR_ERR_WR = 1 ∧
      (s.busWrite m addr data).1.get SYS_LR_CODE = cALIGN ∧ (s.busWrite m addr data).1.get SYS_LR_PAGE = 0xFE ∧ (s.busWrite m addr
        data).1.get SYS_LR_WORD = addr % 0x1000 / 4)

/-- While accesses are served, for a master that has a source in the role, an unaligned access to a page is refused with
ALIGN_REJECT; an aligned write to an absent page is refused with ROLE_REJECT, but for CLR of its ERR_CODE, and an aligned read
of it is not refused: the outcome is never DOMAIN_OFF, DOMAIN_CLOSING, PRIV_REJECT, OWNER_REJECT or LOCKED. An aligned read of a
word of a present page that no row of the header or of the chapter names, or of a reserved page slot, returns 0 with OK, and an
aligned write there changes nothing: no error code, no counter. -/
def Obligations.AbsentAndReserved : Prop :=
  (∀ (m : Nat) (p : Nat) (off : Nat) (s : State), s.serves = true → s.sources m = true → pageExists p = true → off < 0x1000 → off
    % 4 ≠ 0 →
    (s.busRead m (regAddr p off)).2 = (0xFFFFFFFF, cALIGN)) ∧
  (∀ (m : Nat) (p : Nat) (off : Nat) (data : Nat) (s : State), s.serves = true → s.sources m = true → pageExists p = true → off <
    0x1000 → off % 4 ≠ 0 →
    (s.busWrite m (regAddr p off) data).2 = cALIGN) ∧
  (∀ (m : Nat) (p : Nat) (off : Nat) (s : State), s.serves = true → s.sources m = true → pageExists p = true → off < 0x1000 → off
    % 4 = 0 → s.present p = false →
    (s.busRead m (regAddr p off)).2.2 = cOK ∧ (off ≠ 0 → off ≠ 4 → off ≠ 0x020 → (s.busRead m (regAddr p off)).2.1 = 0)) ∧
  (∀ (m : Nat) (p : Nat) (off : Nat) (data : Nat) (s : State), s.serves = true → s.sources m = true → pageExists p = true → off <
    0x1000 → off % 4 = 0 → s.present p = false → ¬(off = 0x020 ∧ bitAt data 31 = true) →
    (s.busWrite m (regAddr p off) data).2 = cROLE ∧ (s.busWrite m (regAddr p off) data).1.get HDR_ERR_CODE p = cROLE ∧ (s.busWrite
      m (regAddr p off) data).1.get SYS_LR_CODE = cROLE) ∧
  (∀ (m : Nat) (p : Nat) (data : Nat) (s : State), s.serves = true → s.sources m = true → pageExists p = true → s.present p =
    false → bitAt data 31 = true →
    (s.busWrite m (regAddr p 0x020) data).2 = cOK) ∧
  (∀ (m : Nat) (p : Nat) (off : Nat) (s : State), s.serves = true → s.sources m = true → pageExists p = true → off < 0x1000 → off
    % 4 = 0 → s.present p = true → wordRows p off = [] →
    (s.busRead m (regAddr p off)) = ({ s with host := { s.host with lastRead := s.host.lastRead.set m (0, cOK) } }, 0, cOK)) ∧
  (∀ (m : Nat) (p : Nat) (off : Nat) (data : Nat) (s : State), s.serves = true → s.sources m = true → pageExists p = true → off <
    0x1000 → off % 4 = 0 → s.present p = true → wordRows p off = [] → isPosted (regAddr p off) = false ∨ s.host.posted = [] →
    s.busWrite m (regAddr p off) data = (s, cOK)) ∧
  (∀ (m : Nat) (p : Nat) (off : Nat) (s : State), s.serves = true → s.sources m = true → p < 256 → off < 0x1000 → off % 4 = 0 →
    pageExists p = false →
    (s.busRead m (regAddr p off)) = ({ s with host := { s.host with lastRead := s.host.lastRead.set m (0, cOK) } }, 0, cOK)) ∧
  (∀ (m : Nat) (p : Nat) (off : Nat) (data : Nat) (s : State), s.serves = true → s.sources m = true → p < 256 → off < 0x1000 → off
    % 4 = 0 → pageExists p = false →
    s.busWrite m (regAddr p off) data = (s, cOK))

/-- Every command that is one write of a register is carried out by the arbiter as that write. Where a check of Table REG-4
refuses it, the code, the master and the offset are recorded in ERR_CODE of the page and the code in LAST_REFUSAL,
ACCESS_REFUSED is logged if CODE was 0, and no configuration field of the word, no staged value and no memory changes; one to a
page that the role has not is refused with ROLE_REJECT, and one within a Granary operation with NVM_BUSY, which for WDT.ANSWER
is a bad service too; in SAFE it is recorded in ERR_CODE of SYS alone; to a reserved slot, from a master without a source, or
where nothing is served, it changes nothing. A refusal writes ERR_CODE of its page and LAST_REFUSAL, increments REFUSAL_COUNT
without wrapping, and logs ACCESS_REFUSED only when CODE was 0. An event raised while PD_CORE is on is written to slot TOTAL mod
256 with its second, TOTAL advances, the interrupt cause of the log is set, and overwriting an unread entry is counted; while
PD_CORE is off the Yard buffer holds eight events and drops the ninth. -/
def Obligations.RefusalsAndLog : Prop :=
  (∀ (m : Nat) (wr : Bool) (p : Nat) (lr : Nat) (off : Nat) (code : Nat) (s : State), p < 256 →
    (s.refuse m wr p lr off code).get HDR_ERR_CODE p = code % 2 ^ HDR_ERR_CODE.wid ∧
    (s.refuse m wr p lr off code).get HDR_ERR_MASTER p = m % 2 ^ HDR_ERR_MASTER.wid ∧
    (s.refuse m wr p lr off code).get HDR_ERR_WR p = bit wr ∧
    (s.refuse m wr p lr off code).get HDR_ERR_OFFSET p = off % 2 ^ HDR_ERR_OFFSET.wid ∧
    (s.refuse m wr p lr off code).get SYS_LR_CODE = code % 2 ^ SYS_LR_CODE.wid ∧
    (s.refuse m wr p lr off code).get SYS_LR_MASTER = m % 2 ^ SYS_LR_MASTER.wid ∧
    (s.refuse m wr p lr off code).get SYS_LR_WR = bit wr ∧
    (s.refuse m wr p lr off code).get SYS_LR_PAGE = lr % 2 ^ SYS_LR_PAGE.wid ∧
    (s.refuse m wr p lr off code).get SYS_LR_WORD = off / 4 % 2 ^ SYS_LR_WORD.wid ∧
    (s.refuse m wr p lr off code).get SYS_REFUSAL_COUNT = min (s.get SYS_REFUSAL_COUNT + 1) (2 ^ SYS_REFUSAL_COUNT.wid - 1)) ∧
  (∀ (m : Nat) (wr : Bool) (p : Nat) (lr : Nat) (off : Nat) (code : Nat) (s : State), s.coreOn = true → s.get HDR_ERR_CODE p = 0 →
    (s.refuse m wr p lr off code).lastEvent ((p * 0x100 + 0x01) % 2 ^ 16) ((code + m * 2 ^ 8 + bit wr * 2 ^ 11) % 2 ^ 16) = true)
      ∧
  (∀ (m : Nat) (wr : Bool) (p : Nat) (lr : Nat) (off : Nat) (code : Nat) (s : State), s.get HDR_ERR_CODE p ≠ 0 →
    (s.refuse m wr p lr off code).get EVT_TOTAL = s.get EVT_TOTAL ∧
    (s.refuse m wr p lr off code).log = s.log) ∧
  (∀ (code : Nat) (data : Nat) (s : State), s.coreOn = true →
    (s.event code data).get EVT_CODE 0 (s.get EVT_TOTAL % 256) = code % 2 ^ 16 ∧
    (s.event code data).get EVT_DATA 0 (s.get EVT_TOTAL % 256) = data % 2 ^ 16 ∧
    (s.event code data).get EVT_TS 0 (s.get EVT_TOTAL % 256) = s.get YARD_SECONDS % 2 ^ 32 ∧
    (s.event code data).get EVT_TOTAL = (s.get EVT_TOTAL + 1) % 2 ^ 32 ∧
    bitAt ((s.event code data).get HDR_INT_RAW 6) 0 = true ∧
    (256 ≤ (s.get EVT_TOTAL + 2 ^ 32 - s.get EVT_ACK) % 2 ^ 32 → (s.event code data).get EVT_OVF = 1 ∧ bitAt ((s.event code
      data).get HDR_INT_RAW 6) 1 = true ∧
      (s.event code data).get EVT_OVERWRITTEN = min (s.get EVT_OVERWRITTEN + 1) (2 ^ EVT_OVERWRITTEN.wid - 1)) ∧
    ((s.get EVT_TOTAL + 2 ^ 32 - s.get EVT_ACK) % 2 ^ 32 < 256 → (s.event code data).get EVT_OVF = s.get EVT_OVF ∧ (s.event code
      data).get EVT_OVERWRITTEN = s.get EVT_OVERWRITTEN) ∧
    (∀ k, k < 256 → k ≠ s.get EVT_TOTAL % 256 → (s.event code data).get EVT_CODE 0 k = s.get EVT_CODE 0 k ∧ (s.event code
      data).get EVT_DATA 0 k = s.get EVT_DATA 0 k ∧
      (s.event code data).get EVT_TS 0 k = s.get EVT_TS 0 k)) ∧
  (∀ (code : Nat) (data : Nat) (s : State), s.coreOn = false →
    (s.event code data).regs = s.regs ∧
    (s.event code data).log.yardBuf = (s.log.yardBuf ++ [Event.mk (s.get YARD_SECONDS) (code % 2 ^ 16) (data % 2 ^ 16)]).take (max
      8 s.log.yardBuf.length) ∧
    (s.event code data).log.yardDropped = s.log.yardDropped + (if s.log.yardBuf.length < 8 then 0 else 1)) ∧
  (∀ (i : Instr) (m p off data : Nat) (s : State),
    commandWrite i = some (m, p, off, data) →
    exec (i) s = .next (s.command m p off data)) ∧
  (∀ (i : Instr) (m p off data : Nat) (r : Refuse) (own : Bool) (s : State),
    commandWrite i = some (m, p, off, data) →
    s.serves = true →
    s.sources m = true →
    pageExists p = true →
    s.present p = true →
    (wordRows p off).isEmpty = false →
    strobeParts p off data = [data] →
    s.host.posted = [] →
    s.writeCheck m p off data = some (r, own) →
    r.code < 32 →
    (¬(p = 0x003 ∧ off = 0x054)) →
    ∃ t, exec (i) s = .next t ∧
      t.get HDR_ERR_CODE p = r.code ∧
      t.get HDR_ERR_MASTER p = m ∧
      t.get HDR_ERR_WR p = 1 ∧
      t.get HDR_ERR_OFFSET p = off ∧
      t.get SYS_LR_CODE = r.code % 2 ^ SYS_LR_CODE.wid ∧
      t.get SYS_LR_MASTER = m ∧
      t.staged = s.staged ∧
      (∀ e ∈ wordRows p off, e.1.acc = .rw ∨ e.1.acc = .rww ∨ e.1.acc = .rw1 → t.get e.1 (e.1.nth p) e.2 = s.get e.1 (e.1.nth p)
        e.2) ∧
      (s.coreOn = true → s.get HDR_ERR_CODE p = 0 → t.get EVT_CODE 0 (s.get EVT_TOTAL % 256) = p * 0x100 + 0x01 ∧ t.get EVT_DATA 0
        (s.get EVT_TOTAL % 256) = r.code + m * 2 ^ 8 + 2 ^ 11) ∧
      s.SameMemory t) ∧
  (∀ (i : Instr) (m p off data : Nat) (s : State),
    commandWrite i = some (m, p, off, data) →
    s.serves = true →
    s.sources m = true →
    pageExists p = true →
    s.present p = false →
    off ≠ 0x020 →
    s.host.posted = [] →
    exec (i) s = .next ((s.refusePage m true p off cROLE).noteCode m cROLE)) ∧
  (∀ (i : Instr) (m p off data : Nat) (s : State),
    commandWrite i = some (m, p, off, data) →
    s.reachable = true →
    s.safe = false →
    s.nvmBusy = true →
    s.sources m = true →
    (¬(p = 0x003 ∧ off = 0x054)) →
    exec (i) s = .next ((s.refuseAt m true (regAddr p off) ⟨cNVM, 0, false⟩).noteCode m cNVM)) ∧
  (∀ (i : Instr) (m p off data : Nat) (s : State),
    commandWrite i = some (m, p, off, data) →
    s.reachable = true →
    s.safe = true →
    exec (i) s = .next ((s.refuseSafe m true (regAddr p off)).noteCode m cROLE)) ∧
  (∀ (i : Instr) (m p off data : Nat) (s : State),
    commandWrite i = some (m, p, off, data) →
    (s.reachable = false ∨ (s.sources m = false ∧ s.safe = false) ∨ (s.serves = true ∧ s.sources m = true ∧ pageExists p = false ∧
      p < 256)) →
    exec (i) s = .next (if s.reachable then s.noteCode m cOK else s)) ∧
  (∀ (m : Master) (data : Word) (s : State),
    s.reachable = true →
    s.safe = false →
    s.nvmBusy = true →
    s.sources m.num = true →
    exec (.wdtAnswer m data) s = .next ((s.refuseAt m.num true (regAddr 0x003 0x054) ⟨cNVM, 0, false⟩).badService cNVM |>.noteCode
      m.num cNVM))

/-- A write of FORCE by a privileged master to a held semaphore logs LOCK_FORCED with the semaphore and the writer, and orphans
it with cause 7: STATE reads 2, ORPHANS increments, the interrupt cause is set and LOCK_ORPHANED is logged with the semaphore,
the cause and the owner. FORCE of a free semaphore and of an ORPHANED one completes with OK and changes nothing. An unprivileged
master's write is refused with PRIV_REJECT. -/
def Obligations.ForceSemaphore : Prop :=
  (∀ (m : Master) (n : Fin 8) (s : State),
    s.accepts m.num 0x005 (semOff n.val) 4 = true →
    s.get LOCK_STATE 0 n.val = 1 →
    s.coreOn = true →
    ∃ t, exec (.semForce m n) s = .next t ∧
      t.get LOCK_STATE 0 n.val = 2 ∧
      t.get LOCK_OWNER 0 n.val = s.get LOCK_OWNER 0 n.val ∧
      t.get LOCK_ORPHANS 0 n.val = min (s.get LOCK_ORPHANS 0 n.val + 1) (2 ^ LOCK_ORPHANS.wid - 1) ∧
      bitAt (t.get HDR_INT_RAW 0x005) n.val = true ∧
      t.get EVT_CODE 0 (s.get EVT_TOTAL % 256) = 0x0511 ∧
      t.get EVT_DATA 0 (s.get EVT_TOTAL % 256) = n.val + m.num * 2 ^ 8 ∧
      t.get EVT_CODE 0 ((s.get EVT_TOTAL + 1) % 2 ^ 32 % 256) = 0x0510 ∧
      t.get EVT_DATA 0 ((s.get EVT_TOTAL + 1) % 2 ^ 32 % 256) = (n.val + 7 * 2 ^ 4 + s.get LOCK_OWNER 0 n.val * 2 ^ 8) % 2 ^ 16 ∧
      (s.busWrite m.num (regAddr 0x005 (semOff n.val)) 4).2 = cOK ∧
      s.SameMemory t) ∧
  (∀ (m : Master) (n : Fin 8) (s : State),
    s.accepts m.num 0x005 (semOff n.val) 4 = true →
    s.get LOCK_STATE 0 n.val ≠ 1 →
    exec (.semForce m n) s = .next ((s.rewritten 0x005 (semOff n.val)).noteCode m.num cOK) ∧
    (s.busWrite m.num (regAddr 0x005 (semOff n.val)) 4).2 = cOK) ∧
  (∀ (m : Master) (n : Fin 8) (s : State),
    s.serves = true →
    s.sources m.num = true →
    s.priv m.num = true →
    s.get HDR_OWNER 0x005 = 0xFF →
    s.pd 0 = 2 →
    ∃ t, exec (.semForce m n) s = .next t ∧
      (s.busWrite m.num (regAddr 0x005 (semOff n.val)) 4).2 = cOK ∧
      s.SameMemory t) ∧
  (∀ (m : Master) (n : Fin 8) (s : State),
    s.serves = true →
    s.sources m.num = true →
    s.priv m.num = false →
    s.pd 0 = 2 →
    ∃ t, exec (.semForce m n) s = .next t ∧
      (s.busWrite m.num (regAddr 0x005 (semOff n.val)) 4).2 = cPRIV ∧
      t.get LOCK_STATE 0 n.val = s.get LOCK_STATE 0 n.val ∧
      s.SameBut t [0x000, 0x005, 0x006, 0x074] noteKeys ∧
      s.SameMemory t)

/-- An accepted INT_SET sets each INT_RAW bit written 1 and changes nothing else; CLR clears CODE, MASTER, WR and OFFSET, also
on a page absent in the role; DROP discards every staged value of its page and clears GO; a GO with nothing staged or with GO
already 1 changes nothing; a GO with values staged away from the boundary makes GO read 1; a GO with values staged at the
boundary of its page, for DISP and CSI while no stream has a frame in progress, gives every staged field of the page the value
staged for it, leaves GO 0 and nothing of the page staged, and advances COUNT by one modulo 65,536. -/
def Obligations.HeaderCommands : Prop :=
  (∀ (m : Master) (page : Fin 256) (bits : Word) (s : State),
    s.accepts m.num page.val 0x01C bits.toNat = true →
    exec (.intSet m page bits) s = .next (((s.rewritten page.val 0x01C).put HDR_INT_RAW (s.get HDR_INT_RAW page.val |||
      bits.toNat) page.val).noteCode m.num cOK)) ∧
  (∀ (m : Master) (page : Fin 256) (s : State),
    (s.accepts m.num page.val 0x020 0x80000000 = true ∨ (s.serves = true ∧ s.sources m.num = true ∧ pageExists page.val = true ∧
      s.present page.val = false)) →
    exec (.errCodeClr m page) s = .next ((((((s.rewritten page.val 0x020).put HDR_ERR_CODE 0 page.val).put HDR_ERR_MASTER 0
      page.val).put HDR_ERR_WR 0 page.val).put
        HDR_ERR_OFFSET 0 page.val).noteCode m.num cOK)) ∧
  (∀ (m : Master) (page : Fin 256) (go : Bool) (s : State),
    s.accepts m.num page.val 0x02C (2 + bit go) = true →
    ∃ t, exec (.commitDrop m page go) s = .next t ∧
      t.get HDR_GO page.val = 0 ∧
      t.anyStaged page.val = false ∧
      s.SameBut t [page.val] ([MILL_TF_STORE.key 0 0] ++ lastKeys) ∧
      s.SameMemory t) ∧
  (∀ (m : Master) (page : Fin 256) (s : State),
    s.accepts m.num page.val 0x02C 1 = true →
    s.goActs page.val = false →
    exec (.commitGo m page) s = .next ((s.rewritten page.val 0x02C).noteCode m.num cOK)) ∧
  (∀ (m : Master) (page : Fin 256) (s : State),
    s.accepts m.num page.val 0x02C 1 = true →
    s.goActs page.val = true →
    s.atBoundary page.val = false →
    page.val ≠ 0x050 →
    page.val ≠ pDISP →
    page.val ≠ pCSI →
    exec (.commitGo m page) s = .next (((s.rewritten page.val 0x02C).put HDR_GO 1 page.val).noteCode m.num cOK)) ∧
  (∀ (m : Master) (page : Fin 256) (s : State),
    s.accepts m.num page.val 0x02C 1 = true →
    s.goActs page.val = true →
    (s.atBoundary page.val = true ∨ page.val = pDISP ∨ (page.val = pCSI ∧ s.pd 6 = 2)) →
    (∀ w ∈ s.vid, w.live = false ∧ w.csi = false) →
    (s.boot.booting && s.boot.soft) = false →
    s.staged.sorted = true →
    s.regs.sorted = true →
    ∃ t, exec (.commitGo m page) s = .next t ∧
      (∀ r ∈ pageRows page.val, r.acc = .rws → ∀ i < r.count * r.ocount, t.get r (r.nth page.val) i = s.getStaged r (r.nth
        page.val) i) ∧
      t.get HDR_GO page.val = 0 ∧
      t.get HDR_COUNT page.val = (s.get HDR_COUNT page.val + 1) % 65536 ∧
      t.anyStaged page.val = false ∧
      (page.val ∉ [0x054, 0x064, 0x065, 0x070, 0x071, 0x072, 0x073, pPVP] → s.SameBut t [page.val] lastKeys) ∧
      s.SameMemory t)

/-- COMMIT_APPLY at the boundary of a page with one boundary and GO 1, outside the boot of a SOFT or LINK reset, gives every
staged field of the page the value staged for it, clears GO, advances COUNT by one modulo 65,536 and leaves nothing of the page
staged; for a stream of DISP or CSI that owes the commit and has no frame in progress, that stream no longer owes it, and its
fields of DISP take their staged values; the last stream of the page that owes it clears GO and advances COUNT. Where no commit
is pending nothing changes. The first parity error found on a word of stored configuration is kept with the word, sets FAULT of
its page and logs CFG_PARITY with the offset; found on a word of LOCK that belongs to a held semaphore it orphans it, found on
WDT while the watchdog serves it counts a missed period. A pending GO of DRIFT waits in SENTRY. -/
def Obligations.CommitAndParity : Prop :=
  (∀ (page : Fin 256) (stream : Fin 4) (s : State),
    s.going page.val = true →
    s.atBoundary page.val = true →
    pageExists page.val = true →
    (s.boot.booting && s.boot.soft) = false →
    (page.val ≠ 0x051 ∨ s.mode ≠ SENTRY) →
    s.staged.sorted = true →
    s.regs.sorted = true →
    ∃ t, exec (.commitApply page stream) s = .next t ∧
      (∀ r ∈ pageRows page.val, r.acc = .rws → ∀ i < r.count * r.ocount, t.get r (r.nth page.val) i = s.getStaged r (r.nth
        page.val) i) ∧
      t.get HDR_GO page.val = 0 ∧
      t.get HDR_COUNT page.val = (s.get HDR_COUNT page.val + 1) % 65536 ∧
      t.anyStaged page.val = false ∧
      (page.val ∉ [0x054, 0x064, 0x065, 0x070, 0x071, 0x072, 0x073, pPVP] → s.SameBut t [page.val] []) ∧
      s.SameMemory t) ∧
  (∀ (page : Fin 256) (stream : Fin 4) (s : State),
    (page.val = pDISP ∨ (page.val = pCSI ∧ s.pd 6 = 2)) →
    s.going page.val = true →
    s.owed.contains (page.val, stream.val) = true →
    s.inFrameOf page.val stream.val = false →
    (s.boot.booting && s.boot.soft) = false →
    s.staged.sorted = true →
    s.regs.sorted = true →
    ∃ t, exec (.commitApply page stream) s = .next t ∧
      t.owed.contains (page.val, stream.val) = false ∧
      (∀ r ∈ rowsDISP, page.val = pDISP → r.acc = .rws → ∀ i < r.count * r.ocount, dispBlock stream.val (r.key 0 i) = true → t.get
        r 0 i = s.getStaged r 0 i) ∧
      ((s.owed.any fun e => e.1 == page.val && e.2 != stream.val) = true → t.going page.val = true ∧ t.get HDR_COUNT page.val =
        s.get HDR_COUNT page.val) ∧
      ((s.owed.any fun e => e.1 == page.val && e.2 != stream.val) = false → t.get HDR_GO page.val = 0 ∧ t.get HDR_COUNT page.val =
        (s.get HDR_COUNT page.val + 1) % 65536 ∧ t.anyStaged page.val = false) ∧
      s.SameBut t [page.val] [] ∧
      s.SameMemory t) ∧
  (∀ (page : Fin 256) (stream : Fin 4) (s : State),
    s.going page.val = false →
    exec (.commitApply page stream) s = .next (s)) ∧
  (∀ (page : Fin 256) (word : Fin 1024) (byBlock : Bool) (s : State),
    pageExists page.val = true →
    storedWord page.val (4 * word.val) = true →
    s.parity.contains (page.val, 4 * word.val) = false →
    s.boot.inReset = false →
    page.val ≠ 0x003 →
    page.val ≠ 0x005 →
    exec (.cfgParity page word byBlock) s = .next ({ s with parity := s.parity ++ [(page.val, 4 * word.val)] }.event (page.val *
      0x100 + 0x03) (4 * word.val)) ∧
    ({ s with parity := s.parity ++ [(page.val, 4 * word.val)] }.event (page.val * 0x100 + 0x03) (4 * word.val)).blockFault
      page.val = true) ∧
  (∀ (word : Fin 1024) (byBlock : Bool) (s : State),
    0x040 ≤ 4 * word.val →
    4 * word.val < 0x0C0 →
    storedWord 0x005 (4 * word.val) = true →
    s.get LOCK_STATE 0 ((4 * word.val - 0x040) / 16) = 1 →
    s.parity.contains (0x005, 4 * word.val) = false →
    s.boot.inReset = false →
    s.coreOn = true →
    ∃ t, exec (.cfgParity 0x005 word byBlock) s = .next t ∧
      t.parity = s.parity ++ [(0x005, 4 * word.val)] ∧
      t.blockFault 0x005 = true ∧
      t.get LOCK_STATE 0 ((4 * word.val - 0x040) / 16) = 2 ∧
      t.get EVT_CODE 0 (s.get EVT_TOTAL % 256) = 0x0503 ∧
      t.get EVT_DATA 0 (s.get EVT_TOTAL % 256) = 4 * word.val ∧
      s.SameBut t [0x005, 0x006, 0x050, 0x051, 0x060, 0x061, 0x062, 0x063, 0x074, 0x080] [] ∧
      s.SameMemory t) ∧
  (∀ (word : Fin 1024) (byBlock : Bool) (s : State),
    storedWord 0x003 (4 * word.val) = true →
    s.parity.contains (0x003, 4 * word.val) = false →
    s.boot.inReset = false →
    s.wdtServing = true →
    s.get WDT_MISSED = 0 →
    ∃ t, exec (.cfgParity 0x003 word byBlock) s = .next t ∧
      t.parity = s.parity ++ [(0x003, 4 * word.val)] ∧
      t.blockFault 0x003 = true ∧
      t.get WDT_MISSED = 1 ∧
      t.get WDT_LAST_MISS = 4 ∧
      t.get WDT_MISSES = min (s.get WDT_MISSES + 1) (2 ^ WDT_MISSES.wid - 1) ∧
      s.SameBut t [0x003, 0x006, 0x074] [] ∧
      s.SameMemory t) ∧
  (∀ (page : Fin 256) (stream : Fin 4) (s : State),
    page.val = 0x051 →
    s.mode = SENTRY →
    exec (.commitApply page stream) s = .next (s))

/-- An accepted write of a word outside YARD and WDT gives each RW field of the word the value written, but for SYS.PRIV, whose
write is MASTER_PRIV_WRITE, for TUN_WDATA, of which the copy of the master takes it, and for an EN the page holds at 1, which
stays as it is, and stages the value of each RWS field; one that a check refuses leaves every field of the word and records the
code in ERR_CODE of the page and in LAST_REFUSAL; a write to YARD or WDT is appended to the posted writes and changes nothing
else, and while sixteen wait the oldest is taken first and the wait is counted; the Yard takes the oldest posted write and
carries it out, so that each RW field of its word has the value posted; a read of SECONDS answers it and keeps SUBSEC for the
next read of it; a write without an acknowledgement is abandoned with CHECK_FAIL recorded, SLUICE_ACK_LOST's interrupt cause set
and FAULT of SLUICE set. -/
def Obligations.PlainAccesses : Prop :=
  (∀ (m : Master) (p off : Nat) (data : Word) (s : State),
    s.accepts m.num p off data.toNat = true →
    isPosted (regAddr p off) = false →
    ∃ t, exec (.registerWrite m (BitVec.ofNat 32 (regAddr p off)) data) s = .next t ∧
      (∀ e ∈ wordRows p off, e.1.acc = .rw → e.1 ≠ SYS_PRIV → e.1 ≠ LINK_TUN_WDATA → (e.1 = HDR_EN → enFixed p = false) → t.get
        e.1 (e.1.nth p) e.2 = wordField e.1 data.toNat) ∧
      (∀ e ∈ wordRows p off, e.1.acc = .rws → t.getStaged e.1 (e.1.nth p) e.2 = wordField e.1 data.toNat) ∧
      (off = 0x008 → enFixed p = true → t.get HDR_EN p = s.get HDR_EN p) ∧
      (∀ n, n < 4 → p = linkPage n → off = 0x120 → s.link.length = 4 → (s.port n).wdata.length = 5 → (t.port n).wdata.getD m.num 0
        = data.toNat)) ∧
  (∀ (m : Master) (p off : Nat) (data : Word) (r : Refuse) (own : Bool) (s : State),
    s.serves = true →
    s.sources m.num = true →
    pageExists p = true →
    s.present p = true →
    off % 4 = 0 →
    off < 0x1000 →
    (wordRows p off).isEmpty = false →
    isPosted (regAddr p off) = false →
    strobeParts p off data.toNat = [data.toNat] →
    s.writeCheck m.num p off data.toNat = some (r, own) →
    r.code < 32 →
    ∃ t, exec (.registerWrite m (BitVec.ofNat 32 (regAddr p off)) data) s = .next t ∧
      t.get HDR_ERR_CODE p = r.code ∧
      t.get HDR_ERR_MASTER p = m.num ∧
      t.get HDR_ERR_WR p = 1 ∧
      t.get HDR_ERR_OFFSET p = off ∧
      t.get SYS_LR_CODE = r.code ∧
      (∀ e ∈ wordRows p off, e.1.acc = .rw → t.get e.1 (e.1.nth p) e.2 = s.get e.1 (e.1.nth p) e.2) ∧
      t.staged = s.staged ∧
      s.SameMemory t) ∧
  (∀ (m : Master) (addr data : Word) (s : State),
    s.serves = true →
    s.sources m.num = true →
    isPosted addr.toNat = true →
    s.host.posted.length < 16 →
    exec (.registerWrite m addr data) s = .next
      ({ s with host := { s.host with posted := s.host.posted ++ [(m.num, addr.toNat, data.toNat)] } })) ∧
  (∀ (m : Master) (addr data : Word) (s : State),
    s.serves = true →
    s.sources m.num = true →
    isPosted addr.toNat = true →
    s.host.posted.length = 16 →
    ∃ t, exec (.registerWrite m addr data) s = .next t ∧
      t.host.posted = s.host.posted.drop 1 ++ [(m.num, addr.toNat, data.toNat)] ∧
      t.get SLUICE_HS_STALLS = min (s.get SLUICE_HS_STALLS + 1) (2 ^ SLUICE_HS_STALLS.wid - 1)) ∧
  (∀ (m p off data : Nat) (l : List (Nat × Nat × Nat)) (s : State),
    s.host.posted = (m, regAddr p off, data) :: l →
    s.boot.inReset = false →
    s.safe = false →
    s.coreOn = true →
    m < 5 →
    { s with host := { s.host with posted := [] } }.accepts m p off data = true →
    ∃ t, exec (.yardPostedWrite) s = .next t ∧
      t.host.posted = l ∧
      (∀ e ∈ wordRows p off, e.1.acc = .rw → t.get e.1 (e.1.nth p) e.2 = wordField e.1 data) ∧
      (m = 1 → t.get SPI_LAST_CODE = cOK) ∧
      (m = 2 → t.get I2C_LAST_CODE = cOK)) ∧
  (∀ (m : Master) (s : State),
    s.serves = true →
    s.sources m.num = true →
    s.host.posted = [] →
    s.host.lastRead.length = 5 →
    ∃ t, exec (.secondsRead m) s = .next t ∧
      t.yard.secCap = some (s.get YARD_SUBSEC) ∧
      t.host.lastRead.getD m.num (0, 0) = (s.get YARD_SECONDS % 2 ^ 32, cOK) ∧
      t.staged = s.staged ∧
      s.SameBut t [] lastKeys ∧
      s.SameMemory t) ∧
  (∀ (m : Master) (addr : Word) (p off : Nat) (s : State),
    s.sources m.num = true →
    target addr.toNat = .page p off →
    ∃ t, exec (.xingHsTimeout m addr) s = .next t ∧
      t.get HDR_ERR_CODE p = cCHECK ∧
      t.get HDR_ERR_MASTER p = m.num ∧
      t.get HDR_ERR_WR p = 1 ∧
      t.get HDR_ERR_OFFSET p = off ∧
      bitAt (t.get HDR_INT_RAW 0x00C) 2 = true ∧
      t.blockFault 0x00C = true ∧
      (s.coreOn = true → t.lastEvent 0x0C13 p = true) ∧
      s.SameBut t [p, 0x000, 0x006, 0x00C, 0x074] noteKeys ∧
      s.SameMemory t)

/-- A Loft write into an open fill that no check refuses stores the word and leaves every other word of both banks; a shadow
SRAM write by a privileged master, outside the device area for others than M0 and while no store runs, stores the word and
leaves every other byte; a Loft or shadow SRAM write that a check refuses records its code and stores nothing. A Loft write that
would be carried out but has waited LOFT_DEFER is refused with RESOURCE_BUSY and stores nothing; where it would not be carried
out the wait changes nothing. -/
def Obligations.WindowWrites : Prop :=
  (∀ (m : Master) (bankB : Bool) (index : Fin 327680) (data : Word) (s : State),
    s.serves = true →
    s.sources m.num = true →
    s.loftWriteCheck m.num (bit bankB) = none →
    ∃ t, exec (.loftWordWrite m bankB index data) s = .next t ∧
      (t.bank (bit bankB)).word index.val = data.toNat ∧
      (∀ i, i ≠ index.val → (t.bank (bit bankB)).word i = (s.bank (bit bankB)).word i) ∧
      (∀ i, (t.bank (1 - bit bankB)).word i = (s.bank (1 - bit bankB)).word i) ∧
      t.gran = s.gran ∧
      t.shadow = s.shadow ∧
      s.SameBut t [] lastKeys) ∧
  (∀ (m : Master) (bankB : Bool) (index : Fin 327680) (s : State),
    s.serves = true →
    s.sources m.num = true →
    s.loftWriteCheck m.num (bit bankB) = none →
    ∃ t, exec (.loftWriteRefused m bankB index) s = .next t ∧
      t.get HDR_ERR_CODE 0x050 = cBUSY ∧
      t.get HDR_ERR_MASTER 0x050 = m.num ∧
      t.get HDR_ERR_WR 0x050 = 1 ∧
      t.lastEvent 0x5016 m.num = true ∧
      s.SameMemory t ∧
      s.SameBut t [0x000, 0x050, 0x006, 0x074] noteKeys) ∧
  (∀ (m : Master) (word : Fin 1024) (data : Word) (s : State),
    s.serves = true →
    s.sources m.num = true →
    s.sramCheck m.num (4 * word.val) = none →
    ∃ t, exec (.shadowSramWrite m word data) s = .next t ∧
      (∀ i, i < 4 → t.shadow.sram.read (4 * word.val + i) 0 = BitVec.ofNat 8 (data.toNat / 256 ^ i)) ∧
      (∀ a, (a < 4 * word.val ∨ 4 * word.val + 4 ≤ a) → t.shadow.sram.read a 0 = s.shadow.sram.read a 0) ∧
      t.gran = s.gran ∧
      t.loft = s.loft ∧
      s.SameBut t [] lastKeys) ∧
  (∀ (m : Master) (bankB : Bool) (index : Fin 327680) (data : Word) (r : Refuse) (s : State),
    s.serves = true →
    s.sources m.num = true →
    s.loftWriteCheck m.num (bit bankB) = some r →
    r.code < 32 →
    ∃ t, exec (.loftWordWrite m bankB index data) s = .next t ∧
      t.get HDR_ERR_CODE 0x050 = r.code ∧
      t.get HDR_ERR_MASTER 0x050 = m.num ∧
      t.get HDR_ERR_WR 0x050 = 1 ∧
      t.loft = s.loft ∧
      s.SameMemory t) ∧
  (∀ (m : Master) (bankB : Bool) (index : Fin 327680) (s : State),
    (s.reachable = false ∨ s.sources m.num = false ∨ s.safe = true ∨ s.nvmBusy = true ∨ s.loftWriteCheck m.num (bit bankB) ≠ none)
      →
    exec (.loftWriteRefused m bankB index) s = .next (s)) ∧
  (∀ (m : Master) (word : Fin 1024) (data : Word) (r : Refuse) (s : State),
    s.serves = true →
    s.sources m.num = true →
    s.sramCheck m.num (4 * word.val) = some r →
    r.code < 32 →
    ∃ t, exec (.shadowSramWrite m word data) s = .next t ∧
      t.get HDR_ERR_CODE 0x081 = r.code ∧
      t.get HDR_ERR_MASTER 0x081 = m.num ∧
      t.get HDR_ERR_WR 0x081 = 1 ∧
      t.shadow = s.shadow ∧
      s.SameMemory t)

/-- A write of SESSION advances the epoch of the writer, from 0xFF to 0x01, and no other, and orphans exactly the semaphores
that the writer holds; a change of SYS.PRIV stores the bits, advances exactly the epochs of the masters whose bit changes,
orphans the semaphores that they hold, reports a supervisor that loses privilege, and returns to 0xFF the OWNER of every page
that named a master that loses privilege; a RESET_CMD with the key sets the SOFT bit of the cause, cancels a transition, notes
whether the BOOT image is to run, closes every domain but PD_CORE, and the reset follows once they have drained. -/
def Obligations.SessionsAndPrivilege : Prop :=
  (∀ (m : Master) (data : Word) (s : State),
    s.accepts m.num 0x000 0x04C data.toNat = true →
    ∃ t, exec (.sysSessionWrite m data) s = .next t ∧
      (t.epoch m.num = (if s.epoch m.num = 0xFF then 1 else s.epoch m.num + 1) % 256) ∧
      (∀ k, k < 5 → (k = m.num ∨ t.epoch k = s.epoch k)) ∧
      (∀ n, n < 8 → t.get LOCK_STATE 0 n = (if s.holds m.num n then 2 else s.get LOCK_STATE 0 n)) ∧
      s.SameBut t [0x000, 0x005, 0x050, 0x051, 0x060, 0x061, 0x062, 0x063, 0x080, 0x006, 0x074] lastKeys ∧
      s.SameMemory t) ∧
  (∀ (m : Master) (data : Word) (s : State),
    s.accepts m.num 0x000 0x048 data.toNat = true →
    ∃ t, exec (.masterPrivWrite m data) s = .next t ∧
      t.get SYS_PRIV = wordField SYS_PRIV data.toNat ∧
      (∀ i, i < 4 → t.epoch (i + 1) = (if bitAt (s.get SYS_PRIV) i = bitAt (wordField SYS_PRIV data.toNat) i then s.epoch (i + 1)
        else if s.epoch (i + 1) = 0xFF then 1 else s.epoch (i + 1) + 1) % 256) ∧
      (∀ p ∈ allPages, ∀ i ∈ List.range 4, s.get HDR_OWNER p = i + 1 → bitAt (s.get SYS_PRIV) i = true →
        bitAt (wordField SYS_PRIV data.toNat) i = false → t.get HDR_OWNER p = 0xFF) ∧
      t.epoch 0 = s.epoch 0 ∧
      (∀ n, n < 8 → s.get LOCK_STATE 0 n = 1 → (∀ i ∈ List.range 4, s.get LOCK_OWNER 0 n = i + 1 → bitAt (s.get SYS_PRIV) i ≠
        bitAt (wordField SYS_PRIV data.toNat) i → t.get LOCK_STATE 0 n = 2)) ∧
      (∀ i, i < 4 → s.get WDT_SUPERVISOR = i + 1 → bitAt (s.get SYS_PRIV) i = true → bitAt (wordField SYS_PRIV data.toNat) i =
        false → bitAt (t.get HDR_INT_RAW 0x003) 1 = true) ∧
      s.SameMemory t) ∧
  (∀ (m : Master) (data : Word) (s : State),
    s.accepts m.num 0x000 0x068 data.toNat = true →
    ∃ t, exec (.resetCmd m data) s = .next t ∧
      bitAt (t.get SYS_RESET_CAUSE) 4 = true ∧
      t.yard.trans = none ∧
      t.boot.drain = some (bitAt data.toNat 8 || s.boot.drain.getD false) ∧
      (∀ d, 1 ≤ d ∧ d < 9 → t.pd d = 0 ∨ t.pd d = 3) ∧
      (t.drained = true → t.boot.inReset = true) ∧
      s.SameMemory t)

/-- Outside a power-fail store, POR_AON leaves the device in internal reset with the mode DORMANT, no semaphore held and every
master but M1 and M2 without privilege, and keeps the Granary where no operation was under way; BOR_CORE, while PD_CORE is
powered or in L3, and PIN assert the internal reset, add their bit to RESET_CAUSE, drop the shadow SRAM and the Loft, and set
DEFAULTED on every page; a boot that has not ended within its limit counts a stall and takes the WDT reset. A power-fail store
holds POR_AON and BOR_CORE off; in L4 a falling VDD is noted for the exit; outside a boot the limit does nothing. -/
def Obligations.ResetKinds : Prop :=
  (∀ (s : State),
    s.pfStoring = false →
    s.gran.cur = none →
    ∃ t, exec (.porAon) s = .next t ∧
      t.boot.inReset = true ∧
      t.mode = DORMANT ∧
      t.get SYS_PRIV = 3 ∧
      t.get SYS_RESET_CAUSE = 1 ∧
      (∀ n, n < 8 → t.get LOCK_STATE 0 n = 0) ∧
      (∀ k, k < 9 → t.pd k = (if k = 0 then 1 else 0)) ∧
      t.gran.mem = s.gran.mem ∧
      t.staged = [] ∧
      t.pending = s.pending) ∧
  (∀ (s : State),
    s.pfStoring = false →
    (s.boot.inReset = true ∨ s.pd 0 = 1 ∨ s.pd 0 = 2 ∨ s.yard.pstate = 3) →
    ∃ t, exec (.borCoreReset) s = .next t ∧
      t.boot.inReset = true ∧
      bitAt (t.get SYS_RESET_CAUSE) 1 = true ∧
      t.shadow.sram = [] ∧
      t.loft.bankA = Image.zero ∧
      t.loft.bankB = Image.zero ∧
      (∀ p ∈ allPages, t.get HDR_DEFAULTED p = 1) ∧
      t.boot.drain = none ∧
      t.get SEQ_BOOT_DONE = 0) ∧
  (∀ (s : State),
    ∃ t, exec (.pinReset) s = .next t ∧
      t.boot.inReset = true ∧
      bitAt (t.get SYS_RESET_CAUSE) 2 = true ∧
      t.shadow.sram = [] ∧
      t.loft.bankA = Image.zero ∧
      t.loft.bankB = Image.zero ∧
      (∀ p ∈ allPages, t.get HDR_DEFAULTED p = 1) ∧
      t.boot.drain = none ∧
      t.get SEQ_BOOT_DONE = 0 ∧
      t.gran.cur = none ∧
      t.gran.jobs = []) ∧
  (∀ (s : State),
    s.boot.booting = true →
    ∃ t, exec (.bootTimeLimit) s = .next t ∧
      t.boot.inReset = true ∧
      bitAt (t.get SYS_RESET_CAUSE) 3 = true ∧
      t.boot.booting = false ∧
      t.get SEQ_STALLS = min (s.get SEQ_STALLS + 1) (2 ^ SEQ_STALLS.wid - 1)) ∧
  (∀ (i : Instr) (s : State),
    s.pfStoring = true →
    (i = .porAon ∨ i = .borCoreReset) →
    exec (i) s = .next (s)) ∧
  (∀ (s : State),
    s.pfStoring = false →
    s.boot.inReset = false →
    s.pd 0 ≠ 1 →
    s.pd 0 ≠ 2 →
    s.yard.pstate ≠ 3 →
    exec (.borCoreReset) s = .next ((if s.yard.pstate = 4 then { s with boot := { s.boot with vdd := false } } else s))) ∧
  (∀ (s : State),
    s.boot.booting = false →
    exec (.bootTimeLimit) s = .next (s))

/-- Where a boot may begin and VDDA and VDDIO are good, the release after a reset other than SOFT and LINK, or a DORMANT exit,
latches ROLE from four equal samples, clears SAFE and sets PORTS, and the boot runs; samples that differ, or 0b11, put the
device in SAFE with every power path off and no mode under way; after SOFT and LINK the latched role stays; without VDDA or
VDDIO the boot waits. Once its last step is over BOOT_DONE sets DONE, clears the stall count and the phase, and records the boot
time; a thermal cut that has waited then heads for DORMANT. Live ROLE levels are shown; the first that differ from the role set
MISMATCH and are logged once. Where no boot may begin, none is ready to end, or no role is latched, nothing changes. -/
def Obligations.BootAndStraps : Prop :=
  (∀ (r addr : Fin 4) (hostsel : Bool) (s : State),
    s.mayBoot = true →
    s.boot.inReset = true →
    strongest s.boot.asserted < kSOFT →
    s.boot.vdda = true →
    s.boot.vddio = true →
    r.val < 3 →
    ∃ t, exec (.internalResetRelease r r r r addr hostsel) s = .next t ∧
      t.role = r.val ∧
      t.safe = false ∧
      t.get SYS_PORTS = portsOf r.val ∧
      t.get I2C_OWN_ADDR = 0x48 + addr.val ∧
      t.boot.inReset = false ∧
      t.boot.booting = true ∧
      t.busy = true) ∧
  (∀ (s1 s2 s3 s4 addr : Fin 4) (hostsel : Bool) (s : State),
    s.mayBoot = true →
    s.boot.inReset = true →
    strongest s.boot.asserted < kSOFT →
    s.boot.vdda = true →
    s.boot.vddio = true →
    (s1 ≠ s2 ∨ s2 ≠ s3 ∨ s3 ≠ s4 ∨ s4.val = 3) →
    ∃ t, exec (.internalResetRelease s1 s2 s3 s4 addr hostsel) s = .next t ∧
      t.role = 3 ∧
      t.safe = true ∧
      t.boot.booting = false ∧
      t.busy = false ∧
      (∀ n, n < 4 → t.get LINK_PATH n = 0) ∧
      s.SameMemory t) ∧
  (∀ (us : Nat) (s : State),
    s.boot.booting = true →
    s.boot.waiting = none →
    s.bootReady = true →
    s.cutAtDone = none →
    ∃ t, exec (.bootDone us) s = .next t ∧
      t.done = true ∧
      t.boot.booting = false ∧
      t.get SEQ_BOOT_PHASE = 0 ∧
      t.get SEQ_STALLS = 0 ∧
      t.get SEQ_BOOT_TIME = min us 0xFFFFFF ∧
      t.yard.trans.isSome = true ∧
      s.SameMemory t) ∧
  (∀ (live : Fin 4) (s : State),
    s.boot.inReset = false →
    s.boot.waiting = none →
    s.inDormant = false →
    live.val ≠ s.role →
    s.get SYS_MISMATCH = 0 →
    exec (.roleStrapMoved live) s = .next (((s.put SYS_PIN_NOW live.val).put SYS_MISMATCH 1).event 0x0031 (live.val + s.role *
      4))) ∧
  (∀ (r addr : Fin 4) (hostsel : Bool) (s : State),
    s.mayBoot = true →
    s.boot.inReset = false →
    s.boot.vdda = true →
    s.boot.vddio = true →
    r.val < 3 →
    ∃ t, exec (.internalResetRelease r r r r addr hostsel) s = .next t ∧
      t.role = r.val ∧
      t.safe = false ∧
      t.get SYS_PORTS = portsOf r.val ∧
      t.get I2C_OWN_ADDR = 0x48 + addr.val ∧
      t.boot.booting = true ∧
      t.get SYS_DORMANT_EXIT = 1) ∧
  (∀ (s1 s2 s3 s4 addr : Fin 4) (hostsel : Bool) (s : State),
    s.mayBoot = true →
    s.boot.inReset = true →
    (strongest s.boot.asserted = kSOFT ∨ strongest s.boot.asserted = kLINK) →
    ∃ t, exec (.internalResetRelease s1 s2 s3 s4 addr hostsel) s = .next t ∧
      t.role = s.role ∧
      t.get SYS_SAFE = s.get SYS_SAFE ∧
      t.get I2C_OWN_ADDR = s.get I2C_OWN_ADDR ∧
      t.boot.inReset = false ∧
      t.boot.booting = true ∧
      t.boot.drain = none ∧
      s.SameMemory t) ∧
  (∀ (s1 s2 s3 s4 addr : Fin 4) (hostsel : Bool) (s : State),
    s.mayBoot = true →
    s.boot.inReset = true →
    strongest s.boot.asserted < kSOFT →
    (s.boot.vdda = false ∨ s.boot.vddio = false) →
    ∃ t, exec (.internalResetRelease s1 s2 s3 s4 addr hostsel) s = .next t ∧
      t.boot.waiting = some (s1.val, s2.val, s3.val, s4.val, addr.val, hostsel) ∧
      t.boot.inReset = false ∧
      t.boot.booting = true ∧
      t.role = s.role ∧
      s.SameMemory t) ∧
  (∀ (s1 s2 s3 s4 addr : Fin 4) (hostsel : Bool) (s : State),
    s.mayBoot = false →
    exec (.internalResetRelease s1 s2 s3 s4 addr hostsel) s = .next (s)) ∧
  (∀ (us : Nat) (c : Bool) (s : State),
    s.boot.booting = true →
    s.boot.waiting = none →
    s.bootReady = true →
    s.cutAtDone = some c →
    s.pd 0 = 2 →
    ∃ t, exec (.bootDone us) s = .next t ∧
      t.done = true ∧
      t.boot.booting = false ∧
      t.get SEQ_BOOT_TIME = min us 0xFFFFFF ∧
      t.get YARD_MODE_TARGET = DORMANT ∧
      t.get YARD_MODE_CAUSE = 6 ∧
      t.toDormant = true) ∧
  (∀ (us : Nat) (s : State),
    (s.boot.booting = false ∨ s.boot.waiting ≠ none ∨ s.bootReady = false) →
    exec (.bootDone us) s = .next (s)) ∧
  (∀ (live : Fin 4) (s : State),
    s.boot.inReset = false →
    s.boot.waiting = none →
    s.inDormant = false →
    (live.val = s.role ∨ s.get SYS_MISMATCH = 1) →
    exec (.roleStrapMoved live) s = .next (s.put SYS_PIN_NOW live.val)) ∧
  (∀ (live : Fin 4) (s : State),
    (s.boot.inReset = true ∨ s.boot.waiting ≠ none ∨ s.inDormant = true) →
    exec (.roleStrapMoved live) s = .next (s))

/-- A supply that falls below its threshold while the device runs sets its SUPPLY_LOST bit, is logged and closes its domains; in
reset, in SAFE, in or towards DORMANT, or where it was not good, it is only noted. A lost supply that is back is no longer held
against its domains and is logged. A supply good at power-up is recorded, and lets a boot that waits for it go on. The detected
level of VDDIO shows in PIN.SUPPLY. VBAT outside 7.0 to 40.0 V sets its flag and is logged once, and back inside clears both
flags. -/
def Obligations.Supplies : Prop :=
  (∀ (k : Fin 3) (s : State),
    s.boot.inReset = false →
    s.safe = false →
    s.inDormant = false →
    s.boot.waiting = none →
    s.yard.trans = none →
    ((if k.val = 0 then s.boot.vdda else if k.val = 1 then s.boot.vddio else s.boot.vddphy) = true) →
    ∃ t, exec (.supplyLoss k) s = .next t ∧
      bitAt (t.get PIN_SUPPLY_LOST) k.val = true ∧
      bitAt t.yard.lostSupplies k.val = true ∧
      ((if k.val = 0 then t.boot.vdda else if k.val = 1 then t.boot.vddio else t.boot.vddphy) = false) ∧
      (∀ d ∈ lossDomains k.val, t.pd d ≠ 2) ∧
      bitAt (t.get HDR_INT_RAW 0x007) 0 = true ∧
      (s.coreOn = true → t.get EVT_CODE 0 (s.get EVT_TOTAL % 256) = 0x0711 ∧ t.get EVT_DATA 0 (s.get EVT_TOTAL % 256) = 2 ^ k.val)
        ∧
      s.SameMemory t ∧
      s.SameBut t [0x000, 0x001, 0x002, 0x007, 0x010, 0x011, 0x048, 0x052, 0x060, 0x061, 0x062, 0x063, 0x064, 0x065, 0x070, 0x071,
        0x072, 0x073, 0x078, 0x079, 0x006, 0x074] []) ∧
  (∀ (k : Fin 3) (s : State),
    bitAt s.yard.lostSupplies k.val = true →
    ∃ t, exec (.supplyBack k) s = .next t ∧
      t.yard.lostSupplies = s.yard.lostSupplies - 2 ^ k.val ∧
      ((if k.val = 0 then t.boot.vdda else if k.val = 1 then t.boot.vddio else t.boot.vddphy) = true) ∧
      bitAt (t.get HDR_INT_RAW 0x007) 1 = true ∧
      (s.coreOn = true → t.get EVT_CODE 0 (s.get EVT_TOTAL % 256) = 0x0712 ∧ t.get EVT_DATA 0 (s.get EVT_TOTAL % 256) = 2 ^ k.val)
        ∧
      s.SameMemory t ∧
      s.SameBut t [0x000, 0x001, 0x002, 0x004, 0x007, 0x011, 0x070, 0x071, 0x072, 0x073, 0x078, 0x006, 0x074] []) ∧
  (∀ (k : Fin 4) (s : State),
    (k.val = 0 ∨ bitAt s.yard.lostSupplies (k.val - 1) = false) →
    s.boot.waiting = none →
    exec (.supplyGood k) s = .next
      ({ s with boot := if k.val = 0 then { s.boot with vdd := true } else if k.val = 1 then { s.boot with vdda := true }
          else if k.val = 2 then { s.boot with vddio := true } else { s.boot with vddphy := true } })) ∧
  (∀ (v33 : Bool) (s : State),
    exec (.vddioLevelDetect v33) s = .next (s.put PIN_VDDIO_3V3 (bit v33)) ∧
    (s.put PIN_VDDIO_3V3 (bit v33)).liveField 1 0x007 PIN_VDDIO_3V3 0 = bit v33) ∧
  (∀ (mv : Nat) (s : State),
    mv < 7000 →
    s.get PIN_VBAT_LOW = 0 →
    exec (.vbatStatus mv) s = .next (((s.put PIN_VBAT_LOW 1).event 0x0713 1).raise 0x007 8)) ∧
  (∀ (mv : Nat) (s : State),
    40000 < mv →
    s.get PIN_VBAT_HIGH = 0 →
    exec (.vbatStatus mv) s = .next (((s.put PIN_VBAT_HIGH 1).event 0x0713 2).raise 0x007 8)) ∧
  (∀ (s : State),
    exec (.vbatEpisodeEnd) s = .next ((s.put PIN_VBAT_LOW 0).put PIN_VBAT_HIGH 0)) ∧
  (∀ (k : Fin 3) (s : State),
    ((if k.val = 0 then s.boot.vdda else if k.val = 1 then s.boot.vddio else s.boot.vddphy) = false ∨ s.boot.inReset = true ∨
      s.safe = true ∨ s.inDormant = true ∨ s.boot.waiting ≠ none ∨ s.toDormant = true) →
    exec (.supplyLoss k) s = .next (s.setSupply k.val false)) ∧
  (∀ (k : Fin 3) (s : State),
    bitAt s.yard.lostSupplies k.val = false →
    exec (.supplyBack k) s = .next (s)) ∧
  (∀ (k : Fin 4) (s : State),
    k.val ≠ 0 →
    bitAt s.yard.lostSupplies (k.val - 1) = true →
    exec (.supplyGood k) s = .next (s)) ∧
  (∀ (k : Fin 4) (w : Nat × Nat × Nat × Nat × Nat × Bool) (s : State),
    (k.val = 1 ∨ k.val = 2) →
    bitAt s.yard.lostSupplies (k.val - 1) = false →
    s.boot.waiting = some w →
    ((if k.val = 1 then s.boot.vddio else s.boot.vdda) = true) →
    ∃ t, exec (.supplyGood k) s = .next t ∧
      t.boot.vdda = true ∧
      t.boot.vddio = true ∧
      t.boot.waiting = none ∧
      (t.safe = true ∨ t.boot.booting = s.boot.booting)) ∧
  (∀ (mv : Nat) (s : State),
    (7000 ≤ mv ∧ mv ≤ 40000 ∨ mv < 7000 ∧ s.get PIN_VBAT_LOW = 1 ∨ 40000 < mv ∧ s.get PIN_VBAT_HIGH = 1) →
    exec (.vbatStatus mv) s = .next (s))

/-- An accepted MODE_CMD for the mode in force changes no mode and records the master; for another mode it sets TARGET, BUSY and
CAUSE 0 and begins the transition; one for DORMANT that a budget forbids is refused, sets L4_BLOCKED and is logged with the
class. A write of AXES stores the policy and the output set; the policy follows at once where no array frame is in progress, the
outputs where no output frame is, and LINK not within a LINK0 frame. The last second of a host slot's hold makes the device
return to DORMANT where no budget forbids it; where one does, this is logged and the return waits; during a transition it waits;
any other hold goes on. Where it is asked for, every port domain that opens is wanted, as in every state that a run reaches. -/
def Obligations.ModeCommands : Prop :=
  (∀ (m : Master) (data : Word) (s : State),
    s.accepts m.num 0x001 0x040 data.toNat = true →
    data.toNat % 4 = s.mode →
    ∃ t, exec (.modeCmd m data) s = .next t ∧
      t.mode = s.mode ∧
      t.busy = s.busy ∧
      t.get YARD_MODE_MASTER = m.num ∧
      t.yard.service = none ∧
      s.SameBut t [0x001, 0x003] lastKeys ∧
      s.SameMemory t) ∧
  (∀ (m : Master) (data : Word) (s : State),
    s.accepts m.num 0x001 0x040 data.toNat = true →
    data.toNat % 4 ≠ s.mode →
    ∃ t, exec (.modeCmd m data) s = .next t ∧
      t.mode = s.mode ∧
      t.get YARD_MODE_TARGET = data.toNat % 4 ∧
      t.busy = true ∧
      t.get YARD_MODE_CAUSE = 0 ∧
      t.get YARD_MODE_MASTER = m.num ∧
      t.yard.trans = some ⟨data.toNat % 4, 0, false, false⟩ ∧
      s.SameBut t [0x001, 0x003] lastKeys ∧
      s.SameMemory t) ∧
  (∀ (m : Master) (data : Word) (s : State),
    s.accepts m.num 0x001 0x048 data.toNat = true →
    s.portsSettled = true →
    (∀ w ∈ s.vid, w.live = false ∧ w.csi = false) →
    s.vid.length = 4 →
    (s.port 0).sending = false →
    s.vout.raster = false →
    ∃ t, exec (.yardAxesWrite m data) s = .next t ∧
      t.get YARD_POLICY = wordField YARD_POLICY data.toNat ∧
      t.get YARD_OUTSET = wordField YARD_OUTSET data.toNat ∧
      t.get YARD_EFF_OUT = t.outTarget % 8 ∧
      s.SameMemory t ∧
      s.SameBut t [0x001, 0x002, 0x004, 0x011] lastKeys) ∧
  (∀ (v : Service) (s : State),
    s.yard.service = some v →
    v.slot ≠ 0 →
    v.holdLeft = 0 →
    s.mode = SERVICE →
    s.busy = false →
    s.yard.autoReturn = false →
    s.yard.scanTask = false →
    s.l4Limit = none →
    ∃ t, exec (.serviceHoldExpire) s = .next t ∧
      t.get YARD_MODE_TARGET = DORMANT ∧
      t.busy = true ∧
      t.get YARD_MODE_CAUSE = 4 ∧
      t.yard.autoReturn = false ∧
      s.SameMemory t ∧
      s.SameBut t [0x001] []) ∧
  (∀ (m : Master) (data : Word) (n : Nat) (r : Refuse) (s : State),
    s.serves = true →
    s.sources m.num = true →
    s.coreOn = true →
    s.writeCheck m.num 0x001 0x040 data.toNat = some (r, true) →
    s.busy = false →
    s.mode ≠ DORMANT →
    data.toNat % 4 = DORMANT →
    s.l4Limit = some n →
    (¬(s.mode = SERVICE ∧ s.gran.cur.any (fun j => j.host && !j.ops.isEmpty) = true)) →
    s.host.posted = [] →
    ∃ t, exec (.modeCmd m data) s = .next t ∧
      t.get YARD_L4_BLOCKED = 1 ∧
      t.lastEvent 0x0114 n = true ∧
      t.mode = s.mode ∧
      t.busy = false ∧
      t.get HDR_ERR_CODE 0x001 = cSTATE ∧
      s.SameBut t [0x000, 0x001, 0x006, 0x074] noteKeys ∧
      s.SameMemory t) ∧
  (∀ (m : Master) (data : Word) (s : State),
    s.accepts m.num 0x001 0x048 data.toNat = true →
    s.portsSettled = true →
    ∃ t, exec (.yardAxesWrite m data) s = .next t ∧
      t.get YARD_POLICY = wordField YARD_POLICY data.toNat ∧
      t.get YARD_OUTSET = wordField YARD_OUTSET data.toNat ∧
      t.mode = s.mode ∧
      t.get YARD_OUT_NA = t.outNa % 2 ^ YARD_OUT_NA.wid ∧
      (s.frameRuns = false → t.get YARD_EFF_POLICY = (t.policyOf t.runMode).1 % 2 ^ YARD_EFF_POLICY.wid ∧ t.get YARD_POLICY_WHY =
        (t.policyOf t.runMode).2 % 2 ^ YARD_POLICY_WHY.wid) ∧
      (s.frameRuns = true → t.get YARD_EFF_POLICY = s.get YARD_EFF_POLICY) ∧
      ((s.port 0).sending = true → bitAt (t.get YARD_EFF_OUT) 0 = bitAt (s.get YARD_EFF_OUT) 0) ∧
      s.SameMemory t ∧
      s.SameBut t [0x001, 0x002, 0x004, 0x011] lastKeys) ∧
  (∀ (v : Service) (n : Nat) (s : State),
    s.yard.service = some v →
    v.slot ≠ 0 →
    v.holdLeft = 0 →
    s.mode = SERVICE →
    s.busy = false →
    s.yard.autoReturn = false →
    s.yard.scanTask = false →
    s.l4Limit = some n →
    s.coreOn = true →
    ∃ t, exec (.serviceHoldExpire) s = .next t ∧
      t.yard.autoReturn = true ∧
      t.get YARD_L4_BLOCKED = 1 ∧
      t.lastEvent 0x0114 (n % 2 ^ 16) = true ∧
      t.mode = SERVICE ∧
      t.busy = false ∧
      t.yard.service = some v ∧
      s.SameBut t [0x001, 0x006, 0x074] [] ∧
      s.SameMemory t) ∧
  (∀ (v : Service) (s : State),
    s.yard.service = some v →
    v.slot ≠ 0 →
    v.holdLeft = 0 →
    s.mode = SERVICE →
    s.busy = true →
    s.yard.autoReturn = false →
    s.yard.scanTask = false →
    exec (.serviceHoldExpire) s = .next ({ s with yard := { s.yard with autoReturn := true } })) ∧
  (∀ (v : Service) (s : State),
    (s.yard.service = none ∨ s.yard.service = some v) →
    (s.yard.service = none ∨ v.slot = 0 ∨ v.holdLeft ≠ 0 ∨ s.mode ≠ SERVICE ∨ s.yard.autoReturn = true ∨ s.yard.scanTask = true) →
    exec (.serviceHoldExpire) s = .next (s))

/-- At its boundary, where no closure is in progress, a transition to LIVE, SENTRY or SERVICE puts its target in force, clears
BUSY, shows the cause and logs MODE_CHANGED: with no frame in progress at once, towards LIVE or SERVICE at the start of a frame,
whose SERVICE flag then shows the new mode, towards SENTRY at the end of the last row, after which no frame runs. The return
from an abandoned DORMANT entry clears BUSY and keeps the mode; a transition to DORMANT begins the entry and stays busy. Before
its boundary, during a boot, an exit or an entry, nothing changes. MODE_STUCK puts the target in force, or ends a return, or
completes a DORMANT entry with every domain off, and sets FAULT of YARD; with no transition, or in a boot, it does nothing. A
command to DORMANT in SENTRY waits for the evaluation of the frame. -/
def Obligations.ModeTransitions : Prop :=
  (∀ (x : Trans) (s : State),
    s.yard.trans = some x →
    x.entering = false →
    x.back = false →
    x.target ≠ DORMANT →
    x.target < 4 →
    x.cause < 8 →
    s.boot.booting = false →
    s.yard.exit = none →
    s.frameRuns = false →
    s.nuc.form = 0 →
    s.coreOn = true →
    ∃ t, exec (.modeTransitionDone) s = .next t ∧
      t.mode = x.target ∧
      t.get YARD_MODE_TARGET = x.target ∧
      t.busy = false ∧
      t.get YARD_MODE_CAUSE = x.cause ∧
      t.yard.trans = none ∧
      t.get EVT_CODE 0 (s.get EVT_TOTAL % 256) = 0x0110 ∧
      s.SameMemory t) ∧
  (∀ (x : Trans) (s : State),
    s.yard.trans = some x →
    x.entering = false →
    x.back = true →
    x.target ≠ DORMANT →
    s.boot.booting = false →
    s.yard.exit = none →
    s.frameRuns = false →
    s.nuc.form = 0 →
    ∃ t, exec (.modeTransitionDone) s = .next t ∧
      t.mode = s.mode ∧
      t.busy = false ∧
      t.yard.trans = none ∧
      s.SameMemory t) ∧
  (∀ (x : Trans) (s : State),
    s.yard.trans = some x →
    x.entering = false →
    x.target = DORMANT →
    s.boot.booting = false →
    s.yard.exit = none →
    s.frameRuns = false →
    s.nuc.form = 0 →
    s.transitionMay DORMANT = true →
    ∃ t, exec (.modeTransitionDone) s = .next t ∧
      t.mode = s.mode ∧
      t.yard.trans = some ⟨DORMANT, x.cause, true, false⟩ ∧
      t.get YARD_MODE_BUSY = s.get YARD_MODE_BUSY ∧
      t.get YARD_L4_BLOCKED = 0 ∧
      t.yard.service = none) ∧
  (∀ (x : Trans) (s : State),
    s.yard.trans = some x →
    x.entering = false →
    x.back = false →
    x.target ≠ DORMANT →
    x.target < 4 →
    s.boot.booting = false →
    ∃ t, exec (.modeStuck) s = .next t ∧
      t.mode = x.target ∧
      t.busy = false ∧
      t.yard.trans = none ∧
      t.yard.stuck = true ∧
      t.blockFault 0x001 = true ∧
      (s.shadow.storing = none → s.SameMemory t)) ∧
  (∀ (x : Trans) (s : State),
    s.yard.trans = some x →
    x.entering = false →
    x.back = false →
    (x.target = LIVE ∨ x.target = SERVICE) →
    x.cause < 8 →
    s.boot.booting = false →
    s.yard.exit = none →
    s.mode ≠ SENTRY →
    s.frameRuns = true →
    s.fpa.row = 0 →
    s.nuc.form = 0 →
    ∃ t, exec (.modeTransitionDone) s = .next t ∧
      t.mode = x.target ∧
      t.busy = false ∧
      t.yard.trans = none ∧
      t.yard.stuck = false ∧
      t.frameRuns = true ∧
      (bitAt t.mill.flags 6 = (if s.mill.frame then decide (x.target = SERVICE) else bitAt s.mill.flags 6)) ∧
      s.SameMemory t) ∧
  (∀ (x : Trans) (s : State),
    s.yard.trans = some x →
    x.entering = false →
    x.back = false →
    x.target = SENTRY →
    x.cause < 8 →
    s.boot.booting = false →
    s.yard.exit = none →
    s.mode ≠ SENTRY →
    s.frameRuns = true →
    s.rowsLeft = false →
    s.lastFrame.nuc.form = 0 →
    ∃ t, exec (.modeTransitionDone) s = .next t ∧
      t.mode = SENTRY ∧
      t.busy = false ∧
      t.yard.trans = none ∧
      t.fpa.inFrame = false ∧
      t.yard.stuck = false ∧
      s.SameMemory t) ∧
  (∀ (x : Trans) (s : State),
    (s.yard.trans = none ∨ s.yard.trans = some x) →
    (s.yard.trans = none ∨ x.entering = true ∨ s.boot.booting = true ∨ s.yard.exit ≠ none ∨ s.transitionMay x.target = false ∨
      ((x.target = LIVE ∨ x.target = SERVICE) ∧ s.nuc.form ≠ 0)) →
    exec (.modeTransitionDone) s = .next (s)) ∧
  (∀ (x : Trans) (s : State),
    s.yard.trans = some x →
    x.entering = false →
    x.back = true →
    x.target ≠ DORMANT →
    s.boot.booting = false →
    ∃ t, exec (.modeStuck) s = .next t ∧
      t.mode = s.mode ∧
      t.busy = false ∧
      t.yard.trans = none ∧
      t.yard.stuck = true ∧
      t.blockFault 0x001 = true ∧
      (s.shadow.storing = none → s.SameMemory t)) ∧
  (∀ (x : Trans) (s : State),
    s.yard.trans = some x →
    (x.entering = true ∨ x.target = DORMANT) →
    x.cause < 8 →
    s.boot.booting = false →
    ∃ t, exec (.modeStuck) s = .next t ∧
      t.mode = DORMANT ∧
      t.busy = false ∧
      t.yard.trans = none ∧
      t.yard.stuck = true ∧
      t.yard.pstate = 4 ∧
      (∀ d, d < 9 → t.pd d = 0) ∧
      t.get YARD_MODE_CAUSE = x.cause) ∧
  (∀ (s : State),
    (s.yard.trans = none ∨ s.boot.booting = true) →
    exec (.modeStuck) s = .next (s))

/-- A second advances SECONDS modulo 2^32 and clears SUBSEC; with no slot armed and the device not in DORMANT it also adds the
band's scan weight to SCAN_ACC, counts the power-on second, runs down a SERVICE hold and changes no register but SCAN_ACC and
DEFER_S. An accepted write of a slot's first word stores MATCH_SEC, of its second MATCH_TICK, HOLD_S and ARMED, and arming makes
the writer the holder; a write to an armed slot of another holder keeps every field and logs TIMER_REFUSED. A due slot disarms
itself, and one that is not due, or in reset or in SAFE, changes nothing; slot 0 starts a scan where the device is not in
DORMANT, slot 1 brings the device back from L1 or L2, slot 2 makes a SENTRY frame due, or counts one skipped, and is armed again
while SENTRY frames or live detection are paced, a host slot raises WC4 in L1 to L3, does no more than disarm itself in L0, and
in DORMANT starts the exit to SERVICE. -/
def Obligations.Timers : Prop :=
  (∀ (s : State),
    ∃ t, exec (.yardSecondTick) s = .next t ∧
      t.get YARD_SECONDS = (s.get YARD_SECONDS + 1) % 2 ^ 32 ∧
      t.get YARD_SUBSEC = 0 ∧
      s.SameMemory t) ∧
  (∀ (s : State),
    (∀ k ∈ List.range 8, s.on YARD_ARMED 0 k = false) →
    s.inDormant = false →
    ∃ t, exec (.yardSecondTick) s = .next t ∧
      t.get YARD_SECONDS = (s.get YARD_SECONDS + 1) % 2 ^ 32 ∧
      t.get YARD_SUBSEC = 0 ∧
      t.get GRAN_SCAN_ACC = min (s.get GRAN_SCAN_ACC + scanWeight s.band) (2 ^ GRAN_SCAN_ACC.wid - 1) ∧
      t.shadow.seconds = (s.shadow.seconds + 1) % 2 ^ 32 ∧
      (t.yard.service = (if s.mode = SERVICE ∧ s.busy = false then s.yard.service.map fun v => ⟨v.slot, v.holdLeft - 1⟩ else
        s.yard.service)) ∧
      t.yard.pstate = s.yard.pstate ∧
      t.yard.exit = s.yard.exit ∧
      s.SameBut t [] [YARD_SECONDS.key 0 0, YARD_SUBSEC.key 0 0, GRAN_SCAN_ACC.key 0 0, NUC_DEFER_S.key 0 0] ∧
      s.SameMemory t) ∧
  (∀ (m : Master) (slot : Fin 8) (data : Word) (s : State),
    s.accepts m.num 0x001 (0x114 + 8 * slot.val) data.toNat = true →
    ∃ t, exec (.timerSlotWrite m slot false data) s = .next t ∧
      t.get YARD_MATCH_SEC 0 slot.val = data.toNat ∧
      s.SameBut t [] ([YARD_MATCH_SEC.key 0 slot.val] ++ lastKeys) ∧
      s.SameMemory t) ∧
  (∀ (m : Master) (slot : Fin 8) (data : Word) (s : State),
    s.accepts m.num 0x001 (0x114 + 8 * slot.val + 4) data.toNat = true →
    ∃ t, exec (.timerSlotWrite m slot true data) s = .next t ∧
      t.get YARD_MATCH_TICK 0 slot.val = bitsOf data.toNat 0 15 ∧
      t.get YARD_HOLD_S 0 slot.val = bitsOf data.toNat 16 8 ∧
      t.get YARD_ARMED 0 slot.val = bitsOf data.toNat 31 1 ∧
      (t.get YARD_HOLDER 0 slot.val = (if bitAt data.toNat 31 then m.num else s.get YARD_HOLDER 0 slot.val)) ∧
      s.SameBut t [] ([YARD_MATCH_TICK.key 0 slot.val, YARD_HOLD_S.key 0 slot.val, YARD_ARMED.key 0 slot.val, YARD_HOLDER.key 0
        slot.val] ++ lastKeys) ∧
      s.SameMemory t) ∧
  (∀ (m : Master) (slot : Fin 8) (tickWord : Bool) (data : Word) (s : State),
    s.serves = true →
    s.sources m.num = true →
    s.coreOn = true →
    s.writeCheck m.num 0x001 (0x114 + 8 * slot.val + 4 * bit tickWord) data.toNat = some (⟨cBUSY, 0, false⟩, true) →
    ∃ t, exec (.timerSlotWrite m slot tickWord data) s = .next t ∧
      t.lastEvent 0x0118 (slot.val + m.num * 2 ^ 8) = true ∧
      t.get YARD_ARMED 0 slot.val = s.get YARD_ARMED 0 slot.val ∧
      t.get YARD_MATCH_SEC 0 slot.val = s.get YARD_MATCH_SEC 0 slot.val ∧
      t.get YARD_MATCH_TICK 0 slot.val = s.get YARD_MATCH_TICK 0 slot.val ∧
      t.get YARD_HOLDER 0 slot.val = s.get YARD_HOLDER 0 slot.val ∧
      s.SameMemory t) ∧
  (∀ (slot : Fin 8) (s : State),
    s.slotDue slot.val = true →
    s.boot.inReset = false →
    s.safe = false →
    slot.val ≠ 1 →
    (slot.val ≠ 2 ∨ s.senPaced = false) →
    ∃ t, exec (.timerSlotFire slot) s = .next t ∧
      t.get YARD_ARMED 0 slot.val = 0 ∧
      s.SameMemory t) ∧
  (∀ (s : State),
    s.slotDue 0 = true →
    s.boot.inReset = false →
    s.safe = false →
    s.inDormant = false →
    ∃ t, exec (.timerSlotFire 0) s = .next t ∧
      t.gran.scanning = true ∧
      t.get YARD_ARMED 0 0 = 0 ∧
      s.SameMemory t) ∧
  (∀ (s : State),
    s.slotDue 1 = true →
    s.boot.inReset = false →
    s.safe = false →
    s.calRuns = false →
    s.yard.exit = none →
    s.yard.entering = false →
    s.yard.pstate ≠ 0 →
    ∃ t, exec (.timerSlotFire 1) s = .next t ∧
      t.yard.exit = some ⟨s.yard.pstate, s.band, 0, none, true, s.get YARD_START_MODE⟩ ∧
      t.get YARD_ARMED 0 1 = 0 ∧
      s.SameMemory t) ∧
  (∀ (s : State),
    s.slotDue 2 = true →
    s.boot.inReset = false →
    s.safe = false →
    s.mode = SENTRY →
    s.get HDR_EN 0x054 = 1 →
    s.frameRuns = false →
    s.fpa.on = true →
    s.fpa.ovl = false →
    s.yard.exit = none →
    s.yard.pstate = 0 →
    s.yard.entering = false →
    s.wants 1 = true →
    s.pd 1 = 2 →
    s.busy = false →
    ∃ t, exec (.timerSlotFire 2) s = .next t ∧
      t.fpa.due = true ∧
      t.get SENTRY_SKIPS = s.get SENTRY_SKIPS ∧
      s.SameMemory t) ∧
  (∀ (slot : Fin 8) (s : State),
    3 ≤ slot.val →
    s.slotDue slot.val = true →
    s.boot.inReset = false →
    s.safe = false →
    s.boot.booting = false →
    s.cutHolds = false →
    s.mode ≠ DORMANT →
    s.yard.trans = none →
    s.yard.exit = none →
    s.yard.entering = false →
    1 ≤ s.yard.pstate →
    s.yard.pstate ≤ 3 →
    ∃ t, exec (.timerSlotFire slot) s = .next t ∧
      t.yard.exit = some ⟨s.yard.pstate, s.band, 16, some slot.val, true, s.get YARD_START_MODE⟩ ∧
      t.get YARD_ARMED 0 slot.val = 0 ∧
      s.SameMemory t) ∧
  (∀ (slot : Fin 8) (s : State),
    3 ≤ slot.val →
    s.slotDue slot.val = true →
    s.boot.inReset = false →
    s.safe = false →
    s.boot.booting = false →
    s.cutHolds = false →
    s.mode ≠ DORMANT →
    s.yard.trans = none →
    s.yard.exit = none →
    s.yard.entering = false →
    s.yard.pstate = 0 →
    ∃ t, exec (.timerSlotFire slot) s = .next t ∧
      t.get YARD_ARMED 0 slot.val = 0 ∧
      t.yard.exit = none ∧
      t.yard.pstate = 0 ∧
      t.mode = s.mode ∧
      s.SameMemory t) ∧
  (∀ (slot : Fin 8) (s : State),
    3 ≤ slot.val →
    s.slotDue slot.val = true →
    s.boot.inReset = false →
    s.safe = false →
    s.boot.booting = false →
    s.cutHolds = false →
    s.mode = DORMANT →
    s.yard.pstate = 4 →
    s.yard.exit = none →
    s.yard.entering = false →
    ∃ t, exec (.timerSlotFire slot) s = .next t ∧
      t.get YARD_ARMED 0 slot.val = 0 ∧
      t.yard.exit = some ⟨4, s.band, 16, some slot.val, true, s.get YARD_START_MODE⟩ ∧
      t.get YARD_MODE_TARGET = SERVICE ∧
      t.busy = true ∧
      t.get YARD_MODE_CAUSE = 3 ∧
      s.SameMemory t) ∧
  (∀ (slot : Fin 8) (s : State),
    (s.slotDue slot.val = false ∨ s.boot.inReset = true ∨ s.safe = true) →
    exec (.timerSlotFire slot) s = .next (s)) ∧
  (∀ (s : State),
    s.slotDue 2 = true →
    s.boot.inReset = false →
    s.safe = false →
    s.senPaced = true →
    ∃ t, exec (.timerSlotFire 2) s = .next t ∧
      (t.senPaced = true → t.get YARD_ARMED 0 2 = 1) ∧
      (t.pd 1 = 2 → t.senPaced = true) ∧
      (s.mode = SENTRY → s.frameRuns = true → t.get SENTRY_SKIPS = min (s.get SENTRY_SKIPS + 1) (2 ^ SENTRY_SKIPS.wid - 1)) ∧
      (s.mode = SENTRY → s.frameRuns = false → t.pd 1 = 2 → t.fpa.due = (s.fpa.on && !s.fpa.ovl)) ∧
      s.SameMemory t)

/-- With no work, the device enters the state that the choice of R121 gives, and stays in L0 where the choice gives none; an
entry under way into L1 or L2 ends, one into L3 waits for PD_CORE; elsewhere nothing changes. WAKE starts an exit of class WC0
from L1 to L3, leaving the state above where the entry into L2 or L3 was under way, abandons an entry into L1, joins an exit in
progress, starts the exit from DORMANT towards START_MODE, or joins it so that it heads there, and abandons a DORMANT entry,
which is logged; in L0 it sets nothing, a thermal cut holds it, and in reset, in SAFE and in a boot after a reset it has no
effect; a head in KEEP_ALIVE also signals. An internal return starts an exit that serves no class, where none is under way. An
exit ends once L0 can be reached: the device is in L0, shows the state left and its band, adds the classes and the slot, and
keeps the measured time; before that nothing changes. -/
def Obligations.PowerStates : Prop :=
  (∀ (deadlineUs : Nat) (s : State),
    s.safe = false →
    s.boot.inReset = false →
    s.done = true →
    s.mode ≠ DORMANT →
    s.yard.exit = none →
    s.yard.cut = false →
    s.yard.entering = false →
    s.yard.pstate = 0 →
    s.rechooseAll.choose deadlineUs ≠ 0 →
    ∃ t, exec (.powerStateEntry deadlineUs) s = .next t ∧
      t.yard.pstate = s.rechooseAll.choose deadlineUs ∧
      t.yard.entering = true ∧
      t.yard.exit = none ∧
      t.mode = s.mode ∧
      s.SameMemory t) ∧
  (∀ (deadlineUs : Nat) (s : State),
    s.safe = false →
    s.boot.inReset = false →
    s.done = true →
    s.mode ≠ DORMANT →
    s.yard.exit = none →
    s.yard.cut = false →
    s.yard.entering = false →
    s.yard.pstate = 0 →
    s.rechooseAll.choose deadlineUs = 0 →
    ∃ t, exec (.powerStateEntry deadlineUs) s = .next t ∧
      t.yard.pstate = 0 ∧
      t.yard.entering = false ∧
      t.yard.exit = none ∧
      s.SameMemory t) ∧
  (∀ (deadlineUs : Nat) (s : State),
    s.safe = false →
    s.boot.inReset = false →
    s.done = true →
    s.mode ≠ DORMANT →
    s.yard.exit = none →
    s.yard.cut = false →
    s.yard.entering = true →
    ∃ t, exec (.powerStateEntry deadlineUs) s = .next t ∧
      t.yard.pstate = s.yard.pstate ∧
      t.yard.entering = decide (s.yard.pstate = 3) ∧
      t.pd 0 = s.pd 0 ∧
      s.SameBut t [] [CLK_GRANT.key 0 0] ∧
      s.SameMemory t) ∧
  (∀ (s : State),
    s.safe = false →
    s.boot.inReset = false →
    s.boot.booting = false →
    s.cutHolds = false →
    s.mode ≠ DORMANT →
    s.yard.trans = none →
    s.yard.exit = none →
    s.yard.entering = false →
    1 ≤ s.yard.pstate →
    s.yard.pstate ≤ 3 →
    ∃ t, exec (.wakePinEdge) s = .next t ∧
      t.yard.exit = some ⟨s.yard.pstate, s.band, 1, none, true, s.get YARD_START_MODE⟩ ∧
      t.yard.entering = false ∧
      t.yard.pstate = s.yard.pstate ∧
      t.mode = s.mode ∧
      s.SameMemory t) ∧
  (∀ (s : State),
    s.safe = false →
    s.boot.inReset = false →
    s.boot.booting = false →
    s.cutHolds = false →
    s.mode ≠ DORMANT →
    s.yard.trans = none →
    s.yard.exit = none →
    s.yard.entering = true →
    2 ≤ s.yard.pstate →
    s.yard.pstate ≤ 3 →
    ∃ t, exec (.wakePinEdge) s = .next t ∧
      t.yard.exit = some ⟨s.yard.pstate - 1, s.band, 1, none, false, s.get YARD_START_MODE⟩ ∧
      t.yard.entering = false ∧
      t.yard.pstate = s.yard.pstate - 1 ∧
      t.mode = s.mode ∧
      s.SameMemory t) ∧
  (∀ (s : State),
    s.safe = false →
    s.boot.inReset = false →
    s.boot.booting = false →
    s.cutHolds = false →
    s.mode ≠ DORMANT →
    s.yard.trans = none →
    s.yard.exit = none →
    s.yard.entering = true →
    s.yard.pstate = 1 →
    ∃ t, exec (.wakePinEdge) s = .next t ∧
      t.yard.exit = none ∧
      t.yard.entering = false ∧
      t.yard.pstate = 0 ∧
      s.SameMemory t) ∧
  (∀ (e : Exit) (s : State),
    s.safe = false →
    s.boot.inReset = false →
    s.boot.booting = false →
    s.cutHolds = false →
    s.mode ≠ DORMANT →
    s.yard.trans = none →
    s.yard.exit = some e →
    e.left ≠ 4 →
    bitAt e.classes 0 = false →
    ∃ t, exec (.wakePinEdge) s = .next t ∧
      t.yard.exit = some { e with classes := e.classes + 1 } ∧
      t.yard.pstate = s.yard.pstate ∧
      t.yard.entering = s.yard.entering ∧
      s.SameMemory t) ∧
  (∀ (s : State),
    s.safe = false →
    s.boot.inReset = false →
    s.boot.booting = false →
    s.cutHolds = false →
    s.mode = DORMANT →
    s.yard.pstate = 4 →
    s.yard.entering = false →
    s.yard.exit = none →
    ∃ t, exec (.wakePinEdge) s = .next t ∧
      t.yard.exit = some ⟨4, s.band, 1, none, true, s.get YARD_START_MODE⟩ ∧
      t.get YARD_MODE_TARGET = s.get YARD_START_MODE % 4 ∧
      t.busy = true ∧
      t.get YARD_MODE_CAUSE = 2 ∧
      s.SameMemory t) ∧
  (∀ (s : State),
    s.yard.exit = none →
    s.yard.entering = false →
    s.yard.pstate ≠ 0 →
    ∃ t, exec (.internalReturn) s = .next t ∧
      t.yard.exit = some ⟨s.yard.pstate, s.band, 0, none, true, s.get YARD_START_MODE⟩ ∧
      t.yard.entering = false ∧
      t.yard.pstate = s.yard.pstate ∧
      t.mode = s.mode ∧
      s.SameMemory t) ∧
  (∀ (us : Nat) (e : Exit) (s : State),
    s.yard.exit = some e →
    s.l0Ready e = true →
    1 ≤ e.left →
    e.left ≤ 4 →
    e.band ≤ 4 →
    e.classes < 32 →
    s.host.i2cBuf = [] →
    (s.port 0).held = [] →
    ∃ t, exec (.exitComplete us) s = .next t ∧
      t.yard.exit = none ∧
      t.yard.pstate = 0 ∧
      t.yard.entering = false ∧
      t.get YARD_LAST_STATE = e.left ∧
      t.get YARD_LAST_BAND = e.band ∧
      t.get YARD_WAKE_CAUSE = (s.get YARD_WAKE_CAUSE ||| e.classes) % 2 ^ YARD_WAKE_CAUSE.wid ∧
      (e.measured = true → t.get YARD_EXIT_LAST = min us 0xFFFFFF) ∧
      (∀ k, e.classes ≠ 0 → e.slot = some k → t.get YARD_SLOT = k % 2 ^ YARD_SLOT.wid) ∧
      s.SameMemory t) ∧
  (∀ (us : Nat) (e : Exit) (s : State),
    s.yard.exit = some e →
    s.l0Ready e = false →
    (s.port 0).held = [] →
    ∃ t, exec (.exitComplete us) s = .next t ∧
      t.yard.exit = some e ∧
      t.yard.pstate = s.yard.pstate ∧
      t.get YARD_WAKE_CAUSE = s.get YARD_WAKE_CAUSE ∧
      t.get YARD_LAST_STATE = s.get YARD_LAST_STATE ∧
      s.SameMemory t) ∧
  (∀ (deadlineUs : Nat) (s : State),
    (s.safe = true ∨ s.boot.inReset = true ∨ s.done = false ∨ s.mode = DORMANT ∨ s.yard.exit ≠ none ∨ s.yard.cut = true ∨
      (s.yard.entering = false ∧ s.yard.pstate ≠ 0)) →
    exec (.powerStateEntry deadlineUs) s = .next (s)) ∧
  (∀ (s : State),
    s.safe = false →
    s.boot.inReset = false →
    s.boot.booting = false →
    s.cutHolds = false →
    s.mode ≠ DORMANT →
    s.yard.trans = none →
    s.yard.exit = none →
    s.yard.entering = false →
    s.yard.pstate = 0 →
    ∃ t, exec (.wakePinEdge) s = .next t ∧
      t.yard.exit = none ∧
      t.yard.pstate = 0 ∧
      t.yard.trans = none ∧
      t.yard.entering = false ∧
      t.mode = s.mode ∧
      t.busy = s.busy ∧
      s.SameMemory t) ∧
  (∀ (x : Trans) (s : State),
    s.safe = false →
    s.boot.inReset = false →
    s.boot.booting = false →
    s.cutHolds = false →
    s.yard.exit = none →
    (¬(s.mode = DORMANT ∧ s.yard.pstate = 4)) →
    s.yard.trans = some x →
    x.target = DORMANT →
    x.entering = true →
    (s.pd 0 = 2 ∨ s.pd 0 = 3) →
    s.mode ≠ DORMANT →
    ∃ t, exec (.wakePinEdge) s = .next t ∧
      t.yard.trans = some ⟨s.mode, x.cause, false, true⟩ ∧
      t.pd 0 = 2 ∧
      t.get YARD_MODE_TARGET = s.mode % 2 ^ YARD_MODE_TARGET.wid ∧
      t.busy = s.busy ∧
      t.mode = s.mode ∧
      (s.coreOn = true → t.get EVT_CODE 0 (s.get EVT_TOTAL % 256) = 0x0111 ∧ t.get EVT_DATA 0 (s.get EVT_TOTAL % 256) = 0) ∧
      s.SameMemory t) ∧
  (∀ (e : Exit) (s : State),
    s.safe = false →
    s.boot.inReset = false →
    s.cutHolds = false →
    s.yard.exit = some e →
    e.left = 4 →
    bitAt e.classes 0 = false →
    ∃ t, exec (.wakePinEdge) s = .next t ∧
      t.yard.exit = some { e with classes := e.classes + 1 } ∧
      t.get YARD_MODE_TARGET = e.startMode % 4 ∧
      t.get YARD_MODE_CAUSE = 2 ∧
      t.busy = true ∧
      t.mode = s.mode ∧
      s.SameMemory t) ∧
  (∀ (s : State),
    s.safe = false →
    s.boot.inReset = false →
    s.cutHolds = true →
    s.yard.exit = none →
    s.headYard = false →
    exec (.wakePinEdge) s = .next
      ({ s.put YARD_WAKE_CAUSE (s.get YARD_WAKE_CAUSE ||| 1) with yard := { s.yard with heldWakes := s.yard.heldWakes ||| 1 } }))
      ∧
  (∀ (s : State),
    ((s.safe = true ∨ s.boot.inReset = true) ∨ (s.boot.booting = true ∧ s.cutHolds = false ∧ s.yard.exit = none)) →
    (s.yard.exit = none ∨ s.headYard = false) →
    s.get LINK_STATE 0 ≠ 9 →
    exec (.wakePinEdge) s = .next (s)) ∧
  (∀ (s : State),
    s.headYard = true →
    s.get LINK_STATE 0 = 9 →
    s.link.length = 4 →
    ∃ t, exec (.wakePinEdge) s = .next t ∧
      (t.port 0).signature = true ∧
      s.SameMemory t) ∧
  (∀ (s : State),
    (s.yard.exit ≠ none ∨ (s.yard.entering = false ∧ s.yard.pstate = 0)) →
    exec (.internalReturn) s = .next (s.domainsSync)) ∧
  (∀ (us : Nat) (s : State),
    s.yard.exit = none →
    (s.port 0).held = [] →
    ∃ t, exec (.exitComplete us) s = .next t ∧
      t.yard = s.yard ∧
      t.mode = s.mode ∧
      s.SameMemory t)

/-- An accepted write stores a budget and its enable and re-runs the choice of the allowed states, stores KEEP and drops the
grants of clocks no longer requested, stores LEARN_EN and empties every exit cell where its bit is 1, or clears exactly the
selected DRAIN_DROP counters. A requested clock whose source is granted is granted, another one is not; HFRC in an exit from L3
also lets PD_CORE open; every grant without a request is dropped. The loss of the crystal while it is selected sets XTAL_FAIL
and logs it; without the crystal it does nothing. -/
def Obligations.YardRegisters : Prop :=
  (∀ (m : Master) (wc : Fin 5) (data : Word) (s : State),
    s.accepts m.num 0x001 (0x068 + 4 * wc.val) data.toNat = true →
    ∃ t, exec (.budgetWrite m wc data) s = .next t ∧
      t.get YARD_BUDGET 0 wc.val = wordField YARD_BUDGET data.toNat ∧
      t.get YARD_BUDGET_EN 0 wc.val = wordField YARD_BUDGET_EN data.toNat ∧
      t.get YARD_UNMEETABLE = bit t.unmeetable.isSome ∧
      t.get YARD_ALLOWED = t.allowed.1 % 2 ^ YARD_ALLOWED.wid ∧
      t.get YARD_LIMIT_WC = t.allowed.2 % 2 ^ YARD_LIMIT_WC.wid ∧
      s.SameMemory t) ∧
  (∀ (m : Master) (data : Word) (s : State),
    s.accepts m.num 0x002 0x048 data.toNat = true →
    s.yard.autoReturn = false →
    ∃ t, exec (.clkKeepWrite m data) s = .next t ∧
      t.get CLK_KEEP = wordField CLK_KEEP data.toNat ∧
      t.get CLK_GRANT = s.get CLK_GRANT &&& t.clockReq ∧
      s.SameBut t [0x006, 0x074] ([CLK_KEEP.key 0 0, CLK_GRANT.key 0 0, YARD_ALLOWED.key 0 0, YARD_LIMIT_WC.key 0 0,
        YARD_UNMEETABLE.key 0 0, YARD_L4_BLOCKED.key 0 0] ++ lastKeys) ∧
      s.SameMemory t) ∧
  (∀ (m : Master) (data : Word) (s : State),
    s.accepts m.num 0x001 0x088 data.toNat = true →
    bitAt data.toNat 0 = true →
    ∃ t, exec (.reseed m data) s = .next t ∧
      t.yard.cells = List.replicate 20 [] ∧
      t.get YARD_LEARN_EN = wordField YARD_LEARN_EN data.toNat ∧
      (∀ i, i < 20 → t.get YARD_SAMPLES 0 i = 0) ∧
      t.yard.seeds = s.yard.seeds ∧
      s.SameMemory t) ∧
  (∀ (m : Master) (data : Word) (s : State),
    s.accepts m.num 0x001 0x110 data.toNat = true →
    ∃ t, exec (.drainClr m data) s = .next t ∧
      (∀ d, d < 9 → t.get YARD_DRAIN_DROP 0 d = if bitAt data.toNat d then 0 else s.get YARD_DRAIN_DROP 0 d) ∧
      s.SameBut t [] (((List.range 9).map (YARD_DRAIN_DROP.key 0)) ++ lastKeys) ∧
      s.SameMemory t) ∧
  (∀ (clock : Fin 9) (s : State),
    bitAt s.clockReq clock.val = true →
    (clock.val = 1 → s.granted 0 = true) →
    (clock.val = 2 → s.granted 1 = true) →
    s.pd 0 ≠ 0 →
    ∃ t, exec (.clockGrant clock) s = .next t ∧
      t.get CLK_GRANT = (s.get CLK_GRANT ||| 2 ^ clock.val) &&& t.clockReq ∧
      (bitAt t.clockReq clock.val = true → t.granted clock.val = true) ∧
      t.yard.pstate = s.yard.pstate ∧
      t.yard.exit = s.yard.exit ∧
      s.SameMemory t) ∧
  (∀ (e : Exit) (s : State),
    s.pd 0 = 0 →
    s.yard.pstate = 3 →
    s.yard.exit = some e →
    s.yard.entering = false →
    s.boot.inReset = false →
    ∃ t, exec (.clockGrant 0) s = .next t ∧
      t.pd 0 = 1 ∧
      t.granted 0 = true ∧
      t.yard.exit = some e ∧
      s.SameMemory t) ∧
  (∀ (s : State),
    s.get YARD_SRC ≠ 0 →
    s.yard.xtal = true →
    exec (.yclkXtalFail) s = .next ({ s.put YARD_XTAL_FAIL 1 with yard := { s.yard with xtal := false } }.event 0x0117 0)) ∧
  (∀ (s : State),
    (s.get YARD_SRC = 0 ∨ s.yard.xtal = false) →
    exec (.yclkXtalFail) s = .next (s)) ∧
  (∀ (clock : Fin 9) (s : State),
    (bitAt s.clockReq clock.val = false ∨ (clock.val = 1 ∧ s.granted 0 = false) ∨ (clock.val = 2 ∧ s.granted 1 = false)) →
    (¬(clock.val = 0 ∧ s.granted 0 = true ∧ s.pd 0 = 0 ∧ s.yard.pstate = 3)) →
    exec (.clockGrant clock) s = .next (s.domainsSync) ∧
    (bitAt (s.domainsSync.get CLK_GRANT) clock.val = true → bitAt (s.get CLK_GRANT) clock.val = true)) ∧
  (∀ (m : Master) (data : Word) (s : State),
    s.accepts m.num 0x001 0x088 data.toNat = true →
    bitAt data.toNat 0 = false →
    ∃ t, exec (.reseed m data) s = .next t ∧
      t.yard = s.yard ∧
      t.get YARD_LEARN_EN = wordField YARD_LEARN_EN data.toNat ∧
      (∀ i, i < 20 → t.get YARD_SAMPLES 0 i = s.get YARD_SAMPLES 0 i) ∧
      s.SameMemory t)

/-- At DRAIN_LIMIT what a closing domain still holds is dropped and counted once in its DRAIN_DROP. A closing domain that has
drained is OFF, PD_PIX not before its bias has ramped down, and the last one to drain for a SOFT or LINK reset lets that reset
assert; PD_CORE only at the end of a DORMANT entry, which puts DORMANT in force in L4, or of an entry into L3, which ends. A
supplied opening domain whose clock is granted and that reports power good is ON, with the pending commits of its pages taken
(in SENTRY not that of DRIFT), and PD_CORE in an exit from L3; one that does not is OFF with its PD_FAULT bit set and the event
logged. PD_FAULT bits clear where written 1. A domain in no such state is left as it is. -/
def Obligations.PowerDomains : Prop :=
  (∀ (d : Fin 9) (inFlight : Nat) (s : State),
    s.pd d.val = 3 →
    bitAt s.yard.drainLogged d.val = false →
    0 < inFlight →
    ∃ t, exec (.drainLimitExpire d inFlight) s = .next t ∧
      t.get YARD_DRAIN_DROP 0 d.val = min (s.get YARD_DRAIN_DROP 0 d.val + ((s.dropFlight d.val).2 + inFlight)) (2 ^
        YARD_DRAIN_DROP.wid - 1) ∧
      t.yard.drainLogged = s.yard.drainLogged + 2 ^ d.val ∧
      t.pd d.val = 3 ∧
      s.SameMemory t) ∧
  (∀ (d : Fin 9) (inFlight : Nat) (s : State),
    s.pd d.val = 3 →
    bitAt s.yard.drainLogged d.val = true →
    ∃ t, exec (.drainLimitExpire d inFlight) s = .next t ∧
      t.get YARD_DRAIN_DROP 0 d.val = s.get YARD_DRAIN_DROP 0 d.val ∧
      t.yard.drainLogged = s.yard.drainLogged ∧
      s.SameMemory t) ∧
  (∀ (d : Fin 9) (inFlight : Nat) (s : State),
    s.pd d.val ≠ 3 →
    exec (.drainLimitExpire d inFlight) s = .next (s)) ∧
  (∀ (d : Fin 9) (s : State),
    d.val ≠ 0 →
    s.pd d.val = 3 →
    s.boot.drain = none →
    (d.val ≠ 1 ∨ (s.fpa.on = false ∧ s.fpa.ramp = 0)) →
    ∃ t, exec (.domainOff d) s = .next t ∧
      (t.wants d.val = false → t.pd d.val = 0) ∧
      t.pd d.val ≤ 1 ∧
      (s.toDormant = false → t.mode = s.mode) ∧
      s.SameMemory t) ∧
  (∀ (x : Trans) (s : State),
    s.yard.trans = some x →
    x.entering = true →
    x.cause < 8 →
    s.pd 0 = 3 →
    s.boot.drain = none →
    ∃ t, exec (.domainOff 0) s = .next t ∧
      t.mode = DORMANT ∧
      t.busy = false ∧
      t.pd 0 = 0 ∧
      t.yard.pstate = 4 ∧
      t.yard.trans = none ∧
      t.get YARD_MODE_CAUSE = x.cause ∧
      t.gran.mem = s.gran.mem) ∧
  (∀ (s : State),
    s.pd 0 = 3 →
    s.yard.trans = none →
    s.yard.entering = true →
    s.yard.pstate = 3 →
    s.yard.exit = none →
    s.boot.drain = none →
    ∃ t, exec (.domainOff 0) s = .next t ∧
      t.pd 0 = 0 ∧
      t.yard.entering = false ∧
      t.yard.pstate = 3 ∧
      t.yard.exit = none ∧
      t.mode = s.mode ∧
      t.yard.held.length = 25 ∧
      s.SameMemory t) ∧
  (∀ (d : Fin 9) (s : State),
    s.pd d.val ≠ 3 →
    s.boot.drain = none →
    exec (.domainOff d) s = .next (s)) ∧
  (∀ (d : Fin 9) (s : State),
    d.val ≠ 0 →
    s.pd d.val = 1 →
    s.supplied d.val = true →
    s.clocked d.val = true →
    (s.boot.booting && s.boot.soft) = false →
    ∃ t, exec (.domainPowerGood d) s = .next t ∧
      t.pd d.val = 2 ∧
      (∀ p ∈ domainPages d.val, p ≠ pDISP → p ≠ 0x051 ∨ s.mode ≠ SENTRY → t.going p = false) ∧
      t.mode = s.mode ∧
      s.SameMemory t) ∧
  (∀ (e : Exit) (s : State),
    s.pd 0 = 1 →
    s.supplied 0 = true →
    s.clocked 0 = true →
    s.yard.pstate = 3 →
    s.yard.exit = some e →
    s.toDormant = false →
    s.yard.entering = false →
    ∃ t, exec (.domainPowerGood 0) s = .next t ∧
      t.pd 0 = 2 ∧
      t.yard.exit = some e ∧
      t.yard.pstate = 3 ∧
      s.SameMemory t) ∧
  (∀ (d : Fin 9) (s : State),
    (s.pd d.val ≠ 1 ∨ s.supplied d.val = false ∨ s.clocked d.val = false) →
    exec (.domainPowerGood d) s = .next (s)) ∧
  (∀ (d : Fin 9) (s : State),
    d.val ≠ 0 →
    s.pd d.val = 1 →
    s.supplied d.val = true →
    s.coreOn = true →
    ∃ t, exec (.domainFault d) s = .next t ∧
      t.pd d.val = 0 ∧
      (if d.val = 8 then t.get YARD_PD_FAULT8 = 1 else bitAt (t.get YARD_PD_FAULT) d.val = true) ∧
      t.lastEvent 0x011A d.val = true ∧
      s.SameMemory t) ∧
  (∀ (e : Exit) (s : State),
    s.boot.inReset = false →
    s.boot.booting = false →
    s.boot.vdd = true →
    s.yard.exit = some e →
    s.yard.pstate = 3 →
    s.pd 0 = 1 →
    ∃ t, exec (.domainFault 0) s = .next t ∧
      t.pd 0 = 0 ∧
      t.yard.exit = none ∧
      bitAt (t.get YARD_PD_FAULT) 0 = true ∧
      t.yard.pstate = 3 ∧
      s.SameMemory t) ∧
  (∀ (d : Fin 9) (s : State),
    d.val ≠ 0 →
    (s.pd d.val ≠ 1 ∨ s.supplied d.val = false) →
    exec (.domainFault d) s = .next (s)) ∧
  (∀ (m : Master) (word8 : Bool) (data : Word) (s : State),
    (s.accepts m.num 0x001 (if word8 then 0x0E8 else 0x0E4) data.toNat = true) →
    ∃ t, exec (.pdFaultClr m word8 data) s = .next t ∧
      (if word8 then t.get YARD_PD_FAULT8 = (s.get YARD_PD_FAULT8 ^^^ (s.get YARD_PD_FAULT8 &&& wordField YARD_PD_FAULT8
        data.toNat)) % 2
        else t.get YARD_PD_FAULT = (s.get YARD_PD_FAULT ^^^ (s.get YARD_PD_FAULT &&& wordField YARD_PD_FAULT data.toNat)) % 256) ∧
      s.SameMemory t) ∧
  (∀ (d : Fin 9) (s : State),
    s.pd d.val = 3 →
    bitAt s.yard.drainLogged d.val = false →
    (s.dropFlight d.val).2 = 0 →
    exec (.drainLimitExpire d 0) s = .next ((s.dropFlight d.val).1)) ∧
  (∀ (d : Fin 9) (s : State),
    s.boot.drain ≠ none →
    s.boot.inReset = false →
    d.val ≠ 0 →
    s.pd d.val = 3 →
    (d.val ≠ 1 ∨ (s.fpa.on = false ∧ s.fpa.ramp = 0)) →
    (∀ k ∈ List.range 8, k + 1 ≠ d.val → s.pd (k + 1) = 0) →
    ∃ t, exec (.domainOff d) s = .next t ∧
      t.boot.inReset = true ∧
      t.pd 0 = 1 ∧
      (∀ k, 1 ≤ k ∧ k < 9 → t.pd k = 0)) ∧
  (∀ (d : Fin 9) (s : State),
    d.val = 1 →
    s.pd d.val = 3 →
    (s.fpa.on = true ∨ s.fpa.ramp ≠ 0) →
    s.boot.drain = none →
    exec (.domainOff d) s = .next (s))

/-- Setting FPA.CTRL.EN with BIAS enabled, no overload and the array domain on begins the bias ramp, or starts the timing at
once where RAMP_MS is 0; without BIAS enabled nothing starts. Clearing it stops the timing at the end of the frame in progress,
at once where none is, and turns a ramp up into a ramp down. The end of a ramp up starts the timing with VDET_NOW at the idle
value of the band set in force, that of a ramp down ends the ramp, and with it the closing of the array domain. An overload of
the array domain, while it is on or closing, is latched, shown, logged and stops the timing, with VDET_NOW 0; where the domain
is off or opening, or no output is over its limit, it changes nothing of the bias. FAULT_CLR releases an overload and restarts
learning and the bias ramp; without one it changes nothing of the bias. -/
def Obligations.ArrayTimingEnable : Prop :=
  (∀ (m : Master) (s : State),
    s.accepts m.num 0x010 0x008 1 = true →
    s.get HDR_EN 0x010 = 0 →
    s.get HDR_EN 0x011 = 1 →
    s.fpa.ovl = false →
    s.pd 1 = 2 →
    s.fpa.on = false →
    ∃ t, exec (.fpaCtrlEn m true) s = .next t ∧
      t.get HDR_EN 0x010 = 1 ∧
      (if s.get BIAS_RAMP_MS = 0 then t.fpa.on = true ∧ t.fpa.ramp = 0 ∧ t.fpa.row = 0 ∧ t.get BIAS_VDET_NOW = s.vdetIdle else
        t.fpa.on = false ∧ t.fpa.ramp = 1) ∧
      s.SameMemory t) ∧
  (∀ (m : Master) (s : State),
    s.accepts m.num 0x010 0x008 1 = true →
    s.get HDR_EN 0x010 = 0 →
    s.get HDR_EN 0x011 = 0 →
    s.fpa.on = false →
    s.fpa.ramp = 0 →
    ∃ t, exec (.fpaCtrlEn m true) s = .next t ∧
      t.get HDR_EN 0x010 = 1 ∧
      t.fpa.on = false ∧
      t.fpa.ramp = 0 ∧
      s.SameMemory t) ∧
  (∀ (m : Master) (s : State),
    s.accepts m.num 0x010 0x008 0 = true →
    s.get HDR_EN 0x010 = 1 →
    s.fpa.on = true →
    ∃ t, exec (.fpaCtrlEn m false) s = .next t ∧
      t.get HDR_EN 0x010 = 0 ∧
      (if s.frameRuns then t.fpa.on = true ∧ t.fpa.stop = true ∧ t.get BIAS_VDET_NOW = s.get BIAS_VDET_NOW else t.fpa.on = false ∧
        t.get BIAS_VDET_NOW = 0) ∧
      s.SameMemory t) ∧
  (∀ (m : Master) (s : State),
    s.accepts m.num 0x010 0x008 0 = true →
    s.get HDR_EN 0x010 = 1 →
    s.fpa.on = false →
    s.fpa.ramp = 1 →
    ∃ t, exec (.fpaCtrlEn m false) s = .next t ∧
      t.get HDR_EN 0x010 = 0 ∧
      t.fpa.on = false ∧
      t.fpa.ramp = 2 ∧
      s.SameMemory t) ∧
  (∀ (s : State),
    s.fpa.ramp = 1 →
    ∃ t, exec (.biasRampDone) s = .next t ∧
      t.fpa = { s.fpa with on := true, ramp := 0, row := 0, inFrame := false, due := false } ∧
      t.get BIAS_VDET_NOW = s.vdetIdle % 2 ^ BIAS_VDET_NOW.wid ∧
      s.SameBut t [] [BIAS_VDET_NOW.key 0 0, CLK_GRANT.key 0 0] ∧
      s.SameMemory t) ∧
  (∀ (s : State),
    (s.fpa.ramp = 0 ∨ (s.fpa.ramp ≠ 1 ∧ s.pd 1 ≠ 3)) →
    ∃ t, exec (.biasRampDone) s = .next t ∧
      t.fpa = { s.fpa with ramp := 0 } ∧
      s.SameBut t [] [CLK_GRANT.key 0 0] ∧
      s.SameMemory t) ∧
  (∀ (s : State),
    s.fpa.ramp = 2 →
    s.fpa.on = false →
    s.pd 1 = 3 →
    ∃ t, exec (.biasRampDone) s = .next t ∧
      t.fpa.ramp = 0 ∧
      t.pd 1 ≤ 1) ∧
  (∀ (outputs : Fin 16) (s : State),
    2 ≤ s.pd 1 →
    outputs.val ≠ 0 →
    s.coreOn = true →
    ∃ t, exec (.biasOverload outputs) s = .next t ∧
      t.fpa.ovl = true ∧
      t.get BIAS_OVL = (s.get BIAS_OVL ||| outputs.val) % 16 ∧
      t.get EVT_CODE 0 (s.get EVT_TOTAL % 256) = 0x1110 ∧
      t.get EVT_DATA 0 (s.get EVT_TOTAL % 256) = outputs.val ∧
      t.get BIAS_VDET_NOW = 0 ∧
      bitAt (t.get HDR_INT_RAW 0x011) 0 = true ∧
      (if s.frameRuns then t.fpa.stop = true ∧ t.fpa.on = true else t.fpa.on = false) ∧
      s.SameMemory t) ∧
  (∀ (outputs : Fin 16) (s : State),
    (s.pd 1 < 2 ∨ outputs.val = 0) →
    s.fpa.ovl = false →
    ∃ t, exec (.biasOverload outputs) s = .next t ∧
      t.fpa = s.fpa ∧
      t.get BIAS_OVL = s.get BIAS_OVL ∧
      t.get BIAS_VDET_NOW = s.get BIAS_VDET_NOW ∧
      s.SameMemory t) ∧
  (∀ (m : Master) (s : State),
    s.accepts m.num 0x011 0x0D8 1 = true →
    s.fpa.ovl = true →
    ∃ t, exec (.biasFaultClr m) s = .next t ∧
      t.fpa.ovl = false ∧
      t.get SENTRY_BG_READY = 0 ∧
      t.nuc.base = 0 ∧
      t.get NUC_CONF = 0 ∧
      (s.get HDR_EN 0x010 = 1 → s.get HDR_EN 0x011 = 1 → s.pd 1 = 2 → s.fpa.on = false → s.get BIAS_RAMP_MS ≠ 0 → t.fpa.ramp = 1)
        ∧
      (s.get HDR_EN 0x010 = 1 → s.get HDR_EN 0x011 = 1 → s.pd 1 = 2 → s.fpa.on = false → s.get BIAS_RAMP_MS = 0 → t.fpa.on = true)
        ∧
      s.SameMemory t) ∧
  (∀ (m : Master) (s : State),
    s.accepts m.num 0x011 0x0D8 1 = true →
    s.fpa.ovl = false →
    exec (.biasFaultClr m) s = .next ((s.rewritten 0x011 0x0D8).noteCode m.num cOK))

/-- At a boundary that may start a frame and with no stop asked for, a frame starts at row period 0 with the interrupt of FPA's
frame start and the veto pin sampled; with the Millrace enabled it is taken and counted. With a stop asked for the timing stops
with VDET_NOW 0, and ramps up again only where the bias may be up. Where no frame may start the boundary changes nothing. Each
row period advances the row; the second to ninth convert the blind rows, the first of them starting the column sums anew and
each later one adding its samples that are neither clipped nor lost to the count of the reference; an active row of a frame with
pixels forms a line of the array's width; row period height + 14 latches the diode while FPA is enabled. Where the array domain
closes, the next row period stops the timing; with no row left a row start changes nothing. Memory keeps its content, but for
the bank that a temporal filter or a closure works on. -/
def Obligations.ArrayFrames : Prop :=
  (∀ (vetoPin stallHeld : Bool) (s : State),
    s.boundaryMay = true →
    s.fpa.stop = false →
    ∃ t, exec (.arrayFrameBoundary vetoPin stallHeld) s = .next t ∧
      (t.pd 1 = 2 → t.fpa.on = true) ∧
      t.fpa.inFrame = true ∧
      t.fpa.row = 0 ∧
      t.fpa.due = false ∧
      bitAt (t.get HDR_INT_RAW 0x010) 0 = true ∧
      t.nuc.pin = vetoPin ∧
      t.fpa.sentry = (s.runMode == SENTRY) ∧
      t.mill.frame = t.fpa.millOn ∧
      t.fpa.millOn = (t.get HDR_EN 0x050 == 1) ∧
      (t.fpa.millOn = true → s.mill.started = true → t.get MILL_FRAME_COUNT = (s.get MILL_FRAME_COUNT + 1) % 2 ^ 32) ∧
      s.SameMemory t) ∧
  (∀ (vetoPin stallHeld : Bool) (s : State),
    s.boundaryMay = true →
    s.fpa.stop = true →
    ∃ t, exec (.arrayFrameBoundary vetoPin stallHeld) s = .next t ∧
      t.fpa.inFrame = false ∧
      t.fpa.stop = false ∧
      (t.biasMay = false → t.fpa.on = false ∧ t.get BIAS_VDET_NOW = 0) ∧
      (t.fpa.on = true → t.get BIAS_RAMP_MS = 0) ∧
      s.SameMemory t) ∧
  (∀ (vetoPin stallHeld : Bool) (s : State),
    s.boundaryMay = false →
    exec (.arrayFrameBoundary vetoPin stallHeld) s = .next (s)) ∧
  (∀ (r : RowIn) (s : State),
    s.rowsLeft = true →
    s.fpa.halt = false →
    ∃ t, exec (.rowStart r) s = .next t ∧
      t.fpa.row = s.fpa.row + 1 ∧
      t.fpa.inFrame = true ∧
      t.fpa.on = true ∧
      (s.fpa.row = s.height + 14 → s.get FPA_EN ≠ 0 → t.get FPA_DIODE_DVBE = r.diode % 2 ^ FPA_DIODE_DVBE.wid) ∧
      (s.on MILL_TF_EN = false → s.nuc.integ = false → s.SameMemory t)) ∧
  (∀ (r : RowIn) (s : State),
    s.rowsLeft = true →
    s.fpa.halt = false →
    s.fpa.row = 1 →
    s.mill.frame = true →
    s.get PIN_TAP_HALT = 0 →
    ∃ t, exec (.rowStart r) s = .next t ∧
      t.mill.blind = List.replicate s.width (0, 0) ∧
      t.mill.stats.blind0N + t.mill.stats.clipped + ((List.range s.width).filter r.lost.contains).length = s.mill.stats.clipped +
        s.width ∧
      s.SameMemory t) ∧
  (∀ (r : RowIn) (s : State),
    s.rowsLeft = true →
    s.fpa.halt = false →
    2 ≤ s.fpa.row →
    s.fpa.row ≤ 7 →
    s.mill.frame = true →
    s.get PIN_TAP_HALT = 0 →
    ∃ t, exec (.rowStart r) s = .next t ∧
      (t.mill.stats.blindN = s.mill.stats.blindN + (((List.range s.width).map fun c => if r.lost.contains c then (0, true, false)
        else s.sample r c).filter fun e => !e.2.1).length) ∧
      (t.mill.stats.blind = s.mill.stats.blind + (((List.range s.width).map fun c => if r.lost.contains c then (0, true, false)
        else s.sample r c).filter fun e => !e.2.1).foldl (fun (a : Int) e => a + e.1) 0) ∧
      t.mill.blind.length = s.width ∧
      s.SameMemory t) ∧
  (∀ (r : RowIn) (s : State),
    s.rowsLeft = true →
    s.fpa.halt = false →
    9 ≤ s.fpa.row →
    s.fpa.row ≤ s.height + 8 →
    s.mill.frame = true →
    s.mill.rep = false →
    s.fpa.sentry = false →
    s.get PIN_TAP_HALT = 0 →
    ∃ t, exec (.rowStart r) s = .next t ∧
      t.mill.prevOut.length = s.width ∧
      t.mill.prev.length = s.width ∧
      t.mill.cn.length = s.width ∧
      (s.on MILL_TF_EN = false → s.nuc.integ = false → s.SameMemory t)) ∧
  (∀ (r : RowIn) (s : State),
    s.fpa.halt = true →
    s.fpa.on = true →
    ∃ t, exec (.rowStart r) s = .next t ∧
      t.fpa.on = false ∧
      t.fpa.inFrame = false ∧
      t.fpa.halt = false ∧
      t.get BIAS_VDET_NOW = 0 ∧
      t.mill.frame = false ∧
      s.SameMemory t) ∧
  (∀ (r : RowIn) (s : State),
    s.rowsLeft = false →
    s.fpa.halt = false →
    exec (.rowStart r) s = .next (s))

/-- An accepted request leaves each named converter requested or being calibrated; with DEFER_MAX 0 a converter that is neither
is refused and shown in REFUSED. Two agreeing runs await their handback with the mean trims while the array frames run, and come
into force at once otherwise, or where the run was selected without array frames, and the calibration counts; runs that disagree
are counted and change no trim; a calibration without an eligible comparator has failed. A request that has waited too long is
dropped, shown in REFUSED and logged; one that is not waiting changes nothing. Every unsaved trim record that is pending is
offered again; with DEFER_MAX 0 and a busy engine each stays unsaved. A retry wait that has ended makes the converter idle, or
it is being calibrated at once. -/
def Obligations.Calibrations : Prop :=
  (∀ (m : Master) (word1 : Bool) (data : Word) (s : State),
    (s.accepts m.num 0x048 (if word1 then 0x05C else 0x058) data.toNat = true) →
    s.get CHCAL_DEFER_MAX ≠ 0 →
    s.cal.slots.length = 2 →
    ∃ t, exec (.chcalReq m word1 data) s = .next t ∧
      (∀ i ∈ reqInsts word1 data.toNat, t.calibrating i = true ∨ bitAt (t.get (reqRow i)) (i % 32) = true) ∧
      s.SameMemory t) ∧
  (∀ (m : Master) (word1 : Bool) (data : Word) (s : State),
    (s.accepts m.num 0x048 (if word1 then 0x05C else 0x058) data.toNat = true) →
    s.get CHCAL_DEFER_MAX = 0 →
    s.fpa.on = true →
    ∃ t, exec (.chcalReq m word1 data) s = .next t ∧
      (∀ i ∈ reqInsts word1 data.toNat, s.calibrating i = false → bitAt (s.get (reqRow i)) (i % 32) = false → bitAt (t.get (reqRow
        i)) (i % 32) = false ∧ bitAt (t.get (refRow i)) (i % 32) = true) ∧
      s.SameMemory t) ∧
  (∀ (inst : Fin 34) (meas : CalMeas) (k cmp : Nat) (s : State),
    s.cal.slots.length = 2 →
    k < 2 →
    (s.slot k).stage = 2 →
    (s.slot k).inst = inst.val →
    (k = 0 ∨ (s.slot 0).stage ≠ 2 ∨ (s.slot 0).inst ≠ inst.val) →
    (s.slot k).rest = false →
    s.takeovers = true →
    chooseCmp (s.get CHCAL_NOISE_MAX) meas = some cmp →
    atEnd (ofsSearch meas.sums1) = false →
    atEnd (ofsSearch meas.sums2) = false →
    atEnd (gainFit (signed 10 (s.get CH_GAIN_TRIM inst.val)) meas.span1) = false →
    atEnd (gainFit (signed 10 (s.get CH_GAIN_TRIM inst.val)) meas.span2) = false →
    (ofsSearch meas.sums1 - ofsSearch meas.sums2).natAbs ≤ s.get CHCAL_AGREE_OFS →
    (gainFit (signed 10 (s.get CH_GAIN_TRIM inst.val)) meas.span1 - gainFit (signed 10 (s.get CH_GAIN_TRIM inst.val))
      meas.span2).natAbs ≤ s.get CHCAL_AGREE_GAIN →
    meas.noise2 ≤ s.get CHCAL_NOISE_MAX →
    ∃ t, exec (.calibrationEnd inst meas) s = .next t ∧
      t.slot k =
        { s.slot k with stage := 3, res := 1, cmp := cmp, ofs := meanCode (ofsSearch meas.sums1) (ofsSearch meas.sums2), gain := meanCode (gainFit (signed 10 (s.get CH_GAIN_TRIM inst.val)) meas.span1) (gainFit (signed 10 (s.get CH_GAIN_TRIM inst.val)) meas.span2) }
        ∧
      (s.parked inst.val = false → t.get CH_STATE inst.val = 3) ∧
      s.SameMemory t) ∧
  (∀ (inst : Fin 34) (meas : CalMeas) (k cmp : Nat) (s : State),
    s.cal.slots.length = 2 →
    k < 2 →
    (s.slot k).stage = 2 →
    (s.slot k).inst = inst.val →
    (k = 0 ∨ (s.slot 0).stage ≠ 2 ∨ (s.slot 0).inst ≠ inst.val) →
    (s.fpa.on = false ∨ (s.slot k).rest = true) →
    chooseCmp (s.get CHCAL_NOISE_MAX) meas = some cmp →
    atEnd (ofsSearch meas.sums1) = false →
    atEnd (ofsSearch meas.sums2) = false →
    atEnd (gainFit (signed 10 (s.get CH_GAIN_TRIM inst.val)) meas.span1) = false →
    atEnd (gainFit (signed 10 (s.get CH_GAIN_TRIM inst.val)) meas.span2) = false →
    (ofsSearch meas.sums1 - ofsSearch meas.sums2).natAbs ≤ s.get CHCAL_AGREE_OFS →
    (gainFit (signed 10 (s.get CH_GAIN_TRIM inst.val)) meas.span1 - gainFit (signed 10 (s.get CH_GAIN_TRIM inst.val))
      meas.span2).natAbs ≤ s.get CHCAL_AGREE_GAIN →
    meas.noise2 ≤ s.get CHCAL_NOISE_MAX →
    ∃ t, exec (.calibrationEnd inst meas) s = .next t ∧
      t.get CH_CMP_SEL inst.val = cmp % 2 ^ CH_CMP_SEL.wid ∧
      t.get CH_OFS_TRIM inst.val = unsigned 10 (meanCode (ofsSearch meas.sums1) (ofsSearch meas.sums2)) ∧
      t.get CH_GAIN_TRIM inst.val = unsigned 10 (meanCode (gainFit (signed 10 (s.get CH_GAIN_TRIM inst.val)) meas.span1) (gainFit
        (signed 10 (s.get CH_GAIN_TRIM inst.val)) meas.span2)) ∧
      t.get CH_CAL_COUNT inst.val = min (s.get CH_CAL_COUNT inst.val + 1) (2 ^ CH_CAL_COUNT.wid - 1) ∧
      t.get CH_DISAGREE inst.val = 0 ∧
      s.SameMemory t) ∧
  (∀ (inst : Fin 34) (meas : CalMeas) (k cmp : Nat) (s : State),
    s.cal.slots.length = 2 →
    k < 2 →
    (s.slot k).stage = 2 →
    (s.slot k).inst = inst.val →
    (k = 0 ∨ (s.slot 0).stage ≠ 2 ∨ (s.slot 0).inst ≠ inst.val) →
    (s.slot k).rest = false →
    s.takeovers = true →
    chooseCmp (s.get CHCAL_NOISE_MAX) meas = some cmp →
    atEnd (ofsSearch meas.sums1) = false →
    atEnd (ofsSearch meas.sums2) = false →
    atEnd (gainFit (signed 10 (s.get CH_GAIN_TRIM inst.val)) meas.span1) = false →
    atEnd (gainFit (signed 10 (s.get CH_GAIN_TRIM inst.val)) meas.span2) = false →
    s.get CHCAL_NOISE_MAX < meas.noise2 →
    ∃ t, exec (.calibrationEnd inst meas) s = .next t ∧
      t.slot k = { s.slot k with stage := 3, res := 2 } ∧
      t.get CHCAL_DISAGREED = min (s.get CHCAL_DISAGREED + 1) (2 ^ CHCAL_DISAGREED.wid - 1) ∧
      t.get CH_OFS_TRIM inst.val = s.get CH_OFS_TRIM inst.val ∧
      t.get CH_GAIN_TRIM inst.val = s.get CH_GAIN_TRIM inst.val ∧
      t.get CH_CMP_SEL inst.val = s.get CH_CMP_SEL inst.val ∧
      s.SameMemory t) ∧
  (∀ (inst : Fin 34) (meas : CalMeas) (k : Nat) (s : State),
    s.cal.slots.length = 2 →
    k < 2 →
    (s.slot k).stage = 2 →
    (s.slot k).inst = inst.val →
    (k = 0 ∨ (s.slot 0).stage ≠ 2 ∨ (s.slot 0).inst ≠ inst.val) →
    s.cal.failed.length = 34 →
    (s.slot k).rest = false →
    s.takeovers = true →
    chooseCmp (s.get CHCAL_NOISE_MAX) meas = none →
    ∃ t, exec (.calibrationEnd inst meas) s = .next t ∧
      t.slot k = { s.slot k with stage := 3, res := 3 } ∧
      t.calFailed inst.val = true ∧
      t.blockFault (instPage inst.val) = true ∧
      s.SameMemory t) ∧
  (∀ (inst : Fin 34) (e : Nat) (s : State),
    (s.cal.order.find? (fun e => e % 0x100 == inst.val) = some e) →
    s.coreOn = true →
    ∃ t, exec (.calRefused inst) s = .next t ∧
      bitAt (t.get (refRow inst.val)) (inst.val % 32) = true ∧
      bitAt (t.get (reqRow inst.val)) (inst.val % 32) = false ∧
      t.get HDR_ERR_CODE 0x048 = cBUSY ∧
      t.get HDR_ERR_MASTER 0x048 = e / 0x100 % 8 ∧
      t.lastEvent 0x4814 inst.val = true ∧
      (∀ x ∈ t.cal.order, x % 0x100 ≠ inst.val) ∧
      s.SameMemory t) ∧
  (∀ (inst : Fin 34) (s : State),
    (s.cal.order.find? (fun e => e % 0x100 == inst.val) = none) →
    exec (.calRefused inst) s = .next (s)) ∧
  (∀ (s : State),
    s.get GRAN_DEFER_MAX ≠ 0 →
    ∃ t, exec (.chtrimRetry) s = .next t ∧
      (∀ i ∈ List.range 34, s.get CH_UNSAVED i ≠ 0 → s.cal.trims.any (fun e => e.1 == i) = true →
        (t.gran.cur.toList ++ t.gran.jobs).any (fun j => j.op == jTRIM && j.arg == i) = true) ∧
      t.regs = s.regs ∧
      s.SameMemory t) ∧
  (∀ (inst : Fin 34) (s : State),
    s.get CH_STATE inst.val = 6 →
    s.cal.retry.getD inst.val 0 = 0 →
    s.fpa.on = true →
    exec (.retryWaitExpire inst) s = .next (s.put CH_STATE 0 inst.val)) ∧
  (∀ (inst : Fin 34) (s : State),
    s.get CH_STATE inst.val = 6 →
    s.cal.retry.getD inst.val 0 = 0 →
    s.fpa.on = false →
    s.cal.slots.length = 2 →
    ∃ t, exec (.retryWaitExpire inst) s = .next t ∧
      (t.get CH_STATE inst.val = 0 ∨ t.calibrating inst.val = true) ∧
      s.SameMemory t) ∧
  (∀ (s : State),
    s.get GRAN_DEFER_MAX = 0 →
    s.gran.cur ≠ none →
    ∃ t, exec (.chtrimRetry) s = .next t ∧
      (∀ i ∈ List.range 34, s.get CH_UNSAVED i ≠ 0 → t.get CH_UNSAVED i ≠ 0) ∧
      t.gran.jobs.length ≤ s.gran.jobs.length ∧
      t.gran.cur = s.gran.cur ∧
      s.SameMemory t)

/-- An accepted FILL_START opens a fill of the inactive bank with COMPLETE 0; FILL_END starts the check against FILL_CRC; LOAD
without a valid source gives RESULT 3, and with one fills the inactive bank from it and starts the check; a check that passes
sets COMPLETE and RESULT 1, is logged and closes the fill, one that fails without another source gives RESULT 2 with CHECK_FAIL,
and with another source loads that one; without a check in progress nothing happens. ABORT ends a fill with COMPLETE 0 and
RESULT 0, and without a fill changes nothing; SWITCH sets SWITCH_PEND, and with no frame in progress takes effect at once. -/
def Obligations.LoftFills : Prop :=
  (∀ (m : Master) (s : State),
    s.accepts m.num 0x050 0x054 1 = true →
    ∃ t, exec (.fillStart m) s = .next t ∧
      t.get MILL_FILLING = 1 ∧
      t.get (completeRow s.inactive) = 0 ∧
      t.get MILL_CHECKING = 0 ∧
      t.loft.checking = none ∧
      s.SameBut t [] ([MILL_FILLING.key 0 0, (completeRow s.inactive).key 0 0, MILL_CHECKING.key 0 0] ++ lastKeys) ∧
      s.SameMemory t) ∧
  (∀ (m : Master) (s : State),
    s.accepts m.num 0x050 0x054 2 = true →
    exec (.fillEnd m) s = .next
      (({ (s.rewritten 0x050 0x054).put MILL_CHECKING 1 with loft := { s.loft with checking := some (false, s.get MILL_FILL_CRC, 0, false) } }).noteCode
      m.num cOK)) ∧
  (∀ (m : Master) (fromFactory : Bool) (s : State),
    s.accepts m.num 0x050 0x054 (16 + 32 * bit fromFactory) = true →
    s.loadSource fromFactory = none →
    ∃ t, exec (.bankLoad m fromFactory) s = .next t ∧
      t.get MILL_RESULT = 3 ∧
      t.bank s.inactive = s.bank s.inactive ∧
      t.gran = s.gran ∧
      s.SameMemory t) ∧
  (∀ (m : Master) (fromFactory : Bool) (k : Nat) (retry : Bool) (s : State),
    s.accepts m.num 0x050 0x054 (16 + 32 * bit fromFactory) = true →
    s.loadSource fromFactory = some (k, retry) →
    ∃ t, exec (.bankLoad m fromFactory) s = .next t ∧
      t.loft.checking = some (true, s.gran.copyCrc k, k, retry) ∧
      t.bank s.inactive = s.gran.image k ∧
      t.get MILL_CHECKING = 1 ∧
      t.get (completeRow s.inactive) = 0 ∧
      t.gran = s.gran) ∧
  (∀ (load retry : Bool) (want k : Nat) (s : State),
    s.loft.checking = some (load, want, k, retry) →
    (s.bank s.inactive).crc = want →
    s.coreOn = true →
    ∃ t, exec (.bankCheckDone) s = .next t ∧
      t.get (completeRow s.inactive) = 1 ∧
      t.get MILL_RESULT = 1 ∧
      t.get MILL_FILLING = 0 ∧
      t.get MILL_CHECKING = 0 ∧
      t.loft.checking = none ∧
      t.lastEvent 0x5012 s.inactive = true ∧
      t.get MILL_CRC_CALC = want % 2 ^ 32 ∧
      s.SameMemory t) ∧
  (∀ (load retry : Bool) (want k : Nat) (s : State),
    s.loft.checking = some (load, want, k, retry) →
    (s.bank s.inactive).crc ≠ want →
    (load = false ∨ retry = false) →
    ∃ t, exec (.bankCheckDone) s = .next t ∧
      t.get (completeRow s.inactive) = 0 ∧
      t.get MILL_RESULT = 2 ∧
      t.get MILL_FILLING = 0 ∧
      t.get MILL_CHECKING = 0 ∧
      t.loft.checking = none ∧
      t.get HDR_ERR_CODE 0x050 = cCHECK ∧
      s.SameMemory t) ∧
  (∀ (want k : Nat) (s : State),
    s.loft.checking = some (true, want, k, true) →
    (s.bank s.inactive).crc ≠ want →
    ∃ t, exec (.bankCheckDone) s = .next t ∧
      t.loft.checking = some (true, s.gran.copyCrc (3 - k), 3 - k, false) ∧
      t.bank s.inactive = s.gran.image (3 - k) ∧
      t.get MILL_CHECKING = 1 ∧
      t.gran = s.gran) ∧
  (∀ (s : State),
    s.loft.checking = none →
    exec (.bankCheckDone) s = .next (s)) ∧
  (∀ (m : Master) (s : State),
    s.accepts m.num 0x050 0x054 8 = true →
    s.fillOpen = true →
    ∃ t, exec (.fillAbort m) s = .next t ∧
      t.get (completeRow s.inactive) = 0 ∧
      t.get MILL_RESULT = 0 ∧
      t.get MILL_FILLING = 0 ∧
      t.get MILL_CHECKING = 0 ∧
      t.loft.checking = none ∧
      s.SameMemory t) ∧
  (∀ (m : Master) (s : State),
    s.accepts m.num 0x050 0x054 8 = true →
    s.fillOpen = false →
    exec (.fillAbort m) s = .next ((s.rewritten 0x050 0x054).noteCode m.num cOK)) ∧
  (∀ (m : Master) (s : State),
    s.accepts m.num 0x050 0x054 4 = true →
    (s.frameRuns = true ∨ s.get (completeRow s.inactive) = 0 ∨ s.updating = true) →
    exec (.bankSwitchCmd m) s = .next (((s.rewritten 0x050 0x054).put MILL_SWITCH_PEND 1).noteCode m.num cOK)) ∧
  (∀ (m : Master) (s : State),
    s.accepts m.num 0x050 0x054 4 = true →
    s.frameRuns = false →
    s.mode ≠ SENTRY →
    s.mode ≠ DORMANT →
    s.updating = false →
    s.get (completeRow s.inactive) = 1 →
    s.coreOn = true →
    ∃ t, exec (.bankSwitchCmd m) s = .next t ∧
      t.get MILL_ACTIVE = s.inactive ∧
      t.get MILL_SWITCH_PEND = 0 ∧
      bitAt (t.get HDR_INT_RAW 0x050) 0 = true)

/-- An accepted CLOSE outside a closure is kept as a request, with FORCE where the mode is SERVICE; in a closure it changes
nothing. The end of SETTLE_US after a confirmed close begins the measuring interval, after a confirmed opening it makes the
shutter count as open, a cycle where it had closed. MONO is confirmed open with T_OPEN_MAX. A close miss fails the closure with
reason 1, counts a miss and gives the open command. The first open miss of a BISTABLE shutter counts and pulses again; the
second faults the shutter. Without such a wait in progress the miss or the confirmation changes nothing. -/
def Obligations.Closures : Prop :=
  (∀ (m : Master) (force : Bool) (s : State),
    s.accepts m.num 0x052 0x064 (1 + 2 * bit force) = true →
    s.nuc.form = 0 →
    exec (.nucClose m force) s = .next
      (({ s.rewritten 0x052 0x064 with nuc := { s.nuc with req := true, force := (force && s.mode == SERVICE) || s.nuc.force } }).noteCode
      m.num cOK)) ∧
  (∀ (m : Master) (force : Bool) (s : State),
    s.accepts m.num 0x052 0x064 (1 + 2 * bit force) = true →
    s.nuc.form ≠ 0 →
    exec (.nucClose m force) s = .next ((s.rewritten 0x052 0x064).noteCode m.num cOK)) ∧
  (∀ (s : State),
    s.nuc.form ≠ 0 →
    s.nuc.closed = true →
    s.nuc.measuring = false →
    s.nuc.opening = false →
    s.nuc.confirmed = false →
    ∃ t, exec (.shutterSettleEnd) s = .next t ∧
      t.nuc.measuring = true ∧
      t.get NUC_STATE = 3 ∧
      t.nuc.form = s.nuc.form ∧
      t.nuc.opening = false ∧
      (s.frameRuns = false → t.nuc = { s.nuc with measuring := true }) ∧
      s.SameMemory t) ∧
  (∀ (s : State),
    s.nuc.form ≠ 0 →
    s.nuc.confirmed = true →
    s.nuc.opened = false →
    ∃ t, exec (.shutterSettleEnd) s = .next t ∧
      (t.nuc.opened = true ∨ (t.nuc.form = 0 ∧ t.get NUC_STATE = 0)) ∧
      (s.nuc.closed = true → t.get SHUT_CYCLES = min (s.get SHUT_CYCLES + 1) (2 ^ SHUT_CYCLES.wid - 1)) ∧
      (s.nuc.closed = false → t.get SHUT_CYCLES = s.get SHUT_CYCLES) ∧
      s.SameBut t [] [SHUT_CYCLES.key 0 0, NUC_STATE.key 0 0] ∧
      s.SameMemory t) ∧
  (∀ (s : State),
    s.nuc.form = 0 →
    s.nuc.confirmed = true →
    s.nuc.opened = false →
    s.nuc.bootPulse = true →
    exec (.shutterSettleEnd) s = .next
      ({ s with nuc := { s.nuc with bootPulse := false, bootFail := false, confirmed := false, opened := false } })) ∧
  (∀ (s : State),
    s.nuc.form ≠ 0 →
    s.nuc.opening = true →
    s.nuc.confirmed = false →
    s.get SHUT_TYPE = 0 →
    s.get SHUT_SETTLE_US ≠ 0 →
    exec (.shutterOpenConfirm) s = .next
      ({ s.put SHUT_T_LAST_OPEN (s.get SHUT_T_OPEN_MAX) with nuc := { s.nuc with confirmed := true } })) ∧
  (∀ (s : State),
    s.nuc.form ≠ 0 →
    s.nuc.opening = true →
    s.nuc.confirmed = false →
    s.nuc.opened = false →
    s.get SHUT_TYPE = 0 →
    s.get SHUT_SETTLE_US = 0 →
    ∃ t, exec (.shutterOpenConfirm) s = .next t ∧
      (t.nuc.opened = true ∨ (t.nuc.form = 0 ∧ t.get NUC_STATE = 0)) ∧
      t.get SHUT_T_LAST_OPEN = s.get SHUT_T_OPEN_MAX % 2 ^ SHUT_T_LAST_OPEN.wid ∧
      s.SameMemory t) ∧
  (∀ (s : State),
    (s.nuc.form = 0 ∨ s.nuc.opening = false ∨ s.nuc.confirmed = true ∨ s.get SHUT_TYPE ≠ 0) →
    exec (.shutterOpenConfirm) s = .next (s)) ∧
  (∀ (s : State),
    s.nuc.form ≠ 0 →
    s.nuc.closed = false →
    s.nuc.opening = false →
    ∃ t, exec (.closeMiss) s = .next t ∧
      t.nuc.fail = 1 ∧
      t.nuc.opening = true ∧
      t.get NUC_STATE = 4 ∧
      t.get NUC_FAILS = min (s.get NUC_FAILS + 1) (2 ^ NUC_FAILS.wid - 1) ∧
      t.get SHUT_MISS = min (s.get SHUT_MISS + 1) (2 ^ SHUT_MISS.wid - 1) ∧
      s.SameMemory t) ∧
  (∀ (s : State),
    (s.nuc.form = 0 ∨ s.nuc.closed = true ∨ s.nuc.opening = true) →
    exec (.closeMiss) s = .next (s)) ∧
  (∀ (s : State),
    s.get SHUT_TYPE ≠ 0 →
    s.get SHUT_FAULTED = 0 →
    s.nuc.confirmed = false →
    s.nuc.form ≠ 0 →
    s.nuc.opening = true →
    s.nuc.second = false →
    (s.get SHUT_MISS_MAX = 0 ∨ s.get SHUT_MISS + 1 < s.get SHUT_MISS_MAX) →
    ∃ t, exec (.openMiss) s = .next t ∧
      t.nuc.second = true ∧
      (t.nuc.fail = (if s.nuc.fail = 1 then 1 else 2)) ∧
      t.nuc.form = s.nuc.form ∧
      t.get SHUT_MISS = min (s.get SHUT_MISS + 1) (2 ^ SHUT_MISS.wid - 1) ∧
      s.SameMemory t) ∧
  (∀ (s : State),
    s.get SHUT_TYPE ≠ 0 →
    s.get SHUT_FAULTED = 0 →
    s.nuc.confirmed = false →
    s.nuc.form ≠ 0 →
    s.nuc.opening = true →
    s.nuc.second = true →
    ∃ t, exec (.openMiss) s = .next t ∧
      t.get SHUT_FAULTED = 1 ∧
      t.nuc.form = s.nuc.form ∧
      t.get SHUT_MISS = min (s.get SHUT_MISS + 1) (2 ^ SHUT_MISS.wid - 1) ∧
      s.SameMemory t) ∧
  (∀ (s : State),
    s.get SHUT_TYPE ≠ 0 →
    s.get SHUT_FAULTED = 0 →
    s.nuc.confirmed = false →
    s.nuc.form = 0 →
    s.nuc.bootPulse = true →
    s.nuc.bootFail = false →
    s.nuc.second = true →
    ∃ t, exec (.openMiss) s = .next t ∧
      t.get SHUT_FAULTED = 1 ∧
      t.nuc.bootFail = true ∧
      t.nuc.bootPulse = true ∧
      t.get SHUT_MISS = min (s.get SHUT_MISS + 1) (2 ^ SHUT_MISS.wid - 1) ∧
      s.SameMemory t) ∧
  (∀ (s : State),
    (s.get SHUT_TYPE = 0 ∨ s.get SHUT_FAULTED ≠ 0 ∨ s.nuc.confirmed = true) →
    exec (.openMiss) s = .next (s))

/-- A deferral that reaches DEFER_MAX sets DEFER_EXP once, logs it and raises the interrupt; where it has not, or the flag is
set, nothing changes. A completed save holds the bank in force in its copy, clears SAVING and keeps the second of it; one that
ended in an error clears SAVING and leaves the copies. FAULT_CLR clears the shutter fault, and the policy follows at once
between frames. -/
def Obligations.ClosureKeeping : Prop :=
  (∀ (a : Nat) (s : State),
    s.nuc.deferAt = some a →
    s.get NUC_DEFER_MAX ≤ s.get NUC_DEFER_S →
    s.get NUC_DEFER_EXP = 0 →
    exec (.nucDeferExpired) s = .next (((s.put NUC_DEFER_EXP 1).event 0x5212 (s.get NUC_DEFER_MAX)).raise 0x052 4)) ∧
  (∀ (s : State),
    (s.nuc.deferAt = none ∨ s.get NUC_DEFER_S < s.get NUC_DEFER_MAX ∨ s.get NUC_DEFER_EXP ≠ 0) →
    exec (.nucDeferExpired) s = .next (s)) ∧
  (∀ (j : Job) (s : State),
    ((s.gran.cur.toList ++ s.gran.jobs).find? (fun j => j.op == jFIELD) = some j) →
    j.code = 0 →
    (j.arg = 1 ∨ j.arg = 2) →
    ∃ t, exec (.fieldSaveDone) s = .next t ∧
      t.gran.image j.arg = s.activeBank ∧
      t.get NUC_SAVING = 0 ∧
      t.nuc.lastSave = some (s.get YARD_SECONDS)) ∧
  (∀ (j : Job) (s : State),
    ((s.gran.cur.toList ++ s.gran.jobs).find? (fun j => j.op == jFIELD) = some j) →
    j.code ≠ 0 →
    ∃ t, exec (.fieldSaveDone) s = .next t ∧
      t.get NUC_SAVING = 0 ∧
      t.nuc = s.nuc ∧
      s.SameMemory t) ∧
  (∀ (s : State),
    ((s.gran.cur.toList ++ s.gran.jobs).find? (fun j => j.op == jFIELD) = none) →
    exec (.fieldSaveDone) s = .next (s)) ∧
  (∀ (m : Master) (s : State),
    s.accepts m.num 0x065 0x060 1 = true →
    s.frameRuns = false →
    s.axesKept = false →
    ∃ t, exec (.shutFaultClr m) s = .next t ∧
      t.get SHUT_FAULTED = 0 ∧
      t.get YARD_EFF_POLICY = (t.policyOf t.runMode).1 % 4 ∧
      t.get YARD_POLICY_WHY = (t.policyOf t.runMode).2 ∧
      s.SameMemory t) ∧
  (∀ (m : Master) (s : State),
    s.accepts m.num 0x065 0x060 1 = true →
    s.frameRuns = true →
    ∃ t, exec (.shutFaultClr m) s = .next t ∧
      t.get SHUT_FAULTED = 0 ∧
      t.get YARD_EFF_POLICY = s.get YARD_EFF_POLICY ∧
      t.nuc.form = s.nuc.form ∧
      s.SameMemory t)

/-- An accepted FIRE on an idle channel starts its first phase: PEAK or HOLD on HS_BAT with FIRES counted; BOOST with the rail
on HS_BST, or waiting for readiness with the rail held; without the rail it waits, or is refused at once where BST_DEFER is 0.
Where a dead time is owed first, both switches stay off for it and FIRES is not yet counted. A profile without a phase leaves
the channel in OFF. In a wait or with a command pending FIRE is merged and counted; in a minimum off time, the current check's
watch or a running profile, without RETRIG, it is kept pending; with RETRIG a running profile without BOOST starts again. STOP
sends the channel to OFF, discards a pending command, releases the rail and begins the minimum off time. BOOST ends into PEAK
through the dead time, PEAK into HOLD or OFF, HOLD into OFF unless HOLD_UNTIL_OFF; a pending command then starts. The time of
the first I >= I_PEAK is recorded, an early one is flagged, and BOOST ends with it. Without a profile neither does anything. No
other channel changes. -/
def Obligations.ActuatorProfiles : Prop :=
  (∀ (m : Master) (n : Fin 4) (s : State),
    s.accepts m.num (solPage n.val) 0x078 1 = true →
    s.sol.length = 4 →
    s.get SOL_PHASE n.val = 0 →
    s.get SOL_PENDING n.val = 0 →
    (s.chan n.val).watch = false →
    ((s.chan n.val).minOff = false ∨ s.get SOL_RETRIG n.val = 1) →
    ((s.chan n.val).off).waitsBat = false →
    s.get SOL_T_BOOST_MAX n.val = 0 →
    (s.get SOL_T_PEAK n.val ≠ 0 ∨ s.hasHold n.val = true) →
    ∃ t, exec (.solFire m n) s = .next t ∧
      (t.get SOL_PHASE n.val = (if s.get SOL_T_PEAK n.val ≠ 0 then 2 else 3)) ∧
      (t.chan n.val).sw = 2 ∧
      (t.chan n.val).started = true ∧
      (t.chan n.val).firedBy = m.num ∧
      t.get SOL_FIRES n.val = min (s.get SOL_FIRES n.val + 1) (2 ^ SOL_FIRES.wid - 1) ∧
      t.get SOL_T_MOTION n.val = 0xFFFF ∧
      t.get SOL_T_TO_PEAK n.val = 0xFFFF ∧
      t.get SOL_MOTION n.val = 0 ∧
      (∀ k, k < 4 → k ≠ n.val → t.chan k = s.chan k) ∧
      s.SameBut t [solPage n.val] lastKeys ∧
      s.SameMemory t) ∧
  (∀ (m : Master) (n : Fin 4) (s : State),
    s.accepts m.num (solPage n.val) 0x078 1 = true →
    s.sol.length = 4 →
    s.get SOL_PHASE n.val = 0 →
    s.get SOL_PENDING n.val = 0 →
    (s.chan n.val).watch = false →
    ((s.chan n.val).minOff = false ∨ s.get SOL_RETRIG n.val = 1) →
    s.get SOL_T_BOOST_MAX n.val ≠ 0 →
    ((s.chan n.val).off).waitsBst = false →
    (s.get BOOST_HOLDER = n.val ∨ (s.get BOOST_HOLDER = 7 ∧ s.railFirst n.val = true)) →
    (s.get SOL_BNR_EN n.val = 0 ∨ s.get BOOST_READY = 1) →
    ∃ t, exec (.solFire m n) s = .next t ∧
      t.get SOL_PHASE n.val = 1 ∧
      (t.chan n.val).sw = 1 ∧
      (t.chan n.val).started = true ∧
      t.get BOOST_HOLDER = n.val ∧
      t.get SOL_FIRES n.val = min (s.get SOL_FIRES n.val + 1) (2 ^ SOL_FIRES.wid - 1) ∧
      (∀ k, k < 4 → k ≠ n.val → t.chan k = s.chan k) ∧
      s.SameBut t [solPage n.val, 0x064] lastKeys ∧
      s.SameMemory t) ∧
  (∀ (m : Master) (n : Fin 4) (s : State),
    s.accepts m.num (solPage n.val) 0x078 1 = true →
    s.sol.length = 4 →
    s.get SOL_PHASE n.val = 0 →
    s.get SOL_PENDING n.val = 0 →
    (s.chan n.val).watch = false →
    ((s.chan n.val).minOff = false ∨ s.get SOL_RETRIG n.val = 1) →
    s.get SOL_T_BOOST_MAX n.val ≠ 0 →
    (s.get BOOST_HOLDER = n.val ∨ (s.get BOOST_HOLDER = 7 ∧ s.railFirst n.val = true)) →
    s.get SOL_BNR_EN n.val = 1 →
    s.get BOOST_READY = 0 →
    s.get SOL_T_BST_WAIT n.val ≠ 0 →
    ∃ t, exec (.solFire m n) s = .next t ∧
      t.get SOL_PHASE n.val = 4 ∧
      (t.chan n.val).sw = 0 ∧
      (t.chan n.val).wait = 2 ∧
      (t.chan n.val).started = false ∧
      t.get BOOST_HOLDER = n.val ∧
      t.get SOL_FIRES n.val = s.get SOL_FIRES n.val ∧
      (∀ k, k < 4 → k ≠ n.val → t.chan k = s.chan k) ∧
      s.SameBut t [solPage n.val, 0x064] lastKeys ∧
      s.SameMemory t) ∧
  (∀ (m : Master) (n : Fin 4) (s : State),
    s.accepts m.num (solPage n.val) 0x078 1 = true →
    s.sol.length = 4 →
    s.get SOL_PHASE n.val = 0 →
    s.get SOL_PENDING n.val = 0 →
    (s.chan n.val).watch = false →
    ((s.chan n.val).minOff = false ∨ s.get SOL_RETRIG n.val = 1) →
    s.get SOL_T_BOOST_MAX n.val ≠ 0 →
    s.get BOOST_HOLDER ≠ n.val →
    (s.get BOOST_HOLDER ≠ 7 ∨ s.railFirst n.val = false) →
    (s.isShut n.val = true ∨ s.get SOL_BST_DEFER n.val ≠ 0) →
    ∃ t, exec (.solFire m n) s = .next t ∧
      t.get SOL_PHASE n.val = 4 ∧
      (t.chan n.val).sw = 0 ∧
      (t.chan n.val).wait = 1 ∧
      (t.chan n.val).order = s.solc.arrivals + 1 ∧
      t.solc.arrivals = s.solc.arrivals + 1 ∧
      t.get BOOST_HOLDER = s.get BOOST_HOLDER ∧
      t.get SOL_FIRES n.val = s.get SOL_FIRES n.val ∧
      (∀ k, k < 4 → k ≠ n.val → t.chan k = s.chan k) ∧
      s.SameBut t [solPage n.val, 0x064] lastKeys ∧
      s.SameMemory t) ∧
  (∀ (m : Master) (n : Fin 4) (s : State),
    s.accepts m.num (solPage n.val) 0x078 1 = true →
    s.sol.length = 4 →
    s.get SOL_PHASE n.val = 0 →
    s.get SOL_PENDING n.val = 0 →
    (s.chan n.val).watch = false →
    ((s.chan n.val).minOff = false ∨ s.get SOL_RETRIG n.val = 1) →
    s.get SOL_T_BOOST_MAX n.val ≠ 0 →
    s.get BOOST_HOLDER ≠ n.val →
    (s.get BOOST_HOLDER ≠ 7 ∨ s.railFirst n.val = false) →
    s.isShut n.val = false →
    s.get SOL_BST_DEFER n.val = 0 →
    ∃ t, exec (.solFire m n) s = .next t ∧
      t.get SOL_PHASE n.val = 0 ∧
      (t.chan n.val).sw = 0 ∧
      (t.chan n.val).wait = 0 ∧
      t.get SOL_BST_REFUSALS n.val = min (s.get SOL_BST_REFUSALS n.val + 1) (2 ^ SOL_BST_REFUSALS.wid - 1) ∧
      t.get HDR_ERR_CODE (solPage n.val) = cBUSY ∧
      t.get BOOST_HOLDER = s.get BOOST_HOLDER ∧
      t.get SOL_FIRES n.val = s.get SOL_FIRES n.val ∧
      (∀ k, k < 4 → k ≠ n.val → t.chan k = s.chan k) ∧
      s.SameMemory t) ∧
  (∀ (m : Master) (n : Fin 4) (s : State),
    s.accepts m.num (solPage n.val) 0x078 1 = true →
    s.sol.length = 4 →
    s.get SOL_PHASE n.val = 0 →
    s.get SOL_PENDING n.val = 0 →
    (s.chan n.val).watch = false →
    ((s.chan n.val).minOff = false ∨ s.get SOL_RETRIG n.val = 1) →
    s.get SOL_T_BOOST_MAX n.val = 0 →
    s.get SOL_T_PEAK n.val = 0 →
    s.hasHold n.val = false →
    ∃ t, exec (.solFire m n) s = .next t ∧
      t.get SOL_PHASE n.val = 0 ∧
      (t.chan n.val).sw = 0 ∧
      (t.chan n.val).started = false ∧
      t.get SOL_FIRES n.val = s.get SOL_FIRES n.val ∧
      (∀ k, k < 4 → k ≠ n.val → t.chan k = s.chan k) ∧
      s.SameBut t [] ([SOL_PENDING.key n.val 0] ++ lastKeys) ∧
      s.SameMemory t) ∧
  (∀ (m : Master) (n : Fin 4) (s : State),
    s.accepts m.num (solPage n.val) 0x078 1 = true →
    s.sol.length = 4 →
    (s.get SOL_PHASE n.val = 4 ∨ s.on SOL_PENDING n.val = true) →
    ∃ t, exec (.solFire m n) s = .next t ∧
      t.get SOL_COALESCED n.val = min (s.get SOL_COALESCED n.val + 1) (2 ^ SOL_COALESCED.wid - 1) ∧
      (∀ k, k < 4 → (t.chan k).sw = (s.chan k).sw ∧ (t.chan k).started = (s.chan k).started) ∧
      s.SameBut t [] ([SOL_COALESCED.key n.val 0] ++ lastKeys) ∧
      s.SameMemory t) ∧
  (∀ (m : Master) (n : Fin 4) (s : State),
    s.accepts m.num (solPage n.val) 0x078 1 = true →
    s.sol.length = 4 →
    s.get SOL_PHASE n.val ≠ 4 →
    s.on SOL_PENDING n.val = false →
    ((s.chan n.val).watch = true ∨ (s.on SOL_RETRIG n.val = false ∧ (s.get SOL_PHASE n.val ≠ 0 ∨ (s.chan n.val).minOff = true))) →
    ∃ t, exec (.solFire m n) s = .next t ∧
      t.get SOL_PENDING n.val = 1 ∧
      t.get SOL_PHASE n.val = s.get SOL_PHASE n.val ∧
      (∀ k, k < 4 → (t.chan k).sw = (s.chan k).sw ∧ (t.chan k).started = (s.chan k).started) ∧
      s.SameBut t [] ([SOL_PENDING.key n.val 0] ++ lastKeys) ∧
      s.SameMemory t) ∧
  (∀ (m : Master) (n : Fin 4) (s : State),
    s.accepts m.num (solPage n.val) 0x078 1 = true →
    s.sol.length = 4 →
    (s.get SOL_PHASE n.val = 2 ∨ s.get SOL_PHASE n.val = 3) →
    s.on SOL_PENDING n.val = false →
    (s.chan n.val).watch = false →
    s.on SOL_RETRIG n.val = true →
    s.get SOL_T_BOOST_MAX n.val = 0 →
    s.get SOL_T_PEAK n.val ≠ 0 →
    ((s.chan n.val).off).waitsBat = false →
    ∃ t, exec (.solFire m n) s = .next t ∧
      t.get SOL_PHASE n.val = 2 ∧
      (t.chan n.val).sw = 2 ∧
      (t.chan n.val).started = true ∧
      t.get SOL_FIRES n.val = min (s.get SOL_FIRES n.val + 1) (2 ^ SOL_FIRES.wid - 1) ∧
      ((s.chan n.val).started = true → bitAt (t.get HDR_INT_RAW (solPage n.val)) 0 = true) ∧
      (∀ k, k < 4 → k ≠ n.val → t.chan k = s.chan k) ∧
      s.SameBut t [solPage n.val] ([BOOST_HOLDER.key 0 0] ++ lastKeys) ∧
      s.SameMemory t) ∧
  (∀ (m : Master) (n : Fin 4) (s : State),
    s.accepts m.num (solPage n.val) 0x078 2 = true →
    s.sol.length = 4 →
    ∃ t, exec (.solStop m n) s = .next t ∧
      t.get SOL_PHASE n.val = 0 ∧
      t.get SOL_PENDING n.val = 0 ∧
      (t.chan n.val).sw = 0 ∧
      ((t.chan n.val).dead ≠ 1 ∧ (t.chan n.val).dead ≠ 2) ∧
      (t.chan n.val).wait = 0 ∧
      (t.chan n.val).started = false ∧
      (t.chan n.val).minOff = (((s.chan n.val).started && !s.on SOL_RETRIG n.val && s.get SOL_T_MIN_OFF n.val != 0) || (s.chan
        n.val).minOff) ∧
      (t.get BOOST_HOLDER = (if s.get BOOST_HOLDER = n.val then 7 else s.get BOOST_HOLDER)) ∧
      ((s.chan n.val).started = true → bitAt (t.get HDR_INT_RAW (solPage n.val)) 0 = true) ∧
      (∀ k, k < 4 → k ≠ n.val → t.chan k = s.chan k) ∧
      s.SameBut t [solPage n.val] ([BOOST_HOLDER.key 0 0] ++ lastKeys) ∧
      s.SameMemory t) ∧
  (∀ (n : Fin 4) (s : State),
    s.sol.length = 4 →
    (s.chan n.val).started = true →
    s.get SOL_PHASE n.val = 1 →
    s.get SOL_T_PEAK n.val ≠ 0 →
    (s.chan n.val).sw = 1 →
    ∃ t, exec (.phaseTimerExpire n) s = .next t ∧
      t.get SOL_PHASE n.val = 2 ∧
      (t.chan n.val).sw = 0 ∧
      (t.chan n.val).dead = 2 ∧
      t.get BOOST_HOLDER ≠ n.val ∧
      (∀ k, k < 4 → k ≠ n.val → t.chan k = s.chan k) ∧
      s.SameBut t [] [SOL_PHASE.key n.val 0, BOOST_HOLDER.key 0 0] ∧
      s.SameMemory t) ∧
  (∀ (n : Fin 4) (s : State),
    s.sol.length = 4 →
    (s.chan n.val).started = true →
    s.get SOL_PHASE n.val = 2 →
    s.get SOL_PENDING n.val = 0 →
    (s.chan n.val).sw = 2 →
    (s.chan n.val).dead = 0 →
    ∃ t, exec (.phaseTimerExpire n) s = .next t ∧
      (t.get SOL_PHASE n.val = (if s.hasHold n.val then 3 else 0)) ∧
      ((t.chan n.val).sw = (if s.hasHold n.val then 2 else 0)) ∧
      (∀ k, k < 4 → k ≠ n.val → t.chan k = s.chan k) ∧
      s.SameBut t [] [SOL_PHASE.key n.val 0, BOOST_HOLDER.key 0 0, HDR_INT_RAW.key (solPage n.val) 0] ∧
      s.SameMemory t) ∧
  (∀ (n : Fin 4) (s : State),
    s.sol.length = 4 →
    (s.chan n.val).started = true →
    s.get SOL_PHASE n.val = 3 →
    s.holdUntil n.val = false →
    s.get SOL_PENDING n.val = 0 →
    ∃ t, exec (.phaseTimerExpire n) s = .next t ∧
      t.get SOL_PHASE n.val = 0 ∧
      (t.chan n.val).sw = 0 ∧
      (t.chan n.val).started = false ∧
      (∀ k, k < 4 → k ≠ n.val → t.chan k = s.chan k) ∧
      s.SameBut t [] [SOL_PHASE.key n.val 0, BOOST_HOLDER.key 0 0, HDR_INT_RAW.key (solPage n.val) 0] ∧
      s.SameMemory t) ∧
  (∀ (n : Fin 4) (s : State),
    s.sol.length = 4 →
    (s.chan n.val).started = true →
    (s.chan n.val).minOff = false →
    (s.chan n.val).watch = false →
    s.get SOL_PHASE n.val = 3 →
    s.holdUntil n.val = false →
    s.on SOL_PENDING n.val = true →
    s.get SOL_RETRIG n.val = 0 →
    s.get SOL_T_MIN_OFF n.val = 0 →
    s.get SOL_T_BOOST_MAX n.val = 0 →
    s.get SOL_T_PEAK n.val ≠ 0 →
    ((s.chan n.val).off).waitsBat = false →
    ∃ t, exec (.phaseTimerExpire n) s = .next t ∧
      t.get SOL_PHASE n.val = 2 ∧
      (t.chan n.val).sw = 2 ∧
      (t.chan n.val).started = true ∧
      t.get SOL_PENDING n.val = 0 ∧
      t.get SOL_FIRES n.val = min (s.get SOL_FIRES n.val + 1) (2 ^ SOL_FIRES.wid - 1) ∧
      (∀ k, k < 4 → k ≠ n.val → t.chan k = s.chan k) ∧
      s.SameBut t [solPage n.val] [BOOST_HOLDER.key 0 0] ∧
      s.SameMemory t) ∧
  (∀ (n : Fin 4) (s : State),
    ((s.chan n.val).started = false ∨ (s.get SOL_PHASE n.val = 3 ∧ s.holdUntil n.val = true)) →
    exec (.phaseTimerExpire n) s = .next (s)) ∧
  (∀ (n : Fin 4) (tUs : Nat) (s : State),
    s.sol.length = 4 →
    (s.chan n.val).started = true →
    (s.chan n.val).peakDone = false →
    (s.get SOL_PHASE n.val = 2 ∨ s.get SOL_PHASE n.val = 3) →
    (s.get SOL_TPK_EN n.val = 0 ∨ s.get SOL_TPK_MIN n.val ≤ tUs) →
    exec (.peakCurrentReached n tUs) s = .next ((s.put SOL_T_TO_PEAK (min tUs 0xFFFE) n.val).setChan n.val
      { s.chan n.val with peakDone := true })) ∧
  (∀ (n : Fin 4) (tUs : Nat) (s : State),
    s.sol.length = 4 →
    (s.chan n.val).started = true →
    (s.chan n.val).peakDone = false →
    (s.get SOL_PHASE n.val = 2 ∨ s.get SOL_PHASE n.val = 3) →
    s.get SOL_TPK_EN n.val = 1 →
    tUs < s.get SOL_TPK_MIN n.val →
    s.get SOL_TPK_ABORT n.val = 0 →
    s.coreOn = true →
    ∃ t, exec (.peakCurrentReached n tUs) s = .next t ∧
      t.get SOL_T_TO_PEAK n.val = min tUs 0xFFFE ∧
      (t.chan n.val).peakDone = true ∧
      t.get SOL_FLAGS n.val = (s.get SOL_FLAGS n.val ||| 2) % 2 ^ SOL_FLAGS.wid ∧
      t.lastEvent (solEvent n.val 0x13) (min tUs 0xFFFE) = true ∧
      t.get SOL_PHASE n.val = s.get SOL_PHASE n.val ∧
      (∀ k, k < 4 → k ≠ n.val → t.chan k = s.chan k) ∧
      s.SameMemory t) ∧
  (∀ (n : Fin 4) (tUs : Nat) (s : State),
    s.sol.length = 4 →
    (s.chan n.val).started = true →
    (s.chan n.val).peakDone = false →
    s.get SOL_PHASE n.val = 1 →
    s.get SOL_T_PEAK n.val ≠ 0 →
    (s.chan n.val).sw = 1 →
    (s.get SOL_TPK_EN n.val = 0 ∨ s.get SOL_TPK_MIN n.val ≤ tUs) →
    ∃ t, exec (.peakCurrentReached n tUs) s = .next t ∧
      t.get SOL_PHASE n.val = 2 ∧
      (t.chan n.val).sw = 0 ∧
      (t.chan n.val).dead = 2 ∧
      t.get SOL_T_TO_PEAK n.val = min tUs 0xFFFE ∧
      t.get BOOST_HOLDER ≠ n.val ∧
      (∀ k, k < 4 → k ≠ n.val → t.chan k = s.chan k) ∧
      s.SameBut t [] [SOL_PHASE.key n.val 0, BOOST_HOLDER.key 0 0, SOL_T_TO_PEAK.key n.val 0] ∧
      s.SameMemory t) ∧
  (∀ (n : Fin 4) (tUs : Nat) (s : State),
    (s.chan n.val).started = false →
    exec (.peakCurrentReached n tUs) s = .next (s)) ∧
  (∀ (m : Master) (n : Fin 4) (s : State),
    s.accepts m.num (solPage n.val) 0x078 1 = true →
    s.sol.length = 4 →
    s.get SOL_PHASE n.val = 0 →
    s.get SOL_PENDING n.val = 0 →
    (s.chan n.val).watch = false →
    ((s.chan n.val).minOff = false ∨ s.get SOL_RETRIG n.val = 1) →
    ((s.chan n.val).off).waitsBat = true →
    s.get SOL_T_BOOST_MAX n.val = 0 →
    (s.get SOL_T_PEAK n.val ≠ 0 ∨ s.hasHold n.val = true) →
    ∃ t, exec (.solFire m n) s = .next t ∧
      (t.get SOL_PHASE n.val = (if s.get SOL_T_PEAK n.val ≠ 0 then 2 else 3)) ∧
      (t.chan n.val).sw = 0 ∧
      (t.chan n.val).dead = 2 ∧
      (t.chan n.val).started = false ∧
      t.get SOL_FIRES n.val = s.get SOL_FIRES n.val ∧
      (∀ k, k < 4 → k ≠ n.val → t.chan k = s.chan k) ∧
      s.SameBut t [solPage n.val] lastKeys ∧
      s.SameMemory t) ∧
  (∀ (m : Master) (n : Fin 4) (s : State),
    s.accepts m.num (solPage n.val) 0x078 1 = true →
    s.sol.length = 4 →
    s.get SOL_PHASE n.val = 0 →
    s.get SOL_PENDING n.val = 0 →
    (s.chan n.val).watch = false →
    ((s.chan n.val).minOff = false ∨ s.get SOL_RETRIG n.val = 1) →
    s.get SOL_T_BOOST_MAX n.val ≠ 0 →
    ((s.chan n.val).off).waitsBst = true →
    (s.get BOOST_HOLDER = n.val ∨ (s.get BOOST_HOLDER = 7 ∧ s.railFirst n.val = true)) →
    (s.get SOL_BNR_EN n.val = 0 ∨ s.get BOOST_READY = 1) →
    ∃ t, exec (.solFire m n) s = .next t ∧
      t.get SOL_PHASE n.val = 1 ∧
      (t.chan n.val).sw = 0 ∧
      (t.chan n.val).dead = 1 ∧
      t.get BOOST_HOLDER = n.val ∧
      (t.chan n.val).started = false ∧
      t.get SOL_FIRES n.val = s.get SOL_FIRES n.val ∧
      (∀ k, k < 4 → k ≠ n.val → t.chan k = s.chan k) ∧
      s.SameBut t [solPage n.val, 0x064] lastKeys ∧
      s.SameMemory t) ∧
  (∀ (n : Fin 4) (s : State),
    s.sol.length = 4 →
    (s.chan n.val).started = true →
    (s.chan n.val).minOff = false →
    (s.chan n.val).watch = false →
    s.get SOL_PHASE n.val = 3 →
    s.holdUntil n.val = false →
    s.on SOL_PENDING n.val = true →
    s.get SOL_RETRIG n.val = 0 →
    s.get SOL_T_MIN_OFF n.val = 0 →
    s.get SOL_T_BOOST_MAX n.val = 0 →
    s.get SOL_T_PEAK n.val ≠ 0 →
    ((s.chan n.val).off).waitsBat = true →
    ∃ t, exec (.phaseTimerExpire n) s = .next t ∧
      t.get SOL_PHASE n.val = 2 ∧
      (t.chan n.val).sw = 0 ∧
      (t.chan n.val).dead = 2 ∧
      t.get SOL_PENDING n.val = 0 ∧
      (t.chan n.val).started = false ∧
      t.get SOL_FIRES n.val = s.get SOL_FIRES n.val ∧
      (∀ k, k < 4 → k ≠ n.val → t.chan k = s.chan k) ∧
      s.SameBut t [solPage n.val] [BOOST_HOLDER.key 0 0] ∧
      s.SameMemory t)

/-- In PEAK and HOLD, outside the dead time and the current check's watch, a switch that is on turns off at I >= target, and one
that is off turns on at I <= target - I_HYST; elsewhere a current sample changes nothing. The dead time ends with the switch
that was asked for on, which begins a profile that has not begun, during the watch with both off. A minimum off time ends, and a
pending command starts. Motion in the open window with a switch on records T_MOTION and MOTION; a window that closes without it
gives T_MOTION 0xFFFF and MOT_MISS; with the motion detector done neither changes anything. A peak that is late gives T_TO_PEAK
0xFFFF, the TPK flag and event, and with TPK_ABORT ends the profile; where none is awaited nothing changes. -/
def Obligations.ActuatorTimings : Prop :=
  (∀ (n : Fin 4) (mA : Nat) (s : State),
    s.sol.length = 4 →
    (s.get SOL_PHASE n.val = 2 ∨ s.get SOL_PHASE n.val = 3) →
    (s.chan n.val).dead = 0 →
    (s.chan n.val).watch = false →
    (s.chan n.val).sw = 2 →
    ((if s.get SOL_PHASE n.val = 2 then s.get SOL_I_PEAK n.val else s.get SOL_I_HOLD n.val) ≤ mA) →
    exec (.chopSwitch n mA) s = .next (s.setChan n.val { s.chan n.val with sw := 0, chopOff := true })) ∧
  (∀ (n : Fin 4) (mA : Nat) (s : State),
    s.sol.length = 4 →
    (s.get SOL_PHASE n.val = 2 ∨ s.get SOL_PHASE n.val = 3) →
    (s.chan n.val).dead = 0 →
    (s.chan n.val).watch = false →
    (s.chan n.val).sw = 0 →
    (mA + s.get SOL_I_HYST n.val ≤ (if s.get SOL_PHASE n.val = 2 then s.get SOL_I_PEAK n.val else s.get SOL_I_HOLD n.val)) →
    exec (.chopSwitch n mA) s = .next (s.setChan n.val { s.chan n.val with sw := 2, chopOff := false })) ∧
  (∀ (n : Fin 4) (mA : Nat) (s : State),
    ((s.get SOL_PHASE n.val ≠ 2 ∧ s.get SOL_PHASE n.val ≠ 3) ∨ (s.chan n.val).dead ≠ 0 ∨ (s.chan n.val).watch = true ∨ (s.chan
      n.val).sw = 1 ∨
        ((s.chan n.val).sw = 2 ∧ mA < (if s.get SOL_PHASE n.val = 2 then s.get SOL_I_PEAK n.val else s.get SOL_I_HOLD n.val)) ∨
        ((s.chan n.val).sw = 0 ∧ (if s.get SOL_PHASE n.val = 2 then s.get SOL_I_PEAK n.val else s.get SOL_I_HOLD n.val) < mA +
          s.get SOL_I_HYST n.val)) →
    exec (.chopSwitch n mA) s = .next (s)) ∧
  (∀ (n : Fin 4) (s : State),
    s.sol.length = 4 →
    (s.chan n.val).dead = 2 →
    (s.chan n.val).started = true →
    (s.chan n.val).watch = false →
    exec (.deadTimeEnd n) s = .next (s.setChan n.val
      { s.chan n.val with dead := 0, sw := if (s.chan n.val).chopOff then 0 else 2 })) ∧
  (∀ (n : Fin 4) (s : State),
    s.sol.length = 4 →
    (s.chan n.val).dead = 1 →
    (s.chan n.val).watch = false →
    ∃ t, exec (.deadTimeEnd n) s = .next t ∧
      (t.chan n.val).sw = 1 ∧
      (t.chan n.val).dead = 0 ∧
      (t.chan n.val).started = true ∧
      t.get SOL_FIRES n.val = min (s.get SOL_FIRES n.val + 1) (2 ^ SOL_FIRES.wid - 1) ∧
      t.get SOL_T_MOTION n.val = 0xFFFF ∧
      t.get SOL_T_TO_PEAK n.val = 0xFFFF ∧
      (∀ k, k < 4 → k ≠ n.val → t.chan k = s.chan k) ∧
      s.SameBut t [] [SOL_FIRES.key n.val 0, SOL_T_MOTION.key n.val 0, SOL_T_TO_PEAK.key n.val 0, SOL_MOTION.key n.val 0] ∧
      s.SameMemory t) ∧
  (∀ (n : Fin 4) (s : State),
    s.sol.length = 4 →
    ((s.chan n.val).watch = true ∨ (s.chan n.val).dead = 0) →
    ∃ t, exec (.deadTimeEnd n) s = .next t ∧
      (t.chan n.val).dead = 0 ∧
      (t.chan n.val).sw = (s.chan n.val).sw ∧
      (t.chan n.val).started = (s.chan n.val).started ∧
      (∀ k, k < 4 → k ≠ n.val → t.chan k = s.chan k) ∧
      s.SameBut t [] [] ∧
      s.SameMemory t) ∧
  (∀ (n : Fin 4) (s : State),
    s.sol.length = 4 →
    (s.chan n.val).minOff = true →
    s.get SOL_PENDING n.val = 0 →
    exec (.minOffEnd n) s = .next (s.setChan n.val { s.chan n.val with minOff := false })) ∧
  (∀ (n : Fin 4) (s : State),
    s.sol.length = 4 →
    (s.chan n.val).minOff = true →
    (s.chan n.val).watch = false →
    s.on SOL_PENDING n.val = true →
    s.get SOL_PHASE n.val = 0 →
    s.get SOL_T_BOOST_MAX n.val = 0 →
    s.get SOL_T_PEAK n.val ≠ 0 →
    ((s.chan n.val).off).waitsBat = false →
    ∃ t, exec (.minOffEnd n) s = .next t ∧
      t.get SOL_PHASE n.val = 2 ∧
      (t.chan n.val).sw = 2 ∧
      (t.chan n.val).started = true ∧
      (t.chan n.val).minOff = false ∧
      t.get SOL_PENDING n.val = 0 ∧
      t.get SOL_FIRES n.val = min (s.get SOL_FIRES n.val + 1) (2 ^ SOL_FIRES.wid - 1) ∧
      (∀ k, k < 4 → k ≠ n.val → t.chan k = s.chan k) ∧
      s.SameBut t [solPage n.val] [] ∧
      s.SameMemory t) ∧
  (∀ (n : Fin 4) (s : State),
    (s.chan n.val).minOff = false →
    exec (.minOffEnd n) s = .next (s)) ∧
  (∀ (n : Fin 4) (tUs : Nat) (s : State),
    s.sol.length = 4 →
    (s.chan n.val).started = true →
    (s.chan n.val).sw ≠ 0 →
    (s.chan n.val).motDone = false →
    s.get SOL_MOT_WIN_START n.val ≤ tUs →
    tUs ≤ s.get SOL_MOT_WIN_END n.val →
    (s.isShut n.val = false ∨ (s.nuc.form = 0 ∧ s.nuc.bootPulse = false)) →
    ∃ t, exec (.motionDetect n tUs) s = .next t ∧
      t.get SOL_T_MOTION n.val = min tUs 0xFFFE ∧
      t.get SOL_MOTION n.val = 1 ∧
      (t.chan n.val).motDone = true ∧
      (t.chan n.val).sw = (s.chan n.val).sw ∧
      (∀ k, k < 4 → k ≠ n.val → t.chan k = s.chan k) ∧
      s.SameBut t [] [SOL_MOTION.key n.val 0, SOL_T_MOTION.key n.val 0] ∧
      s.SameMemory t) ∧
  (∀ (n : Fin 4) (tUs : Nat) (s : State),
    s.sol.length = 4 →
    s.get HDR_EN 0x065 = 1 →
    s.nuc.form ≠ 0 →
    s.nuc.closed = false →
    s.nuc.opening = false →
    s.get SHUT_SETTLE_US ≠ 0 →
    n.val = s.get SHUT_CH_CLOSE →
    (s.chan n.val).started = true →
    (s.chan n.val).sw ≠ 0 →
    (s.chan n.val).motDone = false →
    s.get SOL_MOT_WIN_START n.val ≤ tUs →
    tUs ≤ s.get SOL_MOT_WIN_END n.val →
    ∃ t, exec (.motionDetect n tUs) s = .next t ∧
      t.get SOL_T_MOTION n.val = min tUs 0xFFFE ∧
      t.get SOL_MOTION n.val = 1 ∧
      t.nuc = { s.nuc with closed := true } ∧
      t.get SHUT_T_LAST_CLOSE = min tUs 0xFFFE ∧
      s.SameMemory t) ∧
  (∀ (n : Fin 4) (tUs : Nat) (s : State),
    ((s.chan n.val).started = false ∨ (s.chan n.val).sw = 0 ∨ (s.chan n.val).motDone = true ∨ tUs < s.get SOL_MOT_WIN_START n.val
      ∨ s.get SOL_MOT_WIN_END n.val < tUs) →
    exec (.motionDetect n tUs) s = .next (s)) ∧
  (∀ (n : Fin 4) (s : State),
    s.sol.length = 4 →
    (s.chan n.val).motDone = false →
    ∃ t, exec (.motWindowClose n) s = .next t ∧
      t.get SOL_T_MOTION n.val = 0xFFFF ∧
      t.get SOL_FLAGS n.val = (s.get SOL_FLAGS n.val ||| 16) % 2 ^ SOL_FLAGS.wid ∧
      bitAt (t.get HDR_INT_RAW (solPage n.val)) 4 = true ∧
      (t.chan n.val).motDone = true ∧
      (t.chan n.val).sw = (s.chan n.val).sw ∧
      (∀ k, k < 4 → k ≠ n.val → t.chan k = s.chan k) ∧
      s.SameBut t [] [SOL_FLAGS.key n.val 0, SOL_T_MOTION.key n.val 0, HDR_INT_RAW.key (solPage n.val) 0] ∧
      s.SameMemory t) ∧
  (∀ (n : Fin 4) (s : State),
    (s.chan n.val).motDone = true →
    exec (.motWindowClose n) s = .next (s)) ∧
  (∀ (n : Fin 4) (s : State),
    s.sol.length = 4 →
    (s.chan n.val).started = true →
    (s.chan n.val).peakDone = false →
    s.get SOL_TPK_EN n.val = 1 →
    s.get SOL_TPK_MAX n.val ≠ 0 →
    s.get SOL_TPK_ABORT n.val = 0 →
    s.coreOn = true →
    ∃ t, exec (.tpkOut n) s = .next t ∧
      t.get SOL_T_TO_PEAK n.val = 0xFFFF ∧
      (t.chan n.val).peakDone = true ∧
      t.get SOL_PHASE n.val = s.get SOL_PHASE n.val ∧
      t.get SOL_FLAGS n.val = (s.get SOL_FLAGS n.val ||| 2) % 2 ^ SOL_FLAGS.wid ∧
      bitAt (t.get HDR_INT_RAW (solPage n.val)) 4 = true ∧
      t.lastEvent (solEvent n.val 0x13) 0xFFFF = true ∧
      (∀ k, k < 4 → k ≠ n.val → t.chan k = s.chan k) ∧
      s.SameMemory t) ∧
  (∀ (n : Fin 4) (s : State),
    s.sol.length = 4 →
    (s.chan n.val).started = true →
    (s.chan n.val).peakDone = false →
    s.get SOL_TPK_EN n.val = 1 →
    s.get SOL_TPK_MAX n.val ≠ 0 →
    s.get SOL_TPK_ABORT n.val = 1 →
    s.get SOL_PENDING n.val = 0 →
    ∃ t, exec (.tpkOut n) s = .next t ∧
      t.get SOL_T_TO_PEAK n.val = 0xFFFF ∧
      t.get SOL_PHASE n.val = 0 ∧
      (t.chan n.val).sw = 0 ∧
      (t.chan n.val).started = false ∧
      (∀ k, k < 4 → k ≠ n.val → t.chan k = s.chan k) ∧
      s.SameMemory t) ∧
  (∀ (n : Fin 4) (s : State),
    ((s.chan n.val).started = false ∨ (s.chan n.val).peakDone = true ∨ s.get SOL_TPK_EN n.val = 0 ∨ s.get SOL_TPK_MAX n.val = 0) →
    exec (.tpkOut n) s = .next (s)) ∧
  (∀ (n : Fin 4) (s : State),
    s.sol.length = 4 →
    (s.chan n.val).dead = 2 →
    (s.chan n.val).started = false →
    (s.chan n.val).watch = false →
    ∃ t, exec (.deadTimeEnd n) s = .next t ∧
      (t.chan n.val).sw = 2 ∧
      (t.chan n.val).dead = 0 ∧
      (t.chan n.val).started = true ∧
      t.get SOL_FIRES n.val = min (s.get SOL_FIRES n.val + 1) (2 ^ SOL_FIRES.wid - 1) ∧
      t.get SOL_T_MOTION n.val = 0xFFFF ∧
      t.get SOL_T_TO_PEAK n.val = 0xFFFF ∧
      (∀ k, k < 4 → k ≠ n.val → t.chan k = s.chan k) ∧
      s.SameBut t [] [SOL_FIRES.key n.val 0, SOL_T_MOTION.key n.val 0, SOL_T_TO_PEAK.key n.val 0, SOL_MOTION.key n.val 0] ∧
      s.SameMemory t)

/-- A free rail is granted to the waiting channel of the best rank, which starts BOOST or waits for readiness; to another
channel, or while it is held, nothing is granted. A channel whose wait ends without the rail is refused, counted, flagged and
logged with the holder. A holder whose readiness does not come falls back to VBAT, through a dead time that is owed, or ends, as
BNR_FALLBACK says. A measured VBST is shown; at 90 % of VSET it sets READY, and the channel that waited for it starts BOOST;
below 85 % it clears READY. Overvoltage sets OV and is logged once; below VSET + 1.0 V OV clears. ON_DEMAND stops an idle
controller. A start without READY fails, stops the controller and is logged; FAULT_CLR clears it. A wait that is not there, a
controller that is needed and a start that did not fail change nothing. -/
def Obligations.BoostRail : Prop :=
  (∀ (n : Fin 4) (s : State),
    s.sol.length = 4 →
    s.get BOOST_HOLDER = 7 →
    s.railNext = some n.val →
    (s.get SOL_BNR_EN n.val = 0 ∨ s.get BOOST_READY = 1) →
    (s.chan n.val).sw = 0 →
    (s.chan n.val).dead = 0 →
    ∃ t, exec (.railGrant n) s = .next t ∧
      t.get BOOST_HOLDER = n.val ∧
      t.get SOL_PHASE n.val = 1 ∧
      (t.chan n.val).sw = 1 ∧
      (t.chan n.val).wait = 0 ∧
      (t.chan n.val).started = true ∧
      t.get SOL_FIRES n.val = min (s.get SOL_FIRES n.val + 1) (2 ^ SOL_FIRES.wid - 1) ∧
      (∀ k, k < 4 → k ≠ n.val → t.chan k = s.chan k) ∧
      s.SameBut t [solPage n.val] [BOOST_HOLDER.key 0 0] ∧
      s.SameMemory t) ∧
  (∀ (n : Fin 4) (s : State),
    s.sol.length = 4 →
    s.get BOOST_HOLDER = 7 →
    s.railNext = some n.val →
    s.get SOL_BNR_EN n.val = 1 →
    s.get BOOST_READY = 0 →
    s.get SOL_T_BST_WAIT n.val ≠ 0 →
    ∃ t, exec (.railGrant n) s = .next t ∧
      t.get BOOST_HOLDER = n.val ∧
      t.get SOL_PHASE n.val = 4 ∧
      (t.chan n.val).sw = 0 ∧
      (t.chan n.val).wait = 2 ∧
      (∀ k, k < 4 → k ≠ n.val → t.chan k = s.chan k) ∧
      s.SameBut t [solPage n.val] [BOOST_HOLDER.key 0 0] ∧
      s.SameMemory t) ∧
  (∀ (n : Fin 4) (s : State),
    (s.get BOOST_HOLDER ≠ 7 ∨ s.railNext ≠ some n.val) →
    exec (.railGrant n) s = .next (s)) ∧
  (∀ (n : Fin 4) (s : State),
    s.sol.length = 4 →
    (s.chan n.val).wait = 1 →
    s.isShut n.val = false →
    s.coreOn = true →
    s.get BOOST_HOLDER < 8 →
    s.get BOOST_HOLDER ≠ n.val →
    ∃ t, exec (.railRefused n) s = .next t ∧
      t.get SOL_PHASE n.val = 0 ∧
      (t.chan n.val).wait = 0 ∧
      (t.chan n.val).sw = 0 ∧
      t.get SOL_BST_REFUSALS n.val = min (s.get SOL_BST_REFUSALS n.val + 1) (2 ^ SOL_BST_REFUSALS.wid - 1) ∧
      t.get SOL_FLAGS n.val = (s.get SOL_FLAGS n.val ||| 8) % 2 ^ SOL_FLAGS.wid ∧
      t.get HDR_ERR_CODE (solPage n.val) = cBUSY ∧
      t.get HDR_ERR_MASTER (solPage n.val) = (s.chan n.val).firedBy % 2 ^ HDR_ERR_MASTER.wid ∧
      t.get HDR_ERR_OFFSET (solPage n.val) = 0x078 ∧
      t.lastEvent 0x6414 (n.val + s.get BOOST_HOLDER * 16) = true ∧
      (∀ k, k < 4 → k ≠ n.val → t.chan k = s.chan k) ∧
      s.SameMemory t) ∧
  (∀ (n : Fin 4) (s : State),
    ((s.chan n.val).wait ≠ 1 ∨ s.isShut n.val = true) →
    exec (.railRefused n) s = .next (s)) ∧
  (∀ (n : Fin 4) (s : State),
    s.sol.length = 4 →
    (s.chan n.val).wait = 2 →
    s.on SOL_BNR_FALLBACK n.val = false →
    s.coreOn = true →
    s.get BOOST_HOLDER = n.val →
    ∃ t, exec (.bstNotReady n) s = .next t ∧
      t.get SOL_PHASE n.val = 0 ∧
      (t.chan n.val).wait = 0 ∧
      (t.chan n.val).sw = 0 ∧
      t.get BOOST_HOLDER = 7 ∧
      t.get SOL_FLAGS n.val = (s.get SOL_FLAGS n.val ||| 4) % 2 ^ SOL_FLAGS.wid ∧
      t.lastEvent (solEvent n.val 0x12) 0 = true ∧
      (∀ k, k < 4 → k ≠ n.val → t.chan k = s.chan k) ∧
      s.SameMemory t) ∧
  (∀ (n : Fin 4) (s : State),
    s.sol.length = 4 →
    (s.chan n.val).wait = 2 →
    s.on SOL_BNR_FALLBACK n.val = true →
    s.get SOL_T_PEAK n.val ≠ 0 →
    ((s.chan n.val).off).waitsBat = false →
    s.coreOn = true →
    s.get BOOST_HOLDER = n.val →
    ∃ t, exec (.bstNotReady n) s = .next t ∧
      t.get SOL_PHASE n.val = 2 ∧
      (t.chan n.val).wait = 0 ∧
      (t.chan n.val).sw = 2 ∧
      (t.chan n.val).started = true ∧
      t.get BOOST_HOLDER = 7 ∧
      t.get SOL_FLAGS n.val = (s.get SOL_FLAGS n.val ||| 4) % 2 ^ SOL_FLAGS.wid ∧
      t.lastEvent (solEvent n.val 0x12) 1 = true ∧
      (∀ k, k < 4 → k ≠ n.val → t.chan k = s.chan k) ∧
      s.SameMemory t) ∧
  (∀ (n : Fin 4) (s : State),
    (s.chan n.val).wait ≠ 2 →
    exec (.bstNotReady n) s = .next (s)) ∧
  (∀ (vbst : Nat) (s : State),
    9 * s.get BOOST_VSET ≤ 10 * vbst →
    ((List.range 4).all (fun k => (s.chan k).wait != 2) = true) →
    ∃ t, exec (.boostReady vbst) s = .next t ∧
      t.get BOOST_VBST_NOW = vbst % 2 ^ BOOST_VBST_NOW.wid ∧
      t.get BOOST_READY = 1 ∧
      t.sol = s.sol ∧
      s.SameMemory t) ∧
  (∀ (vbst : Nat) (n : Fin 4) (s : State),
    s.sol.length = 4 →
    9 * s.get BOOST_VSET ≤ 10 * vbst →
    (s.chan n.val).wait = 2 →
    (s.chan n.val).sw = 0 →
    (s.chan n.val).dead = 0 →
    (∀ k ∈ List.range 4, k ≠ n.val → (s.chan k).wait ≠ 2) →
    ∃ t, exec (.boostReady vbst) s = .next t ∧
      t.get BOOST_READY = 1 ∧
      t.get SOL_PHASE n.val = 1 ∧
      (t.chan n.val).sw = 1 ∧
      (t.chan n.val).wait = 0 ∧
      (t.chan n.val).started = true ∧
      t.get SOL_FIRES n.val = min (s.get SOL_FIRES n.val + 1) (2 ^ SOL_FIRES.wid - 1) ∧
      (∀ k, k < 4 → k ≠ n.val → t.chan k = s.chan k) ∧
      s.SameMemory t) ∧
  (∀ (vbst : Nat) (s : State),
    20 * vbst < 17 * s.get BOOST_VSET →
    ∃ t, exec (.boostReady vbst) s = .next t ∧
      t.get BOOST_VBST_NOW = vbst % 2 ^ BOOST_VBST_NOW.wid ∧
      t.get BOOST_READY = 0 ∧
      t.sol = s.sol ∧
      s.SameMemory t) ∧
  (∀ (vbst : Nat) (s : State),
    (s.get BOOST_VSET + 8 < vbst ∨ 248 < vbst) →
    s.get BOOST_OV = 0 →
    s.coreOn = true →
    ((List.range 4).all (fun k => (s.chan k).wait != 2) = true) →
    ∃ t, exec (.bstOvervolt vbst) s = .next t ∧
      t.get BOOST_VBST_NOW = vbst % 2 ^ BOOST_VBST_NOW.wid ∧
      t.get BOOST_OV = 1 ∧
      t.lastEvent 0x6411 vbst = true ∧
      t.sol = s.sol ∧
      s.SameMemory t) ∧
  (∀ (vbst : Nat) (s : State),
    (s.get BOOST_VSET + 8 < vbst ∨ 248 < vbst) →
    s.get BOOST_OV = 1 →
    ((List.range 4).all (fun k => (s.chan k).wait != 2) = true) →
    ∃ t, exec (.bstOvervolt vbst) s = .next t ∧
      t.get BOOST_VBST_NOW = vbst % 2 ^ BOOST_VBST_NOW.wid ∧
      t.get BOOST_OV = 1 ∧
      t.sol = s.sol ∧
      s.SameBut t [] [BOOST_VBST_NOW.key 0 0, BOOST_READY.key 0 0] ∧
      s.SameMemory t) ∧
  (∀ (vbst : Nat) (s : State),
    vbst < s.get BOOST_VSET + 4 →
    vbst ≤ 248 →
    ((List.range 4).all (fun k => (s.chan k).wait != 2) = true) →
    ∃ t, exec (.bstOvClear vbst) s = .next t ∧
      t.get BOOST_VBST_NOW = vbst % 2 ^ BOOST_VBST_NOW.wid ∧
      t.get BOOST_OV = 0 ∧
      t.sol = s.sol ∧
      s.SameBut t [] [BOOST_VBST_NOW.key 0 0, BOOST_READY.key 0 0, BOOST_OV.key 0 0] ∧
      s.SameMemory t) ∧
  (∀ (s : State),
    s.on BOOST_ON_DEMAND = true →
    s.get BOOST_HOLDER = 7 →
    ((List.range 4).all (fun k => (s.chan k).wait == 0) = true) →
    exec (.boostIdleStop) s = .next (s.put BOOST_RUN 0)) ∧
  (∀ (s : State),
    (s.on BOOST_ON_DEMAND = false ∨ s.get BOOST_HOLDER ≠ 7 ∨ (List.range 4).all (fun k => (s.chan k).wait == 0) = false) →
    exec (.boostIdleStop) s = .next (s)) ∧
  (∀ (vbst : Nat) (s : State),
    s.on BOOST_RUN = true →
    s.on BOOST_READY = false →
    s.get BOOST_START_MAX ≠ 0 →
    s.coreOn = true →
    ∃ t, exec (.bstStartFail vbst) s = .next t ∧
      t.get BOOST_START_FAIL = 1 ∧
      t.get BOOST_RUN = 0 ∧
      t.get BOOST_VBST_NOW = vbst % 2 ^ BOOST_VBST_NOW.wid ∧
      t.lastEvent 0x6410 vbst = true ∧
      s.SameMemory t) ∧
  (∀ (vbst : Nat) (s : State),
    (s.on BOOST_RUN = false ∨ s.on BOOST_READY = true ∨ s.get BOOST_START_MAX = 0) →
    exec (.bstStartFail vbst) s = .next (s)) ∧
  (∀ (m : Master) (s : State),
    s.accepts m.num 0x064 0x050 2 = true →
    ∃ t, exec (.boostFaultClr m) s = .next t ∧
      t.get BOOST_START_FAIL = 0 ∧
      t.get BOOST_RUN = bit (s.get HDR_EN 0x064 == 1 && !s.on BOOST_TRIP_STICKY && (!s.on BOOST_ON_DEMAND || s.railNeeded || s.on
        BOOST_RUN)) ∧
      t.sol = s.sol ∧
      s.SameBut t [] ([BOOST_START_FAIL.key 0 0, BOOST_RUN.key 0 0] ++ lastKeys) ∧
      s.SameMemory t) ∧
  (∀ (n : Fin 4) (s : State),
    s.sol.length = 4 →
    (s.chan n.val).wait = 2 →
    s.on SOL_BNR_FALLBACK n.val = true →
    s.get SOL_T_PEAK n.val ≠ 0 →
    ((s.chan n.val).off).waitsBat = true →
    s.coreOn = true →
    s.get BOOST_HOLDER = n.val →
    ∃ t, exec (.bstNotReady n) s = .next t ∧
      t.get SOL_PHASE n.val = 2 ∧
      (t.chan n.val).wait = 0 ∧
      (t.chan n.val).sw = 0 ∧
      (t.chan n.val).dead = 2 ∧
      (t.chan n.val).started = false ∧
      t.get BOOST_HOLDER = 7 ∧
      t.get SOL_FIRES n.val = s.get SOL_FIRES n.val ∧
      (∀ k, k < 4 → k ≠ n.val → t.chan k = s.chan k) ∧
      s.SameMemory t)

/-- With PD_SOL on, a low TRIP_N turns every switch and the controller off, ends every profile, sets TRIPPED, TRIP_STICKY and
the interrupt of each channel, and counts and logs a trip; with SHUT enabled it also faults the shutter. With PD_SOL off it is
only kept. Its rise starts the 10 us in which clears are ignored; a rise without a fall changes nothing. A clear written in time
clears the channel or the controller, an ignored one is flagged, counted and logged. A step of the model moves each coil
temperature by its equation and judges HOT; without HFRC it does not run. -/
def Obligations.TripAndCoils : Prop :=
  (∀ (s : State),
    s.sol.length = 4 →
    (s.pd 8 = 2 ∨ s.pd 8 = 3) →
    s.coreOn = true →
    s.get HDR_EN 0x065 = 0 →
    ∃ t, exec (.tripEvent) s = .next t ∧
      t.solc.tripLow = true ∧
      (∀ k, k < 4 → (t.chan k).sw = 0 ∧ (t.chan k).started = false ∧ t.get SOL_PHASE k = 0 ∧ t.get SOL_PENDING k = 0 ∧ t.get
        SOL_TRIPPED k = 1 ∧ t.get SOL_TRIP_STICKY k = 1 ∧ bitAt (t.get HDR_INT_RAW (solPage k)) 2 = true) ∧
      t.get BOOST_RUN = 0 ∧
      t.get BOOST_HOLDER = 7 ∧
      t.get BOOST_TRIP_STICKY = 1 ∧
      t.get BOOST_TRIPS = min (s.get BOOST_TRIPS + 1) (2 ^ BOOST_TRIPS.wid - 1) ∧
      t.get EVT_CODE 0 (s.get EVT_TOTAL % 256) = 0x6412 ∧
      s.SameMemory t) ∧
  (∀ (s : State),
    s.sol.length = 4 →
    (s.pd 8 = 2 ∨ s.pd 8 = 3) →
    s.get HDR_EN 0x065 = 1 →
    ∃ t, exec (.tripEvent) s = .next t ∧
      t.solc.tripLow = true ∧
      (∀ k, k < 4 → (t.chan k).sw = 0 ∧ (t.chan k).started = false ∧ t.get SOL_PHASE k = 0 ∧ t.get SOL_TRIPPED k = 1) ∧
      t.get BOOST_RUN = 0 ∧
      t.get BOOST_TRIP_STICKY = 1 ∧
      t.get SHUT_FAULTED ≠ 0 ∧
      t.nuc.form = 0 ∧
      s.SameMemory t) ∧
  (∀ (s : State),
    s.pd 8 ≠ 2 →
    s.pd 8 ≠ 3 →
    exec (.tripEvent) s = .next ({ s with solc := { s.solc with tripLow := true, tripRecent := false } })) ∧
  (∀ (s : State),
    s.solc.tripLow = true →
    exec (.tripRelease) s = .next ({ s with solc := { s.solc with tripLow := false, tripRecent := true } })) ∧
  (∀ (s : State),
    s.solc.tripLow = false →
    exec (.tripRelease) s = .next (s)) ∧
  (∀ (m : Master) (n : Fin 4) (s : State),
    s.accepts m.num (solPage n.val) 0x098 1 = true →
    s.solc.tripLow = false →
    s.solc.tripRecent = false →
    ∃ t, exec (.solTripClr m n) s = .next t ∧
      t.get SOL_TRIPPED n.val = 0 ∧
      t.get SOL_TRIP_STICKY n.val = 0 ∧
      t.sol = s.sol ∧
      s.SameBut t [] ([SOL_TRIPPED.key n.val 0, SOL_TRIP_STICKY.key n.val 0] ++ lastKeys) ∧
      s.SameMemory t) ∧
  (∀ (m : Master) (n : Fin 4) (s : State),
    s.accepts m.num (solPage n.val) 0x098 1 = true →
    (s.solc.tripLow = true ∨ s.solc.tripRecent = true) →
    s.coreOn = true →
    ∃ t, exec (.solTripClr m n) s = .next t ∧
      t.get SOL_TRIPPED n.val = s.get SOL_TRIPPED n.val ∧
      t.get SOL_TRIP_STICKY n.val = s.get SOL_TRIP_STICKY n.val ∧
      t.get SOL_TRIP_REJECTS n.val = min (s.get SOL_TRIP_REJECTS n.val + 1) (2 ^ SOL_TRIP_REJECTS.wid - 1) ∧
      bitAt (t.get SOL_FLAGS n.val) 0 = true ∧
      t.lastEvent (solEvent n.val 0x14) (t.get SOL_TRIP_REJECTS n.val) = true ∧
      t.sol = s.sol ∧
      s.SameMemory t) ∧
  (∀ (m : Master) (s : State),
    s.accepts m.num 0x064 0x050 1 = true →
    s.solc.tripLow = false →
    s.solc.tripRecent = false →
    ∃ t, exec (.boostTripClr m) s = .next t ∧
      t.get BOOST_TRIP_STICKY = 0 ∧
      t.get BOOST_RUN = bit (s.get HDR_EN 0x064 == 1 && !s.on BOOST_START_FAIL && (!s.on BOOST_ON_DEMAND || s.railNeeded || s.on
        BOOST_RUN)) ∧
      t.sol = s.sol ∧
      s.SameBut t [] ([BOOST_TRIP_STICKY.key 0 0, BOOST_RUN.key 0 0] ++ lastKeys) ∧
      s.SameMemory t) ∧
  (∀ (m : Master) (s : State),
    s.accepts m.num 0x064 0x050 1 = true →
    (s.solc.tripLow = true ∨ s.solc.tripRecent = true) →
    s.coreOn = true →
    ∃ t, exec (.boostTripClr m) s = .next t ∧
      t.get BOOST_TRIP_STICKY = s.get BOOST_TRIP_STICKY ∧
      t.get BOOST_TRIP_CLR_REJECT = 1 ∧
      t.get BOOST_TRIP_REJECTS = min (s.get BOOST_TRIP_REJECTS + 1) (2 ^ BOOST_TRIP_REJECTS.wid - 1) ∧
      t.lastEvent 0x6413 (t.get BOOST_TRIP_REJECTS) = true ∧
      s.SameMemory t) ∧
  (∀ (i0 i1 i2 i3 : Nat) (s : State),
    s.sol.length = 4 →
    s.yard.pstate < 3 →
    ∃ t, exec (.coilModelStep i0 i1 i2 i3) s = .next t ∧
      (∀ k, k < 4 → (t.chan k).tc = (coilNext (s.chan k).tc (s.chan k).frac s.housing ([i0, i1, i2, i3].getD k 0) (s.get
        SOL_COIL_R20 k) (s.get SOL_COIL_RTH k) (s.get SOL_COIL_TAU k)).1 ∧ (t.chan k).frac = (coilNext (s.chan k).tc (s.chan
        k).frac s.housing ([i0, i1, i2, i3].getD k 0) (s.get SOL_COIL_R20 k) (s.get SOL_COIL_RTH k) (s.get SOL_COIL_TAU k)).2) ∧
      (∀ k, k < 4 → (t.chan k).tc ≥ 16 * s.get SOL_COIL_TLIM k → t.get SOL_HOT k ≠ 0) ∧
      (∀ k, k < 4 → (t.chan k).tc < 16 * s.get SOL_COIL_TLIM k - 16 * (s.get SOL_COIL_THYS k : Nat) → t.get SOL_HOT k = 0) ∧
      s.SameMemory t) ∧
  (∀ (i0 i1 i2 i3 : Nat) (s : State),
    3 ≤ s.yard.pstate →
    exec (.coilModelStep i0 i1 i2 i3) s = .next (s))

/-- The current check turns the switches off and watches the path; with no switch on, or T_OPEN_DET 0, it does nothing. The
watch ends with LATCH 2, the coil temperature at its limit and the inhibit time where the path conducts, else with LATCH 1;
overcurrent with a switch on latches 3; each latch discards a pending command, turns the channel off, raises its interrupt and
is logged, and that of a shutter channel faults the shutter. Without a watch, or without a switch on, nothing latches. FAULT_CLR
clears the latch. -/
def Obligations.ActuatorFaults : Prop :=
  (∀ (n : Fin 4) (s : State),
    s.sol.length = 4 →
    (s.chan n.val).sw ≠ 0 →
    s.get SOL_T_OPEN_DET n.val ≠ 0 →
    exec (.currentCheckFire n) s = .next (s.setChan n.val { s.chan n.val with sw := 0, dead := 0, watch := true })) ∧
  (∀ (n : Fin 4) (s : State),
    ((s.chan n.val).sw = 0 ∨ s.get SOL_T_OPEN_DET n.val = 0) →
    exec (.currentCheckFire n) s = .next (s)) ∧
  (∀ (n : Fin 4) (conducts : Bool) (s : State),
    s.sol.length = 4 →
    (s.chan n.val).watch = true →
    s.coreOn = true →
    (s.shutChans.contains n.val = false ∨ s.get HDR_EN 0x065 = 0) →
    ∃ t, exec (.solLatch n conducts) s = .next t ∧
      (t.get SOL_LATCH n.val = (if conducts then 2 else 1)) ∧
      (t.chan n.val).sw = 0 ∧
      (t.chan n.val).watch = false ∧
      t.get SOL_PHASE n.val = 0 ∧
      t.get SOL_PENDING n.val = 0 ∧
      bitAt (t.get HDR_INT_RAW (solPage n.val)) 1 = true ∧
      (conducts = false ∨ s.get SOL_HOT n.val ≠ 0 → t.lastEvent (solEvent n.val 0x10) (if conducts then 2 else 1) = true) ∧
      (∀ k, k < 4 → k ≠ n.val → t.chan k = s.chan k) ∧
      (conducts = true → (t.chan n.val).tc = 16 * s.get SOL_COIL_TLIM n.val ∧ t.get SOL_HOT n.val ≠ 0 ∧ t.get SOL_INHIBIT_END
        n.val = (s.get YARD_SECONDS + (s.get SOL_COIL_TAU n.val + 1) / 2) % 2 ^ SOL_INHIBIT_END.wid) ∧
      s.SameMemory t) ∧
  (∀ (n : Fin 4) (conducts : Bool) (s : State),
    s.sol.length = 4 →
    (s.chan n.val).watch = true →
    s.shutChans.contains n.val = true →
    s.get HDR_EN 0x065 = 1 →
    ∃ t, exec (.solLatch n conducts) s = .next t ∧
      (t.get SOL_LATCH n.val = (if conducts then 2 else 1)) ∧
      (t.chan n.val).sw = 0 ∧
      (t.chan n.val).watch = false ∧
      t.get SOL_PHASE n.val = 0 ∧
      t.get SHUT_FAULTED ≠ 0 ∧
      t.nuc.form = 0 ∧
      s.SameMemory t) ∧
  (∀ (n : Fin 4) (conducts : Bool) (s : State),
    (s.chan n.val).watch = false →
    exec (.solLatch n conducts) s = .next (s)) ∧
  (∀ (n : Fin 4) (s : State),
    s.sol.length = 4 →
    (s.chan n.val).sw ≠ 0 →
    s.coreOn = true →
    (s.shutChans.contains n.val = false ∨ s.get HDR_EN 0x065 = 0) →
    ∃ t, exec (.overcurrentLimit n) s = .next t ∧
      t.get SOL_LATCH n.val = 3 ∧
      (t.chan n.val).sw = 0 ∧
      t.get SOL_PHASE n.val = 0 ∧
      t.get SOL_PENDING n.val = 0 ∧
      t.lastEvent (solEvent n.val 0x10) 3 = true ∧
      (∀ k, k < 4 → k ≠ n.val → t.chan k = s.chan k) ∧
      s.SameMemory t) ∧
  (∀ (n : Fin 4) (s : State),
    s.sol.length = 4 →
    (s.chan n.val).sw ≠ 0 →
    s.shutChans.contains n.val = true →
    s.get HDR_EN 0x065 = 1 →
    ∃ t, exec (.overcurrentLimit n) s = .next t ∧
      t.get SOL_LATCH n.val = 3 ∧
      (t.chan n.val).sw = 0 ∧
      t.get SOL_PHASE n.val = 0 ∧
      t.get SHUT_FAULTED ≠ 0 ∧
      t.nuc.form = 0 ∧
      s.SameMemory t) ∧
  (∀ (n : Fin 4) (s : State),
    (s.chan n.val).sw = 0 →
    exec (.overcurrentLimit n) s = .next (s)) ∧
  (∀ (m : Master) (n : Fin 4) (s : State),
    s.accepts m.num (solPage n.val) 0x098 2 = true →
    ∃ t, exec (.solFaultClr m n) s = .next t ∧
      t.get SOL_LATCH n.val = 0 ∧
      t.sol = s.sol ∧
      s.SameBut t [] ([SOL_LATCH.key n.val 0] ++ lastKeys) ∧
      s.SameMemory t)

/-- While the sensors convert: a conversion of TS2 or TS3 stores its reading and ends its bad mark, and where it stands for a
bad TS0 moves the band and counts towards the cut; one of TS1 stores the 34 points and the hottest; one of TS0 stores the
reading, raises TJ_PEAK to it and, unless it is found bad, counts towards the cut, moves the band with 2 K of hysteresis, the
first one after PD_CORE opened directly, and in a CAB sets TJ_HIGH from THR_START on. A sensor that does not complete is marked
bad, logged and raised, once. An NTC ratio in its range with a temperature in its range gives Thous; any other marks it bad and
keeps it, logged once. While they do not convert, nothing changes. TJ_PEAK_CLR gives TJ_PEAK 0x8000. -/
def Obligations.Temperatures : Prop :=
  (∀ (sensor : Fin 4) (reading : Int) (points : List Int) (s : State),
    s.sensing = true →
    2 ≤ sensor.val →
    -32768 ≤ reading →
    reading < 32768 →
    ∃ t, exec (.tempConversion sensor reading points) s = .next t ∧
      t.ts sensor.val = reading ∧
      t.tsBad sensor.val = false ∧
      (∀ k, k < 4 → k ≠ sensor.val → t.get (tsRow k) = s.get (tsRow k)) ∧
      (t.tjSensor ≠ sensor.val → t.band = s.band) ∧
      (t.tjSensor = sensor.val → s.band ≤ 4 → t.band = (if s.temp.first then bandDirect t.tj else bandFollow t.tj 8 s.band) ∧
        t.temp.first = false ∧ t.temp.hot = (if t.tj ≥ 2480 then s.temp.hot + 1 else 0)) ∧
      s.SameMemory t) ∧
  (∀ (reading : Int) (points : List Int) (s : State),
    s.sensing = true →
    points.length = 34 →
    ∃ t, exec (.tempConversion 1 reading points) s = .next t ∧
      t.get TEMP_TS1 = unsigned 16 (points.foldl max (points.headD reading)) ∧
      (∀ i, i < 34 → t.get CH_TCH i = unsigned 16 (points.getD i 0)) ∧
      t.band = s.band ∧
      s.SameMemory t) ∧
  (∀ (reading : Int) (points : List Int) (s : State),
    s.sensing = true →
    s.band ≤ 4 →
    -32768 ≤ reading →
    reading < 32768 →
    ∃ t, exec (.tempConversion 0 reading points) s = .next t ∧
      t.ts 0 = reading ∧
      (t.get TEMP_TJ_PEAK = (if reading > signed 16 (s.get TEMP_TJ_PEAK) then unsigned 16 reading else s.get TEMP_TJ_PEAK)) ∧
      (t.tsBad 0 = false → t.band = (if s.temp.first then bandDirect t.tj else bandFollow t.tj 8 s.band)) ∧
      (t.tsBad 0 = true → t.band = s.band) ∧
      (t.band ≠ s.band → t.get TEMP_BAND_PREV = s.band ∧ bitAt (t.get HDR_INT_RAW 0x004) 0 = true) ∧
      (t.tsBad 0 = false → t.temp.first = false) ∧
      (t.tsBad 0 = false → t.temp.hot = (if t.tj ≥ 2480 then s.temp.hot + 1 else 0)) ∧
      (t.tsBad 0 = false → s.role = CAB → t.temp.tjHigh = decide (t.tj ≥ (s.get TEMP_THR_START : Int))) ∧
      s.SameMemory t) ∧
  (∀ (sensor : Fin 4) (reading : Int) (points : List Int) (s : State),
    s.sensing = false →
    exec (.tempConversion sensor reading points) s = .next (s)) ∧
  (∀ (sensor : Fin 4) (s : State),
    s.sensing = true →
    s.tsBad sensor.val = false →
    s.coreOn = true →
    ∃ t, exec (.sensorTimeout sensor) s = .next t ∧
      t.tsBad sensor.val = true ∧
      t.lastEvent 0x0415 (2 ^ 15 + sensor.val) = true ∧
      bitAt (t.get HDR_INT_RAW 0x004) 2 = true ∧
      (∀ k, k < 4 → t.ts k = s.ts k) ∧
      (∀ k, k < 4 → k ≠ sensor.val → t.tsBad k = s.tsBad k) ∧
      s.SameMemory t) ∧
  (∀ (sensor : Fin 4) (s : State),
    (s.sensing = false ∨ s.tsBad sensor.val = true) →
    exec (.sensorTimeout sensor) s = .next (s)) ∧
  (∀ (code : Fin 4096) (s : State),
    s.sensing = true →
    s.on TEMP_AUX_EN = true →
    4096 ≤ code.val * 50 →
    code.val * 50 ≤ 49 * 4096 →
    -640 ≤ thousOf code.val (s.get TEMP_NTC_RPU) (s.get TEMP_NTC_R25) (s.get TEMP_NTC_BETA) →
    thousOf code.val (s.get TEMP_NTC_RPU) (s.get TEMP_NTC_R25) (s.get TEMP_NTC_BETA) ≤ 2400 →
    ∃ t, exec (.ntcConversion code) s = .next t ∧
      t.get TEMP_THOUS = unsigned 16 (thousOf code.val (s.get TEMP_NTC_RPU) (s.get TEMP_NTC_R25) (s.get TEMP_NTC_BETA)) ∧
      t.get TEMP_THOUS_BAD = 0 ∧
      t.temp.auxBad = false ∧
      s.SameBut t [] [TEMP_THOUS.key 0 0, TEMP_THOUS_BAD.key 0 0] ∧
      s.SameMemory t) ∧
  (∀ (code : Fin 4096) (s : State),
    s.sensing = true →
    (s.on TEMP_AUX_EN = false ∨ code.val * 50 < 4096 ∨ 49 * 4096 < code.val * 50 ∨ thousOf code.val (s.get TEMP_NTC_RPU) (s.get
      TEMP_NTC_R25) (s.get TEMP_NTC_BETA) < -640 ∨ 2400 < thousOf code.val (s.get TEMP_NTC_RPU) (s.get TEMP_NTC_R25) (s.get
      TEMP_NTC_BETA)) →
    ∃ t, exec (.ntcConversion code) s = .next t ∧
      t.get TEMP_THOUS = s.get TEMP_THOUS ∧
      t.get TEMP_THOUS_BAD = 1 ∧
      t.temp.auxBad = true ∧
      (s.temp.auxBad = false → s.coreOn = true → t.lastEvent 0x0416 code.val = true) ∧
      (s.temp.auxBad = true → t.get EVT_TOTAL = s.get EVT_TOTAL) ∧
      s.SameMemory t) ∧
  (∀ (code : Fin 4096) (s : State),
    s.sensing = false →
    exec (.ntcConversion code) s = .next (s)) ∧
  (∀ (m : Master) (s : State),
    s.accepts m.num 0x004 0x08C 1 = true →
    ∃ t, exec (.tjPeakClr m) s = .next t ∧
      t.get TEMP_TJ_PEAK = 0x8000 ∧
      s.SameBut t [] ([TEMP_TJ_PEAK.key 0 0] ++ lastKeys) ∧
      s.SameMemory t)

/-- Outside SAFE, a reset, L4 and a cut already under way, the comparator, two hot conversions or the loss of every die sensor
send the device to DORMANT with MODE_CAUSE 6, every profile off and the controller stopped, the bias at 0 and the event logged;
in L3 the device is in DORMANT at once where every domain is off, and else the entry waits for the last; during a boot the cut
waits for DONE, with what asked for it first. Without a cause, or in those states, nothing changes. The release ends the hold,
and takes the wakes that came meanwhile in an exit to START_MODE, or to SERVICE where a timer slot alone asked; without a hold
it changes nothing. -/
def Obligations.ThermalCut : Prop :=
  (∀ (comparator : Bool) (s : State),
    s.safe = false →
    s.boot.inReset = false →
    s.boot.booting = false →
    s.mode ≠ DORMANT →
    s.busy = false →
    (comparator = true ∨ 2 ≤ s.temp.hot ∨ s.allTsBad = true) →
    s.coreOn = true →
    ∃ t, exec (.thermalCut comparator) s = .next t ∧
      t.get YARD_MODE_TARGET = DORMANT ∧
      t.busy = true ∧
      t.get YARD_MODE_CAUSE = 6 ∧
      (∀ k, k < 4 → t.get SOL_PHASE k = 0 ∧ t.get SOL_PENDING k = 0) ∧
      t.get BOOST_RUN = 0 ∧
      t.fpa.on = false ∧
      t.get BIAS_VDET_NOW = 0 ∧
      t.get EVT_CODE 0 (s.get EVT_TOTAL % 256) = 0x0413 ∧
      t.get EVT_DATA 0 (s.get EVT_TOTAL % 256) = bit comparator * 2 ^ 15 + unsigned 12 (max 0 (s.ts 0))) ∧
  (∀ (comparator : Bool) (s : State),
    s.safe = false →
    s.boot.inReset = false →
    s.boot.booting = false →
    s.mode ≠ DORMANT →
    s.busy = false →
    (comparator = true ∨ 2 ≤ s.temp.hot ∨ s.allTsBad = true) →
    ((List.range 9).all (fun d => s.pd d == 0) = true) →
    ∃ t, exec (.thermalCut comparator) s = .next t ∧
      t.mode = DORMANT ∧
      t.yard.pstate = 4 ∧
      t.yard.cut = true ∧
      t.get YARD_MODE_CAUSE = 6 ∧
      t.busy = false) ∧
  (∀ (comparator : Bool) (s : State),
    s.safe = false →
    s.boot.inReset = false →
    s.boot.booting = true →
    (s.busy = false ∨ s.get YARD_MODE_CAUSE ≠ 6) →
    (comparator = true ∨ 2 ≤ s.temp.hot ∨ s.allTsBad = true) →
    exec (.thermalCut comparator) s = .next ({ s with boot := { s.boot with cut := some (s.boot.cut.getD comparator) } })) ∧
  (∀ (comparator : Bool) (s : State),
    (s.safe = true ∨ s.boot.inReset = true ∨ (s.mode = DORMANT ∧ s.yard.pstate = 4 ∧ s.boot.booting = false) ∨ (s.busy = true ∧
      s.get YARD_MODE_CAUSE = 6) ∨ (comparator = false ∧ s.temp.hot < 2 ∧ s.allTsBad = false)) →
    exec (.thermalCut comparator) s = .next (s)) ∧
  (∀ (s : State),
    s.yard.cut = true →
    s.mode = DORMANT →
    ∃ t, exec (.thermalRelease) s = .next t ∧
      t.yard.cut = false ∧
      t.yard.heldWakes = 0 ∧
      (s.yard.heldWakes = 0 → t = { s with yard := { s.yard with cut := false, heldWakes := 0 } }) ∧
      (s.yard.heldWakes ≠ 0 → t.yard.exit = some ⟨4, s.band, s.yard.heldWakes, (if bitAt s.yard.heldWakes 4 then some (s.get
        YARD_SLOT) else none), true, s.get YARD_START_MODE⟩ ∧ t.busy = true ∧
        t.get YARD_MODE_TARGET = (if s.yard.heldWakes = 16 then SERVICE else s.get YARD_START_MODE % 4)) ∧
      s.SameMemory t) ∧
  (∀ (s : State),
    (s.yard.cut = false ∨ s.mode ≠ DORMANT) →
    exec (.thermalRelease) s = .next (s)) ∧
  (∀ (comparator : Bool) (d : Nat) (s : State),
    s.safe = false →
    s.boot.inReset = false →
    s.boot.booting = false →
    s.mode ≠ DORMANT →
    s.busy = false →
    (comparator = true ∨ 2 ≤ s.temp.hot ∨ s.allTsBad = true) →
    s.pd 0 = 0 →
    2 ≤ d →
    d < 9 →
    s.pd d = 3 →
    ∃ t, exec (.thermalCut comparator) s = .next t ∧
      t.mode = s.mode ∧
      t.busy = true ∧
      t.get YARD_MODE_TARGET = DORMANT ∧
      t.get YARD_MODE_CAUSE = 6 ∧
      t.pd d = 3)

/-- A completed grid with lost data or with more invalid than valid bins is a bad frame, counted and logged with its reason; a
good one is counted, and while learning the background takes it and BG_READY follows LEARN_FRAMES, raised and logged when it
sets; once ready, EXCEED counts the exceeding armed bins: GLOBAL_MAX or more is a scene change that resets the background, below
COUNT_MIN the count of confirmations is cleared, and CONFIRM frames in a row outside the hold-off raise an alarm and begin the
hold-off where it has a time, fewer only count; in a debug halt, or with no completed grid, nothing is judged. The hold-off
ends; BG_RESET restarts learning. -/
def Obligations.SentryWatch : Prop :=
  (∀ (s : State),
    s.on PIN_TAP_HALT = false →
    s.sen.ready = true →
    s.sen.loss = true →
    s.coreOn = true →
    ∃ t, exec (.sentryEvaluate) s = .next t ∧
      t.get SENTRY_BAD_FRAMES = min (s.get SENTRY_BAD_FRAMES + 1) (2 ^ SENTRY_BAD_FRAMES.wid - 1) ∧
      t.lastEvent 0x5413 1 = true ∧
      t.sen.ready = false ∧
      t.sen.bg = s.sen.bg ∧
      t.get SENTRY_FRAMES = s.get SENTRY_FRAMES ∧
      t.get SENTRY_CONFIRM_CNT = s.get SENTRY_CONFIRM_CNT ∧
      s.SameMemory t ∧
      s.SameBut t [0x054, 0x006, 0x074] []) ∧
  (∀ (s : State),
    s.on PIN_TAP_HALT = false →
    s.sen.ready = true →
    s.sen.loss = false →
    s.sen.grid.length < 2 * (s.sen.grid.filter Option.isNone).length →
    s.coreOn = true →
    ∃ t, exec (.sentryEvaluate) s = .next t ∧
      t.get SENTRY_BAD_FRAMES = min (s.get SENTRY_BAD_FRAMES + 1) (2 ^ SENTRY_BAD_FRAMES.wid - 1) ∧
      t.lastEvent 0x5413 2 = true ∧
      t.sen.bg = s.sen.bg ∧
      t.get SENTRY_FRAMES = s.get SENTRY_FRAMES ∧
      s.SameMemory t ∧
      s.SameBut t [0x054, 0x006, 0x074] []) ∧
  (∀ (s : State),
    s.on PIN_TAP_HALT = false →
    s.sen.ready = true →
    s.sen.loss = false →
    2 * (s.sen.grid.filter Option.isNone).length ≤ s.sen.grid.length →
    s.get SENTRY_BG_READY = 0 →
    ∃ t, exec (.sentryEvaluate) s = .next t ∧
      t.get SENTRY_FRAMES = min (s.get SENTRY_FRAMES + 1) (2 ^ SENTRY_FRAMES.wid - 1) ∧
      t.sen.learned = s.sen.learned + 1 ∧
      t.sen.bg = (s.adaptAll true (s.sen.learned = 0)).sen.bg ∧
      t.get SENTRY_BG_READY = bit (decide (s.get SENTRY_LEARN_FRAMES ≤ s.sen.learned + 1)) ∧
      (s.get SENTRY_LEARN_FRAMES ≤ s.sen.learned + 1 → bitAt (t.get HDR_INT_RAW 0x054) 2 = true ∧ (s.coreOn = true → t.lastEvent
        0x5412 0 = true)) ∧
      (s.sen.learned = 0 → s.sen.grid.length = 2 → t.sen.bg = [if (s.sen.grid.getD 0 none).isSome then s.sen.grid.getD 0 none else
        s.sen.bg.getD 0 none, if (s.sen.grid.getD 1 none).isSome then s.sen.grid.getD 1 none else s.sen.bg.getD 1 none]) ∧
      s.SameMemory t ∧
      s.SameBut t [0x054, 0x006, 0x074] []) ∧
  (∀ (s : State),
    s.on PIN_TAP_HALT = false →
    s.sen.ready = true →
    s.sen.loss = false →
    2 * (s.sen.grid.filter Option.isNone).length ≤ s.sen.grid.length →
    s.get SENTRY_BG_READY = 1 →
    s.get SENTRY_GLOBAL_MAX ≠ 0 →
    s.get SENTRY_GLOBAL_MAX ≤ s.exceedCount →
    ∃ t, exec (.sentryEvaluate) s = .next t ∧
      t.get SENTRY_FRAMES = min (s.get SENTRY_FRAMES + 1) (2 ^ SENTRY_FRAMES.wid - 1) ∧
      t.get SENTRY_EXCEED = s.exceedCount % 2 ^ SENTRY_EXCEED.wid ∧
      t.get SENTRY_SCENE_CHANGES = min (s.get SENTRY_SCENE_CHANGES + 1) (2 ^ SENTRY_SCENE_CHANGES.wid - 1) ∧
      bitAt (t.get HDR_INT_RAW 0x054) 1 = true ∧
      t.get SENTRY_BG_READY = 0 ∧
      t.get SENTRY_CONFIRM_CNT = 0 ∧
      t.sen.learned = 0 ∧
      t.sen.bg = [] ∧
      t.get SENTRY_ALARMS = s.get SENTRY_ALARMS ∧
      s.SameMemory t ∧
      s.SameBut t [0x054, 0x006, 0x074] []) ∧
  (∀ (s : State),
    s.on PIN_TAP_HALT = false →
    s.sen.ready = true →
    s.sen.loss = false →
    2 * (s.sen.grid.filter Option.isNone).length ≤ s.sen.grid.length →
    s.get SENTRY_BG_READY = 1 →
    (s.get SENTRY_GLOBAL_MAX = 0 ∨ s.exceedCount < s.get SENTRY_GLOBAL_MAX) →
    s.exceedCount < s.get SENTRY_COUNT_MIN →
    ∃ t, exec (.sentryEvaluate) s = .next t ∧
      t.get SENTRY_FRAMES = min (s.get SENTRY_FRAMES + 1) (2 ^ SENTRY_FRAMES.wid - 1) ∧
      t.get SENTRY_EXCEED = s.exceedCount % 2 ^ SENTRY_EXCEED.wid ∧
      t.get SENTRY_CONFIRM_CNT = 0 ∧
      t.get SENTRY_BG_READY = 1 ∧
      t.sen.bg = (s.adaptAll false false).sen.bg ∧
      s.SameBut t [] [SENTRY_FRAMES.key 0 0, SENTRY_EXCEED.key 0 0, SENTRY_CONFIRM_CNT.key 0 0] ∧
      s.SameMemory t) ∧
  (∀ (s : State),
    s.on PIN_TAP_HALT = false →
    s.sen.ready = true →
    s.sen.loss = false →
    2 * (s.sen.grid.filter Option.isNone).length ≤ s.sen.grid.length →
    s.get SENTRY_BG_READY = 1 →
    (s.get SENTRY_GLOBAL_MAX = 0 ∨ s.exceedCount < s.get SENTRY_GLOBAL_MAX) →
    s.get SENTRY_COUNT_MIN ≤ s.exceedCount →
    s.get SENTRY_CONFIRM ≤ min 15 (s.get SENTRY_CONFIRM_CNT + 1) →
    s.get SENTRY_HOLDOFF = 0 →
    s.boot.booting = false →
    ∃ t, exec (.sentryEvaluate) s = .next t ∧
      t.get SENTRY_ALARM = 1 ∧
      t.get SENTRY_HOLDOFF = bit (s.get SENTRY_HOLDOFF_S != 0) ∧
      t.get SENTRY_CONFIRM_CNT = 0 ∧
      t.get SENTRY_ALARMS = min (s.get SENTRY_ALARMS + 1) (2 ^ SENTRY_ALARMS.wid - 1) ∧
      bitAt (t.get HDR_INT_RAW 0x054) 0 = true ∧
      t.sen.bg = (s.adaptAll false false).sen.bg ∧
      (s.mode = SENTRY → s.on YARD_ALARM_LIVE = true → s.busy = false → s.yard.trans = none → s.yard.exit = none → t.get
        YARD_MODE_TARGET = LIVE ∧ t.get YARD_MODE_CAUSE = 5 ∧ t.busy = true) ∧
      s.SameMemory t) ∧
  (∀ (s : State),
    s.on PIN_TAP_HALT = false →
    s.sen.ready = true →
    s.sen.loss = false →
    2 * (s.sen.grid.filter Option.isNone).length ≤ s.sen.grid.length →
    s.get SENTRY_BG_READY = 1 →
    (s.get SENTRY_GLOBAL_MAX = 0 ∨ s.exceedCount < s.get SENTRY_GLOBAL_MAX) →
    s.get SENTRY_COUNT_MIN ≤ s.exceedCount →
    (min 15 (s.get SENTRY_CONFIRM_CNT + 1) < s.get SENTRY_CONFIRM ∨ s.get SENTRY_HOLDOFF = 1) →
    ∃ t, exec (.sentryEvaluate) s = .next t ∧
      t.get SENTRY_CONFIRM_CNT = min 15 (s.get SENTRY_CONFIRM_CNT + 1) ∧
      t.get SENTRY_FRAMES = min (s.get SENTRY_FRAMES + 1) (2 ^ SENTRY_FRAMES.wid - 1) ∧
      t.sen.bg = (s.adaptAll false false).sen.bg ∧
      s.SameBut t [] [SENTRY_FRAMES.key 0 0, SENTRY_EXCEED.key 0 0, SENTRY_CONFIRM_CNT.key 0 0] ∧
      s.SameMemory t) ∧
  (∀ (s : State),
    (s.on PIN_TAP_HALT = true ∨ s.sen.ready = false) →
    exec (.sentryEvaluate) s = .next (s)) ∧
  (∀ (s : State),
    exec (.sentryHoldoffExpire) s = .next (s.put SENTRY_HOLDOFF 0)) ∧
  (∀ (m : Master) (s : State),
    s.accepts m.num 0x054 0x050 1 = true →
    ∃ t, exec (.bgReset m) s = .next t ∧
      t.get SENTRY_BG_READY = 0 ∧
      t.get SENTRY_CONFIRM_CNT = 0 ∧
      t.sen.learned = 0 ∧
      t.sen.bg = [] ∧
      s.SameBut t [] ([SENTRY_BG_READY.key 0 0, SENTRY_CONFIRM_CNT.key 0 0] ++ lastKeys) ∧
      s.SameMemory t)

/-- A write of a port's CTRL stores EN: its domain opens where it was off and is wanted, and closes where it was on and no
longer is. The soft start ends in base training. First lock sends the capability message, at a head with its FRESH and POR
flags, and waits for the choice. A cab that hears no capabilities takes the peer for a legacy TL1 head and trains TL1, or waits
without a common generation, which is logged. In another state, or at a head for the last, nothing changes. Where it is asked
for, every port domain that opens is wanted, as in every state that a run reaches. -/
def Obligations.LinkNegotiation : Prop :=
  (∀ (m : Master) (n : Fin 4) (en : Bool) (s : State),
    s.link.length = 4 →
    (s.port 0).held = [] →
    s.accepts m.num (linkPage n.val) 0x008 (bit en) = true →
    ∃ t, exec (.linkCtrlEn m n en) s = .next t ∧
      t.get HDR_EN (linkPage n.val) = bit en ∧
      (s.pd (2 + n.val) = 0 → t.pd (2 + n.val) = if t.wants (2 + n.val) then 1 else 0) ∧
      (s.pd (2 + n.val) = 2 → t.pd (2 + n.val) = if t.wants (2 + n.val) then 2 else 3) ∧
      s.SameMemory t) ∧
  (∀ (n : Fin 4) (s : State),
    s.link.length = 4 →
    s.get LINK_STATE n.val = 1 →
    s.get LINK_PATH n.val = 1 →
    s.linkOn n.val = true →
    exec (.pocSoftStartEnd n) s = .next ((s.put LINK_STATE 2 n.val).setPort n.val { s.port n.val with attempts := 0, gen := 1 }))
      ∧
  (∀ (n : Fin 4) (s : State),
    (s.get LINK_STATE n.val ≠ 1 ∨ s.get LINK_PATH n.val ≠ 1 ∨ s.linkOn n.val = false) →
    exec (.pocSoftStartEnd n) s = .next (s)) ∧
  (∀ (n : Fin 4) (s : State),
    s.link.length = 4 →
    s.get LINK_STATE n.val = 2 →
    s.linkOn n.val = true →
    s.portsSettled = true →
    ∃ t, exec (.linkLock n) s = .next t ∧
      t.get LINK_STATE n.val = 3 ∧
      t.get LINK_LEGACY n.val = 0 ∧
      ((t.port n.val).out = [ctrlWords 0x02 (((s.port n.val).nextSeq + 255) % 256) (s.port n.val).acked
        [s.get LINK_GEN_EN n.val + if s.headEnd then bit s.linkc.fresh * 2 ^ 8 + bit s.linkc.por * 2 ^ 9 else 0]]) ∧
      s.SameBut t [] [LINK_STATE.key n.val 0, LINK_LEGACY.key n.val 0] ∧
      s.SameMemory t) ∧
  (∀ (n : Fin 4) (s : State),
    (s.get LINK_STATE n.val ≠ 2 ∨ s.linkOn n.val = false) →
    exec (.linkLock n) s = .next (s.quiet)) ∧
  (∀ (n : Fin 4) (s : State),
    s.link.length = 4 →
    s.headEnd = false →
    s.get LINK_STATE n.val = 3 →
    bitAt (s.get LINK_GEN_EN n.val) 0 = true →
    s.portsSettled = true →
    ∃ t, exec (.capsTimeout n) s = .next t ∧
      t.get LINK_LEGACY n.val = 1 ∧
      t.get LINK_PEER n.val = 1 ∧
      t.get LINK_STATE n.val = 4 ∧
      (t.port n.val).gen = 1 ∧
      (t.port n.val).attempts = 0 ∧
      s.SameBut t [] [LINK_STATE.key n.val 0, LINK_LEGACY.key n.val 0, LINK_PEER.key n.val 0] ∧
      s.SameMemory t) ∧
  (∀ (n : Fin 4) (s : State),
    s.link.length = 4 →
    s.headEnd = false →
    s.get LINK_STATE n.val = 3 →
    bitAt (s.get LINK_GEN_EN n.val) 0 = false →
    s.coreOn = true →
    s.portsSettled = true →
    ∃ t, exec (.capsTimeout n) s = .next t ∧
      t.get LINK_LEGACY n.val = 1 ∧
      t.get LINK_STATE n.val = 8 ∧
      t.get EVT_CODE 0 (s.get EVT_TOTAL % 256) = linkEv n.val 0x14 ∧
      s.SameMemory t) ∧
  (∀ (n : Fin 4) (s : State),
    (s.headEnd = true ∨ s.get LINK_STATE n.val ≠ 3) →
    exec (.capsTimeout n) s = .next (s))

/-- Training that ends well brings the port UP with its generation, counted, raised and logged; a session in recovery is active
again, with the messages of its window sent again; otherwise a cab opens a session, at once with a legacy head. A failed attempt
is counted and repeated, and after RETRAINS the next lower common generation is tried, the retry wait begins, base training
starts over where RETRY_MS is 0, or after a recovery; the wait ends in base training; no lock is logged once. Loss of lock
leaves UP for retraining with an active session in recovery. 100 ms without UP is a lost link, logged, and ends the session: a
cab answers the tunnelled accesses it has open, a head drops what it holds. Where the domain is not ON a failed attempt is
counted and the port is off. Loss of lock and of the link leave no port domain opening or on that is not wanted. In another
state nothing changes. Where it is asked for, every port domain that opens is wanted, as in every state that a run reaches. -/
def Obligations.LinkTraining : Prop :=
  (∀ (n : Fin 4) (s : State),
    s.link.length = 4 →
    (s.port 0).held = [] →
    (s.get LINK_STATE n.val = 4 ∨ s.get LINK_STATE n.val = 6) →
    s.linkOn n.val = true →
    s.get LINK_SES_STATE n.val ≠ 2 →
    s.coreOn = true →
    s.portsSettled = true →
    ∃ t, exec (.trainingDone n) s = .next t ∧
      t.get LINK_STATE n.val = 5 ∧
      t.get LINK_GEN n.val = (s.port n.val).gen % 2 ^ LINK_GEN.wid ∧
      t.get LINK_LINKUPS n.val = min (s.get LINK_LINKUPS n.val + 1) (2 ^ LINK_LINKUPS.wid - 1) ∧
      bitAt (t.get HDR_INT_RAW (linkPage n.val)) 0 = true ∧
      t.get EVT_CODE 0 (s.get EVT_TOTAL % 256) = linkEv n.val 0x10 ∧
      (t.port n.val).attempts = 0 ∧
      (s.headEnd = false → s.on LINK_LEGACY n.val = true → t.get LINK_SES_STATE n.val = 1 ∧ t.get LINK_NONCE n.val 0 = 0 ∧ t.get
        LINK_NONCE n.val 1 = 0) ∧
      (s.headEnd = false → s.on LINK_LEGACY n.val = false → ∃ x ∈ (t.port n.val).window, x.msg = 0x04 ∧ x.seq = 0 ∧ x.words =
        [t.get LINK_NONCE n.val 0, t.get LINK_NONCE n.val 1, t.get LINKC_KCV]) ∧
      (s.headEnd = true → t.get LINK_SES_STATE n.val = s.get LINK_SES_STATE n.val) ∧
      s.SameMemory t) ∧
  (∀ (n : Fin 4) (s : State),
    s.link.length = 4 →
    (s.port 0).held = [] →
    (s.get LINK_STATE n.val = 4 ∨ s.get LINK_STATE n.val = 6) →
    s.linkOn n.val = true →
    s.get LINK_SES_STATE n.val = 2 →
    s.portsSettled = true →
    ∃ t, exec (.trainingDone n) s = .next t ∧
      t.get LINK_STATE n.val = 5 ∧
      t.get LINK_SES_STATE n.val = 1 ∧
      t.get LINK_RECOVERIES n.val = min (s.get LINK_RECOVERIES n.val + 1) (2 ^ LINK_RECOVERIES.wid - 1) ∧
      (t.port n.val).resumed = true ∧
      (t.port n.val).pool = (s.port n.val).pool ∧
      t.get LINK_RETX n.val = min (s.get LINK_RETX n.val + (s.port n.val).window.length) (2 ^ LINK_RETX.wid - 1) ∧
      ((t.port n.val).window.take (s.port n.val).window.length).map Msg.seq = (s.port n.val).window.map Msg.seq ∧
      s.SameMemory t) ∧
  (∀ (n : Fin 4) (s : State),
    s.link.length = 4 →
    s.linkOn n.val = true →
    (s.get LINK_STATE n.val = 4 ∨ s.get LINK_STATE n.val = 6) →
    (s.port n.val).attempts < s.get LINK_RETRAINS n.val →
    exec (.trainingFail n) s = .next ((s.inc LINK_TRAIN_FAILS n.val).setPort n.val
      { s.port n.val with attempts := (s.port n.val).attempts + 1 })) ∧
  (∀ (n : Fin 4) (s : State),
    s.link.length = 4 →
    s.linkOn n.val = true →
    s.get LINK_STATE n.val = 4 →
    s.get LINK_RETRAINS n.val ≤ (s.port n.val).attempts →
    topGen (s.common n.val % 2 ^ ((s.port n.val).gen - 1)) ≠ 0 →
    s.coreOn = true →
    s.portsSettled = true →
    ∃ t, exec (.trainingFail n) s = .next t ∧
      t.get LINK_STATE n.val = 4 ∧
      (t.port n.val).gen = topGen (s.common n.val % 2 ^ ((s.port n.val).gen - 1)) ∧
      (t.port n.val).attempts = 0 ∧
      t.get EVT_CODE 0 (s.get EVT_TOTAL % 256) = linkEv n.val 0x13 ∧
      t.get LINK_TRAIN_FAILS n.val = min (s.get LINK_TRAIN_FAILS n.val + 1) (2 ^ LINK_TRAIN_FAILS.wid - 1) ∧
      s.SameMemory t) ∧
  (∀ (n : Fin 4) (s : State),
    s.link.length = 4 →
    s.linkOn n.val = true →
    s.get LINK_STATE n.val = 4 →
    s.get LINK_RETRAINS n.val ≤ (s.port n.val).attempts →
    topGen (s.common n.val % 2 ^ ((s.port n.val).gen - 1)) = 0 →
    exec (.trainingFail n) s = .next (if s.get LINK_RETRY_MS n.val ≠ 0 then (s.inc LINK_TRAIN_FAILS n.val).put LINK_STATE 7 n.val
    else ((s.inc LINK_TRAIN_FAILS n.val).put LINK_STATE 2 n.val).setPort n.val { s.port n.val with attempts := 0, gen := 1 })) ∧
  (∀ (n : Fin 4) (s : State),
    s.link.length = 4 →
    s.linkOn n.val = true →
    s.get LINK_STATE n.val = 6 →
    s.get LINK_RETRAINS n.val ≤ (s.port n.val).attempts →
    exec (.trainingFail n) s = .next (((s.inc LINK_TRAIN_FAILS n.val).put LINK_STATE 2 n.val).setPort n.val
      { s.port n.val with attempts := 0, gen := 1 })) ∧
  (∀ (n : Fin 4) (s : State),
    s.get LINK_STATE n.val ≠ 4 →
    s.get LINK_STATE n.val ≠ 6 →
    exec (.trainingFail n) s = .next (s)) ∧
  (∀ (n : Fin 4) (s : State),
    s.link.length = 4 →
    s.get LINK_STATE n.val = 7 →
    exec (.failWaitExpire n) s = .next ((s.put LINK_STATE 2 n.val).setPort n.val { s.port n.val with attempts := 0, gen := 1 })) ∧
  (∀ (n : Fin 4) (s : State),
    s.get LINK_STATE n.val ≠ 7 →
    exec (.failWaitExpire n) s = .next (s)) ∧
  (∀ (n : Fin 4) (s : State),
    s.link.length = 4 →
    s.get LINK_STATE n.val = 2 →
    (s.port n.val).noPeer = false →
    exec (.linkNoPeer n) s = .next ((s.setPort n.val { s.port n.val with noPeer := true }).event (linkEv n.val 0x15) 0)) ∧
  (∀ (n : Fin 4) (s : State),
    (s.get LINK_STATE n.val ≠ 2 ∨ (s.port n.val).noPeer = true) →
    exec (.linkNoPeer n) s = .next (s)) ∧
  (∀ (n : Fin 4) (s : State),
    s.link.length = 4 →
    (s.port 0).held = [] →
    s.portsSettled = true →
    s.linkUp n.val = true →
    s.coreOn = true →
    ∃ t, exec (.lossOfLock n) s = .next t ∧
      t.get LINK_STATE n.val = 6 ∧
      (t.port n.val).gen = s.get LINK_GEN n.val ∧
      (t.port n.val).attempts = 0 ∧
      bitAt (t.get HDR_INT_RAW (linkPage n.val)) 1 = true ∧
      (t.get LINK_SES_STATE n.val = (if s.get LINK_SES_STATE n.val = 1 then 2 else s.get LINK_SES_STATE n.val)) ∧
      ((s.port n.val).dropped = 0 → t.get EVT_CODE 0 (s.get EVT_TOTAL % 256) = linkEv n.val 0x11) ∧
      (t.port n.val).pool = (s.port n.val).pool ∧
      (t.port n.val).window = (s.port n.val).window ∧
      s.SameMemory t) ∧
  (∀ (n : Fin 4) (s : State),
    s.link.length = 4 →
    (s.port 0).held = [] →
    (s.pd (2 + n.val) ≠ 1 ∨ s.wants (2 + n.val) = true) →
    s.linkUp n.val = false →
    s.get LINK_GEN n.val ≠ 0 →
    (s.port n.val).downLogged = false →
    s.coreOn = true →
    s.portsSettled = true →
    ∃ t, exec (.linkDown n) s = .next t ∧
      t.get LINK_GEN n.val = 0 ∧
      t.get LINK_SES_STATE n.val = 0 ∧
      (t.port n.val).downLogged = true ∧
      t.get EVT_CODE 0 (s.get EVT_TOTAL % 256) = linkEv n.val 0x12 ∧
      (s.get LINK_SES_STATE n.val ≠ 0 → bitAt (t.get HDR_INT_RAW (linkPage n.val)) 9 = true) ∧
      (s.headEnd = false → s.get LINK_SES_STATE n.val ≠ 0 → (t.port n.val).window = [] ∧ (t.port n.val).pool = [] ∧ (t.port
        n.val).replies.length = (s.port n.val).replies.length + (s.port n.val).pool.length) ∧
      (s.headEnd = true → n = 0 → s.get LINK_SES_STATE n.val ≠ 0 → (t.port 0).window = [] ∧ t.linkc.fresh = true ∧
        (t.host.queues.getD 3 Queue.empty).items = []) ∧
      s.SameMemory t) ∧
  (∀ (n : Fin 4) (s : State),
    s.link.length = 4 →
    (s.port 0).held = [] →
    (s.pd (2 + n.val) ≠ 1 ∨ s.wants (2 + n.val) = true) →
    (s.linkUp n.val = true ∨ s.get LINK_GEN n.val = 0 ∨ (s.port n.val).downLogged = true) →
    s.portsSettled = true →
    ∃ t, exec (.linkDown n) s = .next t ∧
      t.get LINK_GEN n.val = s.get LINK_GEN n.val ∧
      t.get LINK_STATE n.val = s.get LINK_STATE n.val ∧
      t.get LINK_SES_STATE n.val = s.get LINK_SES_STATE n.val ∧
      s.SameMemory t) ∧
  (∀ (n : Fin 4) (s : State),
    (s.get LINK_STATE n.val = 4 ∨ s.get LINK_STATE n.val = 6) →
    s.linkOn n.val = false →
    exec (.trainingFail n) s = .next ((s.inc LINK_TRAIN_FAILS n.val).put LINK_STATE 0 n.val)) ∧
  (∀ (n : Fin 4) (b : Bool) (s : State),
    ∃ t, exec (if b then .linkDown n else .lossOfLock n) s = .next t ∧
      t.portsWanted = true ∧
      s.SameMemory t)

/-- Where the path is on: overcurrent turns it off with cause 1, counts and raises the fault, and latches it after RETRIES;
backfeed, also while a retry is waited for, latches with cause 2, logged; a retry turns the path on again. Ten seconds of UP
forget the retries. A keep-alive fault turns the keep-alive off. On a present port outside SAFE NO_LOAD and VIN_LOW follow their
readings and are logged once. POC_CLR clears cause, latch and retries, and starts a port that is on and has no path again; it is
refused while a latched condition persists. Where its condition does not hold each changes nothing of the port. -/
def Obligations.PowerOverCoax : Prop :=
  (∀ (n : Fin 4) (fast : Bool) (s : State),
    s.link.length = 4 →
    s.get LINK_PATH n.val = 1 →
    ∃ t, exec (.pocOvercurrent n fast) s = .next t ∧
      t.get LINK_POC_CAUSE n.val = 1 ∧
      t.get LINK_PATH n.val = 0 ∧
      t.get LINK_POC_FAULTS n.val = min (s.get LINK_POC_FAULTS n.val + 1) (2 ^ LINK_POC_FAULTS.wid - 1) ∧
      bitAt (t.get HDR_INT_RAW (linkPage n.val)) 2 = true ∧
      (s.linkOn n.val = true → t.get LINK_STATE n.val = 1) ∧
      (t.port n.val).pocLatched = ((s.port n.val).pocLatched || decide (s.get LINK_RETRIES n.val ≤ (s.port n.val).retries)) ∧
      (t.port n.val).retries = (s.port n.val).retries ∧
      s.SameMemory t) ∧
  (∀ (n : Fin 4) (fast : Bool) (s : State),
    s.link.length = 4 →
    (s.port 0).held = [] →
    (s.pd (2 + n.val) ≠ 1 ∨ s.wants (2 + n.val) = true) →
    s.get LINK_PATH n.val ≠ 1 →
    ∃ t, exec (.pocOvercurrent n fast) s = .next t ∧
      t.get LINK_POC_CAUSE n.val = s.get LINK_POC_CAUSE n.val ∧
      t.get LINK_PATH n.val = s.get LINK_PATH n.val ∧
      t.get LINK_STATE n.val = s.get LINK_STATE n.val ∧
      (t.port n.val).pocLatched = (s.port n.val).pocLatched ∧
      s.SameMemory t) ∧
  (∀ (n : Fin 4) (s : State),
    s.link.length = 4 →
    s.headEnd = false →
    s.get LINK_POC_CAUSE n.val = 1 →
    s.get LINK_PATH n.val = 0 →
    (s.port n.val).pocLatched = false →
    s.linkOn n.val = true →
    s.on LINK_POC_EN n.val = true →
    exec (.pocRetry n) s = .next (((s.put LINK_PATH 1 n.val).put LINK_STATE 1 n.val).setPort n.val
      { s.port n.val with retries := (s.port n.val).retries + 1 })) ∧
  (∀ (n : Fin 4) (s : State),
    (s.headEnd = true ∨ s.get LINK_POC_CAUSE n.val ≠ 1 ∨ s.get LINK_PATH n.val ≠ 0 ∨ (s.port n.val).pocLatched = true ∨ s.linkOn
      n.val = false ∨ s.on LINK_POC_EN n.val = false) →
    exec (.pocRetry n) s = .next (s)) ∧
  (∀ (n : Fin 4) (s : State),
    s.link.length = 4 →
    s.linkUp n.val = true →
    exec (.pocRetryCountClear n) s = .next (s.setPort n.val { s.port n.val with retries := 0 })) ∧
  (∀ (n : Fin 4) (s : State),
    s.linkUp n.val = false →
    exec (.pocRetryCountClear n) s = .next (s)) ∧
  (∀ (n : Fin 4) (s : State),
    s.link.length = 4 →
    (s.get LINK_PATH n.val = 1 ∨ (s.headEnd = false ∧ s.linkOn n.val = true ∧ s.on LINK_POC_EN n.val = true ∧ s.get LINK_STATE
      n.val = 1 ∧ (s.port n.val).pocLatched = false)) →
    s.coreOn = true →
    ∃ t, exec (.pocBackfeed n) s = .next t ∧
      t.get LINK_POC_CAUSE n.val = 2 ∧
      t.get LINK_PATH n.val = 0 ∧
      (t.port n.val).pocLatched = true ∧
      t.get LINK_POC_FAULTS n.val = min (s.get LINK_POC_FAULTS n.val + 1) (2 ^ LINK_POC_FAULTS.wid - 1) ∧
      ((s.port n.val).dropped = 0 → t.get EVT_CODE 0 (s.get EVT_TOTAL % 256) = linkEv n.val 0x16 ∧ t.get EVT_DATA 0 (s.get
        EVT_TOTAL % 256) = 2) ∧
      s.SameMemory t) ∧
  (∀ (n : Fin 4) (s : State),
    s.link.length = 4 →
    (s.port 0).held = [] →
    (s.pd (2 + n.val) ≠ 1 ∨ s.wants (2 + n.val) = true) →
    s.get LINK_PATH n.val ≠ 1 →
    (¬(s.headEnd = false ∧ s.linkOn n.val = true ∧ s.on LINK_POC_EN n.val = true ∧ s.get LINK_STATE n.val = 1 ∧ (s.port
      n.val).pocLatched = false)) →
    ∃ t, exec (.pocBackfeed n) s = .next t ∧
      t.get LINK_POC_CAUSE n.val = s.get LINK_POC_CAUSE n.val ∧
      t.get LINK_PATH n.val = s.get LINK_PATH n.val ∧
      t.get LINK_STATE n.val = s.get LINK_STATE n.val ∧
      (t.port n.val).pocLatched = (s.port n.val).pocLatched ∧
      s.SameMemory t) ∧
  (∀ (n : Fin 4) (s : State),
    s.link.length = 4 →
    s.get LINK_PATH n.val = 2 →
    exec (.pocKeepaliveFault n) s = .next ((s.put LINK_PATH 0 n.val).setPort n.val
      { s.port n.val with kaFault := true, kaTold := false })) ∧
  (∀ (n : Fin 4) (s : State),
    s.get LINK_PATH n.val ≠ 2 →
    exec (.pocKeepaliveFault n) s = .next (s)) ∧
  (∀ (n : Fin 4) (mA : Nat) (s : State),
    s.safe = false →
    s.present (linkPage n.val) = true →
    mA < 5 →
    s.get LINK_PATH n.val = 1 →
    s.linkUp n.val = false →
    s.get LINK_STATE n.val ≠ 1 →
    s.get LINK_NO_LOAD n.val = 0 →
    exec (.pocNoLoad n mA) s = .next (((s.put LINK_POC_I mA n.val).put LINK_NO_LOAD 1 n.val).event (linkEv n.val 0x17) mA)) ∧
  (∀ (n : Fin 4) (mA : Nat) (s : State),
    s.safe = false →
    s.present (linkPage n.val) = true →
    (5 ≤ mA ∨ s.get LINK_PATH n.val ≠ 1 ∨ s.linkUp n.val = true ∨ s.get LINK_STATE n.val = 1) →
    exec (.pocNoLoad n mA) s = .next ((s.put LINK_POC_I mA n.val).put LINK_NO_LOAD 0 n.val)) ∧
  (∀ (n : Fin 4) (mA : Nat) (s : State),
    (s.safe = true ∨ s.present (linkPage n.val) = false) →
    exec (.pocNoLoad n mA) s = .next (s)) ∧
  (∀ (n : Fin 4) (dV : Nat) (s : State),
    s.safe = false →
    s.headEnd = false →
    s.present (linkPage n.val) = true →
    dV < 100 →
    s.get LINK_VIN_LOW n.val = 0 →
    exec (.pocVinLow n dV) s = .next ((s.put LINK_VIN_LOW 1 n.val).event (linkEv n.val 0x18) dV)) ∧
  (∀ (n : Fin 4) (dV : Nat) (s : State),
    s.safe = false →
    s.headEnd = false →
    s.present (linkPage n.val) = true →
    100 ≤ dV →
    exec (.pocVinLow n dV) s = .next (s.put LINK_VIN_LOW 0 n.val)) ∧
  (∀ (n : Fin 4) (dV : Nat) (s : State),
    (s.safe = true ∨ s.headEnd = true ∨ s.present (linkPage n.val) = false ∨ (dV < 100 ∧ s.get LINK_VIN_LOW n.val = 1)) →
    exec (.pocVinLow n dV) s = .next (s)) ∧
  (∀ (m : Master) (n : Fin 4) (persists : Bool) (s : State),
    s.link.length = 4 →
    s.serves = true →
    s.sources m.num = true →
    s.present (linkPage n.val) = true →
    (s.checkWith none m.num (linkPage n.val) 0x05C 1).isNone = true →
    (persists = false ∨ ((s.port n.val).pocLatched = false ∧ (s.port n.val).kaFault = false)) →
    ((s.port n.val).pocLatched = true ∨ (s.port n.val).kaFault = true ∨ s.get LINK_POC_CAUSE n.val ≠ 0) →
    ∃ t, exec (.pocClr m n persists) s = .next t ∧
      t.get LINK_POC_CAUSE n.val = 0 ∧
      (t.port n.val).pocLatched = false ∧
      (t.port n.val).kaFault = false ∧
      (t.port n.val).retries = 0 ∧
      (s.headEnd = false → s.linkOn n.val = true → s.get HDR_EN (linkPage n.val) ≠ 0 → s.on LINK_POC_EN n.val = true → s.get
        LINK_PATH n.val ≠ 1 → t.get LINK_PATH n.val = 1 ∧ t.get LINK_STATE n.val = 1) ∧
      s.SameBut t [] ([LINK_POC_CAUSE.key n.val 0, LINK_STATE.key n.val 0, LINK_PATH.key n.val 0] ++ lastKeys) ∧
      s.SameMemory t) ∧
  (∀ (m : Master) (n : Fin 4) (s : State),
    s.serves = true →
    s.sources m.num = true →
    s.present (linkPage n.val) = true →
    (s.checkWith none m.num (linkPage n.val) 0x05C 1).isNone = true →
    ((s.port n.val).pocLatched = true ∨ (s.port n.val).kaFault = true) →
    ∃ t, exec (.pocClr m n true) s = .next t ∧
      t.get HDR_ERR_CODE (linkPage n.val) = cSTATE ∧
      t.get LINK_POC_CAUSE n.val = s.get LINK_POC_CAUSE n.val ∧
      t.link = s.link ∧
      s.SameMemory t)

/-- WAKE_CMD at a head in KEEP_ALIVE sends the signature, and elsewhere nothing; STALL_PEAK_CLR clears the peak. At a head a
rising node ends KEEP_ALIVE and a signature, starts base training of an open port and reports a collision; a falling node puts
LINK0 in KEEP_ALIVE; elsewhere a node changes nothing of the ports. A signature that a cab detects on its keep-alive, with a
baseline of at most 15 mA, is counted, logged and raised, and a collision logged; without the keep-alive, or above that, nothing
changes. Where it is asked for, every port domain that opens is wanted, as in every state that a run reaches. -/
def Obligations.CoaxWakes : Prop :=
  (∀ (m : Master) (n : Fin 4) (s : State),
    s.accepts m.num (linkPage n.val) 0x05C 2 = true →
    n = 0 →
    s.headYard = true →
    s.get LINK_STATE 0 = 9 →
    exec (.wakeCmd m n) s = .next (((s.rewritten (linkPage 0) 0x05C).setPort 0 { s.port 0 with signature := true }).noteCode m.num
      cOK)) ∧
  (∀ (m : Master) (n : Fin 4) (s : State),
    s.accepts m.num (linkPage n.val) 0x05C 2 = true →
    (n ≠ 0 ∨ s.headYard = false ∨ s.get LINK_STATE 0 ≠ 9) →
    exec (.wakeCmd m n) s = .next ((s.rewritten (linkPage n.val) 0x05C).noteCode m.num cOK)) ∧
  (∀ (m : Master) (n : Fin 4) (s : State),
    s.accepts m.num (linkPage n.val) 0x05C 4 = true →
    exec (.stallPeakClr m n) s = .next (((s.rewritten (linkPage n.val) 0x05C).put LINK_STALL_PEAK 0 n.val).noteCode m.num cOK)) ∧
  (∀ (near : Bool) (s : State),
    s.link.length = 4 →
    s.headYard = true →
    s.boot.inReset = false →
    s.safe = false →
    s.portsSettled = true →
    ∃ t, exec (.coaxRise near) s = .next t ∧
      (t.port 0).signature = false ∧
      (near = true → t.get LINKC_COLLIDED = 1) ∧
      (s.get LINK_STATE 0 = 9 → t.get LINK_STATE 0 = (if s.linkOn 0 then 2 else 0)) ∧
      s.SameMemory t) ∧
  (∀ (near : Bool) (s : State),
    (s.headYard = false ∨ s.boot.inReset = true ∨ s.safe = true) →
    exec (.coaxRise near) s = .next (s)) ∧
  (∀ (s : State),
    s.link.length = 4 →
    s.headYard = true →
    (s.port 0).held = [] →
    s.portsSettled = true →
    ∃ t, exec (.coaxFall) s = .next t ∧
      t.get LINK_STATE 0 = 9 ∧
      (s.linkUp 0 = true → s.get LINK_SES_STATE 0 = 1 → t.get LINK_SES_STATE 0 = 2) ∧
      s.SameMemory t) ∧
  (∀ (s : State),
    s.link.length = 4 →
    s.portsSettled = true →
    s.headYard = false →
    (s.port 0).held = [] →
    ∃ t, exec (.coaxFall) s = .next t ∧
      (∀ k, k < 4 → t.get LINK_STATE k = s.get LINK_STATE k ∧ t.get LINK_SES_STATE k = s.get LINK_SES_STATE k) ∧
      s.SameMemory t) ∧
  (∀ (n : Fin 4) (mA : Nat) (collided : Bool) (s : State),
    (s.port n.val).wakeEn = true →
    s.get LINK_PATH n.val = 2 →
    mA ≤ 15 →
    s.boot.inReset = false →
    s.safe = false →
    s.coreOn = true →
    ∃ t, exec (.wakeSigRx n mA collided) s = .next t ∧
      t.get LINK_WAKE_SIGS n.val = min (s.get LINK_WAKE_SIGS n.val + 1) (2 ^ LINK_WAKE_SIGS.wid - 1) ∧
      bitAt (t.get HDR_INT_RAW (linkPage n.val)) 3 = true ∧
      t.get EVT_CODE 0 (s.get EVT_TOTAL % 256) = linkEv n.val 0x19 ∧
      t.get EVT_DATA 0 (s.get EVT_TOTAL % 256) = mA ∧
      (collided = true → t.coreOn = true → t.lastEvent (linkEv n.val 0x2A) 0 = true) ∧
      s.SameMemory t) ∧
  (∀ (n : Fin 4) (mA : Nat) (collided : Bool) (s : State),
    ((s.port n.val).wakeEn = false ∨ s.get LINK_PATH n.val ≠ 2 ∨ 15 < mA ∨ s.boot.inReset = true ∨ s.safe = true) →
    exec (.wakeSigRx n mA collided) s = .next (s))

/-- A packet that fails its checks is counted in RX_ERR and marks the open frame. A good FS whose counter follows, or the first
of a session, opens a frame, adds the counters it skipped to FRAME_GAPS and shows the counter; one that does not follow is a
duplicate, not shown; an FS in an open frame ends that frame as incomplete. EMB 1 gives a shown frame its format and enters the
CMAC. A LINE that the Stall cannot take is dropped, counted and raised; one it takes counts for the peak and enters the window;
in a duplicate frame nothing reaches the outputs. A good FE closes the frame with its result: none without authentication, below
TL3 or with a legacy head; a pass where the tag matches; a fail, counted and raised, where it does not, the keys differ or no
key is held; incomplete where a packet was lost. EMB and LINE outside a frame, and FE, have no other effect; a port that takes
no frames ignores all four; a reserved packet counts in RX_ERR of a port that is UP. Where it is asked for, every port domain
that opens is wanted, as in every state that a run reaches. -/
def Obligations.VideoPackets : Prop :=
  (∀ (n : Fin 4) (p : Packet) (s : State),
    s.link.length = 4 →
    s.takesFrames n.val = true →
    s.pktGood n.val 1 2 p = false →
    s.portsSettled = true →
    ∃ t, exec (.fsPacket n p) s = .next t ∧
      t.get LINK_RX_ERR n.val = min (s.get LINK_RX_ERR n.val + 1) (2 ^ LINK_RX_ERR.wid - 1) ∧
      ((t.port n.val).rx = (s.port n.val).rx.map fun f => { f with bad := true }) ∧
      (∀ k, k < 4 → k ≠ n.val → t.port k = s.quiet.port k ∧ t.get LINK_RX_ERR k = s.get LINK_RX_ERR k) ∧
      t.get LINK_LAST_FC n.val = s.get LINK_LAST_FC n.val ∧
      (t.get LINK_FEC_CORR n.val = (if s.get LINK_GEN n.val = 3 then min (s.get LINK_FEC_CORR n.val + p.corrected) (2 ^
        LINK_FEC_CORR.wid - 1) else s.get LINK_FEC_CORR n.val)) ∧
      t.vid = s.vid ∧
      s.SameMemory t) ∧
  (∀ (n : Fin 4) (p : Packet) (l : Nat) (s : State),
    s.link.length = 4 →
    s.takesFrames n.val = true →
    s.pktGood n.val 1 2 p = true →
    (s.port n.val).lastFc = some l →
    1 ≤ (((p.words[0]?).getD 0).toNat + 2 ^ 32 - l) % 2 ^ 32 →
    (((p.words[0]?).getD 0).toNat + 2 ^ 32 - l) % 2 ^ 32 < 2 ^ 31 →
    s.portsSettled = true →
    ∃ t, exec (.fsPacket n p) s = .next t ∧
      t.get LINK_LAST_FC n.val = ((p.words[0]?).getD 0).toNat ∧
      t.get LINK_FRAME_GAPS n.val = min (s.get LINK_FRAME_GAPS n.val + ((((p.words[0]?).getD 0).toNat + 2 ^ 32 - l) % 2 ^ 32 - 1))
        (2 ^ LINK_FRAME_GAPS.wid - 1) ∧
      (t.port n.val).lastFc = some ((p.words[0]?).getD 0).toNat ∧
      ((t.port n.val).rx.map (fun f => (f.counter, f.shown, f.bad)) = some (((p.words[0]?).getD 0).toNat, true, false)) ∧
      t.get LINK_RX_ERR n.val = s.get LINK_RX_ERR n.val ∧
      t.get LINK_FRAMES_DUP n.val = s.get LINK_FRAMES_DUP n.val ∧
      s.SameMemory t) ∧
  (∀ (n : Fin 4) (p : Packet) (s : State),
    s.link.length = 4 →
    s.takesFrames n.val = true →
    s.pktGood n.val 1 2 p = true →
    (s.port n.val).lastFc = none →
    s.portsSettled = true →
    ∃ t, exec (.fsPacket n p) s = .next t ∧
      t.get LINK_LAST_FC n.val = ((p.words[0]?).getD 0).toNat ∧
      t.get LINK_FRAME_GAPS n.val = min (s.get LINK_FRAME_GAPS n.val) (2 ^ LINK_FRAME_GAPS.wid - 1) ∧
      (t.port n.val).lastFc = some ((p.words[0]?).getD 0).toNat ∧
      ((t.port n.val).rx.map (fun f => (f.counter, f.shown, f.bad)) = some (((p.words[0]?).getD 0).toNat, true, false)) ∧
      (∀ k, k < 4 → k ≠ n.val → t.port k = s.quiet.port k ∧ t.get LINK_RX_ERR k = s.get LINK_RX_ERR k) ∧
      s.SameMemory t) ∧
  (∀ (n : Fin 4) (p : Packet) (l : Nat) (s : State),
    s.link.length = 4 →
    s.takesFrames n.val = true →
    s.pktGood n.val 1 2 p = true →
    (s.port n.val).lastFc = some l →
    ((((p.words[0]?).getD 0).toNat + 2 ^ 32 - l) % 2 ^ 32 = 0 ∨ 2 ^ 31 ≤ (((p.words[0]?).getD 0).toNat + 2 ^ 32 - l) % 2 ^ 32) →
    s.portsSettled = true →
    ∃ t, exec (.fsPacket n p) s = .next t ∧
      t.get LINK_FRAMES_DUP n.val = min (s.get LINK_FRAMES_DUP n.val + 1) (2 ^ LINK_FRAMES_DUP.wid - 1) ∧
      t.get LINK_LAST_RESULT n.val = 3 ∧
      ((t.port n.val).rx.map (fun f => f.shown) = some false) ∧
      (t.port n.val).lastFc = some l ∧
      t.get LINK_LAST_FC n.val = s.get LINK_LAST_FC n.val ∧
      t.get LINK_RX_ERR n.val = s.get LINK_RX_ERR n.val ∧
      t.get LINK_FRAME_GAPS n.val = s.get LINK_FRAME_GAPS n.val ∧
      s.SameMemory t) ∧
  (∀ (n : Fin 4) (p : Packet) (f : RxFrame) (s : State),
    s.link.length = 4 →
    s.takesFrames n.val = true →
    s.get LINK_GEN n.val = 3 →
    s.get LINK_AUTH_MODE n.val ≠ 0 →
    s.on LINK_LEGACY n.val = false →
    s.pktGood n.val 1 2 p = true →
    (s.port n.val).rx = some f →
    f.shown = true →
    s.on LINK_KEY_MISMATCH n.val = false →
    (s.port n.val).key ≠ none →
    (s.port n.val).lastFc = none →
    s.portsSettled = true →
    ∃ t, exec (.fsPacket n p) s = .next t ∧
      t.get LINK_LAST_RESULT n.val = 4 ∧
      t.get LINK_AUTH_FAILS n.val = min (s.get LINK_AUTH_FAILS n.val + 1) (2 ^ LINK_AUTH_FAILS.wid - 1) ∧
      bitAt (t.get HDR_INT_RAW (linkPage n.val)) 8 = true ∧
      (∀ k, k < 4 → k ≠ n.val → t.port k = s.quiet.port k ∧ t.get LINK_RX_ERR k = s.get LINK_RX_ERR k) ∧
      s.SameMemory t) ∧
  (∀ (n : Fin 4) (p : Packet) (s : State),
    s.link.length = 4 →
    s.takesFrames n.val = true →
    (s.pktGood n.val 2 (if bitsOf p.header.toNat 0 16 = 1 then 13 else 9) p = false ∨ (bitsOf p.header.toNat 0 16 ≠ 1 ∧ bitsOf
      p.header.toNat 0 16 ≠ 2)) →
    s.portsSettled = true →
    ∃ t, exec (.embPacket n p) s = .next t ∧
      t.get LINK_RX_ERR n.val = min (s.get LINK_RX_ERR n.val + 1) (2 ^ LINK_RX_ERR.wid - 1) ∧
      ((t.port n.val).rx = (s.port n.val).rx.map fun f => { f with bad := true }) ∧
      t.vid = s.vid ∧
      s.SameBut t [linkPage n.val] [] ∧
      s.SameMemory t) ∧
  (∀ (n : Fin 4) (p : Packet) (f : RxFrame) (k : List Nat) (s : State),
    s.link.length = 4 →
    s.vid.length = 4 →
    s.takesFrames n.val = true →
    s.get LINK_GEN n.val = 3 →
    bitsOf p.header.toNat 0 16 = 1 →
    s.pktGood n.val 2 13 p = true →
    (s.port n.val).rx = some f →
    f.shown = true →
    (s.port n.val).key = some k →
    s.portsSettled = true →
    ∃ t, exec (.embPacket n p) s = .next t ∧
      (t.port n.val).rx = some { f with mac := f.mac.words k (pktAll p).dropLast } ∧
      (t.stream n.val).shaped = true ∧
      (t.stream n.val).width = ofLe ((wordBytes ((p.words.map BitVec.toNat).dropLast)).drop 28 |>.take 2) ∧
      (t.stream n.val).height = ofLe ((wordBytes ((p.words.map BitVec.toNat).dropLast)).drop 30 |>.take 2) ∧
      t.get LINK_RX_ERR n.val = s.get LINK_RX_ERR n.val ∧
      s.SameBut t [linkPage n.val, 0x078, 0x006, 0x074] [] ∧
      s.SameMemory t) ∧
  (∀ (n : Fin 4) (p : Packet) (s : State),
    s.link.length = 4 →
    s.takesFrames n.val = true →
    (bitsOf p.header.toNat 0 16 = 1 ∨ bitsOf p.header.toNat 0 16 = 2) →
    (s.pktGood n.val 2 (if bitsOf p.header.toNat 0 16 = 1 then 13 else 9) p = true) →
    (s.port n.val).rx = none →
    exec (.embPacket n p) s = .next (s.quiet.fecCount n.val p)) ∧
  (∀ (n : Fin 4) (p : Packet) (s : State),
    s.link.length = 4 →
    s.takesFrames n.val = true →
    s.pktGood n.val 3 (rowLen (s.stream n.val).fmt (s.stream n.val).width + 1) p = false →
    s.portsSettled = true →
    ∃ t, exec (.linePacket n p) s = .next t ∧
      t.get LINK_RX_ERR n.val = min (s.get LINK_RX_ERR n.val + 1) (2 ^ LINK_RX_ERR.wid - 1) ∧
      ((t.port n.val).rx = (s.port n.val).rx.map fun f => { f with bad := true }) ∧
      t.vid = s.vid ∧
      s.SameBut t [linkPage n.val] [] ∧
      s.SameMemory t) ∧
  (∀ (n : Fin 4) (p : Packet) (s : State),
    s.link.length = 4 →
    s.takesFrames n.val = true →
    s.pktGood n.val 3 (rowLen (s.stream n.val).fmt (s.stream n.val).width + 1) p = true →
    ((s.port n.val).rx = none ∨ (s.port n.val).rx.map (fun f => f.shown) = some false) →
    s.portsSettled = true →
    ∃ t, exec (.linePacket n p) s = .next t ∧
      t.vid = s.vid ∧
      (t.get LINK_FEC_CORR n.val = (if s.get LINK_GEN n.val = 3 then min (s.get LINK_FEC_CORR n.val + p.corrected) (2 ^
        LINK_FEC_CORR.wid - 1) else s.get LINK_FEC_CORR n.val)) ∧
      t.get LINK_RX_ERR n.val = s.get LINK_RX_ERR n.val ∧
      t.get LINK_STALL_OVR n.val = s.get LINK_STALL_OVR n.val ∧
      t.get LINK_STALL_PEAK n.val = s.get LINK_STALL_PEAK n.val ∧
      s.SameBut t [linkPage n.val] [] ∧
      s.SameMemory t) ∧
  (∀ (n : Fin 4) (p : Packet) (f : RxFrame) (s : State),
    s.link.length = 4 →
    s.takesFrames n.val = true →
    s.pktGood n.val 3 (rowLen (s.stream n.val).fmt (s.stream n.val).width + 1) p = true →
    (s.port n.val).rx = some f →
    f.shown = true →
    61440 < p.stall + 4 * (rowLen (s.stream n.val).fmt (s.stream n.val).width + 2) →
    s.portsSettled = true →
    ∃ t, exec (.linePacket n p) s = .next t ∧
      t.get LINK_STALL_OVR n.val = min (s.get LINK_STALL_OVR n.val + 1) (2 ^ LINK_STALL_OVR.wid - 1) ∧
      bitAt (t.get HDR_INT_RAW (linkPage n.val)) 4 = true ∧
      (t.port n.val).dropped = (s.port n.val).dropped + 1 ∧
      t.vid = s.vid ∧
      t.get LINK_STALL_PEAK n.val = s.get LINK_STALL_PEAK n.val ∧
      s.SameBut t [linkPage n.val, 0x00C, 0x006, 0x074] [] ∧
      s.SameMemory t) ∧
  (∀ (n : Fin 4) (p : Packet) (f : RxFrame) (s : State),
    s.link.length = 4 →
    s.vid.length = 4 →
    s.takesFrames n.val = true →
    s.pktGood n.val 3 (rowLen (s.stream n.val).fmt (s.stream n.val).width + 1) p = true →
    (s.port n.val).rx = some f →
    f.shown = true →
    p.stall + 4 * (rowLen (s.stream n.val).fmt (s.stream n.val).width + 2) ≤ 61440 →
    s.portsSettled = true →
    ∃ t, exec (.linePacket n p) s = .next t ∧
      t.get LINK_STALL_PEAK n.val = (max (s.get LINK_STALL_PEAK n.val) (ceilDiv (p.stall + 4 * (rowLen (s.stream n.val).fmt
        (s.stream n.val).width + 2)) 16)) % 2 ^ LINK_STALL_PEAK.wid ∧
      (t.port n.val).dropped = (s.port n.val).dropped ∧
      ((s.stream n.val).live = true → (s.stream n.val).shaped = true → (s.stream n.val).rep = false → (s.stream n.val).row ≤
        bitsOf p.header.toNat 0 16 → (t.stream n.val).row = bitsOf p.header.toNat 0 16 + 1) ∧
      t.get LINK_STALL_OVR n.val = s.get LINK_STALL_OVR n.val ∧
      s.SameBut t [linkPage n.val, 0x00C, 0x078, 0x006, 0x074] [] ∧
      s.SameMemory t) ∧
  (∀ (n : Fin 4) (p : Packet) (s : State),
    s.link.length = 4 →
    s.takesFrames n.val = true →
    (s.pktGood n.val 4 (if s.get LINK_GEN n.val = 3 then 4 else 2) p = false) →
    s.portsSettled = true →
    ∃ t, exec (.fePacket n p) s = .next t ∧
      t.get LINK_RX_ERR n.val = min (s.get LINK_RX_ERR n.val + 1) (2 ^ LINK_RX_ERR.wid - 1) ∧
      ((t.port n.val).rx = (s.port n.val).rx.map fun f => { f with bad := true }) ∧
      (∀ k, k < 4 → k ≠ n.val → t.port k = s.quiet.port k ∧ t.get LINK_RX_ERR k = s.get LINK_RX_ERR k) ∧
      t.vid = s.vid ∧
      t.get LINK_LAST_RESULT n.val = s.get LINK_LAST_RESULT n.val ∧
      s.SameMemory t) ∧
  (∀ (n : Fin 4) (p : Packet) (s : State),
    s.link.length = 4 →
    s.takesFrames n.val = true →
    (s.pktGood n.val 4 (if s.get LINK_GEN n.val = 3 then 4 else 2) p = true) →
    ((s.port n.val).rx = none ∨ (s.port n.val).rx.map (fun f => f.shown) = some false) →
    s.portsSettled = true →
    ∃ t, exec (.fePacket n p) s = .next t ∧
      (t.port n.val).rx = none ∧
      t.vid = s.vid ∧
      t.get LINK_RX_ERR n.val = s.get LINK_RX_ERR n.val ∧
      t.get LINK_LAST_RESULT n.val = s.get LINK_LAST_RESULT n.val ∧
      t.get LINK_AUTH_PASSES n.val = s.get LINK_AUTH_PASSES n.val ∧
      t.get LINK_AUTH_FAILS n.val = s.get LINK_AUTH_FAILS n.val ∧
      t.get LINK_CONSEC n.val = s.get LINK_CONSEC n.val ∧
      s.SameMemory t) ∧
  (∀ (n : Fin 4) (p : Packet) (f : RxFrame) (s : State),
    s.link.length = 4 →
    s.takesFrames n.val = true →
    (s.pktGood n.val 4 (if s.get LINK_GEN n.val = 3 then 4 else 2) p = true) →
    (s.get LINK_AUTH_MODE n.val = 0 ∨ s.get LINK_GEN n.val < 3 ∨ s.on LINK_LEGACY n.val = true) →
    (s.port n.val).rx = some f →
    f.shown = true →
    s.portsSettled = true →
    ∃ t, exec (.fePacket n p) s = .next t ∧
      (t.port n.val).rx = none ∧
      t.get LINK_LAST_RESULT n.val = 0 ∧
      t.get LINK_CONSEC n.val = 0 ∧
      t.get LINK_AUTH_FAILS n.val = s.get LINK_AUTH_FAILS n.val ∧
      t.get LINK_AUTH_PASSES n.val = s.get LINK_AUTH_PASSES n.val ∧
      s.SameMemory t) ∧
  (∀ (n : Fin 4) (p : Packet) (f : RxFrame) (k : List Nat) (s : State),
    s.link.length = 4 →
    s.takesFrames n.val = true →
    s.get LINK_GEN n.val = 3 →
    s.get LINK_AUTH_MODE n.val ≠ 0 →
    s.on LINK_LEGACY n.val = false →
    s.pktGood n.val 4 4 p = true →
    (s.port n.val).rx = some f →
    f.shown = true →
    f.bad = false →
    s.on LINK_KEY_MISMATCH n.val = false →
    (s.port n.val).key = some k →
    (f.mac.words k (hdrWord 4 4 (bitsOf p.header.toNat 0 16) :: [((p.words[0]?).getD 0).toNat])).tag k = ((p.words[1]?).getD
      0).toNat * 2 ^ 32 + ((p.words[2]?).getD 0).toNat →
    s.portsSettled = true →
    ∃ t, exec (.fePacket n p) s = .next t ∧
      (t.port n.val).rx = none ∧
      t.get LINK_LAST_RESULT n.val = 1 ∧
      t.get LINK_CONSEC n.val = 0 ∧
      t.get LINK_AUTH_PASSES n.val = min (s.get LINK_AUTH_PASSES n.val + 1) (2 ^ LINK_AUTH_PASSES.wid - 1) ∧
      t.get LINK_AUTH_FAILS n.val = s.get LINK_AUTH_FAILS n.val ∧
      s.SameMemory t) ∧
  (∀ (n : Fin 4) (p : Packet) (f : RxFrame) (k : List Nat) (s : State),
    s.link.length = 4 →
    s.takesFrames n.val = true →
    s.get LINK_GEN n.val = 3 →
    s.get LINK_AUTH_MODE n.val ≠ 0 →
    s.on LINK_LEGACY n.val = false →
    s.pktGood n.val 4 4 p = true →
    (s.port n.val).rx = some f →
    f.shown = true →
    f.bad = false →
    s.on LINK_KEY_MISMATCH n.val = false →
    (s.port n.val).key = some k →
    (f.mac.words k (hdrWord 4 4 (bitsOf p.header.toNat 0 16) :: [((p.words[0]?).getD 0).toNat])).tag k ≠ ((p.words[1]?).getD
      0).toNat * 2 ^ 32 + ((p.words[2]?).getD 0).toNat →
    s.portsSettled = true →
    ∃ t, exec (.fePacket n p) s = .next t ∧
      t.get LINK_LAST_RESULT n.val = 2 ∧
      (t.port n.val).rx = none ∧
      t.get LINK_AUTH_FAILS n.val = min (s.get LINK_AUTH_FAILS n.val + 1) (2 ^ LINK_AUTH_FAILS.wid - 1) ∧
      t.get LINK_CONSEC n.val = min (s.get LINK_CONSEC n.val + 1) (2 ^ LINK_CONSEC.wid - 1) ∧
      bitAt (t.get HDR_INT_RAW (linkPage n.val)) 8 = true ∧
      t.get LINK_AUTH_PASSES n.val = s.get LINK_AUTH_PASSES n.val ∧
      s.SameMemory t) ∧
  (∀ (n : Fin 4) (p : Packet) (f : RxFrame) (s : State),
    s.link.length = 4 →
    s.takesFrames n.val = true →
    s.get LINK_GEN n.val = 3 →
    s.get LINK_AUTH_MODE n.val ≠ 0 →
    s.on LINK_LEGACY n.val = false →
    s.pktGood n.val 4 4 p = true →
    (s.port n.val).rx = some f →
    f.shown = true →
    (f.bad = true ∨ s.on LINK_KEY_MISMATCH n.val = true ∨ (s.port n.val).key = none) →
    s.portsSettled = true →
    ∃ t, exec (.fePacket n p) s = .next t ∧
      (t.get LINK_LAST_RESULT n.val = (if s.on LINK_KEY_MISMATCH n.val = true ∨ (s.port n.val).key = none then 2 else 4)) ∧
      (t.port n.val).rx = none ∧
      t.get LINK_AUTH_FAILS n.val = min (s.get LINK_AUTH_FAILS n.val + 1) (2 ^ LINK_AUTH_FAILS.wid - 1) ∧
      t.get LINK_CONSEC n.val = min (s.get LINK_CONSEC n.val + 1) (2 ^ LINK_CONSEC.wid - 1) ∧
      bitAt (t.get HDR_INT_RAW (linkPage n.val)) 8 = true ∧
      t.get LINK_AUTH_PASSES n.val = s.get LINK_AUTH_PASSES n.val ∧
      s.SameMemory t) ∧
  (∀ (n : Fin 4) (p : Packet) (s : State),
    s.takesFrames n.val = false →
    exec (.embPacket n p) s = .next (s.quiet)) ∧
  (∀ (n : Fin 4) (p : Packet) (s : State),
    s.takesFrames n.val = false →
    exec (.linePacket n p) s = .next (s.quiet)) ∧
  (∀ (n : Fin 4) (p : Packet) (s : State),
    s.takesFrames n.val = false →
    s.portsSettled = true →
    ∃ t, exec (.fsPacket n p) s = .next t ∧
      t.link = s.quiet.link ∧
      t.vid = s.vid ∧
      s.SameMemory t) ∧
  (∀ (n : Fin 4) (p : Packet) (s : State),
    s.takesFrames n.val = false →
    s.portsSettled = true →
    ∃ t, exec (.fePacket n p) s = .next t ∧
      t.link = s.quiet.link ∧
      t.vid = s.vid ∧
      s.SameMemory t) ∧
  (∀ (n : Fin 4) (s : State),
    s.linkUp n.val = true →
    exec (.reservedPacket n) s = .next (s.inc LINK_RX_ERR n.val)) ∧
  (∀ (n : Fin 4) (s : State),
    s.linkUp n.val = false →
    exec (.reservedPacket n) s = .next (s))

/-- An acknowledgement retires every message up to it, and forwarded events with it; one that names no message retires none. A
message whose CRC fails, or whose payload has not its length, is counted and has no effect, and one NAK answers a numbered one;
a numbered one in order is taken and counts, a repeated one is acknowledged again, one ahead is answered by one NAK, and a
closing port turns it away with reason 2. A NAK sends the messages from its number on again, gives up the lock where one of them
has been sent again 16 times, and with the closing reason ends the accesses it cuts. Where UP is needed and the port is not UP
nothing happens. The capabilities select the highest common generation, or none: a cab answers with its choice and trains, a
head waits for the choice and trains it. SESSION begins a session at the head with its nonce, its key and its answer,
SESSION_ACK at the cab, with the mismatch of keys. Where it is asked for, every port domain that opens is wanted, as in every
state that a run reaches. -/
def Obligations.LinkMessages : Prop :=
  (∀ (n : Fin 4) (c : Ctrl) (i : Nat) (s : State),
    s.link.length = 4 →
    (s.port 0).held = [] →
    c.crcOk = true →
    c.words.length = 0 →
    s.linkUp n.val = true →
    (s.linkOn n.val = true ∨ s.pd (2 + n.val) = 3) →
    ((s.port n.val).window.findIdx? (fun x => x.seq == c.ack.val) = some i) →
    s.portsSettled = true →
    ∃ t, exec (.ackMsg n c) s = .next t ∧
      (t.port n.val).window.take ((s.port n.val).window.length - (i + 1)) = (s.port n.val).window.drop (i + 1) ∧
      (t.port n.val).expSeq = (s.port n.val).expSeq ∧
      ((s.port n.val).waiting = [] → s.headEnd = false → (t.port n.val).window = (s.port n.val).window.drop (i + 1) ∧ (t.port
        n.val).nextSeq = (s.port n.val).nextSeq) ∧
      (((s.port n.val).window.take (i + 1)).any (fun m => m.msg == 0x21) = true → t.get LINKC_EVT_ACKED = (((((s.port
        n.val).window.take (i + 1)).filter (fun m => m.msg == 0x21)).getLast?.map (fun m => m.words.headD 0)).getD 0) % 65536) ∧
      s.SameMemory t) ∧
  (∀ (n : Fin 4) (c : Ctrl) (s : State),
    s.link.length = 4 →
    (s.port 0).held = [] →
    c.crcOk = true →
    c.words.length = 0 →
    s.linkUp n.val = true →
    s.headEnd = false →
    (s.linkOn n.val = true ∨ s.pd (2 + n.val) = 3) →
    ((s.port n.val).window.findIdx? (fun x => x.seq == c.ack.val) = none) →
    s.portsSettled = true →
    ∃ t, exec (.ackMsg n c) s = .next t ∧
      (t.port n.val).window = (s.port n.val).window ∧
      (t.port n.val).waiting = (s.port n.val).waiting ∧
      (t.port n.val).expSeq = (s.port n.val).expSeq ∧
      (∀ k, k < 4 → k ≠ n.val → t.port k = s.quiet.port k) ∧
      s.SameMemory t) ∧
  (∀ (n : Fin 4) (c : Ctrl) (i : Instr) (s : State),
    i ∈ [Instr.sessionMsg n c, .sessionAckMsg n c, .tunRdMsg n c, .tunWrMsg n c, .tunReplyMsg n c, .statusMsg n c, .eventMsg n c,
      .alarmMsg n c, .rresetMsg n c] →
    s.link.length = 4 →
    s.headEnd = false →
    (s.port 0).held = [] →
    c.crcOk = false →
    s.linkOn n.val = true →
    s.linkUp n.val = true →
    s.portsSettled = true →
    ∃ t, exec (i) s = .next t ∧
      (t.port n.val).nakSent = true ∧
      t.get LINK_RX_ERR n.val = min (s.get LINK_RX_ERR n.val + 1) (2 ^ LINK_RX_ERR.wid - 1) ∧
      (t.port n.val).expSeq = (s.port n.val).expSeq ∧
      ((t.port n.val).out = (if (s.port n.val).nakSent then [] else [ctrlWords 0x01 (((s.port n.val).nextSeq + 255) % 256) (s.port
        n.val).acked [(s.port n.val).expSeq + 2 ^ 8]])) ∧
      (t.port n.val).window = (s.port n.val).window ∧
      (∀ k, k < 4 → k ≠ n.val → t.port k = s.quiet.port k) ∧
      s.SameMemory t) ∧
  (∀ (n : Fin 4) (c : Ctrl) (i : Instr) (s : State),
    i ∈ [Instr.sessionMsg n c, .sessionAckMsg n c, .tunRdMsg n c, .tunWrMsg n c, .tunReplyMsg n c, .statusMsg n c, .eventMsg n c,
      .alarmMsg n c, .rresetMsg n c] →
    s.link.length = 4 →
    (s.port 0).held = [] →
    c.crcOk = true →
    c.words.length = messageLen i →
    s.linkUp n.val = true →
    s.linkOn n.val = true →
    c.seq.val ≠ (s.port n.val).expSeq →
    s.portsSettled = true →
    ∃ t, exec (i) s = .next t ∧
      (t.port n.val).expSeq = (s.port n.val).expSeq ∧
      t.get LINK_SES_STATE n.val = s.get LINK_SES_STATE n.val ∧
      (t.port n.val).pool = (s.port n.val).pool ∧
      (t.port n.val).held = (s.port n.val).held ∧
      (s.headEnd = false → ((s.port n.val).expSeq + 256 - c.seq.val) % 256 ≤ 16 → (s.port n.val).window = [] → (t.port
        n.val).ackOwed = true ∧ (t.port n.val).out = []) ∧
      (s.headEnd = false → 16 < ((s.port n.val).expSeq + 256 - c.seq.val) % 256 → (s.port n.val).window.findIdx? (fun x => x.seq
        == c.ack.val) = none → (s.port n.val).nakSent = false → (t.port n.val).nakSent = true ∧ (t.port n.val).out = [ctrlWords
        0x01 (((s.port n.val).nextSeq + 255) % 256) (s.port n.val).acked [(s.port n.val).expSeq]]) ∧
      s.SameMemory t) ∧
  (∀ (n : Fin 4) (c : Ctrl) (i : Instr) (s : State),
    i ∈ [Instr.sessionMsg n c, .sessionAckMsg n c, .tunRdMsg n c, .tunWrMsg n c, .tunReplyMsg n c, .statusMsg n c, .eventMsg n c,
      .alarmMsg n c, .rresetMsg n c] →
    s.link.length = 4 →
    (s.port 0).held = [] →
    c.crcOk = true →
    c.words.length = messageLen i →
    s.linkUp n.val = true →
    s.pd (2 + n.val) = 3 →
    s.portsSettled = true →
    ∃ t, exec (i) s = .next t ∧
      (t.port n.val).expSeq = (s.port n.val).expSeq ∧
      t.get LINK_SES_STATE n.val = s.get LINK_SES_STATE n.val ∧
      (t.port n.val).pool = (s.port n.val).pool ∧
      (t.port n.val).held = (s.port n.val).held ∧
      (s.headEnd = false → (s.port n.val).window.findIdx? (fun x => x.seq == c.ack.val) = none → (t.port n.val).out = [ctrlWords
        0x01 (((s.port n.val).nextSeq + 255) % 256) (s.port n.val).acked [(s.port n.val).expSeq + 2 * 2 ^ 8]]) ∧
      s.SameMemory t) ∧
  (∀ (n : Fin 4) (c : Ctrl) (i : Instr) (s : State),
    (i = .ackMsg n c ∨ i = .nakMsg n c ∨ i ∈ [Instr.sessionMsg n c, .sessionAckMsg n c, .tunRdMsg n c, .tunWrMsg n c, .tunReplyMsg
      n c, .statusMsg n c, .eventMsg n c, .alarmMsg n c, .rresetMsg n c]) →
    s.linkUp n.val = false →
    exec (i) s = .next (s.quiet)) ∧
  (∀ (n : Fin 4) (c : Ctrl) (i j : Nat) (s : State),
    s.link.length = 4 →
    s.headEnd = false →
    (s.port 0).held = [] →
    c.crcOk = true →
    c.words.length = 1 →
    s.linkOn n.val = true →
    s.linkUp n.val = true →
    (s.port n.val).waiting = [] →
    ((((s.port n.val).window.findIdx? (fun x => x.seq == c.ack.val)).map (fun i => i + 1)).getD 0 = j) →
    (((s.port n.val).window.drop j).findIdx? (fun x => x.seq == ctrlWord c 0 % 256) = some i) →
    ctrlWord c 0 / 256 % 256 ≠ 2 →
    (∀ m ∈ (s.port n.val).window.drop (j + i), m.tries < 16) →
    s.portsSettled = true →
    ∃ t, exec (.nakMsg n c) s = .next t ∧
      t.get LINK_RETX n.val = min (s.get LINK_RETX n.val + ((s.port n.val).window.length - (j + i))) (2 ^ LINK_RETX.wid - 1) ∧
      ((t.port n.val).window = ((s.port n.val).window.drop j).take i ++ ((s.port n.val).window.drop (j + i)).map (fun m =>
        { m with tries := m.tries + 1 })) ∧
      (t.port n.val).out.length = (s.port n.val).window.length - (j + i) ∧
      (∀ k, k < 4 → k ≠ n.val → t.port k = s.quiet.port k) ∧
      s.SameMemory t) ∧
  (∀ (n : Fin 4) (c : Ctrl) (i j : Nat) (s : State),
    s.link.length = 4 →
    s.headEnd = false →
    (s.port 0).held = [] →
    c.crcOk = true →
    c.words.length = 1 →
    s.linkOn n.val = true →
    s.linkUp n.val = true →
    (s.port n.val).waiting = [] →
    ((((s.port n.val).window.findIdx? (fun x => x.seq == c.ack.val)).map (fun i => i + 1)).getD 0 = j) →
    (((s.port n.val).window.drop j).findIdx? (fun x => x.seq == ctrlWord c 0 % 256) = some i) →
    ctrlWord c 0 / 256 % 256 ≠ 2 →
    (∃ m ∈ (s.port n.val).window.drop (j + i), 16 ≤ m.tries) →
    s.coreOn = true →
    s.portsSettled = true →
    ∃ t, exec (.nakMsg n c) s = .next t ∧
      t.get LINK_STATE n.val = 6 ∧
      t.get EVT_CODE 0 (s.get EVT_TOTAL % 256) = linkEv n.val 0x29 ∧
      t.get LINK_RETX n.val = s.get LINK_RETX n.val ∧
      (t.port n.val).window = (s.port n.val).window.drop j ∧
      s.SameMemory t) ∧
  (∀ (n : Fin 4) (c : Ctrl) (i j : Nat) (s : State),
    s.link.length = 4 →
    s.headEnd = false →
    (s.port 0).held = [] →
    c.crcOk = true →
    c.words.length = 1 →
    s.linkOn n.val = true →
    s.linkUp n.val = true →
    (s.port n.val).waiting = [] →
    ((((s.port n.val).window.findIdx? (fun x => x.seq == c.ack.val)).map (fun i => i + 1)).getD 0 = j) →
    (((s.port n.val).window.drop j).findIdx? (fun x => x.seq == ctrlWord c 0 % 256) = some i) →
    ctrlWord c 0 / 256 % 256 = 2 →
    (s.port n.val).pool.length ≤ 32 →
    s.portsSettled = true →
    ∃ t, exec (.nakMsg n c) s = .next t ∧
      (t.port n.val).window = ((s.port n.val).window.drop j).take i ∧
      (t.port n.val).nextSeq = ctrlWord c 0 % 256 ∧
      t.get LINK_RETX n.val = s.get LINK_RETX n.val ∧
      ((t.port n.val).pool = ((s.port n.val).pool.map (fun x =>
        { x with closed := x.closed || (((s.port n.val).window.drop (j + i)).any (fun y => (y.msg == 0x10 || y.msg == 0x11) && y.words.head? == some x.tag)) })).dropWhile
        (fun x => x.closed)) ∧
      ((t.port n.val).replies = (s.port n.val).replies ++ (((s.port n.val).pool.map (fun x =>
        { x with closed := x.closed || (((s.port n.val).window.drop (j + i)).any (fun y => (y.msg == 0x10 || y.msg == 0x11) && y.words.head? == some x.tag)) })).takeWhile
        (fun x => x.closed)).map (fun x => ⟨x.tag, cCLOSING, x.wr, false, false, x.master, 0⟩)) ∧
      s.SameMemory t) ∧
  (∀ (n : Fin 4) (c : Ctrl) (s : State),
    s.link.length = 4 →
    s.headEnd = false →
    (s.port 0).held = [] →
    c.crcOk = true →
    c.words.length = 1 →
    s.linkOn n.val = true →
    s.linkUp n.val = true →
    ((s.port n.val).window.findIdx? (fun x => x.seq == c.ack.val) = none) →
    ((s.port n.val).window.findIdx? (fun x => x.seq == ctrlWord c 0 % 256) = none) →
    s.portsSettled = true →
    ∃ t, exec (.nakMsg n c) s = .next t ∧
      (t.port n.val).window = (s.port n.val).window ∧
      (t.port n.val).out = [] ∧
      t.get LINK_RETX n.val = s.get LINK_RETX n.val ∧
      (∀ k, k < 4 → k ≠ n.val → t.port k = s.quiet.port k) ∧
      s.SameMemory t) ∧
  (∀ (n : Fin 4) (c : Ctrl) (s : State),
    s.link.length = 4 →
    s.headEnd = false →
    (s.port 0).held = [] →
    c.crcOk = true →
    c.words.length = 1 →
    s.linkOn n.val = true →
    s.get LINK_STATE n.val = 3 →
    topGen ((s.get LINK_GEN_EN n.val) &&& bitsOf (ctrlWord c 0) 0 3) ≠ 0 →
    s.portsSettled = true →
    ∃ t, exec (.capsMsg n c) s = .next t ∧
      t.get LINK_PEER n.val = bitsOf (ctrlWord c 0) 0 3 ∧
      t.get LINK_STATE n.val = 4 ∧
      (t.port n.val).gen = topGen ((s.get LINK_GEN_EN n.val) &&& bitsOf (ctrlWord c 0) 0 3) ∧
      (t.port n.val).attempts = 0 ∧
      (t.port n.val).peerPor = bitAt (ctrlWord c 0) 9 ∧
      ((s.port n.val).window = [] → bitAt (ctrlWord c 0) 8 = false → (t.port n.val).out = [ctrlWords 0x03 (((s.port n.val).nextSeq
        + 255) % 256) (s.port n.val).acked [(t.port n.val).gen]]) ∧
      (bitAt (ctrlWord c 0) 8 = true → t.get LINK_SES_STATE n.val = 0) ∧
      (bitAt (ctrlWord c 0) 8 = false → t.get LINK_SES_STATE n.val = s.get LINK_SES_STATE n.val) ∧
      s.SameMemory t) ∧
  (∀ (n : Fin 4) (c : Ctrl) (s : State),
    s.link.length = 4 →
    (s.port 0).held = [] →
    s.headEnd = true →
    c.crcOk = true →
    c.words.length = 1 →
    s.linkOn n.val = true →
    s.get LINK_STATE n.val = 3 →
    topGen ((s.get LINK_GEN_EN n.val) &&& bitsOf (ctrlWord c 0) 0 3) ≠ 0 →
    s.portsSettled = true →
    ∃ t, exec (.capsMsg n c) s = .next t ∧
      t.get LINK_PEER n.val = bitsOf (ctrlWord c 0) 0 3 ∧
      t.get LINK_STATE n.val = 3 ∧
      s.SameMemory t) ∧
  (∀ (n : Fin 4) (c : Ctrl) (s : State),
    s.link.length = 4 →
    (s.port 0).held = [] →
    c.crcOk = true →
    c.words.length = 1 →
    s.linkOn n.val = true →
    s.get LINK_STATE n.val = 3 →
    topGen ((s.get LINK_GEN_EN n.val) &&& bitsOf (ctrlWord c 0) 0 3) = 0 →
    s.portsSettled = true →
    ∃ t, exec (.capsMsg n c) s = .next t ∧
      t.get LINK_PEER n.val = bitsOf (ctrlWord c 0) 0 3 ∧
      t.get LINK_STATE n.val = 8 ∧
      s.SameMemory t) ∧
  (∀ (n : Fin 4) (c : Ctrl) (s : State),
    s.link.length = 4 →
    (s.port 0).held = [] →
    (s.get LINK_STATE n.val ≠ 3 ∨ s.linkOn n.val = false) →
    s.portsSettled = true →
    ∃ t, exec (.capsMsg n c) s = .next t ∧
      t.get LINK_PEER n.val = s.get LINK_PEER n.val ∧
      t.get LINK_STATE n.val = s.get LINK_STATE n.val ∧
      t.get LINK_SES_STATE n.val = s.get LINK_SES_STATE n.val ∧
      s.SameMemory t) ∧
  (∀ (n : Fin 4) (c : Ctrl) (s : State),
    s.link.length = 4 →
    s.headEnd = true →
    (s.port 0).held = [] →
    c.crcOk = true →
    c.words.length = 1 →
    s.linkOn n.val = true →
    s.get LINK_STATE n.val = 3 →
    1 ≤ bitsOf (ctrlWord c 0) 0 3 →
    bitsOf (ctrlWord c 0) 0 3 ≤ 3 →
    s.portsSettled = true →
    ∃ t, exec (.choiceMsg n c) s = .next t ∧
      t.get LINK_STATE n.val = 4 ∧
      (t.port n.val).gen = bitsOf (ctrlWord c 0) 0 3 ∧
      (t.port n.val).attempts = 0 ∧
      s.SameMemory t) ∧
  (∀ (n : Fin 4) (c : Ctrl) (s : State),
    s.link.length = 4 →
    (s.port 0).held = [] →
    (s.headEnd = false ∨ s.linkOn n.val = false ∨ s.get LINK_STATE n.val ≠ 3 ∨ bitsOf (ctrlWord c 0) 0 3 = 0 ∨ 3 < bitsOf
      (ctrlWord c 0) 0 3 ∨ c.crcOk = false) →
    s.portsSettled = true →
    ∃ t, exec (.choiceMsg n c) s = .next t ∧
      t.get LINK_STATE n.val = s.get LINK_STATE n.val ∧
      (t.port n.val).gen = (s.port n.val).gen ∧
      s.SameMemory t) ∧
  (∀ (c : Ctrl) (s : State),
    s.link.length = 4 →
    s.headEnd = true →
    (s.port 0).held = [] →
    c.crcOk = true →
    c.words.length = 3 →
    s.linkOn 0 = true →
    s.linkUp 0 = true →
    c.seq.val = (s.port 0).expSeq →
    (s.port 0).window = [] →
    s.portsSettled = true →
    ∃ t, exec (.sessionMsg 0 c) s = .next t ∧
      t.get LINK_SES_STATE 0 = 1 ∧
      t.get LINK_NONCE 0 0 = ctrlWord c 0 ∧
      t.get LINK_NONCE 0 1 = ctrlWord c 1 ∧
      t.get LINK_SESSIONS 0 = min (s.get LINK_SESSIONS 0 + 1) (2 ^ LINK_SESSIONS.wid - 1) ∧
      t.linkc.fresh = false ∧
      t.linkc.por = false ∧
      (t.port 0).expSeq = ((s.port 0).expSeq + 1) % 256 ∧
      (t.get LINKC_KEY_STATE = (if s.on LINKC_KEY_EN = true ∧ bitAt s.gran.pageLocked (s.get LINKC_KEY_PAGE) = true then 1 else
        2)) ∧
      (∃ x ∈ (t.port 0).window, x.msg = 0x05 ∧ x.words = [t.get LINKC_KCV + s.get LINKC_WAKE_REASON * 2 ^ 24 + bit (s.on
        LINKC_COLLIDED) * 2 ^ 29]) ∧
      s.SameMemory t) ∧
  (∀ (n : Fin 4) (c : Ctrl) (s : State),
    s.link.length = 4 →
    s.headEnd = false →
    (s.port 0).held = [] →
    c.crcOk = true →
    c.words.length = 1 →
    s.linkOn n.val = true →
    s.linkUp n.val = true →
    c.seq.val = (s.port n.val).expSeq →
    s.coreOn = true →
    s.portsSettled = true →
    ∃ t, exec (.sessionAckMsg n c) s = .next t ∧
      t.get LINK_SES_STATE n.val = 1 ∧
      t.get LINK_SESSIONS n.val = min (s.get LINK_SESSIONS n.val + 1) (2 ^ LINK_SESSIONS.wid - 1) ∧
      t.get LINK_KEY_MISMATCH n.val = bit (decide (bitsOf (ctrlWord c 0) 0 24 ≠ s.get LINKC_KCV)) ∧
      (t.port n.val).expSeq = ((s.port n.val).expSeq + 1) % 256 ∧
      t.get EVT_CODE 0 (s.get EVT_TOTAL % 256) = linkEv n.val 0x20 ∧
      (∀ k, k < 4 → k ≠ n.val → t.port k = s.quiet.port k) ∧
      s.SameMemory t) ∧
  (∀ (n : Fin 4) (c : Ctrl) (s : State),
    s.link.length = 4 →
    (s.port 0).held = [] →
    s.headEnd = false →
    s.portsSettled = true →
    ∃ t, exec (.sessionMsg n c) s = .next t ∧
      t.get LINK_SES_STATE n.val = s.get LINK_SES_STATE n.val ∧
      t.get LINK_SESSIONS n.val = s.get LINK_SESSIONS n.val ∧
      s.SameMemory t) ∧
  (∀ (n : Fin 4) (c : Ctrl) (s : State),
    s.link.length = 4 →
    (s.port 0).held = [] →
    s.headEnd = true →
    s.portsSettled = true →
    ∃ t, exec (.sessionAckMsg n c) s = .next t ∧
      t.get LINK_SES_STATE n.val = s.get LINK_SES_STATE n.val ∧
      t.get LINK_SESSIONS n.val = s.get LINK_SESSIONS n.val ∧
      s.SameMemory t) ∧
  (∀ (n : Fin 4) (c : Ctrl) (i : Instr) (s : State),
    (i ∈ [Instr.ackMsg n c, .nakMsg n c, .capsMsg n c, .choiceMsg n c] ∨ i ∈ [Instr.sessionMsg n c, .sessionAckMsg n c, .tunRdMsg
      n c, .tunWrMsg n c, .tunReplyMsg n c, .statusMsg n c, .eventMsg n c, .alarmMsg n c, .rresetMsg n c]) →
    s.portsSettled = true →
    (i ∈ [Instr.ackMsg n c, .nakMsg n c, .capsMsg n c, .choiceMsg n c] ∧ c.crcOk = false ∨ c.words.length ≠ messageLen i) →
    s.link.length = 4 →
    s.headEnd = false →
    (s.port 0).held = [] →
    s.linkOn n.val = true →
    s.linkUp n.val = true →
    ∃ t, exec (i) s = .next t ∧
      t.get LINK_RX_ERR n.val = min (s.get LINK_RX_ERR n.val + 1) (2 ^ LINK_RX_ERR.wid - 1) ∧
      t.get LINK_STATE n.val = 5 ∧
      t.get LINK_SES_STATE n.val = s.get LINK_SES_STATE n.val ∧
      (c.crcOk = true ∨ i ∈ [Instr.ackMsg n c, .nakMsg n c, .capsMsg n c, .choiceMsg n c] → (t.port n.val).out = [] ∧ (t.port
        n.val).nakSent = (s.port n.val).nakSent) ∧
      (t.port n.val).expSeq = (s.port n.val).expSeq ∧
      (t.port n.val).window = (s.port n.val).window ∧
      (∀ k, k < 4 → k ≠ n.val → t.port k = s.quiet.port k) ∧
      s.SameMemory t)

/-- A head that serves accesses answers each with its tag: a read, a write with its code, and an access of a page absent at a
head with ROLE_REJECT; a write that resets the head or closes its port is answered first and its action deferred. A head that
does not serve holds the access, and at the timeout answers the oldest with NVM_BUSY. A reply in an active session frees its
place of the pool and enters the reply FIFO with the master that issued the access, and is raised; one with an unknown tag or
outside a session changes neither. A write of TUN_ADDR at a cab takes the next tag and a place of the pool and sends the access;
it is refused at a head, without a session, and where the pool and the FIFO are full. TUN_POP and HEVT_POP drop the oldest and
show the next; AUTH_CLR ends blocking. RRESET notes its master and sends the message, refused with a wrong key; at a head it
does nothing. A message for the other end does nothing. Where it is asked for, every port domain that opens is wanted, as in
every state that a run reaches. -/
def Obligations.TunnelMessages : Prop :=
  (∀ (c : Ctrl) (s : State),
    s.link.length = 4 →
    s.headEnd = true →
    (s.port 0).held = [] →
    c.crcOk = true →
    c.words.length = 2 →
    s.linkOn 0 = true →
    s.linkUp 0 = true →
    c.seq.val = (s.port 0).expSeq →
    s.headServes = true →
    (s.wake 2 none).headServes = true →
    s.portsSettled = true →
    ∃ t, exec (.tunRdMsg 0 c) s = .next t ∧
      (t.port 0).held = [] ∧
      (∃ x ∈ (t.port 0).window ++ (t.port 0).waiting, x.msg = 0x12 ∧ x.words.headD 0 % 256 = ctrlWord c 0 % 256 ∧ bitAt
        (x.words.headD 0) 16 = false ∧ (ctrlWord c 1 = regAddr 0x002 0x048 → x.words.headD 0 / 256 % 256 = cOK ∧ x.words.getD 1 0
        = s.get CLK_KEEP) ∧ (ctrlWord c 1 = regAddr 0x071 0x010 → x.words.headD 0 / 256 % 256 = cROLE)) ∧
      (t.port 0).expSeq = ((s.port 0).expSeq + 1) % 256 ∧
      s.SameMemory t) ∧
  (∀ (c : Ctrl) (s : State),
    s.link.length = 4 →
    s.headEnd = true →
    c.crcOk = true →
    c.words.length = 2 →
    s.linkOn 0 = true →
    s.linkUp 0 = true →
    c.seq.val = (s.port 0).expSeq →
    s.headServes = false →
    s.yard.pstate = 0 →
    s.portsSettled = true →
    ∃ t, exec (.tunRdMsg 0 c) s = .next t ∧
      (t.port 0).held = (s.port 0).held ++ [⟨ctrlWord c 0 % 256, false, ctrlWord c 1, 0, 3, false, false⟩] ∧
      s.SameMemory t) ∧
  (∀ (c : Ctrl) (s : State),
    s.link.length = 4 →
    s.headEnd = true →
    c.crcOk = true →
    c.words.length = 3 →
    s.linkOn 0 = true →
    s.linkUp 0 = true →
    c.seq.val = (s.port 0).expSeq →
    s.headServes = false →
    s.yard.pstate = 0 →
    s.portsSettled = true →
    ∃ t, exec (.tunWrMsg 0 c) s = .next t ∧
      (t.port 0).held = (s.port 0).held ++ [⟨ctrlWord c 0 % 256, true, ctrlWord c 1, ctrlWord c 2, 3, false, false⟩] ∧
      s.SameMemory t) ∧
  (∀ (c : Ctrl) (s : State),
    s.link.length = 4 →
    s.headEnd = true →
    (s.port 0).held = [] →
    c.crcOk = true →
    c.words.length = 3 →
    s.linkOn 0 = true →
    s.linkUp 0 = true →
    c.seq.val = (s.port 0).expSeq →
    s.headServes = true →
    (s.wake 2 none).headServes = true →
    ctrlWord c 1 = regAddr 0x002 0x048 →
    s.accepts 3 0x002 0x048 (ctrlWord c 2) = true →
    s.portsSettled = true →
    ∃ t, exec (.tunWrMsg 0 c) s = .next t ∧
      (t.port 0).held = [] ∧
      (∃ x ∈ (t.port 0).window ++ (t.port 0).waiting, x.msg = 0x12 ∧ x.words = [ctrlWord c 0 % 256 + cOK * 2 ^ 8 + 2 ^ 16, 0]) ∧
      t.get CLK_KEEP = wordField CLK_KEEP (ctrlWord c 2) ∧
      s.SameMemory t) ∧
  (∀ (c : Ctrl) (s : State),
    s.link.length = 4 →
    s.headEnd = true →
    (s.port 0).held = [] →
    c.crcOk = true →
    c.words.length = 3 →
    s.linkOn 0 = true →
    s.linkUp 0 = true →
    c.seq.val = (s.port 0).expSeq →
    s.headServes = true →
    (s.wake 2 none).headServes = true →
    ctrlWord c 1 = regAddr 0x071 0x010 →
    s.portsSettled = true →
    ∃ t, exec (.tunWrMsg 0 c) s = .next t ∧
      (t.port 0).held = [] ∧
      (∃ x ∈ (t.port 0).window ++ (t.port 0).waiting, x.msg = 0x12 ∧ x.words = [ctrlWord c 0 % 256 + cROLE * 2 ^ 8 + 2 ^ 16, 0]) ∧
      s.SameMemory t) ∧
  (∀ (c : Ctrl) (s : State),
    s.link.length = 4 →
    s.headEnd = true →
    (s.port 0).held = [] →
    c.crcOk = true →
    c.words.length = 3 →
    s.linkOn 0 = true →
    s.linkUp 0 = true →
    c.seq.val = (s.port 0).expSeq →
    s.headServes = true →
    (s.wake 2 none).headServes = true →
    ctrlWord c 1 = regAddr 0x000 0x068 →
    s.accepts 3 0x000 0x068 (ctrlWord c 2) = true →
    s.portsSettled = true →
    ∃ t, exec (.tunWrMsg 0 c) s = .next t ∧
      (t.port 0).held = [] ∧
      (∃ x ∈ (t.port 0).window ++ (t.port 0).waiting, x.msg = 0x12 ∧ x.words = [ctrlWord c 0 % 256 + cOK * 2 ^ 8 + 2 ^ 16, 0]) ∧
      (t.port 0).action = (s.port 0).action ++ [1 + bit (bitAt (ctrlWord c 2) 8)] ∧
      t.boot = s.boot ∧
      s.SameMemory t) ∧
  (∀ (c : Ctrl) (s : State),
    s.link.length = 4 →
    s.headEnd = true →
    (s.port 0).held = [] →
    c.crcOk = true →
    c.words.length = 3 →
    s.linkOn 0 = true →
    s.linkUp 0 = true →
    c.seq.val = (s.port 0).expSeq →
    s.headServes = true →
    (s.wake 2 none).headServes = true →
    ctrlWord c 1 = regAddr 0x070 0x008 →
    s.accepts 3 0x070 0x008 (ctrlWord c 2) = true →
    s.get HDR_EN 0x070 = 1 →
    bitAt (ctrlWord c 2) 0 = false →
    s.portsSettled = true →
    ∃ t, exec (.tunWrMsg 0 c) s = .next t ∧
      (t.port 0).held = [] ∧
      (∃ x ∈ (t.port 0).window ++ (t.port 0).waiting, x.msg = 0x12 ∧ x.words = [ctrlWord c 0 % 256 + cOK * 2 ^ 8 + 2 ^ 16, 0]) ∧
      (t.port 0).action = (s.port 0).action ++ [4 + ctrlWord c 2] ∧
      t.get HDR_EN 0x070 = 1 ∧
      s.SameMemory t) ∧
  (∀ (n : Fin 4) (c : Ctrl) (s : State),
    s.link.length = 4 →
    (s.port 0).held = [] →
    s.headEnd = false →
    s.portsSettled = true →
    ∃ t, exec (.tunRdMsg n c) s = .next t ∧
      (t.port n.val).held = (s.port n.val).held ∧
      (t.port n.val).pool = (s.port n.val).pool ∧
      s.SameMemory t) ∧
  (∀ (n : Fin 4) (c : Ctrl) (s : State),
    s.link.length = 4 →
    (s.port 0).held = [] →
    s.headEnd = false →
    s.portsSettled = true →
    ∃ t, exec (.tunWrMsg n c) s = .next t ∧
      (t.port n.val).held = (s.port n.val).held ∧
      (t.port n.val).pool = (s.port n.val).pool ∧
      s.SameMemory t) ∧
  (∀ (n : Fin 4) (c : Ctrl) (a : TunAcc) (s : State),
    s.link.length = 4 →
    s.headEnd = false →
    (s.port 0).held = [] →
    c.crcOk = true →
    c.words.length = 2 →
    s.linkOn n.val = true →
    s.linkUp n.val = true →
    c.seq.val = (s.port n.val).expSeq →
    s.get LINK_SES_STATE n.val = 1 →
    bitAt (ctrlWord c 0) 18 = false →
    ((s.port n.val).pool.find? (fun a => a.tag == bitsOf (ctrlWord c 0) 0 8) = some a) →
    (s.port n.val).pool.length ≤ 32 →
    s.portsSettled = true →
    ∃ t, exec (.tunReplyMsg n c) s = .next t ∧
      ((t.port n.val).pool = ((s.port n.val).pool.erase a).dropWhile (fun x => x.closed)) ∧
      ((t.port n.val).replies = (s.port n.val).replies ++ ⟨a.tag, bitsOf (ctrlWord c 0) 8 8, bitAt (ctrlWord c 0) 16, false,
        false, a.master, ctrlWord c 1⟩ ::
        (((s.port n.val).pool.erase a).takeWhile (fun x => x.closed)).map (fun x => ⟨x.tag, cCLOSING, x.wr, false, false,
          x.master, 0⟩)) ∧
      bitAt (t.get HDR_INT_RAW (linkPage n.val)) 5 = true ∧
      t.get LINK_REPLIES n.val = (t.port n.val).replies.length % 2 ^ LINK_REPLIES.wid ∧
      t.get LINK_PENDING n.val = (t.port n.val).pool.length % 2 ^ LINK_PENDING.wid ∧
      (∀ k, k < 4 → k ≠ n.val → t.port k = s.quiet.port k) ∧
      s.SameMemory t) ∧
  (∀ (n : Fin 4) (c : Ctrl) (s : State),
    s.link.length = 4 →
    s.headEnd = false →
    (s.port 0).held = [] →
    c.crcOk = true →
    c.words.length = 2 →
    s.linkOn n.val = true →
    s.linkUp n.val = true →
    c.seq.val = (s.port n.val).expSeq →
    s.get LINK_SES_STATE n.val = 1 →
    bitAt (ctrlWord c 0) 18 = true →
    s.portsSettled = true →
    ∃ t, exec (.tunReplyMsg n c) s = .next t ∧
      (t.port n.val).pool = (s.port n.val).pool ∧
      (t.port n.val).replies = (s.port n.val).replies ++ [⟨0, bitsOf (ctrlWord c 0) 8 8, bitAt (ctrlWord c 0) 16, false, true,
        (s.port n.val).rrMaster.headD 0, ctrlWord c 1⟩] ∧
      (t.port n.val).rrMaster = (s.port n.val).rrMaster.drop 1 ∧
      bitAt (t.get HDR_INT_RAW (linkPage n.val)) 5 = true ∧
      (∀ k, k < 4 → k ≠ n.val → t.port k = s.quiet.port k) ∧
      s.SameMemory t) ∧
  (∀ (n : Fin 4) (c : Ctrl) (s : State),
    s.link.length = 4 →
    (s.port 0).held = [] →
    (s.headEnd = true ∨ s.get LINK_SES_STATE n.val ≠ 1 ∨ (bitAt (ctrlWord c 0) 18 = false ∧ (s.port n.val).pool.find? (fun a =>
      a.tag == bitsOf (ctrlWord c 0) 0 8) = none)) →
    s.portsSettled = true →
    ∃ t, exec (.tunReplyMsg n c) s = .next t ∧
      (t.port n.val).pool = (s.port n.val).pool ∧
      (t.port n.val).replies = (s.port n.val).replies ∧
      s.SameMemory t) ∧
  (∀ (a : TunAcc) (l : List TunAcc) (s : State),
    s.link.length = 4 →
    s.headEnd = true →
    s.headServes = false →
    (s.port 0).held = a :: l →
    s.portsSettled = true →
    ∃ t, exec (.tunnelTimeout) s = .next t ∧
      (t.port 0).held = l ∧
      (∃ x ∈ (t.port 0).window ++ (t.port 0).waiting, x.msg = 0x12 ∧ x.words = [a.tag + cNVM * 2 ^ 8 + bit a.wr * 2 ^ 16, 0]) ∧
      s.SameMemory t) ∧
  (∀ (s : State),
    s.link.length = 4 →
    (s.headEnd = false ∨ (s.port 0).held = []) →
    s.portsSettled = true →
    ∃ t, exec (.tunnelTimeout) s = .next t ∧
      (t.port 0).held = (s.port 0).held ∧
      (∀ k, k < 4 → (t.port k).pool = (s.port k).pool ∧ (t.port k).replies = (s.port k).replies)) ∧
  (∀ (m : Master) (n : Fin 4) (data : Word) (s : State),
    s.link.length = 4 →
    s.accepts m.num (linkPage n.val) 0x124 data.toNat = true →
    s.headEnd = false →
    s.portsSettled = true →
    ∃ t, exec (.tunAddr m n data) s = .next t ∧
      t.get LINK_NEXT_TAG n.val = (s.get LINK_NEXT_TAG n.val + 1) % 2 ^ LINK_NEXT_TAG.wid ∧
      (t.port n.val).pool = (s.port n.val).pool ++ [⟨s.get LINK_NEXT_TAG n.val, bitAt data.toNat 0, data.toNat / 4 * 4, (s.port
        n.val).wdata.getD m.num 0, m.num, false, false⟩] ∧
      (∃ x ∈ (t.port n.val).window ++ (t.port n.val).waiting, x.msg = (if bitAt data.toNat 0 then 0x11 else 0x10) ∧ x.words =
        s.get LINK_NEXT_TAG n.val :: data.toNat / 4 * 4 :: (if bitAt data.toNat 0 then [(s.port n.val).wdata.getD m.num 0] else
        [])) ∧
      t.get LINK_PENDING n.val = ((s.port n.val).pool.length + 1) % 2 ^ LINK_PENDING.wid ∧
      s.SameBut t [linkPage n.val] lastKeys ∧
      s.SameMemory t) ∧
  (∀ (m : Master) (n : Fin 4) (data : Word) (s : State),
    s.serves = true →
    s.sources m.num = true →
    s.present (linkPage n.val) = true →
    (s.checkWith none m.num (linkPage n.val) 0x124 data.toNat).isNone = true →
    (s.headEnd = true ∨ s.get LINK_SES_STATE n.val = 0 ∨ 32 ≤ (s.port n.val).pool.length + (s.port n.val).replies.length) →
    s.portsSettled = true →
    ∃ t, exec (.tunAddr m n data) s = .next t ∧
      (t.get HDR_ERR_CODE (linkPage n.val) = (if s.headEnd = true ∨ s.get LINK_SES_STATE n.val = 0 then cSTATE else if s.get
        LINK_SES_STATE n.val = 2 then cRECOVERING else cBUSY)) ∧
      t.link = s.quiet.link ∧
      t.get LINK_NEXT_TAG n.val = s.get LINK_NEXT_TAG n.val ∧
      s.SameMemory t) ∧
  (∀ (m : Master) (n : Fin 4) (s : State),
    s.link.length = 4 →
    s.accepts m.num (linkPage n.val) 0x134 1 = true →
    s.portsSettled = true →
    ∃ t, exec (.tunPop m n) s = .next t ∧
      (t.port n.val).replies = (s.port n.val).replies.drop 1 ∧
      (t.port n.val).hevts = (s.port n.val).hevts ∧
      t.get LINK_REPLIES n.val = ((s.port n.val).replies.length - 1) % 2 ^ LINK_REPLIES.wid ∧
      t.get LINK_REP_VALID n.val = bit (decide (1 < (s.port n.val).replies.length)) ∧
      (t.get LINK_REP_TAG n.val = ((((s.port n.val).replies.drop 1).head?.map (fun r => r.tag)).getD 0) % 2 ^ LINK_REP_TAG.wid) ∧
      s.SameBut t [linkPage n.val] lastKeys ∧
      s.SameMemory t) ∧
  (∀ (m : Master) (n : Fin 4) (s : State),
    s.link.length = 4 →
    s.accepts m.num (linkPage n.val) 0x134 2 = true →
    s.portsSettled = true →
    ∃ t, exec (.hevtPop m n) s = .next t ∧
      (t.port n.val).hevts = (s.port n.val).hevts.drop 1 ∧
      (t.port n.val).replies = (s.port n.val).replies ∧
      t.get LINK_HEVT_COUNT n.val = ((s.port n.val).hevts.length - 1) % 2 ^ LINK_HEVT_COUNT.wid ∧
      t.get LINK_HEVT_VALID n.val = bit (decide (1 < (s.port n.val).hevts.length)) ∧
      s.SameBut t [linkPage n.val] lastKeys ∧
      s.SameMemory t) ∧
  (∀ (m : Master) (n : Fin 4) (s : State),
    s.accepts m.num (linkPage n.val) 0x10C 1 = true →
    exec (.authClr m n) s = .next ((((s.rewritten (linkPage n.val) 0x10C).put LINK_BLOCKED 0 n.val).put LINK_CONSEC 0
      n.val).noteCode m.num cOK)) ∧
  (∀ (m : Master) (n : Fin 4) (data : Word) (s : State),
    s.link.length = 4 →
    s.accepts m.num (linkPage n.val) 0x138 data.toNat = true →
    s.headEnd = false →
    s.portsSettled = true →
    ∃ t, exec (.rreset m n data) s = .next t ∧
      (t.port n.val).rrMaster = (s.port n.val).rrMaster ++ [m.num] ∧
      (∃ x ∈ (t.port n.val).window ++ (t.port n.val).waiting, x.msg = 0x30 ∧ x.words = [bit (bitAt data.toNat 8) * 2 ^ 8]) ∧
      s.SameBut t [linkPage n.val] lastKeys ∧
      s.SameMemory t) ∧
  (∀ (m : Master) (n : Fin 4) (data : Word) (s : State),
    s.accepts m.num (linkPage n.val) 0x138 data.toNat = true →
    s.headEnd = true →
    exec (.rreset m n data) s = .next ((s.quiet.rewritten (linkPage n.val) 0x138).noteCode m.num cOK)) ∧
  (∀ (m : Master) (n : Fin 4) (data : Word) (s : State),
    s.serves = true →
    s.sources m.num = true →
    s.present (linkPage n.val) = true →
    (s.checkWith none m.num (linkPage n.val) 0x138 data.toNat).isNone = true →
    data.toNat % 256 ≠ 0x5A →
    s.portsSettled = true →
    ∃ t, exec (.rreset m n data) s = .next t ∧
      t.get HDR_ERR_CODE (linkPage n.val) = cRANGE ∧
      t.link = s.quiet.link ∧
      s.SameMemory t)

/-- In an active session STATUS shows the head in HEAD_STAT, and an event that follows the last one, or is the first after a
power-on of the head, enters the head-event FIFO and is raised, or is counted lost where the FIFO is full; a number that was
skipped is logged; an event that does not follow, and either outside a session, changes neither. An alarm is logged and raised.
RRESET at a head is answered, and its reset waits where the master is privileged. At a timeout all unacknowledged messages are
sent again and counted, or, once one has been sent again 16 times, the lock is given up and logged; a port that is not UP sends
none. The delay acknowledges once. The deferred action is performed once: a LINK or a SOFT reset, or the write that closes
LINK0. A message for the other end does nothing. Where it is asked for, every port domain that opens is wanted, as in every
state that a run reaches. -/
def Obligations.HeadMessages : Prop :=
  (∀ (n : Fin 4) (c : Ctrl) (s : State),
    s.link.length = 4 →
    s.headEnd = false →
    (s.port 0).held = [] →
    c.crcOk = true →
    c.words.length = 1 →
    s.linkOn n.val = true →
    s.linkUp n.val = true →
    c.seq.val = (s.port n.val).expSeq →
    s.get LINK_SES_STATE n.val = 1 →
    s.portsSettled = true →
    ∃ t, exec (.statusMsg n c) s = .next t ∧
      t.get LINK_HEAD_STAT n.val = ctrlWord c 0 % 2 ^ LINK_HEAD_STAT.wid ∧
      (t.port n.val).expSeq = ((s.port n.val).expSeq + 1) % 256 ∧
      (∀ k, k < 4 → k ≠ n.val → t.port k = s.quiet.port k) ∧
      s.SameMemory t) ∧
  (∀ (n : Fin 4) (c : Ctrl) (s : State),
    s.link.length = 4 →
    (s.port 0).held = [] →
    (s.headEnd = true ∨ s.get LINK_SES_STATE n.val ≠ 1) →
    s.portsSettled = true →
    ∃ t, exec (.statusMsg n c) s = .next t ∧
      t.get LINK_HEAD_STAT n.val = s.get LINK_HEAD_STAT n.val ∧
      s.SameMemory t) ∧
  (∀ (n : Fin 4) (c : Ctrl) (s : State),
    s.link.length = 4 →
    s.headEnd = false →
    (s.port 0).held = [] →
    c.crcOk = true →
    c.words.length = 3 →
    s.linkOn n.val = true →
    s.linkUp n.val = true →
    c.seq.val = (s.port n.val).expSeq →
    s.get LINK_SES_STATE n.val = 1 →
    (∀ q ∈ (s.port n.val).lastEv.toList, ((s.port n.val).firstEv = true ∧ (s.port n.val).peerPor = true) ∨ (1 ≤ (bitsOf (ctrlWord
      c 0) 0 16 + 65536 - q) % 65536 ∧ (bitsOf (ctrlWord c 0) 0 16 + 65536 - q) % 65536 < 32768)) →
    (s.port n.val).hevts.length < 64 →
    s.portsSettled = true →
    ∃ t, exec (.eventMsg n c) s = .next t ∧
      (t.port n.val).hevts = (s.port n.val).hevts ++ [⟨bitsOf (ctrlWord c 0) 0 16, bitsOf (ctrlWord c 0) 16 8, ctrlWord c 1,
        ctrlWord c 2 / 65536, ctrlWord c 2 % 65536⟩] ∧
      (t.port n.val).lastEv = some (bitsOf (ctrlWord c 0) 0 16) ∧
      (t.port n.val).firstEv = false ∧
      bitAt (t.get HDR_INT_RAW (linkPage n.val)) 6 = true ∧
      t.get LINK_HEVT_COUNT n.val = ((s.port n.val).hevts.length + 1) % 2 ^ LINK_HEVT_COUNT.wid ∧
      (∀ q ∈ (s.port n.val).lastEv.toList, (s.port n.val).firstEv = false → 1 < (bitsOf (ctrlWord c 0) 0 16 + 65536 - q) % 65536 →
        s.coreOn = true → t.get EVT_CODE 0 (s.get EVT_TOTAL % 256) = linkEv n.val 0x26 ∧ t.get EVT_DATA 0 (s.get EVT_TOTAL % 256)
        = (bitsOf (ctrlWord c 0) 0 16 + 65536 - q) % 65536 - 1) ∧
      s.SameMemory t) ∧
  (∀ (n : Fin 4) (c : Ctrl) (s : State),
    s.link.length = 4 →
    s.headEnd = false →
    (s.port 0).held = [] →
    c.crcOk = true →
    c.words.length = 3 →
    s.linkOn n.val = true →
    s.linkUp n.val = true →
    c.seq.val = (s.port n.val).expSeq →
    s.get LINK_SES_STATE n.val = 1 →
    (∀ q ∈ (s.port n.val).lastEv.toList, ((s.port n.val).firstEv = true ∧ (s.port n.val).peerPor = true) ∨ (1 ≤ (bitsOf (ctrlWord
      c 0) 0 16 + 65536 - q) % 65536 ∧ (bitsOf (ctrlWord c 0) 0 16 + 65536 - q) % 65536 < 32768)) →
    64 ≤ (s.port n.val).hevts.length →
    s.portsSettled = true →
    ∃ t, exec (.eventMsg n c) s = .next t ∧
      (t.port n.val).hevts = (s.port n.val).hevts ∧
      (t.port n.val).lastEv = some (bitsOf (ctrlWord c 0) 0 16) ∧
      t.get LINK_HEVT_LOST n.val = min (s.get LINK_HEVT_LOST n.val + 1) (2 ^ LINK_HEVT_LOST.wid - 1) ∧
      t.get LINK_HEVT_OVF n.val = 1 ∧
      (s.on LINK_HEVT_OVF n.val = false → s.coreOn = true → t.lastEvent (linkEv n.val 0x27) 0 = true) ∧
      s.SameMemory t) ∧
  (∀ (n : Fin 4) (c : Ctrl) (q : Nat) (s : State),
    s.link.length = 4 →
    s.headEnd = false →
    (s.port 0).held = [] →
    c.crcOk = true →
    c.words.length = 3 →
    s.linkOn n.val = true →
    s.linkUp n.val = true →
    c.seq.val = (s.port n.val).expSeq →
    s.get LINK_SES_STATE n.val = 1 →
    (s.port n.val).lastEv = some q →
    ((s.port n.val).firstEv = false ∨ (s.port n.val).peerPor = false) →
    ((bitsOf (ctrlWord c 0) 0 16 + 65536 - q) % 65536 = 0 ∨ 32768 ≤ (bitsOf (ctrlWord c 0) 0 16 + 65536 - q) % 65536) →
    s.portsSettled = true →
    ∃ t, exec (.eventMsg n c) s = .next t ∧
      (t.port n.val).hevts = (s.port n.val).hevts ∧
      (t.port n.val).lastEv = some q ∧
      t.get LINK_HEVT_LOST n.val = s.get LINK_HEVT_LOST n.val ∧
      s.SameMemory t) ∧
  (∀ (n : Fin 4) (c : Ctrl) (s : State),
    s.link.length = 4 →
    (s.port 0).held = [] →
    (s.headEnd = true ∨ s.get LINK_SES_STATE n.val ≠ 1) →
    s.portsSettled = true →
    ∃ t, exec (.eventMsg n c) s = .next t ∧
      (t.port n.val).hevts = (s.port n.val).hevts ∧
      (t.port n.val).lastEv = (s.port n.val).lastEv ∧
      t.get LINK_HEVT_LOST n.val = s.get LINK_HEVT_LOST n.val ∧
      s.SameMemory t) ∧
  (∀ (n : Fin 4) (c : Ctrl) (s : State),
    s.link.length = 4 →
    s.headEnd = false →
    (s.port 0).held = [] →
    c.crcOk = true →
    c.words.length = 1 →
    s.linkOn n.val = true →
    s.linkUp n.val = true →
    c.seq.val = (s.port n.val).expSeq →
    s.coreOn = true →
    s.portsSettled = true →
    ∃ t, exec (.alarmMsg n c) s = .next t ∧
      bitAt (t.get HDR_INT_RAW (linkPage n.val)) 7 = true ∧
      t.get EVT_CODE 0 (s.get EVT_TOTAL % 256) = linkEv n.val 0x28 ∧
      t.get EVT_DATA 0 (s.get EVT_TOTAL % 256) = ctrlWord c 0 % 65536 ∧
      s.SameMemory t) ∧
  (∀ (n : Fin 4) (c : Ctrl) (s : State),
    s.link.length = 4 →
    (s.port 0).held = [] →
    s.headEnd = true →
    s.portsSettled = true →
    ∃ t, exec (.alarmMsg n c) s = .next t ∧
      t.get HDR_INT_RAW (linkPage n.val) = s.get HDR_INT_RAW (linkPage n.val) ∧
      s.SameMemory t) ∧
  (∀ (c : Ctrl) (s : State),
    s.link.length = 4 →
    s.headEnd = true →
    (s.port 0).held = [] →
    c.crcOk = true →
    c.words.length = 1 →
    s.linkOn 0 = true →
    s.linkUp 0 = true →
    c.seq.val = (s.port 0).expSeq →
    s.portsSettled = true →
    ∃ t, exec (.rresetMsg 0 c) s = .next t ∧
      ((t.port 0).action = (s.port 0).action ++ (if s.priv 3 then [0] else [])) ∧
      (∃ x ∈ (t.port 0).window ++ (t.port 0).waiting, x.msg = 0x12 ∧ x.words = [(if s.priv 3 then cOK else cPRIV) * 2 ^ 8 + 2 ^
        18, 0]) ∧
      s.SameMemory t) ∧
  (∀ (n : Fin 4) (c : Ctrl) (s : State),
    s.link.length = 4 →
    (s.port 0).held = [] →
    s.headEnd = false →
    s.portsSettled = true →
    ∃ t, exec (.rresetMsg n c) s = .next t ∧
      (t.port n.val).action = (s.port n.val).action ∧
      s.SameMemory t) ∧
  (∀ (n : Fin 4) (s : State),
    s.link.length = 4 →
    s.headEnd = false →
    (s.port 0).held = [] →
    s.linkUp n.val = true →
    (∀ m ∈ (s.port n.val).window, m.tries < 16) →
    s.portsSettled = true →
    ∃ t, exec (.retxTimeout n) s = .next t ∧
      ((t.port n.val).window = (s.port n.val).window.map (fun m => { m with tries := m.tries + 1 })) ∧
      t.get LINK_RETX n.val = min (s.get LINK_RETX n.val + (s.port n.val).window.length) (2 ^ LINK_RETX.wid - 1) ∧
      (t.port n.val).out.length = (s.port n.val).window.length ∧
      t.get LINK_STATE n.val = 5 ∧
      (∀ k, k < 4 → k ≠ n.val → t.port k = s.quiet.port k) ∧
      s.SameMemory t) ∧
  (∀ (n : Fin 4) (s : State),
    s.link.length = 4 →
    (s.port 0).held = [] →
    s.linkUp n.val = true →
    (∃ m ∈ (s.port n.val).window, 16 ≤ m.tries) →
    s.coreOn = true →
    s.portsSettled = true →
    ∃ t, exec (.retxTimeout n) s = .next t ∧
      t.get LINK_STATE n.val = 6 ∧
      t.get EVT_CODE 0 (s.get EVT_TOTAL % 256) = linkEv n.val 0x29 ∧
      t.get LINK_RETX n.val = s.get LINK_RETX n.val ∧
      s.SameMemory t) ∧
  (∀ (n : Fin 4) (s : State),
    s.link.length = 4 →
    s.headEnd = false →
    (s.port 0).held = [] →
    s.linkUp n.val = false →
    s.portsSettled = true →
    ∃ t, exec (.retxTimeout n) s = .next t ∧
      (t.port n.val).window = (s.port n.val).window ∧
      (t.port n.val).out = [] ∧
      t.get LINK_RETX n.val = s.get LINK_RETX n.val ∧
      t.get LINK_STATE n.val = s.get LINK_STATE n.val ∧
      s.SameMemory t) ∧
  (∀ (n : Fin 4) (s : State),
    s.link.length = 4 →
    (s.port n.val).ackOwed = true →
    s.portsSettled = true →
    ∃ t, exec (.ackDelayExpire n) s = .next t ∧
      (t.port n.val).ackOwed = false ∧
      (t.port n.val).out = [ctrlWords 0x00 (((s.port n.val).nextSeq + 255) % 256) (s.port n.val).acked []] ∧
      t.regs = s.regs ∧
      (∀ k, k < 4 → k ≠ n.val → t.port k = s.quiet.port k) ∧
      s.SameMemory t) ∧
  (∀ (n : Fin 4) (s : State),
    (s.port n.val).ackOwed = false →
    exec (.ackDelayExpire n) s = .next (s.quiet)) ∧
  (∀ (s : State),
    s.link.length = 4 →
    (s.port 0).action = [] →
    s.headEnd = false →
    (s.port 0).held = [] →
    s.pd 1 = 0 →
    exec (.tunnelActionRelease) s = .next (s)) ∧
  (∀ (k : Nat) (l : List Nat) (s : State),
    s.link.length = 4 →
    (s.port 0).action = k :: l →
    k ≤ 2 →
    s.boot.inReset = false →
    s.portsSettled = true →
    ∃ t, exec (.tunnelActionRelease) s = .next t ∧
      (t.port 0).action = l ∧
      (t.boot.inReset = true ∨ t.boot.drain.isSome = true) ∧
      (bitAt t.boot.asserted (if k = 0 then kLINK else kSOFT) = true)) ∧
  (∀ (data : Nat) (l : List Nat) (s : State),
    s.link.length = 4 →
    (s.port 0).action = (4 + data) :: l →
    (s.port 0).held = [] →
    s.headEnd = true →
    data < 2 ^ 32 →
    bitAt data 0 = false →
    s.accepts 3 0x070 0x008 data = true →
    s.linkOn 0 = true →
    s.get HDR_EN 0x070 = 1 →
    s.portsSettled = true →
    ∃ t, exec (.tunnelActionRelease) s = .next t ∧
      (t.port 0).action = l ∧
      t.get HDR_EN 0x070 = 0 ∧
      t.linkOn 0 = false ∧
      s.SameMemory t)

/-- The lanes restart once no virtual channel has a frame in progress and no change waits. An output frame of PVP starts with
the OUTSET and the enable in force, shows what its sources give, and takes every ready buffer to the front, counted as flips;
where PVP has left the outputs in force the port ends its raster and closes, and with the domain off nothing is taken. A stream
that has made no buffer front for STALE_MS is marked stale in each quadrant it stands in and logged; with STALE_MS 0, PVP off,
or the stream not shown or already stale, nothing changes. -/
def Obligations.VideoOutputs : Prop :=
  (∀ (s : State),
    s.vout.reinit = true →
    s.vid.any VidS.csi = false →
    (s.owed.any (fun e => e.1 == pCSI) = false) →
    exec (.csiReinit) s = .next ({ s with vout := { s.vout with reinit := false } })) ∧
  (∀ (s : State),
    (s.vout.reinit = false ∨ s.vid.any VidS.csi = true ∨ s.owed.any (fun e => e.1 == pCSI) = true) →
    exec (.csiReinit) s = .next (s)) ∧
  (∀ (s : State),
    s.pd 7 = 2 →
    bitAt s.outTarget 2 = true →
    s.axesKept = false →
    ∃ t, exec (.pvpFrameStart) s = .next t ∧
      t.vout.pvpOn = (t.get HDR_EN pPVP == 1) ∧
      t.vout.shown = t.pvpSources ∧
      t.vout.screen = t.pvpScreen ∧
      t.vout.quads.length = 4 ∧
      t.vout.raster = true ∧
      bitAt (t.get YARD_EFF_OUT) 2 = true ∧
      (∀ q, q < 4 → t.vout.pvpOn = true → (t.vout.quads.getD q Quad.empty).ready = none) ∧
      (∀ q, q < 4 → t.vout.pvpOn = true → s.vout.shown = t.pvpSources → t.get PVP_STD = s.get PVP_STD → t.get PVP_WIDTH16 = s.get
        PVP_WIDTH16 → t.vout.quads.getD q Quad.empty = (s.vout.quads.getD q Quad.empty).ready.elim (s.vout.quads.getD q
        Quad.empty) (fun p => ⟨some p, none, false, false⟩)) ∧
      (t.vout.pvpOn = true → s.vout.quads.length = 4 → s.vout.shown = t.pvpSources → t.get PVP_STD = s.get PVP_STD → t.get
        PVP_WIDTH16 = s.get PVP_WIDTH16 → t.get PVP_FLIPS = min (s.get PVP_FLIPS + (s.vout.quads.filter (fun b =>
        b.ready.isSome)).length) (2 ^ PVP_FLIPS.wid - 1)) ∧
      (t.vout.pvpOn = false → t.get PVP_FLIPS = min (s.get PVP_FLIPS) (2 ^ PVP_FLIPS.wid - 1)) ∧
      s.SameMemory t) ∧
  (∀ (s : State),
    s.pd 7 = 2 →
    bitAt s.outTarget 2 = false →
    s.axesKept = false →
    ∃ t, exec (.pvpFrameStart) s = .next t ∧
      t.vout.raster = false ∧
      bitAt (t.get YARD_EFF_OUT) 2 = false ∧
      t.pd 7 = 3 ∧
      t.vout.quads = s.vout.quads) ∧
  (∀ (s : State),
    s.pd 7 ≠ 2 →
    ∃ t, exec (.pvpFrameStart) s = .next t ∧
      t.vout = { s.vout with raster := false } ∧
      t.get PVP_FLIPS = s.get PVP_FLIPS) ∧
  (∀ (stream : Fin 4) (q : Nat) (s : State),
    s.pd 7 = 2 →
    s.get PVP_STALE_MS ≠ 0 →
    s.vout.pvpOn = true →
    s.vout.quads.length = 4 →
    s.vout.shown.length ≤ 4 →
    q < s.vout.shown.length →
    s.vout.shown.getD q none = some stream.val →
    ∃ t, exec (.pvpStale stream) s = .next t ∧
      ((s.vout.quads.getD q Quad.empty).fill = false → (t.vout.quads.getD q Quad.empty).stale = true) ∧
      (t.vout.quads.getD q Quad.empty).fill = true ∧
      ((s.vout.quads.getD q Quad.empty).fill = false → s.coreOn = true → t.vout.screen = t.pvpScreen ∧ t.get EVT_TOTAL ≠ s.get
        EVT_TOTAL) ∧
      (∀ k, k < 4 → s.vout.shown.getD k none ≠ some stream.val → t.vout.quads.getD k Quad.empty = s.vout.quads.getD k Quad.empty)
        ∧
      s.SameBut t [0x006, 0x074] [] ∧
      s.SameMemory t) ∧
  (∀ (stream : Fin 4) (s : State),
    (s.pd 7 ≠ 2 ∨ s.get PVP_STALE_MS = 0 ∨ s.vout.pvpOn = false ∨ ∀ q ∈ List.range s.vout.shown.length, s.vout.shown.getD q none ≠
      some stream.val ∨ (s.vout.quads.getD q Quad.empty).fill = true) →
    exec (.pvpStale stream) s = .next (s))

/-- An address byte that is not the own address, or comes in reset, is not acknowledged. In SAFE, and in L0 with accesses
served, it opens a transaction and, where none is open, clears REFUSALS. While the Granary blocks accesses it is refused and
counted; in L1 and L2 a read is refused and counted and a write opened; in L3 and in DORMANT it is refused; the state meant is
the one its own wake (WC1) leaves. A complete word is written at the pointer, which advances; a refused one counts in REFUSALS
and gives its code; one to the Yard is posted. Outside L0 up to four words wait, and a further one is refused and counted. A
read word is returned with the pointer advancing. STOP closes the transaction and starts the hold, counts a cut word, and notes
EMPTY for an address without words; the hold ends. SDA held low is shown and logged once. Without a fitting transaction open, a
word or a STOP changes nothing. -/
def Obligations.TwoWireBus : Prop :=
  (∀ (addr : Fin 128) (read : Bool) (ptr : Option Word) (s : State),
    (addr.val ≠ s.yard.ownAddr ∨ s.boot.inReset = true ∨ s.bootEarly = true) →
    exec (.i2cAddress addr read ptr) s = .next
      ({ (if s.host.i2cTxn = some false ∧ s.host.i2cAddr = true ∧ s.host.i2cWords = 0 ∧ (addr.val ≠ s.yard.ownAddr ∨ read = false) then s.put I2C_LAST_CODE cEMPTY else s) with host := { s.host with i2cAck := false, i2cTxn := none } }))
      ∧
  (∀ (addr : Fin 128) (read : Bool) (ptr : Option Word) (s : State),
    s.boot.inReset = false →
    s.bootEarly = false →
    (s.safe = true ∨ (s.inDormant = false ∧ (s.wake 1 none).reachable = true ∧ (s.wake 1 none).nvmBusy = false ∧ (s.wake 1
      none).yard.pstate ≠ 1 ∧ (s.wake 1 none).yard.pstate ≠ 2 ∧ (s.wake 1 none).yard.pstate ≠ 3)) →
    addr.val = s.yard.ownAddr →
    ∃ t, exec (.i2cAddress addr read ptr) s = .next t ∧
      t.host.i2cAck = true ∧
      t.host.i2cTxn = some read ∧
      t.host.i2cWords = 0 ∧
      t.host.i2cOut = [] ∧
      (t.get I2C_REFUSALS = (if s.host.i2cTxn.isSome then s.get I2C_REFUSALS else 0)) ∧
      (t.host.i2cPtr = (if read then s.host.i2cPtr else (ptr.map BitVec.toNat).getD s.host.i2cPtr)) ∧
      s.SameMemory t) ∧
  (∀ (addr : Fin 128) (read : Bool) (ptr : Option Word) (s : State),
    s.boot.inReset = false →
    s.bootEarly = false →
    s.safe = false →
    s.inDormant = false →
    addr.val = s.yard.ownAddr →
    (s.wake 1 none).reachable = true →
    (s.wake 1 none).nvmBusy = true →
    (s.wake 1 none).yard.pstate ≠ 3 →
    ∃ t, exec (.i2cAddress addr read ptr) s = .next t ∧
      t.host.i2cAck = false ∧
      t.host.i2cTxn = none ∧
      t.get I2C_BUSY_NACKS = min (s.get I2C_BUSY_NACKS + 1) (2 ^ I2C_BUSY_NACKS.wid - 1) ∧
      t.get I2C_REFUSALS = s.get I2C_REFUSALS ∧
      s.SameMemory t) ∧
  (∀ (addr : Fin 128) (ptr : Option Word) (s : State),
    s.boot.inReset = false →
    s.bootEarly = false →
    s.safe = false →
    s.inDormant = false →
    addr.val = s.yard.ownAddr →
    (s.wake 1 none).reachable = true →
    (s.wake 1 none).nvmBusy = false →
    ((s.wake 1 none).yard.pstate = 1 ∨ (s.wake 1 none).yard.pstate = 2) →
    ∃ t, exec (.i2cAddress addr true ptr) s = .next t ∧
      t.host.i2cAck = false ∧
      t.host.i2cTxn = none ∧
      t.get I2C_LATE_NACKS = min (s.get I2C_LATE_NACKS + 1) (2 ^ I2C_LATE_NACKS.wid - 1) ∧
      s.SameMemory t) ∧
  (∀ (addr : Fin 128) (ptr : Option Word) (s : State),
    s.boot.inReset = false →
    s.bootEarly = false →
    s.safe = false →
    s.inDormant = false →
    addr.val = s.yard.ownAddr →
    (s.wake 1 none).reachable = true →
    (s.wake 1 none).nvmBusy = false →
    ((s.wake 1 none).yard.pstate = 1 ∨ (s.wake 1 none).yard.pstate = 2) →
    ∃ t, exec (.i2cAddress addr false ptr) s = .next t ∧
      t.host.i2cAck = true ∧
      t.host.i2cTxn = some false ∧
      t.host.i2cWords = 0 ∧
      t.host.i2cPtr = (ptr.map BitVec.toNat).getD s.host.i2cPtr ∧
      s.SameMemory t) ∧
  (∀ (addr : Fin 128) (read : Bool) (ptr : Option Word) (s : State),
    s.boot.inReset = false →
    s.safe = false →
    addr.val = s.yard.ownAddr →
    (s.inDormant = true ∨ (s.wake 1 none).yard.pstate = 3 ∨ (s.wake 1 none).reachable = false) →
    ∃ t, exec (.i2cAddress addr read ptr) s = .next t ∧
      t.host.i2cAck = false ∧
      t.host.i2cTxn = none ∧
      t.host.i2cPtr = s.host.i2cPtr ∧
      t.get I2C_BUSY_NACKS = s.get I2C_BUSY_NACKS ∧
      t.get I2C_LATE_NACKS = s.get I2C_LATE_NACKS ∧
      (s.inDormant = true → s.yard.i2cWake = true → t.host.sleepNack = true) ∧
      s.SameMemory t) ∧
  (∀ (data : Word) (s : State),
    s.host.i2cTxn = some false →
    (s.yard.pstate ≠ 1 ∧ s.yard.pstate ≠ 2) →
    s.host.i2cPtr = regAddr 0x002 0x048 →
    s.accepts 2 0x002 0x048 data.toNat = true →
    ∃ t, exec (.i2cWriteWord data) s = .next t ∧
      t.get CLK_KEEP = wordField CLK_KEEP data.toNat ∧
      t.get I2C_LAST_CODE = cOK ∧
      t.get I2C_REFUSALS = s.get I2C_REFUSALS ∧
      s.SameMemory t) ∧
  (∀ (data : Word) (s : State),
    s.host.i2cTxn = some false →
    (s.safe = true ∨ (s.yard.pstate ≠ 1 ∧ s.yard.pstate ≠ 2)) →
    ∃ t, exec (.i2cWriteWord data) s = .next t ∧
      (t.boot.inReset = false → t.host.i2cPtr = nextAddr s.host.i2cPtr ∧ t.host.i2cWords = s.host.i2cWords + 1 ∧ t.host.i2cAck =
        true ∧ t.host.i2cTxn = some false)) ∧
  (∀ (data : Word) (s : State),
    s.host.i2cTxn = some false →
    (s.safe = true ∨ (s.yard.pstate ≠ 1 ∧ s.yard.pstate ≠ 2)) →
    s.reachable = true →
    (s.safe = true ∨ (s.nvmBusy = false ∧ s.host.i2cPtr = regAddr 0x071 0x010 ∧ s.present 0x071 = false)) →
    ∃ t, exec (.i2cWriteWord data) s = .next t ∧
      t.get I2C_LAST_CODE = cROLE ∧
      t.get I2C_REFUSALS = min (s.get I2C_REFUSALS + 1) (2 ^ I2C_REFUSALS.wid - 1) ∧
      s.SameMemory t) ∧
  (∀ (data : Word) (s : State),
    s.host.i2cTxn = some false →
    (s.yard.pstate ≠ 1 ∧ s.yard.pstate ≠ 2) →
    s.safe = false →
    s.reachable = true →
    s.nvmBusy = false →
    isPosted s.host.i2cPtr = true →
    s.host.posted.length < 16 →
    ∃ t, exec (.i2cWriteWord data) s = .next t ∧
      t.host.posted = s.host.posted ++ [(2, s.host.i2cPtr, data.toNat)] ∧
      t.get I2C_LAST_CODE = s.get I2C_LAST_CODE ∧
      s.SameBut t [] [] ∧
      s.SameMemory t) ∧
  (∀ (data : Word) (s : State),
    s.host.i2cTxn = some false →
    s.safe = false →
    (s.yard.pstate = 1 ∨ s.yard.pstate = 2) →
    s.host.i2cBuf.length < 4 →
    exec (.i2cWriteWord data) s = .next
      ({ s with host := { s.host with i2cAck := true, i2cPtr := nextAddr s.host.i2cPtr, i2cWords := s.host.i2cWords + 1, i2cBuf := s.host.i2cBuf ++ [(s.host.i2cPtr, data.toNat)] } }))
      ∧
  (∀ (data : Word) (s : State),
    s.host.i2cTxn = some false →
    s.safe = false →
    (s.yard.pstate = 1 ∨ s.yard.pstate = 2) →
    4 ≤ s.host.i2cBuf.length →
    exec (.i2cWriteWord data) s = .next ({ s.inc I2C_PARTIAL with host := { s.host with i2cAck := false } })) ∧
  (∀ (data : Word) (s : State),
    s.host.i2cTxn ≠ some false →
    exec (.i2cWriteWord data) s = .next (s)) ∧
  (∀ (w k : Nat) (s : State),
    s.host.i2cTxn = some true →
    (s.busRead 2 s.host.i2cPtr).2 = (w, k) →
    ∃ t, exec (.i2cReadWord) s = .next t ∧
      t.host.i2cOut = (s.busRead 2 s.host.i2cPtr).1.host.i2cOut ++ busBytes w ∧
      t.host.i2cPtr = nextAddr s.host.i2cPtr ∧
      t.host.i2cWords = (s.busRead 2 s.host.i2cPtr).1.host.i2cWords + 1 ∧
      t.get I2C_LAST_CODE = k % 2 ^ I2C_LAST_CODE.wid ∧
      s.SameMemory t) ∧
  (∀ (s : State),
    s.host.i2cTxn ≠ some true →
    exec (.i2cReadWord) s = .next (s)) ∧
  (∀ (cut read : Bool) (s : State),
    s.host.i2cTxn = some read →
    ∃ t, exec (.i2cStop cut) s = .next t ∧
      t.host.i2cTxn = none ∧
      t.host.i2cHold = decide (s.get I2C_HOLD_US ≠ 0) ∧
      (t.get I2C_PARTIAL = (if cut = true then min (s.get I2C_PARTIAL + 1) (2 ^ I2C_PARTIAL.wid - 1) else s.get I2C_PARTIAL)) ∧
      (t.get I2C_LAST_CODE = (if read = false ∧ s.host.i2cAddr = true ∧ s.host.i2cWords = 0 then cEMPTY else s.get I2C_LAST_CODE))
        ∧
      s.SameBut t [] [I2C_PARTIAL.key 0 0, I2C_LAST_CODE.key 0 0] ∧
      s.SameMemory t) ∧
  (∀ (cut : Bool) (s : State),
    s.host.i2cTxn = none →
    exec (.i2cStop cut) s = .next ((if s.reachable then s.onHost fun h => { h with i2cHold := decide (s.get I2C_HOLD_US ≠ 0) }
      else s))) ∧
  (∀ (s : State),
    exec (.i2cHoldExpire) s = .next ({ s with host := { s.host with i2cHold := false } })) ∧
  (∀ (s : State),
    s.get I2C_SDA_HELD = 0 →
    exec (.i2cSdaHeld) s = .next ((s.put I2C_SDA_HELD 1).event 0x0811 0)) ∧
  (∀ (s : State),
    s.get I2C_SDA_HELD ≠ 0 →
    exec (.i2cSdaHeld) s = .next (s))

/-- A trigger starts an attempt where IRQ is up, attention enabled and none in progress. A delivered one is counted and sends
the message, a lost one is counted and tried again up to ATTN_RETRY, and is then given up, shown and logged. CS_N falls with the
status byte and clears REFUSALS, in SAFE too; while the Granary blocks accesses, or in L3, it is not ready and counted, and in
reset or a DORMANT that SPI does not wake there is no answer. NOP answers 0; WRITE writes its words, notes EMPTY without one and
a refusal with its code; READ answers each word with its token; an unknown command ends the transaction, is counted and logged.
CS_N rises: the transaction closes, a cut word is counted, ERR is kept for the next status, and the hold starts; the hold ends.
Without a fitting transaction a command changes nothing. -/
def Obligations.AttentionAndSpi : Prop :=
  (∀ (s : State),
    s.reachable = true →
    s.on I2C_ATTN_EN = true →
    s.irq = true →
    (s.host.attnDone = false ∨ s.get I2C_ATTN_REPEAT ≠ 0) →
    s.host.attnTries = 0 →
    exec (.attnTrigger) s = .next ({ s with host := { s.host with attnDone := true, attnTries := 1 } })) ∧
  (∀ (s : State),
    (s.reachable = false ∨ s.on I2C_ATTN_EN = false ∨ s.irq = false ∨ (s.host.attnDone = true ∧ s.get I2C_ATTN_REPEAT = 0) ∨
      s.host.attnTries ≠ 0) →
    exec (.attnTrigger) s = .next ({ s with host := { s.host with attnDone := s.host.attnDone || s.irq } })) ∧
  (∀ (s : State),
    s.host.attnTries ≠ 0 →
    exec (.attnAttempt 0) s = .next
      ({ s.inc I2C_ATTN_SENT with host := { s.host with attnMsg := s.attnBytes, attnTo := (s.get I2C_ATTN_ADDR, s.get I2C_ATTN_SPEED), attnEvents := 0, attnTries := 0 } }))
      ∧
  (∀ (outcome : Fin 3) (s : State),
    outcome ≠ 0 →
    s.host.attnTries ≠ 0 →
    s.host.attnTries < 1 + s.get I2C_ATTN_RETRY →
    exec (.attnAttempt outcome) s = .next
      ({ s.inc I2C_ATTN_LOST with host := { s.host with attnTries := s.host.attnTries + 1 } })) ∧
  (∀ (outcome : Fin 3) (s : State),
    outcome ≠ 0 →
    s.host.attnTries ≠ 0 →
    1 + s.get I2C_ATTN_RETRY ≤ s.host.attnTries →
    s.coreOn = true →
    ∃ t, exec (.attnAttempt outcome) s = .next t ∧
      t.host.attnTries = 0 ∧
      t.get I2C_GAVE_UP = 1 ∧
      t.get I2C_ATTN_LOST = min (s.get I2C_ATTN_LOST + 1) (2 ^ I2C_ATTN_LOST.wid - 1) ∧
      t.lastEvent 0x0810 (s.host.attnTries + bit (outcome.val == 2) * 2 ^ 8) = true ∧
      s.SameBut t [0x008, 0x006, 0x074] [] ∧
      s.SameMemory t) ∧
  (∀ (outcome : Fin 3) (s : State),
    s.host.attnTries = 0 →
    exec (.attnAttempt outcome) s = .next (s)) ∧
  (∀ (s : State),
    s.boot.inReset = false →
    (s.safe = true ∨ (s.inDormant = false ∧ s.reachable = true ∧ s.nvmBusy = false ∧ s.yard.pstate ≠ 1 ∧ s.yard.pstate ≠ 2 ∧
      s.yard.pstate ≠ 3)) →
    ∃ t, exec (.spiCsFall) s = .next t ∧
      t.host.spiTxn = some 0 ∧
      t.host.miso = [BitVec.ofNat 8 (s.spiStatus + 1)] ∧
      t.host.spiErrNow = false ∧
      t.get SPI_REFUSALS = 0 ∧
      s.SameMemory t) ∧
  (∀ (s : State),
    s.boot.inReset = false →
    s.safe = false →
    s.inDormant = false →
    s.reachable = true →
    s.nvmBusy = true →
    s.yard.pstate ≠ 1 →
    s.yard.pstate ≠ 2 →
    s.yard.pstate ≠ 3 →
    ∃ t, exec (.spiCsFall) s = .next t ∧
      t.host.spiTxn = some 1 ∧
      t.host.miso = [BitVec.ofNat 8 (s.spiStatus + 2), 0xFF] ∧
      t.get SPI_BUSY_TX = min (s.get SPI_BUSY_TX + 1) (2 ^ SPI_BUSY_TX.wid - 1) ∧
      t.get SPI_REFUSALS = s.get SPI_REFUSALS ∧
      s.SameMemory t) ∧
  (∀ (s : State),
    s.boot.inReset = false →
    s.safe = false →
    ((s.inDormant = false ∧ (1 ≤ s.yard.pstate ∧ s.yard.pstate ≤ 3 ∨ s.reachable = false)) ∨ (s.inDormant = true ∧ s.yard.spiWake
      = true)) →
    ∃ t, exec (.spiCsFall) s = .next t ∧
      t.host.spiTxn = some 1 ∧
      t.host.miso = [BitVec.ofNat 8 (s.spiStatus + 4), 0xFF] ∧
      t.get SPI_NOT_READY_TX = min (s.get SPI_NOT_READY_TX + 1) (2 ^ SPI_NOT_READY_TX.wid - 1) ∧
      s.SameMemory t) ∧
  (∀ (s : State),
    (s.boot.inReset = true ∨ (s.safe = false ∧ s.inDormant = true ∧ s.yard.spiWake = false)) →
    exec (.spiCsFall) s = .next (s)) ∧
  (∀ (s : State),
    s.host.spiTxn = some 0 →
    exec (.spiNop) s = .next ({ s with host := { s.host with spiTxn := some 1, miso := s.host.miso ++ [0] } })) ∧
  (∀ (s : State),
    s.host.spiTxn ≠ some 0 →
    exec (.spiNop) s = .next (s)) ∧
  (∀ (addr data : Word) (s : State),
    s.host.spiTxn = some 0 →
    addr.toNat = regAddr 0x002 0x048 →
    s.accepts 1 0x002 0x048 data.toNat = true →
    ∃ t, exec (.spiWrite addr [data]) s = .next t ∧
      t.get CLK_KEEP = wordField CLK_KEEP data.toNat ∧
      t.get SPI_LAST_CODE = cOK ∧
      t.get SPI_REFUSALS = s.get SPI_REFUSALS ∧
      s.SameMemory t) ∧
  (∀ (addr : Word) (words : List Word) (s : State),
    s.host.spiTxn = some 0 →
    ∃ t, exec (.spiWrite addr words) s = .next t ∧
      (t.boot.inReset = false → t.host.spiTxn = some 2 ∧ t.host.miso = s.host.miso ++ [0])) ∧
  (∀ (addr : Word) (words : List Word) (s : State),
    s.host.spiTxn = some 0 →
    words ≠ [] →
    s.reachable = true →
    (s.safe = true ∨ (s.nvmBusy = false ∧ addr.toNat = regAddr 0x071 0x010 ∧ s.present 0x071 = false ∧ words.length = 1)) →
    ∃ t, exec (.spiWrite addr words) s = .next t ∧
      t.get SPI_LAST_CODE = cROLE ∧
      t.host.spiErrNow = true ∧
      t.get SPI_REFUSALS = min (s.get SPI_REFUSALS + words.length) (2 ^ SPI_REFUSALS.wid - 1) ∧
      s.SameMemory t) ∧
  (∀ (addr : Word) (a b : Word) (s : State),
    s.host.spiTxn = some 0 →
    s.safe = false →
    s.reachable = true →
    s.nvmBusy = false →
    isPosted addr.toNat = true →
    isPosted (nextAddr addr.toNat) = true →
    s.host.posted = [] →
    ∃ t, exec (.spiWrite addr [a, b]) s = .next t ∧
      t.host.posted = [(1, addr.toNat, a.toNat), (1, nextAddr addr.toNat, b.toNat)] ∧
      t.get SPI_LAST_CODE = s.get SPI_LAST_CODE ∧
      s.SameBut t [] [] ∧
      s.SameMemory t) ∧
  (∀ (addr : Word) (s : State),
    s.host.spiTxn = some 0 →
    exec (.spiWrite addr []) s = .next
      ({ s.put SPI_LAST_CODE cEMPTY with host := { s.host with spiTxn := some 2, miso := s.host.miso ++ [0] } })) ∧
  (∀ (addr : Word) (words : List Word) (s : State),
    s.host.spiTxn ≠ some 0 →
    exec (.spiWrite addr words) s = .next (s)) ∧
  (∀ (addr : Word) (n : Nat) (s : State),
    s.host.spiTxn = some 0 →
    ∃ t, exec (.spiRead addr n) s = .next t ∧
      t.host.spiTxn = some 3 ∧
      t.host.miso.length = s.host.miso.length + 5 * n ∧
      s.SameMemory t) ∧
  (∀ (addr : Word) (w k : Nat) (s : State),
    s.host.spiTxn = some 0 →
    ({ s with host := { s.host with spiTxn := some 3 } }.busRead 1 addr.toNat).2 = (w, k) →
    ∃ t, exec (.spiRead addr 1) s = .next t ∧
      t.host.miso = ({ s with host := { s.host with spiTxn := some 3 } }.busRead 1 addr.toNat).1.host.miso ++ spiWord w k ∧
      t.get SPI_LAST_CODE = k % 2 ^ SPI_LAST_CODE.wid ∧
      s.SameMemory t) ∧
  (∀ (addr : Word) (n : Nat) (s : State),
    s.host.spiTxn ≠ some 0 →
    exec (.spiRead addr n) s = .next (s)) ∧
  (∀ (byte : Byte) (s : State),
    s.host.spiTxn = some 0 →
    byte.toNat ≠ 0 →
    byte.toNat ≠ 2 →
    byte.toNat ≠ 3 →
    exec (.spiProtocol byte) s = .next (({ s with host := { s.host with spiTxn := some 1, spiErrNow := true } }.inc
      SPI_PROTOCOL_ERRS).event 0x0910 byte.toNat)) ∧
  (∀ (byte : Byte) (s : State),
    (s.host.spiTxn ≠ some 0 ∨ byte.toNat = 0 ∨ byte.toNat = 2 ∨ byte.toNat = 3) →
    exec (.spiProtocol byte) s = .next (s)) ∧
  (∀ (cut : Bool) (k : Nat) (s : State),
    s.host.spiTxn = some k →
    ∃ t, exec (.spiCsRise cut) s = .next t ∧
      t.host.spiTxn = none ∧
      t.host.spiHold = decide (s.get SPI_HOLD_US ≠ 0) ∧
      t.host.spiErr = (s.host.spiErrNow || (cut && k == 2)) ∧
      (t.get SPI_PARTIAL = (if cut = true ∧ k = 2 then min (s.get SPI_PARTIAL + 1) (2 ^ SPI_PARTIAL.wid - 1) else s.get
        SPI_PARTIAL)) ∧
      s.SameBut t [] [SPI_PARTIAL.key 0 0] ∧
      s.SameMemory t) ∧
  (∀ (cut : Bool) (s : State),
    s.host.spiTxn = none →
    exec (.spiCsRise cut) s = .next (s)) ∧
  (∀ (s : State),
    exec (.spiHoldExpire) s = .next ({ s with host := { s.host with spiHold := false } }))

/-- A header written to DATA reserves its words; the last payload word completes the item, which enters; an item without
payload, or whose payload fits no opcode, completes at once where it is next, with EMPTY or RANGE_REJECT. A header that finds no
room is refused with BUSY, counted and raised, and its payload will be discarded; words are discarded and counted while START is
awaited or a payload is resynchronised. START ends both and discards a partial item, and takes its header. Only the queue's own
master may write its ports. FLUSH removes and counts every waiting item, ends a WAIT or POLL as flushed, leaves an item in
progress, and is done, shown, logged and raised once nothing remains to discard. POP drops the oldest completion. RUN is refused
with BUSY during a run and with RANGE_REJECT for an unknown script; accepted, it starts the script with the parameters sampled,
or ends it with CHECK_FAIL where its body fails. STOP ends the run after the item in progress, a wait at once, and without a run
does nothing. Where it is asked for, no port domain opens or is on that is not wanted, as in every state that a run reaches. -/
def Obligations.QueuePorts : Prop :=
  (∀ (q : Fin 4) (m : Master) (data : Word) (s : State),
    s.host.queues.length = 4 →
    s.accepts m.num 0x00A (queueOff q.val 0) data.toNat = true →
    (s.queue q.val).waitStart = false →
    (s.queue q.val).resync = 0 →
    (s.queue q.val).part = [] →
    bitsOf data.toNat 16 8 ≠ 0 →
    s.portsWanted = true →
    ∃ t, exec (.cmdqData m q data) s = .next t ∧
      (t.queue q.val).part = [data.toNat] ∧
      (t.queue q.val).need = 1 + bitsOf data.toNat 16 8 ∧
      ((s.queue q.val).busy.isSome = true → (t.queue q.val).items = (s.queue q.val).items) ∧
      s.SameMemory t) ∧
  (∀ (q : Fin 4) (m : Master) (data : Word) (s : State),
    s.host.queues.length = 4 →
    s.accepts m.num 0x00A (queueOff q.val 0) data.toNat = true →
    (s.queue q.val).waitStart = false →
    (s.queue q.val).resync = 0 →
    (s.queue q.val).part ≠ [] →
    (s.queue q.val).part.length + 1 = (s.queue q.val).need →
    ((s.queue q.val).busy.isSome = true ∨ ((s.queue q.val).items = [] ∧ trivialCode q.val ((s.queue q.val).part ++ [data.toNat]) =
      none)) →
    s.portsWanted = true →
    ∃ t, exec (.cmdqData m q data) s = .next t ∧
      (t.queue q.val).items = (s.queue q.val).items ++ [(s.queue q.val).part ++ [data.toNat]] ∧
      (t.queue q.val).part = [] ∧
      (t.queue q.val).need = 0 ∧
      s.SameMemory t) ∧
  (∀ (q : Fin 4) (m : Master) (data : Word) (k : Nat) (s : State),
    s.host.queues.length = 4 →
    s.accepts m.num 0x00A (queueOff q.val 0) data.toNat = true →
    (s.queue q.val).waitStart = false →
    (s.queue q.val).resync = 0 →
    (s.queue q.val).part ≠ [] →
    (s.queue q.val).part.length + 1 = (s.queue q.val).need →
    (s.queue q.val).busy = none →
    (s.queue q.val).items = [] →
    (s.queue q.val).compl.length < 16 →
    s.on PIN_TAP_HALT = false →
    (∀ k ∈ List.range 4, k ≠ q.val → (s.queue k).items = []) →
    trivialCode q.val ((s.queue q.val).part ++ [data.toNat]) = some k →
    s.portsWanted = true →
    ∃ t, exec (.cmdqData m q data) s = .next t ∧
      (t.queue q.val).compl = (s.queue q.val).compl ++ [⟨itemTag ((s.queue q.val).part ++ [data.toNat]), k, false, false, 0⟩] ∧
      (t.queue q.val).items = [] ∧
      (t.queue q.val).part = [] ∧
      bitAt (t.get HDR_INT_RAW 0x00A) q.val = true ∧
      t.get CMDQ_EXECUTED 0 q.val = min (s.get CMDQ_EXECUTED 0 q.val + 1) (2 ^ CMDQ_EXECUTED.wid - 1) ∧
      s.SameMemory t) ∧
  (∀ (q : Fin 4) (m : Master) (data : Word) (s : State),
    s.host.queues.length = 4 →
    s.accepts m.num 0x00A (queueOff q.val 0) data.toNat = true →
    (s.queue q.val).waitStart = false →
    (s.queue q.val).resync = 0 →
    (s.queue q.val).part = [] →
    bitsOf data.toNat 16 8 = 0 →
    (s.queue q.val).busy = none →
    (s.queue q.val).items = [] →
    (s.queue q.val).compl.length < 16 →
    s.on PIN_TAP_HALT = false →
    (∀ k ∈ List.range 4, k ≠ q.val → (s.queue k).items = []) →
    s.portsWanted = true →
    ∃ t, exec (.cmdqData m q data) s = .next t ∧
      (t.queue q.val).compl = (s.queue q.val).compl ++ [⟨bitsOf data.toNat 0 16, cEMPTY, false, false, 0⟩] ∧
      (t.queue q.val).items = [] ∧
      (t.queue q.val).part = [] ∧
      s.SameMemory t) ∧
  (∀ (q : Fin 4) (m : Master) (data : Word) (s : State),
    s.host.queues.length = 4 →
    s.accepts m.num 0x00A (queueOff q.val 0) data.toNat = true →
    (s.queue q.val).waitStart = false →
    (s.queue q.val).resync = 0 →
    (s.queue q.val).part ≠ [] →
    (s.queue q.val).part.length + 1 ≠ (s.queue q.val).need →
    s.portsWanted = true →
    ∃ t, exec (.cmdqData m q data) s = .next t ∧
      (t.queue q.val) = { (s.queue q.val) with part := (s.queue q.val).part ++ [data.toNat] } ∧
      s.SameMemory t) ∧
  (∀ (q : Fin 4) (m : Master) (data : Word) (s : State),
    m.num = q.val →
    s.serves = true →
    s.sources m.num = true →
    (s.checkWith none m.num 0x00A (queueOff q.val 0) data.toNat).isNone = true →
    s.host.queues.length = 4 →
    (s.queue q.val).waitStart = false →
    (s.queue q.val).resync = 0 →
    (s.queue q.val).part = [] →
    (s.queue q.val).free < 1 + bitsOf data.toNat 16 8 →
    s.portsWanted = true →
    ∃ t, exec (.cmdqData m q data) s = .next t ∧
      t.get HDR_ERR_CODE 0x00A = cBUSY ∧
      t.get CMDQ_HDR_REFUSED 0 q.val = min (s.get CMDQ_HDR_REFUSED 0 q.val + 1) (2 ^ CMDQ_HDR_REFUSED.wid - 1) ∧
      (t.queue q.val).resync = bitsOf data.toNat 16 8 ∧
      (t.queue q.val).part = [] ∧
      bitAt (t.get HDR_INT_RAW 0x00A) 8 = true ∧
      ((s.queue q.val).busy.isSome = true → (t.queue q.val).items = (s.queue q.val).items) ∧
      s.SameMemory t) ∧
  (∀ (q : Fin 4) (m : Master) (data : Word) (s : State),
    s.host.queues.length = 4 →
    s.accepts m.num 0x00A (queueOff q.val 0) data.toNat = true →
    (s.queue q.val).waitStart = true →
    s.portsWanted = true →
    ∃ t, exec (.cmdqData m q data) s = .next t ∧
      t.get CMDQ_PARTIAL_DISCARD 0 q.val = min (s.get CMDQ_PARTIAL_DISCARD 0 q.val + 1) (2 ^ CMDQ_PARTIAL_DISCARD.wid - 1) ∧
      (t.queue q.val) = (s.queue q.val) ∧
      s.SameMemory t) ∧
  (∀ (q : Fin 4) (m : Master) (data : Word) (s : State),
    s.host.queues.length = 4 →
    s.accepts m.num 0x00A (queueOff q.val 0) data.toNat = true →
    (s.queue q.val).waitStart = false →
    (s.queue q.val).resync ≠ 0 →
    s.portsWanted = true →
    ∃ t, exec (.cmdqData m q data) s = .next t ∧
      t.get CMDQ_PARTIAL_DISCARD 0 q.val = min (s.get CMDQ_PARTIAL_DISCARD 0 q.val + 1) (2 ^ CMDQ_PARTIAL_DISCARD.wid - 1) ∧
      (t.queue q.val) = { (s.queue q.val) with resync := (s.queue q.val).resync - 1 } ∧
      s.SameMemory t) ∧
  (∀ (m : Master) (q : Fin 4) (data : Word) (b : Bool) (s : State),
    s.host.queues.length = 4 →
    m.num ≠ q.val →
    s.portsWanted = true →
    ∃ t, exec (if b then .cmdqData m q data else .cmdqStart m q data) s = .next t ∧
      t.host.queues = s.host.queues ∧
      s.SameMemory t) ∧
  (∀ (q : Fin 4) (m : Master) (data : Word) (s : State),
    s.host.queues.length = 4 →
    s.accepts m.num 0x00A (queueOff q.val 4) data.toNat = true →
    (s.queue q.val).busy.isSome = true →
    bitsOf data.toNat 16 8 ≠ 0 →
    s.portsWanted = true →
    ∃ t, exec (.cmdqStart m q data) s = .next t ∧
      (t.queue q.val).waitStart = false ∧
      (t.queue q.val).resync = 0 ∧
      (t.queue q.val).part = [data.toNat] ∧
      (t.queue q.val).need = 1 + bitsOf data.toNat 16 8 ∧
      (t.queue q.val).items = (s.queue q.val).items ∧
      t.get CMDQ_PARTIAL_DISCARD 0 q.val = min (s.get CMDQ_PARTIAL_DISCARD 0 q.val + (s.queue q.val).part.length) (2 ^
        CMDQ_PARTIAL_DISCARD.wid - 1) ∧
      s.SameMemory t) ∧
  (∀ (q : Fin 4) (m : Master) (data : Word) (s : State),
    s.host.queues.length = 4 →
    s.accepts m.num 0x00A (queueOff q.val 4) data.toNat = true →
    bitsOf data.toNat 16 8 = 0 →
    (s.queue q.val).busy = none →
    (s.queue q.val).items = [] →
    (s.queue q.val).compl.length < 16 →
    s.on PIN_TAP_HALT = false →
    (∀ k ∈ List.range 4, k ≠ q.val → (s.queue k).items = []) →
    s.portsWanted = true →
    ∃ t, exec (.cmdqStart m q data) s = .next t ∧
      (t.queue q.val).waitStart = false ∧
      (t.queue q.val).resync = 0 ∧
      (t.queue q.val).part = [] ∧
      (t.queue q.val).compl = (s.queue q.val).compl ++ [⟨bitsOf data.toNat 0 16, cEMPTY, false, false, 0⟩] ∧
      t.get CMDQ_PARTIAL_DISCARD 0 q.val = min (s.get CMDQ_PARTIAL_DISCARD 0 q.val + (s.queue q.val).part.length) (2 ^
        CMDQ_PARTIAL_DISCARD.wid - 1) ∧
      s.SameMemory t) ∧
  (∀ (q : Fin 4) (m : Master) (data : Word) (s : State),
    m.num = q.val →
    s.serves = true →
    s.sources m.num = true →
    (s.checkWith none m.num 0x00A (queueOff q.val 4) data.toNat).isNone = true →
    s.host.queues.length = 4 →
    (64 - (s.queue q.val).items.foldl (fun a i => a + i.length) 0 < 1 + bitsOf data.toNat 16 8) →
    (s.queue q.val).busy.isSome = true →
    s.portsWanted = true →
    ∃ t, exec (.cmdqStart m q data) s = .next t ∧
      t.get HDR_ERR_CODE 0x00A = cBUSY ∧
      t.get CMDQ_HDR_REFUSED 0 q.val = min (s.get CMDQ_HDR_REFUSED 0 q.val + 1) (2 ^ CMDQ_HDR_REFUSED.wid - 1) ∧
      (t.queue q.val).resync = bitsOf data.toNat 16 8 ∧
      (t.queue q.val).waitStart = false ∧
      (t.queue q.val).part = [] ∧
      (t.queue q.val).items = (s.queue q.val).items ∧
      s.SameMemory t) ∧
  (∀ (q : Fin 4) (m : Master) (s : State),
    s.host.queues.length = 4 →
    s.accepts m.num 0x00A (queueOff q.val 8) 1 = true →
    ∃ t, exec (.cmdqFlush m q) s = .next t ∧
      (t.queue q.val).items = [] ∧
      (t.queue q.val).flushing = true ∧
      (t.queue q.val).part = [] ∧
      (t.queue q.val).removed = (s.queue q.val).removed + (s.queue q.val).items.length ∧
      t.get CMDQ_FLUSHED_ITEMS 0 q.val = min (s.get CMDQ_FLUSHED_ITEMS 0 q.val + (s.queue q.val).items.length) (2 ^
        CMDQ_FLUSHED_ITEMS.wid - 1) ∧
      ((s.queue q.val).part ≠ [] → (t.queue q.val).resync = (s.queue q.val).need - (s.queue q.val).part.length) ∧
      (s.midHeader q.val = false → (t.queue q.val).waitStart = (s.queue q.val).waitStart) ∧
      ((s.queue q.val).busy.map (fun i => i.headD 2) = some 2 → (t.queue q.val).busy = (s.queue q.val).busy) ∧
      s.SameMemory t) ∧
  (∀ (q : Fin 4) (m : Master) (i : List Nat) (s : State),
    s.host.queues.length = 4 →
    s.accepts m.num 0x00A (queueOff q.val 8) 1 = true →
    (s.queue q.val).busy = some (0 :: i) →
    ∃ t, exec (.cmdqFlush m q) s = .next t ∧
      (t.queue q.val).busy = none ∧
      ((t.queue q.val).compl = (s.queue q.val).compl ++ [⟨itemTag i, cOK, true, false, (if itemOp i = 0x03 then (s.queue
        q.val).last else 0) % 2 ^ 32⟩]) ∧
      t.get CMDQ_EXECUTED 0 q.val = min (s.get CMDQ_EXECUTED 0 q.val + 1) (2 ^ CMDQ_EXECUTED.wid - 1) ∧
      s.SameMemory t) ∧
  (∀ (q : Fin 4) (s : State),
    s.host.queues.length = 4 →
    (s.queue q.val).flushing = true →
    (s.queue q.val).resync = 0 →
    (s.queue q.val).waitStart = false →
    s.coreOn = true →
    ∃ t, exec (.cmdqFlushDone q) s = .next t ∧
      (t.queue q.val) = { (s.queue q.val) with flushing := false, removed := 0 } ∧
      t.get CMDQ_FLUSH_DONE 0 q.val = 1 ∧
      t.lastEvent 0x0A11 (q.val + min (s.queue q.val).removed 0xFF * 2 ^ 8) = true ∧
      bitAt (t.get HDR_INT_RAW 0x00A) (4 + q.val) = true ∧
      s.SameBut t [0x00A, 0x006, 0x074] [] ∧
      s.SameMemory t) ∧
  (∀ (q : Fin 4) (s : State),
    ((s.queue q.val).flushing = false ∨ (s.queue q.val).resync ≠ 0 ∨ (s.queue q.val).waitStart = true) →
    exec (.cmdqFlushDone q) s = .next (s)) ∧
  (∀ (q : Fin 4) (m : Master) (s : State),
    s.host.queues.length = 4 →
    s.accepts m.num 0x00A (queueOff q.val 0x18) 1 = true →
    ∃ t, exec (.cmdqPop m q) s = .next t ∧
      (t.queue q.val).compl.take ((s.queue q.val).compl.length - 1) = (s.queue q.val).compl.drop 1 ∧
      ((s.queue q.val).busy.isSome = true → (t.queue q.val).compl = (s.queue q.val).compl.drop 1 ∧ (t.queue q.val).items =
        (s.queue q.val).items) ∧
      s.SameMemory t) ∧
  (∀ (m : Master) (data : Word) (s : State),
    s.accepts m.num 0x00B 0x048 data.toNat = true →
    s.host.script = none →
    4 ≤ s.host.autoNext →
    (s.runStart (data.toNat % 2 ^ 16) ((s.scriptEntry (data.toNat % 2 ^ 16)).getD 0)).host.script = none →
    ∃ t, exec (.seqRun m data) s = .next t ∧
      t.get SEQ_RUN_ID = data.toNat % 2 ^ 16 ∧
      t.get SEQ_RUN_STATE = 4 ∧
      t.get SEQ_RUN_CODE = cCHECK ∧
      t.host.script = none ∧
      bitAt (t.get HDR_INT_RAW 0x00B) 0 = true ∧
      s.SameBut t [0x00A, 0x00B, 0x006, 0x074] lastKeys ∧
      s.SameMemory t) ∧
  (∀ (m : Master) (data : Word) (r : Script) (s : State),
    s.accepts m.num 0x00B 0x048 data.toNat = true →
    s.host.script = none →
    (s.queue 0).busy.isSome = true →
    s.host.queues.length = 4 →
    (s.runStart (data.toNat % 2 ^ 16) ((s.scriptEntry (data.toNat % 2 ^ 16)).getD 0)).host.script = some r →
    ∃ t, exec (.seqRun m data) s = .next t ∧
      t.get SEQ_RUN_ID = data.toNat % 2 ^ 16 ∧
      t.get SEQ_RUN_STATE = 1 ∧
      t.host.script = some r ∧
      (r.params = (List.range 8).map (fun i => s.get SEQ_PARAM 0 i)) ∧
      r.index = 0 ∧
      r.stop = false ∧
      s.SameMemory t) ∧
  (∀ (m : Master) (data : Word) (s : State),
    s.serves = true →
    s.sources m.num = true →
    (s.checkWith none m.num 0x00B 0x048 data.toNat).isNone = true →
    (s.host.script.isSome = true ∨ data.toNat % 2 ^ 16 = 0 ∨ data.toNat % 2 ^ 16 = 0xFFFF ∨ s.scriptEntry (data.toNat % 2 ^ 16) =
      none) →
    ∃ t, exec (.seqRun m data) s = .next t ∧
      (t.get HDR_ERR_CODE 0x00B = (if s.host.script.isSome = true then cBUSY else cRANGE)) ∧
      t.host.script = s.host.script ∧
      t.get SEQ_RUN_STATE = s.get SEQ_RUN_STATE ∧
      s.SameMemory t) ∧
  (∀ (m : Master) (s : State),
    s.accepts m.num 0x00B 0x04C 1 = true →
    s.host.script = none →
    4 ≤ s.host.autoNext →
    exec (.seqStop m) s = .next ((s.rewritten 0x00B 0x04C).noteCode m.num cOK)) ∧
  (∀ (m : Master) (r : Script) (s : State),
    s.accepts m.num 0x00B 0x04C 1 = true →
    s.host.script = some r →
    (s.queue 0).busy = none →
    4 ≤ s.host.autoNext →
    ∃ t, exec (.seqStop m) s = .next t ∧
      t.host.script = none ∧
      t.get SEQ_RUN_STATE = 3 ∧
      t.get SEQ_RUN_INDEX = r.index % 2 ^ SEQ_RUN_INDEX.wid ∧
      t.get SEQ_RUN_CODE = 0 ∧
      bitAt (t.get HDR_INT_RAW 0x00B) 0 = true ∧
      s.SameBut t [0x00A, 0x00B, 0x006, 0x074] lastKeys ∧
      s.SameMemory t) ∧
  (∀ (m : Master) (r : Script) (i : List Nat) (s : State),
    s.accepts m.num 0x00B 0x04C 1 = true →
    s.host.queues.length = 4 →
    s.host.script = some r →
    (s.queue 0).busy = some (1 :: i) →
    4 ≤ s.host.autoNext →
    ∃ t, exec (.seqStop m) s = .next t ∧
      t.host.script = none ∧
      (t.queue 0).busy = none ∧
      t.get SEQ_RUN_STATE = 3 ∧
      t.get SEQ_RUN_INDEX = r.index % 2 ^ SEQ_RUN_INDEX.wid ∧
      t.get SEQ_RUN_CODE = 0 ∧
      bitAt (t.get HDR_INT_RAW 0x00B) 0 = true ∧
      s.SameBut t [0x00A, 0x00B, 0x006, 0x074] lastKeys ∧
      s.SameMemory t) ∧
  (∀ (m : Master) (r : Script) (i : List Nat) (s : State),
    s.accepts m.num 0x00B 0x04C 1 = true →
    s.host.queues.length = 4 →
    s.host.script = some r →
    (s.queue 0).busy = some (2 :: i) →
    ∃ t, exec (.seqStop m) s = .next t ∧
      t.host.script = some { r with stop := true } ∧
      (t.queue 0).busy = some (2 :: i) ∧
      t.get SEQ_RUN_STATE = s.get SEQ_RUN_STATE ∧
      s.SameMemory t)

/-- The item that is next writes its words from its address on, and completes with the code of the first refused word and its
index, or with OK and their number; MODIFY replaces the bits of its mask and gives the old word, and ends with the code of a
refused read or write; POLL completes as met when its read matches, with the code of a refused read, and as not met where it has
no time; otherwise it goes on until its last read, which decides. An access of an absent page ends with ROLE_REJECT. A script
goes on after an accepted item; a refused one ends the run with its code, and a POLL that is not met ends it as timed out. Where
another item or none is next, or the engine is halted, nothing changes. -/
def Obligations.AccessItems : Prop :=
  (∀ (q : Nat) (i : List Nat) (s : State),
    s.itemPick = some (q, false, i) →
    itemOp i = 0x01 →
    q < 4 →
    s.host.queues.length = 4 →
    i.length = 3 →
    itemArg i 0 = regAddr 0x002 0x048 →
    (s.itemBegin q false i).accepts q 0x002 0x048 (itemArg i 1) = true →
    ∃ t, exec (.itemWrite) s = .next t ∧
      t.get CLK_KEEP = wordField CLK_KEEP (itemArg i 1) ∧
      (t.queue q).compl.take ((s.queue q).compl.length + 1) = (s.queue q).compl ++ [⟨itemTag i, cOK, false, false, 1⟩] ∧
      bitAt (t.get HDR_INT_RAW 0x00A) q = true ∧
      (t.queue q).busy = none ∧
      s.SameMemory t) ∧
  (∀ (q : Nat) (i : List Nat) (s : State),
    s.itemPick = some (q, false, i) →
    itemOp i = 0x01 →
    q < 4 →
    s.host.queues.length = 4 →
    i.length = 4 →
    itemArg i 0 = regAddr 0x00B 0x060 →
    itemArg i 1 < 2 ^ 32 →
    itemArg i 2 < 2 ^ 32 →
    (s.itemBegin q false i).accepts q 0x00B 0x060 (itemArg i 1) = true →
    ((s.itemBegin q false i).itemWrite q (regAddr 0x00B 0x060) (itemArg i 1)).1.accepts q 0x00B 0x064 (itemArg i 2) = true →
    ∃ t, exec (.itemWrite) s = .next t ∧
      t.get SEQ_PARAM 0 0 = itemArg i 1 ∧
      t.get SEQ_PARAM 0 1 = itemArg i 2 ∧
      (t.queue q).compl.take ((s.queue q).compl.length + 1) = (s.queue q).compl ++ [⟨itemTag i, cOK, false, false, 2⟩] ∧
      bitAt (t.get HDR_INT_RAW 0x00A) q = true ∧
      (t.queue q).busy = none ∧
      s.SameMemory t) ∧
  (∀ (q : Nat) (i : List Nat) (c k : Nat) (s : State),
    s.itemPick = some (q, false, i) →
    itemOp i = 0x01 →
    q < 4 →
    s.host.queues.length = 4 →
    ((s.itemBegin q false i).writeRun q (itemArg i 0) 0 (i.drop 2)).2 = (c, k) →
    (((s.itemBegin q false i).writeRun q (itemArg i 0) 0 (i.drop 2)).1.queue q).compl = (s.queue q).compl →
    (((s.itemBegin q false i).writeRun q (itemArg i 0) 0 (i.drop 2)).1.queue q).busy.isSome = true →
    ∃ t, exec (.itemWrite) s = .next t ∧
      (t.queue q).compl.take ((s.queue q).compl.length + 1) = (s.queue q).compl ++ [⟨itemTag i, c, false, false, k % 2 ^ 32⟩] ∧
      bitAt (t.get HDR_INT_RAW 0x00A) q = true ∧
      (t.queue q).busy = none ∧
      s.SameMemory t) ∧
  (∀ (q : Nat) (i : List Nat) (w : Nat) (s : State),
    s.itemPick = some (q, false, i) →
    itemOp i = 0x02 →
    q < 4 →
    s.host.queues.length = 4 →
    itemArg i 0 = regAddr 0x002 0x048 →
    itemArg i 1 < 2 ^ 32 →
    itemArg i 2 < 2 ^ 32 →
    ((s.itemBegin q false i).itemRead q (itemArg i 0)).2 = (w, cOK) →
    ((s.itemBegin q false i).itemRead q (itemArg i 0)).1.accepts q 0x002 0x048 ((w &&& (0xFFFFFFFF - itemArg i 1)) ||| (itemArg i
      2 &&& itemArg i 1)) = true →
    ∃ t, exec (.itemModify) s = .next t ∧
      t.get CLK_KEEP = wordField CLK_KEEP ((w &&& (0xFFFFFFFF - itemArg i 1)) ||| (itemArg i 2 &&& itemArg i 1)) ∧
      (t.queue q).compl.take ((s.queue q).compl.length + 1) = (s.queue q).compl ++ [⟨itemTag i, cOK, false, false, w % 2 ^ 32⟩] ∧
      bitAt (t.get HDR_INT_RAW 0x00A) q = true ∧
      (t.queue q).busy = none ∧
      s.SameMemory t) ∧
  (∀ (q : Nat) (i : List Nat) (w c : Nat) (s : State),
    s.itemPick = some (q, false, i) →
    itemOp i = 0x02 →
    q < 4 →
    s.host.queues.length = 4 →
    ((s.itemBegin q false i).itemRead q (itemArg i 0)).2 = (w, c) →
    c ≠ cOK →
    (((s.itemBegin q false i).itemRead q (itemArg i 0)).1.queue q).compl = (s.queue q).compl →
    (((s.itemBegin q false i).itemRead q (itemArg i 0)).1.queue q).busy.isSome = true →
    ∃ t, exec (.itemModify) s = .next t ∧
      (t.queue q).compl.take ((s.queue q).compl.length + 1) = (s.queue q).compl ++ [⟨itemTag i, c, false, false, w % 2 ^ 32⟩] ∧
      bitAt (t.get HDR_INT_RAW 0x00A) q = true ∧
      (t.queue q).busy = none ∧
      s.SameMemory t) ∧
  (∀ (q : Nat) (i : List Nat) (w c : Nat) (s : State),
    s.itemPick = some (q, false, i) →
    itemOp i = 0x02 →
    q < 4 →
    s.host.queues.length = 4 →
    ((s.itemBegin q false i).itemRead q (itemArg i 0)).2 = (w, cOK) →
    (((s.itemBegin q false i).itemRead q (itemArg i 0)).1.itemWrite q (itemArg i 0) ((w &&& (0xFFFFFFFF - itemArg i 1)) |||
      (itemArg i 2 &&& itemArg i 1))).2 = c →
    ((((s.itemBegin q false i).itemRead q (itemArg i 0)).1.itemWrite q (itemArg i 0) ((w &&& (0xFFFFFFFF - itemArg i 1)) |||
      (itemArg i 2 &&& itemArg i 1))).1.queue q).compl = (s.queue q).compl →
    ((((s.itemBegin q false i).itemRead q (itemArg i 0)).1.itemWrite q (itemArg i 0) ((w &&& (0xFFFFFFFF - itemArg i 1)) |||
      (itemArg i 2 &&& itemArg i 1))).1.queue q).busy.isSome = true →
    ∃ t, exec (.itemModify) s = .next t ∧
      (t.queue q).compl.take ((s.queue q).compl.length + 1) = (s.queue q).compl ++ [⟨itemTag i, c, false, false, w % 2 ^ 32⟩] ∧
      bitAt (t.get HDR_INT_RAW 0x00A) q = true ∧
      (t.queue q).busy = none ∧
      s.SameMemory t) ∧
  (∀ (q : Nat) (i : List Nat) (w : Nat) (s : State),
    s.itemPick = some (q, false, i) →
    itemOp i = 0x03 →
    q < 4 →
    s.host.queues.length = 4 →
    ((s.itemBegin q false i).itemRead q (itemArg i 0)).2 = (w, cOK) →
    w &&& itemArg i 1 = itemArg i 2 →
    ∃ t, exec (.itemPoll) s = .next t ∧
      (t.queue q).compl.take ((s.queue q).compl.length + 1) = (s.queue q).compl ++ [⟨itemTag i, cOK, false, true, w % 2 ^ 32⟩] ∧
      bitAt (t.get HDR_INT_RAW 0x00A) q = true ∧
      (t.queue q).busy = none ∧
      s.SameMemory t) ∧
  (∀ (q : Nat) (i : List Nat) (w c : Nat) (s : State),
    s.itemPick = some (q, false, i) →
    itemOp i = 0x03 →
    q < 4 →
    s.host.queues.length = 4 →
    ((s.itemBegin q false i).itemRead q (itemArg i 0)).2 = (w, c) →
    c ≠ cOK →
    ∃ t, exec (.itemPoll) s = .next t ∧
      (t.queue q).compl.take ((s.queue q).compl.length + 1) = (s.queue q).compl ++ [⟨itemTag i, c, false, false, w % 2 ^ 32⟩] ∧
      bitAt (t.get HDR_INT_RAW 0x00A) q = true ∧
      (t.queue q).busy = none ∧
      s.SameMemory t) ∧
  (∀ (q : Nat) (i : List Nat) (w : Nat) (s : State),
    s.itemPick = some (q, false, i) →
    itemOp i = 0x03 →
    q < 4 →
    s.host.queues.length = 4 →
    ((s.itemBegin q false i).itemRead q (itemArg i 0)).2 = (w, cOK) →
    w &&& itemArg i 1 ≠ itemArg i 2 →
    itemArg i 3 % 2 ^ 24 = 0 →
    ∃ t, exec (.itemPoll) s = .next t ∧
      (t.queue q).compl.take ((s.queue q).compl.length + 1) = (s.queue q).compl ++ [⟨itemTag i, cOK, false, false, w % 2 ^ 32⟩] ∧
      bitAt (t.get HDR_INT_RAW 0x00A) q = true ∧
      (t.queue q).busy = none ∧
      s.SameMemory t) ∧
  (∀ (q : Nat) (i : List Nat) (w : Nat) (s : State),
    s.itemPick = some (q, false, i) →
    itemOp i = 0x03 →
    q < 4 →
    s.host.queues.length = 4 →
    ((s.itemBegin q false i).itemRead q (itemArg i 0)).2 = (w, cOK) →
    w &&& itemArg i 1 ≠ itemArg i 2 →
    itemArg i 3 % 2 ^ 24 ≠ 0 →
    ∃ t, exec (.itemPoll) s = .next t ∧
      (t.queue q).busy = some (0 :: i) ∧
      (t.queue q).last = w ∧
      (t.queue q).compl = (s.queue q).compl ∧
      s.SameMemory t) ∧
  (∀ (q : Nat) (i : List Nat) (x : Instr) (s : State),
    s.itemPick = some (q, false, i) →
    itemOp i = itemOp i →
    q < 4 →
    s.host.queues.length = 4 →
    s.reachable = true →
    s.safe = false →
    s.nvmBusy = false →
    s.sources q = true →
    itemArg i 0 = regAddr 0x071 0x010 →
    s.present 0x071 = false →
    i.length = 1 + itemLen i →
    ((x = .itemWrite ∧ itemOp i = 0x01 ∧ 3 ≤ i.length) ∨ (x = .itemModify ∧ itemOp i = 0x02) ∨ (x = .itemPoll ∧ itemOp i = 0x03))
      →
    ∃ t, exec (x) s = .next t ∧
      (t.queue q).compl.take ((s.queue q).compl.length + 1) = (s.queue q).compl ++ [⟨itemTag i, cROLE, false, false, 0⟩] ∧
      bitAt (t.get HDR_INT_RAW 0x00A) q = true ∧
      (t.queue q).busy = none ∧
      s.SameMemory t) ∧
  (∀ (q : Nat) (i : List Nat) (w c : Nat) (s : State),
    (s.queue q).busy = some (0 :: i) →
    s.on PIN_TAP_HALT = false →
    itemOp i = 0x03 →
    q < 4 →
    s.host.queues.length = 4 →
    (s.itemRead q (itemArg i 0)).2 = (w, c) →
    ∃ t, exec (.itemPollEnd (Fin.ofNat 4 q)) s = .next t ∧
      ((t.queue q).compl.take ((s.queue q).compl.length + 1) = (s.queue q).compl ++ [⟨itemTag i, c, false, (decide (c = cOK ∧ w
        &&& itemArg i 1 = itemArg i 2)), w % 2 ^ 32⟩]) ∧
      bitAt (t.get HDR_INT_RAW 0x00A) q = true ∧
      (t.queue q).busy = none ∧
      s.SameMemory t) ∧
  (∀ (i : List Nat) (r : Script) (w c : Nat) (s : State),
    (s.queue 0).busy = some (1 :: i) →
    s.on PIN_TAP_HALT = false →
    itemOp i = 0x03 →
    itemLen i = 4 →
    s.host.queues.length = 4 →
    s.host.script = some r →
    4 ≤ s.host.autoNext →
    (s.itemRead 0 (itemArg i 0)).2 = (w, c) →
    (c ≠ cOK ∨ w &&& itemArg i 1 ≠ itemArg i 2) →
    c ≠ cEMPTY →
    ∃ t, exec (.itemPollEnd 0) s = .next t ∧
      t.host.script = none ∧
      (t.get SEQ_RUN_STATE = (if c = cOK then 5 else 3)) ∧
      t.get SEQ_RUN_INDEX = r.index % 2 ^ SEQ_RUN_INDEX.wid ∧
      (t.get SEQ_RUN_CODE = (if c = cOK then 0 else c % 2 ^ SEQ_RUN_CODE.wid)) ∧
      bitAt (t.get HDR_INT_RAW 0x00B) 0 = true ∧
      (t.queue 0).compl = (s.queue 0).compl ∧
      (t.queue 0).busy = none ∧
      s.SameMemory t) ∧
  (∀ (q : Fin 4) (s : State),
    (s.itemHeld q.val = none ∨ (s.itemHeld q.val).map (fun e => itemOp e.2) ≠ some 0x03) →
    exec (.itemPollEnd q) s = .next (s)) ∧
  (∀ (i : List Nat) (r : Script) (w : Nat) (s : State),
    s.itemPick = some (0, true, i) →
    itemOp i = 0x03 →
    s.host.queues.length = 4 →
    s.host.script = some r →
    r.items.head? = some i →
    r.stop = false →
    1 < r.items.length →
    ((s.itemBegin 0 true i).itemRead 0 (itemArg i 0)).2 = (w, cOK) →
    w &&& itemArg i 1 = itemArg i 2 →
    trivialCode 0 ((r.items.drop 1).headD []) = none →
    ∃ t, exec (.itemPoll) s = .next t ∧
      (t.host.script.map (fun x => (x.index, x.stop, x.params)) = some (r.index + 1, r.stop, r.params)) ∧
      (t.queue 0).busy = none ∧
      (t.queue 0).compl = (s.queue 0).compl ∧
      s.SameMemory t) ∧
  (∀ (i : List Nat) (r : Script) (c k : Nat) (s : State),
    s.itemPick = some (0, true, i) →
    itemOp i = 0x01 →
    s.host.queues.length = 4 →
    s.host.script = some r →
    r.items.head? = some i →
    4 ≤ s.host.autoNext →
    ((s.itemBegin 0 true i).writeRun 0 (itemArg i 0) 0 (i.drop 2)).2 = (c, k) →
    c ≠ cOK →
    c ≠ cEMPTY →
    (((s.itemBegin 0 true i).writeRun 0 (itemArg i 0) 0 (i.drop 2)).1.queue 0).busy.isSome = true →
    ((s.itemBegin 0 true i).writeRun 0 (itemArg i 0) 0 (i.drop 2)).1.host.script = some r →
    ∃ t, exec (.itemWrite) s = .next t ∧
      t.host.script = none ∧
      t.get SEQ_RUN_STATE = 3 ∧
      t.get SEQ_RUN_INDEX = r.index % 2 ^ SEQ_RUN_INDEX.wid ∧
      t.get SEQ_RUN_CODE = c % 2 ^ SEQ_RUN_CODE.wid ∧
      bitAt (t.get HDR_INT_RAW 0x00B) 0 = true ∧
      s.SameMemory t) ∧
  (∀ (i : Instr) (op : Nat) (s : State),
    (i, op) ∈ [(Instr.itemWrite, 0x01), (.itemModify, 0x02), (.itemPoll, 0x03), (.itemWait, 0x04), (.itemMark, 0x05), (.itemMode,
      0x10), (.itemSol, 0x11), (.itemClose, 0x12), (.itemWriteP, 0x20), (.itemWaitP, 0x21)] →
    (∀ e ∈ s.itemPick.toList, itemOp e.2.2 ≠ op) →
    exec (i) s = .next (s)) ∧
  (∀ (q : Nat) (i : List Nat) (x : Instr) (s : State),
    s.itemPick = some (q, false, i) →
    itemOp i = itemOp i →
    q < 4 →
    s.host.queues.length = 4 →
    s.servesNow (itemArg i 0) = true →
    s.closingAt (itemArg i 0) = true →
    ((x = .itemModify ∧ itemOp i = 0x02) ∨ (x = .itemPoll ∧ itemOp i = 0x03)) →
    ∃ t, exec (x) s = .next t ∧
      (t.queue q).compl.take ((s.queue q).compl.length + 1) = (s.queue q).compl ++ [⟨itemTag i, cCLOSING, false, false, 0⟩] ∧
      (t.get SPI_LAST_CODE = (if q = 1 then cCLOSING else s.get SPI_LAST_CODE)) ∧
      (t.get I2C_LAST_CODE = (if q = 2 then cCLOSING else s.get I2C_LAST_CODE)) ∧
      bitAt (t.get HDR_INT_RAW 0x00A) q = true ∧
      (t.queue q).busy = none ∧
      s.SameMemory t)

/-- A WAIT of 0 completes at once, any other holds its queue until its time has passed; MARK completes with its word; MODE, SOL
and CLOSE write the command register they name and complete with its code; WRITE_P and WAIT_P take the parameter that the run
sampled. A script's item leaves no completion: the run goes on to its next item, or ends with RUN_STATE 2 after its last, 3
where it was told to stop or an item failed, and its code. The end of a time does nothing to a queue that no WAIT holds or while
the engine is halted. -/
def Obligations.OtherItems : Prop :=
  (∀ (q : Nat) (i : List Nat) (s : State),
    s.itemPick = some (q, false, i) →
    itemOp i = 0x04 →
    q < 4 →
    s.host.queues.length = 4 →
    itemArg i 0 % 2 ^ 24 = 0 →
    ∃ t, exec (.itemWait) s = .next t ∧
      (t.queue q).compl.take ((s.queue q).compl.length + 1) = (s.queue q).compl ++ [⟨itemTag i, cOK, false, false, 0⟩] ∧
      bitAt (t.get HDR_INT_RAW 0x00A) q = true ∧
      (t.queue q).busy = none ∧
      s.SameMemory t) ∧
  (∀ (q : Nat) (i : List Nat) (s : State),
    s.itemPick = some (q, false, i) →
    itemOp i = 0x04 →
    q < 4 →
    s.host.queues.length = 4 →
    itemArg i 0 % 2 ^ 24 ≠ 0 →
    ∃ t, exec (.itemWait) s = .next t ∧
      (t.queue q).busy = some (0 :: i) ∧
      (t.queue q).compl = (s.queue q).compl ∧
      s.SameBut t [] [] ∧
      s.SameMemory t) ∧
  (∀ (q : Nat) (i : List Nat) (s : State),
    (s.queue q).busy = some (0 :: i) →
    s.on PIN_TAP_HALT = false →
    itemOp i = 0x04 →
    q < 4 →
    s.host.queues.length = 4 →
    ∃ t, exec (.itemWaitEnd (Fin.ofNat 4 q)) s = .next t ∧
      (t.queue q).compl.take ((s.queue q).compl.length + 1) = (s.queue q).compl ++ [⟨itemTag i, cOK, false, false, 0⟩] ∧
      bitAt (t.get HDR_INT_RAW 0x00A) q = true ∧
      (t.queue q).busy = none ∧
      s.SameMemory t) ∧
  (∀ (i : List Nat) (r : Script) (s : State),
    (s.queue 0).busy = some (1 :: i) →
    s.on PIN_TAP_HALT = false →
    (itemOp i = 0x04 ∨ itemOp i = 0x21) →
    s.host.queues.length = 4 →
    s.host.script = some r →
    r.stop = false →
    1 < r.items.length →
    trivialCode 0 ((r.items.drop 1).headD []) = none →
    ∃ t, exec (.itemWaitEnd 0) s = .next t ∧
      (t.host.script.map (fun x => (x.index, x.stop, x.params)) = some (r.index + 1, r.stop, r.params)) ∧
      (t.queue 0).busy = none ∧
      (t.queue 0).compl = (s.queue 0).compl ∧
      s.SameMemory t) ∧
  (∀ (q : Fin 4) (s : State),
    (s.itemHeld q.val = none ∨ (s.itemHeld q.val).map (fun e => decide (itemOp e.2 = 0x04 ∨ itemOp e.2 = 0x21)) = some false) →
    exec (.itemWaitEnd q) s = .next (s)) ∧
  (∀ (q : Nat) (i : List Nat) (s : State),
    s.itemPick = some (q, false, i) →
    itemOp i = 0x05 →
    q < 4 →
    s.host.queues.length = 4 →
    ∃ t, exec (.itemMark) s = .next t ∧
      (t.queue q).compl.take ((s.queue q).compl.length + 1) = (s.queue q).compl ++ [⟨itemTag i, cOK, false, false, itemArg i 0 % 2
        ^ 32⟩] ∧
      bitAt (t.get HDR_INT_RAW 0x00A) q = true ∧
      (t.queue q).busy = none ∧
      s.SameBut t [0x00A, 0x00B, 0x006, 0x074] []) ∧
  (∀ (i : List Nat) (r : Script) (s : State),
    s.itemPick = some (0, true, i) →
    itemOp i = 0x05 →
    s.host.queues.length = 4 →
    s.host.script = some r →
    r.items.head? = some i →
    r.stop = false →
    1 < r.items.length →
    trivialCode 0 ((r.items.drop 1).headD []) = none →
    ∃ t, exec (.itemMark) s = .next t ∧
      (t.host.script.map (fun x => (x.index, x.stop, x.params)) = some (r.index + 1, r.stop, r.params)) ∧
      (t.queue 0).busy = none ∧
      (t.queue 0).compl = (s.queue 0).compl ∧
      t.get SEQ_RUN_STATE = s.get SEQ_RUN_STATE ∧
      s.SameMemory t) ∧
  (∀ (i : List Nat) (r : Script) (s : State),
    s.itemPick = some (0, true, i) →
    itemOp i = 0x05 →
    s.host.queues.length = 4 →
    s.host.script = some r →
    r.items.head? = some i →
    (r.stop = true ∨ r.items.length = 1) →
    4 ≤ s.host.autoNext →
    ∃ t, exec (.itemMark) s = .next t ∧
      t.host.script = none ∧
      (t.get SEQ_RUN_STATE = (if r.stop then 3 else 2)) ∧
      t.get SEQ_RUN_INDEX = r.index % 2 ^ SEQ_RUN_INDEX.wid ∧
      t.get SEQ_RUN_CODE = 0 ∧
      bitAt (t.get HDR_INT_RAW 0x00B) 0 = true ∧
      (t.queue 0).compl = (s.queue 0).compl ∧
      s.SameMemory t) ∧
  (∀ (q : Nat) (i : List Nat) (s : State),
    s.itemPick = some (q, false, i) →
    itemOp i = 0x10 →
    q < 4 →
    s.host.queues.length = 4 →
    (s.itemBegin q false i).accepts q 0x001 0x040 (itemArg i 0 % 4) = true →
    itemArg i 0 % 4 ≠ s.mode →
    itemArg i 0 % 4 ≠ DORMANT →
    s.boot.booting = false →
    ∃ t, exec (.itemMode) s = .next t ∧
      (t.queue q).compl.take ((s.queue q).compl.length + 1) = (s.queue q).compl ++ [⟨itemTag i, cOK, false, false, 0⟩] ∧
      bitAt (t.get HDR_INT_RAW 0x00A) q = true ∧
      (t.queue q).busy = none ∧
      t.get YARD_MODE_TARGET = itemArg i 0 % 4 ∧
      t.busy = true ∧
      s.SameMemory t) ∧
  (∀ (q : Nat) (i : List Nat) (c : Nat) (s : State),
    s.itemPick = some (q, false, i) →
    itemOp i = 0x10 →
    q < 4 →
    s.host.queues.length = 4 →
    ((s.itemBegin q false i).itemWrite q (regAddr 0x001 0x040) (itemArg i 0 % 4)).2 = c →
    (((s.itemBegin q false i).itemWrite q (regAddr 0x001 0x040) (itemArg i 0 % 4)).1.queue q).compl = (s.queue q).compl →
    (((s.itemBegin q false i).itemWrite q (regAddr 0x001 0x040) (itemArg i 0 % 4)).1.queue q).busy.isSome = true →
    ∃ t, exec (.itemMode) s = .next t ∧
      (t.queue q).compl.take ((s.queue q).compl.length + 1) = (s.queue q).compl ++ [⟨itemTag i, c, false, false, 0⟩] ∧
      bitAt (t.get HDR_INT_RAW 0x00A) q = true ∧
      (t.queue q).busy = none ∧
      s.SameMemory t) ∧
  (∀ (q : Nat) (i : List Nat) (n : Nat) (s : State),
    s.itemPick = some (q, false, i) →
    itemOp i = 0x11 →
    q < 4 →
    s.host.queues.length = 4 →
    n = itemArg i 0 % 4 →
    bitsOf (itemArg i 0) 8 2 = 2 →
    (s.itemBegin q false i).accepts q (solPage n) 0x078 2 = true →
    s.sol.length = 4 →
    ∃ t, exec (.itemSol) s = .next t ∧
      (t.queue q).compl.take ((s.queue q).compl.length + 1) = (s.queue q).compl ++ [⟨itemTag i, cOK, false, false, 0⟩] ∧
      bitAt (t.get HDR_INT_RAW 0x00A) q = true ∧
      (t.queue q).busy = none ∧
      t.get SOL_PHASE n = 0 ∧
      (t.chan n).sw = 0 ∧
      s.SameMemory t) ∧
  (∀ (q : Nat) (i : List Nat) (c : Nat) (s : State),
    s.itemPick = some (q, false, i) →
    itemOp i = 0x11 →
    q < 4 →
    s.host.queues.length = 4 →
    ((s.itemBegin q false i).itemWrite q (regAddr (solPage (itemArg i 0 % 4)) 0x078) (bitsOf (itemArg i 0) 8 2)).2 = c →
    (((s.itemBegin q false i).itemWrite q (regAddr (solPage (itemArg i 0 % 4)) 0x078) (bitsOf (itemArg i 0) 8 2)).1.queue q).compl
      = (s.queue q).compl →
    (((s.itemBegin q false i).itemWrite q (regAddr (solPage (itemArg i 0 % 4)) 0x078) (bitsOf (itemArg i 0) 8 2)).1.queue
      q).busy.isSome = true →
    ∃ t, exec (.itemSol) s = .next t ∧
      (t.queue q).compl.take ((s.queue q).compl.length + 1) = (s.queue q).compl ++ [⟨itemTag i, c, false, false, 0⟩] ∧
      bitAt (t.get HDR_INT_RAW 0x00A) q = true ∧
      (t.queue q).busy = none ∧
      s.SameMemory t) ∧
  (∀ (q : Nat) (i : List Nat) (s : State),
    s.itemPick = some (q, false, i) →
    itemOp i = 0x12 →
    q < 4 →
    s.host.queues.length = 4 →
    (s.itemBegin q false i).accepts q 0x052 0x064 (1 + 2 * (itemArg i 0 % 2)) = true →
    s.nuc.form = 0 →
    ∃ t, exec (.itemClose) s = .next t ∧
      (t.queue q).compl.take ((s.queue q).compl.length + 1) = (s.queue q).compl ++ [⟨itemTag i, cOK, false, false, 0⟩] ∧
      bitAt (t.get HDR_INT_RAW 0x00A) q = true ∧
      (t.queue q).busy = none ∧
      t.nuc.req = true ∧
      t.nuc.force = (decide (itemArg i 0 % 2 = 1) || s.nuc.force) ∧
      s.SameMemory t) ∧
  (∀ (q : Nat) (i : List Nat) (c : Nat) (s : State),
    s.itemPick = some (q, false, i) →
    itemOp i = 0x12 →
    q < 4 →
    s.host.queues.length = 4 →
    ((s.itemBegin q false i).itemWrite q (regAddr 0x052 0x064) (1 + 2 * (itemArg i 0 % 2))).2 = c →
    (((s.itemBegin q false i).itemWrite q (regAddr 0x052 0x064) (1 + 2 * (itemArg i 0 % 2))).1.queue q).compl = (s.queue q).compl
      →
    (((s.itemBegin q false i).itemWrite q (regAddr 0x052 0x064) (1 + 2 * (itemArg i 0 % 2))).1.queue q).busy.isSome = true →
    ∃ t, exec (.itemClose) s = .next t ∧
      (t.queue q).compl.take ((s.queue q).compl.length + 1) = (s.queue q).compl ++ [⟨itemTag i, c, false, false, 0⟩] ∧
      bitAt (t.get HDR_INT_RAW 0x00A) q = true ∧
      (t.queue q).busy = none ∧
      s.SameMemory t) ∧
  (∀ (i : List Nat) (r : Script) (s : State),
    s.itemPick = some (0, true, i) →
    itemOp i = 0x21 →
    s.host.queues.length = 4 →
    s.host.script = some r →
    r.items.head? = some i →
    r.params.getD (itemArg i 0 % 8) 0 % 2 ^ 24 = 0 →
    r.stop = false →
    4 ≤ s.host.autoNext →
    r.items.length = 1 →
    ∃ t, exec (.itemWaitP) s = .next t ∧
      t.host.script = none ∧
      t.get SEQ_RUN_STATE = 2 ∧
      t.get SEQ_RUN_INDEX = r.index % 2 ^ SEQ_RUN_INDEX.wid ∧
      t.get SEQ_RUN_CODE = 0 ∧
      bitAt (t.get HDR_INT_RAW 0x00B) 0 = true ∧
      (t.queue 0).compl = (s.queue 0).compl ∧
      s.SameMemory t) ∧
  (∀ (i : List Nat) (r : Script) (s : State),
    s.itemPick = some (0, true, i) →
    itemOp i = 0x21 →
    s.host.queues.length = 4 →
    s.host.script = some r →
    r.items.head? = some i →
    r.params.getD (itemArg i 0 % 8) 0 % 2 ^ 24 ≠ 0 →
    ∃ t, exec (.itemWaitP) s = .next t ∧
      (t.queue 0).busy = some (1 :: i) ∧
      t.host.script = some r ∧
      t.get SEQ_RUN_STATE = s.get SEQ_RUN_STATE ∧
      s.SameBut t [] [] ∧
      s.SameMemory t) ∧
  (∀ (i : List Nat) (r : Script) (s : State),
    s.itemPick = some (0, true, i) →
    itemOp i = 0x20 →
    s.host.queues.length = 4 →
    s.host.script = some r →
    r.items.head? = some i →
    itemArg i 0 = regAddr 0x002 0x048 →
    (s.itemBegin 0 true i).accepts 0 0x002 0x048 (r.params.getD (itemArg i 1 % 8) 0) = true →
    r.stop = false →
    4 ≤ s.host.autoNext →
    r.items.length = 1 →
    ∃ t, exec (.itemWriteP) s = .next t ∧
      t.get CLK_KEEP = wordField CLK_KEEP (r.params.getD (itemArg i 1 % 8) 0) ∧
      t.host.script = none ∧
      t.get SEQ_RUN_STATE = 2 ∧
      t.get SEQ_RUN_INDEX = r.index % 2 ^ SEQ_RUN_INDEX.wid ∧
      t.get SEQ_RUN_CODE = 0 ∧
      bitAt (t.get HDR_INT_RAW 0x00B) 0 = true ∧
      (t.queue 0).compl = (s.queue 0).compl ∧
      s.SameMemory t) ∧
  (∀ (i : List Nat) (r : Script) (c : Nat) (s : State),
    s.itemPick = some (0, true, i) →
    itemOp i = 0x20 →
    s.host.queues.length = 4 →
    s.host.script = some r →
    r.items.head? = some i →
    4 ≤ s.host.autoNext →
    ((s.itemBegin 0 true i).itemWrite 0 (itemArg i 0) (r.params.getD (itemArg i 1 % 8) 0)).2 = c →
    c ≠ cOK →
    c ≠ cEMPTY →
    (((s.itemBegin 0 true i).itemWrite 0 (itemArg i 0) (r.params.getD (itemArg i 1 % 8) 0)).1.queue 0).busy.isSome = true →
    ((s.itemBegin 0 true i).itemWrite 0 (itemArg i 0) (r.params.getD (itemArg i 1 % 8) 0)).1.host.script = some r →
    ∃ t, exec (.itemWriteP) s = .next t ∧
      t.host.script = none ∧
      t.get SEQ_RUN_STATE = 3 ∧
      t.get SEQ_RUN_INDEX = r.index % 2 ^ SEQ_RUN_INDEX.wid ∧
      t.get SEQ_RUN_CODE = c % 2 ^ SEQ_RUN_CODE.wid ∧
      bitAt (t.get HDR_INT_RAW 0x00B) 0 = true ∧
      s.SameMemory t)

/-- An accepted command clears DONE, and with the engine free starts: PROGRAM becomes the page operations of its bytes, ERASE an
erase between its journal entries, APPEND the operations that place its record, or ends with RANGE_REJECT where no room can be
made, logged; SEQ_BEGIN appends the record that will open a group, SEQ_END the record that closes it with its count; SCAN starts
the margin scan; FIELD_SAVE starts the save into the older copy, or waits for the one that runs. A PROGRAM of length 0 and an
END without a group complete as EMPTY. Where the engine works, the command waits its turn, or with DEFER_MAX 0 ends with
RESOURCE_BUSY and is logged. A command that its check refuses gives that code and starts nothing. -/
def Obligations.GranaryCommands : Prop :=
  (∀ (m : Master) (s : State),
    s.accepts m.num 0x080 0x040 0x01 = true →
    s.get GRAN_LEN ≠ 0 →
    s.gran.cur = none →
    s.gran.jobs = [] →
    s.wdt.dbgHalt = false →
    ∃ t, exec (.granProgram m) s = .next t ∧
      t.gran.cur = some ⟨1, 4, true, m.num, true, pageOps 8 (s.get GRAN_ADDR) (s.bufBytes (s.get GRAN_LEN)), 0, 0⟩ ∧
      t.get GRAN_RES_DONE = 0 ∧
      t.get GRAN_RES_CODE = s.get GRAN_RES_CODE ∧
      (∀ a, t.gran.byte a = s.gran.byte a) ∧
      s.SameBut t [0x080] lastKeys) ∧
  (∀ (m : Master) (s : State),
    s.accepts m.num 0x080 0x040 0x01 = true →
    s.get GRAN_LEN = 0 →
    ∃ t, exec (.granProgram m) s = .next t ∧
      t.get GRAN_RES_DONE = 1 ∧
      t.get GRAN_RES_CODE = cEMPTY ∧
      t.get GRAN_RES_OP = 1 ∧
      bitAt (t.get HDR_INT_RAW 0x080) 0 = true ∧
      t.gran = s.gran ∧
      s.SameBut t [0x080] lastKeys) ∧
  (∀ (m : Master) (s : State),
    s.accepts m.num 0x080 0x040 0x02 = true →
    s.gran.cur = none →
    s.gran.jobs = [] →
    s.wdt.dbgHalt = false →
    ∃ t, exec (.granErase m) s = .next t ∧
      (t.gran.cur = some ⟨2, 4, true, m.num, true, ((if s.gran.jUsed < 256 then [] else .journalErase :: List.replicate
        s.gran.journal.length .journalCopy) ++ [.journalOpen 0 (s.get GRAN_ADDR / 0x1000), .erase (s.get GRAN_ADDR / 0x1000),
        .journalClose 0 (s.get GRAN_ADDR / 0x1000)]), 0, 0⟩) ∧
      t.get GRAN_RES_DONE = 0 ∧
      t.get GRAN_RES_CODE = s.get GRAN_RES_CODE ∧
      (∀ a, t.gran.byte a = s.gran.byte a) ∧
      s.SameBut t [0x080] lastKeys) ∧
  (∀ (m : Master) (ops : List GOp) (s : State),
    s.accepts m.num 0x080 0x040 0x03 = true →
    (s.gran.planAppend false (s.get GRAN_TYPE) (s.on GRAN_SEQ_OPEN) (if s.on GRAN_SEQ_OPEN then s.get GRAN_GROUP else 0) (s.get
      GRAN_KEY) (s.bufBytes (s.get GRAN_LEN)) = (ops, true)) →
    s.gran.cur = none →
    s.gran.jobs = [] →
    s.wdt.dbgHalt = false →
    ∃ t, exec (.granAppend m) s = .next t ∧
      t.gran.cur = some ⟨3, 4, true, m.num, true, (s.gran.journalTake ops), 0, 2 * bit (s.on GRAN_SEQ_OPEN)⟩ ∧
      t.get GRAN_RES_DONE = 0 ∧
      t.get GRAN_RES_CODE = s.get GRAN_RES_CODE ∧
      (∀ a, t.gran.byte a = s.gran.byte a) ∧
      s.SameBut t [0x080, 0x006, 0x074] lastKeys) ∧
  (∀ (m : Master) (s : State),
    s.accepts m.num 0x080 0x040 0x03 = true →
    (s.gran.planAppend false (s.get GRAN_TYPE) (s.on GRAN_SEQ_OPEN) (if s.on GRAN_SEQ_OPEN then s.get GRAN_GROUP else 0) (s.get
      GRAN_KEY) (s.bufBytes (s.get GRAN_LEN)) = ([], false)) →
    s.coreOn = true →
    s.get YARD_SECONDS < 2 ^ 32 →
    s.gran.cur = none →
    s.gran.jobs = [] →
    s.wdt.dbgHalt = false →
    ∃ t, exec (.granAppend m) s = .next t ∧
      t.gran.cur = none ∧
      t.gran.jobs = [⟨3, 4, true, m.num, true, [], cRANGE, 2 * bit (s.on GRAN_SEQ_OPEN)⟩] ∧
      t.lastEvent 0x8019 0 = true ∧
      t.get GRAN_RES_DONE = 0 ∧
      t.get GRAN_RES_CODE = s.get GRAN_RES_CODE ∧
      (∀ a, t.gran.byte a = s.gran.byte a) ∧
      s.SameBut t [0x080, 0x006, 0x074] lastKeys) ∧
  (∀ (m : Master) (ops : List GOp) (s : State),
    s.accepts m.num 0x080 0x040 0x03 = true →
    (s.gran.planAppend false (s.get GRAN_TYPE) (s.on GRAN_SEQ_OPEN) (if s.on GRAN_SEQ_OPEN then s.get GRAN_GROUP else 0) (s.get
      GRAN_KEY) (s.bufBytes (s.get GRAN_LEN)) = (ops, false)) →
    ops ≠ [] →
    s.gran.cur = none →
    s.gran.jobs = [] →
    s.wdt.dbgHalt = false →
    ∃ t, exec (.granAppend m) s = .next t ∧
      t.gran.cur = some ⟨3, 4, true, m.num, true, s.gran.journalTake ops, cRANGE, 2 * bit (s.on GRAN_SEQ_OPEN)⟩ ∧
      t.get GRAN_RES_DONE = 0 ∧
      t.get GRAN_RES_CODE = s.get GRAN_RES_CODE ∧
      (∀ a, t.gran.byte a = s.gran.byte a) ∧
      s.SameBut t [0x080, 0x006, 0x074] lastKeys) ∧
  (∀ (m : Master) (ops : List GOp) (s : State),
    s.accepts m.num 0x080 0x040 0x05 = true →
    s.gran.planAppend false 0xFE false s.gran.groupNext s.gran.groupNext [] = (ops, true) →
    s.gran.cur = none →
    s.gran.jobs = [] →
    s.wdt.dbgHalt = false →
    ∃ t, exec (.granSeqBegin m) s = .next t ∧
      t.gran.cur = some ⟨5, 4, true, m.num, true, (s.gran.journalTake ops), 0, 0⟩ ∧
      t.get GRAN_SEQ_OPEN = s.get GRAN_SEQ_OPEN ∧
      t.get GRAN_RES_DONE = 0 ∧
      t.get GRAN_RES_CODE = s.get GRAN_RES_CODE ∧
      (∀ a, t.gran.byte a = s.gran.byte a) ∧
      s.SameBut t [0x080, 0x006, 0x074] lastKeys) ∧
  (∀ (m : Master) (ops : List GOp) (s : State),
    s.accepts m.num 0x080 0x040 0x06 = true →
    s.on GRAN_SEQ_OPEN = true →
    s.gran.planAppend false 0xFE false (s.get GRAN_GROUP) (s.get GRAN_GROUP) (le16 s.gran.groupCount) = (ops, true) →
    s.gran.cur = none →
    s.gran.jobs = [] →
    s.wdt.dbgHalt = false →
    ∃ t, exec (.granSeqEnd m) s = .next t ∧
      t.gran.cur = some ⟨6, 4, true, m.num, true, (s.gran.journalTake ops), 0, 0⟩ ∧
      t.on GRAN_SEQ_OPEN = true ∧
      t.get GRAN_RES_DONE = 0 ∧
      t.get GRAN_RES_CODE = s.get GRAN_RES_CODE ∧
      (∀ a, t.gran.byte a = s.gran.byte a) ∧
      s.SameBut t [0x080, 0x006, 0x074] lastKeys) ∧
  (∀ (m : Master) (s : State),
    s.accepts m.num 0x080 0x040 0x06 = true →
    s.on GRAN_SEQ_OPEN = false →
    ∃ t, exec (.granSeqEnd m) s = .next t ∧
      t.get GRAN_RES_DONE = 1 ∧
      t.get GRAN_RES_CODE = cEMPTY ∧
      t.get GRAN_RES_OP = 6 ∧
      t.gran = s.gran ∧
      s.SameBut t [0x080] lastKeys) ∧
  (∀ (m : Master) (s : State),
    s.accepts m.num 0x080 0x040 0x07 = true →
    ∃ t, exec (.granScanCmd m) s = .next t ∧
      t.gran.scanning = true ∧
      t.gran.jobs = s.gran.jobs ++ [⟨7, 4, false, m.num, true, [], cOK, 1⟩] ∧
      t.get GRAN_RES_DONE = 0 ∧
      t.get GRAN_RES_CODE = s.get GRAN_RES_CODE ∧
      s.SameBut t [0x080] lastKeys ∧
      s.SameMemory t) ∧
  (∀ (m : Master) (s : State),
    s.accepts m.num 0x080 0x040 0x08 = true →
    s.gran.cur = none →
    s.gran.jobs = [] →
    s.wdt.dbgHalt = false →
    ∃ t, exec (.granFieldSave m) s = .next t ∧
      t.get NUC_SAVING = 1 ∧
      t.gran.cur = some ⟨jFIELD, 3, true, m.num, true, s.gran.journalTake [.journalOpen 2 (s.gran.fieldOlder - 1), .fieldStep 0],
        0, s.gran.fieldOlder⟩ ∧
      t.gran.jobs = [⟨8, 4, false, m.num, true, [], cOK, 1⟩] ∧
      t.get GRAN_RES_DONE = 0 ∧
      t.get GRAN_RES_CODE = s.get GRAN_RES_CODE ∧
      s.SameBut t [0x052, 0x080] lastKeys ∧
      s.SameMemory t) ∧
  (∀ (m : Master) (s : State),
    s.accepts m.num 0x080 0x040 0x08 = true →
    s.gran.saving = true →
    ∃ t, exec (.granFieldSave m) s = .next t ∧
      t.gran.cur = s.gran.cur ∧
      t.gran.jobs = s.gran.jobs ++ [⟨8, 4, false, m.num, true, [], cOK, 1⟩] ∧
      t.get GRAN_RES_DONE = 0 ∧
      t.get GRAN_RES_CODE = s.get GRAN_RES_CODE ∧
      s.SameBut t [0x080] lastKeys ∧
      s.SameMemory t) ∧
  (∀ (m : Master) (i : Instr) (op : Nat) (s : State),
    (i, op) ∈ [(Instr.granProgram m, 1), (.granErase m, 2), (.granAppend m, 3), (.granSeqBegin m, 5), (.granSeqEnd m, 6),
      (.granFieldSave m, 8), (.granLockPage m, 9), (.granRprotPage m, 10), (.granLockFactory m, 11)] →
    s.accepts m.num 0x080 0x040 op = true →
    s.gran.cur.isSome = true →
    s.get GRAN_DEFER_MAX = 0 →
    s.coreOn = true →
    s.get YARD_SECONDS < 2 ^ 32 →
    (op = 1 → s.get GRAN_LEN ≠ 0) →
    (op = 6 → s.on GRAN_SEQ_OPEN = true) →
    (op = 8 → s.gran.saving = false) →
    (9 ≤ op → s.gran.pageLocked = 0 ∧ s.gran.pageRprot = 0 ∧ s.gran.factoryLocked = false) →
    ∃ t, exec (i) s = .next t ∧
      t.get GRAN_RES_DONE = 1 ∧
      t.get GRAN_RES_CODE = cBUSY ∧
      t.get GRAN_RES_OP = op ∧
      bitAt (t.get HDR_INT_RAW 0x080) 0 = true ∧
      (t.lastEvent 0x8017 (m.num + (if op = 8 then 3 else 4) * 2 ^ 8) = true) ∧
      t.gran = s.gran ∧
      s.SameBut t [0x080, 0x006, 0x074] lastKeys) ∧
  (∀ (m : Master) (j : Job) (s : State),
    s.accepts m.num 0x080 0x040 0x02 = true →
    s.gran.cur = some j →
    s.get GRAN_DEFER_MAX ≠ 0 →
    ∃ t, exec (.granErase m) s = .next t ∧
      t.gran.cur = some j ∧
      t.gran.jobs = s.gran.jobs ++ [⟨2, 4, true, m.num, false, [.journalOpen 0 (s.get GRAN_ADDR / 0x1000), .erase (s.get GRAN_ADDR
        / 0x1000), .journalClose 0 (s.get GRAN_ADDR / 0x1000)], 0, 0⟩] ∧
      t.get GRAN_RES_DONE = 0 ∧
      t.get GRAN_RES_CODE = s.get GRAN_RES_CODE ∧
      s.SameBut t [0x080] lastKeys ∧
      s.SameMemory t) ∧
  (∀ (m : Master) (i : Instr) (op : Nat) (r : Refuse) (s : State),
    (i, op) ∈ [(Instr.granProgram m, 1), (.granErase m, 2), (.granAppend m, 3), (.granFind m, 4), (.granSeqBegin m, 5),
      (.granSeqEnd m, 6), (.granScanCmd m, 7), (.granFieldSave m, 8), (.granLockPage m, 9), (.granRprotPage m, 10),
      (.granLockFactory m, 11)] →
    s.serves = true →
    s.sources m.num = true →
    (s.checkWith none m.num 0x080 0x040 op).isNone = true →
    s.granCheck m.num op = some r →
    ∃ t, exec (i) s = .next t ∧
      t.get HDR_ERR_CODE 0x080 = r.code ∧
      t.gran = s.gran ∧
      t.get GRAN_RES_DONE = s.get GRAN_RES_DONE ∧
      s.SameMemory t)

/-- FIND gives address, SEQ and length of the newest valid record of TYPE and KEY, and ends as EMPTY where none exists or its
key is deleted; LOCK_PAGE, RPROT_PAGE and LOCK_FACTORY become, with the engine free, one operation on the protection row, and
end at once with OK where the lock is set already. -/
def Obligations.GranaryLocks : Prop :=
  (∀ (m : Master) (r : Rec) (s : State),
    s.accepts m.num 0x080 0x040 0x04 = true →
    newestRec (validRecs (s.gran.logRecs (s.on GRAN_REGION)).1 []) (s.get GRAN_TYPE) (s.get GRAN_KEY) = some r →
    r.payload.length ≠ 0 →
    ∃ t, exec (.granFind m) s = .next t ∧
      t.get GRAN_FOUND_ADDR = r.addr % 2 ^ GRAN_FOUND_ADDR.wid ∧
      t.get GRAN_FOUND_SEQ = r.seq % 2 ^ GRAN_FOUND_SEQ.wid ∧
      t.get GRAN_FOUND_LEN = r.payload.length % 2 ^ GRAN_FOUND_LEN.wid ∧
      t.gran.jobs = s.gran.jobs ++ [⟨4, 4, true, m.num, true, [], cOK, 0⟩] ∧
      t.get GRAN_RES_DONE = 0 ∧
      t.get GRAN_RES_CODE = s.get GRAN_RES_CODE ∧
      s.SameBut t [0x080, 0x006, 0x074] lastKeys ∧
      s.SameMemory t) ∧
  (∀ (m : Master) (s : State),
    s.accepts m.num 0x080 0x040 0x04 = true →
    (newestRec (validRecs (s.gran.logRecs (s.on GRAN_REGION)).1 []) (s.get GRAN_TYPE) (s.get GRAN_KEY) = none ∨ (newestRec
      (validRecs (s.gran.logRecs (s.on GRAN_REGION)).1 []) (s.get GRAN_TYPE) (s.get GRAN_KEY)).map (fun r => r.payload.length) =
      some 0) →
    ∃ t, exec (.granFind m) s = .next t ∧
      t.get GRAN_FOUND_ADDR = s.get GRAN_FOUND_ADDR ∧
      t.get GRAN_FOUND_SEQ = s.get GRAN_FOUND_SEQ ∧
      t.get GRAN_FOUND_LEN = s.get GRAN_FOUND_LEN ∧
      t.gran.jobs = s.gran.jobs ++ [⟨4, 4, true, m.num, true, [], cEMPTY, 0⟩] ∧
      t.get GRAN_RES_DONE = 0 ∧
      t.get GRAN_RES_CODE = s.get GRAN_RES_CODE ∧
      s.SameBut t [0x080, 0x006, 0x074] lastKeys ∧
      s.SameMemory t) ∧
  (∀ (m : Master) (s : State),
    s.accepts m.num 0x080 0x040 0x09 = true →
    bitAt s.gran.pageLocked (s.get GRAN_ADDR / 0x1000 % 16) = false →
    s.gran.cur = none →
    s.gran.jobs = [] →
    s.wdt.dbgHalt = false →
    ∃ t, exec (.granLockPage m) s = .next t ∧
      t.gran.cur = some ⟨9, 4, true, m.num, true, [.lockRow (2 ^ (s.get GRAN_ADDR / 0x1000 % 16)) 0 false], 0, 0⟩ ∧
      t.get GRAN_RES_DONE = 0 ∧
      t.get GRAN_RES_CODE = s.get GRAN_RES_CODE ∧
      t.gran.pageLocked = s.gran.pageLocked ∧
      t.gran.pageRprot = s.gran.pageRprot ∧
      t.gran.factoryLocked = s.gran.factoryLocked ∧
      s.SameBut t [0x080] lastKeys ∧
      s.SameMemory t) ∧
  (∀ (m : Master) (s : State),
    s.accepts m.num 0x080 0x040 0x0A = true →
    bitAt s.gran.pageRprot (s.get GRAN_ADDR / 0x1000 % 16) = false →
    s.gran.cur = none →
    s.gran.jobs = [] →
    s.wdt.dbgHalt = false →
    ∃ t, exec (.granRprotPage m) s = .next t ∧
      t.gran.cur = some ⟨10, 4, true, m.num, true, [.lockRow 0 (2 ^ (s.get GRAN_ADDR / 0x1000 % 16)) false], 0, 0⟩ ∧
      t.get GRAN_RES_DONE = 0 ∧
      t.get GRAN_RES_CODE = s.get GRAN_RES_CODE ∧
      t.gran.pageLocked = s.gran.pageLocked ∧
      t.gran.pageRprot = s.gran.pageRprot ∧
      t.gran.factoryLocked = s.gran.factoryLocked ∧
      s.SameBut t [0x080] lastKeys ∧
      s.SameMemory t) ∧
  (∀ (m : Master) (s : State),
    s.accepts m.num 0x080 0x040 0x0B = true →
    s.gran.factoryLocked = false →
    s.gran.cur = none →
    s.gran.jobs = [] →
    s.wdt.dbgHalt = false →
    ∃ t, exec (.granLockFactory m) s = .next t ∧
      t.gran.cur = some ⟨11, 4, true, m.num, true, [.lockRow 0 0 true], 0, 0⟩ ∧
      t.get GRAN_RES_DONE = 0 ∧
      t.get GRAN_RES_CODE = s.get GRAN_RES_CODE ∧
      t.gran.pageLocked = s.gran.pageLocked ∧
      t.gran.pageRprot = s.gran.pageRprot ∧
      t.gran.factoryLocked = s.gran.factoryLocked ∧
      s.SameBut t [0x080] lastKeys ∧
      s.SameMemory t) ∧
  (∀ (m : Master) (i : Instr) (op : Nat) (s : State),
    ((i = .granLockPage m ∧ op = 9 ∧ bitAt s.gran.pageLocked (s.get GRAN_ADDR / 0x1000 % 16) = true) ∨ (i = .granRprotPage m ∧ op
      = 10 ∧ bitAt s.gran.pageRprot (s.get GRAN_ADDR / 0x1000 % 16) = true) ∨ (i = .granLockFactory m ∧ op = 11 ∧
      s.gran.factoryLocked = true)) →
    s.accepts m.num 0x080 0x040 op = true →
    ∃ t, exec (i) s = .next t ∧
      t.get GRAN_RES_DONE = 1 ∧
      t.get GRAN_RES_CODE = cOK ∧
      t.get GRAN_RES_OP = op ∧
      bitAt (t.get HDR_INT_RAW 0x080) 0 = true ∧
      t.gran = s.gran ∧
      s.SameBut t [0x080] lastKeys)

/-- A page program clears exactly the bits of its bytes, an erase makes its sector read as erased, a refresh leaves its content,
a relocation is shown and logged, journal operations open and close entries, a lock operation sets its lock for good and is
logged. With its last record SEQ_BEGIN opens a group, a member counts, SEQ_END closes it; a trim record is then saved. A failed
operation is counted and logged and ends its job with CHECK_FAIL; a trim that fails is unsaved. The end of a host job gives
RESULT; a refusable job that waited DEFER_MAX ends with BUSY and is logged; the end of a scan gives its time and its count of
weak sectors and refreshes each. With nothing to end, nothing changes. -/
def Obligations.GranaryEngine : Prop :=
  (∀ (a : Nat) (bs : List Byte) (l : List GOp) (j : Job) (s : State),
    s.gran.cur = some j →
    j.ops = .program a bs :: l →
    ∃ t, exec (.granOperationDone false) s = .next t ∧
      (∀ x, t.gran.byte x = (s.gran.program a bs).byte x)) ∧
  (∀ (sec : Nat) (l : List GOp) (j : Job) (s : State),
    s.gran.cur = some j →
    j.ops = .erase sec :: l →
    j.op ≠ jREFRESH →
    ∃ t, exec (.granOperationDone false) s = .next t ∧
      (∀ x, x < 4096 → t.gran.byte (sec * 4096 + x) = 0xFF) ∧
      (∀ x, x / 4096 ≠ sec → t.gran.byte x = s.gran.byte x)) ∧
  (∀ (sec : Nat) (l : List GOp) (j : Job) (s : State),
    s.gran.cur = some j →
    j.ops = .erase sec :: l →
    j.op = jREFRESH →
    ∃ t, exec (.granOperationDone false) s = .next t ∧
      (∀ x, t.gran.byte x = s.gran.byte x)) ∧
  (∀ (what arg : Nat) (l : List GOp) (j : Job) (s : State),
    s.gran.cur = some j →
    j.ops = .journalOpen what arg :: l →
    ∃ t, exec (.granOperationDone false) s = .next t ∧
      t.gran.journal = s.gran.journal ++ [(what, arg)] ∧
      (∀ x, t.gran.byte x = s.gran.byte x)) ∧
  (∀ (what arg : Nat) (l : List GOp) (j : Job) (s : State),
    s.gran.cur = some j →
    j.ops = .journalClose what arg :: l →
    ∃ t, exec (.granOperationDone false) s = .next t ∧
      t.gran.journal = s.gran.journal.erase (what, arg) ∧
      (∀ x, t.gran.byte x = s.gran.byte x)) ∧
  (∀ (sec p : Nat) (l : List GOp) (j : Job) (s : State),
    s.gran.cur = some j →
    j.ops = .remap sec p :: l →
    s.coreOn = true →
    ∃ t, exec (.granOperationDone false) s = .next t ∧
      (sec, p) ∈ t.gran.remap ∧
      t.get GRAN_RELOCATED = min (s.get GRAN_RELOCATED + 1) (2 ^ GRAN_RELOCATED.wid - 1) ∧
      bitAt (t.get HDR_INT_RAW 0x080) 2 = true ∧
      t.get EVT_CODE 0 (s.get EVT_TOTAL % 256) = 0x8014) ∧
  (∀ (p r : Nat) (f : Bool) (l : List GOp) (j : Job) (s : State),
    s.gran.cur = some j →
    j.ops = .lockRow p r f :: l →
    s.coreOn = true →
    ∃ t, exec (.granOperationDone false) s = .next t ∧
      t.gran.pageLocked = s.gran.pageLocked ||| p ∧
      t.gran.pageRprot = s.gran.pageRprot ||| r ∧
      t.gran.factoryLocked = (s.gran.factoryLocked || f) ∧
      t.get EVT_CODE 0 (s.get EVT_TOTAL % 256) = 0x8210 ∧
      (t.get EVT_DATA 0 (s.get EVT_TOTAL % 256) = (if f then 2 ^ 9 else if p ≠ 0 then Nat.log2 p else Nat.log2 r + 2 ^ 8) % 65536)
        ∧
      (∀ x, t.gran.byte x = s.gran.byte x)) ∧
  (∀ (a : Nat) (bs : List Byte) (j : Job) (s : State),
    s.gran.cur = some j →
    j.ops = [.program a bs] →
    (j.op = 5 ∨ j.op = 6 ∨ (j.op = 3 ∧ j.arg = 2)) →
    s.gran.groupNext < 128 →
    ∃ t, exec (.granOperationDone false) s = .next t ∧
      (t.get GRAN_SEQ_OPEN = (if j.op = 6 then 0 else if j.op = 5 ∧ s.holds j.master 2 = true then 1 else s.get GRAN_SEQ_OPEN)) ∧
      (t.gran.groupCount = (if j.op = 3 then s.gran.groupCount + 1 else if j.op = 5 ∧ s.holds j.master 2 = true then 0 else
        s.gran.groupCount)) ∧
      (t.gran.groupNext = (if j.op = 5 then (s.gran.groupNext + 1) % 128 else s.gran.groupNext)) ∧
      (j.op = 5 → s.holds j.master 2 = true → t.get GRAN_GROUP = s.gran.groupNext ∧ t.gran.groupMaster = j.master) ∧
      { j with ops := [] } ∈ t.gran.jobs) ∧
  (∀ (a : Nat) (bs : List Byte) (j : Job) (s : State),
    s.gran.cur = some j →
    j.ops = [.program a bs] →
    j.op = jTRIM →
    j.arg < 34 →
    ∃ t, exec (.granOperationDone false) s = .next t ∧
      t.get CH_UNSAVED j.arg = 0) ∧
  (∀ (op : GOp) (l : List GOp) (j : Job) (s : State),
    s.gran.cur = some j →
    j.ops = op :: l →
    j.host = true →
    s.coreOn = true →
    ∃ t, exec (.granOperationDone true) s = .next t ∧
      t.get GRAN_FAILS = min (s.get GRAN_FAILS + 1) (2 ^ GRAN_FAILS.wid - 1) ∧
      { j with ops := [], code := cCHECK } ∈ t.gran.jobs ∧
      t.get EVT_CODE 0 (s.get EVT_TOTAL % 256) = 0x8018 ∧
      t.get EVT_DATA 0 (s.get EVT_TOTAL % 256) = s.opSector j op % 65536) ∧
  (∀ (a : Nat) (bs : List Byte) (j : Job) (s : State),
    s.gran.cur = some j →
    j.ops = [.program a bs] →
    j.op = jTRIM →
    j.arg < 34 →
    ∃ t, exec (.granOperationDone true) s = .next t ∧
      t.get CH_UNSAVED j.arg = 1 ∧
      t.get GRAN_FAILS = min (s.get GRAN_FAILS + 1) (2 ^ GRAN_FAILS.wid - 1)) ∧
  (∀ (b : Bool) (s : State),
    s.gran.cur = none →
    ∃ t, exec (.granOperationDone b) s = .next t ∧
      t.gran = s.gran) ∧
  (∀ (j : Job) (s : State),
    s.gran.jobs.find? s.jobReady = some j →
    ∃ t, exec (.granJobDone) s = .next t ∧
      t.gran.jobs = removeJob j s.gran.jobs ∧
      t.get GRAN_RES_CODE = j.code % 2 ^ GRAN_RES_CODE.wid ∧
      t.get GRAN_RES_OP = j.op % 2 ^ GRAN_RES_OP.wid ∧
      t.get GRAN_RES_DONE = 1 ∧
      bitAt (t.get HDR_INT_RAW 0x080) 0 = true ∧
      s.SameBut t [0x080] [] ∧
      s.SameMemory t) ∧
  (∀ (s : State),
    s.gran.jobs.find? s.jobReady = none →
    exec (.granJobDone) s = .next (s)) ∧
  (∀ (j : Job) (s : State),
    (s.gran.jobs.find? (fun j => j.refusable && !j.started && !j.ops.isEmpty) = some j) →
    j.host = true →
    s.coreOn = true →
    s.get YARD_SECONDS < 2 ^ 32 →
    ∃ t, exec (.granDeferRefused) s = .next t ∧
      t.gran.jobs = removeJob j s.gran.jobs ∧
      t.get GRAN_RES_CODE = cBUSY ∧
      t.get GRAN_RES_DONE = 1 ∧
      t.get GRAN_RES_OP = j.op % 2 ^ GRAN_RES_OP.wid ∧
      t.lastEvent 0x8017 ((j.master + j.rank * 2 ^ 8) % 65536) = true ∧
      s.SameBut t [0x080, 0x006, 0x074] [] ∧
      s.SameMemory t) ∧
  (∀ (j : Job) (s : State),
    (s.gran.jobs.find? (fun j => j.refusable && !j.started && !j.ops.isEmpty) = some j) →
    (j.op = jTRIM ∨ j.op = jFIELD) →
    s.coreOn = true →
    s.get YARD_SECONDS < 2 ^ 32 →
    j.arg < 34 →
    ∃ t, exec (.granDeferRefused) s = .next t ∧
      j ∉ t.gran.jobs ∧
      t.get EVT_CODE 0 (s.get EVT_TOTAL % 256) = 0x8017 ∧
      (j.op = jTRIM → t.get CH_UNSAVED j.arg = 1) ∧
      (j.op = jFIELD → t.gran.saving = false ∧ (s.nuc.saveAgain = false → ∀ k ∈ t.gran.jobs, k.op = 8 → k.code = cBUSY)) ∧
      s.SameMemory t) ∧
  (∀ (s : State),
    (s.gran.jobs.find? (fun j => j.refusable && !j.started && !j.ops.isEmpty) = none) →
    exec (.granDeferRefused) s = .next (s)) ∧
  (∀ (weak : List Nat) (s : State),
    s.gran.scanning = true →
    s.coreOn = true →
    s.yard.service = none →
    ∃ t, exec (.granScanDone weak) s = .next t ∧
      t.gran.scanning = false ∧
      t.get GRAN_SCAN_ACC = 0 ∧
      t.get GRAN_SCAN_LAST_S = s.get YARD_SECONDS % 2 ^ GRAN_SCAN_LAST_S.wid ∧
      bitAt (t.get HDR_INT_RAW 0x080) 1 = true ∧
      t.get EVT_CODE 0 (s.get EVT_TOTAL % 256) = 0x801B ∧
      t.get EVT_DATA 0 (s.get EVT_TOTAL % 256) = weak.length % 65536 ∧
      (∀ w ∈ weak, ∃ j ∈ t.gran.cur.toList ++ t.gran.jobs, j.op = jREFRESH ∧ j.arg = w)) ∧
  (∀ (weak : List Nat) (s : State),
    s.gran.scanning = false →
    exec (.granScanDone weak) s = .next (s))

/-- A commanded store is committed to the older copy where none runs, and where one runs nothing changes; the automatic one when
AUTO_S seconds have passed; a power failure commits a store of cause 3, or turns the one that runs into it, where PF_EN is set,
and otherwise does nothing; the end of a store that verifies counts it with its cause and, after a power failure, its outcome,
one that does not counts nothing; a power-fail store that ends with main power back is logged and leaves no outcome. Below the
store floor a power-fail store ends and the device is in reset; without one nothing changes. -/
def Obligations.ShadowStore : Prop :=
  (∀ (m : Master) (s : State),
    s.accepts m.num 0x081 0x048 1 = true →
    s.shadow.storing = none →
    ∃ t, exec (.shadowStoreCmd m) s = .next t ∧
      t.shadow.storing = some (0, 0) ∧
      t.shadow.target = s.gran.shadowOlder ∧
      t.get SHADOW_STORES = s.get SHADOW_STORES ∧
      (∀ a, t.gran.byte a = s.gran.byte a)) ∧
  (∀ (m : Master) (s : State),
    s.accepts m.num 0x081 0x048 1 = true →
    s.shadow.storing.isSome = true →
    exec (.shadowStoreCmd m) s = .next ((s.rewritten 0x081 0x048).noteCode m.num cOK)) ∧
  (∀ (s : State),
    s.get SHADOW_AUTO_S ≠ 0 →
    s.get SHADOW_AUTO_S ≤ s.shadow.autoLeft →
    s.mode ≠ DORMANT →
    s.shadow.storing = none →
    s.boot.stored = true →
    s.boot.inReset = false →
    ∃ t, exec (.shadowAutoStore) s = .next t ∧
      t.shadow.storing = some (0, 0) ∧
      t.shadow.autoLeft = 0 ∧
      t.shadow.target = s.gran.shadowOlder ∧
      t.get SHADOW_STORES = s.get SHADOW_STORES) ∧
  (∀ (s : State),
    (s.get SHADOW_AUTO_S = 0 ∨ s.shadow.autoLeft < s.get SHADOW_AUTO_S ∨ s.mode = DORMANT ∨ s.shadow.storing.isSome = true ∨
      s.boot.stored = false ∨ s.boot.inReset = true) →
    exec (.shadowAutoStore) s = .next (s)) ∧
  (∀ (cause k : Nat) (powered : Bool) (s : State),
    s.shadow.storing = some (cause, k) →
    cause < 3 →
    (s.gran.jobs.any (fun j => j.op == jSTORE && j.code != cOK) = false) →
    ∃ t, exec (.shadowStoreDone false powered) s = .next t ∧
      t.shadow.storing = none ∧
      t.get SHADOW_STORES = min (s.get SHADOW_STORES + 1) (2 ^ SHADOW_STORES.wid - 1) ∧
      t.get SHADOW_LAST_CAUSE = cause ∧
      t.shadow.outcome = s.shadow.outcome) ∧
  (∀ (k : Nat) (powered : Bool) (s : State),
    s.shadow.storing = some (3, k) →
    (s.gran.jobs.any (fun j => j.op == jSTORE && j.code != cOK) = false) →
    s.coreOn = true →
    ∃ t, exec (.shadowStoreDone false powered) s = .next t ∧
      t.shadow.storing = none ∧
      t.get SHADOW_STORES = min (s.get SHADOW_STORES + 1) (2 ^ SHADOW_STORES.wid - 1) ∧
      t.get SHADOW_LAST_CAUSE = 3 ∧
      (t.shadow.outcome = (if powered then s.shadow.outcome else 1)) ∧
      t.shadow.pfCommitted = false) ∧
  (∀ (cause k : Nat) (fails powered : Bool) (s : State),
    s.shadow.storing = some (cause, k) →
    (fails = true ∨ s.gran.jobs.any (fun j => j.op == jSTORE && j.code != cOK) = true) →
    ∃ t, exec (.shadowStoreDone fails powered) s = .next t ∧
      t.shadow.storing = none ∧
      t.get SHADOW_STORES = s.get SHADOW_STORES ∧
      t.get SHADOW_LAST_CAUSE = s.get SHADOW_LAST_CAUSE ∧
      t.shadow.outcome = s.shadow.outcome) ∧
  (∀ (fails powered : Bool) (s : State),
    s.shadow.storing = none →
    exec (.shadowStoreDone fails powered) s = .next (s)) ∧
  (∀ (s : State),
    (s.get SHADOW_PF_EN = 0 ∨ s.boot.stored = false ∨ s.inDormant = true ∨ s.pfStoring = true) →
    exec (.powerFail) s = .next (s)) ∧
  (∀ (s : State),
    s.get SHADOW_PF_EN ≠ 0 →
    s.boot.stored = true →
    s.inDormant = false →
    s.pfStoring = false →
    ∃ t, exec (.powerFail) s = .next t ∧
      t.shadow.pfCommitted = true ∧
      t.shadow.storing.map Prod.fst = some 3 ∧
      t.get SHADOW_STORES = s.get SHADOW_STORES) ∧
  (∀ (bursts : Nat) (s : State),
    s.pfStoring = true →
    ∃ t, exec (.vbkpFloor bursts) s = .next t ∧
      t.shadow.storing = none ∧
      t.shadow.pfCommitted = false ∧
      (t.get SHADOW_STORES = s.get SHADOW_STORES ∨ t.get SHADOW_STORES = SHADOW_STORES.reset) ∧
      (s.pd 0 = 2 → t.boot.inReset = true)) ∧
  (∀ (bursts : Nat) (s : State),
    s.pfStoring = false →
    exec (.vbkpFloor bursts) s = .next (s))

/-- While the watchdog runs, an accepted answer, which carries the value of R530 in the open window, is counted, clears MISSED
and starts a period with a new challenge; a refused one ends the period as a missed one, with the reason of Table WDT-1, besides
its refusal; the window opens; the end of a period without a service is a miss: the first one in a row is counted, logged and
raised and starts a period, the second resets the device. While it does not run, an accepted answer, the window and the end of a
period change nothing, and a refused answer is no miss. EN written to 1 over 0 clears COUNT and MISSED and starts a period where
no hold of R534 applies; EN written to 0 ends the period; EN written as it stands leaves the watchdog alone. -/
def Obligations.Watchdog : Prop :=
  (∀ (m : Master) (data : Word) (s : State),
    s.accepts m.num 0x003 0x054 data.toNat = true →
    s.wdtServing = true →
    ∃ t, exec (.wdtAnswer m data) s = .next t ∧
      data.toNat % 2 ^ 16 = wdtAnswer (s.get WDT_CHALLENGE) (s.get WDT_KEY) (s.get WDT_COUNT) ∧
      s.wdt.openAt ≤ s.wdt.cycle ∧
      t.get WDT_COUNT = (s.get WDT_COUNT + 1) % 2 ^ WDT_COUNT.wid ∧
      t.get WDT_MISSED = 0 ∧
      t.get WDT_CHALLENGE = s.yard.lfsr % 2 ^ WDT_CHALLENGE.wid ∧
      t.wdt.cycle = 0 ∧
      t.wdt.running = true ∧
      t.wdt.len = wdtPeriod (s.get WDT_PERIOD) ∧
      t.wdt.openAt = wdtPeriod (s.get WDT_PERIOD) * (256 - s.get WDT_WINDOW_OPEN) / 256 ∧
      s.SameBut t [] ([WDT_COUNT.key 0 0, WDT_MISSED.key 0 0, WDT_CHALLENGE.key 0 0] ++ lastKeys) ∧
      s.SameMemory t) ∧
  (∀ (m : Master) (data : Word) (s : State),
    s.accepts m.num 0x003 0x054 data.toNat = true →
    s.wdtServing = false →
    exec (.wdtAnswer m data) s = .next ((s.rewritten 0x003 0x054).noteCode m.num cOK)) ∧
  (∀ (m : Master) (data : Word) (r : Refuse) (own : Bool) (s : State),
    s.serves = true →
    s.sources m.num = true →
    s.host.posted = [] →
    s.writeCheck m.num 0x003 0x054 data.toNat = some (r, own) →
    s.wdtServing = true →
    s.get WDT_MISSED = 0 →
    s.coreOn = true →
    ∃ t, exec (.wdtAnswer m data) s = .next t ∧
      t.get WDT_MISSED = 1 ∧
      t.get WDT_MISSES = min (s.get WDT_MISSES + 1) (2 ^ WDT_MISSES.wid - 1) ∧
      (t.get WDT_LAST_MISS = (if r.code = cCHECK then 2 else if r.code = cWINDOW then 3 else 4)) ∧
      (t.lastEvent 0x0310 (if r.code = cCHECK then 2 else if r.code = cWINDOW then 3 else 4) = true) ∧
      bitAt (t.get HDR_INT_RAW 0x003) 0 = true ∧
      t.get HDR_ERR_CODE 0x003 = r.code % 2 ^ HDR_ERR_CODE.wid ∧
      t.get HDR_ERR_MASTER 0x003 = m.num ∧
      t.get HDR_ERR_OFFSET 0x003 = 0x054 ∧
      t.get WDT_COUNT = s.get WDT_COUNT ∧
      t.get WDT_CHALLENGE = s.yard.lfsr % 2 ^ WDT_CHALLENGE.wid ∧
      t.wdt.cycle = 0 ∧
      t.wdt.running = true ∧
      t.wdt.len = wdtPeriod (s.get WDT_PERIOD) ∧
      t.wdt.openAt = wdtPeriod (s.get WDT_PERIOD) * (256 - s.get WDT_WINDOW_OPEN) / 256 ∧
      s.SameBut t [0x000, 0x003, 0x006, 0x074] noteKeys ∧
      s.SameMemory t) ∧
  (∀ (m : Master) (data : Word) (r : Refuse) (own : Bool) (s : State),
    s.serves = true →
    s.sources m.num = true →
    s.host.posted = [] →
    s.writeCheck m.num 0x003 0x054 data.toNat = some (r, own) →
    s.wdtServing = true →
    s.get WDT_MISSED = 1 →
    ∃ t, exec (.wdtAnswer m data) s = .next t ∧
      t.boot.inReset = true ∧
      t.get WDT_WDT_RESETS = min (s.get WDT_WDT_RESETS + 1) (2 ^ WDT_WDT_RESETS.wid - 1) ∧
      (t.get WDT_LAST_MISS = (if r.code = cCHECK then 2 else if r.code = cWINDOW then 3 else 4))) ∧
  (∀ (m : Master) (data : Word) (r : Refuse) (own : Bool) (s : State),
    s.serves = true →
    s.sources m.num = true →
    s.host.posted = [] →
    s.writeCheck m.num 0x003 0x054 data.toNat = some (r, own) →
    s.wdtServing = false →
    ∃ t, exec (.wdtAnswer m data) s = .next t ∧
      t.wdt = s.wdt ∧
      t.get WDT_MISSED = s.get WDT_MISSED ∧
      t.get WDT_MISSES = s.get WDT_MISSES ∧
      t.get WDT_COUNT = s.get WDT_COUNT ∧
      t.get HDR_ERR_CODE 0x003 = r.code % 2 ^ HDR_ERR_CODE.wid ∧
      t.get HDR_ERR_MASTER 0x003 = m.num ∧
      s.SameBut t [0x000, 0x003, 0x006, 0x074] noteKeys ∧
      s.SameMemory t) ∧
  (∀ (s : State),
    s.wdtServing = true →
    exec (.wdtWindowOpen) s = .next ({ s with wdt := { s.wdt with cycle := max s.wdt.cycle s.wdt.openAt } })) ∧
  (∀ (i : Instr) (s : State),
    s.wdtServing = false →
    (i = .wdtWindowOpen ∨ i = .wdtPeriodEnd) →
    exec (i) s = .next (s)) ∧
  (∀ (s : State),
    s.wdtServing = true →
    s.get WDT_MISSED = 0 →
    s.coreOn = true →
    ∃ t, exec (.wdtPeriodEnd) s = .next t ∧
      t.get WDT_MISSED = 1 ∧
      t.get WDT_MISSES = min (s.get WDT_MISSES + 1) (2 ^ WDT_MISSES.wid - 1) ∧
      t.get WDT_LAST_MISS = 1 ∧
      t.lastEvent 0x0310 1 = true ∧
      bitAt (t.get HDR_INT_RAW 0x003) 0 = true ∧
      t.get WDT_COUNT = s.get WDT_COUNT ∧
      t.get WDT_CHALLENGE = s.yard.lfsr % 2 ^ WDT_CHALLENGE.wid ∧
      t.wdt.cycle = 0 ∧
      t.wdt.running = true ∧
      t.wdt.len = wdtPeriod (s.get WDT_PERIOD) ∧
      t.wdt.openAt = wdtPeriod (s.get WDT_PERIOD) * (256 - s.get WDT_WINDOW_OPEN) / 256 ∧
      s.SameBut t [0x003, 0x006, 0x074] [] ∧
      s.SameMemory t) ∧
  (∀ (s : State),
    s.wdtServing = true →
    s.get WDT_MISSED = 1 →
    ∃ t, exec (.wdtPeriodEnd) s = .next t ∧
      t.boot.inReset = true ∧
      t.get WDT_WDT_RESETS = min (s.get WDT_WDT_RESETS + 1) (2 ^ WDT_WDT_RESETS.wid - 1) ∧
      t.get WDT_LAST_MISS = 1) ∧
  (∀ (m : Master) (en : Bool) (s : State),
    s.accepts m.num 0x003 0x008 (bit en) = true →
    s.get HDR_EN 0x003 = bit en →
    ∃ t, exec (.wdtEnWrite m en) s = .next t ∧
      t.get HDR_EN 0x003 = bit en ∧
      t.wdt = s.wdt ∧
      s.SameBut t [] lastKeys ∧
      s.SameMemory t) ∧
  (∀ (m : Master) (s : State),
    s.accepts m.num 0x003 0x008 1 = true →
    s.get HDR_EN 0x003 = 0 →
    s.wdtHeld = false →
    s.wdt.running = false →
    ∃ t, exec (.wdtEnWrite m true) s = .next t ∧
      t.get HDR_EN 0x003 = 1 ∧
      t.get WDT_COUNT = 0 ∧
      t.get WDT_MISSED = 0 ∧
      t.get WDT_CHALLENGE = s.yard.lfsr % 2 ^ WDT_CHALLENGE.wid ∧
      t.wdt.cycle = 0 ∧
      t.wdt.running = true ∧
      t.wdt.len = wdtPeriod (s.get WDT_PERIOD) ∧
      t.wdt.openAt = wdtPeriod (s.get WDT_PERIOD) * (256 - s.get WDT_WINDOW_OPEN) / 256 ∧
      s.SameBut t [] ([WDT_COUNT.key 0 0, WDT_MISSED.key 0 0, WDT_CHALLENGE.key 0 0, HDR_EN.key 0x003 0] ++ lastKeys) ∧
      s.SameMemory t) ∧
  (∀ (m : Master) (s : State),
    s.accepts m.num 0x003 0x008 1 = true →
    s.get HDR_EN 0x003 = 0 →
    s.wdtHeld = true →
    ∃ t, exec (.wdtEnWrite m true) s = .next t ∧
      t.get HDR_EN 0x003 = 1 ∧
      t.get WDT_COUNT = 0 ∧
      t.get WDT_MISSED = 0 ∧
      t.wdt.running = false ∧
      s.SameBut t [] ([WDT_COUNT.key 0 0, WDT_MISSED.key 0 0, WDT_CHALLENGE.key 0 0, HDR_EN.key 0x003 0] ++ lastKeys) ∧
      s.SameMemory t) ∧
  (∀ (m : Master) (s : State),
    s.accepts m.num 0x003 0x008 0 = true →
    s.get HDR_EN 0x003 = 1 →
    ∃ t, exec (.wdtEnWrite m false) s = .next t ∧
      t.get HDR_EN 0x003 = 0 ∧
      t.wdt.running = false ∧
      (t.wdtState = (if s.wdt.expiring then 4 else 0)) ∧
      s.SameBut t [] ([WDT_COUNT.key 0 0, WDT_MISSED.key 0 0, WDT_CHALLENGE.key 0 0, HDR_EN.key 0x003 0] ++ lastKeys) ∧
      s.SameMemory t)

/-- A TAKE of a free semaphore by a master whose write is accepted gives it to that master with its epoch, counts it and latches
the hold limit; one of a semaphore it holds changes nothing; one of a semaphore that another holds or that is ORPHANED is
refused with LOCKED. A RELEASE by the owner frees it, one of a free semaphore changes nothing, one by another master is refused
with OWNER_REJECT and one of an ORPHANED one with LOCKED. A held semaphore whose limit passes while PD_CORE is on is orphaned
with cause 6, raised and logged, and its resource is recovered: a fill in progress ends, staged values of the guarded page are
dropped with GO, an open sequence ends; while PD_CORE is off it waits. The end of the recovery frees it. A limit that does not
run and a recovery that is not due change nothing. -/
def Obligations.Semaphores : Prop :=
  (∀ (m : Master) (n : Fin 8) (s : State),
    s.accepts m.num 0x005 (semOff n.val) 1 = true →
    s.semHold.length = 8 →
    s.get LOCK_STATE 0 n.val = 0 →
    ∃ t, exec (.semTake m n) s = .next t ∧
      t.get LOCK_STATE 0 n.val = 1 ∧
      t.get LOCK_OWNER 0 n.val = m.num ∧
      t.get LOCK_OWNER_EPOCH 0 n.val = s.epoch m.num % 2 ^ LOCK_OWNER_EPOCH.wid ∧
      t.get LOCK_TAKES 0 n.val = min (s.get LOCK_TAKES 0 n.val + 1) (2 ^ LOCK_TAKES.wid - 1) ∧
      t.semHold = s.semHold.set n.val (s.get LOCK_HOLD_EN 0 n.val) ∧
      s.SameBut t [] ([LOCK_STATE.key 0 n.val, LOCK_OWNER.key 0 n.val, LOCK_OWNER_EPOCH.key 0 n.val, LOCK_TAKES.key 0 n.val] ++
        lastKeys) ∧
      s.SameMemory t) ∧
  (∀ (m : Master) (n : Fin 8) (s : State),
    s.accepts m.num 0x005 (semOff n.val) 1 = true →
    s.get LOCK_STATE 0 n.val = 1 →
    exec (.semTake m n) s = .next ((s.rewritten 0x005 (semOff n.val)).noteCode m.num cOK) ∧
    s.get LOCK_OWNER 0 n.val = m.num ∧
    (s.busWrite m.num (regAddr 0x005 (semOff n.val)) 1).2 = cOK) ∧
  (∀ (m : Master) (n : Fin 8) (s : State),
    s.serves = true →
    s.sources m.num = true →
    s.priv m.num = true →
    s.get HDR_OWNER 0x005 = 0xFF →
    s.pd 0 = 2 →
    (s.get LOCK_STATE 0 n.val = 2 ∨ (s.get LOCK_STATE 0 n.val = 1 ∧ s.get LOCK_OWNER 0 n.val ≠ m.num)) →
    ∃ t, exec (.semTake m n) s = .next t ∧
      (s.busWrite m.num (regAddr 0x005 (semOff n.val)) 1).2 = cLOCKED ∧
      t.get LOCK_STATE 0 n.val = s.get LOCK_STATE 0 n.val ∧
      t.get LOCK_OWNER 0 n.val = s.get LOCK_OWNER 0 n.val ∧
      t.get LOCK_OWNER_EPOCH 0 n.val = s.get LOCK_OWNER_EPOCH 0 n.val ∧
      t.get LOCK_TAKES 0 n.val = s.get LOCK_TAKES 0 n.val ∧
      t.semHold = s.semHold ∧
      t.get HDR_ERR_CODE 0x005 = cLOCKED ∧
      t.get HDR_ERR_MASTER 0x005 = m.num ∧
      s.SameBut t [0x000, 0x005, 0x006, 0x074] noteKeys) ∧
  (∀ (m : Master) (n : Fin 8) (s : State),
    s.accepts m.num 0x005 (semOff n.val) 2 = true →
    s.get LOCK_STATE 0 n.val = 1 →
    ∃ t, exec (.semRelease m n) s = .next t ∧
      t.get LOCK_STATE 0 n.val = 0 ∧
      t.get LOCK_OWNER 0 n.val = 0 ∧
      t.get LOCK_OWNER_EPOCH 0 n.val = 0 ∧
      s.get LOCK_OWNER 0 n.val = m.num ∧
      t.semHold = s.semHold.set n.val 0 ∧
      s.SameBut t [] ([LOCK_STATE.key 0 n.val, LOCK_OWNER.key 0 n.val, LOCK_OWNER_EPOCH.key 0 n.val] ++ lastKeys) ∧
      s.SameMemory t) ∧
  (∀ (m : Master) (n : Fin 8) (s : State),
    s.accepts m.num 0x005 (semOff n.val) 2 = true →
    s.get LOCK_STATE 0 n.val = 0 →
    exec (.semRelease m n) s = .next ((s.rewritten 0x005 (semOff n.val)).noteCode m.num cOK) ∧
    (s.busWrite m.num (regAddr 0x005 (semOff n.val)) 2).2 = cOK) ∧
  (∀ (m : Master) (n : Fin 8) (s : State),
    s.serves = true →
    s.sources m.num = true →
    s.priv m.num = true →
    s.get HDR_OWNER 0x005 = 0xFF →
    s.pd 0 = 2 →
    s.get LOCK_STATE 0 n.val = 2 →
    ∃ t, exec (.semRelease m n) s = .next t ∧
      (s.busWrite m.num (regAddr 0x005 (semOff n.val)) 2).2 = cLOCKED ∧
      t.get LOCK_STATE 0 n.val = s.get LOCK_STATE 0 n.val ∧
      t.get LOCK_OWNER 0 n.val = s.get LOCK_OWNER 0 n.val ∧
      t.get LOCK_OWNER_EPOCH 0 n.val = s.get LOCK_OWNER_EPOCH 0 n.val ∧
      t.get LOCK_TAKES 0 n.val = s.get LOCK_TAKES 0 n.val ∧
      t.semHold = s.semHold ∧
      t.get HDR_ERR_CODE 0x005 = cLOCKED ∧
      t.get HDR_ERR_MASTER 0x005 = m.num ∧
      s.SameBut t [0x000, 0x005, 0x006, 0x074] noteKeys) ∧
  (∀ (m : Master) (n : Fin 8) (s : State),
    s.serves = true →
    s.sources m.num = true →
    s.priv m.num = true →
    s.get HDR_OWNER 0x005 = 0xFF →
    s.pd 0 = 2 →
    s.get LOCK_STATE 0 n.val = 1 →
    s.get LOCK_OWNER 0 n.val ≠ m.num →
    ∃ t, exec (.semRelease m n) s = .next t ∧
      (s.busWrite m.num (regAddr 0x005 (semOff n.val)) 2).2 = cOWNER ∧
      t.get LOCK_STATE 0 n.val = s.get LOCK_STATE 0 n.val ∧
      t.get LOCK_OWNER 0 n.val = s.get LOCK_OWNER 0 n.val ∧
      t.get LOCK_OWNER_EPOCH 0 n.val = s.get LOCK_OWNER_EPOCH 0 n.val ∧
      t.get LOCK_TAKES 0 n.val = s.get LOCK_TAKES 0 n.val ∧
      t.semHold = s.semHold ∧
      t.get HDR_ERR_CODE 0x005 = cOWNER ∧
      t.get HDR_ERR_MASTER 0x005 = m.num ∧
      s.SameBut t [0x000, 0x005, 0x006, 0x074] noteKeys) ∧
  (∀ (n : Fin 8) (s : State),
    s.get LOCK_STATE 0 n.val = 1 →
    s.semHold.getD n.val 0 = 1 →
    s.coreOn = true →
    s.get LOCK_OWNER 0 n.val < 8 →
    ∃ t, exec (.semHoldExpire n) s = .next t ∧
      t.get LOCK_STATE 0 n.val = 2 ∧
      t.get LOCK_OWNER 0 n.val = s.get LOCK_OWNER 0 n.val ∧
      t.get LOCK_ORPHANS 0 n.val = min (s.get LOCK_ORPHANS 0 n.val + 1) (2 ^ LOCK_ORPHANS.wid - 1) ∧
      bitAt (t.get HDR_INT_RAW 0x005) n.val = true ∧
      t.get EVT_CODE 0 (s.get EVT_TOTAL % 256) = 0x0510 ∧
      t.get EVT_DATA 0 (s.get EVT_TOTAL % 256) = n.val + 6 * 2 ^ 4 + s.get LOCK_OWNER 0 n.val * 2 ^ 8 ∧
      t.semHold = s.semHold.set n.val 0 ∧
      (n.val = 0 → s.fillOpen = true → t.fillOpen = false ∧ t.get MILL_RESULT = 3 ∧ t.get (completeRow s.inactive) = 0) ∧
      (n.val = 1 → t.anyStaged 0x051 = false ∧ t.get HDR_GO 0x051 = 0 ∧ bitAt (t.get HDR_INT_RAW 0x051) 1 = true) ∧
      (n.val = 2 → t.get GRAN_SEQ_OPEN = 0) ∧
      (n.val = 3 → (∀ k ∈ List.range 4, t.anyStaged (0x060 + k) = false ∧ t.get HDR_GO (0x060 + k) = 0)) ∧
      (s.SameBut t ([0x005, 0x006, 0x074] ++ (if n.val = 0 then [0x050] else if n.val = 1 then [0x051] else if n.val = 2 then
        [0x080] else [0x060, 0x061, 0x062, 0x063])) []) ∧
      s.SameMemory t) ∧
  (∀ (n : Fin 8) (s : State),
    s.get LOCK_STATE 0 n.val = 1 →
    s.semHold.getD n.val 0 = 1 →
    s.coreOn = false →
    exec (.semHoldExpire n) s = .next ({ s with semHold := s.semHold.set n.val 2 })) ∧
  (∀ (n : Fin 8) (s : State),
    (s.get LOCK_STATE 0 n.val ≠ 1 ∨ s.semHold.getD n.val 0 ≠ 1) →
    exec (.semHoldExpire n) s = .next (s)) ∧
  (∀ (n : Fin 8) (s : State),
    s.get LOCK_STATE 0 n.val = 2 →
    ∃ t, exec (.semRecoveryEnd n) s = .next t ∧
      t.get LOCK_STATE 0 n.val = 0 ∧
      t.get LOCK_OWNER 0 n.val = 0 ∧
      t.get LOCK_OWNER_EPOCH 0 n.val = 0 ∧
      t.semHold = s.semHold.set n.val 0 ∧
      s.SameBut t [] [LOCK_STATE.key 0 n.val, LOCK_OWNER.key 0 n.val, LOCK_OWNER_EPOCH.key 0 n.val] ∧
      s.SameMemory t) ∧
  (∀ (n : Fin 8) (s : State),
    s.get LOCK_STATE 0 n.val ≠ 2 →
    exec (.semRecoveryEnd n) s = .next (s))

/-- A write to ACK of a number that is not beyond TOTAL nor 256 before it stores ACK, so that UNREAD falls; any other is refused
with RANGE_REJECT. Entries that crossings dropped are counted and logged, in the Yard buffer while PD_CORE is off. PEAK_CLR
brings the peak of its Sluice to the level it has. The Yard takes the oldest posted write, which is then carried out as a write
of its master with its code kept; where none is posted, or the device is in reset, in SAFE or without PD_CORE, nothing is taken.
A write whose acknowledgement never came is recorded as CHECK_FAIL on its page, raised and logged, sets FAULT of SLUICE, is no
longer posted, and leaves its stored field undefined; for an address of no page, or a master without a source, nothing happens.
-/
def Obligations.LogAndCrossings : Prop :=
  (∀ (m : Master) (data : Word) (s : State),
    s.accepts m.num 0x006 0x044 data.toNat = true →
    ∃ t, exec (.evtAck m data) s = .next t ∧
      t.get EVT_ACK = data.toNat ∧
      (s.get EVT_TOTAL + 2 ^ 32 - data.toNat) % 2 ^ 32 ≤ 256 ∧
      t.liveField m.num 0x006 EVT_UNREAD 0 = (s.get EVT_TOTAL + 2 ^ 32 - data.toNat) % 2 ^ 32 ∧
      s.SameBut t [] ([EVT_ACK.key 0 0] ++ lastKeys) ∧
      s.SameMemory t) ∧
  (∀ (m : Master) (data : Word) (s : State),
    s.serves = true →
    s.sources m.num = true →
    s.priv m.num = true →
    s.get HDR_OWNER 0x006 = 0xFF →
    s.get (lockRow 0x006) 0x006 = 0 →
    s.pd 0 = 2 →
    256 < (s.get EVT_TOTAL + 2 ^ 32 - data.toNat) % 2 ^ 32 →
    ∃ t, exec (.evtAck m data) s = .next t ∧
      (s.busWrite m.num (regAddr 0x006 0x044) data.toNat).2 = cRANGE ∧
      t.get EVT_ACK = s.get EVT_ACK ∧
      t.get HDR_ERR_CODE 0x006 = cRANGE ∧
      t.get HDR_ERR_MASTER 0x006 = m.num ∧
      s.SameBut t [0x000, 0x006, 0x074] noteKeys ∧
      s.SameMemory t) ∧
  (∀ (dropped : Nat) (s : State),
    dropped ≠ 0 →
    s.coreOn = true →
    ∃ t, exec (.evtXingLost dropped) s = .next t ∧
      t.get EVT_XING_LOST = min (s.get EVT_XING_LOST + dropped) (2 ^ EVT_XING_LOST.wid - 1) ∧
      t.lastEvent 0x0611 (min dropped 0xFFFF) = true ∧
      s.SameBut t [0x006, 0x074] [] ∧
      s.SameMemory t) ∧
  (∀ (dropped : Nat) (s : State),
    dropped ≠ 0 →
    s.coreOn = false →
    ∃ t, exec (.evtXingLost dropped) s = .next t ∧
      t.get EVT_XING_LOST = min (s.get EVT_XING_LOST + dropped) (2 ^ EVT_XING_LOST.wid - 1) ∧
      t.log.yardBuf = (s.log.yardBuf ++ [Event.mk (s.get YARD_SECONDS) 0x0611 (min dropped 0xFFFF)]).take (max 8
        s.log.yardBuf.length) ∧
      s.SameBut t [] [EVT_XING_LOST.key 0 0] ∧
      s.SameMemory t) ∧
  (∀ (s : State),
    exec (.evtXingLost 0) s = .next (s)) ∧
  (∀ (m : Master) (x : Fin 13) (s : State),
    s.accepts m.num 0x00C (0x048 + 16 * x.val) 0x100 = true →
    ∃ t, exec (.sluicePeakClr m x) s = .next t ∧
      t.get SLUICE_PEAK 0 x.val = 0 ∧
      t.liveField m.num 0x00C SLUICE_PEAK x.val = t.sluiceLevel x.val ∧
      s.SameBut t [] ([SLUICE_PEAK.key 0 x.val, SLUICE_FLUSHED.key 0 x.val] ++ lastKeys) ∧
      s.SameMemory t) ∧
  (∀ (m : Master) (data : Nat) (l : List (Nat × Nat × Nat)) (s : State),
    s.boot.inReset = false →
    s.safe = false →
    s.coreOn = true →
    s.host.posted = (m.num, regAddr 0x001 0x068, data) :: l →
    { s with host := { s.host with posted := l } }.accepts m.num 0x001 0x068 data = true →
    l = [] →
    ∃ t, exec (.yardPostedWrite) s = .next t ∧
      t.host.posted = [] ∧
      t.get YARD_BUDGET 0 0 = wordField YARD_BUDGET data ∧
      t.get YARD_BUDGET_EN 0 0 = wordField YARD_BUDGET_EN data ∧
      (m = .m1 → t.get SPI_LAST_CODE = cOK) ∧
      (m = .m2 → t.get I2C_LAST_CODE = cOK) ∧
      s.SameMemory t) ∧
  (∀ (m : Nat) (addr : Nat) (data : Nat) (l : List (Nat × Nat × Nat)) (k : Nat) (s : State),
    s.boot.inReset = false →
    s.safe = false →
    s.coreOn = true →
    s.host.posted = (m, addr, data) :: l →
    ({ s with host := { s.host with posted := l } }.writeWord m addr data).2 = k →
    exec (.yardPostedWrite) s = .next (({ s with host := { s.host with posted := l } }.writeWord m addr data).1.noteCode m k)) ∧
  (∀ (s : State),
    (s.host.posted = [] ∨ s.boot.inReset = true ∨ s.safe = true ∨ s.coreOn = false) →
    exec (.yardPostedWrite) s = .next (s)) ∧
  (∀ (m : Master) (addr : Word) (p off : Nat) (s : State),
    s.sources m.num = true →
    target addr.toNat = .page p off →
    s.coreOn = true →
    p < 65536 →
    ∃ t, exec (.xingHsTimeout m addr) s = .next t ∧
      t.get HDR_ERR_CODE p = cCHECK ∧
      t.get HDR_ERR_MASTER p = m.num ∧
      t.get HDR_ERR_WR p = 1 ∧
      t.get HDR_ERR_OFFSET p = off % 2 ^ HDR_ERR_OFFSET.wid ∧
      bitAt (t.get HDR_INT_RAW 0x00C) 2 = true ∧
      t.lastEvent 0x0C13 p = true ∧
      t.blockFault 0x00C = true ∧
      (t.host.posted = s.host.posted.filter (fun e => !(e.1 == m.num && e.2.1 == addr.toNat))) ∧
      (s.SameBut t [0x006, 0x074] ([HDR_ERR_CODE, HDR_ERR_MASTER, HDR_ERR_WR, HDR_ERR_OFFSET].map (fun r => r.key p 0) ++
        [HDR_INT_RAW.key 0x00C 0] ++ ((wordRows p off).map fun e => e.1.key (e.1.nth p) e.2))) ∧
      s.SameMemory t) ∧
  (∀ (m : Master) (addr : Word) (p off : Nat) (r : Row) (k : Nat) (s : State),
    s.sources m.num = true →
    target addr.toNat = .page p off →
    s.coreOn = true →
    p < 65536 →
    wordRows p off = [(r, k)] →
    (r.acc = .rw ∨ r.acc = .rww ∨ r.acc = .rw1) →
    p ≠ 0x006 →
    0x040 ≤ off →
    ∃ t, exec (.xingHsTimeout m addr) s = .next t ∧
      t.get r (r.nth p) k = (Config.freeWord s.freeCtr).toNat % 2 ^ r.wid ∧
      s.SameMemory t) ∧
  (∀ (m : Master) (addr : Word) (b a : Nat) (s : State),
    (s.sources m.num = false ∨ target addr.toNat = .nowhere ∨ target addr.toNat = .slot a ∨ target addr.toNat = .sram a ∨ target
      addr.toNat = .loft b a ∨ target addr.toNat = .gran a) →
    exec (.xingHsTimeout m addr) s = .next (s))

/-- An accepted write of a GPIO word stores its function, pull, drain, inversion, argument and drive, and claims a free pin for
its master, keeps its claim or releases it; one of a pin that another master claims is refused with PIN_CONFLICT, counted,
raised and logged, and so is a write of GPIO_OUT that changes a bit of such a pin. An accepted one stores its bits, and a driven
output pin carries its bit. EXTEST comes into force in SERVICE for a privileged test port and otherwise is refused as BYPASS and
logged; SAMPLE, IDCODE and BYPASS come into force; REGACC makes its read or write as M4 and keeps the value and the code; HALT
halts M0, the core clocks and the watchdog where it may, or is refused and logged, and a shift of 0 ends it; Test-Logic-Reset
selects IDCODE, ends EXTEST and HALT and orphans what M4 holds. Without VDDIO, in L3 and in DORMANT the port does nothing. -/
def Obligations.PinsAndTestPort : Prop :=
  (∀ (m : Master) (k : Fin 24) (data : Word) (s : State),
    s.accepts m.num 0x007 (0x040 + 4 * k.val) data.toNat = true →
    ∃ t, exec (.gpioConfigWrite m k data) s = .next t ∧
      t.get PIN_FUNC 0 k.val = wordField PIN_FUNC data.toNat ∧
      t.get PIN_PULL 0 k.val = wordField PIN_PULL data.toNat ∧
      t.get PIN_OD 0 k.val = wordField PIN_OD data.toNat ∧
      t.get PIN_INV 0 k.val = wordField PIN_INV data.toNat ∧
      t.get PIN_ARG 0 k.val = wordField PIN_ARG data.toNat ∧
      t.get PIN_DRIVE 0 k.val = wordField PIN_DRIVE data.toNat ∧
      (t.get PIN_PAD_OWNER 0 k.val = (if s.get PIN_PAD_OWNER 0 k.val = 6 then 6 else if wordField PIN_FUNC data.toNat = 0xF then 7
        else if s.get PIN_FUNC 0 k.val = 0xF then m.num else s.get PIN_PAD_OWNER 0 k.val)) ∧
      s.SameBut t [] ([PIN_FUNC.key 0 k.val, PIN_PULL.key 0 k.val, PIN_OD.key 0 k.val, PIN_INV.key 0 k.val, PIN_ARG.key 0 k.val,
        PIN_DRIVE.key 0 k.val, PIN_PAD_OWNER.key 0 k.val] ++ lastKeys) ∧
      s.SameMemory t) ∧
  (∀ (m : Master) (k : Fin 24) (data : Word) (s : State),
    s.serves = true →
    s.sources m.num = true →
    s.coreOn = true →
    s.writeCheck m.num 0x007 (0x040 + 4 * k.val) data.toNat = some (⟨cPIN, 0, false⟩, true) →
    ∃ t, exec (.gpioConfigWrite m k data) s = .next t ∧
      t.get PIN_CONFLICTS = min (s.get PIN_CONFLICTS + 1) (2 ^ PIN_CONFLICTS.wid - 1) ∧
      bitAt (t.get HDR_INT_RAW 0x007) 2 = true ∧
      t.get HDR_ERR_CODE 0x007 = cPIN ∧
      t.get HDR_ERR_MASTER 0x007 = m.num ∧
      t.lastEvent 0x0710 (k.val + m.num * 2 ^ 8) = true ∧
      s.SameBut t [0x000, 0x006, 0x074] ([PIN_CONFLICTS.key 0 0, HDR_INT_RAW.key 0x007 0, HDR_ERR_CODE.key 0x007 0,
        HDR_ERR_MASTER.key 0x007 0, HDR_ERR_WR.key 0x007 0, HDR_ERR_OFFSET.key 0x007 0] ++ noteKeys) ∧
      s.SameMemory t) ∧
  (∀ (m : Master) (data : Word) (s : State),
    s.accepts m.num 0x007 0x0A4 data.toNat = true →
    ∃ t, exec (.gpioOutWrite m data) s = .next t ∧
      t.get PIN_GPIO_OUT = wordField PIN_GPIO_OUT data.toNat ∧
      (∀ k, k < 24 → s.pinsLive = true → s.inL4 = false → s.boot.vddio = true → s.yard.pstate ≠ 3 → s.get PIN_PAD_OWNER 0 k ≠ 6 →
        s.get PIN_FUNC 0 k = 1 → s.get PIN_INV 0 k = 0 → s.get PIN_OD 0 k = 0 → t.padGpio k 0 = padLevel (bitAt data.toNat k)) ∧
      s.SameBut t [] ([PIN_GPIO_OUT.key 0 0] ++ lastKeys) ∧
      s.SameMemory t) ∧
  (∀ (m : Master) (data : Word) (s : State),
    s.serves = true →
    s.sources m.num = true →
    s.coreOn = true →
    s.writeCheck m.num 0x007 0x0A4 data.toNat = some (⟨cPIN, 0, false⟩, true) →
    ∃ t, exec (.gpioOutWrite m data) s = .next t ∧
      t.get PIN_CONFLICTS = min (s.get PIN_CONFLICTS + 1) (2 ^ PIN_CONFLICTS.wid - 1) ∧
      bitAt (t.get HDR_INT_RAW 0x007) 2 = true ∧
      t.get HDR_ERR_CODE 0x007 = cPIN ∧
      t.get HDR_ERR_MASTER 0x007 = m.num ∧
      t.lastEvent 0x0710 (s.outBlockPin m.num data.toNat + m.num * 2 ^ 8) = true ∧
      s.SameBut t [0x000, 0x006, 0x074] ([PIN_CONFLICTS.key 0 0, HDR_INT_RAW.key 0x007 0, HDR_ERR_CODE.key 0x007 0,
        HDR_ERR_MASTER.key 0x007 0, HDR_ERR_WR.key 0x007 0, HDR_ERR_OFFSET.key 0x007 0] ++ noteKeys) ∧
      s.SameMemory t) ∧
  (∀ (s : State),
    s.tapOn = true →
    s.tapMay = true →
    exec (.tapExtest) s = .next ((s.put PIN_TAP_IR 0).put PIN_TAP_EXTEST 1)) ∧
  (∀ (s : State),
    s.tapOn = true →
    s.tapMay = false →
    exec (.tapExtest) s = .next (((s.put PIN_TAP_IR 15).put PIN_TAP_EXTEST 0).event 0x0714 0)) ∧
  (∀ (i : Instr) (code : Nat) (s : State),
    s.tapOn = true →
    (i, code) ∈ [(Instr.tapSamplePreload, 1), (.tapIdcode, 2), (.tapBypass, 15)] →
    exec (i) s = .next (((s.put PIN_TAP_IR code).put PIN_TAP_EXTEST 0))) ∧
  (∀ (addr data : Word) (s : State),
    s.tapOn = true →
    (s.reachable = true ∨ s.safe = true) →
    ∃ t, exec (.tapRegacc false addr data) s = .next t ∧
      t.host.tapDone = true ∧
      t.host.tapCode = (((s.put PIN_TAP_IR 8).put PIN_TAP_EXTEST 0).busRead 4 addr.toNat).2.2 ∧
      t.host.tapData = (((s.put PIN_TAP_IR 8).put PIN_TAP_EXTEST 0).busRead 4 addr.toNat).2.1 ∧
      t.get PIN_TAP_IR = 8 ∧
      s.SameMemory t) ∧
  (∀ (addr data : Word) (s : State),
    s.tapOn = true →
    (s.reachable = true ∨ s.safe = true) →
    exec (.tapRegacc true addr data) s = .next ((((s.put PIN_TAP_IR 8).put PIN_TAP_EXTEST 0).postWrite 4 addr.toNat
      data.toNat).1.onHost fun h =>
      { h with tapDone := true, tapCode := (((s.put PIN_TAP_IR 8).put PIN_TAP_EXTEST 0).postWrite 4 addr.toNat data.toNat).2, tapData := 0 }))
      ∧
  (∀ (addr data : Word) (s : State),
    s.tapOn = true →
    ((s.put PIN_TAP_IR 8).put PIN_TAP_EXTEST 0).accepts 4 0x002 0x048 data.toNat = true →
    addr.toNat = regAddr 0x002 0x048 →
    ∃ t, exec (.tapRegacc true addr data) s = .next t ∧
      t.get CLK_KEEP = wordField CLK_KEEP data.toNat ∧
      t.host.tapDone = true ∧
      t.host.tapCode = cOK ∧
      t.host.tapData = 0 ∧
      t.get PIN_TAP_IR = 8 ∧
      s.SameMemory t) ∧
  (∀ (w : Bool) (addr data : Word) (s : State),
    s.tapOn = true →
    s.reachable = false →
    s.safe = false →
    exec (.tapRegacc w addr data) s = .next (((s.put PIN_TAP_IR 8).put PIN_TAP_EXTEST 0))) ∧
  (∀ (s : State),
    s.tapOn = true →
    s.tapMay = true →
    ∃ t, exec (.tapHalt true) s = .next t ∧
      t.on PIN_TAP_HALT = true ∧
      t.wdt = { s.wdt with dbgHalt := true } ∧
      t.get PIN_TAP_IR = 9 ∧
      t.get PIN_TAP_EXTEST = 0 ∧
      s.SameBut t [] [PIN_TAP_IR.key 0 0, PIN_TAP_EXTEST.key 0 0, PIN_TAP_HALT.key 0 0] ∧
      s.SameMemory t) ∧
  (∀ (s : State),
    s.tapOn = true →
    s.tapMay = false →
    exec (.tapHalt true) s = .next (((s.put PIN_TAP_IR 9).put PIN_TAP_EXTEST 0).event 0x0714 9)) ∧
  (∀ (s : State),
    s.tapOn = true →
    s.on PIN_TAP_HALT = true →
    ∃ t, exec (.tapHalt false) s = .next t ∧
      t.on PIN_TAP_HALT = false ∧
      t.wdt.dbgHalt = false ∧
      t.get PIN_TAP_IR = 9 ∧
      s.SameMemory t) ∧
  (∀ (s : State),
    s.tapOn = true →
    s.on PIN_TAP_HALT = false →
    exec (.tapHalt false) s = .next (((s.put PIN_TAP_IR 9).put PIN_TAP_EXTEST 0))) ∧
  (∀ (s : State),
    s.tapOn = true →
    ∃ t, exec (.tapReset) s = .next t ∧
      t.get PIN_TAP_IR = 2 ∧
      t.get PIN_TAP_EXTEST = 0 ∧
      t.on PIN_TAP_HALT = false ∧
      (∀ n, n < 8 → t.holds 4 n = false) ∧
      s.SameMemory t) ∧
  (∀ (s : State),
    s.tapOn = true →
    s.on PIN_TAP_HALT = false →
    ∃ t, exec (.tapReset) s = .next t ∧
      (∀ n, n < 8 → s.holds 4 n = true → t.get LOCK_STATE 0 n = 2 ∧ t.get LOCK_ORPHANS 0 n = min (s.get LOCK_ORPHANS 0 n + 1) (2 ^
        LOCK_ORPHANS.wid - 1)) ∧
      (t.epoch 4 = (if (List.range 8).any (s.holds 4) then (s.advanceEpoch 4).epoch 4 else s.epoch 4)) ∧
      s.SameBut t [0x005, 0x006, 0x074, 0x050, 0x051, 0x080, 0x060, 0x061, 0x062, 0x063, 0x000] [PIN_TAP_IR.key 0 0,
        PIN_TAP_EXTEST.key 0 0, PIN_TAP_HALT.key 0 0] ∧
      s.SameMemory t) ∧
  (∀ (i : Instr) (w : Bool) (addr data : Word) (s : State),
    s.tapOn = false →
    i ∈ [Instr.tapExtest, .tapSamplePreload, .tapIdcode, .tapBypass, .tapRegacc w addr data, .tapHalt w, .tapReset] →
    exec (i) s = .next (s))
end

