-- ==== Sys2Proof/Laws/Store.lean ====
section
/-! SUPPORT. Reading after writing, and the canonical form, for register stores and byte memories. -/

namespace Sys2Proof.Machine

/-! ### Stores -/

theorem Store.find_insert_same (l : Store) (k v d : Nat) : (Store.insert l k v).find k d = v := by
  induction l with
  | nil => simp [Store.insert, Store.find]
  | cons e l ih =>
    obtain ⟨k', v'⟩ := e
    simp only [Store.insert]
    split_ifs with h1 h2
    · simp [Store.find]
    · simp [Store.find]
    · simp [Store.find, h2, ih]

theorem Store.find_insert_ne (l : Store) {k k' : Nat} (h : k' ≠ k) (v d : Nat) :
    (Store.insert l k v).find k' d = l.find k' d := by
  induction l with
  | nil => simp [Store.insert, Store.find, h]
  | cons e l ih =>
    obtain ⟨a, b⟩ := e
    simp only [Store.insert]
    split_ifs with h1 h2
    · simp [Store.find, h]
    · subst h2; simp [Store.find, h]
    · simp [Store.find, ih]

theorem Store.find_erase_same (l : Store) (k d : Nat) : (Store.erase l k).find k d = d := by
  induction l with
  | nil => simp [Store.erase, Store.find]
  | cons e l ih =>
    obtain ⟨a, b⟩ := e
    simp only [Store.erase]
    split_ifs with h1
    · exact ih
    · simp [Store.find, h1, ih]

theorem Store.find_erase_ne (l : Store) {k k' : Nat} (h : k' ≠ k) (d : Nat) :
    (Store.erase l k).find k' d = l.find k' d := by
  induction l with
  | nil => simp [Store.erase, Store.find]
  | cons e l ih =>
    obtain ⟨a, b⟩ := e
    simp only [Store.erase]
    split_ifs with h1
    · subst h1; simp [Store.find, h, ih]
    · simp [Store.find, ih]

/-- A read of the key that was set gives the value. -/
@[simp] theorem Store.find_set_same (l : Store) (k v d : Nat) : (Store.set l k v d).find k d = v := by
  unfold Store.set
  split_ifs with h
  · rw [Store.find_erase_same, h]
  · exact Store.find_insert_same l k v d

/-- A read of any other key is as before. -/
theorem Store.find_set_ne (l : Store) {k k' : Nat} (h : k' ≠ k) (v d d' : Nat) :
    (Store.set l k v d).find k' d' = l.find k' d' := by
  unfold Store.set
  split_ifs
  · exact Store.find_erase_ne l h d'
  · exact Store.find_insert_ne l h v d'

theorem Store.sorted_iff (l : Store) : l.sorted = true ↔ l.Pairwise fun a b => a.1 < b.1 := by
  induction l with
  | nil => simp [Store.sorted]
  | cons e l ih =>
    obtain ⟨a, b⟩ := e
    cases l with
    | nil => simp [Store.sorted]
    | cons f l =>
      obtain ⟨a', b'⟩ := f
      simp only [Store.sorted, Bool.and_eq_true, decide_eq_true_eq, ih]
      constructor
      · rintro ⟨h1, h2⟩
        refine List.pairwise_cons.2 ⟨?_, h2⟩
        intro x hx
        rcases List.mem_cons.1 hx with rfl | hx
        · exact h1
        · exact lt_trans h1 ((List.pairwise_cons.1 h2).1 x hx)
      · intro h
        obtain ⟨h1, h2⟩ := List.pairwise_cons.1 h
        exact ⟨h1 _ (List.mem_cons_self ..), h2⟩

theorem Store.mem_insert (l : Store) (k v : Nat) {x : Nat × Nat} (h : x ∈ Store.insert l k v) : x.1 = k ∨ x ∈ l := by
  induction l with
  | nil => simp [Store.insert] at h; exact .inl (by rw [h])
  | cons e l ih =>
    obtain ⟨a, b⟩ := e
    simp only [Store.insert] at h
    split_ifs at h with h1 h2
    · rcases List.mem_cons.1 h with rfl | h
      · exact .inl rfl
      · exact .inr h
    · rcases List.mem_cons.1 h with rfl | h
      · exact .inl rfl
      · exact .inr (List.mem_cons_of_mem _ h)
    · rcases List.mem_cons.1 h with rfl | h
      · exact .inr (List.mem_cons_self ..)
      · rcases ih h with h | h
        · exact .inl h
        · exact .inr (List.mem_cons_of_mem _ h)

theorem Store.erase_sublist (l : Store) (k : Nat) : (Store.erase l k).Sublist l := by
  induction l with
  | nil => exact List.Sublist.refl _
  | cons e l ih =>
    obtain ⟨a, b⟩ := e
    simp only [Store.erase]
    split_ifs
    · exact ih.cons _
    · exact ih.cons₂ _

theorem Store.sorted_insert {l : Store} (h : l.sorted = true) (k v : Nat) : (Store.insert l k v).sorted = true := by
  rw [Store.sorted_iff] at h ⊢
  induction l with
  | nil => simp [Store.insert]
  | cons e l ih =>
    obtain ⟨a, b⟩ := e
    obtain ⟨h1, h2⟩ := List.pairwise_cons.1 h
    simp only [Store.insert]
    split_ifs with c1 c2
    · refine List.pairwise_cons.2 ⟨?_, h⟩
      intro x hx
      rcases List.mem_cons.1 hx with rfl | hx
      · exact c1
      · exact lt_trans c1 (h1 x hx)
    · subst c2; exact List.pairwise_cons.2 ⟨h1, h2⟩
    · refine List.pairwise_cons.2 ⟨?_, ih h2⟩
      intro x hx
      rcases Store.mem_insert l k v hx with hx | hx
      · show a < x.1; omega
      · exact h1 x hx

theorem Store.sorted_sublist {l l' : Store} (hs : l'.Sublist l) (h : l.sorted = true) : l'.sorted = true := by
  rw [Store.sorted_iff] at h ⊢
  exact h.sublist hs

theorem Store.sorted_erase {l : Store} (h : l.sorted = true) (k : Nat) : (Store.erase l k).sorted = true :=
  Store.sorted_sublist (Store.erase_sublist l k) h

/-- Setting a key keeps the canonical form. -/
theorem Store.sorted_set {l : Store} (h : l.sorted = true) (k v d : Nat) : (Store.set l k v d).sorted = true := by
  unfold Store.set
  split_ifs
  · exact Store.sorted_erase h k
  · exact Store.sorted_insert h k v

theorem Store.sorted_filter {l : Store} (h : l.sorted = true) (p : Nat × Nat → Bool) :
    Store.sorted (l.filter p) = true :=
  Store.sorted_sublist List.filter_sublist h

/-! ### Memories -/

theorem Memory.read_insert_same (m : Memory) (a : Nat) (b d : Byte) : (Memory.insert m a b).read a d = b := by
  induction m with
  | nil => simp [Memory.insert, Memory.read]
  | cons e m ih =>
    obtain ⟨a', b'⟩ := e
    simp only [Memory.insert]
    split_ifs with h1 h2
    · simp [Memory.read]
    · simp [Memory.read]
    · simp [Memory.read, h2, ih]

theorem Memory.read_insert_ne (m : Memory) {a a' : Nat} (h : a' ≠ a) (b d : Byte) :
    (Memory.insert m a b).read a' d = m.read a' d := by
  induction m with
  | nil => simp [Memory.insert, Memory.read, h]
  | cons e m ih =>
    obtain ⟨x, y⟩ := e
    simp only [Memory.insert]
    split_ifs with h1 h2
    · simp [Memory.read, h]
    · subst h2; simp [Memory.read, h]
    · simp [Memory.read, ih]

theorem Memory.read_erase_same (m : Memory) (a : Nat) (d : Byte) : (Memory.erase m a).read a d = d := by
  induction m with
  | nil => simp [Memory.erase, Memory.read]
  | cons e m ih =>
    obtain ⟨x, y⟩ := e
    simp only [Memory.erase]
    split_ifs with h1
    · exact ih
    · simp [Memory.read, h1, ih]

theorem Memory.read_erase_ne (m : Memory) {a a' : Nat} (h : a' ≠ a) (d : Byte) :
    (Memory.erase m a).read a' d = m.read a' d := by
  induction m with
  | nil => simp [Memory.erase, Memory.read]
  | cons e m ih =>
    obtain ⟨x, y⟩ := e
    simp only [Memory.erase]
    split_ifs with h1
    · subst h1; simp [Memory.read, h, ih]
    · simp [Memory.read, ih]

/-- A read of the byte that was written gives it. -/
@[simp] theorem Memory.read_write_same (m : Memory) (a : Nat) (b d : Byte) : (Memory.write m a b d).read a d = b := by
  unfold Memory.write
  split_ifs with h
  · rw [Memory.read_erase_same, h]
  · exact Memory.read_insert_same m a b d

/-- A write leaves every other byte as it was. -/
theorem Memory.read_write_ne (m : Memory) {a a' : Nat} (h : a' ≠ a) (b d d' : Byte) :
    (Memory.write m a b d).read a' d' = m.read a' d' := by
  unfold Memory.write
  split_ifs
  · exact Memory.read_erase_ne m h d'
  · exact Memory.read_insert_ne m h b d'

theorem Memory.wf_iff (d : Byte) (m : Memory) :
    m.wf d = true ↔ (∀ x ∈ m, x.2 ≠ d) ∧ m.Pairwise fun a b => a.1 < b.1 := by
  induction m with
  | nil => simp [Memory.wf]
  | cons e m ih =>
    obtain ⟨a, b⟩ := e
    cases m with
    | nil => simp [Memory.wf]
    | cons f m =>
      obtain ⟨a', b'⟩ := f
      simp only [Memory.wf, Bool.and_eq_true, decide_eq_true_eq, bne_iff_ne, ih]
      constructor
      · rintro ⟨⟨h0, h1⟩, h2, h3⟩
        refine ⟨?_, List.pairwise_cons.2 ⟨?_, h3⟩⟩
        · intro x hx
          rcases List.mem_cons.1 hx with rfl | hx
          · exact h0
          · exact h2 x hx
        · intro x hx
          rcases List.mem_cons.1 hx with rfl | hx
          · exact h1
          · exact lt_trans h1 ((List.pairwise_cons.1 h3).1 x hx)
      · rintro ⟨h1, h2⟩
        obtain ⟨h3, h4⟩ := List.pairwise_cons.1 h2
        exact ⟨⟨h1 _ (List.mem_cons_self ..), h3 _ (List.mem_cons_self ..)⟩,
          fun x hx => h1 x (List.mem_cons_of_mem _ hx), h4⟩

theorem Memory.mem_insert (m : Memory) (a : Nat) (b : Byte) {x : Host.Cell} (h : x ∈ Memory.insert m a b) :
    x = (a, b) ∨ x ∈ m := by
  induction m with
  | nil => simp [Memory.insert] at h; exact .inl h
  | cons e m ih =>
    obtain ⟨a', b'⟩ := e
    simp only [Memory.insert] at h
    split_ifs at h with h1 h2
    · rcases List.mem_cons.1 h with h | h
      · exact .inl h
      · exact .inr h
    · rcases List.mem_cons.1 h with h | h
      · exact .inl h
      · exact .inr (List.mem_cons_of_mem _ h)
    · rcases List.mem_cons.1 h with rfl | h
      · exact .inr (List.mem_cons_self ..)
      · rcases ih h with h | h
        · exact .inl h
        · exact .inr (List.mem_cons_of_mem _ h)

theorem Memory.erase_sublist (m : Memory) (a : Nat) : (Memory.erase m a).Sublist m := by
  induction m with
  | nil => exact List.Sublist.refl _
  | cons e m ih =>
    obtain ⟨x, y⟩ := e
    simp only [Memory.erase]
    split_ifs
    · exact ih.cons _
    · exact ih.cons₂ _

theorem Memory.wf_sublist {d : Byte} {m m' : Memory} (hs : m'.Sublist m) (h : m.wf d = true) : m'.wf d = true := by
  rw [Memory.wf_iff] at h ⊢
  exact ⟨fun x hx => h.1 x (hs.subset hx), h.2.sublist hs⟩

theorem Memory.wf_insert {d : Byte} {m : Memory} (h : m.wf d = true) (a : Nat) {b : Byte} (hb : b ≠ d) :
    (Memory.insert m a b).wf d = true := by
  rw [Memory.wf_iff] at h ⊢
  obtain ⟨h1, h2⟩ := h
  refine ⟨?_, ?_⟩
  · intro x hx
    rcases Memory.mem_insert m a b hx with rfl | hx
    · exact hb
    · exact h1 x hx
  · clear h1
    induction m with
    | nil => simp [Memory.insert]
    | cons e m ih =>
      obtain ⟨x, y⟩ := e
      obtain ⟨h3, h4⟩ := List.pairwise_cons.1 h2
      simp only [Memory.insert]
      split_ifs with c1 c2
      · refine List.pairwise_cons.2 ⟨?_, h2⟩
        intro z hz
        rcases List.mem_cons.1 hz with rfl | hz
        · exact c1
        · exact lt_trans c1 (h3 z hz)
      · subst c2; exact List.pairwise_cons.2 ⟨h3, h4⟩
      · refine List.pairwise_cons.2 ⟨?_, ih h4⟩
        intro z hz
        rcases Memory.mem_insert m a b hz with rfl | hz
        · show x < a; omega
        · exact h3 z hz

/-- A write keeps the canonical form. -/
theorem Memory.wf_write {d : Byte} {m : Memory} (h : m.wf d = true) (a : Nat) (b : Byte) :
    (Memory.write m a b d).wf d = true := by
  unfold Memory.write
  split_ifs with hb
  · exact Memory.wf_sublist (Memory.erase_sublist m a) h
  · exact Memory.wf_insert h a hb

/-- Dropping cells keeps the canonical form. -/
theorem Memory.wf_filter {d : Byte} {m : Memory} (h : m.wf d = true) (p : Host.Cell → Bool) :
    Memory.wf d (m.filter p) = true :=
  Memory.wf_sublist List.filter_sublist h

end Sys2Proof.Machine
end

