-- ==== Sys2Proof/Laws/State.lean ====
section
/-! SUPPORT. What each named update of the state leaves and what it writes: one lemma for a field and an update, and reading a
register field after writing one. -/

namespace Sys2Proof.Machine

/-! ### Register fields -/

/-- A field reads as it was written, cut to its width. -/
@[simp] theorem State.get_put_same (s : State) (r : Row) (v n i : Nat) : (s.put r v n i).get r n i = v % 2 ^ r.wid :=
  Store.find_set_same ..

/-- A field with another key reads as before. -/
theorem State.get_put_ne (s : State) {r r' : Row} {n i n' i' : Nat} (h : r'.key n' i' ≠ r.key n i) (v : Nat) :
    (s.put r v n i).get r' n' i' = s.get r' n' i' :=
  Store.find_set_ne _ h ..

/-- What the register store alone decides. -/
theorem State.get_of_regs {s t : State} (h : t.regs = s.regs) (r : Row) (n i : Nat) : t.get r n i = s.get r n i := by
  unfold State.get; rw [h]

/-- A staged field reads as it was staged. -/
@[simp] theorem State.getStaged_stage (s : State) (r : Row) (v n i : Nat) :
    (s.stage r v n i).getStaged r n i = v % 2 ^ r.wid :=
  Store.find_insert_same ..

/-- Staging leaves what is in force (R54). -/
@[simp] theorem State.get_stage (s : State) (r r' : Row) (v n i n' i' : Nat) :
    (s.stage r v n i).get r' n' i' = s.get r' n' i' := rfl

/-- A write keeps the register store canonical. -/
theorem State.put_sorted {s : State} (h : s.regs.sorted = true) (r : Row) (v n i : Nat) : (s.put r v n i).regs.sorted = true :=
  Store.sorted_set h ..

/-! ### Updates, field by field -/

@[simp] theorem State.put_pending (s : State) (r : Row) (v n i : Nat) : (s.put r v n i).pending = s.pending := rfl
@[simp] theorem State.put_staged (s : State) (r : Row) (v n i : Nat) : (s.put r v n i).staged = s.staged := rfl
@[simp] theorem State.put_parity (s : State) (r : Row) (v n i : Nat) : (s.put r v n i).parity = s.parity := rfl
@[simp] theorem State.put_owed (s : State) (r : Row) (v n i : Nat) : (s.put r v n i).owed = s.owed := rfl
@[simp] theorem State.put_log (s : State) (r : Row) (v n i : Nat) : (s.put r v n i).log = s.log := rfl
@[simp] theorem State.put_wdt (s : State) (r : Row) (v n i : Nat) : (s.put r v n i).wdt = s.wdt := rfl
@[simp] theorem State.put_yard (s : State) (r : Row) (v n i : Nat) : (s.put r v n i).yard = s.yard := rfl
@[simp] theorem State.put_boot (s : State) (r : Row) (v n i : Nat) : (s.put r v n i).boot = s.boot := rfl
@[simp] theorem State.put_gran (s : State) (r : Row) (v n i : Nat) : (s.put r v n i).gran = s.gran := rfl
@[simp] theorem State.put_shadow (s : State) (r : Row) (v n i : Nat) : (s.put r v n i).shadow = s.shadow := rfl
@[simp] theorem State.put_host (s : State) (r : Row) (v n i : Nat) : (s.put r v n i).host = s.host := rfl
@[simp] theorem State.put_loft (s : State) (r : Row) (v n i : Nat) : (s.put r v n i).loft = s.loft := rfl
@[simp] theorem State.put_semHold (s : State) (r : Row) (v n i : Nat) : (s.put r v n i).semHold = s.semHold := rfl
@[simp] theorem State.put_temp (s : State) (r : Row) (v n i : Nat) : (s.put r v n i).temp = s.temp := rfl
@[simp] theorem State.put_sol (s : State) (r : Row) (v n i : Nat) : (s.put r v n i).sol = s.sol := rfl
@[simp] theorem State.put_solc (s : State) (r : Row) (v n i : Nat) : (s.put r v n i).solc = s.solc := rfl
@[simp] theorem State.put_fpa (s : State) (r : Row) (v n i : Nat) : (s.put r v n i).fpa = s.fpa := rfl
@[simp] theorem State.put_cal (s : State) (r : Row) (v n i : Nat) : (s.put r v n i).cal = s.cal := rfl
@[simp] theorem State.put_mill (s : State) (r : Row) (v n i : Nat) : (s.put r v n i).mill = s.mill := rfl
@[simp] theorem State.put_nuc (s : State) (r : Row) (v n i : Nat) : (s.put r v n i).nuc = s.nuc := rfl
@[simp] theorem State.put_sen (s : State) (r : Row) (v n i : Nat) : (s.put r v n i).sen = s.sen := rfl
@[simp] theorem State.put_link (s : State) (r : Row) (v n i : Nat) : (s.put r v n i).link = s.link := rfl
@[simp] theorem State.put_linkc (s : State) (r : Row) (v n i : Nat) : (s.put r v n i).linkc = s.linkc := rfl
@[simp] theorem State.put_vid (s : State) (r : Row) (v n i : Nat) : (s.put r v n i).vid = s.vid := rfl
@[simp] theorem State.put_vout (s : State) (r : Row) (v n i : Nat) : (s.put r v n i).vout = s.vout := rfl
@[simp] theorem State.put_slu (s : State) (r : Row) (v n i : Nat) : (s.put r v n i).slu = s.slu := rfl
@[simp] theorem State.put_hsFault (s : State) (r : Row) (v n i : Nat) : (s.put r v n i).hsFault = s.hsFault := rfl
@[simp] theorem State.put_freeCtr (s : State) (r : Row) (v n i : Nat) : (s.put r v n i).freeCtr = s.freeCtr := rfl

@[simp] theorem State.stage_pending (s : State) (r : Row) (v n i : Nat) : (s.stage r v n i).pending = s.pending := rfl
@[simp] theorem State.stage_regs (s : State) (r : Row) (v n i : Nat) : (s.stage r v n i).regs = s.regs := rfl
@[simp] theorem State.stage_parity (s : State) (r : Row) (v n i : Nat) : (s.stage r v n i).parity = s.parity := rfl
@[simp] theorem State.stage_owed (s : State) (r : Row) (v n i : Nat) : (s.stage r v n i).owed = s.owed := rfl
@[simp] theorem State.stage_log (s : State) (r : Row) (v n i : Nat) : (s.stage r v n i).log = s.log := rfl
@[simp] theorem State.stage_wdt (s : State) (r : Row) (v n i : Nat) : (s.stage r v n i).wdt = s.wdt := rfl
@[simp] theorem State.stage_yard (s : State) (r : Row) (v n i : Nat) : (s.stage r v n i).yard = s.yard := rfl
@[simp] theorem State.stage_boot (s : State) (r : Row) (v n i : Nat) : (s.stage r v n i).boot = s.boot := rfl
@[simp] theorem State.stage_gran (s : State) (r : Row) (v n i : Nat) : (s.stage r v n i).gran = s.gran := rfl
@[simp] theorem State.stage_shadow (s : State) (r : Row) (v n i : Nat) : (s.stage r v n i).shadow = s.shadow := rfl
@[simp] theorem State.stage_host (s : State) (r : Row) (v n i : Nat) : (s.stage r v n i).host = s.host := rfl
@[simp] theorem State.stage_loft (s : State) (r : Row) (v n i : Nat) : (s.stage r v n i).loft = s.loft := rfl
@[simp] theorem State.stage_semHold (s : State) (r : Row) (v n i : Nat) : (s.stage r v n i).semHold = s.semHold := rfl
@[simp] theorem State.stage_temp (s : State) (r : Row) (v n i : Nat) : (s.stage r v n i).temp = s.temp := rfl
@[simp] theorem State.stage_sol (s : State) (r : Row) (v n i : Nat) : (s.stage r v n i).sol = s.sol := rfl
@[simp] theorem State.stage_solc (s : State) (r : Row) (v n i : Nat) : (s.stage r v n i).solc = s.solc := rfl
@[simp] theorem State.stage_fpa (s : State) (r : Row) (v n i : Nat) : (s.stage r v n i).fpa = s.fpa := rfl
@[simp] theorem State.stage_cal (s : State) (r : Row) (v n i : Nat) : (s.stage r v n i).cal = s.cal := rfl
@[simp] theorem State.stage_mill (s : State) (r : Row) (v n i : Nat) : (s.stage r v n i).mill = s.mill := rfl
@[simp] theorem State.stage_nuc (s : State) (r : Row) (v n i : Nat) : (s.stage r v n i).nuc = s.nuc := rfl
@[simp] theorem State.stage_sen (s : State) (r : Row) (v n i : Nat) : (s.stage r v n i).sen = s.sen := rfl
@[simp] theorem State.stage_link (s : State) (r : Row) (v n i : Nat) : (s.stage r v n i).link = s.link := rfl
@[simp] theorem State.stage_linkc (s : State) (r : Row) (v n i : Nat) : (s.stage r v n i).linkc = s.linkc := rfl
@[simp] theorem State.stage_vid (s : State) (r : Row) (v n i : Nat) : (s.stage r v n i).vid = s.vid := rfl
@[simp] theorem State.stage_vout (s : State) (r : Row) (v n i : Nat) : (s.stage r v n i).vout = s.vout := rfl
@[simp] theorem State.stage_slu (s : State) (r : Row) (v n i : Nat) : (s.stage r v n i).slu = s.slu := rfl
@[simp] theorem State.stage_hsFault (s : State) (r : Row) (v n i : Nat) : (s.stage r v n i).hsFault = s.hsFault := rfl
@[simp] theorem State.stage_freeCtr (s : State) (r : Row) (v n i : Nat) : (s.stage r v n i).freeCtr = s.freeCtr := rfl

@[simp] theorem State.setPort_pending (s : State) (n : Nat) (p : LinkS) : (s.setPort n p).pending = s.pending := rfl
@[simp] theorem State.setPort_regs (s : State) (n : Nat) (p : LinkS) : (s.setPort n p).regs = s.regs := rfl
@[simp] theorem State.setPort_staged (s : State) (n : Nat) (p : LinkS) : (s.setPort n p).staged = s.staged := rfl
@[simp] theorem State.setPort_parity (s : State) (n : Nat) (p : LinkS) : (s.setPort n p).parity = s.parity := rfl
@[simp] theorem State.setPort_owed (s : State) (n : Nat) (p : LinkS) : (s.setPort n p).owed = s.owed := rfl
@[simp] theorem State.setPort_log (s : State) (n : Nat) (p : LinkS) : (s.setPort n p).log = s.log := rfl
@[simp] theorem State.setPort_wdt (s : State) (n : Nat) (p : LinkS) : (s.setPort n p).wdt = s.wdt := rfl
@[simp] theorem State.setPort_yard (s : State) (n : Nat) (p : LinkS) : (s.setPort n p).yard = s.yard := rfl
@[simp] theorem State.setPort_boot (s : State) (n : Nat) (p : LinkS) : (s.setPort n p).boot = s.boot := rfl
@[simp] theorem State.setPort_gran (s : State) (n : Nat) (p : LinkS) : (s.setPort n p).gran = s.gran := rfl
@[simp] theorem State.setPort_shadow (s : State) (n : Nat) (p : LinkS) : (s.setPort n p).shadow = s.shadow := rfl
@[simp] theorem State.setPort_host (s : State) (n : Nat) (p : LinkS) : (s.setPort n p).host = s.host := rfl
@[simp] theorem State.setPort_loft (s : State) (n : Nat) (p : LinkS) : (s.setPort n p).loft = s.loft := rfl
@[simp] theorem State.setPort_semHold (s : State) (n : Nat) (p : LinkS) : (s.setPort n p).semHold = s.semHold := rfl
@[simp] theorem State.setPort_temp (s : State) (n : Nat) (p : LinkS) : (s.setPort n p).temp = s.temp := rfl
@[simp] theorem State.setPort_sol (s : State) (n : Nat) (p : LinkS) : (s.setPort n p).sol = s.sol := rfl
@[simp] theorem State.setPort_solc (s : State) (n : Nat) (p : LinkS) : (s.setPort n p).solc = s.solc := rfl
@[simp] theorem State.setPort_fpa (s : State) (n : Nat) (p : LinkS) : (s.setPort n p).fpa = s.fpa := rfl
@[simp] theorem State.setPort_cal (s : State) (n : Nat) (p : LinkS) : (s.setPort n p).cal = s.cal := rfl
@[simp] theorem State.setPort_mill (s : State) (n : Nat) (p : LinkS) : (s.setPort n p).mill = s.mill := rfl
@[simp] theorem State.setPort_nuc (s : State) (n : Nat) (p : LinkS) : (s.setPort n p).nuc = s.nuc := rfl
@[simp] theorem State.setPort_sen (s : State) (n : Nat) (p : LinkS) : (s.setPort n p).sen = s.sen := rfl
@[simp] theorem State.setPort_linkc (s : State) (n : Nat) (p : LinkS) : (s.setPort n p).linkc = s.linkc := rfl
@[simp] theorem State.setPort_vid (s : State) (n : Nat) (p : LinkS) : (s.setPort n p).vid = s.vid := rfl
@[simp] theorem State.setPort_vout (s : State) (n : Nat) (p : LinkS) : (s.setPort n p).vout = s.vout := rfl
@[simp] theorem State.setPort_slu (s : State) (n : Nat) (p : LinkS) : (s.setPort n p).slu = s.slu := rfl
@[simp] theorem State.setPort_hsFault (s : State) (n : Nat) (p : LinkS) : (s.setPort n p).hsFault = s.hsFault := rfl
@[simp] theorem State.setPort_freeCtr (s : State) (n : Nat) (p : LinkS) : (s.setPort n p).freeCtr = s.freeCtr := rfl

@[simp] theorem State.setStream_pending (s : State) (n : Nat) (w : VidS) : (s.setStream n w).pending = s.pending := rfl
@[simp] theorem State.setStream_regs (s : State) (n : Nat) (w : VidS) : (s.setStream n w).regs = s.regs := rfl
@[simp] theorem State.setStream_staged (s : State) (n : Nat) (w : VidS) : (s.setStream n w).staged = s.staged := rfl
@[simp] theorem State.setStream_parity (s : State) (n : Nat) (w : VidS) : (s.setStream n w).parity = s.parity := rfl
@[simp] theorem State.setStream_owed (s : State) (n : Nat) (w : VidS) : (s.setStream n w).owed = s.owed := rfl
@[simp] theorem State.setStream_log (s : State) (n : Nat) (w : VidS) : (s.setStream n w).log = s.log := rfl
@[simp] theorem State.setStream_wdt (s : State) (n : Nat) (w : VidS) : (s.setStream n w).wdt = s.wdt := rfl
@[simp] theorem State.setStream_yard (s : State) (n : Nat) (w : VidS) : (s.setStream n w).yard = s.yard := rfl
@[simp] theorem State.setStream_boot (s : State) (n : Nat) (w : VidS) : (s.setStream n w).boot = s.boot := rfl
@[simp] theorem State.setStream_gran (s : State) (n : Nat) (w : VidS) : (s.setStream n w).gran = s.gran := rfl
@[simp] theorem State.setStream_shadow (s : State) (n : Nat) (w : VidS) : (s.setStream n w).shadow = s.shadow := rfl
@[simp] theorem State.setStream_host (s : State) (n : Nat) (w : VidS) : (s.setStream n w).host = s.host := rfl
@[simp] theorem State.setStream_loft (s : State) (n : Nat) (w : VidS) : (s.setStream n w).loft = s.loft := rfl
@[simp] theorem State.setStream_semHold (s : State) (n : Nat) (w : VidS) : (s.setStream n w).semHold = s.semHold := rfl
@[simp] theorem State.setStream_temp (s : State) (n : Nat) (w : VidS) : (s.setStream n w).temp = s.temp := rfl
@[simp] theorem State.setStream_sol (s : State) (n : Nat) (w : VidS) : (s.setStream n w).sol = s.sol := rfl
@[simp] theorem State.setStream_solc (s : State) (n : Nat) (w : VidS) : (s.setStream n w).solc = s.solc := rfl
@[simp] theorem State.setStream_fpa (s : State) (n : Nat) (w : VidS) : (s.setStream n w).fpa = s.fpa := rfl
@[simp] theorem State.setStream_cal (s : State) (n : Nat) (w : VidS) : (s.setStream n w).cal = s.cal := rfl
@[simp] theorem State.setStream_mill (s : State) (n : Nat) (w : VidS) : (s.setStream n w).mill = s.mill := rfl
@[simp] theorem State.setStream_nuc (s : State) (n : Nat) (w : VidS) : (s.setStream n w).nuc = s.nuc := rfl
@[simp] theorem State.setStream_sen (s : State) (n : Nat) (w : VidS) : (s.setStream n w).sen = s.sen := rfl
@[simp] theorem State.setStream_link (s : State) (n : Nat) (w : VidS) : (s.setStream n w).link = s.link := rfl
@[simp] theorem State.setStream_linkc (s : State) (n : Nat) (w : VidS) : (s.setStream n w).linkc = s.linkc := rfl
@[simp] theorem State.setStream_vout (s : State) (n : Nat) (w : VidS) : (s.setStream n w).vout = s.vout := rfl
@[simp] theorem State.setStream_slu (s : State) (n : Nat) (w : VidS) : (s.setStream n w).slu = s.slu := rfl
@[simp] theorem State.setStream_hsFault (s : State) (n : Nat) (w : VidS) : (s.setStream n w).hsFault = s.hsFault := rfl
@[simp] theorem State.setStream_freeCtr (s : State) (n : Nat) (w : VidS) : (s.setStream n w).freeCtr = s.freeCtr := rfl

@[simp] theorem State.setChan_pending (s : State) (n : Nat) (x : SolS) : (s.setChan n x).pending = s.pending := rfl
@[simp] theorem State.setChan_regs (s : State) (n : Nat) (x : SolS) : (s.setChan n x).regs = s.regs := rfl
@[simp] theorem State.setChan_staged (s : State) (n : Nat) (x : SolS) : (s.setChan n x).staged = s.staged := rfl
@[simp] theorem State.setChan_parity (s : State) (n : Nat) (x : SolS) : (s.setChan n x).parity = s.parity := rfl
@[simp] theorem State.setChan_owed (s : State) (n : Nat) (x : SolS) : (s.setChan n x).owed = s.owed := rfl
@[simp] theorem State.setChan_log (s : State) (n : Nat) (x : SolS) : (s.setChan n x).log = s.log := rfl
@[simp] theorem State.setChan_wdt (s : State) (n : Nat) (x : SolS) : (s.setChan n x).wdt = s.wdt := rfl
@[simp] theorem State.setChan_yard (s : State) (n : Nat) (x : SolS) : (s.setChan n x).yard = s.yard := rfl
@[simp] theorem State.setChan_boot (s : State) (n : Nat) (x : SolS) : (s.setChan n x).boot = s.boot := rfl
@[simp] theorem State.setChan_gran (s : State) (n : Nat) (x : SolS) : (s.setChan n x).gran = s.gran := rfl
@[simp] theorem State.setChan_shadow (s : State) (n : Nat) (x : SolS) : (s.setChan n x).shadow = s.shadow := rfl
@[simp] theorem State.setChan_host (s : State) (n : Nat) (x : SolS) : (s.setChan n x).host = s.host := rfl
@[simp] theorem State.setChan_loft (s : State) (n : Nat) (x : SolS) : (s.setChan n x).loft = s.loft := rfl
@[simp] theorem State.setChan_semHold (s : State) (n : Nat) (x : SolS) : (s.setChan n x).semHold = s.semHold := rfl
@[simp] theorem State.setChan_temp (s : State) (n : Nat) (x : SolS) : (s.setChan n x).temp = s.temp := rfl
@[simp] theorem State.setChan_solc (s : State) (n : Nat) (x : SolS) : (s.setChan n x).solc = s.solc := rfl
@[simp] theorem State.setChan_fpa (s : State) (n : Nat) (x : SolS) : (s.setChan n x).fpa = s.fpa := rfl
@[simp] theorem State.setChan_cal (s : State) (n : Nat) (x : SolS) : (s.setChan n x).cal = s.cal := rfl
@[simp] theorem State.setChan_mill (s : State) (n : Nat) (x : SolS) : (s.setChan n x).mill = s.mill := rfl
@[simp] theorem State.setChan_nuc (s : State) (n : Nat) (x : SolS) : (s.setChan n x).nuc = s.nuc := rfl
@[simp] theorem State.setChan_sen (s : State) (n : Nat) (x : SolS) : (s.setChan n x).sen = s.sen := rfl
@[simp] theorem State.setChan_link (s : State) (n : Nat) (x : SolS) : (s.setChan n x).link = s.link := rfl
@[simp] theorem State.setChan_linkc (s : State) (n : Nat) (x : SolS) : (s.setChan n x).linkc = s.linkc := rfl
@[simp] theorem State.setChan_vid (s : State) (n : Nat) (x : SolS) : (s.setChan n x).vid = s.vid := rfl
@[simp] theorem State.setChan_vout (s : State) (n : Nat) (x : SolS) : (s.setChan n x).vout = s.vout := rfl
@[simp] theorem State.setChan_slu (s : State) (n : Nat) (x : SolS) : (s.setChan n x).slu = s.slu := rfl
@[simp] theorem State.setChan_hsFault (s : State) (n : Nat) (x : SolS) : (s.setChan n x).hsFault = s.hsFault := rfl
@[simp] theorem State.setChan_freeCtr (s : State) (n : Nat) (x : SolS) : (s.setChan n x).freeCtr = s.freeCtr := rfl

@[simp] theorem State.setQueue_pending (s : State) (q : Nat) (x : Queue) : (s.setQueue q x).pending = s.pending := rfl
@[simp] theorem State.setQueue_regs (s : State) (q : Nat) (x : Queue) : (s.setQueue q x).regs = s.regs := rfl
@[simp] theorem State.setQueue_staged (s : State) (q : Nat) (x : Queue) : (s.setQueue q x).staged = s.staged := rfl
@[simp] theorem State.setQueue_parity (s : State) (q : Nat) (x : Queue) : (s.setQueue q x).parity = s.parity := rfl
@[simp] theorem State.setQueue_owed (s : State) (q : Nat) (x : Queue) : (s.setQueue q x).owed = s.owed := rfl
@[simp] theorem State.setQueue_log (s : State) (q : Nat) (x : Queue) : (s.setQueue q x).log = s.log := rfl
@[simp] theorem State.setQueue_wdt (s : State) (q : Nat) (x : Queue) : (s.setQueue q x).wdt = s.wdt := rfl
@[simp] theorem State.setQueue_yard (s : State) (q : Nat) (x : Queue) : (s.setQueue q x).yard = s.yard := rfl
@[simp] theorem State.setQueue_boot (s : State) (q : Nat) (x : Queue) : (s.setQueue q x).boot = s.boot := rfl
@[simp] theorem State.setQueue_gran (s : State) (q : Nat) (x : Queue) : (s.setQueue q x).gran = s.gran := rfl
@[simp] theorem State.setQueue_shadow (s : State) (q : Nat) (x : Queue) : (s.setQueue q x).shadow = s.shadow := rfl
@[simp] theorem State.setQueue_loft (s : State) (q : Nat) (x : Queue) : (s.setQueue q x).loft = s.loft := rfl
@[simp] theorem State.setQueue_semHold (s : State) (q : Nat) (x : Queue) : (s.setQueue q x).semHold = s.semHold := rfl
@[simp] theorem State.setQueue_temp (s : State) (q : Nat) (x : Queue) : (s.setQueue q x).temp = s.temp := rfl
@[simp] theorem State.setQueue_sol (s : State) (q : Nat) (x : Queue) : (s.setQueue q x).sol = s.sol := rfl
@[simp] theorem State.setQueue_solc (s : State) (q : Nat) (x : Queue) : (s.setQueue q x).solc = s.solc := rfl
@[simp] theorem State.setQueue_fpa (s : State) (q : Nat) (x : Queue) : (s.setQueue q x).fpa = s.fpa := rfl
@[simp] theorem State.setQueue_cal (s : State) (q : Nat) (x : Queue) : (s.setQueue q x).cal = s.cal := rfl
@[simp] theorem State.setQueue_mill (s : State) (q : Nat) (x : Queue) : (s.setQueue q x).mill = s.mill := rfl
@[simp] theorem State.setQueue_nuc (s : State) (q : Nat) (x : Queue) : (s.setQueue q x).nuc = s.nuc := rfl
@[simp] theorem State.setQueue_sen (s : State) (q : Nat) (x : Queue) : (s.setQueue q x).sen = s.sen := rfl
@[simp] theorem State.setQueue_link (s : State) (q : Nat) (x : Queue) : (s.setQueue q x).link = s.link := rfl
@[simp] theorem State.setQueue_linkc (s : State) (q : Nat) (x : Queue) : (s.setQueue q x).linkc = s.linkc := rfl
@[simp] theorem State.setQueue_vid (s : State) (q : Nat) (x : Queue) : (s.setQueue q x).vid = s.vid := rfl
@[simp] theorem State.setQueue_vout (s : State) (q : Nat) (x : Queue) : (s.setQueue q x).vout = s.vout := rfl
@[simp] theorem State.setQueue_slu (s : State) (q : Nat) (x : Queue) : (s.setQueue q x).slu = s.slu := rfl
@[simp] theorem State.setQueue_hsFault (s : State) (q : Nat) (x : Queue) : (s.setQueue q x).hsFault = s.hsFault := rfl
@[simp] theorem State.setQueue_freeCtr (s : State) (q : Nat) (x : Queue) : (s.setQueue q x).freeCtr = s.freeCtr := rfl

@[simp] theorem State.onGran_pending (s : State) (f : GranS → GranS) : (s.onGran f).pending = s.pending := rfl
@[simp] theorem State.onGran_regs (s : State) (f : GranS → GranS) : (s.onGran f).regs = s.regs := rfl
@[simp] theorem State.onGran_staged (s : State) (f : GranS → GranS) : (s.onGran f).staged = s.staged := rfl
@[simp] theorem State.onGran_parity (s : State) (f : GranS → GranS) : (s.onGran f).parity = s.parity := rfl
@[simp] theorem State.onGran_owed (s : State) (f : GranS → GranS) : (s.onGran f).owed = s.owed := rfl
@[simp] theorem State.onGran_log (s : State) (f : GranS → GranS) : (s.onGran f).log = s.log := rfl
@[simp] theorem State.onGran_wdt (s : State) (f : GranS → GranS) : (s.onGran f).wdt = s.wdt := rfl
@[simp] theorem State.onGran_yard (s : State) (f : GranS → GranS) : (s.onGran f).yard = s.yard := rfl
@[simp] theorem State.onGran_boot (s : State) (f : GranS → GranS) : (s.onGran f).boot = s.boot := rfl
@[simp] theorem State.onGran_shadow (s : State) (f : GranS → GranS) : (s.onGran f).shadow = s.shadow := rfl
@[simp] theorem State.onGran_host (s : State) (f : GranS → GranS) : (s.onGran f).host = s.host := rfl
@[simp] theorem State.onGran_loft (s : State) (f : GranS → GranS) : (s.onGran f).loft = s.loft := rfl
@[simp] theorem State.onGran_semHold (s : State) (f : GranS → GranS) : (s.onGran f).semHold = s.semHold := rfl
@[simp] theorem State.onGran_temp (s : State) (f : GranS → GranS) : (s.onGran f).temp = s.temp := rfl
@[simp] theorem State.onGran_sol (s : State) (f : GranS → GranS) : (s.onGran f).sol = s.sol := rfl
@[simp] theorem State.onGran_solc (s : State) (f : GranS → GranS) : (s.onGran f).solc = s.solc := rfl
@[simp] theorem State.onGran_fpa (s : State) (f : GranS → GranS) : (s.onGran f).fpa = s.fpa := rfl
@[simp] theorem State.onGran_cal (s : State) (f : GranS → GranS) : (s.onGran f).cal = s.cal := rfl
@[simp] theorem State.onGran_mill (s : State) (f : GranS → GranS) : (s.onGran f).mill = s.mill := rfl
@[simp] theorem State.onGran_nuc (s : State) (f : GranS → GranS) : (s.onGran f).nuc = s.nuc := rfl
@[simp] theorem State.onGran_sen (s : State) (f : GranS → GranS) : (s.onGran f).sen = s.sen := rfl
@[simp] theorem State.onGran_link (s : State) (f : GranS → GranS) : (s.onGran f).link = s.link := rfl
@[simp] theorem State.onGran_linkc (s : State) (f : GranS → GranS) : (s.onGran f).linkc = s.linkc := rfl
@[simp] theorem State.onGran_vid (s : State) (f : GranS → GranS) : (s.onGran f).vid = s.vid := rfl
@[simp] theorem State.onGran_vout (s : State) (f : GranS → GranS) : (s.onGran f).vout = s.vout := rfl
@[simp] theorem State.onGran_slu (s : State) (f : GranS → GranS) : (s.onGran f).slu = s.slu := rfl
@[simp] theorem State.onGran_hsFault (s : State) (f : GranS → GranS) : (s.onGran f).hsFault = s.hsFault := rfl
@[simp] theorem State.onGran_freeCtr (s : State) (f : GranS → GranS) : (s.onGran f).freeCtr = s.freeCtr := rfl

@[simp] theorem State.onHost_pending (s : State) (f : HostS → HostS) : (s.onHost f).pending = s.pending := rfl
@[simp] theorem State.onHost_regs (s : State) (f : HostS → HostS) : (s.onHost f).regs = s.regs := rfl
@[simp] theorem State.onHost_staged (s : State) (f : HostS → HostS) : (s.onHost f).staged = s.staged := rfl
@[simp] theorem State.onHost_parity (s : State) (f : HostS → HostS) : (s.onHost f).parity = s.parity := rfl
@[simp] theorem State.onHost_owed (s : State) (f : HostS → HostS) : (s.onHost f).owed = s.owed := rfl
@[simp] theorem State.onHost_log (s : State) (f : HostS → HostS) : (s.onHost f).log = s.log := rfl
@[simp] theorem State.onHost_wdt (s : State) (f : HostS → HostS) : (s.onHost f).wdt = s.wdt := rfl
@[simp] theorem State.onHost_yard (s : State) (f : HostS → HostS) : (s.onHost f).yard = s.yard := rfl
@[simp] theorem State.onHost_boot (s : State) (f : HostS → HostS) : (s.onHost f).boot = s.boot := rfl
@[simp] theorem State.onHost_gran (s : State) (f : HostS → HostS) : (s.onHost f).gran = s.gran := rfl
@[simp] theorem State.onHost_shadow (s : State) (f : HostS → HostS) : (s.onHost f).shadow = s.shadow := rfl
@[simp] theorem State.onHost_loft (s : State) (f : HostS → HostS) : (s.onHost f).loft = s.loft := rfl
@[simp] theorem State.onHost_semHold (s : State) (f : HostS → HostS) : (s.onHost f).semHold = s.semHold := rfl
@[simp] theorem State.onHost_temp (s : State) (f : HostS → HostS) : (s.onHost f).temp = s.temp := rfl
@[simp] theorem State.onHost_sol (s : State) (f : HostS → HostS) : (s.onHost f).sol = s.sol := rfl
@[simp] theorem State.onHost_solc (s : State) (f : HostS → HostS) : (s.onHost f).solc = s.solc := rfl
@[simp] theorem State.onHost_fpa (s : State) (f : HostS → HostS) : (s.onHost f).fpa = s.fpa := rfl
@[simp] theorem State.onHost_cal (s : State) (f : HostS → HostS) : (s.onHost f).cal = s.cal := rfl
@[simp] theorem State.onHost_mill (s : State) (f : HostS → HostS) : (s.onHost f).mill = s.mill := rfl
@[simp] theorem State.onHost_nuc (s : State) (f : HostS → HostS) : (s.onHost f).nuc = s.nuc := rfl
@[simp] theorem State.onHost_sen (s : State) (f : HostS → HostS) : (s.onHost f).sen = s.sen := rfl
@[simp] theorem State.onHost_link (s : State) (f : HostS → HostS) : (s.onHost f).link = s.link := rfl
@[simp] theorem State.onHost_linkc (s : State) (f : HostS → HostS) : (s.onHost f).linkc = s.linkc := rfl
@[simp] theorem State.onHost_vid (s : State) (f : HostS → HostS) : (s.onHost f).vid = s.vid := rfl
@[simp] theorem State.onHost_vout (s : State) (f : HostS → HostS) : (s.onHost f).vout = s.vout := rfl
@[simp] theorem State.onHost_slu (s : State) (f : HostS → HostS) : (s.onHost f).slu = s.slu := rfl
@[simp] theorem State.onHost_hsFault (s : State) (f : HostS → HostS) : (s.onHost f).hsFault = s.hsFault := rfl
@[simp] theorem State.onHost_freeCtr (s : State) (f : HostS → HostS) : (s.onHost f).freeCtr = s.freeCtr := rfl

/-! ### What an update writes -/

@[simp] theorem State.port_setPort (s : State) (n : Nat) (p : LinkS) (h : n < s.link.length) : (s.setPort n p).port n = p := by
  simp [State.port, State.setPort, h]

theorem State.port_setPort_ne (s : State) {n n' : Nat} (h : n' ≠ n) (p : LinkS) : (s.setPort n p).port n' = s.port n' := by
  simp [State.port, State.setPort, List.getD, List.getElem?_set_ne (Ne.symm h)]

@[simp] theorem State.stream_setStream (s : State) (n : Nat) (w : VidS) (h : n < s.vid.length) :
    (s.setStream n w).stream n = w := by
  simp [State.stream, State.setStream, h]

theorem State.stream_setStream_ne (s : State) {n n' : Nat} (h : n' ≠ n) (w : VidS) :
    (s.setStream n w).stream n' = s.stream n' := by
  simp [State.stream, State.setStream, List.getD, List.getElem?_set_ne (Ne.symm h)]

@[simp] theorem State.chan_setChan (s : State) (n : Nat) (x : SolS) (h : n < s.sol.length) : (s.setChan n x).chan n = x := by
  simp [State.chan, State.setChan, h]

theorem State.chan_setChan_ne (s : State) {n n' : Nat} (h : n' ≠ n) (x : SolS) : (s.setChan n x).chan n' = s.chan n' := by
  simp [State.chan, State.setChan, List.getD, List.getElem?_set_ne (Ne.symm h)]

@[simp] theorem State.queue_setQueue (s : State) (q : Nat) (x : Queue) (h : q < s.host.queues.length) :
    (s.setQueue q x).queue q = x := by
  simp [State.queue, State.setQueue, h]

theorem State.queue_setQueue_ne (s : State) {q q' : Nat} (h : q' ≠ q) (x : Queue) : (s.setQueue q x).queue q' = s.queue q' := by
  simp [State.queue, State.setQueue, List.getD, List.getElem?_set_ne (Ne.symm h)]

@[simp] theorem State.onGran_gran (s : State) (f : GranS → GranS) : (s.onGran f).gran = f s.gran := rfl
@[simp] theorem State.onHost_host (s : State) (f : HostS → HostS) : (s.onHost f).host = f s.host := rfl

/-! ### Memories -/

/-- A write of the Granary's bytes keeps their canonical form. -/
theorem GranS.writeByte_wf {g : GranS} (h : g.mem.wf 0xFF = true) (a : Nat) (b : Byte) :
    (g.mem.write a b 0xFF).wf 0xFF = true := Memory.wf_write h a b

end Sys2Proof.Machine
end

