-- ==== Sys2Proof/Laws/Bus.lean ====
section
/-! SUPPORT. What a served write does: one lemma for the arbiter, the pages and the posted writes. -/

namespace Sys2Proof.Machine

theorem target_regAddr {p off : Nat} (hp : pageExists p = true) (h : off < 0x1000) : target (regAddr p off) = .page p off := by
  have hp' : p < 0x100 := by
    by_contra hc
    simp [pageExists] at hp
    omega
  have h1 : (0x40000000 + p * 0x1000 + off - 0x40000000) / 0x1000 = p := by omega
  have h2 : (0x40000000 + p * 0x1000 + off) % 0x1000 = off := by omega
  unfold target regAddr
  rw [if_pos (by omega)]
  simp only [h1, h2, hp, if_true]

/-- No write is posted: the Yard has nothing to take. -/
theorem State.settlePosted_nil {s : State} {addr : Nat} (h : isPosted addr = false ∨ s.host.posted = []) :
    s.settlePosted addr = s := by
  unfold State.settlePosted
  rcases h with h | h
  · simp [h]
  · simp [h, State.takeAllPosted]

/-- A word with at most one strobe is one write. -/
theorem State.pageWrites_single {s : State} {m p off data : Nat} (h : strobeParts p off data = [data]) :
    s.pageWrites m p off data = s.pageWrite m p off data := by
  unfold State.pageWrites
  split_ifs
  · rfl
  · rw [h]
    simp only [List.foldl_cons, List.foldl_nil]
    generalize s.pageWrite m p off data = x
    obtain ⟨t, k⟩ := x
    simp only [Prod.mk.injEq, true_and]
    split_ifs with hk
    · exact hk.symm
    · rfl

/-- A write that is carried out answers OK and does what its page does. -/
theorem State.busWrite_of_accepts {s : State} {m p off data : Nat} (h : s.accepts m p off data = true) :
    s.busWrite m (regAddr p off) data = (s.writeDo m p off data, cOK) := by
  simp only [State.accepts, State.serves, Bool.and_eq_true, Bool.not_eq_true', beq_iff_eq, decide_eq_true_eq, Bool.or_eq_true,
    List.isEmpty_iff, Option.isNone_iff_eq_none, List.isEmpty_eq_false_iff] at h
  obtain ⟨⟨⟨⟨⟨⟨⟨⟨⟨⟨⟨h1, h2⟩, h3⟩, hs⟩, h4⟩, h5⟩, h6⟩, h7⟩, h8⟩, h9⟩, h10⟩, h11⟩ := h
  have ha : (regAddr p off) % 4 = 0 := by unfold regAddr; omega
  unfold State.busWrite
  rw [if_neg (by simp [h1]), if_neg (by simp [hs]), if_neg (by simp [h2]), if_neg (by simp [h3]), State.settlePosted_nil h11]
  unfold State.writeWord
  rw [if_neg (by simp [ha])]
  rw [target_regAddr h4 h7]
  simp only [State.pageWrites_single h9]
  unfold State.pageWrite
  rw [if_neg (by simp [h5]), if_neg (by simpa using h8), h10]

/-- What is accepted meets an arbiter that serves. -/
theorem State.reachable_of_accepts {s : State} {m p off data : Nat} (h : s.accepts m p off data = true) : s.reachable = true := by
  simp only [State.accepts, State.serves, Bool.and_eq_true] at h
  simp_all only

/-- A command that is a write, carried out: the interface of its master learns that it was. -/
theorem State.command_of_accepts {s : State} {m p off data : Nat} (h : s.accepts m p off data = true) :
    s.command m p off data = (s.writeDo m p off data).noteCode m cOK := by
  unfold State.command State.writeNow State.noteFrom
  rw [State.busWrite_of_accepts h]
  exact if_pos (State.reachable_of_accepts h)

/-- An accepted access leaves everything but the last code of its own interface. -/
theorem State.noteCode_ok (s : State) (m : Nat) :
    s.noteCode m cOK = if m = 4 then { s.noteLast m cOK with host := { s.host with tapCode := cOK } } else s.noteLast m cOK := by
  unfold State.noteCode
  split_ifs <;> simp_all [State.noteLast, State.put]

end Sys2Proof.Machine
end

