-- ==== Sys2Proof/Laws/Ops.lean ====
section
/-! SUPPORT. What each shared operation of Machine/Ops.lean can do: counters, interrupt causes, the event log, refusals and
epochs. One lemma says what an operation leaves; one says what it writes. -/

namespace Sys2Proof.Machine

/-! ### Keys -/

/-- A field whose bits lie inside its page has that page in its key. -/
theorem keyPage_key {r : Row} {n i : Nat} (h : r.offset i + r.lo / 8 < 0x1000) : keyPage (r.key n i) = r.page + n := by
  have hc : r.cls.code < 4 := by cases r.cls <;> decide
  unfold keyPage Row.key
  omega

/-- A write of a field leaves every key of another page. -/
theorem State.put_find_ne {s : State} {r : Row} {v n i k : Nat} (h : k ≠ r.key n i) (d : Nat) :
    (s.put r v n i).regs.find k d = s.regs.find k d := Store.find_set_ne _ h ..

/-! ### Counters and flags -/

/-- A saturating counter after an addition. -/
theorem State.get_addSat_same (s : State) (r : Row) (k n i : Nat) :
    (s.addSat r k n i).get r n i = min (s.get r n i + k) (2 ^ r.wid - 1) := by
  have hp : 0 < 2 ^ r.wid := Nat.two_pow_pos _
  unfold State.addSat
  rw [State.get_put_same, Nat.mod_eq_of_lt (by omega)]

/-- A wrapping counter after one more. -/
theorem State.get_incWrap_same (s : State) (r : Row) (n i : Nat) :
    (s.incWrap r n i).get r n i = (s.get r n i + 1) % 2 ^ r.wid := State.get_put_same ..

/-- A flag after its write. -/
theorem State.on_flag_same (s : State) (r : Row) (b : Bool) (n i : Nat) (h : 0 < r.wid) : (s.flag r b n i).on r n i = b := by
  have h2 : 1 < 2 ^ r.wid := Nat.one_lt_two_pow (by omega)
  unfold State.on State.flag
  rw [State.get_put_same]
  cases b <;> simp [bit, Nat.mod_eq_of_lt h2]

/-- Interrupt causes after some are raised (R49). -/
theorem State.get_raise_same (s : State) (p bits : Nat) :
    (s.raise p bits).get HDR_INT_RAW p = (s.get HDR_INT_RAW p ||| bits) % 2 ^ 32 := State.get_put_same ..

/-! ### What the operations leave -/

/-- `t` differs from `s` in register fields, the log and the count of attention alone, and its register store is canonical
where that of `s` is. -/
def State.LogsOnly (s t : State) : Prop :=
  t = { s with regs := t.regs, log := t.log, host := { s.host with attnEvents := t.host.attnEvents } } ∧
  (s.regs.sorted = true → t.regs.sorted = true)

theorem State.LogsOnly.refl (s : State) : s.LogsOnly s := ⟨rfl, id⟩

theorem State.LogsOnly.trans {s t u : State} (h : s.LogsOnly t) (h' : t.LogsOnly u) : s.LogsOnly u := by
  obtain ⟨h1, h2⟩ := h
  obtain ⟨h3, h4⟩ := h'
  refine ⟨?_, fun h => h4 (h2 h)⟩
  rw [h3, h1]

theorem State.LogsOnly.pending {s t : State} (h : s.LogsOnly t) : t.pending = s.pending := by rw [h.1]
theorem State.LogsOnly.staged {s t : State} (h : s.LogsOnly t) : t.staged = s.staged := by rw [h.1]
theorem State.LogsOnly.gran {s t : State} (h : s.LogsOnly t) : t.gran = s.gran := by rw [h.1]
theorem State.LogsOnly.shadow {s t : State} (h : s.LogsOnly t) : t.shadow = s.shadow := by rw [h.1]
theorem State.LogsOnly.loft {s t : State} (h : s.LogsOnly t) : t.loft = s.loft := by rw [h.1]
theorem State.LogsOnly.queues {s t : State} (h : s.LogsOnly t) : t.host.queues = s.host.queues := by rw [h.1]
theorem State.LogsOnly.link {s t : State} (h : s.LogsOnly t) : t.link = s.link := by rw [h.1]
theorem State.LogsOnly.vid {s t : State} (h : s.LogsOnly t) : t.vid = s.vid := by rw [h.1]
theorem State.LogsOnly.sol {s t : State} (h : s.LogsOnly t) : t.sol = s.sol := by rw [h.1]

theorem State.put_logsOnly (s : State) (r : Row) (v n i : Nat) : s.LogsOnly (s.put r v n i) :=
  ⟨rfl, fun h => State.put_sorted h r v n i⟩

theorem State.addSat_logsOnly (s : State) (r : Row) (k n i : Nat) : s.LogsOnly (s.addSat r k n i) := s.put_logsOnly ..
theorem State.inc_logsOnly (s : State) (r : Row) (n i : Nat) : s.LogsOnly (s.inc r n i) := s.put_logsOnly ..
theorem State.incWrap_logsOnly (s : State) (r : Row) (n i : Nat) : s.LogsOnly (s.incWrap r n i) := s.put_logsOnly ..
theorem State.flag_logsOnly (s : State) (r : Row) (b : Bool) (n i : Nat) : s.LogsOnly (s.flag r b n i) := s.put_logsOnly ..
theorem State.raise_logsOnly (s : State) (p b : Nat) : s.LogsOnly (s.raise p b) := s.put_logsOnly ..
theorem State.setPd_logsOnly (s : State) (d v : Nat) : s.LogsOnly (s.setPd d v) := s.put_logsOnly ..

theorem State.log_logsOnly (s : State) (l : LogS) : s.LogsOnly { s with log := l } := ⟨rfl, id⟩

theorem State.setDefaulted_logsOnly (s : State) (p : Nat) : s.LogsOnly (s.setDefaulted p) :=
  (s.put_logsOnly ..).trans (State.put_logsOnly ..)

/-- Numbering an entry. -/
theorem State.numberEntry_logsOnly (s : State) (total : Nat) : s.LogsOnly (s.numberEntry total) := by
  unfold State.numberEntry
  split_ifs
  · exact (s.put_logsOnly ..).trans (State.log_logsOnly ..)
  · exact State.LogsOnly.refl s

/-- Logging an entry. -/
theorem State.logSlot_logsOnly (s : State) (e : Event) : s.LogsOnly (s.logSlot e) := by
  have full : ∀ s : State, s.LogsOnly (if (s.get EVT_TOTAL + 2 ^ 32 - s.get EVT_ACK) % 2 ^ 32 ≥ 256
      then ((s.put EVT_OVF 1).inc EVT_OVERWRITTEN).raise 6 2 else s) := by
    intro s
    split_ifs
    · exact ((s.put_logsOnly ..).trans (State.inc_logsOnly ..)).trans (State.raise_logsOnly ..)
    · exact State.LogsOnly.refl s
  have slot : ∀ (s : State) (i : Nat),
      s.LogsOnly ((((s.put EVT_TS e.ts 0 i).put EVT_CODE e.code 0 i).put EVT_DATA e.data 0 i).incWrap EVT_TOTAL |>.raise 6 1) :=
    fun s i => ((((s.put_logsOnly ..).trans (State.put_logsOnly ..)).trans (State.put_logsOnly ..)).trans
      (State.incWrap_logsOnly ..)).trans (State.raise_logsOnly ..)
  have h := ((full s).trans (slot _ (s.get EVT_TOTAL % 256))).trans (State.numberEntry_logsOnly _ (s.get EVT_TOTAL))
  have fin : ∀ (u : State) (c : Prop) [Decidable c] (l l' : LogS), s.LogsOnly u →
      s.LogsOnly (if c then { u with log := l } else { u with log := l' }) := by
    intro u c _ l l' hu
    split_ifs <;> exact hu.trans (State.log_logsOnly ..)
  exact fin _ _ _ _ h

/-- Raising an event (R542, R546). -/
theorem State.event_logsOnly (s : State) (code data : Nat) : s.LogsOnly (s.event code data) := by
  have h0 : s.LogsOnly { s with host := { s.host with attnEvents := min 31 (s.host.attnEvents + 1) } } := ⟨rfl, id⟩
  unfold State.event
  simp only
  split_ifs
  · exact h0.trans (State.logSlot_logsOnly ..)
  · exact h0.trans (State.log_logsOnly ..)
  · exact h0.trans (State.log_logsOnly ..)

theorem State.reportYardLost_logsOnly (s : State) : s.LogsOnly s.reportYardLost := by
  unfold State.reportYardLost
  simp only
  split_ifs
  · exact State.LogsOnly.refl s
  · exact ((State.addSat_logsOnly ..).trans (State.event_logsOnly ..)).trans (State.log_logsOnly ..)

theorem State.mirrorLate_logsOnly (s : State) : s.LogsOnly s.mirrorLate := State.log_logsOnly ..

theorem State.drainYardBuf_logsOnly (s : State) : s.LogsOnly s.drainYardBuf := by
  have h : ∀ (l : List Event) (s : State), s.LogsOnly (l.foldl State.logSlot s) := by
    intro l
    induction l with
    | nil => exact State.LogsOnly.refl
    | cons e l ih => exact fun s => (State.logSlot_logsOnly s e).trans (ih _)
  exact (State.log_logsOnly s _).trans (h _ _)

/-- A recorded outcome (R67). -/
theorem State.noteErr_logsOnly (s : State) (m : Nat) (wr : Bool) (p off code : Nat) :
    s.LogsOnly (s.noteErr m wr p off code) := by
  have h := (((s.put_logsOnly HDR_ERR_CODE code p 0).trans (State.put_logsOnly _ HDR_ERR_MASTER m p 0)).trans
    (State.put_logsOnly _ HDR_ERR_WR (bit wr) p 0)).trans (State.put_logsOnly _ HDR_ERR_OFFSET off p 0)
  unfold State.noteErr
  simp only
  split_ifs
  · exact h.trans (State.event_logsOnly ..)
  · exact h

/-- A refusal (R67). -/
theorem State.refuse_logsOnly (s : State) (m : Nat) (wr : Bool) (p lr off code : Nat) :
    s.LogsOnly (s.refuse m wr p lr off code) :=
  (((((((s.noteErr_logsOnly m wr p off code).trans (State.put_logsOnly _ SYS_LR_CODE code 0 0)).trans
    (State.put_logsOnly _ SYS_LR_MASTER m 0 0)).trans (State.put_logsOnly _ SYS_LR_WR (bit wr) 0 0)).trans
    (State.put_logsOnly _ SYS_LR_PAGE lr 0 0)).trans (State.put_logsOnly _ SYS_LR_WORD (off / 4) 0 0)).trans
    (State.inc_logsOnly _ SYS_REFUSAL_COUNT 0 0))

theorem State.refusePage_logsOnly (s : State) (m : Nat) (wr : Bool) (p off code : Nat) :
    s.LogsOnly (s.refusePage m wr p off code) := s.refuse_logsOnly ..

theorem State.stateRejected_logsOnly (s : State) (mask : Nat) (blocking : Bool) (blk : Nat) :
    s.LogsOnly (s.stateRejected mask blocking blk) := (s.event_logsOnly ..).trans (State.inc_logsOnly ..)

/-- A refusal with R98's report. -/
theorem State.refuseWith_logsOnly (s : State) (m : Nat) (wr : Bool) (p off : Nat) (r : Refuse) :
    s.LogsOnly (s.refuseWith m wr p off r) := by
  unfold State.refuseWith
  simp only
  split_ifs
  · exact (s.refusePage_logsOnly ..).trans (State.stateRejected_logsOnly ..)
  · exact s.refusePage_logsOnly ..

theorem State.advanceEpoch_logsOnly (s : State) (m : Nat) : s.LogsOnly (s.advanceEpoch m) := by
  unfold State.advanceEpoch
  simp only
  split_ifs <;> exact s.put_logsOnly ..

/-- A write of a field leaves every field of another page. -/
theorem State.put_find_page {s : State} {r : Row} {v n i k : Nat} (hr : r.offset i + r.lo / 8 < 0x1000)
    (h : keyPage k ≠ r.page + n) (d : Nat) : (s.put r v n i).regs.find k d = s.regs.find k d :=
  State.put_find_ne (fun hk => h (by rw [hk, keyPage_key hr])) d

/-- An event leaves every register field but those of EVT and of the link controller, whose EVSEQ a head advances (R412). -/
theorem State.event_find_page (s : State) (code data : Nat) {k : Nat} (h6 : keyPage k ≠ 0x006) (h7 : keyPage k ≠ 0x074) (d : Nat) :
    (s.event code data).regs.find k d = s.regs.find k d := by
  have at6 : ∀ (s : State) (r : Row) (v n i : Nat), r.page + n = 6 → r.offset i + r.lo / 8 < 0x1000 →
      (s.put r v n i).regs.find k d = s.regs.find k d := fun s r v n i hp hr => State.put_find_page hr (by rw [hp]; exact h6) d
  have slots : ∀ i : Nat, EVT_TS.offset i + 2 < 0x1000 ∧ EVT_CODE.offset i + 2 < 0x1000 ∧ EVT_DATA.offset i + 2 < 0x1000 := by
    intro i
    simp only [Row.offset, EVT_TS, EVT_CODE, EVT_DATA]
    omega
  have slot : ∀ (s : State) (e : Event), (s.logSlot e).regs.find k d = s.regs.find k d := by
    intro s e
    obtain ⟨h1, h2, h3⟩ := slots (s.get EVT_TOTAL % 256)
    have full : ∀ s : State, (if (s.get EVT_TOTAL + 2 ^ 32 - s.get EVT_ACK) % 2 ^ 32 ≥ 256
        then ((s.put EVT_OVF 1).inc EVT_OVERWRITTEN).raise 6 2 else s).regs.find k d = s.regs.find k d := by
      intro s
      split_ifs
      · exact ((at6 _ _ _ _ _ rfl (by decide)).trans (at6 _ _ _ _ _ rfl (by decide))).trans (at6 _ _ _ _ _ rfl (by decide))
      · rfl
    have num : ∀ (s : State) (total : Nat), (s.numberEntry total).regs.find k d = s.regs.find k d := by
      intro s total
      unfold State.numberEntry
      split_ifs
      · exact State.put_find_page (by decide) h7 d
      · rfl
    have fin : ∀ (u : State) (c : Prop) [Decidable c] (l l' : LogS), u.regs.find k d = s.regs.find k d →
        (if c then { u with log := l } else { u with log := l' }).regs.find k d = s.regs.find k d := by
      intro u c _ l l' hu
      split_ifs <;> exact hu
    refine fin _ _ _ _ ((num _ _).trans ?_)
    refine (at6 _ _ _ _ _ rfl (by decide)).trans ((at6 _ _ _ _ _ rfl (by decide)).trans ?_)
    refine (at6 _ EVT_DATA _ _ _ rfl (lt_of_le_of_lt (Nat.add_le_add_left (by decide) _) h3)).trans ?_
    refine (at6 _ EVT_CODE _ _ _ rfl (lt_of_le_of_lt (Nat.add_le_add_left (by decide) _) h2)).trans ?_
    exact (at6 _ EVT_TS _ _ _ rfl (lt_of_le_of_lt (Nat.add_le_add_left (by decide) _) h1)).trans (full s)
  unfold State.event
  simp only
  split_ifs
  · exact slot _ _
  · rfl
  · rfl

end Sys2Proof.Machine
end

