-- ==== Sys2Proof/Tests/Slice0.lean ====
section
/-! SUPPORT. Tests: ill-formed terms that the checks refuse, the worked cases of the manual, and for every statement a state and
operands that meet its hypotheses. -/

namespace Sys2Proof.Tests

open Sys2Proof.Machine

/-! ### Small states -/

-- One test after another: side by side they would take the stack of a thread each.
set_option Elab.async false

/-- A device that has booted in a role, at rest. -/
def up (r : Nat) : State :=
  ((({ State.reset with boot := { State.reset.boot with served := true, inReset := false } }.put YARD_PD_STATE 2).put SYS_ROLE
    r).put
    SYS_PRIV 0xF).put SEQ_BOOT_DONE 1

/-- The same, with every domain on and in WATCH. -/
def upAll (r : Nat) : State := (((up r).put YARD_PD_STATE 0x2AAAA).put YARD_MODE 2).put YARD_MODE_TARGET 2

/-- The same in HEAD, with exit seeds. -/
def upSeeded : State := { upAll 0 with yard := { (upAll 0).yard with seeds := List.replicate 20 1000 } }

/-- Accesses are served, and every master is privileged. -/
def served (s : State) : State :=
  let s : State :=
    { s with boot := { s.boot with served := true, inReset := false, booting := false }
             yard := { s.yard with pstate := 0, exit := none, cut := false }
             gran := { s.gran with cur := none, scanning := false }
             shadow := { s.shadow with storing := none, pfCommitted := false }
             host := { s.host with posted := [] } }
  ((s.setPd 0 2).put SYS_SAFE 0).put SYS_PRIV 0xF

/-- A fill check, or a load's from copy `k`, of an all-zero bank. -/
def checkingUp (load : Bool) (want k : Nat) (retry : Bool) : State :=
  { up 0 with loft := { (up 0).loft with checking := some (load, want, k, retry), bankA := Image.zero, bankB := Image.zero } }

theorem checkingUp_bank (load : Bool) (want k : Nat) (retry : Bool) :
    (checkingUp load want k retry).bank (checkingUp load want k retry).inactive = Image.zero := rfl

theorem checkingUp_core (load : Bool) (want k : Nat) (retry : Bool) : (checkingUp load want k retry).coreOn = true := by
  have h : (checkingUp load want k retry).regs = (up 0).regs := by simp only [checkingUp]
  have h2 : (up 0).coreOn = true := by decide +kernel
  unfold State.coreOn State.pd State.get at *
  rw [h]
  exact h2

theorem checkingUp_checking (load : Bool) (want k : Nat) (retry : Bool) :
    (checkingUp load want k retry).loft.checking = some (load, want, k, retry) := rfl

/-- The little-endian bytes of a number. -/
def leBytes (n k : Nat) : List Byte := (List.range k).map fun i => BitVec.ofNat 8 (n / 2 ^ (8 * i))

/-- Valid headers of the three image copies. -/
def withHeaders (g : GranS) : GranS :=
  [0, 1, 2].foldl (fun g k =>
    let body := leBytes (3 + k) 4 ++ leBytes 2 4 ++ leBytes 29000 2 ++ leBytes 0 6 ++ leBytes 5 4 ++ leBytes 0 8
    g.program (copyBase k) (body ++ leBytes (crc32 body) 4)) g

/-- A script with identifier 7 in directory entry 0; `bad` spoils its CRC. -/
def withScript (g : GranS) (bad : Nat) : GranS :=
  let body := leBytes 0x05010007 4 ++ leBytes 9 4 ++ leBytes 0x04010008 4 ++ leBytes 50 4
  let dir := leBytes 7 4 ++ leBytes 0x200 4 ++ leBytes 16 4 ++ leBytes (crc32 body + bad) 4
  (g.program scriptBase dir).program (scriptBase + 0x200) body

/-- A log with one record of type 7 and key 0. -/
def withRec (g : GranS) : GranS :=
  let base := logFirst false * 0x1000
  let g := g.eraseSector (logFirst false)
  let h := sectorHeader 900000 false
  (g.program base h).program (base + 16) (recBytes 7 false 0 0 3 [1, 2, 3, 4])

/-! ### Well-formedness: each check refuses a term -/

theorem test_wf_row : (Instr.rowStart ⟨List.replicate 640 1000000, [], [], 6000, [639], [], [], 0⟩).wellFormed = true := by
  decide +kernel

theorem test_wf_row_columns : (Instr.rowStart ⟨List.replicate 641 0, [], [], 0, [], [], [], 0⟩).wellFormed = false :=
  by decide +kernel

theorem test_wf_row_spare_a : (Instr.rowStart ⟨[], List.replicate 21 0, [], 0, [], [], [], 0⟩).wellFormed = false := by decide

theorem test_wf_row_spare_b : (Instr.rowStart ⟨[], [], List.replicate 21 0, 0, [], [], [], 0⟩).wellFormed = false := by decide

theorem test_wf_row_lost : (Instr.rowStart ⟨[], [], [], 0, [640], [], [], 0⟩).wellFormed = false := by decide

theorem test_wf_row_coef : (Instr.rowStart ⟨[], [], [], 0, [], [3, 3], [], 0⟩).wellFormed = false := by decide

theorem test_wf_row_store : (Instr.rowStart ⟨[], [], [], 0, [], [], [1000], 0⟩).wellFormed = false := by decide

theorem test_wf_calibration_offsets : (Instr.calibrationEnd 0 ⟨[0, 0, 0], [1, 1, 1, 1], List.replicate 10 0, 0, List.replicate 10
  0, 0, 0⟩).wellFormed = false := by decide

theorem test_wf_calibration_noise : (Instr.calibrationEnd 0 ⟨[0, 0, 0, 0], [1], List.replicate 10 0, 0, List.replicate 10 0, 0,
  0⟩).wellFormed = false := by decide

theorem test_wf_calibration_sums :
    (Instr.calibrationEnd 0 ⟨[0, 0, 0, 0], [1, 1, 1, 1], [0], 0, List.replicate 10 0, 0, 0⟩).wellFormed = false ∧
    (Instr.calibrationEnd 0 ⟨[0, 0, 0, 0], [1, 1, 1, 1], List.replicate 10 0, 0, [], 0, 0⟩).wellFormed = false ∧
    (Instr.calibrationEnd 0 ⟨[0, 0, 0, 0], [1, 1, 1, 1], List.replicate 10 0, 0, List.replicate 10 0, 0, 0⟩).wellFormed = true :=
      by decide

theorem test_wf_points : (Instr.tempConversion 1 400 [400]).wellFormed = false ∧
    (Instr.tempConversion 0 400 [400]).wellFormed = false ∧ (Instr.tempConversion 0 400 []).wellFormed = true := by decide

theorem test_wf_packet : (Packet.ok ⟨0, List.replicate 4096 0, 0, 0, 0⟩) = false := by decide +kernel

theorem test_wf_packet_rows : (Instr.linePacket 0 ⟨0, [0], 0, 0, 0⟩).wellFormed = true := by decide

theorem test_wf_message : (Instr.tunWrMsg 0 ⟨0, 0, [0, 0, 0, 0], true⟩).wellFormed = false := by decide

theorem test_wf_weak : (Instr.granScanDone [2048]).wellFormed = false ∧ (Instr.granScanDone [5, 5]).wellFormed = false := by
  decide

theorem test_wf_bursts : (Instr.vbkpFloor 5).wellFormed = false ∧ (Instr.vbkpFloor 4).wellFormed = true := by decide

/-! ### No row has bits -/

theorem test_decode : decodeTableWord 32 0x5A = none := by decide

theorem test_with_fetch : State.reset.withFetchWord 32 0x5A = State.reset := by decide +kernel

/-! ### The manual's worked cases and examples -/

/-- The state that a command leads to. -/
def after (c : Instr) (s : State) : State :=
  match exec c s with
  | .next t => t
  | _ => s

/-- What a read of a register answers. -/
def rd (s : State) (addr : Nat) : Nat := (s.busRead 1 addr).2.1

/-- Reading a refusal (Conventions): M2 writes the SOL2 word at 0x044 while M1 holds SEM3. -/
def refusalCase : State :=
  after (.registerWrite .m2 0x40062044 0x012C07D0)
    ((((upAll 0).put YARD_MODE 2).put LOCK_STATE 1 0 3).put LOCK_OWNER 1 0 3)

theorem test_refusal_words :
    rd refusalCase 0x40062020 = 0x00440A05 ∧ rd refusalCase 0x40000058 = 0x01162A05 ∧ refusalCase.get SYS_REFUSAL_COUNT = 1 ∧
    refusalCase.get EVT_CODE 0 32 = 0x6201 ∧ refusalCase.get EVT_DATA 0 32 = 0x0A05 := by decide +kernel

theorem test_refusal_staged : refusalCase.staged = [] := by decide +kernel

/-- A write to a port that is absent in DUO (Roles). -/
theorem test_absent_port :
    rd (after (.linkCtrlEn .m1 0 true) (up 2)) 0x40070020 = 0x00080910 ∧
    rd (after (.linkCtrlEn .m1 0 true) (up 2)) 0x40070008 = 0 := by decide +kernel

/-- Ownership, refusal and demotion (Register Pages): step 2, then step 3. -/
def ownedCase : State := ((upAll 0).put SYS_PRIV 3).put HDR_OWNER 1 0x052

theorem test_owner_reject : rd (after (.registerWrite .m2 0x40052008 1) ownedCase) 0x40052020 = 0x00080A11 ∧
    (after (.registerWrite .m2 0x40052008 1) ownedCase).get EVT_DATA 0 32 = 0x0A11 := by decide +kernel

theorem test_demotion :
    (after (.masterPrivWrite .m2 5) ownedCase).get HDR_OWNER 0x052 = 0xFF ∧
    rd (after (.masterPrivWrite .m2 5) ownedCase) 0x40000048 = 5 ∧
    bitAt ((after (.masterPrivWrite .m2 5) ownedCase).get SYS_DEFAULTED_SUMMARY 0 1) 21 = true ∧
    (after (.masterPrivWrite .m2 5) ownedCase).get EVT_CODE 0 32 = 0x5202 ∧
    (after (.masterPrivWrite .m2 5) ownedCase).epoch 1 = 1 ∧ (after (.masterPrivWrite .m2 5) ownedCase).epoch 2 = 0 := by
  decide +kernel

/-- A refused mode change in CAB (Operating Modes). -/
def cabCase : State := after (.modeCmd .m1 1) (((upAll 1).put YARD_MODE 3).put YARD_MODE_TARGET 3)

theorem test_mode_refused : rd cabCase 0x40001020 = 0x00400902 ∧ cabCase.get EVT_DATA 0 32 = 0x0902 ∧ cabCase.get EVT_CODE 0 33 =
  0x0010 ∧
    cabCase.get EVT_DATA 0 33 = 0x0134 ∧ cabCase.get YARD_STATE_REJECTS = 1 := by decide +kernel

/-- The early answer and the correct one (Watchdog). -/
theorem test_watchdog_answer : wdtAnswer 0x3C5A 0x1234 7 = 0xB8C0 ∧ wdtPeriod 100 = 3277 ∧ 3277 * (256 - 64) / 256 = 2457 := by
  decide +kernel

/-- The example of the diode (Temperature): 60.00 mV reads 26.875 °C. -/
theorem test_tfpa : tfpaOf 6000 20000 0 = 430 := by decide +kernel

/-- The arithmetic of one pixel (Millrace). -/
theorem test_pixel : stage1 true 1000 200 = 12800 ∧ stage2 12800 (-40) 1126 = 13723 ∧ driftAt 0 256 0 0 48 = 48 ∧
    (out16Of 13675).1 = 855 := by decide +kernel

/-- The example of the offset update (Shutter and Correction): O changes by -9. -/
theorem test_offset_update : (newOffset 0 ⟨0, 1126, 0, false⟩ 80 0).1 = 0xFFDC0000 := by decide +kernel

/-- Flushing a half-written item (Host Control): the three words held rewind, and three more are awaited. -/
def flushCase : State :=
  after (.cmdqFlushDone 2) (after (.cmdqFlush .m1 2)
    (after (.cmdqData .m2 2 0x100) (after (.cmdqData .m2 2 0x40062044) (after (.cmdqData .m2 2 0x01050021) (up 0)))))

theorem test_flush_resync : (flushCase.queue 2).part = [] ∧ (flushCase.queue 2).resync = 3 := by decide +kernel

/-- A tunnelled write during recovery (Messaging): both accesses are held, and PENDING reads 2. -/
theorem test_tunnel_pending :
    (after (.tunAddr .m1 0 0x40052041) (((((upAll 1).put LINK_STATE 6).put LINK_SES_STATE 1).put LINK_NEXT_TAG 0x17).put HDR_EN 1
      0x070)).get
      LINK_NEXT_TAG = 0x18 := by decide +kernel

/-- CRC-32 of the check string 123456789, by the parameters of R251. -/
theorem test_crc32 : crc32 ([0x31, 0x32, 0x33, 0x34, 0x35, 0x36, 0x37, 0x38, 0x39] : List Byte) = 0xCBF43926 := by decide +kernel

/-- AES-128 of the example in FIPS 197. -/
theorem test_aes : aes ((List.range 16).map fun i => i) ((List.range 16).map fun i => 17 * i) =
    [0x69, 0xC4, 0xE0, 0xD8, 0x6A, 0x7B, 0x04, 0x30, 0xD8, 0xCD, 0xB7, 0x80, 0x70, 0xB4, 0xC5, 0x5A] := by decide +kernel

/-! ### The hypotheses of the statements can be met -/

theorem test_hyps_StepRunsFrontCommand :
    (∃ (c : Instr) (rest : List Instr) (s : State), s.pending = c :: rest) ∧ ∃ s : State, s.pending = [] :=
  ⟨⟨.tapIdcode, [.porAon], { State.reset with pending := [.tapIdcode, .porAon] }, rfl⟩, State.reset, rfl⟩

theorem test_hyps_InvariantKept : ∃ s t : State, s.Inv ∧ step s = .next t ∧ s.pending ≠ [] :=
  ⟨{ up 0 with pending := [.vddioLevelDetect true] }, { up 0 with pending := [] }.put PIN_VDDIO_3V3 1,
    ⟨by decide +kernel, by decide +kernel, by decide +kernel, by decide +kernel, by decide +kernel, by decide +kernel,
      by decide +kernel,
      by decide +kernel, by decide +kernel⟩,
    by simp only [step, exec, execVddioLevelDetect, bit, if_true], by simp⟩

/-- A device with every permanent lock set. -/
def lockedUp : State :=
  { State.reset with gran := { State.reset.gran with factoryLocked := true, pageLocked := 0x8000, pageRprot := 1 } }

theorem test_hyps_PermanentLocks :
    ∃ s t : State, step s = .next t ∧ s.gran.factoryLocked = true ∧ bitAt s.gran.pageLocked 15 = true ∧
      bitAt s.gran.pageRprot 0 = true ∧ s.pending ≠ [] :=
  ⟨{ lockedUp with pending := [.vddioLevelDetect true] }, { lockedUp with pending := [] }.put PIN_VDDIO_3V3 1, by
    simp only [step, exec, execVddioLevelDetect, bit, if_true], by decide, by decide, by decide, by decide⟩

theorem test_hyps_AddressesOutside :
    (up 0).serves = true ∧ (up 0).sources 4 = true ∧
    (∀ addr ∈ [0x3FFFFFFC, 0x40100000, 0x4FFFFFFC, 0x50001000, 0x5FFFFFFC, 0x60140000, 0x601FFFFC, 0x60340000, 0x6FFFFFFC,
      0x70800000],
      addr % 4 = 0 ∧ (addr < 0x40000000 ∨ (0x40100000 ≤ addr ∧ addr < 0x50000000) ∨ (0x50001000 ≤ addr ∧ addr < 0x60000000) ∨
        (0x60140000 ≤ addr ∧ addr < 0x60200000) ∨ (0x60340000 ≤ addr ∧ addr < 0x70000000) ∨ 0x70800000 ≤ addr)) ∧
    (∃ addr : Nat, addr % 4 ≠ 0 ∧ 0x70800000 ≤ addr) ∧
    (∃ addr : Nat, addr % 4 = 0 ∧ 0x40000000 ≤ addr ∧ addr < 0x40100000 ∧ pageExists ((addr - 0x40000000) / 0x1000) = false) ∧
    ∃ addr : Nat, addr % 4 ≠ 0 ∧ 0x40000000 ≤ addr ∧ addr < 0x40100000 ∧ pageExists ((addr - 0x40000000) / 0x1000) = false :=
  ⟨by decide +kernel, by decide +kernel, by decide, ⟨0x70800001, by decide⟩, ⟨0x400FFFFC, by decide⟩, 0x4000D001, by decide⟩

theorem test_hyps_AbsentAndReserved :
    (up 2).serves = true ∧ (up 2).sources 0 = true ∧ pageExists 0x070 = true ∧ (up 2).present 0x070 = false ∧ bitAt 0x80000000 31
      = true ∧
    (up 2).present 0x074 = true ∧ pageExists 0x074 = true ∧ wordRows 0x074 0xFFC = [] ∧ isPosted (regAddr 0x074 0xFFC) = false ∧
    pageExists 0xFF = false ∧ (up 2).host.posted = [] := by decide +kernel

theorem test_hyps_RefusalsAndLog_rules :
    (up 0).coreOn = true ∧ (up 0).get HDR_ERR_CODE 0x0FF = 0 ∧ ((up 0).put HDR_ERR_CODE 5 6).get HDR_ERR_CODE 6 ≠ 0 ∧
    ((up 0).put YARD_PD_STATE 0).coreOn = false ∧
    256 ≤ (((up 0).put EVT_TOTAL 300).get EVT_TOTAL + 2 ^ 32 - ((up 0).put EVT_TOTAL 300).get EVT_ACK) % 2 ^ 32 :=
      by decide +kernel

theorem test_hyps_RefusalsAndLog :
    (∃ (i : Instr) (m : Nat) (p : Nat) (off : Nat) (data : Nat) (s : State),
      commandWrite i = some (m, p, off, data)) ∧
    (∃ (i : Instr) (m : Nat) (p : Nat) (off : Nat) (data : Nat) (r : Refuse) (own : Bool) (s : State),
      commandWrite i = some (m, p, off, data) ∧
      s.serves = true ∧
      s.sources m = true ∧
      pageExists p = true ∧
      s.present p = true ∧
      (wordRows p off).isEmpty = false ∧
      strobeParts p off data = [data] ∧
      s.host.posted = [] ∧
      s.writeCheck m p off data = some (r, own) ∧
      r.code < 32 ∧
      (¬(p = 0x003 ∧ off = 0x054))) ∧
    (∃ (i : Instr) (m : Nat) (p : Nat) (off : Nat) (data : Nat) (s : State),
      commandWrite i = some (m, p, off, data) ∧
      s.serves = true ∧
      s.sources m = true ∧
      pageExists p = true ∧
      s.present p = false ∧
      off ≠ 0x020 ∧
      s.host.posted = []) ∧
    (∃ (i : Instr) (m : Nat) (p : Nat) (off : Nat) (data : Nat) (s : State),
      commandWrite i = some (m, p, off, data) ∧
      s.reachable = true ∧
      s.safe = false ∧
      s.nvmBusy = true ∧
      s.sources m = true ∧
      (¬(p = 0x003 ∧ off = 0x054))) ∧
    (∃ (i : Instr) (m : Nat) (p : Nat) (off : Nat) (data : Nat) (s : State),
      commandWrite i = some (m, p, off, data) ∧
      s.reachable = true ∧
      s.safe = true) ∧
    (∃ (i : Instr) (m : Nat) (p : Nat) (off : Nat) (data : Nat) (s : State),
      commandWrite i = some (m, p, off, data) ∧
      (s.reachable = false ∨ (s.sources m = false ∧ s.safe = false) ∨ (s.serves = true ∧ s.sources m = true ∧ pageExists p = false
        ∧ p < 256))) ∧
    (∃ (m : Master) (s : State),
      s.reachable = true ∧
      s.safe = false ∧
      s.nvmBusy = true ∧
      s.sources m.num = true) :=
  ⟨⟨(Sys2Proof.Instr.seqRun (.m1) 0x158ba16a#32 : Instr), (1 : Nat), (11 : Nat), (72 : Nat), (361472362 : Nat), State.reset,
    by decide +kernel⟩,
   ⟨(Sys2Proof.Instr.seqRun (.m1) 0x158ba16a#32 : Instr), (1 : Nat), (11 : Nat), (72 : Nat), (361472362 : Nat),
     ({ code := 4, mask := 0, blocking := false } : Refuse), (false : Bool), (fun (s : State) => ((served s).setPd 0 2).put
     SYS_PRIV 0) State.reset, by decide +kernel⟩,
   ⟨(Sys2Proof.Instr.tunPop (.m1) 1 : Instr), (1 : Nat), (113 : Nat), (308 : Nat), (1 : Nat), (fun (s : State) => served s)
     State.reset, by decide +kernel⟩,
   ⟨(Sys2Proof.Instr.seqRun (.m1) 0x158ba16a#32 : Instr), (1 : Nat), (11 : Nat), (72 : Nat), (361472362 : Nat),
     (fun (s : State) => (let s : State := served s; { s with gran := { s.gran with cur := some ⟨2, 2, true, 1, false, [], 0, 0⟩ } }))
     State.reset, by decide +kernel⟩,
   ⟨(Sys2Proof.Instr.seqRun (.m1) 0x158ba16a#32 : Instr), (1 : Nat), (11 : Nat), (72 : Nat), (361472362 : Nat), (fun (s : State)
     => (served s).put SYS_SAFE 1) State.reset, by decide +kernel⟩,
   ⟨(Sys2Proof.Instr.seqRun (.m1) 0x158ba16a#32 : Instr), (1 : Nat), (11 : Nat), (72 : Nat), (361472362 : Nat), (fun (s : State)
     => (if s.freeCtr % 3 = 0 then s else if s.freeCtr % 3 = 1 then (served s).put SYS_ROLE CAB else served s)) State.reset,
     by decide +kernel⟩,
   ⟨(.m2 : Master),
     (fun (s : State) => (let s : State := served s; { s with gran := { s.gran with cur := some ⟨2, 2, true, 1, false, [], 0, 0⟩ } }))
     State.reset, by decide +kernel⟩⟩

theorem test_hyps_ForceSemaphore :
    (∃ (m : Master) (n : Fin 8) (s : State),
      s.accepts m.num 0x005 (semOff n.val) 4 = true ∧
      s.get LOCK_STATE 0 n.val = 1 ∧
      s.coreOn = true) ∧
    (∃ (m : Master) (n : Fin 8) (s : State),
      s.accepts m.num 0x005 (semOff n.val) 4 = true ∧
      s.get LOCK_STATE 0 n.val ≠ 1) ∧
    (∃ (m : Master) (s : State),
      s.serves = true ∧
      s.sources m.num = true ∧
      s.priv m.num = true ∧
      s.get HDR_OWNER 0x005 = 0xFF ∧
      s.pd 0 = 2) ∧
    (∃ (m : Master) (s : State),
      s.serves = true ∧
      s.sources m.num = true ∧
      s.priv m.num = false ∧
      s.pd 0 = 2) :=
  ⟨⟨(.m2 : Master), (5 : Fin 8), (fun (n : Fin 8) (s : State) => ((served s).put LOCK_STATE 1 0 n.val).put LOCK_OWNER 2 0 n.val)
    (5) State.reset, by decide +kernel⟩,
   ⟨(.m2 : Master), (5 : Fin 8), (fun (n : Fin 8) (s : State) => (served s).put LOCK_STATE (s.regs.length % 2 * 2) 0 n.val) (5)
     State.reset, by decide +kernel⟩,
   ⟨(.m2 : Master), (fun (s : State) => served s) State.reset, by decide +kernel⟩,
   ⟨(.m2 : Master), (fun (s : State) => (served s).put SYS_PRIV 0) State.reset, by decide +kernel⟩⟩

theorem test_hyps_HeaderCommands :
    (∃ (m : Master) (page : Fin 256) (bits : Word) (s : State),
      s.accepts m.num page.val 0x01C bits.toNat = true) ∧
    (∃ (m : Master) (page : Fin 256) (s : State),
      (s.accepts m.num page.val 0x020 0x80000000 = true ∨ (s.serves = true ∧ s.sources m.num = true ∧ pageExists page.val = true ∧
        s.present page.val = false))) ∧
    (∃ (m : Master) (page : Fin 256) (go : Bool) (s : State),
      s.accepts m.num page.val 0x02C (2 + bit go) = true) ∧
    (∃ (m : Master) (page : Fin 256) (s : State),
      s.accepts m.num page.val 0x02C 1 = true ∧
      s.goActs page.val = false) ∧
    (∃ (m : Master) (page : Fin 256) (s : State),
      s.accepts m.num page.val 0x02C 1 = true ∧
      s.goActs page.val = true ∧
      s.atBoundary page.val = false ∧
      page.val ≠ 0x050 ∧
      page.val ≠ pDISP ∧
      page.val ≠ pCSI) ∧
    (∃ (m : Master) (page : Fin 256) (s : State),
      s.accepts m.num page.val 0x02C 1 = true ∧
      s.goActs page.val = true ∧
      (s.atBoundary page.val = true ∨ page.val = pDISP ∨ (page.val = pCSI ∧ s.pd 6 = 2)) ∧
      (∀ w ∈ s.vid, w.live = false ∧ w.csi = false) ∧
      (s.boot.booting && s.boot.soft) = false ∧
      s.staged.sorted = true ∧
      s.regs.sorted = true) :=
  ⟨⟨(.m0 : Master), (96 : Fin 256), (0x0#32 : Word), (fun (s : State) => served s) State.reset, by decide +kernel⟩,
   ⟨(.m0 : Master), (96 : Fin 256), (fun (s : State) => served s) State.reset, by decide +kernel⟩,
   ⟨(.m0 : Master), (49 : Fin 256), (false : Bool),
     (fun (page : Fin 256) (s : State) => (let s := served s; if s.regs.length % 2 = 0 then s.stage ((rowsCSI ++ rowsMILL ++ rowsDISP)[page.val % 8]?.getD CSI_RATE) 5 else s))
     (49) State.reset, by decide +kernel⟩,
   ⟨(.m1 : Master), (34 : Fin 256), (fun (s : State) => served s) State.reset, by decide +kernel⟩,
   ⟨(.m1 : Master), (34 : Fin 256), (fun (page : Fin 256) (s : State) =>
     { served s with staged := [((page.val * 0x1000 + 0x40) * 32 + 1, 5)] }) (34) State.reset, by decide +kernel⟩,
   ⟨(.m2 : Master), (120 : Fin 256),
     (fun (page : Fin 256) (s : State) => (let s := served s; let s := { ((s.setPd 6 2).setPd 8 2).setPd 7 2 with vid := List.replicate 4 VidS.idle, parity := [], fpa := { s.fpa with inFrame := false } }; let s := s.put HDR_GO 0 page.val; let rs := (pageRows page.val).filter fun r => r.acc == .rws; rs.foldl (fun s r => if (s.freeCtr + r.lo) % 2 = 0 then s.stage r (s.get r (r.nth page.val)) (r.nth page.val) else s) s))
     (120) State.reset, by decide +kernel⟩⟩

theorem test_hyps_CommitAndParity :
    (∃ (page : Fin 256) (s : State),
      s.going page.val = true ∧
      s.atBoundary page.val = true ∧
      pageExists page.val = true ∧
      (s.boot.booting && s.boot.soft) = false ∧
      (page.val ≠ 0x051 ∨ s.mode ≠ SENTRY) ∧
      s.staged.sorted = true ∧
      s.regs.sorted = true) ∧
    (∃ (page : Fin 256) (stream : Fin 4) (s : State),
      (page.val = pDISP ∨ (page.val = pCSI ∧ s.pd 6 = 2)) ∧
      s.going page.val = true ∧
      s.owed.contains (page.val, stream.val) = true ∧
      s.inFrameOf page.val stream.val = false ∧
      (s.boot.booting && s.boot.soft) = false ∧
      s.staged.sorted = true ∧
      s.regs.sorted = true) ∧
    (∃ (page : Fin 256) (s : State),
      s.going page.val = false) ∧
    (∃ (page : Fin 256) (word : Fin 1024) (s : State),
      pageExists page.val = true ∧
      storedWord page.val (4 * word.val) = true ∧
      s.parity.contains (page.val, 4 * word.val) = false ∧
      s.boot.inReset = false ∧
      page.val ≠ 0x003 ∧
      page.val ≠ 0x005) ∧
    (∃ (word : Fin 1024) (s : State),
      0x040 ≤ 4 * word.val ∧
      4 * word.val < 0x0C0 ∧
      storedWord 0x005 (4 * word.val) = true ∧
      s.get LOCK_STATE 0 ((4 * word.val - 0x040) / 16) = 1 ∧
      s.parity.contains (0x005, 4 * word.val) = false ∧
      s.boot.inReset = false ∧
      s.coreOn = true) ∧
    (∃ (word : Fin 1024) (s : State),
      storedWord 0x003 (4 * word.val) = true ∧
      s.parity.contains (0x003, 4 * word.val) = false ∧
      s.boot.inReset = false ∧
      s.wdtServing = true ∧
      s.get WDT_MISSED = 0) ∧
    (∃ (page : Fin 256) (s : State),
      page.val = 0x051 ∧
      s.mode = SENTRY) :=
  ⟨⟨(6 : Fin 256),
    (fun (page : Fin 256) (s : State) => (let s := ((served s).put HDR_GO 1 page.val); let rs := (pageRows page.val).filter fun r => r.acc == .rws; rs.foldl (fun s r => if (s.freeCtr + r.lo) % 2 = 0 then s.stage r (s.freeCtr + r.off * 7 + 1) (r.nth page.val) (s.freeCtr % r.count) else s) s))
    (6) State.reset, by decide +kernel⟩,
   ⟨(83 : Fin 256), (1 : Fin 4),
     (fun (page : Fin 256) (stream : Fin 4) (s : State) => (let s := (served s).setPd 6 2; let s := s.put HDR_GO 1 page.val; let rs := (pageRows page.val).filter fun r => r.acc == .rws; let s := rs.foldl (fun s r => if (s.freeCtr + r.lo) % 2 = 0 then s.stage r (s.freeCtr + r.off * 7 + 1) (r.nth page.val) stream.val else s) s; { s with owed := [(page.val, stream.val)] ++ (if s.freeCtr % 2 = 0 then [(page.val, (stream.val + 1) % 4)] else []), vid := List.replicate 4 VidS.idle }))
     (83) (1) State.reset, by decide +kernel⟩,
   ⟨(200 : Fin 256), State.reset, by decide +kernel⟩,
   ⟨(114 : Fin 256), (2 : Fin 1024), (up 0), by decide +kernel⟩,
   ⟨(22 : Fin 1024), (fun (word : Fin 1024) (s : State) => (served s).put LOCK_STATE 1 0 ((4 * word.val - 0x040) / 16)) (22)
     State.reset, by decide +kernel⟩,
   ⟨(9 : Fin 1024),
     (fun (s : State) => (let s := ((served s).put WDT_MISSED 0).put HDR_EN 1 3; { s with wdt := { s.wdt with running := true, dbgHalt := false, expiring := false } }))
     State.reset, by decide +kernel⟩,
   ⟨(81 : Fin 256), (fun (s : State) => (s.put HDR_GO 1 0x051).put YARD_MODE SENTRY) State.reset, by decide +kernel⟩⟩

theorem test_hyps_PlainAccesses :
    (∃ (m : Master) (p : Nat) (off : Nat) (data : Word) (s : State),
      s.accepts m.num p off data.toNat = true ∧
      isPosted (regAddr p off) = false) ∧
    (∃ (m : Master) (p : Nat) (off : Nat) (data : Word) (r : Refuse) (own : Bool) (s : State),
      s.serves = true ∧
      s.sources m.num = true ∧
      pageExists p = true ∧
      s.present p = true ∧
      off % 4 = 0 ∧
      off < 0x1000 ∧
      (wordRows p off).isEmpty = false ∧
      isPosted (regAddr p off) = false ∧
      strobeParts p off data.toNat = [data.toNat] ∧
      s.writeCheck m.num p off data.toNat = some (r, own) ∧
      r.code < 32) ∧
    (∃ (m : Master) (addr : Word) (s : State),
      s.serves = true ∧
      s.sources m.num = true ∧
      isPosted addr.toNat = true ∧
      s.host.posted.length < 16) ∧
    (∃ (m : Master) (addr : Word) (s : State),
      s.serves = true ∧
      s.sources m.num = true ∧
      isPosted addr.toNat = true ∧
      s.host.posted.length = 16) ∧
    (∃ (m : Nat) (p : Nat) (off : Nat) (data : Nat) (l : List (Nat × Nat × Nat)) (s : State),
      s.host.posted = (m, regAddr p off, data) :: l ∧
      s.boot.inReset = false ∧
      s.safe = false ∧
      s.coreOn = true ∧
      m < 5 ∧
      { s with host := { s.host with posted := [] } }.accepts m p off data = true) ∧
    (∃ (m : Master) (s : State),
      s.serves = true ∧
      s.sources m.num = true ∧
      s.host.posted = [] ∧
      s.host.lastRead.length = 5) ∧
    (∃ (m : Master) (addr : Word) (p : Nat) (off : Nat) (s : State),
      s.sources m.num = true ∧
      target addr.toNat = .page p off) :=
  ⟨⟨(.m0 : Master), (112 : Nat), (288 : Nat), (0x879d#32 : Word), (fun (s : State) => served s) State.reset, by decide +kernel⟩,
   ⟨(.m1 : Master), (116 : Nat), (40 : Nat), (0x0#32 : Word), ({ code := 3, mask := 0, blocking := false } : Refuse), (false :
     Bool), (fun (s : State) => (if s.freeCtr % 2 = 0 then served s else (served s).put SYS_PRIV 0)) State.reset,
     by decide +kernel⟩,
   ⟨(.m2 : Master), (0x400035d8#32 : Word), (fun (s : State) => served s) State.reset, by decide +kernel⟩,
   ⟨(.m2 : Master), (0x400035d8#32 : Word),
     (fun (s : State) => (let s := served s; { s with host := { s.host with posted := List.replicate 16 (1, 0x40001068 + 4 * (s.freeCtr % 8), 5) } }))
     State.reset, by decide +kernel⟩,
   ⟨(1 : Nat), (1 : Nat), (256 : Nat), (0 : Nat), ([] : List (Nat × Nat × Nat)),
     (fun (m : Nat) (p : Nat) (off : Nat) (data : Nat) (l : List (Nat × Nat × Nat)) (s : State) => (let s := served s; { s with host := { s.host with posted := (m, regAddr p off, data) :: l } }))
     (1) (1) (256) (0) ([]) State.reset, by decide +kernel⟩,
   ⟨(.m2 : Master), (fun (s : State) => served s) State.reset, by decide +kernel⟩,
   ⟨(.m4 : Master), (0x4000a794#32 : Word), (10 : Nat), (1940 : Nat), State.reset, by decide +kernel⟩⟩

theorem test_hyps_WindowWrites :
    (∃ (m : Master) (bankB : Bool) (s : State),
      s.serves = true ∧
      s.sources m.num = true ∧
      s.loftWriteCheck m.num (bit bankB) = none) ∧
    (∃ (m : Master) (bankB : Bool) (s : State),
      s.serves = true ∧
      s.sources m.num = true ∧
      s.loftWriteCheck m.num (bit bankB) = none) ∧
    (∃ (m : Master) (word : Fin 1024) (s : State),
      s.serves = true ∧
      s.sources m.num = true ∧
      s.sramCheck m.num (4 * word.val) = none) ∧
    (∃ (m : Master) (bankB : Bool) (r : Refuse) (s : State),
      s.serves = true ∧
      s.sources m.num = true ∧
      s.loftWriteCheck m.num (bit bankB) = some r ∧
      r.code < 32) ∧
    (∃ (m : Master) (bankB : Bool) (s : State),
      (s.reachable = false ∨ s.sources m.num = false ∨ s.safe = true ∨ s.nvmBusy = true ∨ s.loftWriteCheck m.num (bit bankB) ≠
        none)) ∧
    (∃ (m : Master) (word : Fin 1024) (r : Refuse) (s : State),
      s.serves = true ∧
      s.sources m.num = true ∧
      s.sramCheck m.num (4 * word.val) = some r ∧
      r.code < 32) :=
  ⟨⟨(.m2 : Master), (true : Bool), (fun (m : Master) (bankB : Bool) (s : State) => ((served s).put MILL_ACTIVE (1 - bit
    bankB)).put MILL_FILLING 1 |>.put LOCK_STATE 1 0 0 |>.put LOCK_OWNER m.num 0 0) (.m2) (true) State.reset, by decide +kernel⟩,
   ⟨(.m2 : Master), (true : Bool), (fun (m : Master) (bankB : Bool) (s : State) => ((served s).put MILL_ACTIVE (1 - bit
     bankB)).put MILL_FILLING 1 |>.put LOCK_STATE 1 0 0 |>.put LOCK_OWNER m.num 0 0) (.m2) (true) State.reset, by decide +kernel⟩,
   ⟨(.m2 : Master), (229 : Fin 1024), (fun (s : State) => served s) State.reset, by decide +kernel⟩,
   ⟨(.m2 : Master), (true : Bool), ({ code := 2, mask := 12, blocking := false } : Refuse), (fun (s : State) => (if s.freeCtr % 2
     = 0 then served s else (served s).put MILL_FILLING 0)) State.reset, by decide +kernel⟩,
   ⟨(.m2 : Master), (true : Bool), (fun (s : State) => (served s).put MILL_FILLING 0) State.reset, by decide +kernel⟩,
   ⟨(.m1 : Master), (46 : Fin 1024), ({ code := 5, mask := 0, blocking := false } : Refuse), (fun (s : State) => (if s.freeCtr % 2
     = 0 then served s else (served s).put SYS_PRIV 0)) State.reset, by decide +kernel⟩⟩

theorem test_hyps_SessionsAndPrivilege :
    (∃ (m : Master) (data : Word) (s : State),
      s.accepts m.num 0x000 0x04C data.toNat = true) ∧
    (∃ (m : Master) (data : Word) (s : State),
      s.accepts m.num 0x000 0x048 data.toNat = true) ∧
    (∃ (m : Master) (data : Word) (s : State),
      s.accepts m.num 0x000 0x068 data.toNat = true) :=
  ⟨⟨(.m2 : Master), (0xffffffff#32 : Word),
    (fun (m : Master) (s : State) => (let s := served s; ((s.put LOCK_STATE 1 0 3).put LOCK_OWNER m.num 0 3).put LOCK_STATE 1 0 6 |>.put LOCK_OWNER m.num 0 6))
    (.m2) State.reset, by decide +kernel⟩,
   ⟨(.m2 : Master), (0xffffffff#32 : Word), (fun (s : State) => ((served s).put HDR_OWNER 2 0x053).put LOCK_STATE 1 0 4 |>.put
     LOCK_OWNER 2 0 4) State.reset, by decide +kernel⟩,
   ⟨(.m1 : Master), (0x5a#32 : Word), (fun (s : State) => served s) State.reset, by decide +kernel⟩⟩

theorem test_hyps_ResetKinds :
    (∃ (s : State),
      s.pfStoring = false ∧
      s.gran.cur = none) ∧
    (∃ (s : State),
      s.pfStoring = false ∧
      (s.boot.inReset = true ∨ s.pd 0 = 1 ∨ s.pd 0 = 2 ∨ s.yard.pstate = 3)) ∧
    (∃ (s : State),
      s.boot.booting = true) ∧
    (∃ (i : Instr) (s : State),
      s.pfStoring = true ∧
      (i = .porAon ∨ i = .borCoreReset)) ∧
    (∃ (s : State),
      s.pfStoring = false ∧
      s.boot.inReset = false ∧
      s.pd 0 ≠ 1 ∧
      s.pd 0 ≠ 2 ∧
      s.yard.pstate ≠ 3) ∧
    (∃ (s : State),
      s.boot.booting = false) :=
  ⟨⟨(fun (s : State) => { s with gran := { s.gran with cur := none } }) State.reset, by decide +kernel⟩,
   ⟨State.reset, by decide +kernel⟩,
   ⟨(fun (s : State) => { s with boot := { s.boot with booting := true } }) State.reset, by decide +kernel⟩,
   ⟨(Sys2Proof.Instr.borCoreReset : Instr), (fun (s : State) =>
     { s with shadow := { s.shadow with pfCommitted := true, storing := some (3, 0) } }) State.reset, by decide +kernel⟩,
   ⟨(fun (s : State) =>
     { s.setPd 0 (3 * (s.freeCtr % 2)) with boot := { s.boot with inReset := false }, yard := { s.yard with pstate := 4 * (s.freeCtr / 2 % 2) }, shadow := { s.shadow with pfCommitted := false } })
     State.reset, by decide +kernel⟩,
   ⟨(fun (s : State) => { s with boot := { s.boot with booting := false } }) State.reset, by decide +kernel⟩⟩

theorem test_hyps_BootAndStraps :
    (∃ (r : Fin 4) (s : State),
      s.mayBoot = true ∧
      s.boot.inReset = true ∧
      strongest s.boot.asserted < kSOFT ∧
      s.boot.vdda = true ∧
      s.boot.vddio = true ∧
      r.val < 3) ∧
    (∃ (s1 : Fin 4) (s2 : Fin 4) (s3 : Fin 4) (s4 : Fin 4) (s : State),
      s.mayBoot = true ∧
      s.boot.inReset = true ∧
      strongest s.boot.asserted < kSOFT ∧
      s.boot.vdda = true ∧
      s.boot.vddio = true ∧
      (s1 ≠ s2 ∨ s2 ≠ s3 ∨ s3 ≠ s4 ∨ s4.val = 3)) ∧
    (∃ (s : State),
      s.boot.booting = true ∧
      s.boot.waiting = none ∧
      s.bootReady = true ∧
      s.cutAtDone = none) ∧
    (∃ (live : Fin 4) (s : State),
      s.boot.inReset = false ∧
      s.boot.waiting = none ∧
      s.inDormant = false ∧
      live.val ≠ s.role ∧
      s.get SYS_MISMATCH = 0) ∧
    (∃ (r : Fin 4) (s : State),
      s.mayBoot = true ∧
      s.boot.inReset = false ∧
      s.boot.vdda = true ∧
      s.boot.vddio = true ∧
      r.val < 3) ∧
    (∃ (s : State),
      s.mayBoot = true ∧
      s.boot.inReset = true ∧
      (strongest s.boot.asserted = kSOFT ∨ strongest s.boot.asserted = kLINK)) ∧
    (∃ (s : State),
      s.mayBoot = true ∧
      s.boot.inReset = true ∧
      strongest s.boot.asserted < kSOFT ∧
      (s.boot.vdda = false ∨ s.boot.vddio = false)) ∧
    (∃ (s : State),
      s.mayBoot = false) ∧
    (∃ (c : Bool) (s : State),
      s.boot.booting = true ∧
      s.boot.waiting = none ∧
      s.bootReady = true ∧
      s.cutAtDone = some c ∧
      s.pd 0 = 2) ∧
    (∃ (s : State),
      (s.boot.booting = false ∨ s.boot.waiting ≠ none ∨ s.bootReady = false)) ∧
    (∃ (live : Fin 4) (s : State),
      s.boot.inReset = false ∧
      s.boot.waiting = none ∧
      s.inDormant = false ∧
      (live.val = s.role ∨ s.get SYS_MISMATCH = 1)) ∧
    (∃ (s : State),
      (s.boot.inReset = true ∨ s.boot.waiting ≠ none ∨ s.inDormant = true)) :=
  ⟨⟨(0 : Fin 4), (fun (r : Fin 4) (s : State) =>
    { s with boot := { s.boot with inReset := true, vdd := true, vdda := true, vddio := true, asserted := 1 + r.val } }.setPd 0 1)
    (0) State.reset, by decide +kernel⟩,
   ⟨(0 : Fin 4), (1 : Fin 4), (2 : Fin 4), (1 : Fin 4), (fun (s1 : Fin 4) (s : State) =>
     { s with boot := { s.boot with inReset := true, vdd := true, vdda := true, vddio := true, asserted := 1 + s1.val } }.setPd 0
     1) (0) State.reset, by decide +kernel⟩,
   ⟨(fun (s : State) => (if s.regs.length % 2 = 0 then s else
     { s with boot := { s.boot with booting := true, waiting := none } })) (up 0), by decide +kernel⟩,
   ⟨(3 : Fin 4), (up 0), by decide +kernel⟩,
   ⟨(0 : Fin 4), (fun (s : State) =>
     ((({ s with boot := { s.boot with inReset := false, booting := false, vdd := true, vdda := true, vddio := true }, yard := { s.yard with pstate := 4, exit := some ⟨4, 0, 1, none, true, 2⟩ }, shadow := { s.shadow with pfCommitted := false } }.put
     YARD_MODE 0).put SEQ_BOOT_DONE 0).put SYS_SAFE 0)) State.reset, by decide +kernel⟩,
   ⟨(fun (s1 : Fin 4) (s : State) =>
     { s with boot := { s.boot with inReset := true, vdd := true, asserted := 16 * (1 + s1.val % 3) } }.setPd 0 1) (0)
     State.reset, by decide +kernel⟩,
   ⟨(fun (s1 : Fin 4) (s : State) =>
     { s with boot := { s.boot with inReset := true, vdd := true, vdda := s1.val = 0, vddio := s1.val = 1, asserted := 1 + s1.val } }.setPd
     0 1) (0) State.reset, by decide +kernel⟩,
   ⟨(up 0), by decide +kernel⟩,
   ⟨(true : Bool), (fun (c : Bool) (s : State) => (if s.regs.length % 2 = 0 then
     { s.setPd 0 2 with boot := { s.boot with cut := some c } } else
     { s.setPd 0 2 with boot := { s.boot with booting := true, waiting := none, cut := some c } })) (true) (up 0),
     by decide +kernel⟩,
   ⟨State.reset, by decide +kernel⟩,
   ⟨(0 : Fin 4), (fun (s : State) => s.put SYS_MISMATCH (s.freeCtr % 2)) (up 0), by decide +kernel⟩,
   ⟨(fun (s : State) => { s with boot := { s.boot with inReset := true } }) State.reset, by decide +kernel⟩⟩

theorem test_hyps_Supplies :
    (∃ (k : Fin 3) (s : State),
      s.boot.inReset = false ∧
      s.safe = false ∧
      s.inDormant = false ∧
      s.boot.waiting = none ∧
      s.yard.trans = none ∧
      ((if k.val = 0 then s.boot.vdda else if k.val = 1 then s.boot.vddio else s.boot.vddphy) = true)) ∧
    (∃ (k : Fin 3) (s : State),
      bitAt s.yard.lostSupplies k.val = true) ∧
    (∃ (k : Fin 4) (s : State),
      (k.val = 0 ∨ bitAt s.yard.lostSupplies (k.val - 1) = false) ∧
      s.boot.waiting = none) ∧
    (∃ (mv : Nat) (s : State),
      mv < 7000 ∧
      s.get PIN_VBAT_LOW = 0) ∧
    (∃ (mv : Nat) (s : State),
      40000 < mv ∧
      s.get PIN_VBAT_HIGH = 0) ∧
    (∃ (k : Fin 3) (s : State),
      ((if k.val = 0 then s.boot.vdda else if k.val = 1 then s.boot.vddio else s.boot.vddphy) = false ∨ s.boot.inReset = true ∨
        s.safe = true ∨ s.inDormant = true ∨ s.boot.waiting ≠ none ∨ s.toDormant = true)) ∧
    (∃ (k : Fin 3) (s : State),
      bitAt s.yard.lostSupplies k.val = false) ∧
    (∃ (k : Fin 4) (s : State),
      k.val ≠ 0 ∧
      bitAt s.yard.lostSupplies (k.val - 1) = true) ∧
    (∃ (k : Fin 4) (w : Nat × Nat × Nat × Nat × Nat × Bool) (s : State),
      (k.val = 1 ∨ k.val = 2) ∧
      bitAt s.yard.lostSupplies (k.val - 1) = false ∧
      s.boot.waiting = some w ∧
      ((if k.val = 1 then s.boot.vddio else s.boot.vdda) = true)) ∧
    (∃ (mv : Nat) (s : State),
      (7000 ≤ mv ∧ mv ≤ 40000 ∨ mv < 7000 ∧ s.get PIN_VBAT_LOW = 1 ∨ 40000 < mv ∧ s.get PIN_VBAT_HIGH = 1)) :=
  ⟨⟨(2 : Fin 3), (fun (s : State) =>
    { s with boot := { s.boot with vdda := true, vddio := true, vddphy := true, waiting := none, inReset := false }, yard := { s.yard with trans := none } })
    State.reset, by decide +kernel⟩,
   ⟨(2 : Fin 3), (fun (s : State) => { s with yard := { s.yard with lostSupplies := 7 } }) State.reset, by decide +kernel⟩,
   ⟨(0 : Fin 4), State.reset, by decide +kernel⟩,
   ⟨(17 : Nat), (fun (s : State) => s.put PIN_VBAT_LOW 0) State.reset, by decide +kernel⟩,
   ⟨(58650 : Nat), (fun (s : State) => s.put PIN_VBAT_HIGH 0) State.reset, by decide +kernel⟩,
   ⟨(2 : Fin 3), (fun (s : State) => (if s.freeCtr % 2 = 0 then s.put SYS_SAFE 1 else s)) State.reset, by decide +kernel⟩,
   ⟨(2 : Fin 3), State.reset, by decide +kernel⟩,
   ⟨(1 : Fin 4), (fun (s : State) => { s with yard := { s.yard with lostSupplies := 7 } }) State.reset, by decide +kernel⟩,
   ⟨(1 : Fin 4), ((2, 0, 1, 1, 0, false) : Nat × Nat × Nat × Nat × Nat × Bool), (fun (w : Nat × Nat × Nat × Nat × Nat × Bool) (s :
     State) =>
     { s with yard := { s.yard with lostSupplies := 0 }, boot := { s.boot with waiting := some w, booting := true, vdda := true, vddio := true, inReset := false } })
     ((2, 0, 1, 1, 0, false)) State.reset, by decide +kernel⟩,
   ⟨(17 : Nat), (fun (s : State) => (s.put PIN_VBAT_LOW 1).put PIN_VBAT_HIGH (s.freeCtr % 2)) State.reset, by decide +kernel⟩⟩

theorem test_hyps_ModeCommands :
    (∃ (m : Master) (data : Word) (s : State),
      s.accepts m.num 0x001 0x040 data.toNat = true ∧
      data.toNat % 4 = s.mode) ∧
    (∃ (m : Master) (data : Word) (s : State),
      s.accepts m.num 0x001 0x040 data.toNat = true ∧
      data.toNat % 4 ≠ s.mode) ∧
    (∃ (m : Master) (data : Word) (s : State),
      s.accepts m.num 0x001 0x048 data.toNat = true ∧
      s.portsSettled = true ∧
      (∀ w ∈ s.vid, w.live = false ∧ w.csi = false) ∧
      s.vid.length = 4 ∧
      (s.port 0).sending = false ∧
      s.vout.raster = false) ∧
    (∃ (v : Service) (s : State),
      s.yard.service = some v ∧
      v.slot ≠ 0 ∧
      v.holdLeft = 0 ∧
      s.mode = SERVICE ∧
      s.busy = false ∧
      s.yard.autoReturn = false ∧
      s.yard.scanTask = false ∧
      s.l4Limit = none) ∧
    (∃ (m : Master) (data : Word) (n : Nat) (r : Refuse) (s : State),
      s.serves = true ∧
      s.sources m.num = true ∧
      s.coreOn = true ∧
      s.writeCheck m.num 0x001 0x040 data.toNat = some (r, true) ∧
      s.busy = false ∧
      s.mode ≠ DORMANT ∧
      data.toNat % 4 = DORMANT ∧
      s.l4Limit = some n ∧
      (¬(s.mode = SERVICE ∧ s.gran.cur.any (fun j => j.host && !j.ops.isEmpty) = true)) ∧
      s.host.posted = []) ∧
    (∃ (m : Master) (data : Word) (s : State),
      s.accepts m.num 0x001 0x048 data.toNat = true ∧
      s.portsSettled = true) ∧
    (∃ (v : Service) (n : Nat) (s : State),
      s.yard.service = some v ∧
      v.slot ≠ 0 ∧
      v.holdLeft = 0 ∧
      s.mode = SERVICE ∧
      s.busy = false ∧
      s.yard.autoReturn = false ∧
      s.yard.scanTask = false ∧
      s.l4Limit = some n ∧
      s.coreOn = true) ∧
    (∃ (v : Service) (s : State),
      s.yard.service = some v ∧
      v.slot ≠ 0 ∧
      v.holdLeft = 0 ∧
      s.mode = SERVICE ∧
      s.busy = true ∧
      s.yard.autoReturn = false ∧
      s.yard.scanTask = false) ∧
    (∃ (v : Service) (s : State),
      (s.yard.service = none ∨ s.yard.service = some v) ∧
      (s.yard.service = none ∨ v.slot = 0 ∨ v.holdLeft ≠ 0 ∨ s.mode ≠ SERVICE ∨ s.yard.autoReturn = true ∨ s.yard.scanTask =
        true)) :=
  ⟨⟨(.m0 : Master), (0x0#32 : Word), (fun (s : State) => (served s).put YARD_MODE_BUSY 0) State.reset, by decide +kernel⟩,
   ⟨(.m2 : Master), (0xffffffff#32 : Word), (fun (s : State) => (served s).put YARD_MODE_BUSY 0) State.reset, by decide +kernel⟩,
   ⟨(.m4 : Master), (0x4e#32 : Word), (fun (s : State) =>
     { served s with vid := List.replicate 4 VidS.idle, vout := { s.vout with raster := false } }) State.reset,
     by decide +kernel⟩,
   ⟨({ slot := 3, holdLeft := 0 } : Service), (fun (s : State) =>
     ((({ s with yard := { s.yard with service := some ⟨3, 0⟩, autoReturn := false, scanTask := false } }).put YARD_MODE 3).put
     YARD_MODE_BUSY 0)) State.reset, by decide +kernel⟩,
   ⟨(.m0 : Master), (0x970#32 : Word), (1 : Nat), ({ code := 2, mask := 0, blocking := false } : Refuse), (fun (s : State) =>
     (((served s).put YARD_MODE_BUSY 0).put YARD_BUDGET 0 0 1 |>.put YARD_BUDGET_EN 1 0 1)) upSeeded, by decide +kernel⟩,
   ⟨(.m4 : Master), (0x4e#32 : Word), (fun (s : State) => served s) State.reset, by decide +kernel⟩,
   ⟨({ slot := 3, holdLeft := 0 } : Service), (1 : Nat), (fun (s : State) =>
     ((((({ s with yard := { s.yard with service := some ⟨3, 0⟩, autoReturn := false, scanTask := false } }).put YARD_MODE 3).put
     YARD_MODE_BUSY 0)).put YARD_BUDGET 0 0 1 |>.put YARD_BUDGET_EN 1 0 1)) upSeeded, by decide +kernel⟩,
   ⟨({ slot := 3, holdLeft := 0 } : Service), (fun (s : State) =>
     ((({ s with yard := { s.yard with service := some ⟨3, 0⟩, autoReturn := false, scanTask := false } }).put YARD_MODE 3).put
     YARD_MODE_BUSY 1)) State.reset, by decide +kernel⟩,
   ⟨({ slot := 0, holdLeft := 1 } : Service), (fun (v : Service) (s : State) =>
     { s with yard := { s.yard with service := some v } }) ({ slot := 0, holdLeft := 1 }) State.reset, by decide +kernel⟩⟩

theorem test_hyps_ModeTransitions :
    (∃ (x : Trans) (s : State),
      s.yard.trans = some x ∧
      x.entering = false ∧
      x.back = false ∧
      x.target ≠ DORMANT ∧
      x.target < 4 ∧
      x.cause < 8 ∧
      s.boot.booting = false ∧
      s.yard.exit = none ∧
      s.frameRuns = false ∧
      s.nuc.form = 0 ∧
      s.coreOn = true) ∧
    (∃ (x : Trans) (s : State),
      s.yard.trans = some x ∧
      x.entering = false ∧
      x.back = true ∧
      x.target ≠ DORMANT ∧
      s.boot.booting = false ∧
      s.yard.exit = none ∧
      s.frameRuns = false ∧
      s.nuc.form = 0) ∧
    (∃ (x : Trans) (s : State),
      s.yard.trans = some x ∧
      x.entering = false ∧
      x.target = DORMANT ∧
      s.boot.booting = false ∧
      s.yard.exit = none ∧
      s.frameRuns = false ∧
      s.nuc.form = 0 ∧
      s.transitionMay DORMANT = true) ∧
    (∃ (x : Trans) (s : State),
      s.yard.trans = some x ∧
      x.entering = false ∧
      x.back = false ∧
      x.target ≠ DORMANT ∧
      x.target < 4 ∧
      s.boot.booting = false) ∧
    (∃ (x : Trans) (s : State),
      s.yard.trans = some x ∧
      x.entering = false ∧
      x.back = false ∧
      (x.target = LIVE ∨ x.target = SERVICE) ∧
      x.cause < 8 ∧
      s.boot.booting = false ∧
      s.yard.exit = none ∧
      s.mode ≠ SENTRY ∧
      s.frameRuns = true ∧
      s.fpa.row = 0 ∧
      s.nuc.form = 0) ∧
    (∃ (x : Trans) (s : State),
      s.yard.trans = some x ∧
      x.entering = false ∧
      x.back = false ∧
      x.target = SENTRY ∧
      x.cause < 8 ∧
      s.boot.booting = false ∧
      s.yard.exit = none ∧
      s.mode ≠ SENTRY ∧
      s.frameRuns = true ∧
      s.rowsLeft = false ∧
      s.lastFrame.nuc.form = 0) ∧
    (∃ (x : Trans) (s : State),
      (s.yard.trans = none ∨ s.yard.trans = some x) ∧
      (s.yard.trans = none ∨ x.entering = true ∨ s.boot.booting = true ∨ s.yard.exit ≠ none ∨ s.transitionMay x.target = false ∨
        ((x.target = LIVE ∨ x.target = SERVICE) ∧ s.nuc.form ≠ 0))) ∧
    (∃ (x : Trans) (s : State),
      s.yard.trans = some x ∧
      x.entering = false ∧
      x.back = true ∧
      x.target ≠ DORMANT ∧
      s.boot.booting = false) ∧
    (∃ (x : Trans) (s : State),
      s.yard.trans = some x ∧
      (x.entering = true ∨ x.target = DORMANT) ∧
      x.cause < 8 ∧
      s.boot.booting = false) ∧
    (∃ (s : State),
      (s.yard.trans = none ∨ s.boot.booting = true)) :=
  ⟨⟨({ target := 1, cause := 1, entering := false, back := false } : Trans), (fun (x : Trans) (s : State) =>
    { s with yard := { s.yard with trans := some x, exit := none }, boot := { s.boot with booting := false }, nuc := { s.nuc with form := 0 }, fpa := { s.fpa with inFrame := false } })
    ({ target := 1, cause := 1, entering := false, back := false }) (up 0), by decide +kernel⟩,
   ⟨({ target := 3, cause := 5, entering := false, back := true } : Trans), (fun (x : Trans) (s : State) =>
     { s with yard := { s.yard with trans := some x, exit := none }, boot := { s.boot with booting := false }, nuc := { s.nuc with form := 0 }, fpa := { s.fpa with inFrame := false } })
     ({ target := 3, cause := 5, entering := false, back := true }) State.reset, by decide +kernel⟩,
   ⟨({ target := 0, cause := 3, entering := false, back := false } : Trans), (fun (x : Trans) (s : State) =>
     { s with yard := { s.yard with trans := some x, exit := none }, boot := { s.boot with booting := false }, nuc := { s.nuc with form := 0 }, fpa := { s.fpa with inFrame := false } })
     ({ target := 0, cause := 3, entering := false, back := false }) State.reset, by decide +kernel⟩,
   ⟨({ target := 3, cause := 5, entering := false, back := false } : Trans), (fun (x : Trans) (s : State) =>
     { s with yard := { s.yard with trans := some x, exit := none }, boot := { s.boot with booting := false } })
     ({ target := 3, cause := 5, entering := false, back := false }) State.reset, by decide +kernel⟩,
   ⟨({ target := 2, cause := 5, entering := false, back := false } : Trans), (fun (x : Trans) (s : State) =>
     ((({ s with boot := { s.boot with booting := false }, yard := { s.yard with trans := some x, exit := none }, nuc := { s.nuc with form := 0 }, fpa := { s.fpa with inFrame := true, row := 0, on := true } }).put
     YARD_MODE (2 + s.freeCtr % 2)).setPd 1 2)) ({ target := 2, cause := 5, entering := false, back := false }) State.reset,
     by decide +kernel⟩,
   ⟨({ target := 1, cause := 3, entering := false, back := false } : Trans), (fun (x : Trans) (s : State) =>
     ((({ s with boot := { s.boot with booting := false }, yard := { s.yard with trans := some x, exit := none }, nuc := { s.nuc with form := 0 }, fpa := { s.fpa with inFrame := true, row := s.rows, on := true } }).put
     YARD_MODE (2 + s.freeCtr % 2)).setPd 1 2)) ({ target := 1, cause := 3, entering := false, back := false }) State.reset,
     by decide +kernel⟩,
   ⟨({ target := 0, cause := 5, entering := false, back := true } : Trans), (fun (x : Trans) (s : State) =>
     ((({ s with boot := { s.boot with booting := false }, yard := { s.yard with trans := some x, exit := none }, nuc := { s.nuc with form := s.freeCtr % 2 }, fpa := { s.fpa with inFrame := s.freeCtr % 3 = 0, row := s.freeCtr % 5, on := true } }).put
     YARD_MODE (2 + s.freeCtr % 2)).setPd 1 2)) ({ target := 0, cause := 5, entering := false, back := true }) State.reset,
     by decide +kernel⟩,
   ⟨({ target := 3, cause := 5, entering := false, back := true } : Trans), (fun (x : Trans) (s : State) =>
     { s with boot := { s.boot with booting := false }, yard := { s.yard with trans := some x, exit := none } })
     ({ target := 3, cause := 5, entering := false, back := true }) State.reset, by decide +kernel⟩,
   ⟨({ target := 0, cause := 3, entering := true, back := false } : Trans), (fun (x : Trans) (s : State) =>
     { s with boot := { s.boot with booting := false }, yard := { s.yard with trans := some x, exit := none } })
     ({ target := 0, cause := 3, entering := true, back := false }) State.reset, by decide +kernel⟩,
   ⟨(fun (s : State) => (if s.freeCtr % 2 = 0 then { s with yard := { s.yard with trans := none } } else
     { s with boot := { s.boot with booting := true } })) State.reset, by decide +kernel⟩⟩

theorem test_hyps_Timers :
    (∃ (s : State),
      (∀ k ∈ List.range 8, s.on YARD_ARMED 0 k = false) ∧
      s.inDormant = false) ∧
    (∃ (m : Master) (slot : Fin 8) (data : Word) (s : State),
      s.accepts m.num 0x001 (0x114 + 8 * slot.val) data.toNat = true) ∧
    (∃ (m : Master) (slot : Fin 8) (data : Word) (s : State),
      s.accepts m.num 0x001 (0x114 + 8 * slot.val + 4) data.toNat = true) ∧
    (∃ (m : Master) (slot : Fin 8) (tickWord : Bool) (data : Word) (s : State),
      s.serves = true ∧
      s.sources m.num = true ∧
      s.coreOn = true ∧
      s.writeCheck m.num 0x001 (0x114 + 8 * slot.val + 4 * bit tickWord) data.toNat = some (⟨cBUSY, 0, false⟩, true)) ∧
    (∃ (slot : Fin 8) (s : State),
      s.slotDue slot.val = true ∧
      s.boot.inReset = false ∧
      s.safe = false ∧
      slot.val ≠ 1 ∧
      (slot.val ≠ 2 ∨ s.senPaced = false)) ∧
    (∃ (s : State),
      s.slotDue 0 = true ∧
      s.boot.inReset = false ∧
      s.safe = false ∧
      s.inDormant = false) ∧
    (∃ (s : State),
      s.slotDue 1 = true ∧
      s.boot.inReset = false ∧
      s.safe = false ∧
      s.calRuns = false ∧
      s.yard.exit = none ∧
      s.yard.entering = false ∧
      s.yard.pstate ≠ 0) ∧
    (∃ (s : State),
      s.slotDue 2 = true ∧
      s.boot.inReset = false ∧
      s.safe = false ∧
      s.mode = SENTRY ∧
      s.get HDR_EN 0x054 = 1 ∧
      s.frameRuns = false ∧
      s.fpa.on = true ∧
      s.fpa.ovl = false ∧
      s.yard.exit = none ∧
      s.yard.pstate = 0 ∧
      s.yard.entering = false ∧
      s.wants 1 = true ∧
      s.pd 1 = 2 ∧
      s.busy = false) ∧
    (∃ (slot : Fin 8) (s : State),
      3 ≤ slot.val ∧
      s.slotDue slot.val = true ∧
      s.boot.inReset = false ∧
      s.safe = false ∧
      s.boot.booting = false ∧
      s.cutHolds = false ∧
      s.mode ≠ DORMANT ∧
      s.yard.trans = none ∧
      s.yard.exit = none ∧
      s.yard.entering = false ∧
      1 ≤ s.yard.pstate ∧
      s.yard.pstate ≤ 3) ∧
    (∃ (slot : Fin 8) (s : State),
      3 ≤ slot.val ∧
      s.slotDue slot.val = true ∧
      s.boot.inReset = false ∧
      s.safe = false ∧
      s.boot.booting = false ∧
      s.cutHolds = false ∧
      s.mode ≠ DORMANT ∧
      s.yard.trans = none ∧
      s.yard.exit = none ∧
      s.yard.entering = false ∧
      s.yard.pstate = 0) ∧
    (∃ (slot : Fin 8) (s : State),
      3 ≤ slot.val ∧
      s.slotDue slot.val = true ∧
      s.boot.inReset = false ∧
      s.safe = false ∧
      s.boot.booting = false ∧
      s.cutHolds = false ∧
      s.mode = DORMANT ∧
      s.yard.pstate = 4 ∧
      s.yard.exit = none ∧
      s.yard.entering = false) ∧
    (∃ (slot : Fin 8) (s : State),
      (s.slotDue slot.val = false ∨ s.boot.inReset = true ∨ s.safe = true)) ∧
    (∃ (s : State),
      s.slotDue 2 = true ∧
      s.boot.inReset = false ∧
      s.safe = false ∧
      s.senPaced = true) :=
  ⟨⟨(fun (s : State) => (List.range 8).foldl (fun s k => s.put YARD_ARMED 0 0 k) s) State.reset, by decide +kernel⟩,
   ⟨(.m2 : Master), (5 : Fin 8), (0x5#32 : Word), (fun (slot : Fin 8) (s : State) => (served s).put YARD_ARMED 0 0 slot.val) (5)
     State.reset, by decide +kernel⟩,
   ⟨(.m2 : Master), (5 : Fin 8), (0x5#32 : Word), (fun (slot : Fin 8) (s : State) => (served s).put YARD_ARMED 0 0 slot.val) (5)
     State.reset, by decide +kernel⟩,
   ⟨(.m2 : Master), (5 : Fin 8), (false : Bool), (0x4e#32 : Word), (fun (slot : Fin 8) (s : State) => ((served s).put YARD_ARMED 1
     0 slot.val).put YARD_HOLDER 3 0 slot.val) (5) State.reset, by decide +kernel⟩,
   ⟨(7 : Fin 8), (fun (slot : Fin 8) (s : State) => (s.armSlot slot.val 0 0).put SYS_SAFE 0) (7) (up 0), by decide +kernel⟩,
   ⟨(fun (s : State) => (s.armSlot 0 0 0).put SYS_SAFE 0) (up 0), by decide +kernel⟩,
   ⟨(fun (s : State) =>
     ({ s with yard := { s.yard with exit := none, entering := false, pstate := 1 + s.regs.length % 2 } }.armSlot 1 0 0).put
     SYS_SAFE 0) (up 0), by decide +kernel⟩,
   ⟨(fun (s : State) =>
     (((((({ s with yard := { s.yard with exit := none, entering := false, pstate := 0, trans := none, cut := false, lostSupplies := 0 }, boot := { s.boot with booting := false, inReset := false }, fpa := { s.fpa with inFrame := false, on := true, ovl := false } }.setPd
     1 2).armSlot 2 0 0).put SYS_SAFE 0).put YARD_MODE SENTRY).put HDR_EN 1 0x054).put SYS_ROLE 0).put YARD_MODE_BUSY 0 |>.put
     YARD_PD_FAULT 0 |>.put SEQ_BOOT_DONE 1) State.reset, by decide +kernel⟩,
   ⟨(6 : Fin 8), (fun (slot : Fin 8) (s : State) =>
     ({ s with yard := { s.yard with pstate := 1 + slot.val % 3, exit := none, trans := none, entering := false, cut := false } }.armSlot
     slot.val 0 0).put SYS_SAFE 0) (6) (upAll 0), by decide +kernel⟩,
   ⟨(6 : Fin 8), (fun (slot : Fin 8) (s : State) =>
     ({ s with yard := { s.yard with pstate := 0, exit := none, trans := none, entering := false, cut := false } }.armSlot
     slot.val 0 0).put SYS_SAFE 0) (6) (upAll 0), by decide +kernel⟩,
   ⟨(5 : Fin 8), (fun (slot : Fin 8) (s : State) =>
     (({ s with yard := { s.yard with pstate := 4, exit := none, cut := false, entering := false, trans := none }, boot := { s.boot with inReset := false, booting := false } }.armSlot
     slot.val 0 0).put SYS_SAFE 0).put YARD_MODE 0) (5) State.reset, by decide +kernel⟩,
   ⟨(0 : Fin 8), State.reset, by decide +kernel⟩,
   ⟨(fun (s : State) => ((((s.armSlot 2 0 0).put SYS_SAFE 0).put HDR_EN 1 0x054).put YARD_MODE SENTRY).setPd 1 2) (up 0),
     by decide +kernel⟩⟩

theorem test_hyps_PowerStates :
    (∃ (deadlineUs : Nat) (s : State),
      s.safe = false ∧
      s.boot.inReset = false ∧
      s.done = true ∧
      s.mode ≠ DORMANT ∧
      s.yard.exit = none ∧
      s.yard.cut = false ∧
      s.yard.entering = false ∧
      s.yard.pstate = 0 ∧
      s.rechooseAll.choose deadlineUs ≠ 0) ∧
    (∃ (deadlineUs : Nat) (s : State),
      s.safe = false ∧
      s.boot.inReset = false ∧
      s.done = true ∧
      s.mode ≠ DORMANT ∧
      s.yard.exit = none ∧
      s.yard.cut = false ∧
      s.yard.entering = false ∧
      s.yard.pstate = 0 ∧
      s.rechooseAll.choose deadlineUs = 0) ∧
    (∃ (s : State),
      s.safe = false ∧
      s.boot.inReset = false ∧
      s.done = true ∧
      s.mode ≠ DORMANT ∧
      s.yard.exit = none ∧
      s.yard.cut = false ∧
      s.yard.entering = true) ∧
    (∃ (s : State),
      s.safe = false ∧
      s.boot.inReset = false ∧
      s.boot.booting = false ∧
      s.cutHolds = false ∧
      s.mode ≠ DORMANT ∧
      s.yard.trans = none ∧
      s.yard.exit = none ∧
      s.yard.entering = false ∧
      1 ≤ s.yard.pstate ∧
      s.yard.pstate ≤ 3) ∧
    (∃ (s : State),
      s.safe = false ∧
      s.boot.inReset = false ∧
      s.boot.booting = false ∧
      s.cutHolds = false ∧
      s.mode ≠ DORMANT ∧
      s.yard.trans = none ∧
      s.yard.exit = none ∧
      s.yard.entering = true ∧
      2 ≤ s.yard.pstate ∧
      s.yard.pstate ≤ 3) ∧
    (∃ (s : State),
      s.safe = false ∧
      s.boot.inReset = false ∧
      s.boot.booting = false ∧
      s.cutHolds = false ∧
      s.mode ≠ DORMANT ∧
      s.yard.trans = none ∧
      s.yard.exit = none ∧
      s.yard.entering = true ∧
      s.yard.pstate = 1) ∧
    (∃ (e : Exit) (s : State),
      s.safe = false ∧
      s.boot.inReset = false ∧
      s.boot.booting = false ∧
      s.cutHolds = false ∧
      s.mode ≠ DORMANT ∧
      s.yard.trans = none ∧
      s.yard.exit = some e ∧
      e.left ≠ 4 ∧
      bitAt e.classes 0 = false) ∧
    (∃ (s : State),
      s.safe = false ∧
      s.boot.inReset = false ∧
      s.boot.booting = false ∧
      s.cutHolds = false ∧
      s.mode = DORMANT ∧
      s.yard.pstate = 4 ∧
      s.yard.entering = false ∧
      s.yard.exit = none) ∧
    (∃ (s : State),
      s.yard.exit = none ∧
      s.yard.entering = false ∧
      s.yard.pstate ≠ 0) ∧
    (∃ (e : Exit) (s : State),
      s.yard.exit = some e ∧
      s.l0Ready e = true ∧
      1 ≤ e.left ∧
      e.left ≤ 4 ∧
      e.band ≤ 4 ∧
      e.classes < 32 ∧
      s.host.i2cBuf = [] ∧
      (s.port 0).held = []) ∧
    (∃ (e : Exit) (s : State),
      s.yard.exit = some e ∧
      s.l0Ready e = false ∧
      (s.port 0).held = []) ∧
    (∃ (s : State),
      (s.safe = true ∨ s.boot.inReset = true ∨ s.done = false ∨ s.mode = DORMANT ∨ s.yard.exit ≠ none ∨ s.yard.cut = true ∨
        (s.yard.entering = false ∧ s.yard.pstate ≠ 0))) ∧
    (∃ (s : State),
      s.safe = false ∧
      s.boot.inReset = false ∧
      s.boot.booting = false ∧
      s.cutHolds = false ∧
      s.mode ≠ DORMANT ∧
      s.yard.trans = none ∧
      s.yard.exit = none ∧
      s.yard.entering = false ∧
      s.yard.pstate = 0) ∧
    (∃ (x : Trans) (s : State),
      s.safe = false ∧
      s.boot.inReset = false ∧
      s.boot.booting = false ∧
      s.cutHolds = false ∧
      s.yard.exit = none ∧
      (¬(s.mode = DORMANT ∧ s.yard.pstate = 4)) ∧
      s.yard.trans = some x ∧
      x.target = DORMANT ∧
      x.entering = true ∧
      (s.pd 0 = 2 ∨ s.pd 0 = 3) ∧
      s.mode ≠ DORMANT) ∧
    (∃ (e : Exit) (s : State),
      s.safe = false ∧
      s.boot.inReset = false ∧
      s.cutHolds = false ∧
      s.yard.exit = some e ∧
      e.left = 4 ∧
      bitAt e.classes 0 = false) ∧
    (∃ (s : State),
      s.safe = false ∧
      s.boot.inReset = false ∧
      s.cutHolds = true ∧
      s.yard.exit = none ∧
      s.headYard = false) ∧
    (∃ (s : State),
      ((s.safe = true ∨ s.boot.inReset = true) ∨ (s.boot.booting = true ∧ s.cutHolds = false ∧ s.yard.exit = none)) ∧
      (s.yard.exit = none ∨ s.headYard = false) ∧
      s.get LINK_STATE 0 ≠ 9) ∧
    (∃ (s : State),
      s.headYard = true ∧
      s.get LINK_STATE 0 = 9 ∧
      s.link.length = 4) ∧
    (∃ (s : State),
      (s.yard.exit ≠ none ∨ (s.yard.entering = false ∧ s.yard.pstate = 0))) ∧
    (∃ (s : State),
      s.yard.exit = none ∧
      (s.port 0).held = []) :=
  ⟨⟨(23911 : Nat),
    (fun (s : State) => (let s := served s; { s with host := HostS.idle, yard := { s.yard with entering := false } }.put YARD_MODE_BUSY 0))
    (upAll 0), by decide +kernel⟩,
   ⟨(0 : Nat), (fun (s : State) => (let s := served s; { s with yard := { s.yard with entering := false } })) (upAll 0),
     by decide +kernel⟩,
   ⟨(fun (s : State) => (let s := served s; { s with yard := { s.yard with entering := true, pstate := 1 + s.regs.length % 3 } }))
     (upAll 0), by decide +kernel⟩,
   ⟨(fun (s : State) =>
     { s with yard := { s.yard with pstate := 1 + s.regs.length % 3, exit := none, trans := none, entering := false, cut := false } })
     (upAll 0), by decide +kernel⟩,
   ⟨(fun (s : State) =>
     { s with yard := { s.yard with pstate := 2 + s.regs.length % 2, exit := none, trans := none, entering := true, cut := false } })
     (upAll 0), by decide +kernel⟩,
   ⟨(fun (s : State) =>
     { s with yard := { s.yard with pstate := 1, exit := none, trans := none, entering := true, cut := false } }) (upAll 0),
     by decide +kernel⟩,
   ⟨({ left := 2, band := 4, classes := 8, slot := none, measured := false, startMode := 3 } : Exit), (fun (e : Exit) (s : State)
     => { s with yard := { s.yard with pstate := e.left, exit := some e, trans := none, cut := false } })
     ({ left := 2, band := 4, classes := 8, slot := none, measured := false, startMode := 3 }) (upAll 0), by decide +kernel⟩,
   ⟨(fun (s : State) =>
     (({ s with yard := { s.yard with pstate := 4, exit := none, cut := false, entering := false, trans := none }, boot := { s.boot with inReset := false, booting := false } }.put
     YARD_MODE 0).put SEQ_BOOT_DONE 0).put SYS_SAFE 0) State.reset, by decide +kernel⟩,
   ⟨(fun (s : State) => { s with yard := { s.yard with pstate := 1 + s.regs.length % 3, exit := none, entering := false } })
     State.reset, by decide +kernel⟩,
   ⟨({ left := 3, band := 0, classes := 14, slot := some 0, measured := true, startMode := 0 } : Exit),
     (fun (e : Exit) (s : State) => (let s := { s with yard := { s.yard with pstate := 1 + e.left % 3, exit := some e, trans := none, cut := false }, boot := { s.boot with booting := false, inReset := false, drain := none }, host := { s.host with i2cBuf := [] } }; let s := ((s.put SEQ_BOOT_DONE 1).put SYS_SAFE 0).setPd 0 2; let s := (s.put CLK_GRANT 0x1FF); let s := s.setPort 0 { s.port 0 with held := [] }; (List.range 8).foldl (fun s i => if s.wants (i+1) then s.setPd (i+1) 2 else s) s))
     ({ left := 3, band := 0, classes := 14, slot := some 0, measured := true, startMode := 0 }) State.reset, by decide +kernel⟩,
   ⟨({ left := 3, band := 0, classes := 14, slot := some 0, measured := true, startMode := 0 } : Exit),
     (fun (e : Exit) (s : State) => (let s := { s with yard := { s.yard with pstate := 1, exit := some e } }; s.setPort 0 { s.port 0 with held := [] }))
     ({ left := 3, band := 0, classes := 14, slot := some 0, measured := true, startMode := 0 }) State.reset, by decide +kernel⟩,
   ⟨State.reset, by decide +kernel⟩,
   ⟨(fun (s : State) =>
     { s with yard := { s.yard with pstate := 0, exit := none, trans := none, entering := false, cut := false } }) (upAll 0),
     by decide +kernel⟩,
   ⟨({ target := 0, cause := 0, entering := true, back := false } : Trans), (fun (x : Trans) (s : State) =>
     { (s.put YARD_MODE_BUSY 1).setPd 0 (2 + s.freeCtr % 2) with yard := { s.yard with exit := none, pstate := 0, trans := some x, cut := false }, boot := { s.boot with booting := false } })
     ({ target := 0, cause := 0, entering := true, back := false }) (upAll 0), by decide +kernel⟩,
   ⟨({ left := 4, band := 2, classes := 8, slot := some 6, measured := false, startMode := 0 } : Exit), (fun (e : Exit) (s :
     State) => { s with yard := { s.yard with exit := some e, cut := false, trans := none } })
     ({ left := 4, band := 2, classes := 8, slot := some 6, measured := false, startMode := 0 }) (up 0), by decide +kernel⟩,
   ⟨(fun (s : State) => { s with yard := { s.yard with trans := some ⟨0, 6, true, false⟩, exit := none } }) (up 0),
     by decide +kernel⟩,
   ⟨(fun (s : State) => (if s.freeCtr % 2 = 0 then
     { s with boot := { s.boot with booting := true }, yard := { s.yard with exit := none, trans := none } } else
     { s with boot := { s.boot with inReset := true } })) State.reset, by decide +kernel⟩,
   ⟨(fun (s : State) => { s.put LINK_STATE 9 0 with yard := { s.yard with roleCopy := some HEAD } }) State.reset,
     by decide +kernel⟩,
   ⟨State.reset, by decide +kernel⟩,
   ⟨(fun (s : State) => (let s := { s with yard := { s.yard with exit := none } }; s.setPort 0 { s.port 0 with held := [] }))
     State.reset, by decide +kernel⟩⟩

theorem test_hyps_YardRegisters :
    (∃ (m : Master) (wc : Fin 5) (data : Word) (s : State),
      s.accepts m.num 0x001 (0x068 + 4 * wc.val) data.toNat = true) ∧
    (∃ (m : Master) (data : Word) (s : State),
      s.accepts m.num 0x002 0x048 data.toNat = true ∧
      s.yard.autoReturn = false) ∧
    (∃ (m : Master) (data : Word) (s : State),
      s.accepts m.num 0x001 0x088 data.toNat = true ∧
      bitAt data.toNat 0 = true) ∧
    (∃ (m : Master) (data : Word) (s : State),
      s.accepts m.num 0x001 0x110 data.toNat = true) ∧
    (∃ (clock : Fin 9) (s : State),
      bitAt s.clockReq clock.val = true ∧
      (clock.val = 1 → s.granted 0 = true) ∧
      (clock.val = 2 → s.granted 1 = true) ∧
      s.pd 0 ≠ 0) ∧
    (∃ (e : Exit) (s : State),
      s.pd 0 = 0 ∧
      s.yard.pstate = 3 ∧
      s.yard.exit = some e ∧
      s.yard.entering = false ∧
      s.boot.inReset = false) ∧
    (∃ (s : State),
      s.get YARD_SRC ≠ 0 ∧
      s.yard.xtal = true) ∧
    (∃ (s : State),
      (s.get YARD_SRC = 0 ∨ s.yard.xtal = false)) ∧
    (∃ (clock : Fin 9) (s : State),
      (bitAt s.clockReq clock.val = false ∨ (clock.val = 1 ∧ s.granted 0 = false) ∨ (clock.val = 2 ∧ s.granted 1 = false)) ∧
      (¬(clock.val = 0 ∧ s.granted 0 = true ∧ s.pd 0 = 0 ∧ s.yard.pstate = 3))) ∧
    (∃ (m : Master) (data : Word) (s : State),
      s.accepts m.num 0x001 0x088 data.toNat = true ∧
      bitAt data.toNat 0 = false) :=
  ⟨⟨(.m2 : Master), (2 : Fin 5), (0x5#32 : Word), (fun (s : State) => served s) State.reset, by decide +kernel⟩,
   ⟨(.m2 : Master), (0xffffffff#32 : Word), (fun (s : State) => served s) State.reset, by decide +kernel⟩,
   ⟨(.m2 : Master), (0xffffffff#32 : Word), (fun (s : State) => served s) State.reset, by decide +kernel⟩,
   ⟨(.m2 : Master), (0xffffffff#32 : Word), (fun (s : State) => (served s).put YARD_DRAIN_DROP 7 0 2) State.reset,
     by decide +kernel⟩,
   ⟨(0 : Fin 9), State.reset, by decide +kernel⟩,
   ⟨({ left := 3, band := 4, classes := 26, slot := none, measured := false, startMode := 3 } : Exit), (fun (e : Exit) (s : State)
     => { s with yard := { s.yard with pstate := 3, entering := false, exit := some e, trans := none } }.setPd 0 0)
     ({ left := 3, band := 4, classes := 26, slot := none, measured := false, startMode := 3 }) (up 0), by decide +kernel⟩,
   ⟨(fun (s : State) => { s.put YARD_SRC 1 with yard := { s.yard with xtal := true } }) State.reset, by decide +kernel⟩,
   ⟨State.reset, by decide +kernel⟩,
   ⟨(8 : Fin 9), (fun (s : State) => (if s.freeCtr % 2 = 0 then s.put CLK_GRANT 0 else s.put CLK_KEEP 0)) State.reset,
     by decide +kernel⟩,
   ⟨(.m4 : Master), (0x4e#32 : Word), (fun (s : State) => served s) State.reset, by decide +kernel⟩⟩

theorem test_hyps_PowerDomains :
    (∃ (d : Fin 9) (inFlight : Nat) (s : State),
      s.pd d.val = 3 ∧
      bitAt s.yard.drainLogged d.val = false ∧
      0 < inFlight) ∧
    (∃ (d : Fin 9) (s : State),
      s.pd d.val = 3 ∧
      bitAt s.yard.drainLogged d.val = true) ∧
    (∃ (d : Fin 9) (s : State),
      s.pd d.val ≠ 3) ∧
    (∃ (d : Fin 9) (s : State),
      d.val ≠ 0 ∧
      s.pd d.val = 3 ∧
      s.boot.drain = none ∧
      (d.val ≠ 1 ∨ (s.fpa.on = false ∧ s.fpa.ramp = 0))) ∧
    (∃ (x : Trans) (s : State),
      s.yard.trans = some x ∧
      x.entering = true ∧
      x.cause < 8 ∧
      s.pd 0 = 3 ∧
      s.boot.drain = none) ∧
    (∃ (s : State),
      s.pd 0 = 3 ∧
      s.yard.trans = none ∧
      s.yard.entering = true ∧
      s.yard.pstate = 3 ∧
      s.yard.exit = none ∧
      s.boot.drain = none) ∧
    (∃ (d : Fin 9) (s : State),
      s.pd d.val ≠ 3 ∧
      s.boot.drain = none) ∧
    (∃ (d : Fin 9) (s : State),
      d.val ≠ 0 ∧
      s.pd d.val = 1 ∧
      s.supplied d.val = true ∧
      s.clocked d.val = true ∧
      (s.boot.booting && s.boot.soft) = false) ∧
    (∃ (e : Exit) (s : State),
      s.pd 0 = 1 ∧
      s.supplied 0 = true ∧
      s.clocked 0 = true ∧
      s.yard.pstate = 3 ∧
      s.yard.exit = some e ∧
      s.toDormant = false ∧
      s.yard.entering = false) ∧
    (∃ (d : Fin 9) (s : State),
      (s.pd d.val ≠ 1 ∨ s.supplied d.val = false ∨ s.clocked d.val = false)) ∧
    (∃ (d : Fin 9) (s : State),
      d.val ≠ 0 ∧
      s.pd d.val = 1 ∧
      s.supplied d.val = true ∧
      s.coreOn = true) ∧
    (∃ (e : Exit) (s : State),
      s.boot.inReset = false ∧
      s.boot.booting = false ∧
      s.boot.vdd = true ∧
      s.yard.exit = some e ∧
      s.yard.pstate = 3 ∧
      s.pd 0 = 1) ∧
    (∃ (d : Fin 9) (s : State),
      d.val ≠ 0 ∧
      (s.pd d.val ≠ 1 ∨ s.supplied d.val = false)) ∧
    (∃ (m : Master) (word8 : Bool) (data : Word) (s : State),
      (s.accepts m.num 0x001 (if word8 then 0x0E8 else 0x0E4) data.toNat = true)) ∧
    (∃ (d : Fin 9) (s : State),
      s.pd d.val = 3 ∧
      bitAt s.yard.drainLogged d.val = false ∧
      (s.dropFlight d.val).2 = 0) ∧
    (∃ (d : Fin 9) (s : State),
      s.boot.drain ≠ none ∧
      s.boot.inReset = false ∧
      d.val ≠ 0 ∧
      s.pd d.val = 3 ∧
      (d.val ≠ 1 ∨ (s.fpa.on = false ∧ s.fpa.ramp = 0)) ∧
      (∀ k ∈ List.range 8, k + 1 ≠ d.val → s.pd (k + 1) = 0)) ∧
    (∃ (d : Fin 9) (s : State),
      d.val = 1 ∧
      s.pd d.val = 3 ∧
      (s.fpa.on = true ∨ s.fpa.ramp ≠ 0) ∧
      s.boot.drain = none) :=
  ⟨⟨(8 : Fin 9), (1188 : Nat), (fun (d : Fin 9) (s : State) => { s.setPd d.val 3 with yard := { s.yard with drainLogged := 0 } })
    (8) State.reset, by decide +kernel⟩,
   ⟨(8 : Fin 9), (fun (d : Fin 9) (s : State) => { s.setPd d.val 3 with yard := { s.yard with drainLogged := 511 } }) (8)
     State.reset, by decide +kernel⟩,
   ⟨(8 : Fin 9), State.reset, by decide +kernel⟩,
   ⟨(8 : Fin 9), (fun (d : Fin 9) (s : State) => { s.setPd d.val 3 with boot := { s.boot with drain := none } }) (8) State.reset,
     by decide +kernel⟩,
   ⟨({ target := 0, cause := 3, entering := true, back := false } : Trans), (fun (x : Trans) (s : State) =>
     { s.setPd 0 3 with yard := { s.yard with trans := some x }, boot := { s.boot with drain := none } })
     ({ target := 0, cause := 3, entering := true, back := false }) State.reset, by decide +kernel⟩,
   ⟨(fun (s : State) =>
     { s.setPd 0 3 with yard := { s.yard with trans := none, entering := true, pstate := 3, exit := none }, boot := { s.boot with drain := none } })
     State.reset, by decide +kernel⟩,
   ⟨(8 : Fin 9), (fun (s : State) => { s with boot := { s.boot with drain := none } }) State.reset, by decide +kernel⟩,
   ⟨(8 : Fin 9), (fun (d : Fin 9) (s : State) =>
     { s with boot := { s.boot with vdd := true, vdda := true, vddio := true, vddphy := true, inReset := false } }.setPd d.val 1
     |>.put CLK_GRANT 0x1FF) (8) State.reset, by decide +kernel⟩,
   ⟨({ left := 3, band := 4, classes := 5, slot := none, measured := false, startMode := 1 } : Exit),
     (fun (e : Exit) (s : State) => (let s := { s with boot := { s.boot with vdd := true, vdda := true, vddio := true, vddphy := true, inReset := false } }; { s with yard := { s.yard with pstate := 3, exit := some e, entering := false } }.setPd 0 1 |>.put CLK_GRANT 0x1FF))
     ({ left := 3, band := 4, classes := 5, slot := none, measured := false, startMode := 1 }) State.reset, by decide +kernel⟩,
   ⟨(8 : Fin 9), State.reset, by decide +kernel⟩,
   ⟨(7 : Fin 9), (fun (d : Fin 9) (s : State) =>
     { s with boot := { s.boot with vdd := true, vdda := true, vddio := true, vddphy := true } }.setPd d.val 1) (7) (up 0),
     by decide +kernel⟩,
   ⟨({ left := 3, band := 4, classes := 5, slot := none, measured := false, startMode := 1 } : Exit),
     (fun (e : Exit) (s : State) => (let s := { s with boot := { s.boot with vdd := true, vdda := true, vddio := true, vddphy := true, inReset := false } }; { s with boot := { s.boot with booting := false }, yard := { s.yard with pstate := 3, exit := some e } }.setPd 0 1))
     ({ left := 3, band := 4, classes := 5, slot := none, measured := false, startMode := 1 }) State.reset, by decide +kernel⟩,
   ⟨(8 : Fin 9), State.reset, by decide +kernel⟩,
   ⟨(.m2 : Master), (true : Bool), (0x5#32 : Word), (fun (s : State) => (served s).put YARD_PD_FAULT 0xA5) State.reset,
     by decide +kernel⟩,
   ⟨(8 : Fin 9), (fun (d : Fin 9) (s : State) => { s.setPd d.val 3 with yard := { s.yard with drainLogged := 0 } }) (8)
     State.reset, by decide +kernel⟩,
   ⟨(8 : Fin 9), (fun (d : Fin 9) (s : State) => ((List.range 8).foldl (fun s k => s.setPd (k + 1) (if k + 1 = d.val then 3 else
     0)) { s with boot := { s.boot with drain := some false, inReset := false } })) (8) State.reset, by decide +kernel⟩,
   ⟨(1 : Fin 9), (fun (s : State) => { s.setPd 1 3 with fpa := { s.fpa with on := true }, boot := { s.boot with drain := none } })
     State.reset, by decide +kernel⟩⟩

theorem test_hyps_ArrayTimingEnable :
    (∃ (m : Master) (s : State),
      s.accepts m.num 0x010 0x008 1 = true ∧
      s.get HDR_EN 0x010 = 0 ∧
      s.get HDR_EN 0x011 = 1 ∧
      s.fpa.ovl = false ∧
      s.pd 1 = 2 ∧
      s.fpa.on = false) ∧
    (∃ (m : Master) (s : State),
      s.accepts m.num 0x010 0x008 1 = true ∧
      s.get HDR_EN 0x010 = 0 ∧
      s.get HDR_EN 0x011 = 0 ∧
      s.fpa.on = false ∧
      s.fpa.ramp = 0) ∧
    (∃ (m : Master) (s : State),
      s.accepts m.num 0x010 0x008 0 = true ∧
      s.get HDR_EN 0x010 = 1 ∧
      s.fpa.on = true) ∧
    (∃ (m : Master) (s : State),
      s.accepts m.num 0x010 0x008 0 = true ∧
      s.get HDR_EN 0x010 = 1 ∧
      s.fpa.on = false ∧
      s.fpa.ramp = 1) ∧
    (∃ (s : State),
      s.fpa.ramp = 1) ∧
    (∃ (s : State),
      (s.fpa.ramp = 0 ∨ (s.fpa.ramp ≠ 1 ∧ s.pd 1 ≠ 3))) ∧
    (∃ (s : State),
      s.fpa.ramp = 2 ∧
      s.fpa.on = false ∧
      s.pd 1 = 3) ∧
    (∃ (outputs : Fin 16) (s : State),
      2 ≤ s.pd 1 ∧
      outputs.val ≠ 0 ∧
      s.coreOn = true) ∧
    (∃ (outputs : Fin 16) (s : State),
      (s.pd 1 < 2 ∨ outputs.val = 0) ∧
      s.fpa.ovl = false) ∧
    (∃ (m : Master) (s : State),
      s.accepts m.num 0x011 0x0D8 1 = true ∧
      s.fpa.ovl = true) ∧
    (∃ (m : Master) (s : State),
      s.accepts m.num 0x011 0x0D8 1 = true ∧
      s.fpa.ovl = false) :=
  ⟨⟨(.m2 : Master),
    (fun (s : State) => (let s := served s; ({ s with fpa := { s.fpa with on := false, ovl := false, ramp := 0 } }.put HDR_EN 0 0x010).put HDR_EN 1 0x011 |>.setPd 1 2 |>.put BIAS_RAMP_MS (s.regs.length % 2)))
    State.reset, by decide +kernel⟩,
   ⟨(.m2 : Master),
     (fun (s : State) => (let s := served s; ({ s with fpa := { s.fpa with on := false, ovl := false, ramp := 0 } }.put HDR_EN 0 0x010).put HDR_EN 0 0x011 |>.setPd 1 2))
     State.reset, by decide +kernel⟩,
   ⟨(.m2 : Master), (fun (s : State) => (let s := served s; ({ s with fpa := { s.fpa with on := true } }.put HDR_EN 1 0x010)))
     State.reset, by decide +kernel⟩,
   ⟨(.m2 : Master),
     (fun (s : State) => (let s := served s; ({ s with fpa := { s.fpa with on := false, ramp := 1 } }.put HDR_EN 1 0x010)))
     State.reset, by decide +kernel⟩,
   ⟨(fun (s : State) => { s with fpa := { s.fpa with ramp := 1 } }) State.reset, by decide +kernel⟩,
   ⟨(fun (s : State) => { s with fpa := { s.fpa with ramp := 2 } }) State.reset, by decide +kernel⟩,
   ⟨(fun (s : State) => { s with fpa := { s.fpa with ramp := 2, on := false } }.setPd 1 3) State.reset, by decide +kernel⟩,
   ⟨(15 : Fin 16), (fun (s : State) => s.setPd 1 2) (up 0), by decide +kernel⟩,
   ⟨(8 : Fin 16), (fun (s : State) => { s with fpa := { s.fpa with ovl := false } }.setPd 1 0) State.reset, by decide +kernel⟩,
   ⟨(.m0 : Master), (fun (s : State) => (let s := served s; { s with fpa := { s.fpa with ovl := true } })) (upAll 0),
     by decide +kernel⟩,
   ⟨(.m0 : Master), (fun (s : State) => (let s := served s; { s with fpa := { s.fpa with ovl := false } })) (upAll 0),
     by decide +kernel⟩⟩

theorem test_hyps_ArrayFrames :
    (∃ (s : State),
      s.boundaryMay = true ∧
      s.fpa.stop = false) ∧
    (∃ (s : State),
      s.boundaryMay = true ∧
      s.fpa.stop = true) ∧
    (∃ (s : State),
      s.boundaryMay = false) ∧
    (∃ (s : State),
      s.rowsLeft = true ∧
      s.fpa.halt = false) ∧
    (∃ (s : State),
      s.rowsLeft = true ∧
      s.fpa.halt = false ∧
      s.fpa.row = 1 ∧
      s.mill.frame = true ∧
      s.get PIN_TAP_HALT = 0) ∧
    (∃ (s : State),
      s.rowsLeft = true ∧
      s.fpa.halt = false ∧
      2 ≤ s.fpa.row ∧
      s.fpa.row ≤ 7 ∧
      s.mill.frame = true ∧
      s.get PIN_TAP_HALT = 0) ∧
    (∃ (s : State),
      s.rowsLeft = true ∧
      s.fpa.halt = false ∧
      9 ≤ s.fpa.row ∧
      s.fpa.row ≤ s.height + 8 ∧
      s.mill.frame = true ∧
      s.mill.rep = false ∧
      s.fpa.sentry = false ∧
      s.get PIN_TAP_HALT = 0) ∧
    (∃ (s : State),
      s.fpa.halt = true ∧
      s.fpa.on = true) ∧
    (∃ (s : State),
      s.rowsLeft = false ∧
      s.fpa.halt = false) :=
  ⟨⟨(fun (s : State) => (let s := { s with fpa := { s.fpa with on := true, inFrame := false, stop := false, due := true } }.setPd 1 2; let s := (s.put SEQ_BOOT_DONE 1).put CLK_GRANT 0x1FF; if s.regs.length % 2 = 0 then (s.put HDR_EN 1 0x050).put YARD_MODE 2 else s))
    (up 0), by decide +kernel⟩,
   ⟨(fun (s : State) => (({ s with fpa := { s.fpa with on := true, inFrame := false, stop := true, due := true } }.setPd 1 2).put
     SEQ_BOOT_DONE 1).put CLK_GRANT 0x1FF) (upAll 0), by decide +kernel⟩,
   ⟨State.reset, by decide +kernel⟩,
   ⟨(fun (s : State) => (let s := { s with fpa := { s.fpa with on := true, inFrame := true, halt := false, sentry := false, row := if s.regs.length % 2 = 0 then s.height + 14 else (s.regs.length * 7) % s.rows }, mill := { s.mill with frame := true, rep := false }, nuc := { s.nuc with form := 0 } }; s.put PIN_TAP_HALT 0))
     State.reset, by decide +kernel⟩,
   ⟨(fun (s : State) => (let s := { s with fpa := { s.fpa with on := true, inFrame := true, halt := false, sentry := false, row := 1 }, mill := { s.mill with frame := true, rep := false }, nuc := { s.nuc with form := 0 } }; s.put PIN_TAP_HALT 0))
     State.reset, by decide +kernel⟩,
   ⟨(fun (s : State) => (let s := { s with fpa := { s.fpa with on := true, inFrame := true, halt := false, sentry := false, row := 2 + s.regs.length % 6 }, mill := { s.mill with frame := true, rep := false }, nuc := { s.nuc with form := 0 } }; s.put PIN_TAP_HALT 0))
     State.reset, by decide +kernel⟩,
   ⟨(fun (s : State) => (let s := { s with fpa := { s.fpa with on := true, inFrame := true, halt := false, sentry := false, row := 9 + s.regs.length % 30 }, mill := { s.mill with frame := true, rep := false }, nuc := { s.nuc with form := 0 } }; s.put PIN_TAP_HALT 0))
     State.reset, by decide +kernel⟩,
   ⟨(fun (s : State) => { s with fpa := { s.fpa with on := true, halt := true, inFrame := true } }) State.reset,
     by decide +kernel⟩,
   ⟨State.reset, by decide +kernel⟩⟩

theorem test_hyps_Calibrations :
    (∃ (m : Master) (word1 : Bool) (data : Word) (s : State),
      (s.accepts m.num 0x048 (if word1 then 0x05C else 0x058) data.toNat = true) ∧
      s.get CHCAL_DEFER_MAX ≠ 0 ∧
      s.cal.slots.length = 2) ∧
    (∃ (m : Master) (word1 : Bool) (data : Word) (s : State),
      (s.accepts m.num 0x048 (if word1 then 0x05C else 0x058) data.toNat = true) ∧
      s.get CHCAL_DEFER_MAX = 0 ∧
      s.fpa.on = true) ∧
    (∃ (inst : Fin 34) (meas : CalMeas) (k : Nat) (cmp : Nat) (s : State),
      s.cal.slots.length = 2 ∧
      k < 2 ∧
      (s.slot k).stage = 2 ∧
      (s.slot k).inst = inst.val ∧
      (k = 0 ∨ (s.slot 0).stage ≠ 2 ∨ (s.slot 0).inst ≠ inst.val) ∧
      (s.slot k).rest = false ∧
      s.takeovers = true ∧
      chooseCmp (s.get CHCAL_NOISE_MAX) meas = some cmp ∧
      atEnd (ofsSearch meas.sums1) = false ∧
      atEnd (ofsSearch meas.sums2) = false ∧
      atEnd (gainFit (signed 10 (s.get CH_GAIN_TRIM inst.val)) meas.span1) = false ∧
      atEnd (gainFit (signed 10 (s.get CH_GAIN_TRIM inst.val)) meas.span2) = false ∧
      (ofsSearch meas.sums1 - ofsSearch meas.sums2).natAbs ≤ s.get CHCAL_AGREE_OFS ∧
      (gainFit (signed 10 (s.get CH_GAIN_TRIM inst.val)) meas.span1 - gainFit (signed 10 (s.get CH_GAIN_TRIM inst.val))
        meas.span2).natAbs ≤ s.get CHCAL_AGREE_GAIN ∧
      meas.noise2 ≤ s.get CHCAL_NOISE_MAX) ∧
    (∃ (inst : Fin 34) (meas : CalMeas) (k : Nat) (cmp : Nat) (s : State),
      s.cal.slots.length = 2 ∧
      k < 2 ∧
      (s.slot k).stage = 2 ∧
      (s.slot k).inst = inst.val ∧
      (k = 0 ∨ (s.slot 0).stage ≠ 2 ∨ (s.slot 0).inst ≠ inst.val) ∧
      (s.fpa.on = false ∨ (s.slot k).rest = true) ∧
      chooseCmp (s.get CHCAL_NOISE_MAX) meas = some cmp ∧
      atEnd (ofsSearch meas.sums1) = false ∧
      atEnd (ofsSearch meas.sums2) = false ∧
      atEnd (gainFit (signed 10 (s.get CH_GAIN_TRIM inst.val)) meas.span1) = false ∧
      atEnd (gainFit (signed 10 (s.get CH_GAIN_TRIM inst.val)) meas.span2) = false ∧
      (ofsSearch meas.sums1 - ofsSearch meas.sums2).natAbs ≤ s.get CHCAL_AGREE_OFS ∧
      (gainFit (signed 10 (s.get CH_GAIN_TRIM inst.val)) meas.span1 - gainFit (signed 10 (s.get CH_GAIN_TRIM inst.val))
        meas.span2).natAbs ≤ s.get CHCAL_AGREE_GAIN ∧
      meas.noise2 ≤ s.get CHCAL_NOISE_MAX) ∧
    (∃ (inst : Fin 34) (meas : CalMeas) (k : Nat) (cmp : Nat) (s : State),
      s.cal.slots.length = 2 ∧
      k < 2 ∧
      (s.slot k).stage = 2 ∧
      (s.slot k).inst = inst.val ∧
      (k = 0 ∨ (s.slot 0).stage ≠ 2 ∨ (s.slot 0).inst ≠ inst.val) ∧
      (s.slot k).rest = false ∧
      s.takeovers = true ∧
      chooseCmp (s.get CHCAL_NOISE_MAX) meas = some cmp ∧
      atEnd (ofsSearch meas.sums1) = false ∧
      atEnd (ofsSearch meas.sums2) = false ∧
      atEnd (gainFit (signed 10 (s.get CH_GAIN_TRIM inst.val)) meas.span1) = false ∧
      atEnd (gainFit (signed 10 (s.get CH_GAIN_TRIM inst.val)) meas.span2) = false ∧
      s.get CHCAL_NOISE_MAX < meas.noise2) ∧
    (∃ (inst : Fin 34) (meas : CalMeas) (k : Nat) (s : State),
      s.cal.slots.length = 2 ∧
      k < 2 ∧
      (s.slot k).stage = 2 ∧
      (s.slot k).inst = inst.val ∧
      (k = 0 ∨ (s.slot 0).stage ≠ 2 ∨ (s.slot 0).inst ≠ inst.val) ∧
      s.cal.failed.length = 34 ∧
      (s.slot k).rest = false ∧
      s.takeovers = true ∧
      chooseCmp (s.get CHCAL_NOISE_MAX) meas = none) ∧
    (∃ (inst : Fin 34) (e : Nat) (s : State),
      (s.cal.order.find? (fun e => e % 0x100 == inst.val) = some e) ∧
      s.coreOn = true) ∧
    (∃ (inst : Fin 34) (s : State),
      (s.cal.order.find? (fun e => e % 0x100 == inst.val) = none)) ∧
    (∃ (s : State),
      s.get GRAN_DEFER_MAX ≠ 0) ∧
    (∃ (inst : Fin 34) (s : State),
      s.get CH_STATE inst.val = 6 ∧
      s.cal.retry.getD inst.val 0 = 0 ∧
      s.fpa.on = true) ∧
    (∃ (inst : Fin 34) (s : State),
      s.get CH_STATE inst.val = 6 ∧
      s.cal.retry.getD inst.val 0 = 0 ∧
      s.fpa.on = false ∧
      s.cal.slots.length = 2) ∧
    (∃ (s : State),
      s.get GRAN_DEFER_MAX = 0 ∧
      s.gran.cur ≠ none) :=
  ⟨⟨(.m2 : Master), (true : Bool), (0x5#32 : Word), (fun (s : State) => (served s).put YARD_MODE 3) State.reset,
    by decide +kernel⟩,
   ⟨(.m2 : Master), (true : Bool), (0x5#32 : Word), (fun (s : State) => ({ served s with fpa := { s.fpa with on := true } }.put
     CHCAL_DEFER_MAX 0).put YARD_MODE 3) State.reset, by decide +kernel⟩,
   ⟨(1 : Fin 34),
     ({ offset := [3, -28, 122, -23], noise := [14, 46, 20, 19], sums1 := [-1022, -345, -5168, 5920, 2511, -5161, -662, -6358, 2188, -5281], span1 := 56116715, sums2 := [-5219, -256, -4030, 5204, -591, 2094, -5832, -3279, 5069, 6355], span2 := 56116715, noise2 := 49 }
     : CalMeas), (0 : Nat), (0 : Nat), (fun (inst : Fin 34) (s : State) =>
     ({ s with cal := { s.cal with slots := [⟨inst.val, 2, false, 0, 5, 0, 0, 0, 0, none, false⟩, Slot.none] }, fpa := { s.fpa with on := true, ovl := false } }.put
     YARD_MODE 2).put CHCAL_NOISE_MAX 60 |>.put CHCAL_AGREE_OFS 1000 |>.put CHCAL_AGREE_GAIN 1000) (1) State.reset,
     by decide +kernel⟩,
   ⟨(1 : Fin 34),
     ({ offset := [3, -28, 122, -23], noise := [14, 46, 20, 19], sums1 := [-1022, -345, -5168, 5920, 2511, -5161, -662, -6358, 2188, -5281], span1 := 56116715, sums2 := [-5219, -256, -4030, 5204, -591, 2094, -5832, -3279, 5069, 6355], span2 := 56116715, noise2 := 49 }
     : CalMeas), (0 : Nat), (0 : Nat), (fun (inst : Fin 34) (s : State) =>
     ({ s with cal := { s.cal with slots := [⟨inst.val, 2, false, 0, 5, 0, 0, 0, 0, none, false⟩, Slot.none] }, fpa := { s.fpa with on := false, ovl := false } }.put
     YARD_MODE 2).put CHCAL_NOISE_MAX 60 |>.put CHCAL_AGREE_OFS 1000 |>.put CHCAL_AGREE_GAIN 1000) (1) State.reset,
     by decide +kernel⟩,
   ⟨(18 : Fin 34),
     ({ offset := [-119, 84, 19, 150], noise := [30, 52, 38, 15], sums1 := [-1563, -3578, 1765, -1202, -4000, -3449, 3816, 4965, -2014, 5681], span1 := 55884228, sums2 := [3808, 280, -1724, 2205, 5193, -4179, -3841, -3478, -3144, 1275], span2 := 55884228, noise2 := 51 }
     : CalMeas), (0 : Nat), (3 : Nat), (fun (inst : Fin 34) (meas : CalMeas) (s : State) =>
     ({ s with cal := { s.cal with slots := [⟨inst.val, 2, false, 0, 5, 0, 0, 0, 0, none, false⟩, Slot.none] }, fpa := { s.fpa with on := true, ovl := false } }.put
     YARD_MODE 2).put CHCAL_NOISE_MAX (max 1 (meas.noise2 - 1)) |>.put CHCAL_AGREE_OFS 1000 |>.put CHCAL_AGREE_GAIN 1000) (18)
     ({ offset := [-119, 84, 19, 150], noise := [30, 52, 38, 15], sums1 := [-1563, -3578, 1765, -1202, -4000, -3449, 3816, 4965, -2014, 5681], span1 := 55884228, sums2 := [3808, 280, -1724, 2205, 5193, -4179, -3841, -3478, -3144, 1275], span2 := 55884228, noise2 := 51 })
     State.reset, by decide +kernel⟩,
   ⟨(18 : Fin 34),
     ({ offset := [-119, 84, 19, 150], noise := [30, 52, 38, 15], sums1 := [-1563, -3578, 1765, -1202, -4000, -3449, 3816, 4965, -2014, 5681], span1 := 55884228, sums2 := [3808, 280, -1724, 2205, 5193, -4179, -3841, -3478, -3144, 1275], span2 := 55884228, noise2 := 51 }
     : CalMeas), (0 : Nat), (fun (inst : Fin 34) (s : State) =>
     ({ s with cal := { s.cal with slots := [⟨inst.val, 2, false, 0, 5, 0, 0, 0, 0, none, false⟩, Slot.none] }, fpa := { s.fpa with on := true, ovl := false } }.put
     YARD_MODE 2).put CHCAL_NOISE_MAX 1 |>.put CHCAL_AGREE_OFS 1000 |>.put CHCAL_AGREE_GAIN 1000) (18) State.reset,
     by decide +kernel⟩,
   ⟨(29 : Fin 34), (541 : Nat), (fun (inst : Fin 34) (s : State) =>
     { s with cal := { s.cal with order := [inst.val + 0x200, 7] } }) (29) (up 0), by decide +kernel⟩,
   ⟨(18 : Fin 34), State.reset, by decide +kernel⟩,
   ⟨(fun (s : State) => ({ s with cal := { s.cal with trims := [(3, [1, 2]), (5, [7])] } }.put CH_UNSAVED 1 3).put CH_UNSAVED 1 5)
     State.reset, by decide +kernel⟩,
   ⟨(18 : Fin 34), (fun (inst : Fin 34) (s : State) => ({ s with cal := CalS.idle, fpa := { s.fpa with on := true } }.put CH_STATE
     6 inst.val)) (18) State.reset, by decide +kernel⟩,
   ⟨(18 : Fin 34), (fun (inst : Fin 34) (s : State) => ({ s with cal := CalS.idle, fpa := { s.fpa with on := false } }.put
     CH_STATE 6 inst.val)) (18) State.reset, by decide +kernel⟩,
   ⟨(fun (s : State) =>
     ({ s with cal := { s.cal with trims := [(3, [1, 2]), (5, [7])] }, gran := { s.gran with cur := some ⟨2, 4, true, 1, true, [], 0, 0⟩ } }.put
     CH_UNSAVED 1 3).put GRAN_DEFER_MAX 0) State.reset, by decide +kernel⟩⟩

theorem test_hyps_LoftFills :
    (∃ (m : Master) (s : State),
      s.accepts m.num 0x050 0x054 1 = true) ∧
    (∃ (m : Master) (s : State),
      s.accepts m.num 0x050 0x054 2 = true) ∧
    (∃ (m : Master) (fromFactory : Bool) (s : State),
      s.accepts m.num 0x050 0x054 (16 + 32 * bit fromFactory) = true ∧
      s.loadSource fromFactory = none) ∧
    (∃ (m : Master) (fromFactory : Bool) (k : Nat) (retry : Bool) (s : State),
      s.accepts m.num 0x050 0x054 (16 + 32 * bit fromFactory) = true ∧
      s.loadSource fromFactory = some (k, retry)) ∧
    (∃ (load : Bool) (retry : Bool) (want : Nat) (k : Nat) (s : State),
      s.loft.checking = some (load, want, k, retry) ∧
      (s.bank s.inactive).crc = want ∧
      s.coreOn = true) ∧
    (∃ (load : Bool) (retry : Bool) (want : Nat) (k : Nat) (s : State),
      s.loft.checking = some (load, want, k, retry) ∧
      (s.bank s.inactive).crc ≠ want ∧
      (load = false ∨ retry = false)) ∧
    (∃ (want : Nat) (k : Nat) (s : State),
      s.loft.checking = some (true, want, k, true) ∧
      (s.bank s.inactive).crc ≠ want) ∧
    (∃ (s : State),
      s.loft.checking = none) ∧
    (∃ (m : Master) (s : State),
      s.accepts m.num 0x050 0x054 8 = true ∧
      s.fillOpen = true) ∧
    (∃ (m : Master) (s : State),
      s.accepts m.num 0x050 0x054 8 = true ∧
      s.fillOpen = false) ∧
    (∃ (m : Master) (s : State),
      s.accepts m.num 0x050 0x054 4 = true ∧
      (s.frameRuns = true ∨ s.get (completeRow s.inactive) = 0 ∨ s.updating = true)) ∧
    (∃ (m : Master) (s : State),
      s.accepts m.num 0x050 0x054 4 = true ∧
      s.frameRuns = false ∧
      s.mode ≠ SENTRY ∧
      s.mode ≠ DORMANT ∧
      s.updating = false ∧
      s.get (completeRow s.inactive) = 1 ∧
      s.coreOn = true) :=
  ⟨⟨(.m0 : Master), (fun (m : Master) (s : State) => (((served s).put YARD_MODE 2)|>.put LOCK_STATE 1 0 0 |>.put LOCK_OWNER m.num
    0 0 |>.put MILL_TF_STORE 0)) (.m0) (upAll 0), by decide +kernel⟩,
   ⟨(.m0 : Master), (fun (m : Master) (s : State) => (((served s).put YARD_MODE 2)|>.put LOCK_STATE 1 0 0 |>.put LOCK_OWNER m.num
     0 0 |>.put MILL_FILLING 1)) (.m0) (upAll 0), by decide +kernel⟩,
   ⟨(.m2 : Master), (false : Bool), (fun (m : Master) (s : State) => (((served s).put YARD_MODE 2)|>.put LOCK_STATE 1 0 0 |>.put
     LOCK_OWNER m.num 0 0 |>.put MILL_FILLING 0 |>.put MILL_TF_STORE 0)) (.m2) (upAll 0), by decide +kernel⟩,
   ⟨(.m1 : Master), (true : Bool), (0 : Nat), (false : Bool), (fun (m : Master) (s : State) =>
     ({ (((served s).put YARD_MODE 2)|>.put LOCK_STATE 1 0 0 |>.put LOCK_OWNER m.num 0 0 |>.put MILL_FILLING 0 |>.put MILL_TF_STORE 0) with gran := withHeaders s.gran }))
     (.m1) (upAll 0), by decide +kernel⟩,
   ⟨false, false, Image.zero.crc, 0, checkingUp false Image.zero.crc 0 false, checkingUp_checking _ _ _ _,
     congrArg Image.crc (checkingUp_bank _ _ _ _), checkingUp_core _ _ _ _⟩,
   ⟨false, true, Image.zero.crc + 1, 0, checkingUp false (Image.zero.crc + 1) 0 true, checkingUp_checking _ _ _ _,
     by rw [checkingUp_bank]; exact Nat.ne_of_lt (Nat.lt_add_one _), Or.inl rfl⟩,
   ⟨Image.zero.crc + 1, 1, checkingUp true (Image.zero.crc + 1) 1 true, checkingUp_checking _ _ _ _,
     by rw [checkingUp_bank]; exact Nat.ne_of_lt (Nat.lt_add_one _)⟩,
   ⟨(fun (s : State) => { s with loft := { s.loft with checking := none } }) State.reset, by decide +kernel⟩,
   ⟨(.m0 : Master), (fun (m : Master) (s : State) => (((served s).put YARD_MODE 2)|>.put LOCK_STATE 1 0 0 |>.put LOCK_OWNER m.num
     0 0 |>.put MILL_FILLING 1)) (.m0) (upAll 0), by decide +kernel⟩,
   ⟨(.m0 : Master), (fun (m : Master) (s : State) => (({ served s with loft := { s.loft with checking := none } }.put YARD_MODE
     2)|>.put LOCK_STATE 1 0 0 |>.put LOCK_OWNER m.num 0 0 |>.put MILL_FILLING 0)) (.m0) (upAll 0), by decide +kernel⟩,
   ⟨(.m0 : Master), (fun (s : State) => (((served s).put YARD_MODE 2).put MILL_FILLING 0).put MILL_COMPLETE_A 1 |>.put
     MILL_COMPLETE_B 1 |> fun s => { s with fpa := { s.fpa with on := true, inFrame := true } }) (upAll 0), by decide +kernel⟩,
   ⟨(.m0 : Master), (fun (s : State) => (((served s).put YARD_MODE 2).put MILL_FILLING 0).put MILL_COMPLETE_A 1 |>.put
     MILL_COMPLETE_B 1 |> fun s => { s with fpa := { s.fpa with on := false } }) (upAll 0), by decide +kernel⟩⟩

theorem test_hyps_Closures :
    (∃ (m : Master) (force : Bool) (s : State),
      s.accepts m.num 0x052 0x064 (1 + 2 * bit force) = true ∧
      s.nuc.form = 0) ∧
    (∃ (m : Master) (force : Bool) (s : State),
      s.accepts m.num 0x052 0x064 (1 + 2 * bit force) = true ∧
      s.nuc.form ≠ 0) ∧
    (∃ (s : State),
      s.nuc.form ≠ 0 ∧
      s.nuc.closed = true ∧
      s.nuc.measuring = false ∧
      s.nuc.opening = false ∧
      s.nuc.confirmed = false) ∧
    (∃ (s : State),
      s.nuc.form ≠ 0 ∧
      s.nuc.confirmed = true ∧
      s.nuc.opened = false) ∧
    (∃ (s : State),
      s.nuc.form = 0 ∧
      s.nuc.confirmed = true ∧
      s.nuc.opened = false ∧
      s.nuc.bootPulse = true) ∧
    (∃ (s : State),
      s.nuc.form ≠ 0 ∧
      s.nuc.opening = true ∧
      s.nuc.confirmed = false ∧
      s.get SHUT_TYPE = 0 ∧
      s.get SHUT_SETTLE_US ≠ 0) ∧
    (∃ (s : State),
      s.nuc.form ≠ 0 ∧
      s.nuc.opening = true ∧
      s.nuc.confirmed = false ∧
      s.nuc.opened = false ∧
      s.get SHUT_TYPE = 0 ∧
      s.get SHUT_SETTLE_US = 0) ∧
    (∃ (s : State),
      (s.nuc.form = 0 ∨ s.nuc.opening = false ∨ s.nuc.confirmed = true ∨ s.get SHUT_TYPE ≠ 0)) ∧
    (∃ (s : State),
      s.nuc.form ≠ 0 ∧
      s.nuc.closed = false ∧
      s.nuc.opening = false) ∧
    (∃ (s : State),
      (s.nuc.form = 0 ∨ s.nuc.closed = true ∨ s.nuc.opening = true)) ∧
    (∃ (s : State),
      s.get SHUT_TYPE ≠ 0 ∧
      s.get SHUT_FAULTED = 0 ∧
      s.nuc.confirmed = false ∧
      s.nuc.form ≠ 0 ∧
      s.nuc.opening = true ∧
      s.nuc.second = false ∧
      (s.get SHUT_MISS_MAX = 0 ∨ s.get SHUT_MISS + 1 < s.get SHUT_MISS_MAX)) ∧
    (∃ (s : State),
      s.get SHUT_TYPE ≠ 0 ∧
      s.get SHUT_FAULTED = 0 ∧
      s.nuc.confirmed = false ∧
      s.nuc.form ≠ 0 ∧
      s.nuc.opening = true ∧
      s.nuc.second = true) ∧
    (∃ (s : State),
      s.get SHUT_TYPE ≠ 0 ∧
      s.get SHUT_FAULTED = 0 ∧
      s.nuc.confirmed = false ∧
      s.nuc.form = 0 ∧
      s.nuc.bootPulse = true ∧
      s.nuc.bootFail = false ∧
      s.nuc.second = true) ∧
    (∃ (s : State),
      (s.get SHUT_TYPE = 0 ∨ s.get SHUT_FAULTED ≠ 0 ∨ s.nuc.confirmed = true)) :=
  ⟨⟨(.m2 : Master), (false : Bool),
    (fun (s : State) => (let s := served s; ({ s with nuc := { s.nuc with form := 0 } }.put YARD_MODE 3).put HDR_EN 1 0x052 |>.put YARD_POLICY_WHY 0))
    (upAll 0), by decide +kernel⟩,
   ⟨(.m2 : Master), (false : Bool),
     (fun (s : State) => (let s := served s; ({ s with nuc := { s.nuc with form := 1 } }.put YARD_MODE 3).put HDR_EN 1 0x052 |>.put YARD_POLICY_WHY 0))
     (upAll 0), by decide +kernel⟩,
   ⟨(fun (s : State) =>
     { s with nuc := { s.nuc with form := 1, closed := true, measuring := false, opening := false, confirmed := false } })
     State.reset, by decide +kernel⟩,
   ⟨(fun (s : State) =>
     { s with nuc := { s.nuc with form := 1, closed := true, opened := false, bootPulse := false, confirmed := true } })
     State.reset, by decide +kernel⟩,
   ⟨(fun (s : State) => { s with nuc := { s.nuc with form := 0, opened := false, bootPulse := true, confirmed := true } })
     State.reset, by decide +kernel⟩,
   ⟨(fun (s : State) => ({ s with nuc := { s.nuc with form := 1, opening := true, confirmed := false } }.put SHUT_TYPE 0).put
     SHUT_SETTLE_US 400) State.reset, by decide +kernel⟩,
   ⟨(fun (s : State) => ({ s with nuc := { s.nuc with form := 1, opening := true, confirmed := false, opened := false } }.put
     SHUT_TYPE 0).put SHUT_SETTLE_US 0) State.reset, by decide +kernel⟩,
   ⟨State.reset, by decide +kernel⟩,
   ⟨(fun (s : State) => { s with nuc := { s.nuc with form := 1, opening := false, closed := false } }) State.reset,
     by decide +kernel⟩,
   ⟨State.reset, by decide +kernel⟩,
   ⟨(fun (s : State) => ({ s with nuc := { s.nuc with form := 1, opening := true, confirmed := false, second := false } }.put
     SHUT_TYPE 1).put SHUT_FAULTED 0) State.reset, by decide +kernel⟩,
   ⟨(fun (s : State) => ({ s with nuc := { s.nuc with form := 1, opening := true, confirmed := false, second := true } }.put
     SHUT_TYPE 1).put SHUT_FAULTED 0) State.reset, by decide +kernel⟩,
   ⟨(fun (s : State) =>
     ({ s with nuc := { s.nuc with form := 0, bootPulse := true, bootFail := false, confirmed := false, second := true } }.put
     SHUT_TYPE 1).put SHUT_FAULTED 0) State.reset, by decide +kernel⟩,
   ⟨State.reset, by decide +kernel⟩⟩

theorem test_hyps_ClosureKeeping :
    (∃ (a : Nat) (s : State),
      s.nuc.deferAt = some a ∧
      s.get NUC_DEFER_MAX ≤ s.get NUC_DEFER_S ∧
      s.get NUC_DEFER_EXP = 0) ∧
    (∃ (s : State),
      (s.nuc.deferAt = none ∨ s.get NUC_DEFER_S < s.get NUC_DEFER_MAX ∨ s.get NUC_DEFER_EXP ≠ 0)) ∧
    (∃ (j : Job) (s : State),
      ((s.gran.cur.toList ++ s.gran.jobs).find? (fun j => j.op == jFIELD) = some j) ∧
      j.code = 0 ∧
      (j.arg = 1 ∨ j.arg = 2)) ∧
    (∃ (j : Job) (s : State),
      ((s.gran.cur.toList ++ s.gran.jobs).find? (fun j => j.op == jFIELD) = some j) ∧
      j.code ≠ 0) ∧
    (∃ (s : State),
      ((s.gran.cur.toList ++ s.gran.jobs).find? (fun j => j.op == jFIELD) = none)) ∧
    (∃ (m : Master) (s : State),
      s.accepts m.num 0x065 0x060 1 = true ∧
      s.frameRuns = false ∧
      s.axesKept = false) ∧
    (∃ (m : Master) (s : State),
      s.accepts m.num 0x065 0x060 1 = true ∧
      s.frameRuns = true) :=
  ⟨⟨(17 : Nat), (fun (a : Nat) (s : State) => ({ s with nuc := { s.nuc with deferAt := some a } }.put NUC_DEFER_S 4000).put
    NUC_DEFER_EXP 0) (17) State.reset, by decide +kernel⟩,
   ⟨State.reset, by decide +kernel⟩,
   ⟨({ op := 35, rank := 2, refusable := false, master := 7, started := true, ops := [], code := 0, arg := 1 } : Job), (fun (j :
     Job) (s : State) => { s with gran := { s.gran with cur := none, jobs := [j] } })
     ({ op := 35, rank := 2, refusable := false, master := 7, started := true, ops := [], code := 0, arg := 1 }) State.reset,
     by decide +kernel⟩,
   ⟨({ op := 35, rank := 2, refusable := false, master := 7, started := true, ops := [], code := 129, arg := 1 } : Job), (fun (j :
     Job) (s : State) => { s with gran := { s.gran with cur := none, jobs := [{ j with code := 0x81 }] } })
     ({ op := 35, rank := 2, refusable := false, master := 7, started := true, ops := [], code := 129, arg := 1 }) State.reset,
     by decide +kernel⟩,
   ⟨State.reset, by decide +kernel⟩,
   ⟨(.m0 : Master), (fun (s : State) => (let s := served s; { s with fpa := { s.fpa with inFrame := false } }.put SHUT_FAULTED 1))
     (upAll 0), by decide +kernel⟩,
   ⟨(.m0 : Master),
     (fun (s : State) => (let s := served s; { s with fpa := { s.fpa with inFrame := true, on := true, sentry := false } }.put SHUT_FAULTED 1))
     (upAll 0), by decide +kernel⟩⟩

theorem test_hyps_ActuatorProfiles :
    (∃ (m : Master) (n : Fin 4) (s : State),
      s.accepts m.num (solPage n.val) 0x078 1 = true ∧
      s.sol.length = 4 ∧
      s.get SOL_PHASE n.val = 0 ∧
      s.get SOL_PENDING n.val = 0 ∧
      (s.chan n.val).watch = false ∧
      ((s.chan n.val).minOff = false ∨ s.get SOL_RETRIG n.val = 1) ∧
      ((s.chan n.val).off).waitsBat = false ∧
      s.get SOL_T_BOOST_MAX n.val = 0 ∧
      (s.get SOL_T_PEAK n.val ≠ 0 ∨ s.hasHold n.val = true)) ∧
    (∃ (m : Master) (n : Fin 4) (s : State),
      s.accepts m.num (solPage n.val) 0x078 1 = true ∧
      s.sol.length = 4 ∧
      s.get SOL_PHASE n.val = 0 ∧
      s.get SOL_PENDING n.val = 0 ∧
      (s.chan n.val).watch = false ∧
      ((s.chan n.val).minOff = false ∨ s.get SOL_RETRIG n.val = 1) ∧
      s.get SOL_T_BOOST_MAX n.val ≠ 0 ∧
      ((s.chan n.val).off).waitsBst = false ∧
      (s.get BOOST_HOLDER = n.val ∨ (s.get BOOST_HOLDER = 7 ∧ s.railFirst n.val = true)) ∧
      (s.get SOL_BNR_EN n.val = 0 ∨ s.get BOOST_READY = 1)) ∧
    (∃ (m : Master) (n : Fin 4) (s : State),
      s.accepts m.num (solPage n.val) 0x078 1 = true ∧
      s.sol.length = 4 ∧
      s.get SOL_PHASE n.val = 0 ∧
      s.get SOL_PENDING n.val = 0 ∧
      (s.chan n.val).watch = false ∧
      ((s.chan n.val).minOff = false ∨ s.get SOL_RETRIG n.val = 1) ∧
      s.get SOL_T_BOOST_MAX n.val ≠ 0 ∧
      (s.get BOOST_HOLDER = n.val ∨ (s.get BOOST_HOLDER = 7 ∧ s.railFirst n.val = true)) ∧
      s.get SOL_BNR_EN n.val = 1 ∧
      s.get BOOST_READY = 0 ∧
      s.get SOL_T_BST_WAIT n.val ≠ 0) ∧
    (∃ (m : Master) (n : Fin 4) (s : State),
      s.accepts m.num (solPage n.val) 0x078 1 = true ∧
      s.sol.length = 4 ∧
      s.get SOL_PHASE n.val = 0 ∧
      s.get SOL_PENDING n.val = 0 ∧
      (s.chan n.val).watch = false ∧
      ((s.chan n.val).minOff = false ∨ s.get SOL_RETRIG n.val = 1) ∧
      s.get SOL_T_BOOST_MAX n.val ≠ 0 ∧
      s.get BOOST_HOLDER ≠ n.val ∧
      (s.get BOOST_HOLDER ≠ 7 ∨ s.railFirst n.val = false) ∧
      (s.isShut n.val = true ∨ s.get SOL_BST_DEFER n.val ≠ 0)) ∧
    (∃ (m : Master) (n : Fin 4) (s : State),
      s.accepts m.num (solPage n.val) 0x078 1 = true ∧
      s.sol.length = 4 ∧
      s.get SOL_PHASE n.val = 0 ∧
      s.get SOL_PENDING n.val = 0 ∧
      (s.chan n.val).watch = false ∧
      ((s.chan n.val).minOff = false ∨ s.get SOL_RETRIG n.val = 1) ∧
      s.get SOL_T_BOOST_MAX n.val ≠ 0 ∧
      s.get BOOST_HOLDER ≠ n.val ∧
      (s.get BOOST_HOLDER ≠ 7 ∨ s.railFirst n.val = false) ∧
      s.isShut n.val = false ∧
      s.get SOL_BST_DEFER n.val = 0) ∧
    (∃ (m : Master) (n : Fin 4) (s : State),
      s.accepts m.num (solPage n.val) 0x078 1 = true ∧
      s.sol.length = 4 ∧
      s.get SOL_PHASE n.val = 0 ∧
      s.get SOL_PENDING n.val = 0 ∧
      (s.chan n.val).watch = false ∧
      ((s.chan n.val).minOff = false ∨ s.get SOL_RETRIG n.val = 1) ∧
      s.get SOL_T_BOOST_MAX n.val = 0 ∧
      s.get SOL_T_PEAK n.val = 0 ∧
      s.hasHold n.val = false) ∧
    (∃ (m : Master) (n : Fin 4) (s : State),
      s.accepts m.num (solPage n.val) 0x078 1 = true ∧
      s.sol.length = 4 ∧
      (s.get SOL_PHASE n.val = 4 ∨ s.on SOL_PENDING n.val = true)) ∧
    (∃ (m : Master) (n : Fin 4) (s : State),
      s.accepts m.num (solPage n.val) 0x078 1 = true ∧
      s.sol.length = 4 ∧
      s.get SOL_PHASE n.val ≠ 4 ∧
      s.on SOL_PENDING n.val = false ∧
      ((s.chan n.val).watch = true ∨ (s.on SOL_RETRIG n.val = false ∧ (s.get SOL_PHASE n.val ≠ 0 ∨ (s.chan n.val).minOff =
        true)))) ∧
    (∃ (m : Master) (n : Fin 4) (s : State),
      s.accepts m.num (solPage n.val) 0x078 1 = true ∧
      s.sol.length = 4 ∧
      (s.get SOL_PHASE n.val = 2 ∨ s.get SOL_PHASE n.val = 3) ∧
      s.on SOL_PENDING n.val = false ∧
      (s.chan n.val).watch = false ∧
      s.on SOL_RETRIG n.val = true ∧
      s.get SOL_T_BOOST_MAX n.val = 0 ∧
      s.get SOL_T_PEAK n.val ≠ 0 ∧
      ((s.chan n.val).off).waitsBat = false) ∧
    (∃ (m : Master) (n : Fin 4) (s : State),
      s.accepts m.num (solPage n.val) 0x078 2 = true ∧
      s.sol.length = 4) ∧
    (∃ (n : Fin 4) (s : State),
      s.sol.length = 4 ∧
      (s.chan n.val).started = true ∧
      s.get SOL_PHASE n.val = 1 ∧
      s.get SOL_T_PEAK n.val ≠ 0 ∧
      (s.chan n.val).sw = 1) ∧
    (∃ (n : Fin 4) (s : State),
      s.sol.length = 4 ∧
      (s.chan n.val).started = true ∧
      s.get SOL_PHASE n.val = 2 ∧
      s.get SOL_PENDING n.val = 0 ∧
      (s.chan n.val).sw = 2 ∧
      (s.chan n.val).dead = 0) ∧
    (∃ (n : Fin 4) (s : State),
      s.sol.length = 4 ∧
      (s.chan n.val).started = true ∧
      s.get SOL_PHASE n.val = 3 ∧
      s.holdUntil n.val = false ∧
      s.get SOL_PENDING n.val = 0) ∧
    (∃ (n : Fin 4) (s : State),
      s.sol.length = 4 ∧
      (s.chan n.val).started = true ∧
      (s.chan n.val).minOff = false ∧
      (s.chan n.val).watch = false ∧
      s.get SOL_PHASE n.val = 3 ∧
      s.holdUntil n.val = false ∧
      s.on SOL_PENDING n.val = true ∧
      s.get SOL_RETRIG n.val = 0 ∧
      s.get SOL_T_MIN_OFF n.val = 0 ∧
      s.get SOL_T_BOOST_MAX n.val = 0 ∧
      s.get SOL_T_PEAK n.val ≠ 0 ∧
      ((s.chan n.val).off).waitsBat = false) ∧
    (∃ (n : Fin 4) (s : State),
      ((s.chan n.val).started = false ∨ (s.get SOL_PHASE n.val = 3 ∧ s.holdUntil n.val = true))) ∧
    (∃ (n : Fin 4) (tUs : Nat) (s : State),
      s.sol.length = 4 ∧
      (s.chan n.val).started = true ∧
      (s.chan n.val).peakDone = false ∧
      (s.get SOL_PHASE n.val = 2 ∨ s.get SOL_PHASE n.val = 3) ∧
      (s.get SOL_TPK_EN n.val = 0 ∨ s.get SOL_TPK_MIN n.val ≤ tUs)) ∧
    (∃ (n : Fin 4) (tUs : Nat) (s : State),
      s.sol.length = 4 ∧
      (s.chan n.val).started = true ∧
      (s.chan n.val).peakDone = false ∧
      (s.get SOL_PHASE n.val = 2 ∨ s.get SOL_PHASE n.val = 3) ∧
      s.get SOL_TPK_EN n.val = 1 ∧
      tUs < s.get SOL_TPK_MIN n.val ∧
      s.get SOL_TPK_ABORT n.val = 0 ∧
      s.coreOn = true) ∧
    (∃ (n : Fin 4) (tUs : Nat) (s : State),
      s.sol.length = 4 ∧
      (s.chan n.val).started = true ∧
      (s.chan n.val).peakDone = false ∧
      s.get SOL_PHASE n.val = 1 ∧
      s.get SOL_T_PEAK n.val ≠ 0 ∧
      (s.chan n.val).sw = 1 ∧
      (s.get SOL_TPK_EN n.val = 0 ∨ s.get SOL_TPK_MIN n.val ≤ tUs)) ∧
    (∃ (n : Fin 4) (s : State),
      (s.chan n.val).started = false) ∧
    (∃ (m : Master) (n : Fin 4) (s : State),
      s.accepts m.num (solPage n.val) 0x078 1 = true ∧
      s.sol.length = 4 ∧
      s.get SOL_PHASE n.val = 0 ∧
      s.get SOL_PENDING n.val = 0 ∧
      (s.chan n.val).watch = false ∧
      ((s.chan n.val).minOff = false ∨ s.get SOL_RETRIG n.val = 1) ∧
      ((s.chan n.val).off).waitsBat = true ∧
      s.get SOL_T_BOOST_MAX n.val = 0 ∧
      (s.get SOL_T_PEAK n.val ≠ 0 ∨ s.hasHold n.val = true)) ∧
    (∃ (m : Master) (n : Fin 4) (s : State),
      s.accepts m.num (solPage n.val) 0x078 1 = true ∧
      s.sol.length = 4 ∧
      s.get SOL_PHASE n.val = 0 ∧
      s.get SOL_PENDING n.val = 0 ∧
      (s.chan n.val).watch = false ∧
      ((s.chan n.val).minOff = false ∨ s.get SOL_RETRIG n.val = 1) ∧
      s.get SOL_T_BOOST_MAX n.val ≠ 0 ∧
      ((s.chan n.val).off).waitsBst = true ∧
      (s.get BOOST_HOLDER = n.val ∨ (s.get BOOST_HOLDER = 7 ∧ s.railFirst n.val = true)) ∧
      (s.get SOL_BNR_EN n.val = 0 ∨ s.get BOOST_READY = 1)) ∧
    (∃ (n : Fin 4) (s : State),
      s.sol.length = 4 ∧
      (s.chan n.val).started = true ∧
      (s.chan n.val).minOff = false ∧
      (s.chan n.val).watch = false ∧
      s.get SOL_PHASE n.val = 3 ∧
      s.holdUntil n.val = false ∧
      s.on SOL_PENDING n.val = true ∧
      s.get SOL_RETRIG n.val = 0 ∧
      s.get SOL_T_MIN_OFF n.val = 0 ∧
      s.get SOL_T_BOOST_MAX n.val = 0 ∧
      s.get SOL_T_PEAK n.val ≠ 0 ∧
      ((s.chan n.val).off).waitsBat = true) :=
  ⟨⟨(.m2 : Master), (2 : Fin 4),
    (fun (n : Fin 4) (s : State) => (let s : State := served s; let s : State := { s with sol := (List.replicate 4 SolS.idle) }; let s : State := s.setChan n.val SolS.idle; let s : State := (s.put SOL_PHASE 0 n.val).put HDR_EN 1 (solPage n.val); let s : State := ((s.put SHUT_CH_CLOSE 7).put SHUT_TYPE 0).put SOL_PENDING 0 n.val; let s : State := (((s.put SOL_TRIPPED 0 n.val).put SOL_LATCH 0 n.val).put SOL_HOT 0 n.val).put SOL_INHIBIT_END 0 n.val; let s : State := { s with solc := { s.solc with tripLow := false } }; let s : State := (s.put SOL_T_BOOST_MAX 0 n.val).put SOL_T_PEAK (s.regs.length % 2 * 30) n.val; s))
    (2) (upAll 0), by decide +kernel⟩,
   ⟨(.m2 : Master), (2 : Fin 4),
     (fun (n : Fin 4) (s : State) => (let s : State := served s; let s : State := { s with sol := (List.replicate 4 SolS.idle) }; let s : State := s.setChan n.val SolS.idle; let s : State := (s.put SOL_PHASE 0 n.val).put HDR_EN 1 (solPage n.val); let s : State := ((s.put SHUT_CH_CLOSE 7).put SHUT_TYPE 0).put SOL_PENDING 0 n.val; let s : State := (((s.put SOL_TRIPPED 0 n.val).put SOL_LATCH 0 n.val).put SOL_HOT 0 n.val).put SOL_INHIBIT_END 0 n.val; let s : State := { s with solc := { s.solc with tripLow := false } }; let s : State := ((s.put SOL_T_BOOST_MAX 40 n.val).put BOOST_HOLDER 7).put BOOST_READY 1; s))
     (2) (upAll 0), by decide +kernel⟩,
   ⟨(.m2 : Master), (2 : Fin 4),
     (fun (n : Fin 4) (s : State) => (let s : State := served s; let s : State := { s with sol := (List.replicate 4 SolS.idle) }; let s : State := s.setChan n.val SolS.idle; let s : State := (s.put SOL_PHASE 0 n.val).put HDR_EN 1 (solPage n.val); let s : State := ((s.put SHUT_CH_CLOSE 7).put SHUT_TYPE 0).put SOL_PENDING 0 n.val; let s : State := (((s.put SOL_TRIPPED 0 n.val).put SOL_LATCH 0 n.val).put SOL_HOT 0 n.val).put SOL_INHIBIT_END 0 n.val; let s : State := { s with solc := { s.solc with tripLow := false } }; let s : State := (((s.put SOL_T_BOOST_MAX 40 n.val).put BOOST_HOLDER 7).put BOOST_READY 0).put SOL_BNR_EN 1 n.val |>.put SOL_T_BST_WAIT 5 n.val; s))
     (2) (upAll 0), by decide +kernel⟩,
   ⟨(.m2 : Master), (2 : Fin 4),
     (fun (n : Fin 4) (s : State) => (let s : State := served s; let s : State := { s with sol := (List.replicate 4 SolS.idle) }; let s : State := s.setChan n.val SolS.idle; let s : State := (s.put SOL_PHASE 0 n.val).put HDR_EN 1 (solPage n.val); let s : State := ((s.put SHUT_CH_CLOSE 7).put SHUT_TYPE 0).put SOL_PENDING 0 n.val; let s : State := (((s.put SOL_TRIPPED 0 n.val).put SOL_LATCH 0 n.val).put SOL_HOT 0 n.val).put SOL_INHIBIT_END 0 n.val; let s : State := { s with solc := { s.solc with tripLow := false } }; let s : State := ((s.put SOL_T_BOOST_MAX 40 n.val).put BOOST_HOLDER ((n.val + 1) % 4)).put SOL_BST_DEFER 5 n.val; s))
     (2) (upAll 0), by decide +kernel⟩,
   ⟨(.m2 : Master), (2 : Fin 4),
     (fun (n : Fin 4) (s : State) => (let s : State := served s; let s : State := { s with sol := (List.replicate 4 SolS.idle) }; let s : State := s.setChan n.val SolS.idle; let s : State := (s.put SOL_PHASE 0 n.val).put HDR_EN 1 (solPage n.val); let s : State := ((s.put SHUT_CH_CLOSE 7).put SHUT_TYPE 0).put SOL_PENDING 0 n.val; let s : State := (((s.put SOL_TRIPPED 0 n.val).put SOL_LATCH 0 n.val).put SOL_HOT 0 n.val).put SOL_INHIBIT_END 0 n.val; let s : State := { s with solc := { s.solc with tripLow := false } }; let s : State := ((s.put SOL_T_BOOST_MAX 40 n.val).put BOOST_HOLDER ((n.val + 1) % 4)).put SOL_BST_DEFER 0 n.val; s))
     (2) (upAll 0), by decide +kernel⟩,
   ⟨(.m2 : Master), (2 : Fin 4),
     (fun (n : Fin 4) (s : State) => (let s : State := served s; let s : State := { s with sol := (List.replicate 4 SolS.idle) }; let s : State := s.setChan n.val SolS.idle; let s : State := (s.put SOL_PHASE 0 n.val).put HDR_EN 1 (solPage n.val); let s : State := ((s.put SHUT_CH_CLOSE 7).put SHUT_TYPE 0).put SOL_PENDING 0 n.val; let s : State := (((s.put SOL_TRIPPED 0 n.val).put SOL_LATCH 0 n.val).put SOL_HOT 0 n.val).put SOL_INHIBIT_END 0 n.val; let s : State := { s with solc := { s.solc with tripLow := false } }; let s : State := ((s.put SOL_T_BOOST_MAX 0 n.val).put SOL_T_PEAK 0 n.val).put SOL_I_HOLD 0 n.val; s))
     (2) (upAll 0), by decide +kernel⟩,
   ⟨(.m2 : Master), (2 : Fin 4),
     (fun (n : Fin 4) (s : State) => (let s : State := served s; let s : State := { s with sol := (List.replicate 4 SolS.idle) }; let s : State := s.setChan n.val SolS.idle; let s : State := (s.put SOL_PHASE 4 n.val).put HDR_EN 1 (solPage n.val); let s : State := ((s.put SHUT_CH_CLOSE 7).put SHUT_TYPE 0).put SOL_PENDING 0 n.val; let s : State := (((s.put SOL_TRIPPED 0 n.val).put SOL_LATCH 0 n.val).put SOL_HOT 0 n.val).put SOL_INHIBIT_END 0 n.val; let s : State := { s with solc := { s.solc with tripLow := false } }; s))
     (2) (upAll 0), by decide +kernel⟩,
   ⟨(.m2 : Master), (2 : Fin 4),
     (fun (n : Fin 4) (s : State) => (let s : State := served s; let s : State := { s with sol := (List.replicate 4 SolS.idle) }; let s : State := s.setChan n.val (if s.regs.length % 3 = 0 then { SolS.idle with minOff := true } else { SolS.idle with started := true, sw := 2, peakDone := false, motDone := false }); let s : State := (s.put SOL_PHASE (s.regs.length % 3) n.val).put HDR_EN 1 (solPage n.val); let s : State := ((s.put SHUT_CH_CLOSE 7).put SHUT_TYPE 0).put SOL_PENDING 0 n.val; let s : State := (((s.put SOL_TRIPPED 0 n.val).put SOL_LATCH 0 n.val).put SOL_HOT 0 n.val).put SOL_INHIBIT_END 0 n.val; let s : State := { s with solc := { s.solc with tripLow := false } }; s))
     (2) (upAll 0), by decide +kernel⟩,
   ⟨(.m2 : Master), (2 : Fin 4),
     (fun (n : Fin 4) (s : State) => (let s : State := served s; let s : State := { s with sol := (List.replicate 4 SolS.idle) }; let s : State := s.setChan n.val { SolS.idle with started := true, sw := 2, peakDone := false, motDone := false }; let s : State := (s.put SOL_PHASE 2 n.val).put HDR_EN 1 (solPage n.val); let s : State := ((s.put SHUT_CH_CLOSE 7).put SHUT_TYPE 0).put SOL_PENDING 0 n.val; let s : State := (((s.put SOL_TRIPPED 0 n.val).put SOL_LATCH 0 n.val).put SOL_HOT 0 n.val).put SOL_INHIBIT_END 0 n.val; let s : State := { s with solc := { s.solc with tripLow := false } }; let s : State := ((s.put SOL_T_BOOST_MAX 0 n.val).put SOL_T_PEAK 30 n.val).put SOL_RETRIG 1 n.val; s))
     (2) (upAll 0), by decide +kernel⟩,
   ⟨(.m2 : Master), (2 : Fin 4),
     (fun (n : Fin 4) (s : State) => (let s : State := served s; let s : State := { s with sol := (List.replicate 4 SolS.idle) }; let s : State := s.setChan n.val { SolS.idle with started := true, sw := 2, peakDone := false, motDone := false }; let s : State := (s.put SOL_PHASE 2 n.val).put HDR_EN 1 (solPage n.val); let s : State := ((s.put SHUT_CH_CLOSE 7).put SHUT_TYPE 0).put SOL_PENDING 0 n.val; s))
     (2) (upAll 0), by decide +kernel⟩,
   ⟨(0 : Fin 4),
     (fun (n : Fin 4) (s : State) => (let s : State := s; let s : State := { s with sol := (List.replicate 4 SolS.idle) }; let s : State := s.setChan n.val { SolS.idle with started := true, sw := 1, peakDone := false, motDone := false }; let s : State := (s.put SOL_PHASE 1 n.val).put HDR_EN 1 (solPage n.val); let s : State := ((s.put SHUT_CH_CLOSE 7).put SHUT_TYPE 0).put SOL_PENDING 0 n.val; let s : State := (s.put SOL_T_PEAK 30 n.val).put BOOST_HOLDER n.val; s))
     (0) State.reset, by decide +kernel⟩,
   ⟨(0 : Fin 4),
     (fun (n : Fin 4) (s : State) => (let s : State := s; let s : State := { s with sol := (List.replicate 4 SolS.idle) }; let s : State := s.setChan n.val { SolS.idle with started := true, sw := 2, peakDone := false, motDone := false }; let s : State := (s.put SOL_PHASE 2 n.val).put HDR_EN 1 (solPage n.val); let s : State := ((s.put SHUT_CH_CLOSE 7).put SHUT_TYPE 0).put SOL_PENDING 0 n.val; s))
     (0) State.reset, by decide +kernel⟩,
   ⟨(0 : Fin 4),
     (fun (n : Fin 4) (s : State) => (let s : State := s; let s : State := { s with sol := (List.replicate 4 SolS.idle) }; let s : State := s.setChan n.val { SolS.idle with started := true, sw := 2, peakDone := false, motDone := false }; let s : State := (s.put SOL_PHASE 3 n.val).put HDR_EN 1 (solPage n.val); let s : State := ((s.put SHUT_CH_CLOSE 7).put SHUT_TYPE 0).put SOL_PENDING 0 n.val; let s : State := s.put SOL_HOLD_UNTIL_OFF 0 n.val; s))
     (0) State.reset, by decide +kernel⟩,
   ⟨(0 : Fin 4),
     (fun (n : Fin 4) (s : State) => (let s : State := s; let s : State := { s with sol := (List.replicate 4 SolS.idle) }; let s : State := s.setChan n.val { SolS.idle with started := true, sw := 2, peakDone := false, motDone := false }; let s : State := (s.put SOL_PHASE 3 n.val).put HDR_EN 1 (solPage n.val); let s : State := ((s.put SHUT_CH_CLOSE 7).put SHUT_TYPE 0).put SOL_PENDING 0 n.val; let s : State := ((((s.put SOL_HOLD_UNTIL_OFF 0 n.val).put SOL_PENDING 1 n.val).put SOL_RETRIG 0 n.val).put SOL_T_MIN_OFF 0 n.val).put SOL_T_BOOST_MAX 0 n.val |>.put SOL_T_PEAK 9 n.val; s))
     (0) State.reset, by decide +kernel⟩,
   ⟨(0 : Fin 4),
     (fun (n : Fin 4) (s : State) => (let s : State := s; let s : State := { s with sol := (List.replicate 4 SolS.idle) }; let s : State := s.setChan n.val { SolS.idle with started := true, sw := 2, peakDone := false, motDone := false }; let s : State := (s.put SOL_PHASE 3 n.val).put HDR_EN 1 (solPage n.val); let s : State := ((s.put SHUT_CH_CLOSE 7).put SHUT_TYPE 0).put SOL_PENDING 0 n.val; let s : State := s.put SOL_HOLD_UNTIL_OFF 1 n.val; s))
     (0) State.reset, by decide +kernel⟩,
   ⟨(0 : Fin 4), (469 : Nat),
     (fun (n : Fin 4) (s : State) => (let s : State := s; let s : State := { s with sol := (List.replicate 4 SolS.idle) }; let s : State := s.setChan n.val { SolS.idle with started := true, sw := 2, peakDone := false, motDone := false }; let s : State := (s.put SOL_PHASE 2 n.val).put HDR_EN 1 (solPage n.val); let s : State := ((s.put SHUT_CH_CLOSE 7).put SHUT_TYPE 0).put SOL_PENDING 0 n.val; let s : State := s.put SOL_TPK_EN 0 n.val; s))
     (0) State.reset, by decide +kernel⟩,
   ⟨(0 : Fin 4), (13 : Nat),
     (fun (n : Fin 4) (s : State) => (let s : State := s; let s : State := { s with sol := (List.replicate 4 SolS.idle) }; let s : State := s.setChan n.val { SolS.idle with started := true, sw := 2, peakDone := false, motDone := false }; let s : State := (s.put SOL_PHASE 2 n.val).put HDR_EN 1 (solPage n.val); let s : State := ((s.put SHUT_CH_CLOSE 7).put SHUT_TYPE 0).put SOL_PENDING 0 n.val; let s : State := ((s.put SOL_TPK_EN 1 n.val).put SOL_TPK_MIN 30000 n.val).put SOL_TPK_ABORT 0 n.val; s))
     (0) (up 0), by decide +kernel⟩,
   ⟨(0 : Fin 4), (469 : Nat),
     (fun (n : Fin 4) (s : State) => (let s : State := s; let s : State := { s with sol := (List.replicate 4 SolS.idle) }; let s : State := s.setChan n.val { SolS.idle with started := true, sw := 1, peakDone := false, motDone := false }; let s : State := (s.put SOL_PHASE 1 n.val).put HDR_EN 1 (solPage n.val); let s : State := ((s.put SHUT_CH_CLOSE 7).put SHUT_TYPE 0).put SOL_PENDING 0 n.val; let s : State := ((s.put SOL_T_PEAK 30 n.val).put BOOST_HOLDER n.val).put SOL_TPK_EN 0 n.val; s))
     (0) State.reset, by decide +kernel⟩,
   ⟨(0 : Fin 4), State.reset, by decide +kernel⟩,
   ⟨(.m2 : Master), (2 : Fin 4),
     (fun (n : Fin 4) (s : State) => (let s : State := served s; let s : State := { s with sol := (List.replicate 4 SolS.idle) }; let s : State := s.setChan n.val { SolS.idle with dead := 4 }; let s : State := (s.put SOL_PHASE 0 n.val).put HDR_EN 1 (solPage n.val); let s : State := ((s.put SHUT_CH_CLOSE 7).put SHUT_TYPE 0).put SOL_PENDING 0 n.val; let s : State := (((s.put SOL_TRIPPED 0 n.val).put SOL_LATCH 0 n.val).put SOL_HOT 0 n.val).put SOL_INHIBIT_END 0 n.val; let s : State := { s with solc := { s.solc with tripLow := false } }; let s : State := (s.put SOL_T_BOOST_MAX 0 n.val).put SOL_T_PEAK (s.regs.length % 2 * 30) n.val; s))
     (2) (upAll 0), by decide +kernel⟩,
   ⟨(.m2 : Master), (2 : Fin 4),
     (fun (n : Fin 4) (s : State) => (let s : State := served s; let s : State := { s with sol := (List.replicate 4 SolS.idle) }; let s : State := s.setChan n.val { SolS.idle with dead := 3 }; let s : State := (s.put SOL_PHASE 0 n.val).put HDR_EN 1 (solPage n.val); let s : State := ((s.put SHUT_CH_CLOSE 7).put SHUT_TYPE 0).put SOL_PENDING 0 n.val; let s : State := (((s.put SOL_TRIPPED 0 n.val).put SOL_LATCH 0 n.val).put SOL_HOT 0 n.val).put SOL_INHIBIT_END 0 n.val; let s : State := { s with solc := { s.solc with tripLow := false } }; let s : State := ((s.put SOL_T_BOOST_MAX 40 n.val).put BOOST_HOLDER 7).put BOOST_READY 1; s))
     (2) (upAll 0), by decide +kernel⟩,
   ⟨(0 : Fin 4),
     (fun (n : Fin 4) (s : State) => (let s : State := s; let s : State := { s with sol := (List.replicate 4 SolS.idle) }; let s : State := s.setChan n.val { SolS.idle with started := true, sw := 0, dead := 2, peakDone := false, motDone := false }; let s : State := (s.put SOL_PHASE 3 n.val).put HDR_EN 1 (solPage n.val); let s : State := ((s.put SHUT_CH_CLOSE 7).put SHUT_TYPE 0).put SOL_PENDING 0 n.val; let s : State := ((((s.put SOL_HOLD_UNTIL_OFF 0 n.val).put SOL_PENDING 1 n.val).put SOL_RETRIG 0 n.val).put SOL_T_MIN_OFF 0 n.val).put SOL_T_BOOST_MAX 0 n.val |>.put SOL_T_PEAK 9 n.val; s))
     (0) State.reset, by decide +kernel⟩⟩

theorem test_hyps_ActuatorTimings :
    (∃ (n : Fin 4) (mA : Nat) (s : State),
      s.sol.length = 4 ∧
      (s.get SOL_PHASE n.val = 2 ∨ s.get SOL_PHASE n.val = 3) ∧
      (s.chan n.val).dead = 0 ∧
      (s.chan n.val).watch = false ∧
      (s.chan n.val).sw = 2 ∧
      ((if s.get SOL_PHASE n.val = 2 then s.get SOL_I_PEAK n.val else s.get SOL_I_HOLD n.val) ≤ mA)) ∧
    (∃ (n : Fin 4) (mA : Nat) (s : State),
      s.sol.length = 4 ∧
      (s.get SOL_PHASE n.val = 2 ∨ s.get SOL_PHASE n.val = 3) ∧
      (s.chan n.val).dead = 0 ∧
      (s.chan n.val).watch = false ∧
      (s.chan n.val).sw = 0 ∧
      (mA + s.get SOL_I_HYST n.val ≤ (if s.get SOL_PHASE n.val = 2 then s.get SOL_I_PEAK n.val else s.get SOL_I_HOLD n.val))) ∧
    (∃ (n : Fin 4) (mA : Nat) (s : State),
      ((s.get SOL_PHASE n.val ≠ 2 ∧ s.get SOL_PHASE n.val ≠ 3) ∨ (s.chan n.val).dead ≠ 0 ∨ (s.chan n.val).watch = true ∨ (s.chan
        n.val).sw = 1 ∨
        ((s.chan n.val).sw = 2 ∧ mA < (if s.get SOL_PHASE n.val = 2 then s.get SOL_I_PEAK n.val else s.get SOL_I_HOLD n.val)) ∨
        ((s.chan n.val).sw = 0 ∧ (if s.get SOL_PHASE n.val = 2 then s.get SOL_I_PEAK n.val else s.get SOL_I_HOLD n.val) < mA +
          s.get SOL_I_HYST n.val))) ∧
    (∃ (n : Fin 4) (s : State),
      s.sol.length = 4 ∧
      (s.chan n.val).dead = 2 ∧
      (s.chan n.val).started = true ∧
      (s.chan n.val).watch = false) ∧
    (∃ (n : Fin 4) (s : State),
      s.sol.length = 4 ∧
      (s.chan n.val).dead = 1 ∧
      (s.chan n.val).watch = false) ∧
    (∃ (n : Fin 4) (s : State),
      s.sol.length = 4 ∧
      ((s.chan n.val).watch = true ∨ (s.chan n.val).dead = 0)) ∧
    (∃ (n : Fin 4) (s : State),
      s.sol.length = 4 ∧
      (s.chan n.val).minOff = true ∧
      s.get SOL_PENDING n.val = 0) ∧
    (∃ (n : Fin 4) (s : State),
      s.sol.length = 4 ∧
      (s.chan n.val).minOff = true ∧
      (s.chan n.val).watch = false ∧
      s.on SOL_PENDING n.val = true ∧
      s.get SOL_PHASE n.val = 0 ∧
      s.get SOL_T_BOOST_MAX n.val = 0 ∧
      s.get SOL_T_PEAK n.val ≠ 0 ∧
      ((s.chan n.val).off).waitsBat = false) ∧
    (∃ (n : Fin 4) (s : State),
      (s.chan n.val).minOff = false) ∧
    (∃ (n : Fin 4) (tUs : Nat) (s : State),
      s.sol.length = 4 ∧
      (s.chan n.val).started = true ∧
      (s.chan n.val).sw ≠ 0 ∧
      (s.chan n.val).motDone = false ∧
      s.get SOL_MOT_WIN_START n.val ≤ tUs ∧
      tUs ≤ s.get SOL_MOT_WIN_END n.val ∧
      (s.isShut n.val = false ∨ (s.nuc.form = 0 ∧ s.nuc.bootPulse = false))) ∧
    (∃ (n : Fin 4) (tUs : Nat) (s : State),
      s.sol.length = 4 ∧
      s.get HDR_EN 0x065 = 1 ∧
      s.nuc.form ≠ 0 ∧
      s.nuc.closed = false ∧
      s.nuc.opening = false ∧
      s.get SHUT_SETTLE_US ≠ 0 ∧
      n.val = s.get SHUT_CH_CLOSE ∧
      (s.chan n.val).started = true ∧
      (s.chan n.val).sw ≠ 0 ∧
      (s.chan n.val).motDone = false ∧
      s.get SOL_MOT_WIN_START n.val ≤ tUs ∧
      tUs ≤ s.get SOL_MOT_WIN_END n.val) ∧
    (∃ (n : Fin 4) (tUs : Nat) (s : State),
      ((s.chan n.val).started = false ∨ (s.chan n.val).sw = 0 ∨ (s.chan n.val).motDone = true ∨ tUs < s.get SOL_MOT_WIN_START
        n.val ∨ s.get SOL_MOT_WIN_END n.val < tUs)) ∧
    (∃ (n : Fin 4) (s : State),
      s.sol.length = 4 ∧
      (s.chan n.val).motDone = false) ∧
    (∃ (n : Fin 4) (s : State),
      (s.chan n.val).motDone = true) ∧
    (∃ (n : Fin 4) (s : State),
      s.sol.length = 4 ∧
      (s.chan n.val).started = true ∧
      (s.chan n.val).peakDone = false ∧
      s.get SOL_TPK_EN n.val = 1 ∧
      s.get SOL_TPK_MAX n.val ≠ 0 ∧
      s.get SOL_TPK_ABORT n.val = 0 ∧
      s.coreOn = true) ∧
    (∃ (n : Fin 4) (s : State),
      s.sol.length = 4 ∧
      (s.chan n.val).started = true ∧
      (s.chan n.val).peakDone = false ∧
      s.get SOL_TPK_EN n.val = 1 ∧
      s.get SOL_TPK_MAX n.val ≠ 0 ∧
      s.get SOL_TPK_ABORT n.val = 1 ∧
      s.get SOL_PENDING n.val = 0) ∧
    (∃ (n : Fin 4) (s : State),
      ((s.chan n.val).started = false ∨ (s.chan n.val).peakDone = true ∨ s.get SOL_TPK_EN n.val = 0 ∨ s.get SOL_TPK_MAX n.val =
        0)) ∧
    (∃ (n : Fin 4) (s : State),
      s.sol.length = 4 ∧
      (s.chan n.val).dead = 2 ∧
      (s.chan n.val).started = false ∧
      (s.chan n.val).watch = false) :=
  ⟨⟨(0 : Fin 4), (190 : Nat),
    (fun (n : Fin 4) (s : State) => (let s : State := s; let s : State := { s with sol := (List.replicate 4 SolS.idle) }; let s : State := s.setChan n.val { SolS.idle with started := true, sw := 2, peakDone := false, motDone := false }; let s : State := (s.put SOL_PHASE (2 + s.regs.length % 2) n.val).put HDR_EN 1 (solPage n.val); let s : State := ((s.put SHUT_CH_CLOSE 7).put SHUT_TYPE 0).put SOL_PENDING 0 n.val; let s : State := (s.put SOL_I_PEAK 60 n.val).put SOL_I_HOLD 30 n.val; s))
    (0) State.reset, by decide +kernel⟩,
   ⟨(0 : Fin 4), (190 : Nat),
     (fun (n : Fin 4) (s : State) => (let s : State := s; let s : State := { s with sol := (List.replicate 4 SolS.idle) }; let s : State := s.setChan n.val { SolS.idle with started := true, chopOff := true }; let s : State := (s.put SOL_PHASE (2 + s.regs.length % 2) n.val).put HDR_EN 1 (solPage n.val); let s : State := ((s.put SHUT_CH_CLOSE 7).put SHUT_TYPE 0).put SOL_PENDING 0 n.val; let s : State := ((s.put SOL_I_HOLD 900 n.val).put SOL_I_PEAK 4000 n.val).put SOL_I_HYST 20 n.val; s))
     (0) State.reset, by decide +kernel⟩,
   ⟨(3 : Fin 4), (2713 : Nat),
     (fun (n : Fin 4) (s : State) => (let s : State := s; let s : State := { s with sol := (List.replicate 4 SolS.idle) }; let s : State := s.setChan n.val (if s.regs.length % 3 = 0 then SolS.idle else { SolS.idle with started := true, sw := 2, peakDone := false, motDone := false }); let s : State := (s.put SOL_PHASE (2 + s.regs.length % 2) n.val).put HDR_EN 1 (solPage n.val); let s : State := ((s.put SHUT_CH_CLOSE 7).put SHUT_TYPE 0).put SOL_PENDING 0 n.val; s))
     (3) State.reset, by decide +kernel⟩,
   ⟨(0 : Fin 4),
     (fun (n : Fin 4) (s : State) => (let s : State := s; let s : State := { s with sol := (List.replicate 4 SolS.idle) }; let s : State := s.setChan n.val { SolS.idle with started := true, dead := 2 }; let s : State := (s.put SOL_PHASE 2 n.val).put HDR_EN 1 (solPage n.val); let s : State := ((s.put SHUT_CH_CLOSE 7).put SHUT_TYPE 0).put SOL_PENDING 0 n.val; s))
     (0) State.reset, by decide +kernel⟩,
   ⟨(0 : Fin 4),
     (fun (n : Fin 4) (s : State) => (let s : State := s; let s : State := { s with sol := (List.replicate 4 SolS.idle) }; let s : State := s.setChan n.val { SolS.idle with dead := 1 }; let s : State := (s.put SOL_PHASE 1 n.val).put HDR_EN 1 (solPage n.val); let s : State := ((s.put SHUT_CH_CLOSE 7).put SHUT_TYPE 0).put SOL_PENDING 0 n.val; s))
     (0) State.reset, by decide +kernel⟩,
   ⟨(0 : Fin 4),
     (fun (n : Fin 4) (s : State) => (let s : State := s; let s : State := { s with sol := (List.replicate 4 SolS.idle) }; let s : State := s.setChan n.val { SolS.idle with dead := 2, watch := true }; let s : State := (s.put SOL_PHASE 2 n.val).put HDR_EN 1 (solPage n.val); let s : State := ((s.put SHUT_CH_CLOSE 7).put SHUT_TYPE 0).put SOL_PENDING 0 n.val; s))
     (0) State.reset, by decide +kernel⟩,
   ⟨(0 : Fin 4),
     (fun (n : Fin 4) (s : State) => (let s : State := s; let s : State := { s with sol := (List.replicate 4 SolS.idle) }; let s : State := s.setChan n.val { SolS.idle with minOff := true }; let s : State := (s.put SOL_PHASE 0 n.val).put HDR_EN 1 (solPage n.val); let s : State := ((s.put SHUT_CH_CLOSE 7).put SHUT_TYPE 0).put SOL_PENDING 0 n.val; s))
     (0) State.reset, by decide +kernel⟩,
   ⟨(0 : Fin 4),
     (fun (n : Fin 4) (s : State) => (let s : State := s; let s : State := { s with sol := (List.replicate 4 SolS.idle) }; let s : State := s.setChan n.val { SolS.idle with minOff := true }; let s : State := (s.put SOL_PHASE 0 n.val).put HDR_EN 1 (solPage n.val); let s : State := ((s.put SHUT_CH_CLOSE 7).put SHUT_TYPE 0).put SOL_PENDING 0 n.val; let s : State := ((s.put SOL_PENDING 1 n.val).put SOL_T_BOOST_MAX 0 n.val).put SOL_T_PEAK 9 n.val; s))
     (0) State.reset, by decide +kernel⟩,
   ⟨(0 : Fin 4), State.reset, by decide +kernel⟩,
   ⟨(0 : Fin 4), (469 : Nat),
     (fun (n : Fin 4) (s : State) => (let s : State := s; let s : State := { s with sol := (List.replicate 4 SolS.idle) }; let s : State := s.setChan n.val { SolS.idle with started := true, sw := 2, peakDone := false, motDone := false }; let s : State := (s.put SOL_PHASE 2 n.val).put HDR_EN 1 (solPage n.val); let s : State := ((s.put SHUT_CH_CLOSE 7).put SHUT_TYPE 0).put SOL_PENDING 0 n.val; let s : State := ((s.put SOL_MOT_WIN_START 0 n.val).put SOL_MOT_WIN_END 20000 n.val); s))
     (0) State.reset, by decide +kernel⟩,
   ⟨(0 : Fin 4), (469 : Nat),
     (fun (n : Fin 4) (s : State) => (let s : State := s; let s : State := { s with sol := (List.replicate 4 SolS.idle) }; let s : State := s.setChan n.val { SolS.idle with started := true, sw := 2, peakDone := false, motDone := false }; let s : State := (s.put SOL_PHASE 2 n.val).put HDR_EN 1 (solPage n.val); let s : State := ((s.put SHUT_CH_CLOSE 7).put SHUT_TYPE 0).put SOL_PENDING 0 n.val; let s : State := (((s.put SOL_MOT_WIN_START 0 n.val).put SOL_MOT_WIN_END 20000 n.val).put HDR_EN 1 0x065).put SHUT_CH_CLOSE n.val |>.put SHUT_SETTLE_US 9; let s : State := { s with nuc := { s.nuc with form := 1, closed := false, opening := false } }; s))
     (0) State.reset, by decide +kernel⟩,
   ⟨(0 : Fin 4), (469 : Nat), State.reset, by decide +kernel⟩,
   ⟨(0 : Fin 4),
     (fun (n : Fin 4) (s : State) => (let s : State := s; let s : State := { s with sol := (List.replicate 4 SolS.idle) }; let s : State := s.setChan n.val { SolS.idle with started := true, sw := 2, peakDone := false, motDone := false }; let s : State := (s.put SOL_PHASE 2 n.val).put HDR_EN 1 (solPage n.val); let s : State := ((s.put SHUT_CH_CLOSE 7).put SHUT_TYPE 0).put SOL_PENDING 0 n.val; s))
     (0) State.reset, by decide +kernel⟩,
   ⟨(0 : Fin 4), State.reset, by decide +kernel⟩,
   ⟨(3 : Fin 4),
     (fun (n : Fin 4) (s : State) => (let s : State := s; let s : State := { s with sol := (List.replicate 4 SolS.idle) }; let s : State := s.setChan n.val { SolS.idle with started := true, sw := 2, peakDone := false, motDone := false }; let s : State := (s.put SOL_PHASE 2 n.val).put HDR_EN 1 (solPage n.val); let s : State := ((s.put SHUT_CH_CLOSE 7).put SHUT_TYPE 0).put SOL_PENDING 0 n.val; let s : State := ((s.put SOL_TPK_EN 1 n.val).put SOL_TPK_MAX 200 n.val).put SOL_TPK_ABORT 0 n.val; s))
     (3) (up 0), by decide +kernel⟩,
   ⟨(0 : Fin 4),
     (fun (n : Fin 4) (s : State) => (let s : State := s; let s : State := { s with sol := (List.replicate 4 SolS.idle) }; let s : State := s.setChan n.val { SolS.idle with started := true, sw := 2, peakDone := false, motDone := false }; let s : State := (s.put SOL_PHASE 2 n.val).put HDR_EN 1 (solPage n.val); let s : State := ((s.put SHUT_CH_CLOSE 7).put SHUT_TYPE 0).put SOL_PENDING 0 n.val; let s : State := ((s.put SOL_TPK_EN 1 n.val).put SOL_TPK_MAX 200 n.val).put SOL_TPK_ABORT 1 n.val; s))
     (0) State.reset, by decide +kernel⟩,
   ⟨(0 : Fin 4), State.reset, by decide +kernel⟩,
   ⟨(0 : Fin 4),
     (fun (n : Fin 4) (s : State) => (let s : State := s; let s : State := { s with sol := (List.replicate 4 SolS.idle) }; let s : State := s.setChan n.val { SolS.idle with dead := 2 }; let s : State := (s.put SOL_PHASE 2 n.val).put HDR_EN 1 (solPage n.val); let s : State := ((s.put SHUT_CH_CLOSE 7).put SHUT_TYPE 0).put SOL_PENDING 0 n.val; s))
     (0) State.reset, by decide +kernel⟩⟩

theorem test_hyps_BoostRail :
    (∃ (n : Fin 4) (s : State),
      s.sol.length = 4 ∧
      s.get BOOST_HOLDER = 7 ∧
      s.railNext = some n.val ∧
      (s.get SOL_BNR_EN n.val = 0 ∨ s.get BOOST_READY = 1) ∧
      (s.chan n.val).sw = 0 ∧
      (s.chan n.val).dead = 0) ∧
    (∃ (n : Fin 4) (s : State),
      s.sol.length = 4 ∧
      s.get BOOST_HOLDER = 7 ∧
      s.railNext = some n.val ∧
      s.get SOL_BNR_EN n.val = 1 ∧
      s.get BOOST_READY = 0 ∧
      s.get SOL_T_BST_WAIT n.val ≠ 0) ∧
    (∃ (n : Fin 4) (s : State),
      (s.get BOOST_HOLDER ≠ 7 ∨ s.railNext ≠ some n.val)) ∧
    (∃ (n : Fin 4) (s : State),
      s.sol.length = 4 ∧
      (s.chan n.val).wait = 1 ∧
      s.isShut n.val = false ∧
      s.coreOn = true ∧
      s.get BOOST_HOLDER < 8 ∧
      s.get BOOST_HOLDER ≠ n.val) ∧
    (∃ (n : Fin 4) (s : State),
      ((s.chan n.val).wait ≠ 1 ∨ s.isShut n.val = true)) ∧
    (∃ (n : Fin 4) (s : State),
      s.sol.length = 4 ∧
      (s.chan n.val).wait = 2 ∧
      s.on SOL_BNR_FALLBACK n.val = false ∧
      s.coreOn = true ∧
      s.get BOOST_HOLDER = n.val) ∧
    (∃ (n : Fin 4) (s : State),
      s.sol.length = 4 ∧
      (s.chan n.val).wait = 2 ∧
      s.on SOL_BNR_FALLBACK n.val = true ∧
      s.get SOL_T_PEAK n.val ≠ 0 ∧
      ((s.chan n.val).off).waitsBat = false ∧
      s.coreOn = true ∧
      s.get BOOST_HOLDER = n.val) ∧
    (∃ (n : Fin 4) (s : State),
      (s.chan n.val).wait ≠ 2) ∧
    (∃ (vbst : Nat) (s : State),
      9 * s.get BOOST_VSET ≤ 10 * vbst ∧
      ((List.range 4).all (fun k => (s.chan k).wait != 2) = true)) ∧
    (∃ (vbst : Nat) (n : Fin 4) (s : State),
      s.sol.length = 4 ∧
      9 * s.get BOOST_VSET ≤ 10 * vbst ∧
      (s.chan n.val).wait = 2 ∧
      (s.chan n.val).sw = 0 ∧
      (s.chan n.val).dead = 0 ∧
      (∀ k ∈ List.range 4, k ≠ n.val → (s.chan k).wait ≠ 2)) ∧
    (∃ (vbst : Nat) (s : State),
      20 * vbst < 17 * s.get BOOST_VSET) ∧
    (∃ (vbst : Nat) (s : State),
      (s.get BOOST_VSET + 8 < vbst ∨ 248 < vbst) ∧
      s.get BOOST_OV = 0 ∧
      s.coreOn = true ∧
      ((List.range 4).all (fun k => (s.chan k).wait != 2) = true)) ∧
    (∃ (vbst : Nat) (s : State),
      (s.get BOOST_VSET + 8 < vbst ∨ 248 < vbst) ∧
      s.get BOOST_OV = 1 ∧
      ((List.range 4).all (fun k => (s.chan k).wait != 2) = true)) ∧
    (∃ (vbst : Nat) (s : State),
      vbst < s.get BOOST_VSET + 4 ∧
      vbst ≤ 248 ∧
      ((List.range 4).all (fun k => (s.chan k).wait != 2) = true)) ∧
    (∃ (s : State),
      s.on BOOST_ON_DEMAND = true ∧
      s.get BOOST_HOLDER = 7 ∧
      ((List.range 4).all (fun k => (s.chan k).wait == 0) = true)) ∧
    (∃ (s : State),
      (s.on BOOST_ON_DEMAND = false ∨ s.get BOOST_HOLDER ≠ 7 ∨ (List.range 4).all (fun k => (s.chan k).wait == 0) = false)) ∧
    (∃ (s : State),
      s.on BOOST_RUN = true ∧
      s.on BOOST_READY = false ∧
      s.get BOOST_START_MAX ≠ 0 ∧
      s.coreOn = true) ∧
    (∃ (s : State),
      (s.on BOOST_RUN = false ∨ s.on BOOST_READY = true ∨ s.get BOOST_START_MAX = 0)) ∧
    (∃ (m : Master) (s : State),
      s.accepts m.num 0x064 0x050 2 = true) ∧
    (∃ (n : Fin 4) (s : State),
      s.sol.length = 4 ∧
      (s.chan n.val).wait = 2 ∧
      s.on SOL_BNR_FALLBACK n.val = true ∧
      s.get SOL_T_PEAK n.val ≠ 0 ∧
      ((s.chan n.val).off).waitsBat = true ∧
      s.coreOn = true ∧
      s.get BOOST_HOLDER = n.val) :=
  ⟨⟨(0 : Fin 4),
    (fun (n : Fin 4) (s : State) => (let s : State := s; let s : State := { s with sol := (List.replicate 4 SolS.idle) }; let s : State := s.setChan n.val { SolS.idle with wait := 1, order := 3 }; let s : State := (s.put SOL_PHASE 4 n.val).put HDR_EN 1 (solPage n.val); let s : State := ((s.put SHUT_CH_CLOSE 7).put SHUT_TYPE 0).put SOL_PENDING 0 n.val; let s : State := (s.put BOOST_HOLDER 7).put BOOST_READY 1; s))
    (0) State.reset, by decide +kernel⟩,
   ⟨(0 : Fin 4),
     (fun (n : Fin 4) (s : State) => (let s : State := s; let s : State := { s with sol := (List.replicate 4 SolS.idle) }; let s : State := s.setChan n.val { SolS.idle with wait := 1, order := 3 }; let s : State := (s.put SOL_PHASE 4 n.val).put HDR_EN 1 (solPage n.val); let s : State := ((s.put SHUT_CH_CLOSE 7).put SHUT_TYPE 0).put SOL_PENDING 0 n.val; let s : State := ((s.put BOOST_HOLDER 7).put BOOST_READY 0).put SOL_BNR_EN 1 n.val |>.put SOL_T_BST_WAIT 4 n.val; s))
     (0) State.reset, by decide +kernel⟩,
   ⟨(0 : Fin 4), State.reset, by decide +kernel⟩,
   ⟨(3 : Fin 4),
     (fun (n : Fin 4) (s : State) => (let s : State := s; let s : State := { s with sol := (List.replicate 4 SolS.idle) }; let s : State := s.setChan n.val { SolS.idle with wait := 1, order := 3, firedBy := 2 }; let s : State := (s.put SOL_PHASE 4 n.val).put HDR_EN 1 (solPage n.val); let s : State := ((s.put SHUT_CH_CLOSE 7).put SHUT_TYPE 0).put SOL_PENDING 0 n.val; let s : State := s.put BOOST_HOLDER ((n.val + 1) % 4); s))
     (3) (up 0), by decide +kernel⟩,
   ⟨(0 : Fin 4), State.reset, by decide +kernel⟩,
   ⟨(3 : Fin 4),
     (fun (n : Fin 4) (s : State) => (let s : State := s; let s : State := { s with sol := (List.replicate 4 SolS.idle) }; let s : State := s.setChan n.val { SolS.idle with wait := 2 }; let s : State := (s.put SOL_PHASE 4 n.val).put HDR_EN 1 (solPage n.val); let s : State := ((s.put SHUT_CH_CLOSE 7).put SHUT_TYPE 0).put SOL_PENDING 0 n.val; let s : State := (s.put BOOST_HOLDER n.val).put SOL_BNR_FALLBACK 0 n.val; s))
     (3) (up 0), by decide +kernel⟩,
   ⟨(3 : Fin 4),
     (fun (n : Fin 4) (s : State) => (let s : State := s; let s : State := { s with sol := (List.replicate 4 SolS.idle) }; let s : State := s.setChan n.val { SolS.idle with wait := 2 }; let s : State := (s.put SOL_PHASE 4 n.val).put HDR_EN 1 (solPage n.val); let s : State := ((s.put SHUT_CH_CLOSE 7).put SHUT_TYPE 0).put SOL_PENDING 0 n.val; let s : State := ((s.put BOOST_HOLDER n.val).put SOL_BNR_FALLBACK 1 n.val).put SOL_T_PEAK 30 n.val; s))
     (3) (up 0), by decide +kernel⟩,
   ⟨(0 : Fin 4), State.reset, by decide +kernel⟩,
   ⟨(88 : Nat), (fun (s : State) => s.put BOOST_VSET 90) State.reset, by decide +kernel⟩,
   ⟨(145 : Nat), (2 : Fin 4),
     (fun (n : Fin 4) (s : State) => (let s : State := s; let s : State := { s with sol := (List.replicate 4 SolS.idle) }; let s : State := s.setChan n.val { SolS.idle with wait := 2 }; let s : State := (s.put SOL_PHASE 4 n.val).put HDR_EN 1 (solPage n.val); let s : State := ((s.put SHUT_CH_CLOSE 7).put SHUT_TYPE 0).put SOL_PENDING 0 n.val; let s : State := s.put BOOST_VSET 90; s))
     (2) State.reset, by decide +kernel⟩,
   ⟨(17 : Nat), (fun (s : State) => s.put BOOST_VSET 200) State.reset, by decide +kernel⟩,
   ⟨(246 : Nat), (fun (s : State) => ((s.put BOOST_VSET 90).put BOOST_OV 0)) (up 0), by decide +kernel⟩,
   ⟨(235 : Nat), (fun (s : State) => ((s.put BOOST_VSET 90).put BOOST_OV 1)) State.reset, by decide +kernel⟩,
   ⟨(17 : Nat), (fun (s : State) => (s.put BOOST_VSET 200).put BOOST_OV 1) State.reset, by decide +kernel⟩,
   ⟨(fun (s : State) => (s.put BOOST_ON_DEMAND 1).put BOOST_HOLDER 7) State.reset, by decide +kernel⟩,
   ⟨State.reset, by decide +kernel⟩,
   ⟨(fun (s : State) => ((s.put BOOST_RUN 1).put BOOST_READY 0).put BOOST_START_MAX 9) (up 0), by decide +kernel⟩,
   ⟨State.reset, by decide +kernel⟩,
   ⟨(.m0 : Master), (fun (s : State) => (served s).put BOOST_START_FAIL 1) (upAll 0), by decide +kernel⟩,
   ⟨(3 : Fin 4),
     (fun (n : Fin 4) (s : State) => (let s : State := s; let s : State := { s with sol := (List.replicate 4 SolS.idle) }; let s : State := s.setChan n.val { SolS.idle with wait := 2, dead := 4 }; let s : State := (s.put SOL_PHASE 4 n.val).put HDR_EN 1 (solPage n.val); let s : State := ((s.put SHUT_CH_CLOSE 7).put SHUT_TYPE 0).put SOL_PENDING 0 n.val; let s : State := ((s.put BOOST_HOLDER n.val).put SOL_BNR_FALLBACK 1 n.val).put SOL_T_PEAK 30 n.val; s))
     (3) (up 0), by decide +kernel⟩⟩

theorem test_hyps_TripAndCoils :
    (∃ (s : State),
      s.sol.length = 4 ∧
      (s.pd 8 = 2 ∨ s.pd 8 = 3) ∧
      s.coreOn = true ∧
      s.get HDR_EN 0x065 = 0) ∧
    (∃ (s : State),
      s.sol.length = 4 ∧
      (s.pd 8 = 2 ∨ s.pd 8 = 3) ∧
      s.get HDR_EN 0x065 = 1) ∧
    (∃ (s : State),
      s.pd 8 ≠ 2 ∧
      s.pd 8 ≠ 3) ∧
    (∃ (s : State),
      s.solc.tripLow = true) ∧
    (∃ (s : State),
      s.solc.tripLow = false) ∧
    (∃ (m : Master) (n : Fin 4) (s : State),
      s.accepts m.num (solPage n.val) 0x098 1 = true ∧
      s.solc.tripLow = false ∧
      s.solc.tripRecent = false) ∧
    (∃ (m : Master) (n : Fin 4) (s : State),
      s.accepts m.num (solPage n.val) 0x098 1 = true ∧
      (s.solc.tripLow = true ∨ s.solc.tripRecent = true) ∧
      s.coreOn = true) ∧
    (∃ (m : Master) (s : State),
      s.accepts m.num 0x064 0x050 1 = true ∧
      s.solc.tripLow = false ∧
      s.solc.tripRecent = false) ∧
    (∃ (m : Master) (s : State),
      s.accepts m.num 0x064 0x050 1 = true ∧
      (s.solc.tripLow = true ∨ s.solc.tripRecent = true) ∧
      s.coreOn = true) ∧
    (∃ (s : State),
      s.sol.length = 4 ∧
      s.yard.pstate < 3) ∧
    (∃ (s : State),
      3 ≤ s.yard.pstate) :=
  ⟨⟨(fun (s : State) => (({ s with sol := (List.replicate 4 SolS.idle).set 2 { SolS.idle with started := true, sw := 2 } }.setPd 8
    2).put HDR_EN 0 0x065).put SOL_PHASE 2 2) (up 0), by decide +kernel⟩,
   ⟨(fun (s : State) => (({ s with sol := (List.replicate 4 SolS.idle).set 2 { SolS.idle with started := true, sw := 2 } }.setPd 8
     2).put HDR_EN 1 0x065).put SOL_PHASE 2 2) State.reset, by decide +kernel⟩,
   ⟨(fun (s : State) => s.setPd 8 1) State.reset, by decide +kernel⟩,
   ⟨(fun (s : State) => { s with solc := { s.solc with tripLow := true } }) State.reset, by decide +kernel⟩,
   ⟨State.reset, by decide +kernel⟩,
   ⟨(.m2 : Master), (2 : Fin 4),
     (fun (n : Fin 4) (s : State) => (let s := served s; { s with solc := { s.solc with tripLow := false, tripRecent := false } }.put SOL_TRIPPED 1 n.val))
     (2) (upAll 0), by decide +kernel⟩,
   ⟨(.m2 : Master), (2 : Fin 4),
     (fun (n : Fin 4) (s : State) => (let s := served s; { s with solc := { s.solc with tripRecent := true } }.put SOL_TRIPPED 1 n.val))
     (2) (upAll 0), by decide +kernel⟩,
   ⟨(.m0 : Master),
     (fun (s : State) => (let s := served s; { s with solc := { s.solc with tripLow := false, tripRecent := false } }.put BOOST_TRIP_STICKY 1))
     (upAll 0), by decide +kernel⟩,
   ⟨(.m0 : Master),
     (fun (s : State) => (let s := served s; { s with solc := { s.solc with tripLow := true } }.put BOOST_TRIP_STICKY 1))
     (upAll 0), by decide +kernel⟩,
   ⟨(fun (s : State) =>
     { s with sol := List.replicate 4 { SolS.idle with tc := 6000, frac := 77, started := true, sw := 2 }, yard := { s.yard with pstate := 0 } })
     State.reset, by decide +kernel⟩,
   ⟨(fun (s : State) => { s with yard := { s.yard with pstate := 3 + s.regs.length % 2 } }) State.reset, by decide +kernel⟩⟩

theorem test_hyps_ActuatorFaults :
    (∃ (n : Fin 4) (s : State),
      s.sol.length = 4 ∧
      (s.chan n.val).sw ≠ 0 ∧
      s.get SOL_T_OPEN_DET n.val ≠ 0) ∧
    (∃ (n : Fin 4) (s : State),
      ((s.chan n.val).sw = 0 ∨ s.get SOL_T_OPEN_DET n.val = 0)) ∧
    (∃ (n : Fin 4) (s : State),
      s.sol.length = 4 ∧
      (s.chan n.val).watch = true ∧
      s.coreOn = true ∧
      (s.shutChans.contains n.val = false ∨ s.get HDR_EN 0x065 = 0)) ∧
    (∃ (n : Fin 4) (s : State),
      s.sol.length = 4 ∧
      (s.chan n.val).watch = true ∧
      s.shutChans.contains n.val = true ∧
      s.get HDR_EN 0x065 = 1) ∧
    (∃ (n : Fin 4) (s : State),
      (s.chan n.val).watch = false) ∧
    (∃ (n : Fin 4) (s : State),
      s.sol.length = 4 ∧
      (s.chan n.val).sw ≠ 0 ∧
      s.coreOn = true ∧
      (s.shutChans.contains n.val = false ∨ s.get HDR_EN 0x065 = 0)) ∧
    (∃ (n : Fin 4) (s : State),
      s.sol.length = 4 ∧
      (s.chan n.val).sw ≠ 0 ∧
      s.shutChans.contains n.val = true ∧
      s.get HDR_EN 0x065 = 1) ∧
    (∃ (n : Fin 4) (s : State),
      (s.chan n.val).sw = 0) ∧
    (∃ (m : Master) (n : Fin 4) (s : State),
      s.accepts m.num (solPage n.val) 0x098 2 = true) :=
  ⟨⟨(0 : Fin 4),
    (fun (n : Fin 4) (s : State) => (let s : State := s; let s : State := { s with sol := (List.replicate 4 SolS.idle) }; let s : State := s.setChan n.val { SolS.idle with started := true, sw := 2, peakDone := false, motDone := false }; let s : State := (s.put SOL_PHASE 2 n.val).put HDR_EN 1 (solPage n.val); let s : State := ((s.put SHUT_CH_CLOSE 7).put SHUT_TYPE 0).put SOL_PENDING 0 n.val; let s : State := s.put SOL_T_OPEN_DET 5 n.val; s))
    (0) State.reset, by decide +kernel⟩,
   ⟨(0 : Fin 4), State.reset, by decide +kernel⟩,
   ⟨(0 : Fin 4),
     (fun (n : Fin 4) (s : State) => (let s : State := s; let s : State := { s with sol := (List.replicate 4 SolS.idle) }; let s : State := s.setChan n.val { SolS.idle with started := true, watch := true }; let s : State := (s.put SOL_PHASE 2 n.val).put HDR_EN 1 (solPage n.val); let s : State := ((s.put SHUT_CH_CLOSE 7).put SHUT_TYPE 0).put SOL_PENDING 0 n.val; let s : State := s.put HDR_EN 0 0x065; s))
     (0) (up 0), by decide +kernel⟩,
   ⟨(0 : Fin 4),
     (fun (n : Fin 4) (s : State) => (let s : State := s; let s : State := { s with sol := (List.replicate 4 SolS.idle) }; let s : State := s.setChan n.val { SolS.idle with started := true, watch := true }; let s : State := (s.put SOL_PHASE 2 n.val).put HDR_EN 1 (solPage n.val); let s : State := ((s.put SHUT_CH_CLOSE 7).put SHUT_TYPE 0).put SOL_PENDING 0 n.val; let s : State := (s.put HDR_EN 1 0x065).put SHUT_CH_CLOSE n.val; s))
     (0) State.reset, by decide +kernel⟩,
   ⟨(0 : Fin 4), State.reset, by decide +kernel⟩,
   ⟨(3 : Fin 4),
     (fun (n : Fin 4) (s : State) => (let s : State := s; let s : State := { s with sol := (List.replicate 4 SolS.idle) }; let s : State := s.setChan n.val { SolS.idle with started := true, sw := 2, peakDone := false, motDone := false }; let s : State := (s.put SOL_PHASE 2 n.val).put HDR_EN 1 (solPage n.val); let s : State := ((s.put SHUT_CH_CLOSE 7).put SHUT_TYPE 0).put SOL_PENDING 0 n.val; let s : State := s.put HDR_EN 0 0x065; s))
     (3) (up 0), by decide +kernel⟩,
   ⟨(0 : Fin 4),
     (fun (n : Fin 4) (s : State) => (let s : State := s; let s : State := { s with sol := (List.replicate 4 SolS.idle) }; let s : State := s.setChan n.val { SolS.idle with started := true, sw := 2, peakDone := false, motDone := false }; let s : State := (s.put SOL_PHASE 2 n.val).put HDR_EN 1 (solPage n.val); let s : State := ((s.put SHUT_CH_CLOSE 7).put SHUT_TYPE 0).put SOL_PENDING 0 n.val; let s : State := (s.put HDR_EN 1 0x065).put SHUT_CH_CLOSE n.val; s))
     (0) State.reset, by decide +kernel⟩,
   ⟨(0 : Fin 4), State.reset, by decide +kernel⟩,
   ⟨(.m2 : Master), (2 : Fin 4),
     (fun (n : Fin 4) (s : State) => (let s : State := served s; let s : State := { s with sol := (List.replicate 4 SolS.idle) }; let s : State := s.setChan n.val SolS.idle; let s : State := (s.put SOL_PHASE 0 n.val).put HDR_EN 1 (solPage n.val); let s : State := ((s.put SHUT_CH_CLOSE 7).put SHUT_TYPE 0).put SOL_PENDING 0 n.val; let s : State := (((s.put SOL_TRIPPED 0 n.val).put SOL_LATCH 0 n.val).put SOL_HOT 0 n.val).put SOL_INHIBIT_END 0 n.val; let s : State := { s with solc := { s.solc with tripLow := false } }; let s : State := s.put SOL_LATCH 3 n.val; s))
     (2) (upAll 0), by decide +kernel⟩⟩

theorem test_hyps_Temperatures :
    (∃ (sensor : Fin 4) (reading : Int) (s : State),
      s.sensing = true ∧
      2 ≤ sensor.val ∧
      -32768 ≤ reading ∧
      reading < 32768) ∧
    (∃ (points : List Int) (s : State),
      s.sensing = true ∧
      points.length = 34) ∧
    (∃ (reading : Int) (s : State),
      s.sensing = true ∧
      s.band ≤ 4 ∧
      -32768 ≤ reading ∧
      reading < 32768) ∧
    (∃ (s : State),
      s.sensing = false) ∧
    (∃ (sensor : Fin 4) (s : State),
      s.sensing = true ∧
      s.tsBad sensor.val = false ∧
      s.coreOn = true) ∧
    (∃ (sensor : Fin 4) (s : State),
      (s.sensing = false ∨ s.tsBad sensor.val = true)) ∧
    (∃ (code : Fin 4096) (s : State),
      s.sensing = true ∧
      s.on TEMP_AUX_EN = true ∧
      4096 ≤ code.val * 50 ∧
      code.val * 50 ≤ 49 * 4096 ∧
      -640 ≤ thousOf code.val (s.get TEMP_NTC_RPU) (s.get TEMP_NTC_R25) (s.get TEMP_NTC_BETA) ∧
      thousOf code.val (s.get TEMP_NTC_RPU) (s.get TEMP_NTC_R25) (s.get TEMP_NTC_BETA) ≤ 2400) ∧
    (∃ (code : Fin 4096) (s : State),
      s.sensing = true ∧
      (s.on TEMP_AUX_EN = false ∨ code.val * 50 < 4096 ∨ 49 * 4096 < code.val * 50 ∨ thousOf code.val (s.get TEMP_NTC_RPU) (s.get
        TEMP_NTC_R25) (s.get TEMP_NTC_BETA) < -640 ∨ 2400 < thousOf code.val (s.get TEMP_NTC_RPU) (s.get TEMP_NTC_R25) (s.get
        TEMP_NTC_BETA))) ∧
    (∃ (s : State),
      s.sensing = false) ∧
    (∃ (m : Master) (s : State),
      s.accepts m.num 0x004 0x08C 1 = true) :=
  ⟨⟨(3 : Fin 4), (516 : Int),
    (fun (s : State) => (let s : State := { s with boot := { s.boot with inReset := false }, yard := { s.yard with pstate := 0, cut := false } }; (s.setPd 0 2).put SYS_SAFE 0))
    State.reset, by decide +kernel⟩,
   ⟨([-478, 2465, 2698, -100, 1251, 516, -735, 286, 2381, 2366, -292, 1780, 1376, 2905, 1893, 2121, 2459, 2022, 2356, -425, -384, -781, 1581, -616, -281, 650, 2970, -388, 2378, 175, 311, -381, 1278, -445] : List Int),
     (fun (s : State) => (let s : State := { s with boot := { s.boot with inReset := false }, yard := { s.yard with pstate := 0, cut := false } }; (s.setPd 0 2).put SYS_SAFE 0))
     State.reset, by decide +kernel⟩,
   ⟨(2084 : Int),
     (fun (s : State) => (let s : State := { s with boot := { s.boot with inReset := false }, yard := { s.yard with pstate := 0, cut := false } }; (s.setPd 0 2).put SYS_SAFE 0))
     State.reset, by decide +kernel⟩,
   ⟨State.reset, by decide +kernel⟩,
   ⟨(0 : Fin 4),
     (fun (s : State) => (let s : State := { s with boot := { s.boot with inReset := false }, yard := { s.yard with pstate := 0, cut := false } }; (s.setPd 0 2).put SYS_SAFE 0).put TEMP_TS_STATE 0)
     State.reset, by decide +kernel⟩,
   ⟨(0 : Fin 4), State.reset, by decide +kernel⟩,
   ⟨(200 : Fin 4096),
     (fun (s : State) => (let s : State := { s with boot := { s.boot with inReset := false }, yard := { s.yard with pstate := 0, cut := false } }; (s.setPd 0 2).put SYS_SAFE 0).put TEMP_AUX_EN 1 |>.put TEMP_NTC_RPU 10000 |>.put TEMP_NTC_R25 10000 |>.put TEMP_NTC_BETA 3435)
     State.reset, by decide +kernel⟩,
   ⟨(200 : Fin 4096),
     (fun (s : State) => (let s : State := { s with boot := { s.boot with inReset := false }, yard := { s.yard with pstate := 0, cut := false } }; (s.setPd 0 2).put SYS_SAFE 0))
     State.reset, by decide +kernel⟩,
   ⟨State.reset, by decide +kernel⟩,
   ⟨(.m2 : Master), (fun (s : State) => served s) State.reset, by decide +kernel⟩⟩

theorem test_hyps_ThermalCut :
    (∃ (comparator : Bool) (s : State),
      s.safe = false ∧
      s.boot.inReset = false ∧
      s.boot.booting = false ∧
      s.mode ≠ DORMANT ∧
      s.busy = false ∧
      (comparator = true ∨ 2 ≤ s.temp.hot ∨ s.allTsBad = true) ∧
      s.coreOn = true) ∧
    (∃ (comparator : Bool) (s : State),
      s.safe = false ∧
      s.boot.inReset = false ∧
      s.boot.booting = false ∧
      s.mode ≠ DORMANT ∧
      s.busy = false ∧
      (comparator = true ∨ 2 ≤ s.temp.hot ∨ s.allTsBad = true) ∧
      ((List.range 9).all (fun d => s.pd d == 0) = true)) ∧
    (∃ (comparator : Bool) (s : State),
      s.safe = false ∧
      s.boot.inReset = false ∧
      s.boot.booting = true ∧
      (s.busy = false ∨ s.get YARD_MODE_CAUSE ≠ 6) ∧
      (comparator = true ∨ 2 ≤ s.temp.hot ∨ s.allTsBad = true)) ∧
    (∃ (comparator : Bool) (s : State),
      (s.safe = true ∨ s.boot.inReset = true ∨ (s.mode = DORMANT ∧ s.yard.pstate = 4 ∧ s.boot.booting = false) ∨ (s.busy = true ∧
        s.get YARD_MODE_CAUSE = 6) ∨ (comparator = false ∧ s.temp.hot < 2 ∧ s.allTsBad = false))) ∧
    (∃ (s : State),
      s.yard.cut = true ∧
      s.mode = DORMANT) ∧
    (∃ (s : State),
      (s.yard.cut = false ∨ s.mode ≠ DORMANT)) ∧
    (∃ (comparator : Bool) (d : Nat) (s : State),
      s.safe = false ∧
      s.boot.inReset = false ∧
      s.boot.booting = false ∧
      s.mode ≠ DORMANT ∧
      s.busy = false ∧
      (comparator = true ∨ 2 ≤ s.temp.hot ∨ s.allTsBad = true) ∧
      s.pd 0 = 0 ∧
      2 ≤ d ∧
      d < 9 ∧
      s.pd d = 3) :=
  ⟨⟨(false : Bool),
    (fun (s : State) => (let s : State := served s; { s with temp := { s.temp with hot := 2 } }.put YARD_MODE 3 |>.put YARD_MODE_BUSY 0 |>.setPd 0 2))
    State.reset, by decide +kernel⟩,
   ⟨(false : Bool),
     (fun (s : State) => (let s : State := served s; { s with temp := { s.temp with hot := 2 }, yard := { s.yard with pstate := 3 } }.put YARD_MODE 3 |>.put YARD_MODE_BUSY 0 |> fun s => (List.range 9).foldl (fun s d => s.setPd d 0) s))
     State.reset, by decide +kernel⟩,
   ⟨(true : Bool),
     (fun (s : State) => (let s : State := { s with boot := { s.boot with inReset := false, booting := true } }; (s.put SYS_SAFE 0).put YARD_MODE_BUSY 0))
     State.reset, by decide +kernel⟩,
   ⟨(false : Bool), State.reset, by decide +kernel⟩,
   ⟨(fun (s : State) => ({ s with yard := { s.yard with cut := true, heldWakes := s.regs.length % 32 } }.put YARD_MODE 0))
     State.reset, by decide +kernel⟩,
   ⟨State.reset, by decide +kernel⟩,
   ⟨(false : Bool), (7 : Nat),
     (fun (d : Nat) (s : State) => (let s : State := served s; { s with temp := { s.temp with hot := 2 }, yard := { s.yard with pstate := 3 } }.put YARD_MODE 3 |>.put YARD_MODE_BUSY 0 |>.setPd 0 0 |>.setPd d 3))
     (7) State.reset, by decide +kernel⟩⟩

theorem test_hyps_SentryWatch :
    (∃ (s : State),
      s.on PIN_TAP_HALT = false ∧
      s.sen.ready = true ∧
      s.sen.loss = true ∧
      s.coreOn = true) ∧
    (∃ (s : State),
      s.on PIN_TAP_HALT = false ∧
      s.sen.ready = true ∧
      s.sen.loss = false ∧
      s.sen.grid.length < 2 * (s.sen.grid.filter Option.isNone).length ∧
      s.coreOn = true) ∧
    (∃ (s : State),
      s.on PIN_TAP_HALT = false ∧
      s.sen.ready = true ∧
      s.sen.loss = false ∧
      2 * (s.sen.grid.filter Option.isNone).length ≤ s.sen.grid.length ∧
      s.get SENTRY_BG_READY = 0) ∧
    (∃ (s : State),
      s.on PIN_TAP_HALT = false ∧
      s.sen.ready = true ∧
      s.sen.loss = false ∧
      2 * (s.sen.grid.filter Option.isNone).length ≤ s.sen.grid.length ∧
      s.get SENTRY_BG_READY = 1 ∧
      s.get SENTRY_GLOBAL_MAX ≠ 0 ∧
      s.get SENTRY_GLOBAL_MAX ≤ s.exceedCount) ∧
    (∃ (s : State),
      s.on PIN_TAP_HALT = false ∧
      s.sen.ready = true ∧
      s.sen.loss = false ∧
      2 * (s.sen.grid.filter Option.isNone).length ≤ s.sen.grid.length ∧
      s.get SENTRY_BG_READY = 1 ∧
      (s.get SENTRY_GLOBAL_MAX = 0 ∨ s.exceedCount < s.get SENTRY_GLOBAL_MAX) ∧
      s.exceedCount < s.get SENTRY_COUNT_MIN) ∧
    (∃ (s : State),
      s.on PIN_TAP_HALT = false ∧
      s.sen.ready = true ∧
      s.sen.loss = false ∧
      2 * (s.sen.grid.filter Option.isNone).length ≤ s.sen.grid.length ∧
      s.get SENTRY_BG_READY = 1 ∧
      (s.get SENTRY_GLOBAL_MAX = 0 ∨ s.exceedCount < s.get SENTRY_GLOBAL_MAX) ∧
      s.get SENTRY_COUNT_MIN ≤ s.exceedCount ∧
      s.get SENTRY_CONFIRM ≤ min 15 (s.get SENTRY_CONFIRM_CNT + 1) ∧
      s.get SENTRY_HOLDOFF = 0 ∧
      s.boot.booting = false) ∧
    (∃ (s : State),
      s.on PIN_TAP_HALT = false ∧
      s.sen.ready = true ∧
      s.sen.loss = false ∧
      2 * (s.sen.grid.filter Option.isNone).length ≤ s.sen.grid.length ∧
      s.get SENTRY_BG_READY = 1 ∧
      (s.get SENTRY_GLOBAL_MAX = 0 ∨ s.exceedCount < s.get SENTRY_GLOBAL_MAX) ∧
      s.get SENTRY_COUNT_MIN ≤ s.exceedCount ∧
      (min 15 (s.get SENTRY_CONFIRM_CNT + 1) < s.get SENTRY_CONFIRM ∨ s.get SENTRY_HOLDOFF = 1)) ∧
    (∃ (s : State),
      (s.on PIN_TAP_HALT = true ∨ s.sen.ready = false)) ∧
    (∃ (m : Master) (s : State),
      s.accepts m.num 0x054 0x050 1 = true) :=
  ⟨⟨(fun (s : State) => { s.put PIN_TAP_HALT 0 with sen := { s.sen with ready := true, loss := true } }) (up 0),
    by decide +kernel⟩,
   ⟨(fun (s : State) =>
     { s.put PIN_TAP_HALT 0 with sen := { s.sen with ready := true, loss := false, grid := [none, some 5, none] } }) (up 0),
     by decide +kernel⟩,
   ⟨(fun (s : State) =>
     { (s.put PIN_TAP_HALT 0).put SENTRY_BG_READY 0 with sen := { s.sen with ready := true, loss := false, learned := (if s.freeCtr % 2 = 0 then s.get SENTRY_LEARN_FRAMES - 1 else s.regs.length % 3), grid := [none, some 5], bg := [some 3, some 9] } })
     State.reset, by decide +kernel⟩,
   ⟨(fun (s : State) =>
     { (((s.put PIN_TAP_HALT 0).put SENTRY_BG_READY 1).put SENTRY_GLOBAL_MAX 1).put SENTRY_ZONE 0xFFFF 0 0 with sen := { s.sen with ready := true, loss := false, grid := [some 99999, some 5], bg := [some 3, some 9] } })
     State.reset, by decide +kernel⟩,
   ⟨(fun (s : State) =>
     { (((s.put PIN_TAP_HALT 0).put SENTRY_BG_READY 1).put SENTRY_GLOBAL_MAX 0).put SENTRY_COUNT_MIN 4 with sen := { s.sen with ready := true, loss := false, grid := [some 99999, some 5], bg := [some 3, some 9] } })
     State.reset, by decide +kernel⟩,
   ⟨(fun (s : State) =>
     { (((({ s with yard := { s.yard with trans := none, exit := none } }.put PIN_TAP_HALT 0).put SENTRY_BG_READY 1).put SENTRY_GLOBAL_MAX 0).put SENTRY_COUNT_MIN 1).put SENTRY_CONFIRM 1 |>.put SENTRY_HOLDOFF 0 |>.put SENTRY_ZONE 0xFFFF 0 0 |>.put YARD_MODE 1 |>.put YARD_MODE_BUSY 0 |>.put YARD_ALARM_LIVE 1 with sen := { s.sen with ready := true, loss := false, grid := [some 99999, some 5], bg := [some 3, some 9] } })
     State.reset, by decide +kernel⟩,
   ⟨(fun (s : State) =>
     { ((((s.put PIN_TAP_HALT 0).put SENTRY_BG_READY 1).put SENTRY_GLOBAL_MAX 0).put SENTRY_COUNT_MIN 1).put SENTRY_CONFIRM 9 |>.put SENTRY_ZONE 0xFFFF 0 0 with sen := { s.sen with ready := true, loss := false, grid := [some 99999, some 5], bg := [some 3, some 9] } })
     State.reset, by decide +kernel⟩,
   ⟨State.reset, by decide +kernel⟩,
   ⟨(.m0 : Master), (fun (s : State) => (served s).put YARD_MODE 2) (upAll 0), by decide +kernel⟩⟩

theorem test_hyps_LinkNegotiation :
    (∃ (m : Master) (n : Fin 4) (en : Bool) (s : State),
      s.link.length = 4 ∧
      (s.port 0).held = [] ∧
      s.accepts m.num (linkPage n.val) 0x008 (bit en) = true) ∧
    (∃ (n : Fin 4) (s : State),
      s.link.length = 4 ∧
      s.get LINK_STATE n.val = 1 ∧
      s.get LINK_PATH n.val = 1 ∧
      s.linkOn n.val = true) ∧
    (∃ (n : Fin 4) (s : State),
      (s.get LINK_STATE n.val ≠ 1 ∨ s.get LINK_PATH n.val ≠ 1 ∨ s.linkOn n.val = false)) ∧
    (∃ (n : Fin 4) (s : State),
      s.link.length = 4 ∧
      s.get LINK_STATE n.val = 2 ∧
      s.linkOn n.val = true ∧
      s.portsSettled = true) ∧
    (∃ (n : Fin 4) (s : State),
      (s.get LINK_STATE n.val ≠ 2 ∨ s.linkOn n.val = false)) ∧
    (∃ (n : Fin 4) (s : State),
      s.link.length = 4 ∧
      s.headEnd = false ∧
      s.get LINK_STATE n.val = 3 ∧
      bitAt (s.get LINK_GEN_EN n.val) 0 = true ∧
      s.portsSettled = true) ∧
    (∃ (n : Fin 4) (s : State),
      s.link.length = 4 ∧
      s.headEnd = false ∧
      s.get LINK_STATE n.val = 3 ∧
      bitAt (s.get LINK_GEN_EN n.val) 0 = false ∧
      s.coreOn = true ∧
      s.portsSettled = true) ∧
    (∃ (n : Fin 4) (s : State),
      (s.headEnd = true ∨ s.get LINK_STATE n.val ≠ 3)) :=
  ⟨⟨(.m2 : Master), (1 : Fin 4), (false : Bool),
    (fun (n : Fin 4) (en : Bool) (s : State) => (let s : State := served s; let rl := (if s.regs.length / 2 % 3 = 0 then HEAD else CAB); let s : State := { s with link := (List.replicate 4 LinkS.idle).set n.val LinkS.idle, yard := { s.yard with roleCopy := some rl } }; let s : State := ((s.put SYS_ROLE rl).put LINK_STATE 0 n.val).setPd (2 + n.val) 2; let s : State := (s.put HDR_EN (1 - bit en) (linkPage n.val)).setPd (2 + n.val) (2 * (s.regs.length % 2)); s))
    (1) (false) State.reset, by decide +kernel⟩,
   ⟨(0 : Fin 4),
     (fun (n : Fin 4) (s : State) => (let s : State := s; let rl := (if s.regs.length / 2 % 3 = 0 then HEAD else CAB); let s : State := { s with link := (List.replicate 4 LinkS.idle).set n.val { LinkS.idle with attempts := 2 }, yard := { s.yard with roleCopy := some rl } }; let s : State := ((s.put SYS_ROLE rl).put LINK_STATE 1 n.val).setPd (2 + n.val) 2; let s : State := s.put LINK_PATH 1 n.val; s))
     (0) State.reset, by decide +kernel⟩,
   ⟨(0 : Fin 4), State.reset, by decide +kernel⟩,
   ⟨(0 : Fin 4),
     (fun (n : Fin 4) (s : State) => (let s : State := s; let rl := (if s.regs.length / 2 % 3 = 0 then HEAD else CAB); let s : State := { s with link := (List.replicate 4 LinkS.idle).set n.val { LinkS.idle with nextSeq := 7 }, yard := { s.yard with roleCopy := some rl } }; let s : State := ((s.put SYS_ROLE rl).put LINK_STATE 2 n.val).setPd (2 + n.val) 2; s))
     (0) State.reset, by decide +kernel⟩,
   ⟨(0 : Fin 4), State.reset, by decide +kernel⟩,
   ⟨(0 : Fin 4),
     (fun (n : Fin 4) (s : State) => (let s : State := s; let rl := CAB; let s : State := { s with link := (List.replicate 4 LinkS.idle).set n.val LinkS.idle, yard := { s.yard with roleCopy := some rl } }; let s : State := ((s.put SYS_ROLE rl).put LINK_STATE 3 n.val).setPd (2 + n.val) 2; let s : State := s.put LINK_GEN_EN 7 n.val; s))
     (0) State.reset, by decide +kernel⟩,
   ⟨(3 : Fin 4),
     (fun (n : Fin 4) (s : State) => (let s : State := s; let rl := CAB; let s : State := { s with link := (List.replicate 4 LinkS.idle).set n.val LinkS.idle, yard := { s.yard with roleCopy := some rl } }; let s : State := ((s.put SYS_ROLE rl).put LINK_STATE 3 n.val).setPd (2 + n.val) 2; let s : State := s.put LINK_GEN_EN 6 n.val; s))
     (3) (up 0), by decide +kernel⟩,
   ⟨(0 : Fin 4), State.reset, by decide +kernel⟩⟩

theorem test_hyps_LinkTraining :
    (∃ (n : Fin 4) (s : State),
      s.link.length = 4 ∧
      (s.port 0).held = [] ∧
      (s.get LINK_STATE n.val = 4 ∨ s.get LINK_STATE n.val = 6) ∧
      s.linkOn n.val = true ∧
      s.get LINK_SES_STATE n.val ≠ 2 ∧
      s.coreOn = true ∧
      s.portsSettled = true) ∧
    (∃ (n : Fin 4) (s : State),
      s.link.length = 4 ∧
      (s.port 0).held = [] ∧
      (s.get LINK_STATE n.val = 4 ∨ s.get LINK_STATE n.val = 6) ∧
      s.linkOn n.val = true ∧
      s.get LINK_SES_STATE n.val = 2 ∧
      s.portsSettled = true) ∧
    (∃ (n : Fin 4) (s : State),
      s.link.length = 4 ∧
      s.linkOn n.val = true ∧
      (s.get LINK_STATE n.val = 4 ∨ s.get LINK_STATE n.val = 6) ∧
      (s.port n.val).attempts < s.get LINK_RETRAINS n.val) ∧
    (∃ (n : Fin 4) (s : State),
      s.link.length = 4 ∧
      s.linkOn n.val = true ∧
      s.get LINK_STATE n.val = 4 ∧
      s.get LINK_RETRAINS n.val ≤ (s.port n.val).attempts ∧
      topGen (s.common n.val % 2 ^ ((s.port n.val).gen - 1)) ≠ 0 ∧
      s.coreOn = true ∧
      s.portsSettled = true) ∧
    (∃ (n : Fin 4) (s : State),
      s.link.length = 4 ∧
      s.linkOn n.val = true ∧
      s.get LINK_STATE n.val = 4 ∧
      s.get LINK_RETRAINS n.val ≤ (s.port n.val).attempts ∧
      topGen (s.common n.val % 2 ^ ((s.port n.val).gen - 1)) = 0) ∧
    (∃ (n : Fin 4) (s : State),
      s.link.length = 4 ∧
      s.linkOn n.val = true ∧
      s.get LINK_STATE n.val = 6 ∧
      s.get LINK_RETRAINS n.val ≤ (s.port n.val).attempts) ∧
    (∃ (n : Fin 4) (s : State),
      s.get LINK_STATE n.val ≠ 4 ∧
      s.get LINK_STATE n.val ≠ 6) ∧
    (∃ (n : Fin 4) (s : State),
      s.link.length = 4 ∧
      s.get LINK_STATE n.val = 7) ∧
    (∃ (n : Fin 4) (s : State),
      s.get LINK_STATE n.val ≠ 7) ∧
    (∃ (n : Fin 4) (s : State),
      s.link.length = 4 ∧
      s.get LINK_STATE n.val = 2 ∧
      (s.port n.val).noPeer = false) ∧
    (∃ (n : Fin 4) (s : State),
      (s.get LINK_STATE n.val ≠ 2 ∨ (s.port n.val).noPeer = true)) ∧
    (∃ (n : Fin 4) (s : State),
      s.link.length = 4 ∧
      (s.port 0).held = [] ∧
      s.portsSettled = true ∧
      s.linkUp n.val = true ∧
      s.coreOn = true) ∧
    (∃ (n : Fin 4) (s : State),
      s.link.length = 4 ∧
      (s.port 0).held = [] ∧
      (s.pd (2 + n.val) ≠ 1 ∨ s.wants (2 + n.val) = true) ∧
      s.linkUp n.val = false ∧
      s.get LINK_GEN n.val ≠ 0 ∧
      (s.port n.val).downLogged = false ∧
      s.coreOn = true ∧
      s.portsSettled = true) ∧
    (∃ (n : Fin 4) (s : State),
      s.link.length = 4 ∧
      (s.port 0).held = [] ∧
      (s.pd (2 + n.val) ≠ 1 ∨ s.wants (2 + n.val) = true) ∧
      (s.linkUp n.val = true ∨ s.get LINK_GEN n.val = 0 ∨ (s.port n.val).downLogged = true) ∧
      s.portsSettled = true) ∧
    (∃ (n : Fin 4) (s : State),
      (s.get LINK_STATE n.val = 4 ∨ s.get LINK_STATE n.val = 6) ∧
      s.linkOn n.val = false) :=
  ⟨⟨(3 : Fin 4),
    (fun (n : Fin 4) (s : State) => (let s : State := s; let rl := (if s.regs.length / 2 % 3 = 0 then HEAD else CAB); let s : State := { s with link := (List.replicate 4 LinkS.idle).set n.val { LinkS.idle with gen := 3, attempts := 1 }, yard := { s.yard with roleCopy := some rl } }; let s : State := ((s.put SYS_ROLE rl).put LINK_STATE 4 n.val).setPd (2 + n.val) 2; let s : State := s.put LINK_SES_STATE 0 n.val; s))
    (3) (up 0), by decide +kernel⟩,
   ⟨(0 : Fin 4),
     (fun (n : Fin 4) (s : State) => (let s : State := s; let rl := (if s.regs.length / 2 % 3 = 0 then HEAD else CAB); let s : State := { s with link := (List.replicate 4 LinkS.idle).set n.val { LinkS.idle with gen := 3, window := [⟨0x10, 4, [1, 2], 0⟩, ⟨0x11, 5, [1, 2, 3], 7⟩], nextSeq := 6 }, yard := { s.yard with roleCopy := some rl } }; let s : State := ((s.put SYS_ROLE rl).put LINK_STATE 6 n.val).setPd (2 + n.val) 2; let s : State := s.put LINK_SES_STATE 2 n.val; s))
     (0) State.reset, by decide +kernel⟩,
   ⟨(0 : Fin 4),
     (fun (n : Fin 4) (s : State) => (let s : State := s; let rl := (if s.regs.length / 2 % 3 = 0 then HEAD else CAB); let s : State := { s with link := (List.replicate 4 LinkS.idle).set n.val { LinkS.idle with gen := 3, attempts := 0 }, yard := { s.yard with roleCopy := some rl } }; let s : State := ((s.put SYS_ROLE rl).put LINK_STATE 4 n.val).setPd (2 + n.val) 2; let s : State := s.put LINK_RETRAINS 2 n.val; s))
     (0) State.reset, by decide +kernel⟩,
   ⟨(3 : Fin 4),
     (fun (n : Fin 4) (s : State) => (let s : State := s; let rl := (if s.regs.length / 2 % 3 = 0 then HEAD else CAB); let s : State := { s with link := (List.replicate 4 LinkS.idle).set n.val { LinkS.idle with gen := 3, attempts := 2 }, yard := { s.yard with roleCopy := some rl } }; let s : State := ((s.put SYS_ROLE rl).put LINK_STATE 4 n.val).setPd (2 + n.val) 2; let s : State := ((s.put LINK_RETRAINS 2 n.val).put LINK_GEN_EN 7 n.val).put LINK_PEER 7 n.val; s))
     (3) (up 0), by decide +kernel⟩,
   ⟨(0 : Fin 4),
     (fun (n : Fin 4) (s : State) => (let s : State := s; let rl := (if s.regs.length / 2 % 3 = 0 then HEAD else CAB); let s : State := { s with link := (List.replicate 4 LinkS.idle).set n.val { LinkS.idle with gen := 1, attempts := 2 }, yard := { s.yard with roleCopy := some rl } }; let s : State := ((s.put SYS_ROLE rl).put LINK_STATE 4 n.val).setPd (2 + n.val) 2; let s : State := (s.put LINK_RETRAINS 2 n.val).put LINK_RETRY_MS (s.regs.length % 2 * 100) n.val; s))
     (0) State.reset, by decide +kernel⟩,
   ⟨(0 : Fin 4),
     (fun (n : Fin 4) (s : State) => (let s : State := s; let rl := (if s.regs.length / 2 % 3 = 0 then HEAD else CAB); let s : State := { s with link := (List.replicate 4 LinkS.idle).set n.val { LinkS.idle with gen := 1, attempts := 2 }, yard := { s.yard with roleCopy := some rl } }; let s : State := ((s.put SYS_ROLE rl).put LINK_STATE 6 n.val).setPd (2 + n.val) 2; let s : State := s.put LINK_RETRAINS 2 n.val; s))
     (0) State.reset, by decide +kernel⟩,
   ⟨(0 : Fin 4), State.reset, by decide +kernel⟩,
   ⟨(0 : Fin 4),
     (fun (n : Fin 4) (s : State) => (let s : State := s; let rl := (if s.regs.length / 2 % 3 = 0 then HEAD else CAB); let s : State := { s with link := (List.replicate 4 LinkS.idle).set n.val { LinkS.idle with gen := 2 }, yard := { s.yard with roleCopy := some rl } }; let s : State := ((s.put SYS_ROLE rl).put LINK_STATE 7 n.val).setPd (2 + n.val) 2; s))
     (0) State.reset, by decide +kernel⟩,
   ⟨(0 : Fin 4), State.reset, by decide +kernel⟩,
   ⟨(0 : Fin 4),
     (fun (n : Fin 4) (s : State) => (let s : State := s; let rl := (if s.regs.length / 2 % 3 = 0 then HEAD else CAB); let s : State := { s with link := (List.replicate 4 LinkS.idle).set n.val { LinkS.idle with gen := 2 }, yard := { s.yard with roleCopy := some rl } }; let s : State := ((s.put SYS_ROLE rl).put LINK_STATE 2 n.val).setPd (2 + n.val) 2; s))
     (0) State.reset, by decide +kernel⟩,
   ⟨(0 : Fin 4), State.reset, by decide +kernel⟩,
   ⟨(3 : Fin 4),
     (fun (n : Fin 4) (s : State) => (let s : State := s; let rl := (if s.regs.length / 2 % 3 = 0 then HEAD else CAB); let s : State := { s with link := (List.replicate 4 LinkS.idle).set n.val { LinkS.idle with gen := 2 }, yard := { s.yard with roleCopy := some rl } }; let s : State := ((s.put SYS_ROLE rl).put LINK_STATE 5 n.val).setPd (2 + n.val) 2; let s : State := (s.put LINK_GEN 2 n.val).put LINK_SES_STATE 1 n.val; s))
     (3) (up 0), by decide +kernel⟩,
   ⟨(3 : Fin 4),
     (fun (n : Fin 4) (s : State) => (let s : State := s; let rl := (if s.regs.length / 2 % 3 = 0 then HEAD else CAB); let s : State := { s with link := (List.replicate 4 LinkS.idle).set n.val { LinkS.idle with gen := 2, pool := [⟨3, true, 0, 0, 1, false, false⟩] }, yard := { s.yard with roleCopy := some rl } }; let s : State := ((s.put SYS_ROLE rl).put LINK_STATE 6 n.val).setPd (2 + n.val) 2; let s : State := (s.put LINK_GEN 2 n.val).put LINK_SES_STATE 2 n.val; s))
     (3) (up 0), by decide +kernel⟩,
   ⟨(0 : Fin 4),
     (fun (n : Fin 4) (s : State) => (let s : State := s; let rl := (if s.regs.length / 2 % 3 = 0 then HEAD else CAB); let s : State := { s with link := (List.replicate 4 LinkS.idle).set n.val { LinkS.idle with gen := 2 }, yard := { s.yard with roleCopy := some rl } }; let s : State := ((s.put SYS_ROLE rl).put LINK_STATE 5 n.val).setPd (2 + n.val) 2; let s : State := (s.put LINK_GEN 2 n.val).put LINK_SES_STATE 1 n.val; s))
     (0) State.reset, by decide +kernel⟩,
   ⟨(0 : Fin 4),
     (fun (n : Fin 4) (s : State) => (let s : State := s; let rl := (if s.regs.length / 2 % 3 = 0 then HEAD else CAB); let s : State := { s with link := (List.replicate 4 LinkS.idle).set n.val { LinkS.idle with gen := 2 }, yard := { s.yard with roleCopy := some rl } }; let s : State := ((s.put SYS_ROLE rl).put LINK_STATE 4 n.val).setPd (2 + n.val) 2; let s : State := s.setPd (2 + n.val) 3; s))
     (0) State.reset, by decide +kernel⟩⟩

theorem test_hyps_PowerOverCoax :
    (∃ (n : Fin 4) (s : State),
      s.link.length = 4 ∧
      s.get LINK_PATH n.val = 1) ∧
    (∃ (n : Fin 4) (s : State),
      s.link.length = 4 ∧
      (s.port 0).held = [] ∧
      (s.pd (2 + n.val) ≠ 1 ∨ s.wants (2 + n.val) = true) ∧
      s.get LINK_PATH n.val ≠ 1) ∧
    (∃ (n : Fin 4) (s : State),
      s.link.length = 4 ∧
      s.headEnd = false ∧
      s.get LINK_POC_CAUSE n.val = 1 ∧
      s.get LINK_PATH n.val = 0 ∧
      (s.port n.val).pocLatched = false ∧
      s.linkOn n.val = true ∧
      s.on LINK_POC_EN n.val = true) ∧
    (∃ (n : Fin 4) (s : State),
      (s.headEnd = true ∨ s.get LINK_POC_CAUSE n.val ≠ 1 ∨ s.get LINK_PATH n.val ≠ 0 ∨ (s.port n.val).pocLatched = true ∨ s.linkOn
        n.val = false ∨ s.on LINK_POC_EN n.val = false)) ∧
    (∃ (n : Fin 4) (s : State),
      s.link.length = 4 ∧
      s.linkUp n.val = true) ∧
    (∃ (n : Fin 4) (s : State),
      s.linkUp n.val = false) ∧
    (∃ (n : Fin 4) (s : State),
      s.link.length = 4 ∧
      (s.get LINK_PATH n.val = 1 ∨ (s.headEnd = false ∧ s.linkOn n.val = true ∧ s.on LINK_POC_EN n.val = true ∧ s.get LINK_STATE
        n.val = 1 ∧ (s.port n.val).pocLatched = false)) ∧
      s.coreOn = true) ∧
    (∃ (n : Fin 4) (s : State),
      s.link.length = 4 ∧
      (s.port 0).held = [] ∧
      (s.pd (2 + n.val) ≠ 1 ∨ s.wants (2 + n.val) = true) ∧
      s.get LINK_PATH n.val ≠ 1 ∧
      (¬(s.headEnd = false ∧ s.linkOn n.val = true ∧ s.on LINK_POC_EN n.val = true ∧ s.get LINK_STATE n.val = 1 ∧ (s.port
        n.val).pocLatched = false))) ∧
    (∃ (n : Fin 4) (s : State),
      s.link.length = 4 ∧
      s.get LINK_PATH n.val = 2) ∧
    (∃ (n : Fin 4) (s : State),
      s.get LINK_PATH n.val ≠ 2) ∧
    (∃ (n : Fin 4) (mA : Nat) (s : State),
      s.safe = false ∧
      s.present (linkPage n.val) = true ∧
      mA < 5 ∧
      s.get LINK_PATH n.val = 1 ∧
      s.linkUp n.val = false ∧
      s.get LINK_STATE n.val ≠ 1 ∧
      s.get LINK_NO_LOAD n.val = 0) ∧
    (∃ (n : Fin 4) (mA : Nat) (s : State),
      s.safe = false ∧
      s.present (linkPage n.val) = true ∧
      (5 ≤ mA ∨ s.get LINK_PATH n.val ≠ 1 ∨ s.linkUp n.val = true ∨ s.get LINK_STATE n.val = 1)) ∧
    (∃ (n : Fin 4) (s : State),
      (s.safe = true ∨ s.present (linkPage n.val) = false)) ∧
    (∃ (n : Fin 4) (dV : Nat) (s : State),
      s.safe = false ∧
      s.headEnd = false ∧
      s.present (linkPage n.val) = true ∧
      dV < 100 ∧
      s.get LINK_VIN_LOW n.val = 0) ∧
    (∃ (n : Fin 4) (dV : Nat) (s : State),
      s.safe = false ∧
      s.headEnd = false ∧
      s.present (linkPage n.val) = true ∧
      100 ≤ dV) ∧
    (∃ (n : Fin 4) (dV : Nat) (s : State),
      (s.safe = true ∨ s.headEnd = true ∨ s.present (linkPage n.val) = false ∨ (dV < 100 ∧ s.get LINK_VIN_LOW n.val = 1))) ∧
    (∃ (m : Master) (n : Fin 4) (persists : Bool) (s : State),
      s.link.length = 4 ∧
      s.serves = true ∧
      s.sources m.num = true ∧
      s.present (linkPage n.val) = true ∧
      (s.checkWith none m.num (linkPage n.val) 0x05C 1).isNone = true ∧
      (persists = false ∨ ((s.port n.val).pocLatched = false ∧ (s.port n.val).kaFault = false)) ∧
      ((s.port n.val).pocLatched = true ∨ (s.port n.val).kaFault = true ∨ s.get LINK_POC_CAUSE n.val ≠ 0)) ∧
    (∃ (m : Master) (n : Fin 4) (s : State),
      s.serves = true ∧
      s.sources m.num = true ∧
      s.present (linkPage n.val) = true ∧
      (s.checkWith none m.num (linkPage n.val) 0x05C 1).isNone = true ∧
      ((s.port n.val).pocLatched = true ∨ (s.port n.val).kaFault = true)) :=
  ⟨⟨(0 : Fin 4),
    (fun (n : Fin 4) (s : State) => (let s : State := s; let rl := CAB; let s : State := { s with link := (List.replicate 4 LinkS.idle).set n.val { LinkS.idle with retries := 2 }, yard := { s.yard with roleCopy := some rl } }; let s : State := ((s.put SYS_ROLE rl).put LINK_STATE 5 n.val).setPd (2 + n.val) 2; let s : State := (s.put LINK_PATH 1 n.val).put LINK_RETRIES (1 + s.regs.length % 3) n.val; let s : State := s.setPort 0 { s.port 0 with held := [] }; s))
    (0) State.reset, by decide +kernel⟩,
   ⟨(0 : Fin 4),
     (fun (n : Fin 4) (s : State) => (let s : State := s; let rl := (if s.regs.length / 2 % 3 = 0 then HEAD else CAB); let s : State := { s with link := (List.replicate 4 LinkS.idle).set n.val LinkS.idle, yard := { s.yard with roleCopy := some rl } }; let s : State := ((s.put SYS_ROLE rl).put LINK_STATE 5 n.val).setPd (2 + n.val) 2; s))
     (0) State.reset, by decide +kernel⟩,
   ⟨(0 : Fin 4),
     (fun (n : Fin 4) (s : State) => (let s : State := s; let rl := CAB; let s : State := { s with link := (List.replicate 4 LinkS.idle).set n.val { LinkS.idle with retries := 2 }, yard := { s.yard with roleCopy := some rl } }; let s : State := ((s.put SYS_ROLE rl).put LINK_STATE 1 n.val).setPd (2 + n.val) 2; let s : State := ((s.put LINK_PATH 0 n.val).put LINK_POC_CAUSE 1 n.val).put LINK_POC_EN 1 n.val; s))
     (0) State.reset, by decide +kernel⟩,
   ⟨(0 : Fin 4), State.reset, by decide +kernel⟩,
   ⟨(0 : Fin 4),
     (fun (n : Fin 4) (s : State) => (let s : State := s; let rl := (if s.regs.length / 2 % 3 = 0 then HEAD else CAB); let s : State := { s with link := (List.replicate 4 LinkS.idle).set n.val { LinkS.idle with retries := 2 }, yard := { s.yard with roleCopy := some rl } }; let s : State := ((s.put SYS_ROLE rl).put LINK_STATE 5 n.val).setPd (2 + n.val) 2; s))
     (0) State.reset, by decide +kernel⟩,
   ⟨(0 : Fin 4), State.reset, by decide +kernel⟩,
   ⟨(3 : Fin 4),
     (fun (n : Fin 4) (s : State) => (let s : State := s; let rl := CAB; let s : State := { s with link := (List.replicate 4 LinkS.idle).set n.val LinkS.idle, yard := { s.yard with roleCopy := some rl } }; let s : State := ((s.put SYS_ROLE rl).put LINK_STATE 5 n.val).setPd (2 + n.val) 2; let s : State := s.put LINK_PATH 1 n.val; s))
     (3) (up 0), by decide +kernel⟩,
   ⟨(0 : Fin 4),
     (fun (n : Fin 4) (s : State) => (let s : State := s; let rl := (if s.regs.length / 2 % 3 = 0 then HEAD else CAB); let s : State := { s with link := (List.replicate 4 LinkS.idle).set n.val LinkS.idle, yard := { s.yard with roleCopy := some rl } }; let s : State := ((s.put SYS_ROLE rl).put LINK_STATE 5 n.val).setPd (2 + n.val) 2; s))
     (0) State.reset, by decide +kernel⟩,
   ⟨(0 : Fin 4),
     (fun (n : Fin 4) (s : State) => (let s : State := s; let rl := (if s.regs.length / 2 % 3 = 0 then HEAD else CAB); let s : State := { s with link := (List.replicate 4 LinkS.idle).set n.val LinkS.idle, yard := { s.yard with roleCopy := some rl } }; let s : State := ((s.put SYS_ROLE rl).put LINK_STATE 5 n.val).setPd (2 + n.val) 2; let s : State := s.put LINK_PATH 2 n.val; s))
     (0) State.reset, by decide +kernel⟩,
   ⟨(0 : Fin 4), State.reset, by decide +kernel⟩,
   ⟨(0 : Fin 4), (0 : Nat),
     (fun (n : Fin 4) (s : State) => (let s : State := s; let rl := (if s.regs.length / 2 % 3 = 0 then HEAD else CAB); let s : State := { s with link := (List.replicate 4 LinkS.idle).set n.val LinkS.idle, yard := { s.yard with roleCopy := some rl } }; let s : State := ((s.put SYS_ROLE rl).put LINK_STATE 2 n.val).setPd (2 + n.val) 2; let s : State := (s.put LINK_PATH 1 n.val).put LINK_NO_LOAD 0 n.val; s))
     (0) State.reset, by decide +kernel⟩,
   ⟨(0 : Fin 4), (0 : Nat), State.reset, by decide +kernel⟩,
   ⟨(1 : Fin 4), State.reset, by decide +kernel⟩,
   ⟨(0 : Fin 4), (1 : Nat),
     (fun (n : Fin 4) (s : State) => (let s : State := s; let rl := CAB; let s : State := { s with link := (List.replicate 4 LinkS.idle).set n.val LinkS.idle, yard := { s.yard with roleCopy := some rl } }; let s : State := ((s.put SYS_ROLE rl).put LINK_STATE 5 n.val).setPd (2 + n.val) 2; let s : State := s.put LINK_VIN_LOW 0 n.val; s))
     (0) State.reset, by decide +kernel⟩,
   ⟨(1 : Fin 4), (171 : Nat),
     (fun (n : Fin 4) (s : State) => (let s : State := s; let rl := CAB; let s : State := { s with link := (List.replicate 4 LinkS.idle).set n.val LinkS.idle, yard := { s.yard with roleCopy := some rl } }; let s : State := ((s.put SYS_ROLE rl).put LINK_STATE 5 n.val).setPd (2 + n.val) 2; let s : State := s.put LINK_VIN_LOW 1 n.val; s))
     (1) State.reset, by decide +kernel⟩,
   ⟨(0 : Fin 4), (1 : Nat), State.reset, by decide +kernel⟩,
   ⟨(.m2 : Master), (1 : Fin 4), (false : Bool),
     (fun (n : Fin 4) (s : State) => (let s : State := served s; let rl := (if s.regs.length / 2 % 3 = 0 then HEAD else CAB); let s : State := { s with link := (List.replicate 4 LinkS.idle).set n.val { LinkS.idle with pocLatched := true, retries := 4 }, yard := { s.yard with roleCopy := some rl } }; let s : State := ((s.put SYS_ROLE rl).put LINK_STATE 1 n.val).setPd (2 + n.val) 2; let s : State := (s.put LINK_POC_CAUSE 1 n.val).put HDR_EN 1 (linkPage n.val) |>.put LINK_PATH 0 n.val |>.put LINK_POC_EN 1 n.val; s))
     (1) State.reset, by decide +kernel⟩,
   ⟨(.m2 : Master), (1 : Fin 4),
     (fun (n : Fin 4) (s : State) => (let s : State := served s; let rl := (if s.regs.length / 2 % 3 = 0 then HEAD else CAB); let s : State := { s with link := (List.replicate 4 LinkS.idle).set n.val { LinkS.idle with pocLatched := true, retries := 4 }, yard := { s.yard with roleCopy := some rl } }; let s : State := ((s.put SYS_ROLE rl).put LINK_STATE 1 n.val).setPd (2 + n.val) 2; let s : State := s.put LINK_POC_CAUSE 1 n.val; s))
     (1) State.reset, by decide +kernel⟩⟩

theorem test_hyps_CoaxWakes :
    (∃ (m : Master) (n : Fin 4) (s : State),
      s.accepts m.num (linkPage n.val) 0x05C 2 = true ∧
      n = 0 ∧
      s.headYard = true ∧
      s.get LINK_STATE 0 = 9) ∧
    (∃ (m : Master) (n : Fin 4) (s : State),
      s.accepts m.num (linkPage n.val) 0x05C 2 = true ∧
      (n ≠ 0 ∨ s.headYard = false ∨ s.get LINK_STATE 0 ≠ 9)) ∧
    (∃ (m : Master) (n : Fin 4) (s : State),
      s.accepts m.num (linkPage n.val) 0x05C 4 = true) ∧
    (∃ (s : State),
      s.link.length = 4 ∧
      s.headYard = true ∧
      s.boot.inReset = false ∧
      s.safe = false ∧
      s.portsSettled = true) ∧
    (∃ (s : State),
      (s.headYard = false ∨ s.boot.inReset = true ∨ s.safe = true)) ∧
    (∃ (s : State),
      s.link.length = 4 ∧
      s.headYard = true ∧
      (s.port 0).held = [] ∧
      s.portsSettled = true) ∧
    (∃ (s : State),
      s.link.length = 4 ∧
      s.portsSettled = true ∧
      s.headYard = false ∧
      (s.port 0).held = []) ∧
    (∃ (n : Fin 4) (mA : Nat) (s : State),
      (s.port n.val).wakeEn = true ∧
      s.get LINK_PATH n.val = 2 ∧
      mA ≤ 15 ∧
      s.boot.inReset = false ∧
      s.safe = false ∧
      s.coreOn = true) ∧
    (∃ (n : Fin 4) (mA : Nat) (s : State),
      ((s.port n.val).wakeEn = false ∨ s.get LINK_PATH n.val ≠ 2 ∨ 15 < mA ∨ s.boot.inReset = true ∨ s.safe = true)) :=
  ⟨⟨(.m0 : Master), (0 : Fin 4),
    (fun (n : Fin 4) (s : State) => (let s : State := served s; let rl := HEAD; let s : State := { s with link := (List.replicate 4 LinkS.idle).set n.val LinkS.idle, yard := { s.yard with roleCopy := some rl } }; let s : State := ((s.put SYS_ROLE rl).put LINK_STATE 9 n.val).setPd (2 + n.val) 2; let s : State := s.put LINK_STATE 9 0; s))
    (0) State.reset, by decide +kernel⟩,
   ⟨(.m2 : Master), (1 : Fin 4),
     (fun (n : Fin 4) (s : State) => (let s : State := served s; let rl := (if s.regs.length / 2 % 3 = 0 then HEAD else CAB); let s : State := { s with link := (List.replicate 4 LinkS.idle).set n.val LinkS.idle, yard := { s.yard with roleCopy := some rl } }; let s : State := ((s.put SYS_ROLE rl).put LINK_STATE 5 n.val).setPd (2 + n.val) 2; s))
     (1) State.reset, by decide +kernel⟩,
   ⟨(.m2 : Master), (1 : Fin 4),
     (fun (n : Fin 4) (s : State) => (let s : State := served s; let rl := (if s.regs.length / 2 % 3 = 0 then HEAD else CAB); let s : State := { s with link := (List.replicate 4 LinkS.idle).set n.val LinkS.idle, yard := { s.yard with roleCopy := some rl } }; let s : State := ((s.put SYS_ROLE rl).put LINK_STATE 5 n.val).setPd (2 + n.val) 2; let s : State := s.put LINK_STALL_PEAK 40 n.val; s))
     (1) State.reset, by decide +kernel⟩,
   ⟨(fun (s : State) => (let n : Fin 4 := 0; let s : State := (served s); let s : State := { s with link := List.replicate 4 { LinkS.idle with signature := true }, yard := { s.yard with roleCopy := some HEAD } }; ((s.put SYS_ROLE HEAD).put LINK_STATE 9 n.val).setPd 2 (2 * (s.regs.length % 2))))
     State.reset, by decide +kernel⟩,
   ⟨State.reset, by decide +kernel⟩,
   ⟨(fun (s : State) => (let s : State := { s with link := List.replicate 4 LinkS.idle, yard := { s.yard with roleCopy := some HEAD } }; ((s.put SYS_ROLE HEAD).put LINK_STATE 5 0).setPd 2 2))
     State.reset, by decide +kernel⟩,
   ⟨(fun (s : State) => (let s : State := { s with link := List.replicate 4 LinkS.idle, yard := { s.yard with roleCopy := some CAB } }; ((s.put SYS_ROLE CAB).put LINK_STATE 5 0).setPd 2 2))
     State.reset, by decide +kernel⟩,
   ⟨(0 : Fin 4), (1 : Nat),
     (fun (n : Fin 4) (s : State) => (let s : State := served s; let rl := (if s.regs.length / 2 % 3 = 0 then HEAD else CAB); let s : State := { s with link := (List.replicate 4 LinkS.idle).set n.val { LinkS.idle with wakeEn := true }, yard := { s.yard with roleCopy := some rl } }; let s : State := ((s.put SYS_ROLE rl).put LINK_STATE 0 n.val).setPd (2 + n.val) 2; let s : State := s.put LINK_PATH 2 n.val; s))
     (0) State.reset, by decide +kernel⟩,
   ⟨(0 : Fin 4), (190 : Nat), State.reset, by decide +kernel⟩⟩

theorem test_hyps_VideoPackets :
    (∃ (n : Fin 4) (p : Packet) (s : State),
      s.link.length = 4 ∧
      s.takesFrames n.val = true ∧
      s.pktGood n.val 1 2 p = false ∧
      s.portsSettled = true) ∧
    (∃ (n : Fin 4) (p : Packet) (l : Nat) (s : State),
      s.link.length = 4 ∧
      s.takesFrames n.val = true ∧
      s.pktGood n.val 1 2 p = true ∧
      (s.port n.val).lastFc = some l ∧
      1 ≤ (((p.words[0]?).getD 0).toNat + 2 ^ 32 - l) % 2 ^ 32 ∧
      (((p.words[0]?).getD 0).toNat + 2 ^ 32 - l) % 2 ^ 32 < 2 ^ 31 ∧
      s.portsSettled = true) ∧
    (∃ (n : Fin 4) (p : Packet) (s : State),
      s.link.length = 4 ∧
      s.takesFrames n.val = true ∧
      s.pktGood n.val 1 2 p = true ∧
      (s.port n.val).lastFc = none ∧
      s.portsSettled = true) ∧
    (∃ (n : Fin 4) (p : Packet) (l : Nat) (s : State),
      s.link.length = 4 ∧
      s.takesFrames n.val = true ∧
      s.pktGood n.val 1 2 p = true ∧
      (s.port n.val).lastFc = some l ∧
      ((((p.words[0]?).getD 0).toNat + 2 ^ 32 - l) % 2 ^ 32 = 0 ∨ 2 ^ 31 ≤ (((p.words[0]?).getD 0).toNat + 2 ^ 32 - l) % 2 ^ 32) ∧
      s.portsSettled = true) ∧
    (∃ (n : Fin 4) (p : Packet) (f : RxFrame) (s : State),
      s.link.length = 4 ∧
      s.takesFrames n.val = true ∧
      s.get LINK_GEN n.val = 3 ∧
      s.get LINK_AUTH_MODE n.val ≠ 0 ∧
      s.on LINK_LEGACY n.val = false ∧
      s.pktGood n.val 1 2 p = true ∧
      (s.port n.val).rx = some f ∧
      f.shown = true ∧
      s.on LINK_KEY_MISMATCH n.val = false ∧
      (s.port n.val).key ≠ none ∧
      (s.port n.val).lastFc = none ∧
      s.portsSettled = true) ∧
    (∃ (n : Fin 4) (p : Packet) (s : State),
      s.link.length = 4 ∧
      s.takesFrames n.val = true ∧
      (s.pktGood n.val 2 (if bitsOf p.header.toNat 0 16 = 1 then 13 else 9) p = false ∨ (bitsOf p.header.toNat 0 16 ≠ 1 ∧ bitsOf
        p.header.toNat 0 16 ≠ 2)) ∧
      s.portsSettled = true) ∧
    (∃ (n : Fin 4) (p : Packet) (f : RxFrame) (k : List Nat) (s : State),
      s.link.length = 4 ∧
      s.vid.length = 4 ∧
      s.takesFrames n.val = true ∧
      s.get LINK_GEN n.val = 3 ∧
      bitsOf p.header.toNat 0 16 = 1 ∧
      s.pktGood n.val 2 13 p = true ∧
      (s.port n.val).rx = some f ∧
      f.shown = true ∧
      (s.port n.val).key = some k ∧
      s.portsSettled = true) ∧
    (∃ (n : Fin 4) (p : Packet) (s : State),
      s.link.length = 4 ∧
      s.takesFrames n.val = true ∧
      (bitsOf p.header.toNat 0 16 = 1 ∨ bitsOf p.header.toNat 0 16 = 2) ∧
      (s.pktGood n.val 2 (if bitsOf p.header.toNat 0 16 = 1 then 13 else 9) p = true) ∧
      (s.port n.val).rx = none) ∧
    (∃ (n : Fin 4) (p : Packet) (s : State),
      s.link.length = 4 ∧
      s.takesFrames n.val = true ∧
      s.pktGood n.val 3 (rowLen (s.stream n.val).fmt (s.stream n.val).width + 1) p = false ∧
      s.portsSettled = true) ∧
    (∃ (n : Fin 4) (p : Packet) (s : State),
      s.link.length = 4 ∧
      s.takesFrames n.val = true ∧
      s.pktGood n.val 3 (rowLen (s.stream n.val).fmt (s.stream n.val).width + 1) p = true ∧
      ((s.port n.val).rx = none ∨ (s.port n.val).rx.map (fun f => f.shown) = some false) ∧
      s.portsSettled = true) ∧
    (∃ (n : Fin 4) (p : Packet) (f : RxFrame) (s : State),
      s.link.length = 4 ∧
      s.takesFrames n.val = true ∧
      s.pktGood n.val 3 (rowLen (s.stream n.val).fmt (s.stream n.val).width + 1) p = true ∧
      (s.port n.val).rx = some f ∧
      f.shown = true ∧
      61440 < p.stall + 4 * (rowLen (s.stream n.val).fmt (s.stream n.val).width + 2) ∧
      s.portsSettled = true) ∧
    (∃ (n : Fin 4) (p : Packet) (f : RxFrame) (s : State),
      s.link.length = 4 ∧
      s.vid.length = 4 ∧
      s.takesFrames n.val = true ∧
      s.pktGood n.val 3 (rowLen (s.stream n.val).fmt (s.stream n.val).width + 1) p = true ∧
      (s.port n.val).rx = some f ∧
      f.shown = true ∧
      p.stall + 4 * (rowLen (s.stream n.val).fmt (s.stream n.val).width + 2) ≤ 61440 ∧
      s.portsSettled = true) ∧
    (∃ (n : Fin 4) (p : Packet) (s : State),
      s.link.length = 4 ∧
      s.takesFrames n.val = true ∧
      (s.pktGood n.val 4 (if s.get LINK_GEN n.val = 3 then 4 else 2) p = false) ∧
      s.portsSettled = true) ∧
    (∃ (n : Fin 4) (p : Packet) (s : State),
      s.link.length = 4 ∧
      s.takesFrames n.val = true ∧
      (s.pktGood n.val 4 (if s.get LINK_GEN n.val = 3 then 4 else 2) p = true) ∧
      ((s.port n.val).rx = none ∨ (s.port n.val).rx.map (fun f => f.shown) = some false) ∧
      s.portsSettled = true) ∧
    (∃ (n : Fin 4) (p : Packet) (f : RxFrame) (s : State),
      s.link.length = 4 ∧
      s.takesFrames n.val = true ∧
      (s.pktGood n.val 4 (if s.get LINK_GEN n.val = 3 then 4 else 2) p = true) ∧
      (s.get LINK_AUTH_MODE n.val = 0 ∨ s.get LINK_GEN n.val < 3 ∨ s.on LINK_LEGACY n.val = true) ∧
      (s.port n.val).rx = some f ∧
      f.shown = true ∧
      s.portsSettled = true) ∧
    (∃ (n : Fin 4) (p : Packet) (f : RxFrame) (k : List Nat) (s : State),
      s.link.length = 4 ∧
      s.takesFrames n.val = true ∧
      s.get LINK_GEN n.val = 3 ∧
      s.get LINK_AUTH_MODE n.val ≠ 0 ∧
      s.on LINK_LEGACY n.val = false ∧
      s.pktGood n.val 4 4 p = true ∧
      (s.port n.val).rx = some f ∧
      f.shown = true ∧
      f.bad = false ∧
      s.on LINK_KEY_MISMATCH n.val = false ∧
      (s.port n.val).key = some k ∧
      (f.mac.words k (hdrWord 4 4 (bitsOf p.header.toNat 0 16) :: [((p.words[0]?).getD 0).toNat])).tag k = ((p.words[1]?).getD
        0).toNat * 2 ^ 32 + ((p.words[2]?).getD 0).toNat ∧
      s.portsSettled = true) ∧
    (∃ (n : Fin 4) (p : Packet) (f : RxFrame) (k : List Nat) (s : State),
      s.link.length = 4 ∧
      s.takesFrames n.val = true ∧
      s.get LINK_GEN n.val = 3 ∧
      s.get LINK_AUTH_MODE n.val ≠ 0 ∧
      s.on LINK_LEGACY n.val = false ∧
      s.pktGood n.val 4 4 p = true ∧
      (s.port n.val).rx = some f ∧
      f.shown = true ∧
      f.bad = false ∧
      s.on LINK_KEY_MISMATCH n.val = false ∧
      (s.port n.val).key = some k ∧
      (f.mac.words k (hdrWord 4 4 (bitsOf p.header.toNat 0 16) :: [((p.words[0]?).getD 0).toNat])).tag k ≠ ((p.words[1]?).getD
        0).toNat * 2 ^ 32 + ((p.words[2]?).getD 0).toNat ∧
      s.portsSettled = true) ∧
    (∃ (n : Fin 4) (p : Packet) (f : RxFrame) (s : State),
      s.link.length = 4 ∧
      s.takesFrames n.val = true ∧
      s.get LINK_GEN n.val = 3 ∧
      s.get LINK_AUTH_MODE n.val ≠ 0 ∧
      s.on LINK_LEGACY n.val = false ∧
      s.pktGood n.val 4 4 p = true ∧
      (s.port n.val).rx = some f ∧
      f.shown = true ∧
      (f.bad = true ∨ s.on LINK_KEY_MISMATCH n.val = true ∨ (s.port n.val).key = none) ∧
      s.portsSettled = true) ∧
    (∃ (n : Fin 4) (s : State),
      s.takesFrames n.val = false) ∧
    (∃ (n : Fin 4) (s : State),
      s.takesFrames n.val = false) ∧
    (∃ (n : Fin 4) (s : State),
      s.takesFrames n.val = false ∧
      s.portsSettled = true) ∧
    (∃ (n : Fin 4) (s : State),
      s.takesFrames n.val = false ∧
      s.portsSettled = true) ∧
    (∃ (n : Fin 4) (s : State),
      s.linkUp n.val = true) ∧
    (∃ (n : Fin 4) (s : State),
      s.linkUp n.val = false) :=
  ⟨⟨(0 : Fin 4), ({ header := 0x0#32, words := [], corrected := 0, uncorrectable := 0, stall := 0 } : Packet),
    (fun (n : Fin 4) (s : State) => (let s : State := { s with link := (List.replicate 4 LinkS.idle).set n.val { LinkS.idle with key := some (List.replicate 16 7), lastFc := some 6, rx := some ⟨6, true, false, 640, 0, Mac.start⟩ } }; let s : State := (((s.put SYS_ROLE CAB).put LINK_STATE 5 n.val).setPd (2 + n.val) 2).put LINK_SES_STATE 1 n.val; let s : State := if s.regs.length % 2 = 0 then s else { (((((s.setPd 6 2).setPd 7 2).put HDR_EN 1 pCSI).put YARD_OUTSET 7).put YARD_EFF_OUT 7) with vout := { s.vout with pvpOn := true } }; s))
    (0) State.reset, by decide +kernel⟩,
   ⟨(0 : Fin 4),
     ({ header := 0x10020000#32, words := [0x7#32, 0xd5ddd159#32], corrected := 0, uncorrectable := 0, stall := 0 } : Packet),
     (6 : Nat),
     (fun (n : Fin 4) (s : State) => (let s : State := { s with link := (List.replicate 4 LinkS.idle).set n.val { LinkS.idle with key := some (List.replicate 16 7), lastFc := some 6, rx := if s.regs.length % 3 = 0 then some ⟨6, true, false, 640, 0, Mac.start⟩ else none } }; let s : State := (((s.put SYS_ROLE CAB).put LINK_STATE 5 n.val).setPd (2 + n.val) 2).put LINK_SES_STATE 1 n.val; let s : State := if s.regs.length % 2 = 0 then s else { (((((s.setPd 6 2).setPd 7 2).put HDR_EN 1 pCSI).put YARD_OUTSET 7).put YARD_EFF_OUT 7) with vout := { s.vout with pvpOn := true } }; s))
     (0) State.reset, by decide +kernel⟩,
   ⟨(0 : Fin 4),
     ({ header := 0x10020000#32, words := [0x7#32, 0xd5ddd159#32], corrected := 0, uncorrectable := 0, stall := 0 } : Packet),
     (fun (n : Fin 4) (s : State) => (let s : State := { s with link := (List.replicate 4 LinkS.idle).set n.val { LinkS.idle with key := some (List.replicate 16 7), lastFc := some 6, rx := none } }; let s : State := (((s.put SYS_ROLE CAB).put LINK_STATE 5 n.val).setPd (2 + n.val) 2).put LINK_SES_STATE 1 n.val; let s : State := if s.regs.length % 2 = 0 then s else { (((((s.setPd 6 2).setPd 7 2).put HDR_EN 1 pCSI).put YARD_OUTSET 7).put YARD_EFF_OUT 7) with vout := { s.vout with pvpOn := true } }; let s : State := s.setPort n.val { s.port n.val with lastFc := none }; s))
     (0) State.reset, by decide +kernel⟩,
   ⟨(0 : Fin 4),
     ({ header := 0x10020000#32, words := [0x6#32, 0x6d61b63c#32], corrected := 0, uncorrectable := 0, stall := 0 } : Packet),
     (6 : Nat),
     (fun (n : Fin 4) (s : State) => (let s : State := { s with link := (List.replicate 4 LinkS.idle).set n.val { LinkS.idle with key := some (List.replicate 16 7), lastFc := some 6, rx := if s.regs.length % 3 = 0 then some ⟨6, true, false, 640, 0, Mac.start⟩ else none } }; let s : State := (((s.put SYS_ROLE CAB).put LINK_STATE 5 n.val).setPd (2 + n.val) 2).put LINK_SES_STATE 1 n.val; let s : State := if s.regs.length % 2 = 0 then s else { (((((s.setPd 6 2).setPd 7 2).put HDR_EN 1 pCSI).put YARD_OUTSET 7).put YARD_EFF_OUT 7) with vout := { s.vout with pvpOn := true } }; s))
     (0) State.reset, by decide +kernel⟩,
   ⟨(0 : Fin 4),
     ({ header := 0x10020000#32, words := [0x7#32, 0xd5ddd159#32], corrected := 0, uncorrectable := 0, stall := 0 } : Packet),
     ({ counter := 6, shown := true, bad := false, width := 640, fmt := 0, mac := { x := (List.replicate 16 0), buf := [] } } : RxFrame),
     (fun (n : Fin 4) (f : RxFrame) (s : State) => (let s : State := { s with link := (List.replicate 4 LinkS.idle).set n.val { LinkS.idle with key := some (List.replicate 16 7), lastFc := some 6, rx := some f } }; let s : State := (((s.put SYS_ROLE CAB).put LINK_STATE 5 n.val).setPd (2 + n.val) 2).put LINK_SES_STATE 1 n.val; let s : State := if s.regs.length % 2 = 0 then s else { (((((s.setPd 6 2).setPd 7 2).put HDR_EN 1 pCSI).put YARD_OUTSET 7).put YARD_EFF_OUT 7) with vout := { s.vout with pvpOn := true } }; let s : State := s.setPort n.val { s.port n.val with lastFc := none }; let s : State := ((s.put LINK_GEN 3 n.val).put LINK_AUTH_MODE (1 + s.regs.length % 2) n.val).put LINK_LEGACY 0 n.val |>.put LINK_KEY_MISMATCH 0 n.val; s))
     (0) ({ counter := 6, shown := true, bad := false, width := 640, fmt := 0, mac := { x := (List.replicate 16 0), buf := [] } })
     State.reset, by decide +kernel⟩,
   ⟨(0 : Fin 4),
     ({ header := 0x200d0003#32, words := (List.replicate 12 0x5#32 ++ [0xddfca9e6#32]), corrected := 1, uncorrectable := 0, stall := 0 } : Packet),
     (fun (n : Fin 4) (s : State) => (let s : State := { s with link := (List.replicate 4 LinkS.idle).set n.val { LinkS.idle with key := some (List.replicate 16 7), lastFc := some 6, rx := some ⟨6, true, false, 640, 0, Mac.start⟩ } }; let s : State := (((s.put SYS_ROLE CAB).put LINK_STATE 5 n.val).setPd (2 + n.val) 2).put LINK_SES_STATE 1 n.val; let s : State := if s.regs.length % 2 = 0 then s else { (((((s.setPd 6 2).setPd 7 2).put HDR_EN 1 pCSI).put YARD_OUTSET 7).put YARD_EFF_OUT 7) with vout := { s.vout with pvpOn := true } }; s))
     (0) State.reset, by decide +kernel⟩,
   ⟨(0 : Fin 4),
     ({ header := 0x200d0001#32, words := (List.replicate 12 0x5#32 ++ [0xe6551fc#32]), corrected := 0, uncorrectable := 0, stall := 0 } : Packet),
     ({ counter := 6, shown := true, bad := false, width := 640, fmt := 0, mac := { x := (List.replicate 16 0), buf := [] } } : RxFrame),
     ((List.replicate 16 7) : List Nat),
     (fun (n : Fin 4) (f : RxFrame) (s : State) => (let s : State := { s with link := (List.replicate 4 LinkS.idle).set n.val { LinkS.idle with key := some (List.replicate 16 7), lastFc := some 6, rx := some f } }; let s : State := (((s.put SYS_ROLE CAB).put LINK_STATE 5 n.val).setPd (2 + n.val) 2).put LINK_SES_STATE 1 n.val; let s : State := if s.regs.length % 2 = 0 then s else { (((((s.setPd 6 2).setPd 7 2).put HDR_EN 1 pCSI).put YARD_OUTSET 7).put YARD_EFF_OUT 7) with vout := { s.vout with pvpOn := true } }; let s : State := s.put LINK_GEN 3 n.val; s))
     (0) ({ counter := 6, shown := true, bad := false, width := 640, fmt := 0, mac := { x := (List.replicate 16 0), buf := [] } })
     State.reset, by decide +kernel⟩,
   ⟨(0 : Fin 4),
     ({ header := 0x200d0001#32, words := (List.replicate 12 0x5#32 ++ [0xe6551fc#32]), corrected := 0, uncorrectable := 0, stall := 0 } : Packet),
     (fun (n : Fin 4) (s : State) => (let s : State := { s with link := (List.replicate 4 LinkS.idle).set n.val { LinkS.idle with key := some (List.replicate 16 7), lastFc := some 6, rx := none } }; let s : State := (((s.put SYS_ROLE CAB).put LINK_STATE 5 n.val).setPd (2 + n.val) 2).put LINK_SES_STATE 1 n.val; let s : State := if s.regs.length % 2 = 0 then s else { (((((s.setPd 6 2).setPd 7 2).put HDR_EN 1 pCSI).put YARD_OUTSET 7).put YARD_EFF_OUT 7) with vout := { s.vout with pvpOn := true } }; s))
     (0) State.reset, by decide +kernel⟩,
   ⟨(0 : Fin 4), ({ header := 0x0#32, words := [], corrected := 0, uncorrectable := 0, stall := 0 } : Packet),
     (fun (n : Fin 4) (s : State) => (let s : State := { s with link := (List.replicate 4 LinkS.idle).set n.val { LinkS.idle with key := some (List.replicate 16 7), lastFc := some 6, rx := some ⟨6, true, false, 640, 0, Mac.start⟩ } }; let s : State := (((s.put SYS_ROLE CAB).put LINK_STATE 5 n.val).setPd (2 + n.val) 2).put LINK_SES_STATE 1 n.val; let s : State := if s.regs.length % 2 = 0 then s else { (((((s.setPd 6 2).setPd 7 2).put HDR_EN 1 pCSI).put YARD_OUTSET 7).put YARD_EFF_OUT 7) with vout := { s.vout with pvpOn := true } }; s))
     (0) State.reset, by decide +kernel⟩,
   ⟨(0 : Fin 4),
     ({ header := 0x30030000#32, words := [0x5#32, 0x5#32, 0xc1ed43e8#32], corrected := 0, uncorrectable := 0, stall := 100 } : Packet),
     (fun (n : Fin 4) (s : State) => (let s : State := (let s : State := { s with link := (List.replicate 4 LinkS.idle).set n.val { LinkS.idle with key := some (List.replicate 16 7), lastFc := some 6, rx := if s.regs.length % 3 = 0 then some ⟨6, false, false, 640, 0, Mac.start⟩ else none } }; let s : State := (((s.put SYS_ROLE CAB).put LINK_STATE 5 n.val).setPd (2 + n.val) 2).put LINK_SES_STATE 1 n.val; let s : State := if s.regs.length % 2 = 0 then s else { (((((s.setPd 6 2).setPd 7 2).put HDR_EN 1 pCSI).put YARD_OUTSET 7).put YARD_EFF_OUT 7) with vout := { s.vout with pvpOn := true } }; s); { s with vid := List.replicate 4 { VidS.idle with width := 4 } }))
     (0) State.reset, by decide +kernel⟩,
   ⟨(0 : Fin 4),
     ({ header := 0x30030000#32, words := [0x5#32, 0x5#32, 0xc1ed43e8#32], corrected := 0, uncorrectable := 0, stall := 61430 } : Packet),
     ({ counter := 6, shown := true, bad := false, width := 640, fmt := 0, mac := { x := (List.replicate 16 0), buf := [] } } : RxFrame),
     (fun (n : Fin 4) (f : RxFrame) (s : State) => (let s : State := (let s : State := { s with link := (List.replicate 4 LinkS.idle).set n.val { LinkS.idle with key := some (List.replicate 16 7), lastFc := some 6, rx := some f } }; let s : State := (((s.put SYS_ROLE CAB).put LINK_STATE 5 n.val).setPd (2 + n.val) 2).put LINK_SES_STATE 1 n.val; let s : State := if s.regs.length % 2 = 0 then s else { (((((s.setPd 6 2).setPd 7 2).put HDR_EN 1 pCSI).put YARD_OUTSET 7).put YARD_EFF_OUT 7) with vout := { s.vout with pvpOn := true } }; s); { s with vid := List.replicate 4 { VidS.idle with width := 4 } }))
     (0) ({ counter := 6, shown := true, bad := false, width := 640, fmt := 0, mac := { x := (List.replicate 16 0), buf := [] } })
     State.reset, by decide +kernel⟩,
   ⟨(0 : Fin 4),
     ({ header := 0x30050000#32, words := [0x5#32, 0x5#32, 0x5#32, 0x5#32, 0x4f1905bd#32], corrected := 1, uncorrectable := 0, stall := 45365 } : Packet),
     ({ counter := 6, shown := true, bad := false, width := 640, fmt := 0, mac := { x := (List.replicate 16 0), buf := [] } } : RxFrame),
     (fun (n : Fin 4) (f : RxFrame) (s : State) => (let s : State := { s with link := (List.replicate 4 LinkS.idle).set n.val { LinkS.idle with key := some (List.replicate 16 7), lastFc := some 6, rx := some f } }; let s : State := (((s.put SYS_ROLE CAB).put LINK_STATE 5 n.val).setPd (2 + n.val) 2).put LINK_SES_STATE 1 n.val; let s : State := if s.regs.length % 2 = 0 then s else { (((((s.setPd 6 2).setPd 7 2).put HDR_EN 1 pCSI).put YARD_OUTSET 7).put YARD_EFF_OUT 7) with vout := { s.vout with pvpOn := true } }; let s : State := s.setStream n.val { s.stream n.val with live := true, shaped := true, rep := false, row := s.regs.length % 5, width := 8, height := 8 }; s))
     (0) ({ counter := 6, shown := true, bad := false, width := 640, fmt := 0, mac := { x := (List.replicate 16 0), buf := [] } })
     State.reset, by decide +kernel⟩,
   ⟨(0 : Fin 4), ({ header := 0x0#32, words := [], corrected := 0, uncorrectable := 0, stall := 0 } : Packet),
     (fun (n : Fin 4) (s : State) => (let s : State := { s with link := (List.replicate 4 LinkS.idle).set n.val { LinkS.idle with key := some (List.replicate 16 7), lastFc := some 6, rx := some ⟨6, true, false, 640, 0, Mac.start⟩ } }; let s : State := (((s.put SYS_ROLE CAB).put LINK_STATE 5 n.val).setPd (2 + n.val) 2).put LINK_SES_STATE 1 n.val; let s : State := if s.regs.length % 2 = 0 then s else { (((((s.setPd 6 2).setPd 7 2).put HDR_EN 1 pCSI).put YARD_OUTSET 7).put YARD_EFF_OUT 7) with vout := { s.vout with pvpOn := true } }; s))
     (0) State.reset, by decide +kernel⟩,
   ⟨(0 : Fin 4),
     ({ header := 0x40020200#32, words := [0x6#32, 0xc2ed68de#32], corrected := 0, uncorrectable := 0, stall := 0 } : Packet),
     (fun (n : Fin 4) (s : State) => (let s : State := { s with link := (List.replicate 4 LinkS.idle).set n.val { LinkS.idle with key := some (List.replicate 16 7), lastFc := some 6, rx := if s.regs.length % 3 = 0 then some ⟨6, false, false, 640, 0, Mac.start⟩ else none } }; let s : State := (((s.put SYS_ROLE CAB).put LINK_STATE 5 n.val).setPd (2 + n.val) 2).put LINK_SES_STATE 1 n.val; let s : State := if s.regs.length % 2 = 0 then s else { (((((s.setPd 6 2).setPd 7 2).put HDR_EN 1 pCSI).put YARD_OUTSET 7).put YARD_EFF_OUT 7) with vout := { s.vout with pvpOn := true } }; s))
     (0) State.reset, by decide +kernel⟩,
   ⟨(0 : Fin 4),
     ({ header := 0x40020000#32, words := [0x6#32, 0x557279f7#32], corrected := 0, uncorrectable := 0, stall := 0 } : Packet),
     ({ counter := 6, shown := true, bad := false, width := 640, fmt := 0, mac := { x := (List.replicate 16 0), buf := [] } } : RxFrame),
     (fun (n : Fin 4) (f : RxFrame) (s : State) => (let s : State := { s with link := (List.replicate 4 LinkS.idle).set n.val { LinkS.idle with key := some (List.replicate 16 7), lastFc := some 6, rx := some f } }; let s : State := (((s.put SYS_ROLE CAB).put LINK_STATE 5 n.val).setPd (2 + n.val) 2).put LINK_SES_STATE 1 n.val; let s : State := if s.regs.length % 2 = 0 then s else { (((((s.setPd 6 2).setPd 7 2).put HDR_EN 1 pCSI).put YARD_OUTSET 7).put YARD_EFF_OUT 7) with vout := { s.vout with pvpOn := true } }; let s : State := (s.put LINK_GEN (1 + s.regs.length % 3) n.val).put LINK_AUTH_MODE 0 n.val; s))
     (0) ({ counter := 6, shown := true, bad := false, width := 640, fmt := 0, mac := { x := (List.replicate 16 0), buf := [] } })
     State.reset, by decide +kernel⟩,
   ⟨(0 : Fin 4),
     ({ header := 0x40040200#32, words := [0x6#32, 0xd1c7c3a2#32, 0x7c77b65c#32, 0xdb01bc08#32], corrected := 0, uncorrectable := 0, stall := 0 } : Packet),
     ({ counter := 6, shown := true, bad := false, width := 640, fmt := 0, mac := { x := (List.replicate 16 0), buf := [] } } : RxFrame),
     ((List.replicate 16 7) : List Nat),
     (fun (n : Fin 4) (f : RxFrame) (s : State) => (let s : State := { s with link := (List.replicate 4 LinkS.idle).set n.val { LinkS.idle with key := some (List.replicate 16 7), lastFc := some 6, rx := some f } }; let s : State := (((s.put SYS_ROLE CAB).put LINK_STATE 5 n.val).setPd (2 + n.val) 2).put LINK_SES_STATE 1 n.val; let s : State := if s.regs.length % 2 = 0 then s else { (((((s.setPd 6 2).setPd 7 2).put HDR_EN 1 pCSI).put YARD_OUTSET 7).put YARD_EFF_OUT 7) with vout := { s.vout with pvpOn := true } }; let s : State := ((s.put LINK_GEN 3 n.val).put LINK_AUTH_MODE (1 + s.regs.length % 2) n.val).put LINK_LEGACY 0 n.val |>.put LINK_KEY_MISMATCH 0 n.val; s))
     (0) ({ counter := 6, shown := true, bad := false, width := 640, fmt := 0, mac := { x := (List.replicate 16 0), buf := [] } })
     State.reset, by decide +kernel⟩,
   ⟨(0 : Fin 4),
     ({ header := 0x40040200#32, words := [0x6#32, 0x1#32, 0x2#32, 0x69828981#32], corrected := 0, uncorrectable := 0, stall := 0 } : Packet),
     ({ counter := 6, shown := true, bad := false, width := 640, fmt := 0, mac := { x := (List.replicate 16 0), buf := [] } } : RxFrame),
     ((List.replicate 16 7) : List Nat),
     (fun (n : Fin 4) (f : RxFrame) (s : State) => (let s : State := { s with link := (List.replicate 4 LinkS.idle).set n.val { LinkS.idle with key := some (List.replicate 16 7), lastFc := some 6, rx := some f } }; let s : State := (((s.put SYS_ROLE CAB).put LINK_STATE 5 n.val).setPd (2 + n.val) 2).put LINK_SES_STATE 1 n.val; let s : State := if s.regs.length % 2 = 0 then s else { (((((s.setPd 6 2).setPd 7 2).put HDR_EN 1 pCSI).put YARD_OUTSET 7).put YARD_EFF_OUT 7) with vout := { s.vout with pvpOn := true } }; let s : State := ((s.put LINK_GEN 3 n.val).put LINK_AUTH_MODE (1 + s.regs.length % 2) n.val).put LINK_LEGACY 0 n.val |>.put LINK_KEY_MISMATCH 0 n.val; s))
     (0) ({ counter := 6, shown := true, bad := false, width := 640, fmt := 0, mac := { x := (List.replicate 16 0), buf := [] } })
     State.reset, by decide +kernel⟩,
   ⟨(0 : Fin 4),
     ({ header := 0x40040200#32, words := [0x6#32, 0x1#32, 0x2#32, 0x69828981#32], corrected := 0, uncorrectable := 0, stall := 0 } : Packet),
     ({ counter := 6, shown := true, bad := false, width := 640, fmt := 0, mac := { x := (List.replicate 16 0), buf := [] } } : RxFrame),
     (fun (n : Fin 4) (f : RxFrame) (s : State) => (let s : State := { s with link := (List.replicate 4 LinkS.idle).set n.val { LinkS.idle with key := some (List.replicate 16 7), lastFc := some 6, rx := some { f with bad := s.regs.length % 3 != 0 } } }; let s : State := (((s.put SYS_ROLE CAB).put LINK_STATE 5 n.val).setPd (2 + n.val) 2).put LINK_SES_STATE 1 n.val; let s : State := if s.regs.length % 2 = 0 then s else { (((((s.setPd 6 2).setPd 7 2).put HDR_EN 1 pCSI).put YARD_OUTSET 7).put YARD_EFF_OUT 7) with vout := { s.vout with pvpOn := true } }; let s : State := ((s.put LINK_GEN 3 n.val).put LINK_AUTH_MODE (1 + s.regs.length % 2) n.val).put LINK_LEGACY 0 n.val |>.put LINK_KEY_MISMATCH 0 n.val; let s : State := s.put LINK_KEY_MISMATCH (if s.regs.length % 3 = 0 then 1 else 0) n.val; s))
     (0) ({ counter := 6, shown := true, bad := false, width := 640, fmt := 0, mac := { x := (List.replicate 16 0), buf := [] } })
     State.reset, by decide +kernel⟩,
   ⟨(0 : Fin 4), State.reset, by decide +kernel⟩,
   ⟨(0 : Fin 4), State.reset, by decide +kernel⟩,
   ⟨(0 : Fin 4), State.reset, by decide +kernel⟩,
   ⟨(0 : Fin 4), State.reset, by decide +kernel⟩,
   ⟨(0 : Fin 4), (fun (n : Fin 4) (s : State) => s.put LINK_STATE 5 n.val) (0) State.reset, by decide +kernel⟩,
   ⟨(0 : Fin 4), State.reset, by decide +kernel⟩⟩

theorem test_hyps_LinkMessages :
    (∃ (n : Fin 4) (c : Ctrl) (i : Nat) (s : State),
      s.link.length = 4 ∧
      (s.port 0).held = [] ∧
      c.crcOk = true ∧
      c.words.length = 0 ∧
      s.linkUp n.val = true ∧
      (s.linkOn n.val = true ∨ s.pd (2 + n.val) = 3) ∧
      ((s.port n.val).window.findIdx? (fun x => x.seq == c.ack.val) = some i) ∧
      s.portsSettled = true) ∧
    (∃ (n : Fin 4) (c : Ctrl) (s : State),
      s.link.length = 4 ∧
      (s.port 0).held = [] ∧
      c.crcOk = true ∧
      c.words.length = 0 ∧
      s.linkUp n.val = true ∧
      s.headEnd = false ∧
      (s.linkOn n.val = true ∨ s.pd (2 + n.val) = 3) ∧
      ((s.port n.val).window.findIdx? (fun x => x.seq == c.ack.val) = none) ∧
      s.portsSettled = true) ∧
    (∃ (n : Fin 4) (c : Ctrl) (i : Instr) (s : State),
      i ∈ [Instr.sessionMsg n c, .sessionAckMsg n c, .tunRdMsg n c, .tunWrMsg n c, .tunReplyMsg n c, .statusMsg n c, .eventMsg n
        c, .alarmMsg n c, .rresetMsg n c] ∧
      s.link.length = 4 ∧
      s.headEnd = false ∧
      (s.port 0).held = [] ∧
      c.crcOk = false ∧
      s.linkOn n.val = true ∧
      s.linkUp n.val = true ∧
      s.portsSettled = true) ∧
    (∃ (n : Fin 4) (c : Ctrl) (i : Instr) (s : State),
      i ∈ [Instr.sessionMsg n c, .sessionAckMsg n c, .tunRdMsg n c, .tunWrMsg n c, .tunReplyMsg n c, .statusMsg n c, .eventMsg n
        c, .alarmMsg n c, .rresetMsg n c] ∧
      s.link.length = 4 ∧
      (s.port 0).held = [] ∧
      c.crcOk = true ∧
      c.words.length = messageLen i ∧
      s.linkUp n.val = true ∧
      s.linkOn n.val = true ∧
      c.seq.val ≠ (s.port n.val).expSeq ∧
      s.portsSettled = true) ∧
    (∃ (n : Fin 4) (c : Ctrl) (i : Instr) (s : State),
      i ∈ [Instr.sessionMsg n c, .sessionAckMsg n c, .tunRdMsg n c, .tunWrMsg n c, .tunReplyMsg n c, .statusMsg n c, .eventMsg n
        c, .alarmMsg n c, .rresetMsg n c] ∧
      s.link.length = 4 ∧
      (s.port 0).held = [] ∧
      c.crcOk = true ∧
      c.words.length = messageLen i ∧
      s.linkUp n.val = true ∧
      s.pd (2 + n.val) = 3 ∧
      s.portsSettled = true) ∧
    (∃ (n : Fin 4) (c : Ctrl) (i : Instr) (s : State),
      (i = .ackMsg n c ∨ i = .nakMsg n c ∨ i ∈ [Instr.sessionMsg n c, .sessionAckMsg n c, .tunRdMsg n c, .tunWrMsg n c,
        .tunReplyMsg n c, .statusMsg n c, .eventMsg n c, .alarmMsg n c, .rresetMsg n c]) ∧
      s.linkUp n.val = false) ∧
    (∃ (n : Fin 4) (c : Ctrl) (i : Nat) (j : Nat) (s : State),
      s.link.length = 4 ∧
      s.headEnd = false ∧
      (s.port 0).held = [] ∧
      c.crcOk = true ∧
      c.words.length = 1 ∧
      s.linkOn n.val = true ∧
      s.linkUp n.val = true ∧
      (s.port n.val).waiting = [] ∧
      ((((s.port n.val).window.findIdx? (fun x => x.seq == c.ack.val)).map (fun i => i + 1)).getD 0 = j) ∧
      (((s.port n.val).window.drop j).findIdx? (fun x => x.seq == ctrlWord c 0 % 256) = some i) ∧
      ctrlWord c 0 / 256 % 256 ≠ 2 ∧
      (∀ m ∈ (s.port n.val).window.drop (j + i), m.tries < 16) ∧
      s.portsSettled = true) ∧
    (∃ (n : Fin 4) (c : Ctrl) (i : Nat) (j : Nat) (s : State),
      s.link.length = 4 ∧
      s.headEnd = false ∧
      (s.port 0).held = [] ∧
      c.crcOk = true ∧
      c.words.length = 1 ∧
      s.linkOn n.val = true ∧
      s.linkUp n.val = true ∧
      (s.port n.val).waiting = [] ∧
      ((((s.port n.val).window.findIdx? (fun x => x.seq == c.ack.val)).map (fun i => i + 1)).getD 0 = j) ∧
      (((s.port n.val).window.drop j).findIdx? (fun x => x.seq == ctrlWord c 0 % 256) = some i) ∧
      ctrlWord c 0 / 256 % 256 ≠ 2 ∧
      (∃ m ∈ (s.port n.val).window.drop (j + i), 16 ≤ m.tries) ∧
      s.coreOn = true ∧
      s.portsSettled = true) ∧
    (∃ (n : Fin 4) (c : Ctrl) (i : Nat) (j : Nat) (s : State),
      s.link.length = 4 ∧
      s.headEnd = false ∧
      (s.port 0).held = [] ∧
      c.crcOk = true ∧
      c.words.length = 1 ∧
      s.linkOn n.val = true ∧
      s.linkUp n.val = true ∧
      (s.port n.val).waiting = [] ∧
      ((((s.port n.val).window.findIdx? (fun x => x.seq == c.ack.val)).map (fun i => i + 1)).getD 0 = j) ∧
      (((s.port n.val).window.drop j).findIdx? (fun x => x.seq == ctrlWord c 0 % 256) = some i) ∧
      ctrlWord c 0 / 256 % 256 = 2 ∧
      (s.port n.val).pool.length ≤ 32 ∧
      s.portsSettled = true) ∧
    (∃ (n : Fin 4) (c : Ctrl) (s : State),
      s.link.length = 4 ∧
      s.headEnd = false ∧
      (s.port 0).held = [] ∧
      c.crcOk = true ∧
      c.words.length = 1 ∧
      s.linkOn n.val = true ∧
      s.linkUp n.val = true ∧
      ((s.port n.val).window.findIdx? (fun x => x.seq == c.ack.val) = none) ∧
      ((s.port n.val).window.findIdx? (fun x => x.seq == ctrlWord c 0 % 256) = none) ∧
      s.portsSettled = true) ∧
    (∃ (n : Fin 4) (c : Ctrl) (s : State),
      s.link.length = 4 ∧
      s.headEnd = false ∧
      (s.port 0).held = [] ∧
      c.crcOk = true ∧
      c.words.length = 1 ∧
      s.linkOn n.val = true ∧
      s.get LINK_STATE n.val = 3 ∧
      topGen ((s.get LINK_GEN_EN n.val) &&& bitsOf (ctrlWord c 0) 0 3) ≠ 0 ∧
      s.portsSettled = true) ∧
    (∃ (n : Fin 4) (c : Ctrl) (s : State),
      s.link.length = 4 ∧
      (s.port 0).held = [] ∧
      s.headEnd = true ∧
      c.crcOk = true ∧
      c.words.length = 1 ∧
      s.linkOn n.val = true ∧
      s.get LINK_STATE n.val = 3 ∧
      topGen ((s.get LINK_GEN_EN n.val) &&& bitsOf (ctrlWord c 0) 0 3) ≠ 0 ∧
      s.portsSettled = true) ∧
    (∃ (n : Fin 4) (c : Ctrl) (s : State),
      s.link.length = 4 ∧
      (s.port 0).held = [] ∧
      c.crcOk = true ∧
      c.words.length = 1 ∧
      s.linkOn n.val = true ∧
      s.get LINK_STATE n.val = 3 ∧
      topGen ((s.get LINK_GEN_EN n.val) &&& bitsOf (ctrlWord c 0) 0 3) = 0 ∧
      s.portsSettled = true) ∧
    (∃ (n : Fin 4) (s : State),
      s.link.length = 4 ∧
      (s.port 0).held = [] ∧
      (s.get LINK_STATE n.val ≠ 3 ∨ s.linkOn n.val = false) ∧
      s.portsSettled = true) ∧
    (∃ (n : Fin 4) (c : Ctrl) (s : State),
      s.link.length = 4 ∧
      s.headEnd = true ∧
      (s.port 0).held = [] ∧
      c.crcOk = true ∧
      c.words.length = 1 ∧
      s.linkOn n.val = true ∧
      s.get LINK_STATE n.val = 3 ∧
      1 ≤ bitsOf (ctrlWord c 0) 0 3 ∧
      bitsOf (ctrlWord c 0) 0 3 ≤ 3 ∧
      s.portsSettled = true) ∧
    (∃ (n : Fin 4) (c : Ctrl) (s : State),
      s.link.length = 4 ∧
      (s.port 0).held = [] ∧
      (s.headEnd = false ∨ s.linkOn n.val = false ∨ s.get LINK_STATE n.val ≠ 3 ∨ bitsOf (ctrlWord c 0) 0 3 = 0 ∨ 3 < bitsOf
        (ctrlWord c 0) 0 3 ∨ c.crcOk = false) ∧
      s.portsSettled = true) ∧
    (∃ (c : Ctrl) (s : State),
      s.link.length = 4 ∧
      s.headEnd = true ∧
      (s.port 0).held = [] ∧
      c.crcOk = true ∧
      c.words.length = 3 ∧
      s.linkOn 0 = true ∧
      s.linkUp 0 = true ∧
      c.seq.val = (s.port 0).expSeq ∧
      (s.port 0).window = [] ∧
      s.portsSettled = true) ∧
    (∃ (n : Fin 4) (c : Ctrl) (s : State),
      s.link.length = 4 ∧
      s.headEnd = false ∧
      (s.port 0).held = [] ∧
      c.crcOk = true ∧
      c.words.length = 1 ∧
      s.linkOn n.val = true ∧
      s.linkUp n.val = true ∧
      c.seq.val = (s.port n.val).expSeq ∧
      s.coreOn = true ∧
      s.portsSettled = true) ∧
    (∃ (s : State),
      s.link.length = 4 ∧
      (s.port 0).held = [] ∧
      s.headEnd = false ∧
      s.portsSettled = true) ∧
    (∃ (s : State),
      s.link.length = 4 ∧
      (s.port 0).held = [] ∧
      s.headEnd = true ∧
      s.portsSettled = true) ∧
    (∃ (n : Fin 4) (c : Ctrl) (i : Instr) (s : State),
      (i ∈ [Instr.ackMsg n c, .nakMsg n c, .capsMsg n c, .choiceMsg n c] ∨ i ∈ [Instr.sessionMsg n c, .sessionAckMsg n c,
        .tunRdMsg n c, .tunWrMsg n c, .tunReplyMsg n c, .statusMsg n c, .eventMsg n c, .alarmMsg n c, .rresetMsg n c]) ∧
      s.portsSettled = true ∧
      (i ∈ [Instr.ackMsg n c, .nakMsg n c, .capsMsg n c, .choiceMsg n c] ∧ c.crcOk = false ∨ c.words.length ≠ messageLen i) ∧
      s.link.length = 4 ∧
      s.headEnd = false ∧
      (s.port 0).held = [] ∧
      s.linkOn n.val = true ∧
      s.linkUp n.val = true) :=
  ⟨⟨(0 : Fin 4), ({ seq := 0, ack := 4, words := [], crcOk := true } : Ctrl), (0 : Nat),
    (fun (n : Fin 4) (s : State) => (let s : State := s; let rl := (if s.regs.length / 2 % 3 = 0 then HEAD else CAB); let s : State := { s with link := (List.replicate 4 LinkS.idle).set n.val { LinkS.idle with window := [⟨0x10, 4, [1, 2], 0⟩, ⟨0x21, 5, [1, 2, 3], 3⟩], nextSeq := 6, waiting := if s.regs.length % 3 = 0 then [] else [⟨0x10, 0, [4], 0⟩] }, yard := { s.yard with roleCopy := some rl } }; let s : State := ((s.put SYS_ROLE rl).put LINK_STATE 5 n.val).setPd (2 + n.val) 2; s))
    (0) State.reset, by decide +kernel⟩,
   ⟨(0 : Fin 4), ({ seq := 0, ack := 3, words := [], crcOk := true } : Ctrl),
     (fun (n : Fin 4) (s : State) => (let s : State := s; let rl := (if s.regs.length / 2 % 3 = 0 then HEAD else CAB); let s : State := { s with link := (List.replicate 4 LinkS.idle).set n.val { LinkS.idle with window := [⟨0x10, 4, [1, 2], 0⟩, ⟨0x11, 5, [1, 2, 3], 7⟩], nextSeq := 6 }, yard := { s.yard with roleCopy := some rl } }; let s : State := ((s.put SYS_ROLE rl).put LINK_STATE 5 n.val).setPd (2 + n.val) 2; s))
     (0) (up 0), by decide +kernel⟩,
   ⟨(0 : Fin 4), ({ seq := 0, ack := 3, words := [0x7#32, 0xe2#32, 0x15554f3b#32], crcOk := false } : Ctrl),
     (Sys2Proof.Instr.eventMsg 0 { seq := 0, ack := 3, words := [0x7#32, 0xe2#32, 0x15554f3b#32], crcOk := false } : Instr),
     (fun (n : Fin 4) (s : State) => (let s : State := s; let rl := (if s.regs.length / 2 % 3 = 0 then HEAD else CAB); let s : State := { s with link := (List.replicate 4 LinkS.idle).set n.val { LinkS.idle with window := [⟨0x10, 4, [1, 2], 0⟩, ⟨0x11, 5, [1, 2, 3], 7⟩], nextSeq := 6, nakSent := s.regs.length % 3 == 0 }, yard := { s.yard with roleCopy := some rl } }; let s : State := ((s.put SYS_ROLE rl).put LINK_STATE 5 n.val).setPd (2 + n.val) 2; s))
     (0) (up 0), by decide +kernel⟩,
   ⟨(0 : Fin 4), ({ seq := 8, ack := 3, words := [0x1#32, 0x2#32, 0x3#32], crcOk := true } : Ctrl),
     (Sys2Proof.Instr.sessionMsg 0 { seq := 8, ack := 3, words := [0x1#32, 0x2#32, 0x3#32], crcOk := true } : Instr),
     (fun (n : Fin 4) (s : State) => (let s : State := s; let rl := (if s.regs.length / 2 % 3 = 0 then HEAD else CAB); let s : State := { s with link := (List.replicate 4 LinkS.idle).set n.val { LinkS.idle with expSeq := 7, nextSeq := 6 }, yard := { s.yard with roleCopy := some rl } }; let s : State := ((s.put SYS_ROLE rl).put LINK_STATE 5 n.val).setPd (2 + n.val) 2; s))
     (0) State.reset, by decide +kernel⟩,
   ⟨(2 : Fin 4), ({ seq := 184, ack := 251, words := [0x7577#32, 0x0#32, 0x96ab112e#32], crcOk := true } : Ctrl),
     (Sys2Proof.Instr.sessionMsg 2 { seq := 184, ack := 251, words := [0x7577#32, 0x0#32, 0x96ab112e#32], crcOk := true } : Instr),
     (fun (n : Fin 4) (s : State) => (let s : State := s; let rl := (if s.regs.length / 2 % 3 = 0 then HEAD else CAB); let s : State := { s with link := (List.replicate 4 LinkS.idle).set n.val { LinkS.idle with expSeq := 7, nextSeq := 6 }, yard := { s.yard with roleCopy := some rl } }; let s : State := ((s.put SYS_ROLE rl).put LINK_STATE 5 n.val).setPd (2 + n.val) 2; let s : State := s.setPd (2 + n.val) 3; s))
     (2) State.reset, by decide +kernel⟩,
   ⟨(2 : Fin 4), ({ seq := 184, ack := 251, words := [0x7577#32, 0x0#32, 0x96ab112e#32], crcOk := true } : Ctrl),
     (Sys2Proof.Instr.sessionMsg 2 { seq := 184, ack := 251, words := [0x7577#32, 0x0#32, 0x96ab112e#32], crcOk := true } : Instr),
     (fun (n : Fin 4) (s : State) => (let s : State := s; let rl := (if s.regs.length / 2 % 3 = 0 then HEAD else CAB); let s : State := { s with link := (List.replicate 4 LinkS.idle).set n.val { LinkS.idle with expSeq := 7 }, yard := { s.yard with roleCopy := some rl } }; let s : State := ((s.put SYS_ROLE rl).put LINK_STATE 6 n.val).setPd (2 + n.val) 2; s))
     (2) State.reset, by decide +kernel⟩,
   ⟨(1 : Fin 4), ({ seq := 0, ack := 4, words := [0x5#32], crcOk := true } : Ctrl), (0 : Nat), (1 : Nat),
     (fun (n : Fin 4) (s : State) => (let s : State := s; let rl := (if s.regs.length / 2 % 3 = 0 then HEAD else CAB); let s : State := { s with link := (List.replicate 4 LinkS.idle).set n.val { LinkS.idle with window := [⟨0x10, 4, [1, 2], 0⟩, ⟨0x11, 5, [1, 2, 3], 7⟩], nextSeq := 6 }, yard := { s.yard with roleCopy := some rl } }; let s : State := ((s.put SYS_ROLE rl).put LINK_STATE 5 n.val).setPd (2 + n.val) 2; s))
     (1) (up 0), by decide +kernel⟩,
   ⟨(1 : Fin 4), ({ seq := 0, ack := 4, words := [0x5#32], crcOk := true } : Ctrl), (0 : Nat), (1 : Nat),
     (fun (n : Fin 4) (s : State) => (let s : State := s; let rl := (if s.regs.length / 2 % 3 = 0 then HEAD else CAB); let s : State := { s with link := (List.replicate 4 LinkS.idle).set n.val { LinkS.idle with window := [⟨0x10, 4, [1, 2], 0⟩, ⟨0x11, 5, [1, 2, 3], 16⟩], nextSeq := 6 }, yard := { s.yard with roleCopy := some rl } }; let s : State := ((s.put SYS_ROLE rl).put LINK_STATE 5 n.val).setPd (2 + n.val) 2; s))
     (1) (up 0), by decide +kernel⟩,
   ⟨(1 : Fin 4), ({ seq := 0, ack := 4, words := [0x205#32], crcOk := true } : Ctrl), (0 : Nat), (1 : Nat),
     (fun (n : Fin 4) (s : State) => (let s : State := s; let rl := (if s.regs.length / 2 % 3 = 0 then HEAD else CAB); let s : State := { s with link := (List.replicate 4 LinkS.idle).set n.val { LinkS.idle with window := [⟨0x10, 4, [1, 2], 0⟩, ⟨0x11, 5, [9, 2, 3], 0⟩], nextSeq := 6, pool := [⟨1, false, 0, 0, 2, false, false⟩, ⟨9, true, 0, 0, 1, false, false⟩] }, yard := { s.yard with roleCopy := some rl } }; let s : State := ((s.put SYS_ROLE rl).put LINK_STATE 5 n.val).setPd (2 + n.val) 2; s))
     (1) (up 0), by decide +kernel⟩,
   ⟨(3 : Fin 4), ({ seq := 0, ack := 3, words := [0x9#32], crcOk := true } : Ctrl),
     (fun (n : Fin 4) (s : State) => (let s : State := s; let rl := (if s.regs.length / 2 % 3 = 0 then HEAD else CAB); let s : State := { s with link := (List.replicate 4 LinkS.idle).set n.val { LinkS.idle with window := [⟨0x10, 4, [1, 2], 0⟩, ⟨0x11, 5, [1, 2, 3], 7⟩], nextSeq := 6 }, yard := { s.yard with roleCopy := some rl } }; let s : State := ((s.put SYS_ROLE rl).put LINK_STATE 5 n.val).setPd (2 + n.val) 2; s))
     (3) (up 0), by decide +kernel⟩,
   ⟨(0 : Fin 4), ({ seq := 229, ack := 6, words := [0x4e#32], crcOk := true } : Ctrl),
     (fun (n : Fin 4) (s : State) => (let s : State := s; let rl := CAB; let s : State := { s with link := (List.replicate 4 LinkS.idle).set n.val { LinkS.idle with attempts := 2 }, yard := { s.yard with roleCopy := some rl } }; let s : State := ((s.put SYS_ROLE rl).put LINK_STATE 3 n.val).setPd (2 + n.val) 2; let s : State := s.put LINK_GEN_EN (1 + s.regs.length % 7) n.val; s))
     (0) State.reset, by decide +kernel⟩,
   ⟨(0 : Fin 4), ({ seq := 229, ack := 6, words := [0x4e#32], crcOk := true } : Ctrl),
     (fun (n : Fin 4) (s : State) => (let s : State := s; let rl := HEAD; let s : State := { s with link := (List.replicate 4 LinkS.idle).set n.val { LinkS.idle with attempts := 2 }, yard := { s.yard with roleCopy := some rl } }; let s : State := ((s.put SYS_ROLE rl).put LINK_STATE 3 n.val).setPd (2 + n.val) 2; let s : State := s.put LINK_GEN_EN (1 + s.regs.length % 7) n.val; s))
     (0) State.reset, by decide +kernel⟩,
   ⟨(1 : Fin 4), ({ seq := 34, ack := 49, words := [0xb5e0#32], crcOk := true } : Ctrl),
     (fun (n : Fin 4) (s : State) => (let s : State := s; let rl := (if s.regs.length / 2 % 3 = 0 then HEAD else CAB); let s : State := { s with link := (List.replicate 4 LinkS.idle).set n.val { LinkS.idle with attempts := 2 }, yard := { s.yard with roleCopy := some rl } }; let s : State := ((s.put SYS_ROLE rl).put LINK_STATE 3 n.val).setPd (2 + n.val) 2; let s : State := s.put LINK_GEN_EN (1 + s.regs.length % 7) n.val; s))
     (1) State.reset, by decide +kernel⟩,
   ⟨(0 : Fin 4),
     (fun (n : Fin 4) (s : State) => (let s : State := s; let rl := (if s.regs.length / 2 % 3 = 0 then HEAD else CAB); let s : State := { s with link := (List.replicate 4 LinkS.idle).set n.val LinkS.idle, yard := { s.yard with roleCopy := some rl } }; let s : State := ((s.put SYS_ROLE rl).put LINK_STATE 5 n.val).setPd (2 + n.val) 2; s))
     (0) State.reset, by decide +kernel⟩,
   ⟨(0 : Fin 4), ({ seq := 0, ack := 3, words := [0x1#32], crcOk := true } : Ctrl),
     (fun (n : Fin 4) (s : State) => (let s : State := s; let rl := HEAD; let s : State := { s with link := (List.replicate 4 LinkS.idle).set n.val { LinkS.idle with attempts := 2 }, yard := { s.yard with roleCopy := some rl } }; let s : State := ((s.put SYS_ROLE rl).put LINK_STATE 3 n.val).setPd (2 + n.val) 2; s))
     (0) State.reset, by decide +kernel⟩,
   ⟨(0 : Fin 4), ({ seq := 0, ack := 255, words := [0x6#32], crcOk := true } : Ctrl),
     (fun (n : Fin 4) (s : State) => (let s : State := s; let rl := (if s.regs.length / 2 % 3 = 0 then HEAD else CAB); let s : State := { s with link := (List.replicate 4 LinkS.idle).set n.val { LinkS.idle with attempts := 2 }, yard := { s.yard with roleCopy := some rl } }; let s : State := ((s.put SYS_ROLE rl).put LINK_STATE 3 n.val).setPd (2 + n.val) 2; s))
     (0) State.reset, by decide +kernel⟩,
   ⟨({ seq := 7, ack := 3, words := [0x15a#32, 0x5#32, 0x4007a580#32], crcOk := true } : Ctrl),
     (fun (s : State) => (let s : State := served s; let s : State := { s with link := (List.replicate 4 LinkS.idle).set 0 { LinkS.idle with expSeq := 7 }, yard := { s.yard with roleCopy := some HEAD } }; let s : State := (((s.put SYS_ROLE HEAD).put LINK_STATE 5 0).setPd 2 2).put LINK_SES_STATE 0 0; s))
     State.reset, by decide +kernel⟩,
   ⟨(0 : Fin 4), ({ seq := 7, ack := 3, words := [0x15#32], crcOk := true } : Ctrl),
     (fun (n : Fin 4) (s : State) => (let s : State := s; let rl := CAB; let s : State := { s with link := (List.replicate 4 LinkS.idle).set n.val { LinkS.idle with expSeq := 7 }, yard := { s.yard with roleCopy := some rl } }; let s : State := ((s.put SYS_ROLE rl).put LINK_STATE 5 n.val).setPd (2 + n.val) 2; s))
     (0) (up 0), by decide +kernel⟩,
   ⟨(fun (n : Fin 4) (s : State) => (let s : State := s; let rl := CAB; let s : State := { s with link := (List.replicate 4 LinkS.idle).set n.val { LinkS.idle with expSeq := 7 }, yard := { s.yard with roleCopy := some rl } }; let s : State := ((s.put SYS_ROLE rl).put LINK_STATE 5 n.val).setPd (2 + n.val) 2; s))
     (0) State.reset, by decide +kernel⟩,
   ⟨(fun (n : Fin 4) (s : State) => (let s : State := s; let rl := HEAD; let s : State := { s with link := (List.replicate 4 LinkS.idle).set n.val { LinkS.idle with expSeq := 7 }, yard := { s.yard with roleCopy := some rl } }; let s : State := ((s.put SYS_ROLE rl).put LINK_STATE 5 n.val).setPd (2 + n.val) 2; s))
     (0) State.reset, by decide +kernel⟩,
   ⟨(3 : Fin 4), ({ seq := 18, ack := 212, words := [0x10000#32, 0x4000#32, 0x1#32], crcOk := true } : Ctrl),
     (Sys2Proof.Instr.statusMsg 3 { seq := 18, ack := 212, words := [0x10000#32, 0x4000#32, 0x1#32], crcOk := true } : Instr),
     (fun (n : Fin 4) (s : State) => (let s : State := s; let rl := (if s.regs.length / 2 % 3 = 0 then HEAD else CAB); let s : State := { s with link := (List.replicate 4 LinkS.idle).set n.val { LinkS.idle with window := [⟨0x10, 4, [1, 2], 0⟩, ⟨0x11, 5, [1, 2, 3], 7⟩], nextSeq := 6, nakSent := s.regs.length % 3 == 0 }, yard := { s.yard with roleCopy := some rl } }; let s : State := ((s.put SYS_ROLE rl).put LINK_STATE 5 n.val).setPd (2 + n.val) 2; s))
     (3) (up 0), by decide +kernel⟩⟩

theorem test_hyps_TunnelMessages :
    (∃ (c : Ctrl) (s : State),
      s.link.length = 4 ∧
      s.headEnd = true ∧
      (s.port 0).held = [] ∧
      c.crcOk = true ∧
      c.words.length = 2 ∧
      s.linkOn 0 = true ∧
      s.linkUp 0 = true ∧
      c.seq.val = (s.port 0).expSeq ∧
      s.headServes = true ∧
      (s.wake 2 none).headServes = true ∧
      s.portsSettled = true) ∧
    (∃ (c : Ctrl) (s : State),
      s.link.length = 4 ∧
      s.headEnd = true ∧
      c.crcOk = true ∧
      c.words.length = 2 ∧
      s.linkOn 0 = true ∧
      s.linkUp 0 = true ∧
      c.seq.val = (s.port 0).expSeq ∧
      s.headServes = false ∧
      s.yard.pstate = 0 ∧
      s.portsSettled = true) ∧
    (∃ (c : Ctrl) (s : State),
      s.link.length = 4 ∧
      s.headEnd = true ∧
      c.crcOk = true ∧
      c.words.length = 3 ∧
      s.linkOn 0 = true ∧
      s.linkUp 0 = true ∧
      c.seq.val = (s.port 0).expSeq ∧
      s.headServes = false ∧
      s.yard.pstate = 0 ∧
      s.portsSettled = true) ∧
    (∃ (c : Ctrl) (s : State),
      s.link.length = 4 ∧
      s.headEnd = true ∧
      (s.port 0).held = [] ∧
      c.crcOk = true ∧
      c.words.length = 3 ∧
      s.linkOn 0 = true ∧
      s.linkUp 0 = true ∧
      c.seq.val = (s.port 0).expSeq ∧
      s.headServes = true ∧
      (s.wake 2 none).headServes = true ∧
      ctrlWord c 1 = regAddr 0x002 0x048 ∧
      s.accepts 3 0x002 0x048 (ctrlWord c 2) = true ∧
      s.portsSettled = true) ∧
    (∃ (c : Ctrl) (s : State),
      s.link.length = 4 ∧
      s.headEnd = true ∧
      (s.port 0).held = [] ∧
      c.crcOk = true ∧
      c.words.length = 3 ∧
      s.linkOn 0 = true ∧
      s.linkUp 0 = true ∧
      c.seq.val = (s.port 0).expSeq ∧
      s.headServes = true ∧
      (s.wake 2 none).headServes = true ∧
      ctrlWord c 1 = regAddr 0x071 0x010 ∧
      s.portsSettled = true) ∧
    (∃ (c : Ctrl) (s : State),
      s.link.length = 4 ∧
      s.headEnd = true ∧
      (s.port 0).held = [] ∧
      c.crcOk = true ∧
      c.words.length = 3 ∧
      s.linkOn 0 = true ∧
      s.linkUp 0 = true ∧
      c.seq.val = (s.port 0).expSeq ∧
      s.headServes = true ∧
      (s.wake 2 none).headServes = true ∧
      ctrlWord c 1 = regAddr 0x000 0x068 ∧
      s.accepts 3 0x000 0x068 (ctrlWord c 2) = true ∧
      s.portsSettled = true) ∧
    (∃ (c : Ctrl) (s : State),
      s.link.length = 4 ∧
      s.headEnd = true ∧
      (s.port 0).held = [] ∧
      c.crcOk = true ∧
      c.words.length = 3 ∧
      s.linkOn 0 = true ∧
      s.linkUp 0 = true ∧
      c.seq.val = (s.port 0).expSeq ∧
      s.headServes = true ∧
      (s.wake 2 none).headServes = true ∧
      ctrlWord c 1 = regAddr 0x070 0x008 ∧
      s.accepts 3 0x070 0x008 (ctrlWord c 2) = true ∧
      s.get HDR_EN 0x070 = 1 ∧
      bitAt (ctrlWord c 2) 0 = false ∧
      s.portsSettled = true) ∧
    (∃ (s : State),
      s.link.length = 4 ∧
      (s.port 0).held = [] ∧
      s.headEnd = false ∧
      s.portsSettled = true) ∧
    (∃ (s : State),
      s.link.length = 4 ∧
      (s.port 0).held = [] ∧
      s.headEnd = false ∧
      s.portsSettled = true) ∧
    (∃ (n : Fin 4) (c : Ctrl) (a : TunAcc) (s : State),
      s.link.length = 4 ∧
      s.headEnd = false ∧
      (s.port 0).held = [] ∧
      c.crcOk = true ∧
      c.words.length = 2 ∧
      s.linkOn n.val = true ∧
      s.linkUp n.val = true ∧
      c.seq.val = (s.port n.val).expSeq ∧
      s.get LINK_SES_STATE n.val = 1 ∧
      bitAt (ctrlWord c 0) 18 = false ∧
      ((s.port n.val).pool.find? (fun a => a.tag == bitsOf (ctrlWord c 0) 0 8) = some a) ∧
      (s.port n.val).pool.length ≤ 32 ∧
      s.portsSettled = true) ∧
    (∃ (n : Fin 4) (c : Ctrl) (s : State),
      s.link.length = 4 ∧
      s.headEnd = false ∧
      (s.port 0).held = [] ∧
      c.crcOk = true ∧
      c.words.length = 2 ∧
      s.linkOn n.val = true ∧
      s.linkUp n.val = true ∧
      c.seq.val = (s.port n.val).expSeq ∧
      s.get LINK_SES_STATE n.val = 1 ∧
      bitAt (ctrlWord c 0) 18 = true ∧
      s.portsSettled = true) ∧
    (∃ (n : Fin 4) (c : Ctrl) (s : State),
      s.link.length = 4 ∧
      (s.port 0).held = [] ∧
      (s.headEnd = true ∨ s.get LINK_SES_STATE n.val ≠ 1 ∨ (bitAt (ctrlWord c 0) 18 = false ∧ (s.port n.val).pool.find? (fun a =>
        a.tag == bitsOf (ctrlWord c 0) 0 8) = none)) ∧
      s.portsSettled = true) ∧
    (∃ (a : TunAcc) (l : List TunAcc) (s : State),
      s.link.length = 4 ∧
      s.headEnd = true ∧
      s.headServes = false ∧
      (s.port 0).held = a :: l ∧
      s.portsSettled = true) ∧
    (∃ (s : State),
      s.link.length = 4 ∧
      (s.headEnd = false ∨ (s.port 0).held = []) ∧
      s.portsSettled = true) ∧
    (∃ (m : Master) (n : Fin 4) (data : Word) (s : State),
      s.link.length = 4 ∧
      s.accepts m.num (linkPage n.val) 0x124 data.toNat = true ∧
      s.headEnd = false ∧
      s.portsSettled = true) ∧
    (∃ (m : Master) (n : Fin 4) (data : Word) (s : State),
      s.serves = true ∧
      s.sources m.num = true ∧
      s.present (linkPage n.val) = true ∧
      (s.checkWith none m.num (linkPage n.val) 0x124 data.toNat).isNone = true ∧
      (s.headEnd = true ∨ s.get LINK_SES_STATE n.val = 0 ∨ 32 ≤ (s.port n.val).pool.length + (s.port n.val).replies.length) ∧
      s.portsSettled = true) ∧
    (∃ (m : Master) (n : Fin 4) (s : State),
      s.link.length = 4 ∧
      s.accepts m.num (linkPage n.val) 0x134 1 = true ∧
      s.portsSettled = true) ∧
    (∃ (m : Master) (n : Fin 4) (s : State),
      s.link.length = 4 ∧
      s.accepts m.num (linkPage n.val) 0x134 2 = true ∧
      s.portsSettled = true) ∧
    (∃ (m : Master) (n : Fin 4) (s : State),
      s.accepts m.num (linkPage n.val) 0x10C 1 = true) ∧
    (∃ (m : Master) (n : Fin 4) (data : Word) (s : State),
      s.link.length = 4 ∧
      s.accepts m.num (linkPage n.val) 0x138 data.toNat = true ∧
      s.headEnd = false ∧
      s.portsSettled = true) ∧
    (∃ (m : Master) (n : Fin 4) (data : Word) (s : State),
      s.accepts m.num (linkPage n.val) 0x138 data.toNat = true ∧
      s.headEnd = true) ∧
    (∃ (m : Master) (n : Fin 4) (data : Word) (s : State),
      s.serves = true ∧
      s.sources m.num = true ∧
      s.present (linkPage n.val) = true ∧
      (s.checkWith none m.num (linkPage n.val) 0x138 data.toNat).isNone = true ∧
      data.toNat % 256 ≠ 0x5A ∧
      s.portsSettled = true) :=
  ⟨⟨({ seq := 7, ack := 3, words := [0x15a#32, 0x40010040#32], crcOk := true } : Ctrl),
    (fun (s : State) => (let s : State := served s; let s : State := { s with link := (List.replicate 4 LinkS.idle).set 0 { LinkS.idle with expSeq := 7 }, yard := { s.yard with roleCopy := some HEAD } }; let s : State := (((s.put SYS_ROLE HEAD).put LINK_STATE 5 0).setPd 2 2).put LINK_SES_STATE 1 0; s))
    State.reset, by decide +kernel⟩,
   ⟨({ seq := 7, ack := 3, words := [0x15a#32, 0x5#32], crcOk := true } : Ctrl),
     (fun (s : State) => (let s : State := served s; let s : State := { s with link := (List.replicate 4 LinkS.idle).set 0 { LinkS.idle with expSeq := 7, held := if s.regs.length % 2 = 0 then [] else [⟨3, true, 4, 5, 3, false, false⟩] }, yard := { s.yard with roleCopy := some HEAD } }; let s : State := (((s.put SYS_ROLE HEAD).put LINK_STATE 5 0).setPd 2 2).put LINK_SES_STATE 1 0; let s : State := s.put SYS_SAFE 1; s))
     State.reset, by decide +kernel⟩,
   ⟨({ seq := 7, ack := 3, words := [0x15a#32, 0x5#32, 0x4007a580#32], crcOk := true } : Ctrl),
     (fun (s : State) => (let s : State := served s; let s : State := { s with link := (List.replicate 4 LinkS.idle).set 0 { LinkS.idle with expSeq := 7, held := if s.regs.length % 2 = 0 then [] else [⟨3, true, 4, 5, 3, false, false⟩] }, yard := { s.yard with roleCopy := some HEAD } }; let s : State := (((s.put SYS_ROLE HEAD).put LINK_STATE 5 0).setPd 2 2).put LINK_SES_STATE 1 0; let s : State := s.put SYS_SAFE 1; s))
     State.reset, by decide +kernel⟩,
   ⟨({ seq := 7, ack := 3, words := [0x15a#32, 0x40002048#32, 0x6#32], crcOk := true } : Ctrl),
     (fun (s : State) => (let s : State := served s; let s : State := { s with link := (List.replicate 4 LinkS.idle).set 0 { LinkS.idle with expSeq := 7 }, yard := { s.yard with roleCopy := some HEAD } }; let s : State := (((s.put SYS_ROLE HEAD).put LINK_STATE 5 0).setPd 2 2).put LINK_SES_STATE 1 0; s))
     State.reset, by decide +kernel⟩,
   ⟨({ seq := 7, ack := 3, words := [0x15a#32, 0x40071010#32, 0x106#32], crcOk := true } : Ctrl),
     (fun (s : State) => (let s : State := served s; let s : State := { s with link := (List.replicate 4 LinkS.idle).set 0 { LinkS.idle with expSeq := 7 }, yard := { s.yard with roleCopy := some HEAD } }; let s : State := (((s.put SYS_ROLE HEAD).put LINK_STATE 5 0).setPd 2 2).put LINK_SES_STATE 1 0; s))
     State.reset, by decide +kernel⟩,
   ⟨({ seq := 7, ack := 3, words := [0x15a#32, 0x40000068#32, 0x5a#32], crcOk := true } : Ctrl),
     (fun (s : State) => (let s : State := served s; let s : State := { s with link := (List.replicate 4 LinkS.idle).set 0 { LinkS.idle with expSeq := 7 }, yard := { s.yard with roleCopy := some HEAD } }; let s : State := (((s.put SYS_ROLE HEAD).put LINK_STATE 5 0).setPd 2 2).put LINK_SES_STATE 1 0; s))
     State.reset, by decide +kernel⟩,
   ⟨({ seq := 7, ack := 3, words := [0x15a#32, 0x40070008#32, 0x0#32], crcOk := true } : Ctrl),
     (fun (s : State) => (let s : State := served s; let s : State := { s with link := (List.replicate 4 LinkS.idle).set 0 { LinkS.idle with expSeq := 7 }, yard := { s.yard with roleCopy := some HEAD } }; let s : State := (((s.put SYS_ROLE HEAD).put LINK_STATE 5 0).setPd 2 2).put LINK_SES_STATE 1 0; let s : State := (s.put HDR_EN 1 0x070); s))
     State.reset, by decide +kernel⟩,
   ⟨(fun (n : Fin 4) (s : State) => (let s : State := s; let rl := CAB; let s : State := { s with link := (List.replicate 4 LinkS.idle).set n.val { LinkS.idle with expSeq := 7 }, yard := { s.yard with roleCopy := some rl } }; let s : State := ((s.put SYS_ROLE rl).put LINK_STATE 5 n.val).setPd (2 + n.val) 2; s))
     (0) State.reset, by decide +kernel⟩,
   ⟨(fun (n : Fin 4) (s : State) => (let s : State := s; let rl := CAB; let s : State := { s with link := (List.replicate 4 LinkS.idle).set n.val { LinkS.idle with expSeq := 7 }, yard := { s.yard with roleCopy := some rl } }; let s : State := ((s.put SYS_ROLE rl).put LINK_STATE 5 n.val).setPd (2 + n.val) 2; s))
     (0) State.reset, by decide +kernel⟩,
   ⟨(0 : Fin 4), ({ seq := 7, ack := 3, words := [0x5#32, 0x5#32], crcOk := true } : Ctrl),
     ({ tag := 5, wr := true, addr := 0, data := 0, master := 2, unsent := false, closed := false } : TunAcc),
     (fun (n : Fin 4) (s : State) => (let s : State := s; let rl := CAB; let s : State := { s with link := (List.replicate 4 LinkS.idle).set n.val { LinkS.idle with expSeq := 7, pool := [⟨5, true, 0, 0, 2, false, false⟩] ++ (if s.regs.length % 3 = 0 then [] else [⟨8, false, 0, 0, 1, false, s.regs.length % 3 == 1⟩]) }, yard := { s.yard with roleCopy := some rl } }; let s : State := ((s.put SYS_ROLE rl).put LINK_STATE 5 n.val).setPd (2 + n.val) 2; let s : State := s.put LINK_SES_STATE 1 n.val; s))
     (0) State.reset, by decide +kernel⟩,
   ⟨(0 : Fin 4), ({ seq := 7, ack := 3, words := [0x40000#32, 0x5#32], crcOk := true } : Ctrl),
     (fun (n : Fin 4) (s : State) => (let s : State := s; let rl := CAB; let s : State := { s with link := (List.replicate 4 LinkS.idle).set n.val { LinkS.idle with expSeq := 7, rrMaster := [2, 1] }, yard := { s.yard with roleCopy := some rl } }; let s : State := ((s.put SYS_ROLE rl).put LINK_STATE 5 n.val).setPd (2 + n.val) 2; let s : State := s.put LINK_SES_STATE 1 n.val; s))
     (0) State.reset, by decide +kernel⟩,
   ⟨(0 : Fin 4), ({ seq := 7, ack := 3, words := [0x706#32, 0x4e#32], crcOk := true } : Ctrl),
     (fun (n : Fin 4) (s : State) => (let s : State := s; let rl := (if s.regs.length / 2 % 3 = 0 then HEAD else CAB); let s : State := { s with link := (List.replicate 4 LinkS.idle).set n.val { LinkS.idle with expSeq := 7, pool := [⟨5, true, 0, 0, 2, false, false⟩] }, yard := { s.yard with roleCopy := some rl } }; let s : State := ((s.put SYS_ROLE rl).put LINK_STATE 5 n.val).setPd (2 + n.val) 2; let s : State := s.put LINK_SES_STATE (s.regs.length % 3) n.val; s))
     (0) State.reset, by decide +kernel⟩,
   ⟨({ tag := 200, wr := true, addr := 4, data := 5, master := 3, unsent := false, closed := false } : TunAcc),
     ([{ tag := 4, wr := false, addr := 8, data := 0, master := 3, unsent := false, closed := false }] : List TunAcc),
     (fun (a : TunAcc) (l : List TunAcc) (s : State) => (let s : State := served s; let s : State := { s with link := (List.replicate 4 LinkS.idle).set 0 { LinkS.idle with held := a :: l }, yard := { s.yard with roleCopy := some HEAD } }; let s : State := (((s.put SYS_ROLE HEAD).put LINK_STATE 5 0).setPd 2 2).put LINK_SES_STATE 1 0; let s : State := s.put SYS_SAFE 1; s))
     ({ tag := 200, wr := true, addr := 4, data := 5, master := 3, unsent := false, closed := false })
     ([{ tag := 4, wr := false, addr := 8, data := 0, master := 3, unsent := false, closed := false }]) State.reset,
     by decide +kernel⟩,
   ⟨(fun (s : State) => (let n : Fin 4 := 0; (let s : State := s; let rl := (if s.regs.length / 2 % 3 = 0 then HEAD else CAB); let s : State := { s with link := (List.replicate 4 LinkS.idle).set n.val LinkS.idle, yard := { s.yard with roleCopy := some rl } }; let s : State := ((s.put SYS_ROLE rl).put LINK_STATE 5 n.val).setPd (2 + n.val) 2; s)))
     State.reset, by decide +kernel⟩,
   ⟨(.m2 : Master), (1 : Fin 4), (0x5#32 : Word),
     (fun (n : Fin 4) (s : State) => (let s : State := served s; let rl := CAB; let s : State := { s with link := (List.replicate 4 LinkS.idle).set n.val { LinkS.idle with wdata := [1, 2, 3, 4, 5] }, yard := { s.yard with roleCopy := some rl } }; let s : State := ((s.put SYS_ROLE rl).put LINK_STATE 5 n.val).setPd (2 + n.val) 2; let s : State := s.put LINK_SES_STATE 1 n.val; s))
     (1) State.reset, by decide +kernel⟩,
   ⟨(.m2 : Master), (3 : Fin 4), (0x10000#32 : Word),
     (fun (n : Fin 4) (s : State) => (let s : State := served s; let rl := (if s.regs.length / 2 % 3 = 0 then HEAD else CAB); let s : State := { s with link := (List.replicate 4 LinkS.idle).set n.val { LinkS.idle with replies := List.replicate (31 + s.regs.length % 2) ⟨5, 0, false, false, false, 1, 9⟩ }, yard := { s.yard with roleCopy := some rl } }; let s : State := ((s.put SYS_ROLE rl).put LINK_STATE 5 n.val).setPd (2 + n.val) 2; let s : State := s.put LINK_SES_STATE (s.regs.length % 3) n.val; s))
     (3) (up 0), by decide +kernel⟩,
   ⟨(.m2 : Master), (1 : Fin 4),
     (fun (n : Fin 4) (s : State) => (let s : State := served s; let rl := (if s.regs.length / 2 % 3 = 0 then HEAD else CAB); let s : State := { s with link := (List.replicate 4 LinkS.idle).set n.val { LinkS.idle with replies := [⟨5, 0, false, false, false, 1, 9⟩, ⟨6, 0, false, false, false, 1, 9⟩].drop (s.regs.length % 3) }, yard := { s.yard with roleCopy := some rl } }; let s : State := ((s.put SYS_ROLE rl).put LINK_STATE 5 n.val).setPd (2 + n.val) 2; s))
     (1) State.reset, by decide +kernel⟩,
   ⟨(.m2 : Master), (1 : Fin 4),
     (fun (n : Fin 4) (s : State) => (let s : State := served s; let rl := (if s.regs.length / 2 % 3 = 0 then HEAD else CAB); let s : State := { s with link := (List.replicate 4 LinkS.idle).set n.val { LinkS.idle with hevts := [⟨5, 0, 1, 2, 3⟩, ⟨6, 0, 1, 2, 3⟩].drop (s.regs.length % 3) }, yard := { s.yard with roleCopy := some rl } }; let s : State := ((s.put SYS_ROLE rl).put LINK_STATE 5 n.val).setPd (2 + n.val) 2; s))
     (1) State.reset, by decide +kernel⟩,
   ⟨(.m2 : Master), (1 : Fin 4),
     (fun (n : Fin 4) (s : State) => (let s : State := served s; let rl := (if s.regs.length / 2 % 3 = 0 then HEAD else CAB); let s : State := { s with link := (List.replicate 4 LinkS.idle).set n.val LinkS.idle, yard := { s.yard with roleCopy := some rl } }; let s : State := ((s.put SYS_ROLE rl).put LINK_STATE 5 n.val).setPd (2 + n.val) 2; s))
     (1) State.reset, by decide +kernel⟩,
   ⟨(.m2 : Master), (1 : Fin 4), (0x5a#32 : Word),
     (fun (n : Fin 4) (s : State) => (let s : State := served s; let rl := CAB; let s : State := { s with link := (List.replicate 4 LinkS.idle).set n.val LinkS.idle, yard := { s.yard with roleCopy := some rl } }; let s : State := ((s.put SYS_ROLE rl).put LINK_STATE 5 n.val).setPd (2 + n.val) 2; let s : State := s.put LINK_SES_STATE 1 n.val; s))
     (1) State.reset, by decide +kernel⟩,
   ⟨(.m1 : Master), (0 : Fin 4), (0x15a#32 : Word),
     (fun (n : Fin 4) (s : State) => (let s : State := served s; let rl := HEAD; let s : State := { s with link := (List.replicate 4 LinkS.idle).set n.val LinkS.idle, yard := { s.yard with roleCopy := some rl } }; let s : State := ((s.put SYS_ROLE rl).put LINK_STATE 5 n.val).setPd (2 + n.val) 2; s))
     (0) State.reset, by decide +kernel⟩,
   ⟨(.m2 : Master), (1 : Fin 4), (0x5#32 : Word),
     (fun (n : Fin 4) (s : State) => (let s : State := served s; let rl := CAB; let s : State := { s with link := (List.replicate 4 LinkS.idle).set n.val LinkS.idle, yard := { s.yard with roleCopy := some rl } }; let s : State := ((s.put SYS_ROLE rl).put LINK_STATE 5 n.val).setPd (2 + n.val) 2; s))
     (1) State.reset, by decide +kernel⟩⟩

theorem test_hyps_HeadMessages :
    (∃ (n : Fin 4) (c : Ctrl) (s : State),
      s.link.length = 4 ∧
      s.headEnd = false ∧
      (s.port 0).held = [] ∧
      c.crcOk = true ∧
      c.words.length = 1 ∧
      s.linkOn n.val = true ∧
      s.linkUp n.val = true ∧
      c.seq.val = (s.port n.val).expSeq ∧
      s.get LINK_SES_STATE n.val = 1 ∧
      s.portsSettled = true) ∧
    (∃ (n : Fin 4) (s : State),
      s.link.length = 4 ∧
      (s.port 0).held = [] ∧
      (s.headEnd = true ∨ s.get LINK_SES_STATE n.val ≠ 1) ∧
      s.portsSettled = true) ∧
    (∃ (n : Fin 4) (c : Ctrl) (s : State),
      s.link.length = 4 ∧
      s.headEnd = false ∧
      (s.port 0).held = [] ∧
      c.crcOk = true ∧
      c.words.length = 3 ∧
      s.linkOn n.val = true ∧
      s.linkUp n.val = true ∧
      c.seq.val = (s.port n.val).expSeq ∧
      s.get LINK_SES_STATE n.val = 1 ∧
      (∀ q ∈ (s.port n.val).lastEv.toList, ((s.port n.val).firstEv = true ∧ (s.port n.val).peerPor = true) ∨ (1 ≤ (bitsOf
        (ctrlWord c 0) 0 16 + 65536 - q) % 65536 ∧ (bitsOf (ctrlWord c 0) 0 16 + 65536 - q) % 65536 < 32768)) ∧
      (s.port n.val).hevts.length < 64 ∧
      s.portsSettled = true) ∧
    (∃ (n : Fin 4) (c : Ctrl) (s : State),
      s.link.length = 4 ∧
      s.headEnd = false ∧
      (s.port 0).held = [] ∧
      c.crcOk = true ∧
      c.words.length = 3 ∧
      s.linkOn n.val = true ∧
      s.linkUp n.val = true ∧
      c.seq.val = (s.port n.val).expSeq ∧
      s.get LINK_SES_STATE n.val = 1 ∧
      (∀ q ∈ (s.port n.val).lastEv.toList, ((s.port n.val).firstEv = true ∧ (s.port n.val).peerPor = true) ∨ (1 ≤ (bitsOf
        (ctrlWord c 0) 0 16 + 65536 - q) % 65536 ∧ (bitsOf (ctrlWord c 0) 0 16 + 65536 - q) % 65536 < 32768)) ∧
      64 ≤ (s.port n.val).hevts.length ∧
      s.portsSettled = true) ∧
    (∃ (n : Fin 4) (c : Ctrl) (q : Nat) (s : State),
      s.link.length = 4 ∧
      s.headEnd = false ∧
      (s.port 0).held = [] ∧
      c.crcOk = true ∧
      c.words.length = 3 ∧
      s.linkOn n.val = true ∧
      s.linkUp n.val = true ∧
      c.seq.val = (s.port n.val).expSeq ∧
      s.get LINK_SES_STATE n.val = 1 ∧
      (s.port n.val).lastEv = some q ∧
      ((s.port n.val).firstEv = false ∨ (s.port n.val).peerPor = false) ∧
      ((bitsOf (ctrlWord c 0) 0 16 + 65536 - q) % 65536 = 0 ∨ 32768 ≤ (bitsOf (ctrlWord c 0) 0 16 + 65536 - q) % 65536) ∧
      s.portsSettled = true) ∧
    (∃ (n : Fin 4) (s : State),
      s.link.length = 4 ∧
      (s.port 0).held = [] ∧
      (s.headEnd = true ∨ s.get LINK_SES_STATE n.val ≠ 1) ∧
      s.portsSettled = true) ∧
    (∃ (n : Fin 4) (c : Ctrl) (s : State),
      s.link.length = 4 ∧
      s.headEnd = false ∧
      (s.port 0).held = [] ∧
      c.crcOk = true ∧
      c.words.length = 1 ∧
      s.linkOn n.val = true ∧
      s.linkUp n.val = true ∧
      c.seq.val = (s.port n.val).expSeq ∧
      s.coreOn = true ∧
      s.portsSettled = true) ∧
    (∃ (s : State),
      s.link.length = 4 ∧
      (s.port 0).held = [] ∧
      s.headEnd = true ∧
      s.portsSettled = true) ∧
    (∃ (c : Ctrl) (s : State),
      s.link.length = 4 ∧
      s.headEnd = true ∧
      (s.port 0).held = [] ∧
      c.crcOk = true ∧
      c.words.length = 1 ∧
      s.linkOn 0 = true ∧
      s.linkUp 0 = true ∧
      c.seq.val = (s.port 0).expSeq ∧
      s.portsSettled = true) ∧
    (∃ (s : State),
      s.link.length = 4 ∧
      (s.port 0).held = [] ∧
      s.headEnd = false ∧
      s.portsSettled = true) ∧
    (∃ (n : Fin 4) (s : State),
      s.link.length = 4 ∧
      s.headEnd = false ∧
      (s.port 0).held = [] ∧
      s.linkUp n.val = true ∧
      (∀ m ∈ (s.port n.val).window, m.tries < 16) ∧
      s.portsSettled = true) ∧
    (∃ (n : Fin 4) (s : State),
      s.link.length = 4 ∧
      (s.port 0).held = [] ∧
      s.linkUp n.val = true ∧
      (∃ m ∈ (s.port n.val).window, 16 ≤ m.tries) ∧
      s.coreOn = true ∧
      s.portsSettled = true) ∧
    (∃ (n : Fin 4) (s : State),
      s.link.length = 4 ∧
      s.headEnd = false ∧
      (s.port 0).held = [] ∧
      s.linkUp n.val = false ∧
      s.portsSettled = true) ∧
    (∃ (n : Fin 4) (s : State),
      s.link.length = 4 ∧
      (s.port n.val).ackOwed = true ∧
      s.portsSettled = true) ∧
    (∃ (n : Fin 4) (s : State),
      (s.port n.val).ackOwed = false) ∧
    (∃ (s : State),
      s.link.length = 4 ∧
      (s.port 0).action = [] ∧
      s.headEnd = false ∧
      (s.port 0).held = [] ∧
      s.pd 1 = 0) ∧
    (∃ (k : Nat) (l : List Nat) (s : State),
      s.link.length = 4 ∧
      (s.port 0).action = k :: l ∧
      k ≤ 2 ∧
      s.boot.inReset = false ∧
      s.portsSettled = true) ∧
    (∃ (data : Nat) (l : List Nat) (s : State),
      s.link.length = 4 ∧
      (s.port 0).action = (4 + data) :: l ∧
      (s.port 0).held = [] ∧
      s.headEnd = true ∧
      data < 2 ^ 32 ∧
      bitAt data 0 = false ∧
      s.accepts 3 0x070 0x008 data = true ∧
      s.linkOn 0 = true ∧
      s.get HDR_EN 0x070 = 1 ∧
      s.portsSettled = true) :=
  ⟨⟨(0 : Fin 4), ({ seq := 7, ack := 3, words := [0xffffffff#32], crcOk := true } : Ctrl),
    (fun (n : Fin 4) (s : State) => (let s : State := s; let rl := CAB; let s : State := { s with link := (List.replicate 4 LinkS.idle).set n.val { LinkS.idle with expSeq := 7 }, yard := { s.yard with roleCopy := some rl } }; let s : State := ((s.put SYS_ROLE rl).put LINK_STATE 5 n.val).setPd (2 + n.val) 2; let s : State := s.put LINK_SES_STATE 1 n.val; s))
    (0) State.reset, by decide +kernel⟩,
   ⟨(0 : Fin 4),
     (fun (n : Fin 4) (s : State) => (let s : State := s; let rl := (if s.regs.length / 2 % 3 = 0 then HEAD else CAB); let s : State := { s with link := (List.replicate 4 LinkS.idle).set n.val { LinkS.idle with expSeq := 7 }, yard := { s.yard with roleCopy := some rl } }; let s : State := ((s.put SYS_ROLE rl).put LINK_STATE 5 n.val).setPd (2 + n.val) 2; let s : State := s.put LINK_SES_STATE (s.regs.length % 3) n.val; s))
     (0) State.reset, by decide +kernel⟩,
   ⟨(0 : Fin 4), ({ seq := 7, ack := 3, words := [0x5106#32, 0x4007a580#32, 0x0#32], crcOk := true } : Ctrl),
     (fun (n : Fin 4) (s : State) => (let s : State := s; let rl := CAB; let s : State := { s with link := (List.replicate 4 LinkS.idle).set n.val { LinkS.idle with expSeq := 7, hevts := [⟨5, 0, 1, 2, 3⟩], lastEv := [none, some 3, some 65530][s.regs.length % 3]?.getD none, firstEv := s.regs.length % 2 == 0, peerPor := s.regs.length % 5 < 3 }, yard := { s.yard with roleCopy := some rl } }; let s : State := ((s.put SYS_ROLE rl).put LINK_STATE 5 n.val).setPd (2 + n.val) 2; let s : State := s.put LINK_SES_STATE 1 n.val; s))
     (0) State.reset, by decide +kernel⟩,
   ⟨(0 : Fin 4), ({ seq := 7, ack := 3, words := [0xece5#32, 0x5#32, 0x4007a580#32], crcOk := true } : Ctrl),
     (fun (n : Fin 4) (s : State) => (let s : State := s; let rl := CAB; let s : State := { s with link := (List.replicate 4 LinkS.idle).set n.val { LinkS.idle with expSeq := 7, hevts := List.replicate 64 ⟨5, 0, 1, 2, 3⟩, lastEv := [none, some 3, some 65530][s.regs.length % 3]?.getD none, firstEv := s.regs.length % 2 == 0, peerPor := s.regs.length % 5 < 3 }, yard := { s.yard with roleCopy := some rl } }; let s : State := ((s.put SYS_ROLE rl).put LINK_STATE 5 n.val).setPd (2 + n.val) 2; let s : State := s.put LINK_SES_STATE 1 n.val; s))
     (0) State.reset, by decide +kernel⟩,
   ⟨(0 : Fin 4), ({ seq := 7, ack := 3, words := [0xece5#32, 0x5#32, 0x4007a580#32], crcOk := true } : Ctrl), (25991 : Nat),
     (fun (n : Fin 4) (q : Nat) (s : State) => (let s : State := s; let rl := CAB; let s : State := { s with link := (List.replicate 4 LinkS.idle).set n.val { LinkS.idle with expSeq := 7, lastEv := some q, firstEv := s.regs.length % 2 == 0, hevts := [⟨5, 0, 1, 2, 3⟩] }, yard := { s.yard with roleCopy := some rl } }; let s : State := ((s.put SYS_ROLE rl).put LINK_STATE 5 n.val).setPd (2 + n.val) 2; let s : State := s.put LINK_SES_STATE 1 n.val; s))
     (0) (25991) State.reset, by decide +kernel⟩,
   ⟨(0 : Fin 4),
     (fun (n : Fin 4) (s : State) => (let s : State := s; let rl := (if s.regs.length / 2 % 3 = 0 then HEAD else CAB); let s : State := { s with link := (List.replicate 4 LinkS.idle).set n.val { LinkS.idle with expSeq := 7 }, yard := { s.yard with roleCopy := some rl } }; let s : State := ((s.put SYS_ROLE rl).put LINK_STATE 5 n.val).setPd (2 + n.val) 2; let s : State := s.put LINK_SES_STATE (s.regs.length % 3) n.val; s))
     (0) State.reset, by decide +kernel⟩,
   ⟨(0 : Fin 4), ({ seq := 7, ack := 3, words := [0x15#32], crcOk := true } : Ctrl),
     (fun (n : Fin 4) (s : State) => (let s : State := s; let rl := CAB; let s : State := { s with link := (List.replicate 4 LinkS.idle).set n.val { LinkS.idle with expSeq := 7 }, yard := { s.yard with roleCopy := some rl } }; let s : State := ((s.put SYS_ROLE rl).put LINK_STATE 5 n.val).setPd (2 + n.val) 2; s))
     (0) (up 0), by decide +kernel⟩,
   ⟨(fun (n : Fin 4) (s : State) => (let s : State := s; let rl := HEAD; let s : State := { s with link := (List.replicate 4 LinkS.idle).set n.val { LinkS.idle with expSeq := 7 }, yard := { s.yard with roleCopy := some rl } }; let s : State := ((s.put SYS_ROLE rl).put LINK_STATE 5 n.val).setPd (2 + n.val) 2; s))
     (0) State.reset, by decide +kernel⟩,
   ⟨({ seq := 7, ack := 3, words := [0x15a#32], crcOk := true } : Ctrl),
     (fun (s : State) => (let s : State := served s; let s : State := { s with link := (List.replicate 4 LinkS.idle).set 0 { LinkS.idle with expSeq := 7 }, yard := { s.yard with roleCopy := some HEAD } }; let s : State := (((s.put SYS_ROLE HEAD).put LINK_STATE 5 0).setPd 2 2).put LINK_SES_STATE 1 0; let s : State := s.put SYS_PRIV (s.regs.length % 16); s))
     State.reset, by decide +kernel⟩,
   ⟨(fun (n : Fin 4) (s : State) => (let s : State := s; let rl := CAB; let s : State := { s with link := (List.replicate 4 LinkS.idle).set n.val { LinkS.idle with expSeq := 7 }, yard := { s.yard with roleCopy := some rl } }; let s : State := ((s.put SYS_ROLE rl).put LINK_STATE 5 n.val).setPd (2 + n.val) 2; s))
     (0) State.reset, by decide +kernel⟩,
   ⟨(0 : Fin 4),
     (fun (n : Fin 4) (s : State) => (let s : State := s; let rl := CAB; let s : State := { s with link := (List.replicate 4 LinkS.idle).set n.val { LinkS.idle with window := [⟨0x10, 4, [1, 2], 0⟩, ⟨0x11, 5, [1, 2, 3], 7⟩], nextSeq := 6 }, yard := { s.yard with roleCopy := some rl } }; let s : State := ((s.put SYS_ROLE rl).put LINK_STATE 5 n.val).setPd (2 + n.val) 2; s))
     (0) State.reset, by decide +kernel⟩,
   ⟨(3 : Fin 4),
     (fun (n : Fin 4) (s : State) => (let s : State := s; let rl := (if s.regs.length / 2 % 3 = 0 then HEAD else CAB); let s : State := { s with link := (List.replicate 4 LinkS.idle).set n.val { LinkS.idle with window := [⟨0x10, 4, [1, 2], 0⟩, ⟨0x11, 5, [1, 2, 3], 16⟩], nextSeq := 6 }, yard := { s.yard with roleCopy := some rl } }; let s : State := ((s.put SYS_ROLE rl).put LINK_STATE 5 n.val).setPd (2 + n.val) 2; s))
     (3) (up 0), by decide +kernel⟩,
   ⟨(0 : Fin 4),
     (fun (n : Fin 4) (s : State) => (let s : State := s; let rl := CAB; let s : State := { s with link := (List.replicate 4 LinkS.idle).set n.val { LinkS.idle with window := [⟨0x10, 4, [1, 2], 0⟩, ⟨0x11, 5, [1, 2, 3], 7⟩], nextSeq := 6 }, yard := { s.yard with roleCopy := some rl } }; let s : State := ((s.put SYS_ROLE rl).put LINK_STATE 6 n.val).setPd (2 + n.val) 2; s))
     (0) State.reset, by decide +kernel⟩,
   ⟨(0 : Fin 4),
     (fun (n : Fin 4) (s : State) => (let s : State := s; let rl := (if s.regs.length / 2 % 3 = 0 then HEAD else CAB); let s : State := { s with link := (List.replicate 4 LinkS.idle).set n.val { LinkS.idle with ackOwed := true, nextSeq := 6 }, yard := { s.yard with roleCopy := some rl } }; let s : State := ((s.put SYS_ROLE rl).put LINK_STATE 5 n.val).setPd (2 + n.val) 2; s))
     (0) State.reset, by decide +kernel⟩,
   ⟨(0 : Fin 4),
     (fun (n : Fin 4) (s : State) => (let s : State := s; let rl := (if s.regs.length / 2 % 3 = 0 then HEAD else CAB); let s : State := { s with link := (List.replicate 4 LinkS.idle).set n.val { LinkS.idle with nextSeq := 6 }, yard := { s.yard with roleCopy := some rl } }; let s : State := ((s.put SYS_ROLE rl).put LINK_STATE 5 n.val).setPd (2 + n.val) 2; s))
     (0) State.reset, by decide +kernel⟩,
   ⟨(fun (s : State) => (let n : Fin 4 := 0; ((let s : State := s; let rl := CAB; let s : State := { s with link := (List.replicate 4 LinkS.idle).set n.val LinkS.idle, yard := { s.yard with roleCopy := some rl } }; let s : State := ((s.put SYS_ROLE rl).put LINK_STATE 5 n.val).setPd (2 + n.val) 2; s)).setPd 1 0))
     State.reset, by decide +kernel⟩,
   ⟨(2 : Nat), ([] : List Nat),
     (fun (k : Nat) (l : List Nat) (s : State) => (let s : State := served s; let s : State := { s with link := (List.replicate 4 LinkS.idle).set 0 { LinkS.idle with action := k :: l }, yard := { s.yard with roleCopy := some HEAD } }; let s : State := (((s.put SYS_ROLE HEAD).put LINK_STATE 5 0).setPd 2 2).put LINK_SES_STATE 1 0; s))
     (2) ([]) State.reset, by decide +kernel⟩,
   ⟨(0 : Nat), ([] : List Nat),
     (fun (data : Nat) (l : List Nat) (s : State) => (let s : State := served s; let s : State := { s with link := (List.replicate 4 LinkS.idle).set 0 { LinkS.idle with action := (4 + data) :: l }, yard := { s.yard with roleCopy := some HEAD } }; let s : State := (((s.put SYS_ROLE HEAD).put LINK_STATE 5 0).setPd 2 2).put LINK_SES_STATE 1 0; let s : State := s.put HDR_EN 1 0x070; s))
     (0) ([]) State.reset, by decide +kernel⟩⟩

theorem test_hyps_VideoOutputs :
    (∃ (s : State),
      s.vout.reinit = true ∧
      s.vid.any VidS.csi = false ∧
      (s.owed.any (fun e => e.1 == pCSI) = false)) ∧
    (∃ (s : State),
      (s.vout.reinit = false ∨ s.vid.any VidS.csi = true ∨ s.owed.any (fun e => e.1 == pCSI) = true)) ∧
    (∃ (s : State),
      s.pd 7 = 2 ∧
      bitAt s.outTarget 2 = true ∧
      s.axesKept = false) ∧
    (∃ (s : State),
      s.pd 7 = 2 ∧
      bitAt s.outTarget 2 = false ∧
      s.axesKept = false) ∧
    (∃ (s : State),
      s.pd 7 ≠ 2) ∧
    (∃ (stream : Fin 4) (q : Nat) (s : State),
      s.pd 7 = 2 ∧
      s.get PVP_STALE_MS ≠ 0 ∧
      s.vout.pvpOn = true ∧
      s.vout.quads.length = 4 ∧
      s.vout.shown.length ≤ 4 ∧
      q < s.vout.shown.length ∧
      s.vout.shown.getD q none = some stream.val) ∧
    (∃ (stream : Fin 4) (s : State),
      (s.pd 7 ≠ 2 ∨ s.get PVP_STALE_MS = 0 ∨ s.vout.pvpOn = false ∨ ∀ q ∈ List.range s.vout.shown.length, s.vout.shown.getD q none
        ≠ some stream.val ∨ (s.vout.quads.getD q Quad.empty).fill = true)) :=
  ⟨⟨(fun (s : State) => { s with vout := { s.vout with reinit := true }, vid := List.replicate 4 VidS.idle, owed := [] })
    State.reset, by decide +kernel⟩,
   ⟨State.reset, by decide +kernel⟩,
   ⟨(fun (s : State) => (let s : State := ((s.setPd 7 2).put HDR_EN (s.regs.length % 2) pPVP).put YARD_OUTSET 7; let s : State := if s.role = HEAD then s.put SYS_ROLE CAB else s; let s : State := if s.mode = DORMANT then s.put YARD_MODE 2 else s; { s with vout := { s.vout with quads := [{ Quad.empty with ready := if s.regs.length % 2 = 0 then some ⟨0, 4, 4, [[1, 2, 3, 4]]⟩ else none }, Quad.empty, Quad.empty, Quad.empty], shown := s.pvpSources } }))
     State.reset, by decide +kernel⟩,
   ⟨(fun (s : State) => ((s.setPd 7 2).put YARD_OUTSET 3)) State.reset, by decide +kernel⟩,
   ⟨(fun (s : State) => (s.setPd 7 (s.regs.length % 2))) State.reset, by decide +kernel⟩,
   ⟨(0 : Fin 4), (0 : Nat), (fun (stream : Fin 4) (s : State) =>
     ({ s with vout := { s.vout with pvpOn := true, quads := List.replicate 4 { Quad.empty with fill := s.regs.length % 3 == 0 }, shown := [some stream.val, some 2] } }.setPd
     7 2).put PVP_STALE_MS 500) (0) State.reset, by decide +kernel⟩,
   ⟨(0 : Fin 4), State.reset, by decide +kernel⟩⟩

theorem test_hyps_TwoWireBus :
    (∃ (addr : Fin 128) (s : State),
      (addr.val ≠ s.yard.ownAddr ∨ s.boot.inReset = true ∨ s.bootEarly = true)) ∧
    (∃ (addr : Fin 128) (s : State),
      s.boot.inReset = false ∧
      s.bootEarly = false ∧
      (s.safe = true ∨ (s.inDormant = false ∧ (s.wake 1 none).reachable = true ∧ (s.wake 1 none).nvmBusy = false ∧ (s.wake 1
        none).yard.pstate ≠ 1 ∧ (s.wake 1 none).yard.pstate ≠ 2 ∧ (s.wake 1 none).yard.pstate ≠ 3)) ∧
      addr.val = s.yard.ownAddr) ∧
    (∃ (addr : Fin 128) (s : State),
      s.boot.inReset = false ∧
      s.bootEarly = false ∧
      s.safe = false ∧
      s.inDormant = false ∧
      addr.val = s.yard.ownAddr ∧
      (s.wake 1 none).reachable = true ∧
      (s.wake 1 none).nvmBusy = true ∧
      (s.wake 1 none).yard.pstate ≠ 3) ∧
    (∃ (addr : Fin 128) (s : State),
      s.boot.inReset = false ∧
      s.bootEarly = false ∧
      s.safe = false ∧
      s.inDormant = false ∧
      addr.val = s.yard.ownAddr ∧
      (s.wake 1 none).reachable = true ∧
      (s.wake 1 none).nvmBusy = false ∧
      ((s.wake 1 none).yard.pstate = 1 ∨ (s.wake 1 none).yard.pstate = 2)) ∧
    (∃ (addr : Fin 128) (s : State),
      s.boot.inReset = false ∧
      s.bootEarly = false ∧
      s.safe = false ∧
      s.inDormant = false ∧
      addr.val = s.yard.ownAddr ∧
      (s.wake 1 none).reachable = true ∧
      (s.wake 1 none).nvmBusy = false ∧
      ((s.wake 1 none).yard.pstate = 1 ∨ (s.wake 1 none).yard.pstate = 2)) ∧
    (∃ (addr : Fin 128) (s : State),
      s.boot.inReset = false ∧
      s.safe = false ∧
      addr.val = s.yard.ownAddr ∧
      (s.inDormant = true ∨ (s.wake 1 none).yard.pstate = 3 ∨ (s.wake 1 none).reachable = false)) ∧
    (∃ (data : Word) (s : State),
      s.host.i2cTxn = some false ∧
      (s.yard.pstate ≠ 1 ∧ s.yard.pstate ≠ 2) ∧
      s.host.i2cPtr = regAddr 0x002 0x048 ∧
      s.accepts 2 0x002 0x048 data.toNat = true) ∧
    (∃ (s : State),
      s.host.i2cTxn = some false ∧
      (s.safe = true ∨ (s.yard.pstate ≠ 1 ∧ s.yard.pstate ≠ 2))) ∧
    (∃ (s : State),
      s.host.i2cTxn = some false ∧
      (s.safe = true ∨ (s.yard.pstate ≠ 1 ∧ s.yard.pstate ≠ 2)) ∧
      s.reachable = true ∧
      (s.safe = true ∨ (s.nvmBusy = false ∧ s.host.i2cPtr = regAddr 0x071 0x010 ∧ s.present 0x071 = false))) ∧
    (∃ (s : State),
      s.host.i2cTxn = some false ∧
      (s.yard.pstate ≠ 1 ∧ s.yard.pstate ≠ 2) ∧
      s.safe = false ∧
      s.reachable = true ∧
      s.nvmBusy = false ∧
      isPosted s.host.i2cPtr = true ∧
      s.host.posted.length < 16) ∧
    (∃ (s : State),
      s.host.i2cTxn = some false ∧
      s.safe = false ∧
      (s.yard.pstate = 1 ∨ s.yard.pstate = 2) ∧
      s.host.i2cBuf.length < 4) ∧
    (∃ (s : State),
      s.host.i2cTxn = some false ∧
      s.safe = false ∧
      (s.yard.pstate = 1 ∨ s.yard.pstate = 2) ∧
      4 ≤ s.host.i2cBuf.length) ∧
    (∃ (s : State),
      s.host.i2cTxn ≠ some false) ∧
    (∃ (w : Nat) (k : Nat) (s : State),
      s.host.i2cTxn = some true ∧
      (s.busRead 2 s.host.i2cPtr).2 = (w, k)) ∧
    (∃ (s : State),
      s.host.i2cTxn ≠ some true) ∧
    (∃ (read : Bool) (s : State),
      s.host.i2cTxn = some read) ∧
    (∃ (s : State),
      s.host.i2cTxn = none) ∧
    (∃ (s : State),
      s.get I2C_SDA_HELD = 0) ∧
    (∃ (s : State),
      s.get I2C_SDA_HELD ≠ 0) :=
  ⟨⟨(72 : Fin 128),
    (fun (s : State) => (let s : State := served s; { s with host := { s.host with i2cTxn := if s.regs.length % 3 = 0 then none else some false, i2cAddr := s.regs.length % 2 == 0, i2cWords := 0 } }))
    State.reset, by decide +kernel⟩,
   ⟨(72 : Fin 128),
     (fun (addr : Fin 128) (s : State) => (let s : State := (let s : State := served s; { s with yard := { s.yard with ownAddr := addr.val, entering := s.regs.length % 5 == 0, pstate := if s.regs.length % 5 = 0 then 1 else 0 }, host := { s.host with i2cTxn := if s.regs.length % 3 = 0 then some true else none } }); s.put SYS_SAFE (if s.regs.length % 4 = 0 then 1 else 0)))
     (72) State.reset, by decide +kernel⟩,
   ⟨(72 : Fin 128),
     (fun (addr : Fin 128) (s : State) => (let s : State := served s; { s with yard := { s.yard with ownAddr := addr.val }, gran := { s.gran with cur := some ⟨2, 4, true, 1, true, [.erase 9], 0, 0⟩, gap := false } }))
     (72) State.reset, by decide +kernel⟩,
   ⟨(72 : Fin 128),
     (fun (addr : Fin 128) (s : State) => (let s : State := served s; { s with yard := { s.yard with ownAddr := addr.val, pstate := 1 + s.regs.length % 2 } }))
     (72) State.reset, by decide +kernel⟩,
   ⟨(72 : Fin 128),
     (fun (addr : Fin 128) (s : State) => (let s : State := served s; { s with yard := { s.yard with ownAddr := addr.val, pstate := 1 + s.regs.length % 2, entering := s.regs.length % 3 == 0 } }))
     (72) State.reset, by decide +kernel⟩,
   ⟨(72 : Fin 128), (fun (addr : Fin 128) (s : State) =>
     { s with yard := { s.yard with ownAddr := addr.val, pstate := 4 }, boot := { s.boot with inReset := false } }) (72)
     State.reset, by decide +kernel⟩,
   ⟨(0x15a#32 : Word),
     (fun (s : State) => (let s : State := served s; let s : State := { s with host := { s.host with i2cTxn := some false, i2cPtr := regAddr 0x002 0x048 } }; s))
     State.reset, by decide +kernel⟩,
   ⟨(fun (s : State) => (let s : State := served s; let s : State := { s with host := { s.host with i2cTxn := some false, i2cPtr := [regAddr 0x002 0x048, regAddr 0x00A 0x180, 5, regAddr 0x001 0x044][s.regs.length % 4]?.getD 0 } }; s))
     State.reset, by decide +kernel⟩,
   ⟨(fun (s : State) => ((let s : State := served s; let s : State := { s with host := { s.host with i2cTxn := some false, i2cPtr := regAddr 0x071 0x010 } }; s).put SYS_ROLE HEAD).put SYS_SAFE (s.regs.length % 2))
     State.reset, by decide +kernel⟩,
   ⟨(fun (s : State) => (let s : State := served s; let s : State := { s with host := { s.host with i2cTxn := some false, i2cPtr := regAddr 0x001 (0x40 + 4 * (s.regs.length % 3)) } }; s))
     State.reset, by decide +kernel⟩,
   ⟨(fun (s : State) => { (let s : State := served s; let s : State := { s with host := { s.host with i2cTxn := some false } }; s) with yard := { s.yard with pstate := 1 } })
     State.reset, by decide +kernel⟩,
   ⟨(fun (s : State) => { (let s : State := served s; let s : State := { s with host := { s.host with i2cTxn := some false, i2cBuf := [(0, 0), (4, 1), (8, 2), (12, 3)] } }; s) with yard := { s.yard with pstate := 1 } })
     State.reset, by decide +kernel⟩,
   ⟨(fun (s : State) => (let s : State := served s; let s : State := { s with host := { s.host with i2cTxn := if s.regs.length % 2 = 0 then none else some true } }; s))
     State.reset, by decide +kernel⟩,
   ⟨(0 : Nat), (0 : Nat),
     (fun (s : State) => (let s : State := served s; let s : State := { s with host := { s.host with i2cTxn := some true, i2cPtr := regAddr 0x002 0x048 } }; s))
     State.reset, by decide +kernel⟩,
   ⟨(fun (s : State) => (let s : State := served s; let s : State := { s with host := { s.host with i2cTxn := if s.regs.length % 2 = 0 then none else some false } }; s))
     State.reset, by decide +kernel⟩,
   ⟨(true : Bool),
     (fun (read : Bool) (s : State) => (let s : State := served s; let s : State := { s with host := { s.host with i2cTxn := some read, i2cAddr := true, i2cWords := s.regs.length % 2 } }; s))
     (true) State.reset, by decide +kernel⟩,
   ⟨(fun (s : State) => (let s : State := served s; let s : State := { s with host := { s.host with i2cTxn := none } }; s))
     State.reset, by decide +kernel⟩,
   ⟨(fun (s : State) => s.put I2C_SDA_HELD 0) State.reset, by decide +kernel⟩,
   ⟨(fun (s : State) => s.put I2C_SDA_HELD 1) State.reset, by decide +kernel⟩⟩

theorem test_hyps_AttentionAndSpi :
    (∃ (s : State),
      s.reachable = true ∧
      s.on I2C_ATTN_EN = true ∧
      s.irq = true ∧
      (s.host.attnDone = false ∨ s.get I2C_ATTN_REPEAT ≠ 0) ∧
      s.host.attnTries = 0) ∧
    (∃ (s : State),
      (s.reachable = false ∨ s.on I2C_ATTN_EN = false ∨ s.irq = false ∨ (s.host.attnDone = true ∧ s.get I2C_ATTN_REPEAT = 0) ∨
        s.host.attnTries ≠ 0)) ∧
    (∃ (s : State),
      s.host.attnTries ≠ 0) ∧
    (∃ (outcome : Fin 3) (s : State),
      outcome ≠ 0 ∧
      s.host.attnTries ≠ 0 ∧
      s.host.attnTries < 1 + s.get I2C_ATTN_RETRY) ∧
    (∃ (outcome : Fin 3) (s : State),
      outcome ≠ 0 ∧
      s.host.attnTries ≠ 0 ∧
      1 + s.get I2C_ATTN_RETRY ≤ s.host.attnTries ∧
      s.coreOn = true) ∧
    (∃ (s : State),
      s.host.attnTries = 0) ∧
    (∃ (s : State),
      s.boot.inReset = false ∧
      (s.safe = true ∨ (s.inDormant = false ∧ s.reachable = true ∧ s.nvmBusy = false ∧ s.yard.pstate ≠ 1 ∧ s.yard.pstate ≠ 2 ∧
        s.yard.pstate ≠ 3))) ∧
    (∃ (s : State),
      s.boot.inReset = false ∧
      s.safe = false ∧
      s.inDormant = false ∧
      s.reachable = true ∧
      s.nvmBusy = true ∧
      s.yard.pstate ≠ 1 ∧
      s.yard.pstate ≠ 2 ∧
      s.yard.pstate ≠ 3) ∧
    (∃ (s : State),
      s.boot.inReset = false ∧
      s.safe = false ∧
      ((s.inDormant = false ∧ (1 ≤ s.yard.pstate ∧ s.yard.pstate ≤ 3 ∨ s.reachable = false)) ∨ (s.inDormant = true ∧
        s.yard.spiWake = true))) ∧
    (∃ (s : State),
      (s.boot.inReset = true ∨ (s.safe = false ∧ s.inDormant = true ∧ s.yard.spiWake = false))) ∧
    (∃ (s : State),
      s.host.spiTxn = some 0) ∧
    (∃ (s : State),
      s.host.spiTxn ≠ some 0) ∧
    (∃ (addr : Word) (data : Word) (s : State),
      s.host.spiTxn = some 0 ∧
      addr.toNat = regAddr 0x002 0x048 ∧
      s.accepts 1 0x002 0x048 data.toNat = true) ∧
    (∃ (s : State),
      s.host.spiTxn = some 0) ∧
    (∃ (addr : Word) (words : List Word) (s : State),
      s.host.spiTxn = some 0 ∧
      words ≠ [] ∧
      s.reachable = true ∧
      (s.safe = true ∨ (s.nvmBusy = false ∧ addr.toNat = regAddr 0x071 0x010 ∧ s.present 0x071 = false ∧ words.length = 1))) ∧
    (∃ (addr : Word) (s : State),
      s.host.spiTxn = some 0 ∧
      s.safe = false ∧
      s.reachable = true ∧
      s.nvmBusy = false ∧
      isPosted addr.toNat = true ∧
      isPosted (nextAddr addr.toNat) = true ∧
      s.host.posted = []) ∧
    (∃ (s : State),
      s.host.spiTxn = some 0) ∧
    (∃ (s : State),
      s.host.spiTxn ≠ some 0) ∧
    (∃ (s : State),
      s.host.spiTxn = some 0) ∧
    (∃ (addr : Word) (w : Nat) (k : Nat) (s : State),
      s.host.spiTxn = some 0 ∧
      ({ s with host := { s.host with spiTxn := some 3 } }.busRead 1 addr.toNat).2 = (w, k)) ∧
    (∃ (s : State),
      s.host.spiTxn ≠ some 0) ∧
    (∃ (byte : Byte) (s : State),
      s.host.spiTxn = some 0 ∧
      byte.toNat ≠ 0 ∧
      byte.toNat ≠ 2 ∧
      byte.toNat ≠ 3) ∧
    (∃ (byte : Byte) (s : State),
      (s.host.spiTxn ≠ some 0 ∨ byte.toNat = 0 ∨ byte.toNat = 2 ∨ byte.toNat = 3)) ∧
    (∃ (k : Nat) (s : State),
      s.host.spiTxn = some k) ∧
    (∃ (s : State),
      s.host.spiTxn = none) :=
  ⟨⟨(fun (s : State) => (let s : State := served s; let s : State := { s with host := { s.host with attnTries := 0, attnDone := s.regs.length % 3 == 0 } }; ((s.put I2C_ATTN_EN 1).put HDR_INT_EN 1 0x004).put HDR_INT_RAW 1 0x004))
    State.reset, by decide +kernel⟩,
   ⟨State.reset, by decide +kernel⟩,
   ⟨(fun (s : State) => { s with host := { s.host with attnTries := 2 } }) State.reset, by decide +kernel⟩,
   ⟨(2 : Fin 3), (fun (s : State) => { s with host := { s.host with attnTries := 1 } }.put I2C_ATTN_RETRY 3) State.reset,
     by decide +kernel⟩,
   ⟨(1 : Fin 3), (fun (s : State) => { s with host := { s.host with attnTries := 4 } }.put I2C_ATTN_RETRY 3) (up 0),
     by decide +kernel⟩,
   ⟨(fun (s : State) => { s with host := { s.host with attnTries := 0 } }) State.reset, by decide +kernel⟩,
   ⟨(fun (s : State) => (served s).put SYS_SAFE (if s.regs.length % 4 = 0 then 1 else 0)) State.reset, by decide +kernel⟩,
   ⟨(fun (s : State) =>
     { served s with gran := { s.gran with cur := some ⟨2, 4, true, 1, true, [.erase 9], 0, 0⟩, gap := false } }) State.reset,
     by decide +kernel⟩,
   ⟨(fun (s : State) => if s.regs.length % 3 = 0 then { s with yard := { s.yard with spiWake := true } } else
     { served s with yard := { s.yard with pstate := 1 + s.regs.length % 4 } }) (up 2), by decide +kernel⟩,
   ⟨(fun (s : State) => if s.regs.length % 2 = 0 then { s with boot := { s.boot with inReset := true } } else
     { (s.put YARD_MODE 0) with boot := { s.boot with booting := false }, yard := { s.yard with spiWake := false, pstate := 4 } })
     State.reset, by decide +kernel⟩,
   ⟨(fun (s : State) => (let s : State := served s; { s with host := { s.host with spiTxn := some 0 } })) State.reset,
     by decide +kernel⟩,
   ⟨(fun (s : State) => (let s : State := served s; { s with host := { s.host with spiTxn := if s.regs.length % 2 = 0 then none else some 2 } }))
     State.reset, by decide +kernel⟩,
   ⟨(0x40002048#32 : Word), (0x15a#32 : Word),
     (fun (s : State) => (let s : State := served s; { s with host := { s.host with spiTxn := some 0 } })) State.reset,
     by decide +kernel⟩,
   ⟨(fun (s : State) => (let s : State := served s; { s with host := { s.host with spiTxn := some 0 } })) State.reset,
     by decide +kernel⟩,
   ⟨(0x40071010#32 : Word), ([0x15a#32] : List Word),
     (fun (s : State) => ((let s : State := served s; { s with host := { s.host with spiTxn := some 0 } }).put SYS_ROLE HEAD).put SYS_SAFE (s.regs.length % 2))
     State.reset, by decide +kernel⟩,
   ⟨(0x40001078#32 : Word), (fun (s : State) => (let s : State := served s; { s with host := { s.host with spiTxn := some 0 } }))
     State.reset, by decide +kernel⟩,
   ⟨(fun (s : State) => (let s : State := served s; { s with host := { s.host with spiTxn := some 0 } })) State.reset,
     by decide +kernel⟩,
   ⟨(fun (s : State) => (let s : State := served s; { s with host := { s.host with spiTxn := if s.regs.length % 2 = 0 then none else some 2 } }))
     State.reset, by decide +kernel⟩,
   ⟨(fun (s : State) => (let s : State := served s; { s with host := { s.host with spiTxn := some 0 } })) State.reset,
     by decide +kernel⟩,
   ⟨(0x40002048#32 : Word), (0 : Nat), (0 : Nat),
     (fun (s : State) => (let s : State := served s; { s with host := { s.host with spiTxn := some 0 } })) State.reset,
     by decide +kernel⟩,
   ⟨(fun (s : State) => (let s : State := served s; { s with host := { s.host with spiTxn := if s.regs.length % 2 = 0 then none else some 2 } }))
     State.reset, by decide +kernel⟩,
   ⟨(0xc8#8 : Byte), (fun (s : State) => (let s : State := served s; { s with host := { s.host with spiTxn := some 0 } }))
     State.reset, by decide +kernel⟩,
   ⟨(0xc8#8 : Byte),
     (fun (s : State) => (let s : State := served s; { s with host := { s.host with spiTxn := if s.regs.length % 2 = 0 then none else some 2 } }))
     State.reset, by decide +kernel⟩,
   ⟨(1 : Nat), (fun (k : Nat) (s : State) => { s with host := { s.host with spiTxn := some k } }) (1) State.reset,
     by decide +kernel⟩,
   ⟨(fun (s : State) => (let s : State := served s; { s with host := { s.host with spiTxn := none } })) State.reset,
     by decide +kernel⟩⟩

theorem test_hyps_QueuePorts :
    (∃ (q : Fin 4) (m : Master) (data : Word) (s : State),
      s.host.queues.length = 4 ∧
      s.accepts m.num 0x00A (queueOff q.val 0) data.toNat = true ∧
      (s.queue q.val).waitStart = false ∧
      (s.queue q.val).resync = 0 ∧
      (s.queue q.val).part = [] ∧
      bitsOf data.toNat 16 8 ≠ 0 ∧
      s.portsWanted = true) ∧
    (∃ (q : Fin 4) (m : Master) (data : Word) (s : State),
      s.host.queues.length = 4 ∧
      s.accepts m.num 0x00A (queueOff q.val 0) data.toNat = true ∧
      (s.queue q.val).waitStart = false ∧
      (s.queue q.val).resync = 0 ∧
      (s.queue q.val).part ≠ [] ∧
      (s.queue q.val).part.length + 1 = (s.queue q.val).need ∧
      ((s.queue q.val).busy.isSome = true ∨ ((s.queue q.val).items = [] ∧ trivialCode q.val ((s.queue q.val).part ++ [data.toNat])
        = none)) ∧
      s.portsWanted = true) ∧
    (∃ (q : Fin 4) (m : Master) (data : Word) (k : Nat) (s : State),
      s.host.queues.length = 4 ∧
      s.accepts m.num 0x00A (queueOff q.val 0) data.toNat = true ∧
      (s.queue q.val).waitStart = false ∧
      (s.queue q.val).resync = 0 ∧
      (s.queue q.val).part ≠ [] ∧
      (s.queue q.val).part.length + 1 = (s.queue q.val).need ∧
      (s.queue q.val).busy = none ∧
      (s.queue q.val).items = [] ∧
      (s.queue q.val).compl.length < 16 ∧
      s.on PIN_TAP_HALT = false ∧
      (∀ k ∈ List.range 4, k ≠ q.val → (s.queue k).items = []) ∧
      trivialCode q.val ((s.queue q.val).part ++ [data.toNat]) = some k ∧
      s.portsWanted = true) ∧
    (∃ (q : Fin 4) (m : Master) (data : Word) (s : State),
      s.host.queues.length = 4 ∧
      s.accepts m.num 0x00A (queueOff q.val 0) data.toNat = true ∧
      (s.queue q.val).waitStart = false ∧
      (s.queue q.val).resync = 0 ∧
      (s.queue q.val).part = [] ∧
      bitsOf data.toNat 16 8 = 0 ∧
      (s.queue q.val).busy = none ∧
      (s.queue q.val).items = [] ∧
      (s.queue q.val).compl.length < 16 ∧
      s.on PIN_TAP_HALT = false ∧
      (∀ k ∈ List.range 4, k ≠ q.val → (s.queue k).items = []) ∧
      s.portsWanted = true) ∧
    (∃ (q : Fin 4) (m : Master) (data : Word) (s : State),
      s.host.queues.length = 4 ∧
      s.accepts m.num 0x00A (queueOff q.val 0) data.toNat = true ∧
      (s.queue q.val).waitStart = false ∧
      (s.queue q.val).resync = 0 ∧
      (s.queue q.val).part ≠ [] ∧
      (s.queue q.val).part.length + 1 ≠ (s.queue q.val).need ∧
      s.portsWanted = true) ∧
    (∃ (q : Fin 4) (m : Master) (data : Word) (s : State),
      m.num = q.val ∧
      s.serves = true ∧
      s.sources m.num = true ∧
      (s.checkWith none m.num 0x00A (queueOff q.val 0) data.toNat).isNone = true ∧
      s.host.queues.length = 4 ∧
      (s.queue q.val).waitStart = false ∧
      (s.queue q.val).resync = 0 ∧
      (s.queue q.val).part = [] ∧
      (s.queue q.val).free < 1 + bitsOf data.toNat 16 8 ∧
      s.portsWanted = true) ∧
    (∃ (q : Fin 4) (m : Master) (data : Word) (s : State),
      s.host.queues.length = 4 ∧
      s.accepts m.num 0x00A (queueOff q.val 0) data.toNat = true ∧
      (s.queue q.val).waitStart = true ∧
      s.portsWanted = true) ∧
    (∃ (q : Fin 4) (m : Master) (data : Word) (s : State),
      s.host.queues.length = 4 ∧
      s.accepts m.num 0x00A (queueOff q.val 0) data.toNat = true ∧
      (s.queue q.val).waitStart = false ∧
      (s.queue q.val).resync ≠ 0 ∧
      s.portsWanted = true) ∧
    (∃ (m : Master) (q : Fin 4) (s : State),
      s.host.queues.length = 4 ∧
      m.num ≠ q.val ∧
      s.portsWanted = true) ∧
    (∃ (q : Fin 4) (m : Master) (data : Word) (s : State),
      s.host.queues.length = 4 ∧
      s.accepts m.num 0x00A (queueOff q.val 4) data.toNat = true ∧
      (s.queue q.val).busy.isSome = true ∧
      bitsOf data.toNat 16 8 ≠ 0 ∧
      s.portsWanted = true) ∧
    (∃ (q : Fin 4) (m : Master) (data : Word) (s : State),
      s.host.queues.length = 4 ∧
      s.accepts m.num 0x00A (queueOff q.val 4) data.toNat = true ∧
      bitsOf data.toNat 16 8 = 0 ∧
      (s.queue q.val).busy = none ∧
      (s.queue q.val).items = [] ∧
      (s.queue q.val).compl.length < 16 ∧
      s.on PIN_TAP_HALT = false ∧
      (∀ k ∈ List.range 4, k ≠ q.val → (s.queue k).items = []) ∧
      s.portsWanted = true) ∧
    (∃ (q : Fin 4) (m : Master) (data : Word) (s : State),
      m.num = q.val ∧
      s.serves = true ∧
      s.sources m.num = true ∧
      (s.checkWith none m.num 0x00A (queueOff q.val 4) data.toNat).isNone = true ∧
      s.host.queues.length = 4 ∧
      (64 - (s.queue q.val).items.foldl (fun a i => a + i.length) 0 < 1 + bitsOf data.toNat 16 8) ∧
      (s.queue q.val).busy.isSome = true ∧
      s.portsWanted = true) ∧
    (∃ (q : Fin 4) (m : Master) (s : State),
      s.host.queues.length = 4 ∧
      s.accepts m.num 0x00A (queueOff q.val 8) 1 = true) ∧
    (∃ (q : Fin 4) (m : Master) (i : List Nat) (s : State),
      s.host.queues.length = 4 ∧
      s.accepts m.num 0x00A (queueOff q.val 8) 1 = true ∧
      (s.queue q.val).busy = some (0 :: i)) ∧
    (∃ (q : Fin 4) (s : State),
      s.host.queues.length = 4 ∧
      (s.queue q.val).flushing = true ∧
      (s.queue q.val).resync = 0 ∧
      (s.queue q.val).waitStart = false ∧
      s.coreOn = true) ∧
    (∃ (q : Fin 4) (s : State),
      ((s.queue q.val).flushing = false ∨ (s.queue q.val).resync ≠ 0 ∨ (s.queue q.val).waitStart = true)) ∧
    (∃ (q : Fin 4) (m : Master) (s : State),
      s.host.queues.length = 4 ∧
      s.accepts m.num 0x00A (queueOff q.val 0x18) 1 = true) ∧
    (∃ (m : Master) (data : Word) (s : State),
      s.accepts m.num 0x00B 0x048 data.toNat = true ∧
      s.host.script = none ∧
      4 ≤ s.host.autoNext ∧
      (s.runStart (data.toNat % 2 ^ 16) ((s.scriptEntry (data.toNat % 2 ^ 16)).getD 0)).host.script = none) ∧
    (∃ (m : Master) (data : Word) (r : Script) (s : State),
      s.accepts m.num 0x00B 0x048 data.toNat = true ∧
      s.host.script = none ∧
      (s.queue 0).busy.isSome = true ∧
      s.host.queues.length = 4 ∧
      (s.runStart (data.toNat % 2 ^ 16) ((s.scriptEntry (data.toNat % 2 ^ 16)).getD 0)).host.script = some r) ∧
    (∃ (m : Master) (data : Word) (s : State),
      s.serves = true ∧
      s.sources m.num = true ∧
      (s.checkWith none m.num 0x00B 0x048 data.toNat).isNone = true ∧
      (s.host.script.isSome = true ∨ data.toNat % 2 ^ 16 = 0 ∨ data.toNat % 2 ^ 16 = 0xFFFF ∨ s.scriptEntry (data.toNat % 2 ^ 16)
        = none)) ∧
    (∃ (m : Master) (s : State),
      s.accepts m.num 0x00B 0x04C 1 = true ∧
      s.host.script = none ∧
      4 ≤ s.host.autoNext) ∧
    (∃ (m : Master) (r : Script) (s : State),
      s.accepts m.num 0x00B 0x04C 1 = true ∧
      s.host.script = some r ∧
      (s.queue 0).busy = none ∧
      4 ≤ s.host.autoNext) ∧
    (∃ (m : Master) (r : Script) (i : List Nat) (s : State),
      s.accepts m.num 0x00B 0x04C 1 = true ∧
      s.host.queues.length = 4 ∧
      s.host.script = some r ∧
      (s.queue 0).busy = some (1 :: i) ∧
      4 ≤ s.host.autoNext) ∧
    (∃ (m : Master) (r : Script) (i : List Nat) (s : State),
      s.accepts m.num 0x00B 0x04C 1 = true ∧
      s.host.queues.length = 4 ∧
      s.host.script = some r ∧
      (s.queue 0).busy = some (2 :: i)) :=
  ⟨⟨(0 : Fin 4), (.m0 : Master), (0x501007c#32 : Word),
    (fun (q : Fin 4) (s : State) => (let s : State := served s; let s : State := { s with host := { s.host with queues := (List.replicate 4 Queue.empty).set q.val { Queue.empty with busy := if s.regs.length % 2 = 0 then none else some [0, 0x04010000, 5] }, autoNext := 4, lastQueue := 3, script := none } }; let s : State := s.put PIN_TAP_HALT 0; s))
    (0) State.reset, by decide +kernel⟩,
   ⟨(0 : Fin 4), (.m0 : Master), (0xffffffff#32 : Word),
     (fun (q : Fin 4) (s : State) => (let s : State := served s; let s : State := { s with host := { s.host with queues := (List.replicate 4 Queue.empty).set q.val { Queue.empty with busy := if s.regs.length % 2 = 0 then none else some [0, 0x04010000, 5], part := [0x05010007], need := 2 }, autoNext := 4, lastQueue := 3, script := none } }; let s : State := s.put PIN_TAP_HALT 0; s))
     (0) State.reset, by decide +kernel⟩,
   ⟨(0 : Fin 4), (.m0 : Master), (0xffffffff#32 : Word), (10 : Nat),
     (fun (q : Fin 4) (s : State) => (let s : State := served s; let s : State := { s with host := { s.host with queues := (List.replicate 4 Queue.empty).set q.val { Queue.empty with part := [0x07010007], need := 2 }, autoNext := 4, lastQueue := 3, script := none } }; let s : State := s.put PIN_TAP_HALT 0; s))
     (0) State.reset, by decide +kernel⟩,
   ⟨(0 : Fin 4), (.m0 : Master), (0x5000075#32 : Word),
     (fun (q : Fin 4) (s : State) => (let s : State := served s; let s : State := { s with host := { s.host with queues := (List.replicate 4 Queue.empty).set q.val Queue.empty, autoNext := 4, lastQueue := 3, script := none } }; let s : State := s.put PIN_TAP_HALT 0; s))
     (0) State.reset, by decide +kernel⟩,
   ⟨(0 : Fin 4), (.m0 : Master), (0xffffffff#32 : Word),
     (fun (q : Fin 4) (s : State) => (let s : State := served s; let s : State := { s with host := { s.host with queues := (List.replicate 4 Queue.empty).set q.val { Queue.empty with part := [0x01030007], need := 4 }, autoNext := 4, lastQueue := 3, script := none } }; let s : State := s.put PIN_TAP_HALT 0; s))
     (0) State.reset, by decide +kernel⟩,
   ⟨(0 : Fin 4), (.m0 : Master), (0x505007c#32 : Word),
     (fun (q : Fin 4) (s : State) => (let s : State := served s; let s : State := { s with host := { s.host with queues := (List.replicate 4 Queue.empty).set q.val { Queue.empty with busy := some [2, 0x04010000, 5], items := List.replicate 6 [0x01090000, 1, 2, 3, 4, 5, 6, 7, 8, 9] }, autoNext := 4, lastQueue := 3, script := none } }; let s : State := s.put PIN_TAP_HALT 0; s))
     (0) State.reset, by decide +kernel⟩,
   ⟨(0 : Fin 4), (.m0 : Master), (0xffffffff#32 : Word),
     (fun (q : Fin 4) (s : State) => (let s : State := served s; let s : State := { s with host := { s.host with queues := (List.replicate 4 Queue.empty).set q.val { Queue.empty with waitStart := true }, autoNext := 4, lastQueue := 3, script := none } }; let s : State := s.put PIN_TAP_HALT 0; s))
     (0) State.reset, by decide +kernel⟩,
   ⟨(0 : Fin 4), (.m0 : Master), (0xffffffff#32 : Word),
     (fun (q : Fin 4) (s : State) => (let s : State := served s; let s : State := { s with host := { s.host with queues := (List.replicate 4 Queue.empty).set q.val { Queue.empty with resync := 3 }, autoNext := 4, lastQueue := 3, script := none } }; let s : State := s.put PIN_TAP_HALT 0; s))
     (0) State.reset, by decide +kernel⟩,
   ⟨(.m2 : Master), (1 : Fin 4),
     (fun (q : Fin 4) (s : State) => (let s : State := served s; let s : State := { s with host := { s.host with queues := (List.replicate 4 Queue.empty).set q.val Queue.empty, autoNext := 4, lastQueue := 3, script := none } }; let s : State := s.put PIN_TAP_HALT 0; s))
     (1) State.reset, by decide +kernel⟩,
   ⟨(0 : Fin 4), (.m0 : Master), (0x501007c#32 : Word),
     (fun (q : Fin 4) (s : State) => (let s : State := served s; let s : State := { s with host := { s.host with queues := (List.replicate 4 Queue.empty).set q.val { Queue.empty with busy := some [0, 0x04010000, 5], part := [0x05010007], need := 2, resync := 1, waitStart := s.regs.length % 2 == 0 }, autoNext := 4, lastQueue := 3, script := none } }; let s : State := s.put PIN_TAP_HALT 0; s))
     (0) State.reset, by decide +kernel⟩,
   ⟨(0 : Fin 4), (.m0 : Master), (0x5000075#32 : Word),
     (fun (q : Fin 4) (s : State) => (let s : State := served s; let s : State := { s with host := { s.host with queues := (List.replicate 4 Queue.empty).set q.val { Queue.empty with part := [0x05010007], need := 2, resync := 1, waitStart := s.regs.length % 2 == 0 }, autoNext := 4, lastQueue := 3, script := none } }; let s : State := s.put PIN_TAP_HALT 0; s))
     (0) State.reset, by decide +kernel⟩,
   ⟨(0 : Fin 4), (.m0 : Master), (0x505007c#32 : Word),
     (fun (q : Fin 4) (s : State) => (let s : State := served s; let s : State := { s with host := { s.host with queues := (List.replicate 4 Queue.empty).set q.val { Queue.empty with busy := some [2, 0x04010000, 5], waitStart := true, part := [0x05010007], need := 2, items := List.replicate 6 [0x01090000, 1, 2, 3, 4, 5, 6, 7, 8, 9] }, autoNext := 4, lastQueue := 3, script := none } }; let s : State := s.put PIN_TAP_HALT 0; s))
     (0) State.reset, by decide +kernel⟩,
   ⟨(0 : Fin 4), (.m0 : Master),
     (fun (q : Fin 4) (s : State) => (let s : State := served s; let s : State := { s with host := { s.host with queues := (List.replicate 4 Queue.empty).set q.val { Queue.empty with items := [[0x05010007, 1], [0x05010008, 1]], part := if s.regs.length % 3 = 0 then [] else [0x01030007], need := 4, busy := [none, some [2, 0x05010009, 1]][s.regs.length % 2]?.getD none }, autoNext := 4, lastQueue := 3, script := none } }; let s : State := s.put PIN_TAP_HALT 0; s))
     (0) State.reset, by decide +kernel⟩,
   ⟨(0 : Fin 4), (.m0 : Master), ([50593799, 1, 2, 3, 4] : List Nat),
     (fun (q : Fin 4) (i : List Nat) (s : State) => (let s : State := served s; let s : State := { s with host := { s.host with queues := (List.replicate 4 Queue.empty).set q.val { Queue.empty with items := [[0x05010007, 1], [0x05010008, 1]], last := 99, busy := some (0 :: i) }, autoNext := 4, lastQueue := 3, script := none } }; let s : State := s.put PIN_TAP_HALT 0; s))
     (0) ([50593799, 1, 2, 3, 4]) State.reset, by decide +kernel⟩,
   ⟨(0 : Fin 4),
     (fun (q : Fin 4) (s : State) => (let s : State := served s; let s : State := { s with host := { s.host with queues := (List.replicate 4 Queue.empty).set q.val { Queue.empty with flushing := true, removed := 3 }, autoNext := 4, lastQueue := 3, script := none } }; let s : State := s.put PIN_TAP_HALT 0; s))
     (0) State.reset, by decide +kernel⟩,
   ⟨(0 : Fin 4), State.reset, by decide +kernel⟩,
   ⟨(0 : Fin 4), (.m0 : Master),
     (fun (q : Fin 4) (s : State) => (let s : State := served s; let s : State := { s with host := { s.host with queues := (List.replicate 4 Queue.empty).set q.val { Queue.empty with compl := [⟨7, 0, false, true, 0⟩, ⟨8, 1, false, true, 0⟩].drop (s.regs.length % 3), busy := if s.regs.length % 2 = 0 then none else some [2, 0x04010000, 5] }, autoNext := 4, lastQueue := 3, script := none } }; let s : State := s.put PIN_TAP_HALT 0; s))
     (0) State.reset, by decide +kernel⟩,
   ⟨(.m2 : Master), (0x7#32 : Word),
     (fun (s : State) => (let q : Fin 4 := 0; let s : State := (let s : State := served s; let s : State := { s with host := { s.host with queues := (List.replicate 4 Queue.empty).set q.val Queue.empty, autoNext := 4, lastQueue := 3, script := none } }; let s : State := s.put PIN_TAP_HALT 0; s); { s with gran := withScript s.gran 1 }))
     State.reset, by decide +kernel⟩,
   ⟨(.m2 : Master), (0x7#32 : Word),
     ({ entry := 0, params := (List.replicate 8 0), items := [[83951623, 9], [67174408, 50]], index := 0, stop := false } : Script),
     (fun (s : State) => (let q : Fin 4 := 0; let s : State := (let s : State := served s; let s : State := { s with host := { s.host with queues := (List.replicate 4 Queue.empty).set q.val { Queue.empty with busy := some [2, 0x04010000, 5] }, autoNext := 4, lastQueue := 3, script := none } }; let s : State := s.put PIN_TAP_HALT 0; s); { s with gran := withScript s.gran 0 }))
     State.reset, by decide +kernel⟩,
   ⟨(.m2 : Master), (0xffffffff#32 : Word),
     (fun (s : State) => (let q : Fin 4 := 0; (let s : State := served s; let s : State := { s with host := { s.host with queues := (List.replicate 4 Queue.empty).set q.val Queue.empty, autoNext := 4, lastQueue := 3, script := if s.regs.length % 2 = 0 then none else some ⟨3, [1, 2], [[0x05010007, 1]], 1, false⟩ } }; let s : State := s.put PIN_TAP_HALT 0; s)))
     State.reset, by decide +kernel⟩,
   ⟨(.m2 : Master),
     (fun (s : State) => (let q : Fin 4 := 0; (let s : State := served s; let s : State := { s with host := { s.host with queues := (List.replicate 4 Queue.empty).set q.val Queue.empty, autoNext := 4, lastQueue := 3, script := none } }; let s : State := s.put PIN_TAP_HALT 0; let s : State := { s with parity := [(0x00B, 0x04C), (0x00B, 0x050)] }; s)))
     State.reset, by decide +kernel⟩,
   ⟨(.m2 : Master),
     ({ entry := 3, params := [1, 2], items := [[83951623, 1], [83951624, 2]], index := 1, stop := false } : Script),
     (fun (r : Script) (s : State) => (let q : Fin 4 := 0; (let s : State := served s; let s : State := { s with host := { s.host with queues := (List.replicate 4 Queue.empty).set q.val Queue.empty, autoNext := 4, lastQueue := 3, script := some r } }; let s : State := s.put PIN_TAP_HALT 0; s)))
     ({ entry := 3, params := [1, 2], items := [[83951623, 1], [83951624, 2]], index := 1, stop := false }) State.reset,
     by decide +kernel⟩,
   ⟨(.m2 : Master),
     ({ entry := 3, params := [1, 2], items := [[83951623, 1], [83951624, 2]], index := 1, stop := false } : Script),
     ([67174407, 1] : List Nat),
     (fun (r : Script) (i : List Nat) (s : State) => (let q : Fin 4 := 0; (let s : State := served s; let s : State := { s with host := { s.host with queues := (List.replicate 4 Queue.empty).set q.val { Queue.empty with busy := some (1 :: i) }, autoNext := 4, lastQueue := 3, script := some r } }; let s : State := s.put PIN_TAP_HALT 0; s)))
     ({ entry := 3, params := [1, 2], items := [[83951623, 1], [83951624, 2]], index := 1, stop := false }) ([67174407, 1])
     State.reset, by decide +kernel⟩,
   ⟨(.m2 : Master),
     ({ entry := 3, params := [1, 2], items := [[83951623, 1], [83951624, 2]], index := 1, stop := false } : Script),
     ([83951623, 1] : List Nat),
     (fun (r : Script) (i : List Nat) (s : State) => (let q : Fin 4 := 0; (let s : State := served s; let s : State := { s with host := { s.host with queues := (List.replicate 4 Queue.empty).set q.val { Queue.empty with busy := some (2 :: i) }, autoNext := 4, lastQueue := 3, script := some r } }; let s : State := s.put PIN_TAP_HALT 0; s)))
     ({ entry := 3, params := [1, 2], items := [[83951623, 1], [83951624, 2]], index := 1, stop := false }) ([83951623, 1])
     State.reset, by decide +kernel⟩⟩

theorem test_hyps_AccessItems :
    (∃ (q : Nat) (i : List Nat) (s : State),
      s.itemPick = some (q, false, i) ∧
      itemOp i = 0x01 ∧
      q < 4 ∧
      s.host.queues.length = 4 ∧
      i.length = 3 ∧
      itemArg i 0 = regAddr 0x002 0x048 ∧
      (s.itemBegin q false i).accepts q 0x002 0x048 (itemArg i 1) = true) ∧
    (∃ (q : Nat) (i : List Nat) (s : State),
      s.itemPick = some (q, false, i) ∧
      itemOp i = 0x01 ∧
      q < 4 ∧
      s.host.queues.length = 4 ∧
      i.length = 4 ∧
      itemArg i 0 = regAddr 0x00B 0x060 ∧
      itemArg i 1 < 2 ^ 32 ∧
      itemArg i 2 < 2 ^ 32 ∧
      (s.itemBegin q false i).accepts q 0x00B 0x060 (itemArg i 1) = true ∧
      ((s.itemBegin q false i).itemWrite q (regAddr 0x00B 0x060) (itemArg i 1)).1.accepts q 0x00B 0x064 (itemArg i 2) = true) ∧
    (∃ (q : Nat) (i : List Nat) (c : Nat) (k : Nat) (s : State),
      s.itemPick = some (q, false, i) ∧
      itemOp i = 0x01 ∧
      q < 4 ∧
      s.host.queues.length = 4 ∧
      ((s.itemBegin q false i).writeRun q (itemArg i 0) 0 (i.drop 2)).2 = (c, k) ∧
      (((s.itemBegin q false i).writeRun q (itemArg i 0) 0 (i.drop 2)).1.queue q).compl = (s.queue q).compl ∧
      (((s.itemBegin q false i).writeRun q (itemArg i 0) 0 (i.drop 2)).1.queue q).busy.isSome = true) ∧
    (∃ (q : Nat) (i : List Nat) (w : Nat) (s : State),
      s.itemPick = some (q, false, i) ∧
      itemOp i = 0x02 ∧
      q < 4 ∧
      s.host.queues.length = 4 ∧
      itemArg i 0 = regAddr 0x002 0x048 ∧
      itemArg i 1 < 2 ^ 32 ∧
      itemArg i 2 < 2 ^ 32 ∧
      ((s.itemBegin q false i).itemRead q (itemArg i 0)).2 = (w, cOK) ∧
      ((s.itemBegin q false i).itemRead q (itemArg i 0)).1.accepts q 0x002 0x048 ((w &&& (0xFFFFFFFF - itemArg i 1)) ||| (itemArg
        i 2 &&& itemArg i 1)) = true) ∧
    (∃ (q : Nat) (i : List Nat) (w : Nat) (c : Nat) (s : State),
      s.itemPick = some (q, false, i) ∧
      itemOp i = 0x02 ∧
      q < 4 ∧
      s.host.queues.length = 4 ∧
      ((s.itemBegin q false i).itemRead q (itemArg i 0)).2 = (w, c) ∧
      c ≠ cOK ∧
      (((s.itemBegin q false i).itemRead q (itemArg i 0)).1.queue q).compl = (s.queue q).compl ∧
      (((s.itemBegin q false i).itemRead q (itemArg i 0)).1.queue q).busy.isSome = true) ∧
    (∃ (q : Nat) (i : List Nat) (w : Nat) (c : Nat) (s : State),
      s.itemPick = some (q, false, i) ∧
      itemOp i = 0x02 ∧
      q < 4 ∧
      s.host.queues.length = 4 ∧
      ((s.itemBegin q false i).itemRead q (itemArg i 0)).2 = (w, cOK) ∧
      (((s.itemBegin q false i).itemRead q (itemArg i 0)).1.itemWrite q (itemArg i 0) ((w &&& (0xFFFFFFFF - itemArg i 1)) |||
        (itemArg i 2 &&& itemArg i 1))).2 = c ∧
      ((((s.itemBegin q false i).itemRead q (itemArg i 0)).1.itemWrite q (itemArg i 0) ((w &&& (0xFFFFFFFF - itemArg i 1)) |||
        (itemArg i 2 &&& itemArg i 1))).1.queue q).compl = (s.queue q).compl ∧
      ((((s.itemBegin q false i).itemRead q (itemArg i 0)).1.itemWrite q (itemArg i 0) ((w &&& (0xFFFFFFFF - itemArg i 1)) |||
        (itemArg i 2 &&& itemArg i 1))).1.queue q).busy.isSome = true) ∧
    (∃ (q : Nat) (i : List Nat) (w : Nat) (s : State),
      s.itemPick = some (q, false, i) ∧
      itemOp i = 0x03 ∧
      q < 4 ∧
      s.host.queues.length = 4 ∧
      ((s.itemBegin q false i).itemRead q (itemArg i 0)).2 = (w, cOK) ∧
      w &&& itemArg i 1 = itemArg i 2) ∧
    (∃ (q : Nat) (i : List Nat) (w : Nat) (c : Nat) (s : State),
      s.itemPick = some (q, false, i) ∧
      itemOp i = 0x03 ∧
      q < 4 ∧
      s.host.queues.length = 4 ∧
      ((s.itemBegin q false i).itemRead q (itemArg i 0)).2 = (w, c) ∧
      c ≠ cOK) ∧
    (∃ (q : Nat) (i : List Nat) (w : Nat) (s : State),
      s.itemPick = some (q, false, i) ∧
      itemOp i = 0x03 ∧
      q < 4 ∧
      s.host.queues.length = 4 ∧
      ((s.itemBegin q false i).itemRead q (itemArg i 0)).2 = (w, cOK) ∧
      w &&& itemArg i 1 ≠ itemArg i 2 ∧
      itemArg i 3 % 2 ^ 24 = 0) ∧
    (∃ (q : Nat) (i : List Nat) (w : Nat) (s : State),
      s.itemPick = some (q, false, i) ∧
      itemOp i = 0x03 ∧
      q < 4 ∧
      s.host.queues.length = 4 ∧
      ((s.itemBegin q false i).itemRead q (itemArg i 0)).2 = (w, cOK) ∧
      w &&& itemArg i 1 ≠ itemArg i 2 ∧
      itemArg i 3 % 2 ^ 24 ≠ 0) ∧
    (∃ (q : Nat) (i : List Nat) (x : Instr) (s : State),
      s.itemPick = some (q, false, i) ∧
      itemOp i = itemOp i ∧
      q < 4 ∧
      s.host.queues.length = 4 ∧
      s.reachable = true ∧
      s.safe = false ∧
      s.nvmBusy = false ∧
      s.sources q = true ∧
      itemArg i 0 = regAddr 0x071 0x010 ∧
      s.present 0x071 = false ∧
      i.length = 1 + itemLen i ∧
      ((x = .itemWrite ∧ itemOp i = 0x01 ∧ 3 ≤ i.length) ∨ (x = .itemModify ∧ itemOp i = 0x02) ∨ (x = .itemPoll ∧ itemOp i =
        0x03))) ∧
    (∃ (q : Nat) (i : List Nat) (w : Nat) (c : Nat) (s : State),
      (s.queue q).busy = some (0 :: i) ∧
      s.on PIN_TAP_HALT = false ∧
      itemOp i = 0x03 ∧
      q < 4 ∧
      s.host.queues.length = 4 ∧
      (s.itemRead q (itemArg i 0)).2 = (w, c)) ∧
    (∃ (i : List Nat) (r : Script) (w : Nat) (c : Nat) (s : State),
      (s.queue 0).busy = some (1 :: i) ∧
      s.on PIN_TAP_HALT = false ∧
      itemOp i = 0x03 ∧
      itemLen i = 4 ∧
      s.host.queues.length = 4 ∧
      s.host.script = some r ∧
      4 ≤ s.host.autoNext ∧
      (s.itemRead 0 (itemArg i 0)).2 = (w, c) ∧
      (c ≠ cOK ∨ w &&& itemArg i 1 ≠ itemArg i 2) ∧
      c ≠ cEMPTY) ∧
    (∃ (q : Fin 4) (s : State),
      (s.itemHeld q.val = none ∨ (s.itemHeld q.val).map (fun e => itemOp e.2) ≠ some 0x03)) ∧
    (∃ (i : List Nat) (r : Script) (w : Nat) (s : State),
      s.itemPick = some (0, true, i) ∧
      itemOp i = 0x03 ∧
      s.host.queues.length = 4 ∧
      s.host.script = some r ∧
      r.items.head? = some i ∧
      r.stop = false ∧
      1 < r.items.length ∧
      ((s.itemBegin 0 true i).itemRead 0 (itemArg i 0)).2 = (w, cOK) ∧
      w &&& itemArg i 1 = itemArg i 2 ∧
      trivialCode 0 ((r.items.drop 1).headD []) = none) ∧
    (∃ (i : List Nat) (r : Script) (c : Nat) (k : Nat) (s : State),
      s.itemPick = some (0, true, i) ∧
      itemOp i = 0x01 ∧
      s.host.queues.length = 4 ∧
      s.host.script = some r ∧
      r.items.head? = some i ∧
      4 ≤ s.host.autoNext ∧
      ((s.itemBegin 0 true i).writeRun 0 (itemArg i 0) 0 (i.drop 2)).2 = (c, k) ∧
      c ≠ cOK ∧
      c ≠ cEMPTY ∧
      (((s.itemBegin 0 true i).writeRun 0 (itemArg i 0) 0 (i.drop 2)).1.queue 0).busy.isSome = true ∧
      ((s.itemBegin 0 true i).writeRun 0 (itemArg i 0) 0 (i.drop 2)).1.host.script = some r) ∧
    (∃ (i : Instr) (op : Nat) (s : State),
      (i, op) ∈ [(Instr.itemWrite, 0x01), (.itemModify, 0x02), (.itemPoll, 0x03), (.itemWait, 0x04), (.itemMark, 0x05),
        (.itemMode, 0x10), (.itemSol, 0x11), (.itemClose, 0x12), (.itemWriteP, 0x20), (.itemWaitP, 0x21)] ∧
      (∀ e ∈ s.itemPick.toList, itemOp e.2.2 ≠ op)) ∧
    (∃ (q : Nat) (i : List Nat) (x : Instr) (s : State),
      s.itemPick = some (q, false, i) ∧
      itemOp i = itemOp i ∧
      q < 4 ∧
      s.host.queues.length = 4 ∧
      s.servesNow (itemArg i 0) = true ∧
      s.closingAt (itemArg i 0) = true ∧
      ((x = .itemModify ∧ itemOp i = 0x02) ∨ (x = .itemPoll ∧ itemOp i = 0x03))) :=
  ⟨⟨(0 : Nat), ([16968933, 1073750088, 262] : List Nat),
    (fun (q : Nat) (i : List Nat) (s : State) => (let s : State := served s; let s : State := { s with host := { s.host with queues := (List.replicate 4 Queue.empty).set q { Queue.empty with items := [i] }, autoNext := 4, lastQueue := 3, script := none } }; let s : State := s.put PIN_TAP_HALT 0; s))
    (0) ([16968933, 1073750088, 262]) State.reset, by decide +kernel⟩,
   ⟨(0 : Nat), ([17034469, 1073786976, 5, 1074242944] : List Nat),
     (fun (q : Nat) (i : List Nat) (s : State) => (let s : State := served s; let s : State := { s with host := { s.host with queues := (List.replicate 4 Queue.empty).set q { Queue.empty with items := [i] }, autoNext := 4, lastQueue := 3, script := none } }; let s : State := s.put PIN_TAP_HALT 0; s))
     (0) ([17034469, 1073786976, 5, 1074242944]) State.reset, by decide +kernel⟩,
   ⟨(0 : Nat), ([17034469, 1073750088, 485, 78] : List Nat), (0 : Nat), (2 : Nat),
     (fun (q : Nat) (i : List Nat) (s : State) => (let s : State := served s; let s : State := { s with host := { s.host with queues := (List.replicate 4 Queue.empty).set q { Queue.empty with items := [i] }, autoNext := 4, lastQueue := 3, script := none } }; let s : State := s.put PIN_TAP_HALT 0; s))
     (0) ([17034469, 1073750088, 485, 78]) State.reset, by decide +kernel⟩,
   ⟨(0 : Nat), ([33811685, 1073750088, 262, 485] : List Nat), (0 : Nat),
     (fun (q : Nat) (i : List Nat) (s : State) => (let s : State := served s; let s : State := { s with host := { s.host with queues := (List.replicate 4 Queue.empty).set q { Queue.empty with items := [i] }, autoNext := 4, lastQueue := 3, script := none } }; let s : State := s.put PIN_TAP_HALT 0; s))
     (0) ([33811685, 1073750088, 262, 485]) State.reset, by decide +kernel⟩,
   ⟨(0 : Nat), ([33811685, 77, 485, 78] : List Nat), (4294967295 : Nat), (15 : Nat),
     (fun (q : Nat) (i : List Nat) (s : State) => (let s : State := served s; let s : State := { s with host := { s.host with queues := (List.replicate 4 Queue.empty).set q { Queue.empty with items := [i] }, autoNext := 4, lastQueue := 3, script := none } }; let s : State := s.put PIN_TAP_HALT 0; s))
     (0) ([33811685, 77, 485, 78]) State.reset, by decide +kernel⟩,
   ⟨(0 : Nat), ([33811685, 1073750088, 262, 78] : List Nat), (0 : Nat), (0 : Nat),
     (fun (q : Nat) (i : List Nat) (s : State) => (let s : State := served s; let s : State := { s with host := { s.host with queues := (List.replicate 4 Queue.empty).set q { Queue.empty with items := [i] }, autoNext := 4, lastQueue := 3, script := none } }; let s : State := s.put PIN_TAP_HALT 0; s))
     (0) ([33811685, 1073750088, 262, 78]) State.reset, by decide +kernel⟩,
   ⟨(0 : Nat), ([50654437, 1073750088, 0, 0, 9] : List Nat), (0 : Nat),
     (fun (q : Nat) (i : List Nat) (s : State) => (let s : State := served s; let s : State := { s with host := { s.host with queues := (List.replicate 4 Queue.empty).set q { Queue.empty with items := [i] }, autoNext := 4, lastQueue := 3, script := none } }; let s : State := s.put PIN_TAP_HALT 0; s))
     (0) ([50654437, 1073750088, 0, 0, 9]) State.reset, by decide +kernel⟩,
   ⟨(0 : Nat), ([50654437, 77, 0, 0, 9] : List Nat), (4294967295 : Nat), (15 : Nat),
     (fun (q : Nat) (i : List Nat) (s : State) => (let s : State := served s; let s : State := { s with host := { s.host with queues := (List.replicate 4 Queue.empty).set q { Queue.empty with items := [i] }, autoNext := 4, lastQueue := 3, script := none } }; let s : State := s.put PIN_TAP_HALT 0; s))
     (0) ([50654437, 77, 0, 0, 9]) State.reset, by decide +kernel⟩,
   ⟨(0 : Nat), ([50654437, 1073750088, 0, 1, 0] : List Nat), (0 : Nat),
     (fun (q : Nat) (i : List Nat) (s : State) => (let s : State := served s; let s : State := { s with host := { s.host with queues := (List.replicate 4 Queue.empty).set q { Queue.empty with items := [i] }, autoNext := 4, lastQueue := 3, script := none } }; let s : State := s.put PIN_TAP_HALT 0; s))
     (0) ([50654437, 1073750088, 0, 1, 0]) State.reset, by decide +kernel⟩,
   ⟨(0 : Nat), ([50654437, 1073750088, 0, 1, 9] : List Nat), (0 : Nat),
     (fun (q : Nat) (i : List Nat) (s : State) => (let s : State := served s; let s : State := { s with host := { s.host with queues := (List.replicate 4 Queue.empty).set q { Queue.empty with items := [i] }, autoNext := 4, lastQueue := 3, script := none } }; let s : State := s.put PIN_TAP_HALT 0; s))
     (0) ([50654437, 1073750088, 0, 1, 9]) State.reset, by decide +kernel⟩,
   ⟨(0 : Nat), ([16968933, 1074204688, 0] : List Nat), (Sys2Proof.Instr.itemWrite : Instr),
     (fun (q : Nat) (i : List Nat) (s : State) => (let s : State := served s; let s : State := { s with host := { s.host with queues := (List.replicate 4 Queue.empty).set q { Queue.empty with items := [i] }, autoNext := 4, lastQueue := 3, script := none } }; let s : State := s.put PIN_TAP_HALT 0; let s : State := s.put SYS_ROLE HEAD; s))
     (0) ([16968933, 1074204688, 0]) State.reset, by decide +kernel⟩,
   ⟨(0 : Nat), ([50654437, 1074204688, 0, 1, 9] : List Nat), (0 : Nat), (16 : Nat),
     (fun (q : Nat) (i : List Nat) (s : State) => (let s : State := served s; let s : State := { s with host := { s.host with queues := (List.replicate 4 Queue.empty).set q { Queue.empty with items := [i] }, autoNext := 4, lastQueue := 3, script := none } }; let s : State := s.put PIN_TAP_HALT 0; let s : State := s.setQueue q { Queue.empty with busy := some (0 :: i) }; s))
     (0) ([50654437, 1074204688, 0, 1, 9]) State.reset, by decide +kernel⟩,
   ⟨([50593797, 6, 0, 1, 9] : List Nat),
     ({ entry := 3, params := [0, 0], items := [[50593797, 6, 0, 1, 9]], index := 1, stop := false } : Script),
     (4294967295 : Nat), (15 : Nat),
     (fun (i : List Nat) (r : Script) (s : State) => (let q : Nat := 0; (let s : State := served s; let s : State := { s with host := { s.host with queues := (List.replicate 4 Queue.empty).set q { Queue.empty with items := [i] }, autoNext := 4, lastQueue := 3, script := some r } }; let s : State := s.put PIN_TAP_HALT 0; let s : State := s.setQueue 0 Queue.empty; let s : State := s.setQueue 0 { Queue.empty with busy := some (1 :: i) }; s)))
     ([50593797, 6, 0, 1, 9]) ({ entry := 3, params := [0, 0], items := [[50593797, 6, 0, 1, 9]], index := 1, stop := false })
     State.reset, by decide +kernel⟩,
   ⟨(0 : Fin 4), State.reset, by decide +kernel⟩,
   ⟨([50593797, 1073750088, 0, 0, 9] : List Nat),
     ({ entry := 3, params := [0, 0], items := [[50593797, 1073750088, 0, 0, 9], [83951623, 1]], index := 1, stop := false } : Script),
     (0 : Nat),
     (fun (i : List Nat) (r : Script) (s : State) => (let q : Nat := 0; (let s : State := served s; let s : State := { s with host := { s.host with queues := (List.replicate 4 Queue.empty).set q { Queue.empty with items := [i] }, autoNext := 4, lastQueue := 3, script := some r } }; let s : State := s.put PIN_TAP_HALT 0; let s : State := s.setQueue 0 Queue.empty; s)))
     ([50593797, 1073750088, 0, 0, 9])
     ({ entry := 3, params := [0, 0], items := [[50593797, 1073750088, 0, 0, 9], [83951623, 1]], index := 1, stop := false })
     State.reset, by decide +kernel⟩,
   ⟨([16908293, 6, 5] : List Nat),
     ({ entry := 3, params := [0, 0], items := [[16908293, 6, 5]], index := 1, stop := false } : Script), (15 : Nat), (0 : Nat),
     (fun (i : List Nat) (r : Script) (s : State) => (let q : Nat := 0; (let s : State := served s; let s : State := { s with host := { s.host with queues := (List.replicate 4 Queue.empty).set q { Queue.empty with items := [i] }, autoNext := 4, lastQueue := 3, script := some r } }; let s : State := s.put PIN_TAP_HALT 0; let s : State := s.setQueue 0 Queue.empty; s)))
     ([16908293, 6, 5]) ({ entry := 3, params := [0, 0], items := [[16908293, 6, 5]], index := 1, stop := false }) State.reset,
     by decide +kernel⟩,
   ⟨(Sys2Proof.Instr.itemMark : Instr), (5 : Nat), State.reset, by decide +kernel⟩,
   ⟨(0 : Nat), ([33877221, 1073807428, 262, 485, 3] : List Nat), (Sys2Proof.Instr.itemModify : Instr),
     (fun (q : Nat) (i : List Nat) (s : State) => (let s : State := served s; let s : State := { s with host := { s.host with queues := (List.replicate 4 Queue.empty).set q { Queue.empty with items := [i] }, autoNext := 4, lastQueue := 3, script := none } }; let s : State := s.put PIN_TAP_HALT 0; let s : State := s.setPd 1 3; s))
     (0) ([33877221, 1073807428, 262, 485, 3]) State.reset, by decide +kernel⟩⟩

theorem test_hyps_OtherItems :
    (∃ (q : Nat) (i : List Nat) (s : State),
      s.itemPick = some (q, false, i) ∧
      itemOp i = 0x04 ∧
      q < 4 ∧
      s.host.queues.length = 4 ∧
      itemArg i 0 % 2 ^ 24 = 0) ∧
    (∃ (q : Nat) (i : List Nat) (s : State),
      s.itemPick = some (q, false, i) ∧
      itemOp i = 0x04 ∧
      q < 4 ∧
      s.host.queues.length = 4 ∧
      itemArg i 0 % 2 ^ 24 ≠ 0) ∧
    (∃ (q : Nat) (i : List Nat) (s : State),
      (s.queue q).busy = some (0 :: i) ∧
      s.on PIN_TAP_HALT = false ∧
      itemOp i = 0x04 ∧
      q < 4 ∧
      s.host.queues.length = 4) ∧
    (∃ (i : List Nat) (r : Script) (s : State),
      (s.queue 0).busy = some (1 :: i) ∧
      s.on PIN_TAP_HALT = false ∧
      (itemOp i = 0x04 ∨ itemOp i = 0x21) ∧
      s.host.queues.length = 4 ∧
      s.host.script = some r ∧
      r.stop = false ∧
      1 < r.items.length ∧
      trivialCode 0 ((r.items.drop 1).headD []) = none) ∧
    (∃ (q : Fin 4) (s : State),
      (s.itemHeld q.val = none ∨ (s.itemHeld q.val).map (fun e => decide (itemOp e.2 = 0x04 ∨ itemOp e.2 = 0x21)) = some false)) ∧
    (∃ (q : Nat) (i : List Nat) (s : State),
      s.itemPick = some (q, false, i) ∧
      itemOp i = 0x05 ∧
      q < 4 ∧
      s.host.queues.length = 4) ∧
    (∃ (i : List Nat) (r : Script) (s : State),
      s.itemPick = some (0, true, i) ∧
      itemOp i = 0x05 ∧
      s.host.queues.length = 4 ∧
      s.host.script = some r ∧
      r.items.head? = some i ∧
      r.stop = false ∧
      1 < r.items.length ∧
      trivialCode 0 ((r.items.drop 1).headD []) = none) ∧
    (∃ (i : List Nat) (r : Script) (s : State),
      s.itemPick = some (0, true, i) ∧
      itemOp i = 0x05 ∧
      s.host.queues.length = 4 ∧
      s.host.script = some r ∧
      r.items.head? = some i ∧
      (r.stop = true ∨ r.items.length = 1) ∧
      4 ≤ s.host.autoNext) ∧
    (∃ (q : Nat) (i : List Nat) (s : State),
      s.itemPick = some (q, false, i) ∧
      itemOp i = 0x10 ∧
      q < 4 ∧
      s.host.queues.length = 4 ∧
      (s.itemBegin q false i).accepts q 0x001 0x040 (itemArg i 0 % 4) = true ∧
      itemArg i 0 % 4 ≠ s.mode ∧
      itemArg i 0 % 4 ≠ DORMANT ∧
      s.boot.booting = false) ∧
    (∃ (q : Nat) (i : List Nat) (c : Nat) (s : State),
      s.itemPick = some (q, false, i) ∧
      itemOp i = 0x10 ∧
      q < 4 ∧
      s.host.queues.length = 4 ∧
      ((s.itemBegin q false i).itemWrite q (regAddr 0x001 0x040) (itemArg i 0 % 4)).2 = c ∧
      (((s.itemBegin q false i).itemWrite q (regAddr 0x001 0x040) (itemArg i 0 % 4)).1.queue q).compl = (s.queue q).compl ∧
      (((s.itemBegin q false i).itemWrite q (regAddr 0x001 0x040) (itemArg i 0 % 4)).1.queue q).busy.isSome = true) ∧
    (∃ (q : Nat) (i : List Nat) (n : Nat) (s : State),
      s.itemPick = some (q, false, i) ∧
      itemOp i = 0x11 ∧
      q < 4 ∧
      s.host.queues.length = 4 ∧
      n = itemArg i 0 % 4 ∧
      bitsOf (itemArg i 0) 8 2 = 2 ∧
      (s.itemBegin q false i).accepts q (solPage n) 0x078 2 = true ∧
      s.sol.length = 4) ∧
    (∃ (q : Nat) (i : List Nat) (c : Nat) (s : State),
      s.itemPick = some (q, false, i) ∧
      itemOp i = 0x11 ∧
      q < 4 ∧
      s.host.queues.length = 4 ∧
      ((s.itemBegin q false i).itemWrite q (regAddr (solPage (itemArg i 0 % 4)) 0x078) (bitsOf (itemArg i 0) 8 2)).2 = c ∧
      (((s.itemBegin q false i).itemWrite q (regAddr (solPage (itemArg i 0 % 4)) 0x078) (bitsOf (itemArg i 0) 8 2)).1.queue
        q).compl = (s.queue q).compl ∧
      (((s.itemBegin q false i).itemWrite q (regAddr (solPage (itemArg i 0 % 4)) 0x078) (bitsOf (itemArg i 0) 8 2)).1.queue
        q).busy.isSome = true) ∧
    (∃ (q : Nat) (i : List Nat) (s : State),
      s.itemPick = some (q, false, i) ∧
      itemOp i = 0x12 ∧
      q < 4 ∧
      s.host.queues.length = 4 ∧
      (s.itemBegin q false i).accepts q 0x052 0x064 (1 + 2 * (itemArg i 0 % 2)) = true ∧
      s.nuc.form = 0) ∧
    (∃ (q : Nat) (i : List Nat) (c : Nat) (s : State),
      s.itemPick = some (q, false, i) ∧
      itemOp i = 0x12 ∧
      q < 4 ∧
      s.host.queues.length = 4 ∧
      ((s.itemBegin q false i).itemWrite q (regAddr 0x052 0x064) (1 + 2 * (itemArg i 0 % 2))).2 = c ∧
      (((s.itemBegin q false i).itemWrite q (regAddr 0x052 0x064) (1 + 2 * (itemArg i 0 % 2))).1.queue q).compl = (s.queue
        q).compl ∧
      (((s.itemBegin q false i).itemWrite q (regAddr 0x052 0x064) (1 + 2 * (itemArg i 0 % 2))).1.queue q).busy.isSome = true) ∧
    (∃ (i : List Nat) (r : Script) (s : State),
      s.itemPick = some (0, true, i) ∧
      itemOp i = 0x21 ∧
      s.host.queues.length = 4 ∧
      s.host.script = some r ∧
      r.items.head? = some i ∧
      r.params.getD (itemArg i 0 % 8) 0 % 2 ^ 24 = 0 ∧
      r.stop = false ∧
      4 ≤ s.host.autoNext ∧
      r.items.length = 1) ∧
    (∃ (i : List Nat) (r : Script) (s : State),
      s.itemPick = some (0, true, i) ∧
      itemOp i = 0x21 ∧
      s.host.queues.length = 4 ∧
      s.host.script = some r ∧
      r.items.head? = some i ∧
      r.params.getD (itemArg i 0 % 8) 0 % 2 ^ 24 ≠ 0) ∧
    (∃ (i : List Nat) (r : Script) (s : State),
      s.itemPick = some (0, true, i) ∧
      itemOp i = 0x20 ∧
      s.host.queues.length = 4 ∧
      s.host.script = some r ∧
      r.items.head? = some i ∧
      itemArg i 0 = regAddr 0x002 0x048 ∧
      (s.itemBegin 0 true i).accepts 0 0x002 0x048 (r.params.getD (itemArg i 1 % 8) 0) = true ∧
      r.stop = false ∧
      4 ≤ s.host.autoNext ∧
      r.items.length = 1) ∧
    (∃ (i : List Nat) (r : Script) (c : Nat) (s : State),
      s.itemPick = some (0, true, i) ∧
      itemOp i = 0x20 ∧
      s.host.queues.length = 4 ∧
      s.host.script = some r ∧
      r.items.head? = some i ∧
      4 ≤ s.host.autoNext ∧
      ((s.itemBegin 0 true i).itemWrite 0 (itemArg i 0) (r.params.getD (itemArg i 1 % 8) 0)).2 = c ∧
      c ≠ cOK ∧
      c ≠ cEMPTY ∧
      (((s.itemBegin 0 true i).itemWrite 0 (itemArg i 0) (r.params.getD (itemArg i 1 % 8) 0)).1.queue 0).busy.isSome = true ∧
      ((s.itemBegin 0 true i).itemWrite 0 (itemArg i 0) (r.params.getD (itemArg i 1 % 8) 0)).1.host.script = some r) :=
  ⟨⟨(0 : Nat), ([67235045, 0] : List Nat),
    (fun (q : Nat) (i : List Nat) (s : State) => (let s : State := served s; let s : State := { s with host := { s.host with queues := (List.replicate 4 Queue.empty).set q { Queue.empty with items := [i] }, autoNext := 4, lastQueue := 3, script := none } }; let s : State := s.put PIN_TAP_HALT 0; s))
    (0) ([67235045, 0]) State.reset, by decide +kernel⟩,
   ⟨(0 : Nat), ([67235045, 6443] : List Nat),
     (fun (q : Nat) (i : List Nat) (s : State) => (let s : State := served s; let s : State := { s with host := { s.host with queues := (List.replicate 4 Queue.empty).set q { Queue.empty with items := [i] }, autoNext := 4, lastQueue := 3, script := none } }; let s : State := s.put PIN_TAP_HALT 0; s))
     (0) ([67235045, 6443]) State.reset, by decide +kernel⟩,
   ⟨(0 : Nat), ([67235045, 7] : List Nat),
     (fun (q : Nat) (i : List Nat) (s : State) => (let s : State := served s; let s : State := { s with host := { s.host with queues := (List.replicate 4 Queue.empty).set q { Queue.empty with items := [i] }, autoNext := 4, lastQueue := 3, script := none } }; let s : State := s.put PIN_TAP_HALT 0; let s : State := s.setQueue q { Queue.empty with busy := some (0 :: i) }; s))
     (0) ([67235045, 7]) State.reset, by decide +kernel⟩,
   ⟨([67174405, 1] : List Nat),
     ({ entry := 3, params := [60, 60], items := [[67174405, 1], [83951623, 1]], index := 1, stop := false } : Script),
     (fun (i : List Nat) (r : Script) (s : State) => (let q : Nat := 0; (let s : State := served s; let s : State := { s with host := { s.host with queues := (List.replicate 4 Queue.empty).set q { Queue.empty with items := [i] }, autoNext := 4, lastQueue := 3, script := some r } }; let s : State := s.put PIN_TAP_HALT 0; let s : State := s.setQueue 0 Queue.empty; let s : State := s.setQueue 0 { Queue.empty with busy := some (1 :: i) }; s)))
     ([67174405, 1]) ({ entry := 3, params := [60, 60], items := [[67174405, 1], [83951623, 1]], index := 1, stop := false })
     State.reset, by decide +kernel⟩,
   ⟨(0 : Fin 4), State.reset, by decide +kernel⟩,
   ⟨(0 : Nat), ([84012261, 20742] : List Nat),
     (fun (q : Nat) (i : List Nat) (s : State) => (let s : State := served s; let s : State := { s with host := { s.host with queues := (List.replicate 4 Queue.empty).set q { Queue.empty with items := [i] }, autoNext := 4, lastQueue := 3, script := none } }; let s : State := s.put PIN_TAP_HALT 0; s))
     (0) ([84012261, 20742]) State.reset, by decide +kernel⟩,
   ⟨([83951621, 9] : List Nat),
     ({ entry := 3, params := [0, 0], items := [[83951621, 9], [83951623, 1]], index := 1, stop := false } : Script),
     (fun (i : List Nat) (r : Script) (s : State) => (let q : Nat := 0; (let s : State := served s; let s : State := { s with host := { s.host with queues := (List.replicate 4 Queue.empty).set q { Queue.empty with items := [i] }, autoNext := 4, lastQueue := 3, script := some r } }; let s : State := s.put PIN_TAP_HALT 0; let s : State := s.setQueue 0 Queue.empty; s)))
     ([83951621, 9]) ({ entry := 3, params := [0, 0], items := [[83951621, 9], [83951623, 1]], index := 1, stop := false })
     State.reset, by decide +kernel⟩,
   ⟨([83951621, 9] : List Nat), ({ entry := 3, params := [1], items := [[83951621, 9]], index := 1, stop := false } : Script),
     (fun (i : List Nat) (r : Script) (s : State) => (let q : Nat := 0; (let s : State := served s; let s : State := { s with host := { s.host with queues := (List.replicate 4 Queue.empty).set q { Queue.empty with items := [i] }, autoNext := 4, lastQueue := 3, script := some r } }; let s : State := s.put PIN_TAP_HALT 0; let s : State := s.setQueue 0 Queue.empty; s)))
     ([83951621, 9]) ({ entry := 3, params := [1], items := [[83951621, 9]], index := 1, stop := false }) State.reset,
     by decide +kernel⟩,
   ⟨(1 : Nat), ([268536398, 1] : List Nat),
     (fun (q : Nat) (i : List Nat) (s : State) => (let s : State := served s; let s : State := { s with host := { s.host with queues := (List.replicate 4 Queue.empty).set q { Queue.empty with items := [i] }, autoNext := 4, lastQueue := 3, script := none } }; let s : State := s.put PIN_TAP_HALT 0; let s : State := (s.put YARD_MODE 2).put YARD_MODE_BUSY 0; let s : State := s.put SEQ_BOOT_DONE 1; s))
     (1) ([268536398, 1]) State.reset, by decide +kernel⟩,
   ⟨(0 : Nat), ([268561637, 4] : List Nat), (0 : Nat),
     (fun (q : Nat) (i : List Nat) (s : State) => (let s : State := served s; let s : State := { s with host := { s.host with queues := (List.replicate 4 Queue.empty).set q { Queue.empty with items := [i] }, autoNext := 4, lastQueue := 3, script := none } }; let s : State := s.put PIN_TAP_HALT 0; s))
     (0) ([268561637, 4]) State.reset, by decide +kernel⟩,
   ⟨(2 : Nat), ([285313597, 514] : List Nat), (2 : Nat),
     (fun (q : Nat) (i : List Nat) (n : Nat) (s : State) => (let s : State := served s; let s : State := { s with host := { s.host with queues := (List.replicate 4 Queue.empty).set q { Queue.empty with items := [i] }, autoNext := 4, lastQueue := 3, script := none } }; let s : State := s.put PIN_TAP_HALT 0; let s : State := { s with sol := (List.replicate 4 { SolS.idle with started := true, sw := 2 }) }; let s : State := ((s.put SOL_PHASE 2 n).put SHUT_CH_CLOSE 7).put SHUT_TYPE 0; s))
     (2) ([285313597, 514]) (2) (upAll 0), by decide +kernel⟩,
   ⟨(0 : Nat), ([285338853, 513] : List Nat), (7 : Nat),
     (fun (q : Nat) (i : List Nat) (s : State) => (let s : State := served s; let s : State := { s with host := { s.host with queues := (List.replicate 4 Queue.empty).set q { Queue.empty with items := [i] }, autoNext := 4, lastQueue := 3, script := none } }; let s : State := s.put PIN_TAP_HALT 0; s))
     (0) ([285338853, 513]) State.reset, by decide +kernel⟩,
   ⟨(2 : Nat), ([302090813, 0] : List Nat),
     (fun (q : Nat) (i : List Nat) (s : State) => (let s : State := served s; let s : State := { s with host := { s.host with queues := (List.replicate 4 Queue.empty).set q { Queue.empty with items := [i] }, autoNext := 4, lastQueue := 3, script := none } }; let s : State := s.put PIN_TAP_HALT 0; let s : State := { s with nuc := { s.nuc with form := 0 } }; let s : State := (s.put YARD_MODE 3).put HDR_EN 1 0x052 |>.put YARD_POLICY_WHY 0; s))
     (2) ([302090813, 0]) (upAll 0), by decide +kernel⟩,
   ⟨(0 : Nat), ([302116069, 0] : List Nat), (7 : Nat),
     (fun (q : Nat) (i : List Nat) (s : State) => (let s : State := served s; let s : State := { s with host := { s.host with queues := (List.replicate 4 Queue.empty).set q { Queue.empty with items := [i] }, autoNext := 4, lastQueue := 3, script := none } }; let s : State := s.put PIN_TAP_HALT 0; s))
     (0) ([302116069, 0]) State.reset, by decide +kernel⟩,
   ⟨([553713669, 1] : List Nat),
     ({ entry := 3, params := [0, 0], items := [[553713669, 1]], index := 1, stop := false } : Script),
     (fun (i : List Nat) (r : Script) (s : State) => (let q : Nat := 0; (let s : State := served s; let s : State := { s with host := { s.host with queues := (List.replicate 4 Queue.empty).set q { Queue.empty with items := [i] }, autoNext := 4, lastQueue := 3, script := some r } }; let s : State := s.put PIN_TAP_HALT 0; let s : State := s.setQueue 0 Queue.empty; s)))
     ([553713669, 1]) ({ entry := 3, params := [0, 0], items := [[553713669, 1]], index := 1, stop := false }) State.reset,
     by decide +kernel⟩,
   ⟨([553713669, 1] : List Nat),
     ({ entry := 3, params := [60, 60], items := [[553713669, 1]], index := 1, stop := false } : Script),
     (fun (i : List Nat) (r : Script) (s : State) => (let q : Nat := 0; (let s : State := served s; let s : State := { s with host := { s.host with queues := (List.replicate 4 Queue.empty).set q { Queue.empty with items := [i] }, autoNext := 4, lastQueue := 3, script := some r } }; let s : State := s.put PIN_TAP_HALT 0; let s : State := s.setQueue 0 Queue.empty; s)))
     ([553713669, 1]) ({ entry := 3, params := [60, 60], items := [[553713669, 1]], index := 1, stop := false }) State.reset,
     by decide +kernel⟩,
   ⟨([537001989, 1073750088, 1] : List Nat),
     ({ entry := 3, params := [33, 33], items := [[537001989, 1073750088, 1]], index := 1, stop := false } : Script),
     (fun (i : List Nat) (r : Script) (s : State) => (let q : Nat := 0; (let s : State := served s; let s : State := { s with host := { s.host with queues := (List.replicate 4 Queue.empty).set q { Queue.empty with items := [i] }, autoNext := 4, lastQueue := 3, script := some r } }; let s : State := s.put PIN_TAP_HALT 0; let s : State := s.setQueue 0 Queue.empty; s)))
     ([537001989, 1073750088, 1])
     ({ entry := 3, params := [33, 33], items := [[537001989, 1073750088, 1]], index := 1, stop := false }) State.reset,
     by decide +kernel⟩,
   ⟨([537001989, 6, 1] : List Nat),
     ({ entry := 3, params := [33, 33], items := [[537001989, 6, 1]], index := 1, stop := false } : Script), (15 : Nat),
     (fun (i : List Nat) (r : Script) (s : State) => (let q : Nat := 0; (let s : State := served s; let s : State := { s with host := { s.host with queues := (List.replicate 4 Queue.empty).set q { Queue.empty with items := [i] }, autoNext := 4, lastQueue := 3, script := some r } }; let s : State := s.put PIN_TAP_HALT 0; let s : State := s.setQueue 0 Queue.empty; s)))
     ([537001989, 6, 1]) ({ entry := 3, params := [33, 33], items := [[537001989, 6, 1]], index := 1, stop := false })
     State.reset, by decide +kernel⟩⟩

theorem test_hyps_GranaryCommands :
    (∃ (m : Master) (s : State),
      s.accepts m.num 0x080 0x040 0x01 = true ∧
      s.get GRAN_LEN ≠ 0 ∧
      s.gran.cur = none ∧
      s.gran.jobs = [] ∧
      s.wdt.dbgHalt = false) ∧
    (∃ (m : Master) (s : State),
      s.accepts m.num 0x080 0x040 0x01 = true ∧
      s.get GRAN_LEN = 0) ∧
    (∃ (m : Master) (s : State),
      s.accepts m.num 0x080 0x040 0x02 = true ∧
      s.gran.cur = none ∧
      s.gran.jobs = [] ∧
      s.wdt.dbgHalt = false) ∧
    (∃ (m : Master) (ops : List GOp) (s : State),
      s.accepts m.num 0x080 0x040 0x03 = true ∧
      (s.gran.planAppend false (s.get GRAN_TYPE) (s.on GRAN_SEQ_OPEN) (if s.on GRAN_SEQ_OPEN then s.get GRAN_GROUP else 0) (s.get
        GRAN_KEY) (s.bufBytes (s.get GRAN_LEN)) = (ops, true)) ∧
      s.gran.cur = none ∧
      s.gran.jobs = [] ∧
      s.wdt.dbgHalt = false) ∧
    (∃ (m : Master) (s : State),
      s.accepts m.num 0x080 0x040 0x03 = true ∧
      (s.gran.planAppend false (s.get GRAN_TYPE) (s.on GRAN_SEQ_OPEN) (if s.on GRAN_SEQ_OPEN then s.get GRAN_GROUP else 0) (s.get
        GRAN_KEY) (s.bufBytes (s.get GRAN_LEN)) = ([], false)) ∧
      s.coreOn = true ∧
      s.get YARD_SECONDS < 2 ^ 32 ∧
      s.gran.cur = none ∧
      s.gran.jobs = [] ∧
      s.wdt.dbgHalt = false) ∧
    (∃ (m : Master) (ops : List GOp) (s : State),
      s.accepts m.num 0x080 0x040 0x03 = true ∧
      (s.gran.planAppend false (s.get GRAN_TYPE) (s.on GRAN_SEQ_OPEN) (if s.on GRAN_SEQ_OPEN then s.get GRAN_GROUP else 0) (s.get
        GRAN_KEY) (s.bufBytes (s.get GRAN_LEN)) = (ops, false)) ∧
      ops ≠ [] ∧
      s.gran.cur = none ∧
      s.gran.jobs = [] ∧
      s.wdt.dbgHalt = false) ∧
    (∃ (m : Master) (ops : List GOp) (s : State),
      s.accepts m.num 0x080 0x040 0x05 = true ∧
      s.gran.planAppend false 0xFE false s.gran.groupNext s.gran.groupNext [] = (ops, true) ∧
      s.gran.cur = none ∧
      s.gran.jobs = [] ∧
      s.wdt.dbgHalt = false) ∧
    (∃ (m : Master) (ops : List GOp) (s : State),
      s.accepts m.num 0x080 0x040 0x06 = true ∧
      s.on GRAN_SEQ_OPEN = true ∧
      s.gran.planAppend false 0xFE false (s.get GRAN_GROUP) (s.get GRAN_GROUP) (le16 s.gran.groupCount) = (ops, true) ∧
      s.gran.cur = none ∧
      s.gran.jobs = [] ∧
      s.wdt.dbgHalt = false) ∧
    (∃ (m : Master) (s : State),
      s.accepts m.num 0x080 0x040 0x06 = true ∧
      s.on GRAN_SEQ_OPEN = false) ∧
    (∃ (m : Master) (s : State),
      s.accepts m.num 0x080 0x040 0x07 = true) ∧
    (∃ (m : Master) (s : State),
      s.accepts m.num 0x080 0x040 0x08 = true ∧
      s.gran.cur = none ∧
      s.gran.jobs = [] ∧
      s.wdt.dbgHalt = false) ∧
    (∃ (m : Master) (s : State),
      s.accepts m.num 0x080 0x040 0x08 = true ∧
      s.gran.saving = true) ∧
    (∃ (m : Master) (i : Instr) (op : Nat) (s : State),
      (i, op) ∈ [(Instr.granProgram m, 1), (.granErase m, 2), (.granAppend m, 3), (.granSeqBegin m, 5), (.granSeqEnd m, 6),
        (.granFieldSave m, 8), (.granLockPage m, 9), (.granRprotPage m, 10), (.granLockFactory m, 11)] ∧
      s.accepts m.num 0x080 0x040 op = true ∧
      s.gran.cur.isSome = true ∧
      s.get GRAN_DEFER_MAX = 0 ∧
      s.coreOn = true ∧
      s.get YARD_SECONDS < 2 ^ 32 ∧
      (op = 1 → s.get GRAN_LEN ≠ 0) ∧
      (op = 6 → s.on GRAN_SEQ_OPEN = true) ∧
      (op = 8 → s.gran.saving = false) ∧
      (9 ≤ op → s.gran.pageLocked = 0 ∧ s.gran.pageRprot = 0 ∧ s.gran.factoryLocked = false)) ∧
    (∃ (m : Master) (j : Job) (s : State),
      s.accepts m.num 0x080 0x040 0x02 = true ∧
      s.gran.cur = some j ∧
      s.get GRAN_DEFER_MAX ≠ 0) ∧
    (∃ (m : Master) (i : Instr) (op : Nat) (r : Refuse) (s : State),
      (i, op) ∈ [(Instr.granProgram m, 1), (.granErase m, 2), (.granAppend m, 3), (.granFind m, 4), (.granSeqBegin m, 5),
        (.granSeqEnd m, 6), (.granScanCmd m, 7), (.granFieldSave m, 8), (.granLockPage m, 9), (.granRprotPage m, 10),
        (.granLockFactory m, 11)] ∧
      s.serves = true ∧
      s.sources m.num = true ∧
      (s.checkWith none m.num 0x080 0x040 op).isNone = true ∧
      s.granCheck m.num op = some r) :=
  ⟨⟨(.m2 : Master),
    (fun (m : Master) (s : State) => (let s : State := served s; let s : State := { s with gran := { s.gran with cur := none, jobs := [], journal := [], pageLocked := 0, pageRprot := 0, factoryLocked := false }, wdt := { s.wdt with dbgHalt := false } }; let s : State := ((((s.put YARD_MODE 3).put GRAN_SEQ_OPEN 0).put GPROT_BOOT_WP 0).put GPROT_USER_BP 0).put GRAN_TYPE 7; let s : State := (((s.put GRAN_ADDR 0x5A0000).put GRAN_LEN 8).put LOCK_STATE 1 0 2).put LOCK_OWNER m.num 0 2; s))
    (.m2) State.reset, by decide +kernel⟩,
   ⟨(.m2 : Master),
     (fun (m : Master) (s : State) => (let s : State := served s; let s : State := { s with gran := { s.gran with cur := none, jobs := [], journal := [], pageLocked := 0, pageRprot := 0, factoryLocked := false }, wdt := { s.wdt with dbgHalt := false } }; let s : State := ((((s.put YARD_MODE 3).put GRAN_SEQ_OPEN 0).put GPROT_BOOT_WP 0).put GPROT_USER_BP 0).put GRAN_TYPE 7; let s : State := (((s.put GRAN_ADDR 0x5A0000).put GRAN_LEN 8).put LOCK_STATE 1 0 2).put LOCK_OWNER m.num 0 2; let s : State := s.put GRAN_LEN 0; s))
     (.m2) State.reset, by decide +kernel⟩,
   ⟨(.m2 : Master),
     (fun (m : Master) (s : State) => (let s : State := served s; let s : State := { s with gran := { s.gran with cur := none, jobs := [], journal := if s.regs.length % 3 = 0 then [] else [(0, 0x5A0), (1, 7)], pageLocked := 0, pageRprot := 0, factoryLocked := false, jUsed := if s.regs.length % 2 = 0 then 256 else 3 }, wdt := { s.wdt with dbgHalt := false } }; let s : State := ((((s.put YARD_MODE 3).put GRAN_SEQ_OPEN 0).put GPROT_BOOT_WP 0).put GPROT_USER_BP 0).put GRAN_TYPE 7; let s : State := (((s.put GRAN_ADDR 0x5A0000).put GRAN_LEN 8).put LOCK_STATE 1 0 2).put LOCK_OWNER m.num 0 2; s))
     (.m2) State.reset, by decide +kernel⟩,
   ⟨(.m2 : Master),
     ([GOp.program 5308416 [0x1#8, 0x0#8, 0x0#8, 0x0#8, 0x1#8, 0x0#8, 0x0#8, 0x0#8, 0x0#8, 0x0#8, 0x0#8, 0x0#8, 0x9e#8, 0x8a#8, 0xda#8, 0x2c#8], GOp.program 5308432 ([0x7#8, 0x0#8, 0x0#8, 0x0#8, 0x0#8, 0x0#8, 0x8#8] ++ List.replicate 9 0x0#8 ++ [0xd4#8, 0xf3#8, 0x95#8, 0x2#8])] : List GOp),
     (fun (m : Master) (s : State) => (let s : State := served s; let s : State := { s with gran := { s.gran with cur := none, jobs := [], journal := [], pageLocked := 0, pageRprot := 0, factoryLocked := false, groupMaster := m.num }, wdt := { s.wdt with dbgHalt := false } }; let s : State := ((((s.put YARD_MODE 3).put GRAN_SEQ_OPEN 0).put GPROT_BOOT_WP 0).put GPROT_USER_BP 0).put GRAN_TYPE 7; let s : State := (((s.put GRAN_ADDR 0x5A0000).put GRAN_LEN 8).put LOCK_STATE 1 0 2).put LOCK_OWNER m.num 0 2; let s : State := s.put GRAN_SEQ_OPEN (s.regs.length % 2); s))
     (.m2) State.reset, by decide +kernel⟩,
   ⟨(.m2 : Master),
     (fun (m : Master) (s : State) => (let s : State := served s; let s : State := { s with gran := { s.gran with cur := none, jobs := [], journal := [], pageLocked := 0, pageRprot := 0, factoryLocked := false, mem := (List.range 64).map (fun i => (0x510000 + 0x1000 * i, 5)) }, wdt := { s.wdt with dbgHalt := false } }; let s : State := ((((s.put YARD_MODE 3).put GRAN_SEQ_OPEN 0).put GPROT_BOOT_WP 0).put GPROT_USER_BP 0).put GRAN_TYPE 7; let s : State := (((s.put GRAN_ADDR 0x5A0000).put GRAN_LEN 8).put LOCK_STATE 1 0 2).put LOCK_OWNER m.num 0 2; s))
     (.m2) State.reset, by decide +kernel⟩,
   ⟨(.m2 : Master), ([GOp.journalOpen 0 1359, GOp.erase 1359, GOp.journalClose 0 1359] : List GOp),
     (fun (m : Master) (s : State) => (let s : State := served s; let s : State := { s with gran := { s.gran with cur := none, jobs := [], journal := [], pageLocked := 0, pageRprot := 0, factoryLocked := false, mem := (List.range 63).map (fun i => (0x510000 + 0x1000 * i, 5)) ++ (List.zip (List.range 16) (sectorHeader 1 false)).map (fun e => (0x54F000 + e.1, e.2)) ++ (0x54F010, 5) :: (List.range 15).map (fun k => (0x54F100 + 256 * k, 5)) }, wdt := { s.wdt with dbgHalt := false } }; let s : State := ((((s.put YARD_MODE 3).put GRAN_SEQ_OPEN 0).put GPROT_BOOT_WP 0).put GPROT_USER_BP 0).put GRAN_TYPE 7; let s : State := (((s.put GRAN_ADDR 0x5A0000).put GRAN_LEN 8).put LOCK_STATE 1 0 2).put LOCK_OWNER m.num 0 2; s))
     (.m2) State.reset, by decide +kernel⟩,
   ⟨(.m2 : Master),
     ([GOp.program 5308416 [0x1#8, 0x0#8, 0x0#8, 0x0#8, 0x1#8, 0x0#8, 0x0#8, 0x0#8, 0x0#8, 0x0#8, 0x0#8, 0x0#8, 0x9e#8, 0x8a#8, 0xda#8, 0x2c#8], GOp.program 5308432 [0xfe#8, 0x0#8, 0x0#8, 0x0#8, 0x0#8, 0x0#8, 0x0#8, 0x0#8, 0x11#8, 0xd9#8, 0xc3#8, 0x8f#8]] : List GOp),
     (fun (m : Master) (s : State) => (let s : State := served s; let s : State := { s with gran := { s.gran with cur := none, jobs := [], journal := [], pageLocked := 0, pageRprot := 0, factoryLocked := false }, wdt := { s.wdt with dbgHalt := false } }; let s : State := ((((s.put YARD_MODE 3).put GRAN_SEQ_OPEN 0).put GPROT_BOOT_WP 0).put GPROT_USER_BP 0).put GRAN_TYPE 7; let s : State := (((s.put GRAN_ADDR 0x5A0000).put GRAN_LEN 8).put LOCK_STATE 1 0 2).put LOCK_OWNER m.num 0 2; s))
     (.m2) State.reset, by decide +kernel⟩,
   ⟨(.m2 : Master),
     ([GOp.program 5308416 [0x1#8, 0x0#8, 0x0#8, 0x0#8, 0x1#8, 0x0#8, 0x0#8, 0x0#8, 0x0#8, 0x0#8, 0x0#8, 0x0#8, 0x9e#8, 0x8a#8, 0xda#8, 0x2c#8], GOp.program 5308432 [0xfe#8, 0x0#8, 0x0#8, 0x0#8, 0x0#8, 0x0#8, 0x2#8, 0x0#8, 0x2#8, 0x0#8, 0x0#8, 0x0#8, 0xe5#8, 0x92#8, 0xa8#8, 0x31#8]] : List GOp),
     (fun (m : Master) (s : State) => (let s : State := served s; let s : State := { s with gran := { s.gran with cur := none, jobs := [], journal := [], pageLocked := 0, pageRprot := 0, factoryLocked := false, groupMaster := m.num, groupCount := 2 }, wdt := { s.wdt with dbgHalt := false } }; let s : State := ((((s.put YARD_MODE 3).put GRAN_SEQ_OPEN 0).put GPROT_BOOT_WP 0).put GPROT_USER_BP 0).put GRAN_TYPE 7; let s : State := (((s.put GRAN_ADDR 0x5A0000).put GRAN_LEN 8).put LOCK_STATE 1 0 2).put LOCK_OWNER m.num 0 2; let s : State := s.put GRAN_SEQ_OPEN 1; s))
     (.m2) State.reset, by decide +kernel⟩,
   ⟨(.m2 : Master),
     (fun (m : Master) (s : State) => (let s : State := served s; let s : State := { s with gran := { s.gran with cur := none, jobs := [], journal := [], pageLocked := 0, pageRprot := 0, factoryLocked := false }, wdt := { s.wdt with dbgHalt := false } }; let s : State := ((((s.put YARD_MODE 3).put GRAN_SEQ_OPEN 0).put GPROT_BOOT_WP 0).put GPROT_USER_BP 0).put GRAN_TYPE 7; let s : State := (((s.put GRAN_ADDR 0x5A0000).put GRAN_LEN 8).put LOCK_STATE 1 0 2).put LOCK_OWNER m.num 0 2; s))
     (.m2) State.reset, by decide +kernel⟩,
   ⟨(.m2 : Master),
     (fun (m : Master) (s : State) => (let s : State := served s; let s : State := { s with gran := { s.gran with cur := none, jobs := [], journal := [], pageLocked := 0, pageRprot := 0, factoryLocked := false }, wdt := { s.wdt with dbgHalt := false } }; let s : State := ((((s.put YARD_MODE 3).put GRAN_SEQ_OPEN 0).put GPROT_BOOT_WP 0).put GPROT_USER_BP 0).put GRAN_TYPE 7; let s : State := (((s.put GRAN_ADDR 0x5A0000).put GRAN_LEN 8).put LOCK_STATE 1 0 2).put LOCK_OWNER m.num 0 2; s))
     (.m2) State.reset, by decide +kernel⟩,
   ⟨(.m2 : Master),
     (fun (m : Master) (s : State) => (let s : State := served s; let s : State := { s with gran := { s.gran with cur := none, jobs := [], journal := [], pageLocked := 0, pageRprot := 0, factoryLocked := false }, wdt := { s.wdt with dbgHalt := false } }; let s : State := ((((s.put YARD_MODE 3).put GRAN_SEQ_OPEN 0).put GPROT_BOOT_WP 0).put GPROT_USER_BP 0).put GRAN_TYPE 7; let s : State := (((s.put GRAN_ADDR 0x5A0000).put GRAN_LEN 8).put LOCK_STATE 1 0 2).put LOCK_OWNER m.num 0 2; let s : State := s.put SYS_ROLE 0; s))
     (.m2) State.reset, by decide +kernel⟩,
   ⟨(.m2 : Master),
     (fun (m : Master) (s : State) => (let s : State := served s; let s : State := { s with gran := { s.gran with jobs := [], journal := [], pageLocked := 0, pageRprot := 0, factoryLocked := false, cur := some ⟨jFIELD, 3, true, 2, true, [.fieldStep 7], 0, 1⟩, gap := true }, wdt := { s.wdt with dbgHalt := false } }; let s : State := ((((s.put YARD_MODE 3).put GRAN_SEQ_OPEN 0).put GPROT_BOOT_WP 0).put GPROT_USER_BP 0).put GRAN_TYPE 7; let s : State := (((s.put GRAN_ADDR 0x5A0000).put GRAN_LEN 8).put LOCK_STATE 1 0 2).put LOCK_OWNER m.num 0 2; let s : State := s.put SYS_ROLE 0; s))
     (.m2) State.reset, by decide +kernel⟩,
   ⟨(.m2 : Master), (Sys2Proof.Instr.granProgram (.m2) : Instr), (1 : Nat),
     (fun (m : Master) (op : Nat) (s : State) => (let s : State := served s; let s : State := { s with gran := { s.gran with jobs := [], journal := [], pageLocked := 0, pageRprot := 0, factoryLocked := false, groupMaster := m.num, gap := true, cur := some ⟨jPREERASE, 2, false, 7, true, [.erase 0x660], 0, 0⟩ }, wdt := { s.wdt with dbgHalt := false } }; let s : State := ((((s.put YARD_MODE 3).put GRAN_SEQ_OPEN 0).put GPROT_BOOT_WP 0).put GPROT_USER_BP 0).put GRAN_TYPE 7; let s : State := (((s.put GRAN_ADDR 0x5A0000).put GRAN_LEN 8).put LOCK_STATE 1 0 2).put LOCK_OWNER m.num 0 2; let s : State := (s.put GRAN_DEFER_MAX 0).put SYS_ROLE 0; let s : State := if op < 9 then s else s.put GRAN_ADDR 0x553000; let s : State := if op = 6 then s.put GRAN_SEQ_OPEN 1 else s; s))
     (.m2) (1) State.reset, by decide +kernel⟩,
   ⟨(.m2 : Master),
     ({ op := 33, rank := 2, refusable := false, master := 7, started := true, ops := [GOp.erase 1632], code := 0, arg := 0 } : Job),
     (fun (m : Master) (j : Job) (s : State) => (let s : State := served s; let s : State := { s with gran := { s.gran with jobs := [], journal := [], pageLocked := 0, pageRprot := 0, factoryLocked := false, gap := true, cur := some j }, wdt := { s.wdt with dbgHalt := false } }; let s : State := ((((s.put YARD_MODE 3).put GRAN_SEQ_OPEN 0).put GPROT_BOOT_WP 0).put GPROT_USER_BP 0).put GRAN_TYPE 7; let s : State := (((s.put GRAN_ADDR 0x5A0000).put GRAN_LEN 8).put LOCK_STATE 1 0 2).put LOCK_OWNER m.num 0 2; let s : State := s.put GRAN_DEFER_MAX 9; s))
     (.m2)
     ({ op := 33, rank := 2, refusable := false, master := 7, started := true, ops := [GOp.erase 1632], code := 0, arg := 0 })
     State.reset, by decide +kernel⟩,
   ⟨(.m1 : Master), (Sys2Proof.Instr.granFind (.m1) : Instr), (4 : Nat), ({ code := 8, mask := 0, blocking := false } : Refuse),
     (fun (m : Master) (s : State) => (let s : State := served s; let s : State := { s with gran := { s.gran with cur := none, journal := [], pageLocked := 0, pageRprot := 0, factoryLocked := false, jobs := if s.regs.length % 2 = 0 then [] else [⟨4, 4, true, 2, true, [], 0, 0⟩] }, wdt := { s.wdt with dbgHalt := false } }; let s : State := ((((s.put YARD_MODE 3).put GRAN_SEQ_OPEN 0).put GPROT_BOOT_WP 0).put GPROT_USER_BP 0).put GRAN_TYPE 7; let s : State := (((s.put GRAN_ADDR 0x5A0000).put GRAN_LEN 8).put LOCK_STATE 1 0 2).put LOCK_OWNER m.num 0 2; let s : State := if s.regs.length % 4 = 0 then s.put YARD_MODE 1 else if s.regs.length % 4 = 1 then s.put GRAN_ADDR 0x20 else s; s))
     (.m1) (up 0), by decide +kernel⟩⟩

theorem test_hyps_GranaryLocks :
    (∃ (m : Master) (r : Rec) (s : State),
      s.accepts m.num 0x080 0x040 0x04 = true ∧
      newestRec (validRecs (s.gran.logRecs (s.on GRAN_REGION)).1 []) (s.get GRAN_TYPE) (s.get GRAN_KEY) = some r ∧
      r.payload.length ≠ 0) ∧
    (∃ (m : Master) (s : State),
      s.accepts m.num 0x080 0x040 0x04 = true ∧
      (newestRec (validRecs (s.gran.logRecs (s.on GRAN_REGION)).1 []) (s.get GRAN_TYPE) (s.get GRAN_KEY) = none ∨ (newestRec
        (validRecs (s.gran.logRecs (s.on GRAN_REGION)).1 []) (s.get GRAN_TYPE) (s.get GRAN_KEY)).map (fun r => r.payload.length) =
        some 0)) ∧
    (∃ (m : Master) (s : State),
      s.accepts m.num 0x080 0x040 0x09 = true ∧
      bitAt s.gran.pageLocked (s.get GRAN_ADDR / 0x1000 % 16) = false ∧
      s.gran.cur = none ∧
      s.gran.jobs = [] ∧
      s.wdt.dbgHalt = false) ∧
    (∃ (m : Master) (s : State),
      s.accepts m.num 0x080 0x040 0x0A = true ∧
      bitAt s.gran.pageRprot (s.get GRAN_ADDR / 0x1000 % 16) = false ∧
      s.gran.cur = none ∧
      s.gran.jobs = [] ∧
      s.wdt.dbgHalt = false) ∧
    (∃ (m : Master) (s : State),
      s.accepts m.num 0x080 0x040 0x0B = true ∧
      s.gran.factoryLocked = false ∧
      s.gran.cur = none ∧
      s.gran.jobs = [] ∧
      s.wdt.dbgHalt = false) ∧
    (∃ (m : Master) (i : Instr) (op : Nat) (s : State),
      ((i = .granLockPage m ∧ op = 9 ∧ bitAt s.gran.pageLocked (s.get GRAN_ADDR / 0x1000 % 16) = true) ∨ (i = .granRprotPage m ∧
        op = 10 ∧ bitAt s.gran.pageRprot (s.get GRAN_ADDR / 0x1000 % 16) = true) ∨ (i = .granLockFactory m ∧ op = 11 ∧
        s.gran.factoryLocked = true)) ∧
      s.accepts m.num 0x080 0x040 op = true) :=
  ⟨⟨(.m2 : Master),
    ({ addr := 5308432, typ := 7, grp := false, gid := 0, key := 0, seq := 3, payload := [0x1#8, 0x2#8, 0x3#8, 0x4#8] } : Rec),
    (fun (m : Master) (s : State) => { (let s : State := served s; let s : State := { s with gran := { s.gran with cur := none, jobs := [], journal := [], pageLocked := 0, pageRprot := 0, factoryLocked := false }, wdt := { s.wdt with dbgHalt := false } }; let s : State := ((((s.put YARD_MODE 3).put GRAN_SEQ_OPEN 0).put GPROT_BOOT_WP 0).put GPROT_USER_BP 0).put GRAN_TYPE 7; let s : State := (((s.put GRAN_ADDR 0x5A0000).put GRAN_LEN 8).put LOCK_STATE 1 0 2).put LOCK_OWNER m.num 0 2; let s : State := s.put GRAN_REGION 0; s) with gran := withRec ((let s : State := served s; let s : State := { s with gran := { s.gran with cur := none, jobs := [], journal := [], pageLocked := 0, pageRprot := 0, factoryLocked := false }, wdt := { s.wdt with dbgHalt := false } }; let s : State := ((((s.put YARD_MODE 3).put GRAN_SEQ_OPEN 0).put GPROT_BOOT_WP 0).put GPROT_USER_BP 0).put GRAN_TYPE 7; let s : State := (((s.put GRAN_ADDR 0x5A0000).put GRAN_LEN 8).put LOCK_STATE 1 0 2).put LOCK_OWNER m.num 0 2; s)).gran })
    (.m2) State.reset, by decide +kernel⟩,
   ⟨(.m2 : Master),
     (fun (m : Master) (s : State) => (let s : State := served s; let s : State := { s with gran := { s.gran with cur := none, jobs := [], journal := [], pageLocked := 0, pageRprot := 0, factoryLocked := false }, wdt := { s.wdt with dbgHalt := false } }; let s : State := ((((s.put YARD_MODE 3).put GRAN_SEQ_OPEN 0).put GPROT_BOOT_WP 0).put GPROT_USER_BP 0).put GRAN_TYPE 7; let s : State := (((s.put GRAN_ADDR 0x5A0000).put GRAN_LEN 8).put LOCK_STATE 1 0 2).put LOCK_OWNER m.num 0 2; s))
     (.m2) State.reset, by decide +kernel⟩,
   ⟨(.m2 : Master),
     (fun (m : Master) (s : State) => (let s : State := served s; let s : State := { s with gran := { s.gran with cur := none, jobs := [], journal := [], pageLocked := 0, pageRprot := 0, factoryLocked := false }, wdt := { s.wdt with dbgHalt := false } }; let s : State := ((((s.put YARD_MODE 3).put GRAN_SEQ_OPEN 0).put GPROT_BOOT_WP 0).put GPROT_USER_BP 0).put GRAN_TYPE 7; let s : State := (((s.put GRAN_ADDR 0x5A0000).put GRAN_LEN 8).put LOCK_STATE 1 0 2).put LOCK_OWNER m.num 0 2; let s : State := s.put GRAN_ADDR 0x553000; s))
     (.m2) State.reset, by decide +kernel⟩,
   ⟨(.m2 : Master),
     (fun (m : Master) (s : State) => (let s : State := served s; let s : State := { s with gran := { s.gran with cur := none, jobs := [], journal := [], pageLocked := 0, pageRprot := 0, factoryLocked := false }, wdt := { s.wdt with dbgHalt := false } }; let s : State := ((((s.put YARD_MODE 3).put GRAN_SEQ_OPEN 0).put GPROT_BOOT_WP 0).put GPROT_USER_BP 0).put GRAN_TYPE 7; let s : State := (((s.put GRAN_ADDR 0x5A0000).put GRAN_LEN 8).put LOCK_STATE 1 0 2).put LOCK_OWNER m.num 0 2; let s : State := s.put GRAN_ADDR 0x553000; s))
     (.m2) State.reset, by decide +kernel⟩,
   ⟨(.m2 : Master),
     (fun (m : Master) (s : State) => (let s : State := served s; let s : State := { s with gran := { s.gran with cur := none, jobs := [], journal := [], pageLocked := 0, pageRprot := 0, factoryLocked := false }, wdt := { s.wdt with dbgHalt := false } }; let s : State := ((((s.put YARD_MODE 3).put GRAN_SEQ_OPEN 0).put GPROT_BOOT_WP 0).put GPROT_USER_BP 0).put GRAN_TYPE 7; let s : State := (((s.put GRAN_ADDR 0x5A0000).put GRAN_LEN 8).put LOCK_STATE 1 0 2).put LOCK_OWNER m.num 0 2; s))
     (.m2) State.reset, by decide +kernel⟩,
   ⟨(.m2 : Master), (Sys2Proof.Instr.granLockPage (.m2) : Instr), (9 : Nat),
     (fun (m : Master) (s : State) => (let s : State := served s; let s : State := { s with gran := { s.gran with cur := none, jobs := [], journal := [], pageLocked := 8, pageRprot := 8, factoryLocked := true }, wdt := { s.wdt with dbgHalt := false } }; let s : State := ((((s.put YARD_MODE 3).put GRAN_SEQ_OPEN 0).put GPROT_BOOT_WP 0).put GPROT_USER_BP 0).put GRAN_TYPE 7; let s : State := (((s.put GRAN_ADDR 0x5A0000).put GRAN_LEN 8).put LOCK_STATE 1 0 2).put LOCK_OWNER m.num 0 2; let s : State := s.put GRAN_ADDR 0x553000; s))
     (.m2) State.reset, by decide +kernel⟩⟩

theorem test_hyps_GranaryEngine :
    (∃ (a : Nat) (bs : List Byte) (l : List GOp) (j : Job) (s : State),
      s.gran.cur = some j ∧
      j.ops = .program a bs :: l) ∧
    (∃ (sec : Nat) (l : List GOp) (j : Job) (s : State),
      s.gran.cur = some j ∧
      j.ops = .erase sec :: l ∧
      j.op ≠ jREFRESH) ∧
    (∃ (sec : Nat) (l : List GOp) (j : Job) (s : State),
      s.gran.cur = some j ∧
      j.ops = .erase sec :: l ∧
      j.op = jREFRESH) ∧
    (∃ (what : Nat) (arg : Nat) (l : List GOp) (j : Job) (s : State),
      s.gran.cur = some j ∧
      j.ops = .journalOpen what arg :: l) ∧
    (∃ (what : Nat) (arg : Nat) (l : List GOp) (j : Job) (s : State),
      s.gran.cur = some j ∧
      j.ops = .journalClose what arg :: l) ∧
    (∃ (sec : Nat) (p : Nat) (l : List GOp) (j : Job) (s : State),
      s.gran.cur = some j ∧
      j.ops = .remap sec p :: l ∧
      s.coreOn = true) ∧
    (∃ (p : Nat) (r : Nat) (f : Bool) (l : List GOp) (j : Job) (s : State),
      s.gran.cur = some j ∧
      j.ops = .lockRow p r f :: l ∧
      s.coreOn = true) ∧
    (∃ (a : Nat) (bs : List Byte) (j : Job) (s : State),
      s.gran.cur = some j ∧
      j.ops = [.program a bs] ∧
      (j.op = 5 ∨ j.op = 6 ∨ (j.op = 3 ∧ j.arg = 2)) ∧
      s.gran.groupNext < 128) ∧
    (∃ (a : Nat) (bs : List Byte) (j : Job) (s : State),
      s.gran.cur = some j ∧
      j.ops = [.program a bs] ∧
      j.op = jTRIM ∧
      j.arg < 34) ∧
    (∃ (op : GOp) (l : List GOp) (j : Job) (s : State),
      s.gran.cur = some j ∧
      j.ops = op :: l ∧
      j.host = true ∧
      s.coreOn = true) ∧
    (∃ (a : Nat) (bs : List Byte) (j : Job) (s : State),
      s.gran.cur = some j ∧
      j.ops = [.program a bs] ∧
      j.op = jTRIM ∧
      j.arg < 34) ∧
    (∃ (s : State),
      s.gran.cur = none) ∧
    (∃ (j : Job) (s : State),
      s.gran.jobs.find? s.jobReady = some j) ∧
    (∃ (s : State),
      s.gran.jobs.find? s.jobReady = none) ∧
    (∃ (j : Job) (s : State),
      (s.gran.jobs.find? (fun j => j.refusable && !j.started && !j.ops.isEmpty) = some j) ∧
      j.host = true ∧
      s.coreOn = true ∧
      s.get YARD_SECONDS < 2 ^ 32) ∧
    (∃ (j : Job) (s : State),
      (s.gran.jobs.find? (fun j => j.refusable && !j.started && !j.ops.isEmpty) = some j) ∧
      (j.op = jTRIM ∨ j.op = jFIELD) ∧
      s.coreOn = true ∧
      s.get YARD_SECONDS < 2 ^ 32 ∧
      j.arg < 34) ∧
    (∃ (s : State),
      (s.gran.jobs.find? (fun j => j.refusable && !j.started && !j.ops.isEmpty) = none)) ∧
    (∃ (s : State),
      s.gran.scanning = true ∧
      s.coreOn = true ∧
      s.yard.service = none) ∧
    (∃ (s : State),
      s.gran.scanning = false) :=
  ⟨⟨(5898524 : Nat), ([0x3#8, 0x0#8, 0xff#8, 0x55#8] : List Byte), ([] : List GOp),
    ({ op := 1, rank := 4, refusable := true, master := 1, started := true, ops := [GOp.program 5898524 [0x3#8, 0x0#8, 0xff#8, 0x55#8]], code := 0, arg := 0 }
    : Job), (fun (j : Job) (s : State) => { s with gran := { s.gran with cur := some j, jobs := [] } })
    ({ op := 1, rank := 4, refusable := true, master := 1, started := true, ops := [GOp.program 5898524 [0x3#8, 0x0#8, 0xff#8, 0x55#8]], code := 0, arg := 0 })
    State.reset, by decide +kernel⟩,
   ⟨(1241 : Nat), ([] : List GOp),
     ({ op := 2, rank := 4, refusable := true, master := 1, started := true, ops := [GOp.erase 1241], code := 0, arg := 0 } :
     Job), (fun (sec : Nat) (j : Job) (s : State) =>
     { s with gran := { s.gran with cur := some j, jobs := [], mem := (s.gran.mem.write (sec * 4096 + 7) 5 0xFF) } }) (1241)
     ({ op := 2, rank := 4, refusable := true, master := 1, started := true, ops := [GOp.erase 1241], code := 0, arg := 0 })
     State.reset, by decide +kernel⟩,
   ⟨(1241 : Nat), ([] : List GOp),
     ({ op := 36, rank := 4, refusable := true, master := 1, started := true, ops := [GOp.erase 1241], code := 0, arg := 0 } :
     Job), (fun (sec : Nat) (j : Job) (s : State) =>
     { s with gran := { s.gran with cur := some j, jobs := [], mem := (s.gran.mem.write (sec * 4096 + 7) 5 0xFF) } }) (1241)
     ({ op := 36, rank := 4, refusable := true, master := 1, started := true, ops := [GOp.erase 1241], code := 0, arg := 0 })
     State.reset, by decide +kernel⟩,
   ⟨(17 : Nat), (63395 : Nat), ([] : List GOp),
     ({ op := 2, rank := 4, refusable := true, master := 1, started := true, ops := [GOp.journalOpen 17 63395], code := 0, arg := 0 }
     : Job), (fun (j : Job) (s : State) => { s with gran := { s.gran with cur := some j, jobs := [] } })
     ({ op := 2, rank := 4, refusable := true, master := 1, started := true, ops := [GOp.journalOpen 17 63395], code := 0, arg := 0 })
     State.reset, by decide +kernel⟩,
   ⟨(17 : Nat), (63395 : Nat), ([] : List GOp),
     ({ op := 2, rank := 4, refusable := true, master := 1, started := true, ops := [GOp.journalClose 17 63395], code := 0, arg := 0 }
     : Job), (fun (what : Nat) (arg : Nat) (j : Job) (s : State) =>
     { s with gran := { s.gran with cur := some j, jobs := [], journal := [(what, arg), (9, 9)] } }) (17) (63395)
     ({ op := 2, rank := 4, refusable := true, master := 1, started := true, ops := [GOp.journalClose 17 63395], code := 0, arg := 0 })
     State.reset, by decide +kernel⟩,
   ⟨(720 : Nat), (1807 : Nat), ([] : List GOp),
     ({ op := 37, rank := 4, refusable := true, master := 1, started := true, ops := [GOp.remap 720 1807], code := 0, arg := 0 } :
     Job), (fun (j : Job) (s : State) => { s with gran := { s.gran with cur := some j, jobs := [] } })
     ({ op := 37, rank := 4, refusable := true, master := 1, started := true, ops := [GOp.remap 720 1807], code := 0, arg := 0 })
     (up 0), by decide +kernel⟩,
   ⟨(1 : Nat), (256 : Nat), (true : Bool), ([] : List GOp),
     ({ op := 9, rank := 4, refusable := true, master := 1, started := true, ops := [GOp.lockRow 1 256 true], code := 0, arg := 0 }
     : Job), (fun (j : Job) (s : State) => { s with gran := { s.gran with cur := some j, jobs := [] } })
     ({ op := 9, rank := 4, refusable := true, master := 1, started := true, ops := [GOp.lockRow 1 256 true], code := 0, arg := 0 })
     (up 0), by decide +kernel⟩,
   ⟨(4788672 : Nat), ([0x3#8, 0x0#8, 0xff#8, 0x55#8] : List Byte),
     ({ op := 5, rank := 4, refusable := true, master := 1, started := true, ops := [GOp.program 4788672 [0x3#8, 0x0#8, 0xff#8, 0x55#8]], code := 0, arg := 2 } : Job),
     (fun (j : Job) (s : State) => (let s : State := (s.put LOCK_STATE 1 0 2).put LOCK_OWNER (s.regs.length % 2) 0 2; { s with gran := { s.gran with cur := some j, jobs := [] } }))
     ({ op := 5, rank := 4, refusable := true, master := 1, started := true, ops := [GOp.program 4788672 [0x3#8, 0x0#8, 0xff#8, 0x55#8]], code := 0, arg := 2 })
     State.reset, by decide +kernel⟩,
   ⟨(4788672 : Nat), ([0x3#8, 0x0#8, 0xff#8, 0x55#8] : List Byte),
     ({ op := 34, rank := 4, refusable := true, master := 7, started := true, ops := [GOp.program 4788672 [0x3#8, 0x0#8, 0xff#8, 0x55#8]], code := 0, arg := 5 }
     : Job), (fun (j : Job) (s : State) => { s with gran := { s.gran with cur := some j, jobs := [] } })
     ({ op := 34, rank := 4, refusable := true, master := 7, started := true, ops := [GOp.program 4788672 [0x3#8, 0x0#8, 0xff#8, 0x55#8]], code := 0, arg := 5 })
     State.reset, by decide +kernel⟩,
   ⟨(GOp.erase 1440 : GOp), ([] : List GOp),
     ({ op := 2, rank := 4, refusable := true, master := 1, started := true, ops := [GOp.erase 1440], code := 0, arg := 0 } :
     Job), (fun (j : Job) (s : State) => { s with gran := { s.gran with cur := some j, jobs := [] } })
     ({ op := 2, rank := 4, refusable := true, master := 1, started := true, ops := [GOp.erase 1440], code := 0, arg := 0 }) (up
     0), by decide +kernel⟩,
   ⟨(4788672 : Nat), ([0x3#8, 0x0#8, 0xff#8, 0x55#8] : List Byte),
     ({ op := 34, rank := 4, refusable := true, master := 7, started := true, ops := [GOp.program 4788672 [0x3#8, 0x0#8, 0xff#8, 0x55#8]], code := 0, arg := 5 }
     : Job), (fun (j : Job) (s : State) => { s with gran := { s.gran with cur := some j, jobs := [] } })
     ({ op := 34, rank := 4, refusable := true, master := 7, started := true, ops := [GOp.program 4788672 [0x3#8, 0x0#8, 0xff#8, 0x55#8]], code := 0, arg := 5 })
     State.reset, by decide +kernel⟩,
   ⟨(fun (s : State) => { s with gran := { s.gran with cur := none } }) State.reset, by decide +kernel⟩,
   ⟨({ op := 2, rank := 4, refusable := true, master := 1, started := true, ops := [], code := 2, arg := 0 } : Job), (fun (j :
     Job) (s : State) => { s with gran := { s.gran with jobs := [⟨jTRIM, 4, false, 1, true, [.erase 3], 0, 0⟩, j] } })
     ({ op := 2, rank := 4, refusable := true, master := 1, started := true, ops := [], code := 2, arg := 0 }) State.reset,
     by decide +kernel⟩,
   ⟨State.reset, by decide +kernel⟩,
   ⟨({ op := 2, rank := 4, refusable := true, master := 1, started := false, ops := [GOp.erase 7], code := 0, arg := 0 } : Job),
     (fun (j : Job) (s : State) => { s with gran := { s.gran with jobs := [⟨jTRIM, 4, false, 1, true, [.erase 3], 0, 0⟩, j] } })
     ({ op := 2, rank := 4, refusable := true, master := 1, started := false, ops := [GOp.erase 7], code := 0, arg := 0 }) (up 0),
     by decide +kernel⟩,
   ⟨({ op := 35, rank := 3, refusable := true, master := 1, started := false, ops := [GOp.fieldStep 0], code := 0, arg := 1 } :
     Job), (fun (j : Job) (s : State) =>
     { s with gran := { s.gran with cur := none, jobs := [j, ⟨8, 4, false, 2, true, [], cOK, 1⟩] } })
     ({ op := 35, rank := 3, refusable := true, master := 1, started := false, ops := [GOp.fieldStep 0], code := 0, arg := 1 })
     (up 0), by decide +kernel⟩,
   ⟨State.reset, by decide +kernel⟩,
   ⟨(fun (s : State) => { s with gran := { s.gran with scanning := true }, yard := { s.yard with service := none } }) (up 0),
     by decide +kernel⟩,
   ⟨(fun (s : State) => { s with gran := { s.gran with scanning := false } }) State.reset, by decide +kernel⟩⟩

theorem test_hyps_ShadowStore :
    (∃ (m : Master) (s : State),
      s.accepts m.num 0x081 0x048 1 = true ∧
      s.shadow.storing = none) ∧
    (∃ (m : Master) (s : State),
      s.accepts m.num 0x081 0x048 1 = true ∧
      s.shadow.storing.isSome = true) ∧
    (∃ (s : State),
      s.get SHADOW_AUTO_S ≠ 0 ∧
      s.get SHADOW_AUTO_S ≤ s.shadow.autoLeft ∧
      s.mode ≠ DORMANT ∧
      s.shadow.storing = none ∧
      s.boot.stored = true ∧
      s.boot.inReset = false) ∧
    (∃ (s : State),
      (s.get SHADOW_AUTO_S = 0 ∨ s.shadow.autoLeft < s.get SHADOW_AUTO_S ∨ s.mode = DORMANT ∨ s.shadow.storing.isSome = true ∨
        s.boot.stored = false ∨ s.boot.inReset = true)) ∧
    (∃ (cause : Nat) (k : Nat) (s : State),
      s.shadow.storing = some (cause, k) ∧
      cause < 3 ∧
      (s.gran.jobs.any (fun j => j.op == jSTORE && j.code != cOK) = false)) ∧
    (∃ (k : Nat) (s : State),
      s.shadow.storing = some (3, k) ∧
      (s.gran.jobs.any (fun j => j.op == jSTORE && j.code != cOK) = false) ∧
      s.coreOn = true) ∧
    (∃ (cause : Nat) (k : Nat) (fails : Bool) (s : State),
      s.shadow.storing = some (cause, k) ∧
      (fails = true ∨ s.gran.jobs.any (fun j => j.op == jSTORE && j.code != cOK) = true)) ∧
    (∃ (s : State),
      s.shadow.storing = none) ∧
    (∃ (s : State),
      (s.get SHADOW_PF_EN = 0 ∨ s.boot.stored = false ∨ s.inDormant = true ∨ s.pfStoring = true)) ∧
    (∃ (s : State),
      s.get SHADOW_PF_EN ≠ 0 ∧
      s.boot.stored = true ∧
      s.inDormant = false ∧
      s.pfStoring = false) ∧
    (∃ (s : State),
      s.pfStoring = true) ∧
    (∃ (s : State),
      s.pfStoring = false) :=
  ⟨⟨(.m2 : Master),
    (fun (s : State) => (let s : State := served s; { s with shadow := { s.shadow with storing := none }, gran := { s.gran with cur := none, jobs := [] }, boot := { s.boot with stored := true }, wdt := { s.wdt with dbgHalt := false } }))
    State.reset, by decide +kernel⟩,
   ⟨(.m2 : Master),
     (fun (s : State) => (let s : State := served s; { s with shadow := { s.shadow with storing := some (0, 2) }, gran := { s.gran with cur := none, jobs := [] }, boot := { s.boot with stored := true }, wdt := { s.wdt with dbgHalt := false } }))
     State.reset, by decide +kernel⟩,
   ⟨(fun (s : State) => ((let s : State := served s; { s with shadow := { s.shadow with storing := none, autoLeft := 500 }, gran := { s.gran with cur := none, jobs := [] }, boot := { s.boot with stored := true }, wdt := { s.wdt with dbgHalt := false } }).put SHADOW_AUTO_S 60).put YARD_MODE 2)
     State.reset, by decide +kernel⟩,
   ⟨(fun (s : State) => (let s : State := served s; { s with shadow := { s.shadow with autoLeft := 5 }, gran := { s.gran with cur := none, jobs := [] }, boot := { s.boot with stored := true }, wdt := { s.wdt with dbgHalt := false } }).put SHADOW_AUTO_S 60)
     State.reset, by decide +kernel⟩,
   ⟨(2 : Nat), (1 : Nat),
     (fun (cause : Nat) (k : Nat) (s : State) => (let s : State := served s; { s with shadow := { s.shadow with storing := some (cause, k) }, gran := { s.gran with cur := none, jobs := [] }, boot := { s.boot with stored := true }, wdt := { s.wdt with dbgHalt := false } }))
     (2) (1) State.reset, by decide +kernel⟩,
   ⟨(0 : Nat),
     (fun (k : Nat) (s : State) => (let s : State := served s; { s with shadow := { s.shadow with storing := some (3, k), pfCommitted := true }, gran := { s.gran with cur := none, jobs := [] }, boot := { s.boot with stored := true }, wdt := { s.wdt with dbgHalt := false } }))
     (0) State.reset, by decide +kernel⟩,
   ⟨(2 : Nat), (0 : Nat), (true : Bool),
     (fun (cause : Nat) (k : Nat) (s : State) => (let s : State := served s; { s with shadow := { s.shadow with storing := some (cause, k) }, gran := { s.gran with cur := none, jobs := [] }, boot := { s.boot with stored := true }, wdt := { s.wdt with dbgHalt := false } }))
     (2) (0) State.reset, by decide +kernel⟩,
   ⟨(fun (s : State) => (let s : State := served s; { s with shadow := { s.shadow with storing := none }, gran := { s.gran with cur := none, jobs := [] }, boot := { s.boot with stored := true }, wdt := { s.wdt with dbgHalt := false } }))
     State.reset, by decide +kernel⟩,
   ⟨(fun (s : State) => (let s : State := served s; { s with shadow := { s.shadow with storing := none }, gran := { s.gran with cur := none, jobs := [] }, boot := { s.boot with stored := true }, wdt := { s.wdt with dbgHalt := false } }).put SHADOW_PF_EN 0)
     State.reset, by decide +kernel⟩,
   ⟨(fun (s : State) => (let s : State := served s; { s with shadow := { s.shadow with storing := (if s.regs.length % 2 = 0 then none else some (0, 1)), pfCommitted := false }, gran := { s.gran with cur := none, jobs := [] }, boot := { s.boot with stored := true }, wdt := { s.wdt with dbgHalt := false } }).put SHADOW_PF_EN 1)
     State.reset, by decide +kernel⟩,
   ⟨(fun (s : State) => (let s : State := served s; { s with shadow := { s.shadow with storing := some (3, 1), pfCommitted := true }, gran := { s.gran with cur := none, jobs := [] }, boot := { s.boot with stored := true }, wdt := { s.wdt with dbgHalt := false } }))
     State.reset, by decide +kernel⟩,
   ⟨(fun (s : State) => (let s : State := served s; { s with shadow := { s.shadow with storing := none, pfCommitted := false }, gran := { s.gran with cur := none, jobs := [] }, boot := { s.boot with stored := true }, wdt := { s.wdt with dbgHalt := false } }))
     State.reset, by decide +kernel⟩⟩

theorem test_hyps_Watchdog :
    (∃ (m : Master) (data : Word) (s : State),
      s.accepts m.num 0x003 0x054 data.toNat = true ∧
      s.wdtServing = true) ∧
    (∃ (m : Master) (data : Word) (s : State),
      s.accepts m.num 0x003 0x054 data.toNat = true ∧
      s.wdtServing = false) ∧
    (∃ (m : Master) (data : Word) (r : Refuse) (own : Bool) (s : State),
      s.serves = true ∧
      s.sources m.num = true ∧
      s.host.posted = [] ∧
      s.writeCheck m.num 0x003 0x054 data.toNat = some (r, own) ∧
      s.wdtServing = true ∧
      s.get WDT_MISSED = 0 ∧
      s.coreOn = true) ∧
    (∃ (m : Master) (data : Word) (r : Refuse) (own : Bool) (s : State),
      s.serves = true ∧
      s.sources m.num = true ∧
      s.host.posted = [] ∧
      s.writeCheck m.num 0x003 0x054 data.toNat = some (r, own) ∧
      s.wdtServing = true ∧
      s.get WDT_MISSED = 1) ∧
    (∃ (m : Master) (data : Word) (r : Refuse) (own : Bool) (s : State),
      s.serves = true ∧
      s.sources m.num = true ∧
      s.host.posted = [] ∧
      s.writeCheck m.num 0x003 0x054 data.toNat = some (r, own) ∧
      s.wdtServing = false) ∧
    (∃ (s : State),
      s.wdtServing = true) ∧
    (∃ (i : Instr) (s : State),
      s.wdtServing = false ∧
      (i = .wdtWindowOpen ∨ i = .wdtPeriodEnd)) ∧
    (∃ (s : State),
      s.wdtServing = true ∧
      s.get WDT_MISSED = 0 ∧
      s.coreOn = true) ∧
    (∃ (s : State),
      s.wdtServing = true ∧
      s.get WDT_MISSED = 1) ∧
    (∃ (m : Master) (en : Bool) (s : State),
      s.accepts m.num 0x003 0x008 (bit en) = true ∧
      s.get HDR_EN 0x003 = bit en) ∧
    (∃ (m : Master) (s : State),
      s.accepts m.num 0x003 0x008 1 = true ∧
      s.get HDR_EN 0x003 = 0 ∧
      s.wdtHeld = false ∧
      s.wdt.running = false) ∧
    (∃ (m : Master) (s : State),
      s.accepts m.num 0x003 0x008 1 = true ∧
      s.get HDR_EN 0x003 = 0 ∧
      s.wdtHeld = true) ∧
    (∃ (m : Master) (s : State),
      s.accepts m.num 0x003 0x008 0 = true ∧
      s.get HDR_EN 0x003 = 1) :=
  ⟨⟨(.m2 : Master), (0xece5#32 : Word),
    (fun (m : Master) (data : Word) (s : State) => (let s : State := (let s : State := served s; (s.put WDT_SUPERVISOR m.num).put SEQ_BOOT_DONE 1 |>.put YARD_MODE 2); let s : State := { s with wdt := { s.wdt with running := true, expiring := false, dbgHalt := false, cycle := 900, openAt := 500, len := 1000 } }; s.put HDR_EN 1 0x003).put WDT_KEY 0 |>.put WDT_CHALLENGE 0 |>.put WDT_COUNT data.toNat)
    (.m2) (0xece5#32) State.reset, by decide +kernel⟩,
   ⟨(.m2 : Master), (0xffffffff#32 : Word),
     (fun (m : Master) (s : State) => ((let s : State := (let s : State := served s; (s.put WDT_SUPERVISOR m.num).put SEQ_BOOT_DONE 1 |>.put YARD_MODE 2); let s : State := { s with wdt := { s.wdt with running := true, expiring := false, dbgHalt := false, cycle := 900, openAt := 500, len := 1000 } }; s.put HDR_EN 1 0x003).put HDR_EN 0 0x003))
     (.m2) State.reset, by decide +kernel⟩,
   ⟨(.m2 : Master), (0xffffffff#32 : Word), ({ code := 11, mask := 0, blocking := false } : Refuse), (true : Bool),
     (fun (m : Master) (data : Word) (s : State) => (let s : State := (let s : State := (let s : State := served s; (s.put WDT_SUPERVISOR m.num).put SEQ_BOOT_DONE 1 |>.put YARD_MODE 2); let s : State := { s with wdt := { s.wdt with running := true, expiring := false, dbgHalt := false, cycle := 900, openAt := 500, len := 1000 } }; s.put HDR_EN 1 0x003).put WDT_MISSED 0; if data.toNat % 3 = 0 then { s with wdt := { s.wdt with cycle := 3 } } else if data.toNat % 3 = 1 then s.put SYS_PRIV 0 else s))
     (.m2) (0xffffffff#32) State.reset, by decide +kernel⟩,
   ⟨(.m2 : Master), (0xffffffff#32 : Word), ({ code := 11, mask := 0, blocking := false } : Refuse), (true : Bool),
     (fun (m : Master) (data : Word) (s : State) => (let s : State := (let s : State := (let s : State := served s; (s.put WDT_SUPERVISOR m.num).put SEQ_BOOT_DONE 1 |>.put YARD_MODE 2); let s : State := { s with wdt := { s.wdt with running := true, expiring := false, dbgHalt := false, cycle := 900, openAt := 500, len := 1000 } }; s.put HDR_EN 1 0x003).put WDT_MISSED 1; if data.toNat % 3 = 0 then { s with wdt := { s.wdt with cycle := 3 } } else if data.toNat % 3 = 1 then s.put SYS_PRIV 0 else s))
     (.m2) (0xffffffff#32) State.reset, by decide +kernel⟩,
   ⟨(.m1 : Master), (0x158ba16a#32 : Word), ({ code := 4, mask := 0, blocking := false } : Refuse), (false : Bool),
     (fun (m : Master) (data : Word) (s : State) => (let s : State := ((let s : State := (let s : State := served s; (s.put WDT_SUPERVISOR m.num).put SEQ_BOOT_DONE 1 |>.put YARD_MODE 2); let s : State := { s with wdt := { s.wdt with running := true, expiring := false, dbgHalt := false, cycle := 900, openAt := 500, len := 1000 } }; s.put HDR_EN 1 0x003).put HDR_EN 0 0x003); if data.toNat % 3 = 0 then { s with wdt := { s.wdt with cycle := 3 } } else if data.toNat % 3 = 1 then s.put SYS_PRIV 0 else s))
     (.m1) (0x158ba16a#32) State.reset, by decide +kernel⟩,
   ⟨(fun (s : State) => (let m : Master := .m1; (let s : State := (let s : State := served s; (s.put WDT_SUPERVISOR m.num).put SEQ_BOOT_DONE 1 |>.put YARD_MODE 2); let s : State := { s with wdt := { s.wdt with running := true, expiring := false, dbgHalt := false, cycle := 900, openAt := 500, len := 1000 } }; s.put HDR_EN 1 0x003)))
     State.reset, by decide +kernel⟩,
   ⟨(Sys2Proof.Instr.wdtWindowOpen : Instr),
     (fun (s : State) => (let m : Master := .m1; (let s : State := (let s : State := served s; (s.put WDT_SUPERVISOR m.num).put SEQ_BOOT_DONE 1 |>.put YARD_MODE 2); let s : State := { s with wdt := { s.wdt with running := true, expiring := false, dbgHalt := false, cycle := 900, openAt := 500, len := 1000 } }; s.put HDR_EN 1 0x003).put HDR_EN 0 0x003))
     State.reset, by decide +kernel⟩,
   ⟨(fun (s : State) => (let m : Master := .m1; (let s : State := (let s : State := served s; (s.put WDT_SUPERVISOR m.num).put SEQ_BOOT_DONE 1 |>.put YARD_MODE 2); let s : State := { s with wdt := { s.wdt with running := true, expiring := false, dbgHalt := false, cycle := 900, openAt := 500, len := 1000 } }; s.put HDR_EN 1 0x003).put WDT_MISSED 0))
     State.reset, by decide +kernel⟩,
   ⟨(fun (s : State) => (let m : Master := .m1; (let s : State := (let s : State := served s; (s.put WDT_SUPERVISOR m.num).put SEQ_BOOT_DONE 1 |>.put YARD_MODE 2); let s : State := { s with wdt := { s.wdt with running := true, expiring := false, dbgHalt := false, cycle := 900, openAt := 500, len := 1000 } }; s.put HDR_EN 1 0x003).put WDT_MISSED 1))
     State.reset, by decide +kernel⟩,
   ⟨(.m2 : Master), (true : Bool),
     (fun (m : Master) (en : Bool) (s : State) => (let s : State := served s; (s.put WDT_SUPERVISOR m.num).put SEQ_BOOT_DONE 1 |>.put YARD_MODE 2).put HDR_EN (bit en) 0x003)
     (.m2) (true) State.reset, by decide +kernel⟩,
   ⟨(.m2 : Master),
     (fun (m : Master) (s : State) => (let s : State := (let s : State := served s; (s.put WDT_SUPERVISOR m.num).put SEQ_BOOT_DONE 1 |>.put YARD_MODE 2); { s.put HDR_EN 0 0x003 with wdt := { s.wdt with running := false }, yard := { s.yard with trans := none, service := none, cut := false }, boot := { s.boot with booting := false } }))
     (.m2) State.reset, by decide +kernel⟩,
   ⟨(.m2 : Master),
     (fun (m : Master) (s : State) => (let s : State := (let s : State := served s; (s.put WDT_SUPERVISOR m.num).put SEQ_BOOT_DONE 1 |>.put YARD_MODE 2); { s.put HDR_EN 0 0x003 with yard := { s.yard with service := some ⟨3, 5⟩ } }))
     (.m2) State.reset, by decide +kernel⟩,
   ⟨(.m2 : Master),
     (fun (m : Master) (s : State) => ((let s : State := (let s : State := served s; (s.put WDT_SUPERVISOR m.num).put SEQ_BOOT_DONE 1 |>.put YARD_MODE 2); let s : State := { s with wdt := { s.wdt with running := true, expiring := false, dbgHalt := false, cycle := 900, openAt := 500, len := 1000 } }; s.put HDR_EN 1 0x003).put HDR_EN 1 0x003))
     (.m2) State.reset, by decide +kernel⟩⟩

theorem test_hyps_Semaphores :
    (∃ (m : Master) (n : Fin 8) (s : State),
      s.accepts m.num 0x005 (semOff n.val) 1 = true ∧
      s.semHold.length = 8 ∧
      s.get LOCK_STATE 0 n.val = 0) ∧
    (∃ (m : Master) (n : Fin 8) (s : State),
      s.accepts m.num 0x005 (semOff n.val) 1 = true ∧
      s.get LOCK_STATE 0 n.val = 1) ∧
    (∃ (m : Master) (n : Fin 8) (s : State),
      s.serves = true ∧
      s.sources m.num = true ∧
      s.priv m.num = true ∧
      s.get HDR_OWNER 0x005 = 0xFF ∧
      s.pd 0 = 2 ∧
      (s.get LOCK_STATE 0 n.val = 2 ∨ (s.get LOCK_STATE 0 n.val = 1 ∧ s.get LOCK_OWNER 0 n.val ≠ m.num))) ∧
    (∃ (m : Master) (n : Fin 8) (s : State),
      s.accepts m.num 0x005 (semOff n.val) 2 = true ∧
      s.get LOCK_STATE 0 n.val = 1) ∧
    (∃ (m : Master) (n : Fin 8) (s : State),
      s.accepts m.num 0x005 (semOff n.val) 2 = true ∧
      s.get LOCK_STATE 0 n.val = 0) ∧
    (∃ (m : Master) (n : Fin 8) (s : State),
      s.serves = true ∧
      s.sources m.num = true ∧
      s.priv m.num = true ∧
      s.get HDR_OWNER 0x005 = 0xFF ∧
      s.pd 0 = 2 ∧
      s.get LOCK_STATE 0 n.val = 2) ∧
    (∃ (m : Master) (n : Fin 8) (s : State),
      s.serves = true ∧
      s.sources m.num = true ∧
      s.priv m.num = true ∧
      s.get HDR_OWNER 0x005 = 0xFF ∧
      s.pd 0 = 2 ∧
      s.get LOCK_STATE 0 n.val = 1 ∧
      s.get LOCK_OWNER 0 n.val ≠ m.num) ∧
    (∃ (n : Fin 8) (s : State),
      s.get LOCK_STATE 0 n.val = 1 ∧
      s.semHold.getD n.val 0 = 1 ∧
      s.coreOn = true ∧
      s.get LOCK_OWNER 0 n.val < 8) ∧
    (∃ (n : Fin 8) (s : State),
      s.get LOCK_STATE 0 n.val = 1 ∧
      s.semHold.getD n.val 0 = 1 ∧
      s.coreOn = false) ∧
    (∃ (n : Fin 8) (s : State),
      (s.get LOCK_STATE 0 n.val ≠ 1 ∨ s.semHold.getD n.val 0 ≠ 1)) ∧
    (∃ (n : Fin 8) (s : State),
      s.get LOCK_STATE 0 n.val = 2) ∧
    (∃ (n : Fin 8) (s : State),
      s.get LOCK_STATE 0 n.val ≠ 2) :=
  ⟨⟨(.m2 : Master), (5 : Fin 8), (fun (n : Fin 8) (s : State) => (((served s).put HDR_OWNER 0xFF 0x005).put LOCK_STATE 0 0
    n.val).put LOCK_OWNER 0 0 n.val) (5) State.reset, by decide +kernel⟩,
   ⟨(.m2 : Master), (5 : Fin 8), (fun (m : Master) (n : Fin 8) (s : State) => (((served s).put HDR_OWNER 0xFF 0x005).put
     LOCK_STATE 1 0 n.val).put LOCK_OWNER m.num 0 n.val) (.m2) (5) State.reset, by decide +kernel⟩,
   ⟨(.m2 : Master), (5 : Fin 8), (fun (m : Master) (n : Fin 8) (s : State) => (((served s).put HDR_OWNER 0xFF 0x005).put
     LOCK_STATE (1 + s.regs.length % 2) 0 n.val).put LOCK_OWNER (m.num % 4 + 1) 0 n.val) (.m2) (5) State.reset,
     by decide +kernel⟩,
   ⟨(.m2 : Master), (5 : Fin 8), (fun (m : Master) (n : Fin 8) (s : State) => (((served s).put HDR_OWNER 0xFF 0x005).put
     LOCK_STATE 1 0 n.val).put LOCK_OWNER m.num 0 n.val) (.m2) (5) State.reset, by decide +kernel⟩,
   ⟨(.m2 : Master), (5 : Fin 8), (fun (n : Fin 8) (s : State) => (((served s).put HDR_OWNER 0xFF 0x005).put LOCK_STATE 0 0
     n.val).put LOCK_OWNER 0 0 n.val) (5) State.reset, by decide +kernel⟩,
   ⟨(.m2 : Master), (5 : Fin 8), (fun (m : Master) (n : Fin 8) (s : State) => (((served s).put HDR_OWNER 0xFF 0x005).put
     LOCK_STATE 2 0 n.val).put LOCK_OWNER (m.num % 4 + s.regs.length % 2) 0 n.val) (.m2) (5) State.reset, by decide +kernel⟩,
   ⟨(.m2 : Master), (5 : Fin 8), (fun (m : Master) (n : Fin 8) (s : State) => (((served s).put HDR_OWNER 0xFF 0x005).put
     LOCK_STATE 1 0 n.val).put LOCK_OWNER (m.num % 4 + 1) 0 n.val) (.m2) (5) State.reset, by decide +kernel⟩,
   ⟨(7 : Fin 8), (fun (n : Fin 8) (s : State) => { s.put LOCK_STATE 1 0 n.val with semHold := List.replicate 8 1 }.put LOCK_OWNER
     2 0 n.val |>.put MILL_FILLING 1 |>.put GRAN_SEQ_OPEN 1) (7) (up 0), by decide +kernel⟩,
   ⟨(0 : Fin 8), (fun (n : Fin 8) (s : State) => { (s.setPd 0 0).put LOCK_STATE 1 0 n.val with semHold := List.replicate 8 1 })
     (0) State.reset, by decide +kernel⟩,
   ⟨(0 : Fin 8), State.reset, by decide +kernel⟩,
   ⟨(0 : Fin 8), (fun (n : Fin 8) (s : State) => s.put LOCK_STATE 2 0 n.val) (0) State.reset, by decide +kernel⟩,
   ⟨(0 : Fin 8), (fun (n : Fin 8) (s : State) => s.put LOCK_STATE 1 0 n.val) (0) State.reset, by decide +kernel⟩⟩

theorem test_hyps_LogAndCrossings :
    (∃ (m : Master) (data : Word) (s : State),
      s.accepts m.num 0x006 0x044 data.toNat = true) ∧
    (∃ (m : Master) (data : Word) (s : State),
      s.serves = true ∧
      s.sources m.num = true ∧
      s.priv m.num = true ∧
      s.get HDR_OWNER 0x006 = 0xFF ∧
      s.get (lockRow 0x006) 0x006 = 0 ∧
      s.pd 0 = 2 ∧
      256 < (s.get EVT_TOTAL + 2 ^ 32 - data.toNat) % 2 ^ 32) ∧
    (∃ (dropped : Nat) (s : State),
      dropped ≠ 0 ∧
      s.coreOn = true) ∧
    (∃ (dropped : Nat) (s : State),
      dropped ≠ 0 ∧
      s.coreOn = false) ∧
    (∃ (m : Master) (x : Fin 13) (s : State),
      s.accepts m.num 0x00C (0x048 + 16 * x.val) 0x100 = true) ∧
    (∃ (m : Master) (data : Nat) (l : List (Nat × Nat × Nat)) (s : State),
      s.boot.inReset = false ∧
      s.safe = false ∧
      s.coreOn = true ∧
      s.host.posted = (m.num, regAddr 0x001 0x068, data) :: l ∧
      { s with host := { s.host with posted := l } }.accepts m.num 0x001 0x068 data = true ∧
      l = []) ∧
    (∃ (m : Nat) (addr : Nat) (data : Nat) (l : List (Nat × Nat × Nat)) (k : Nat) (s : State),
      s.boot.inReset = false ∧
      s.safe = false ∧
      s.coreOn = true ∧
      s.host.posted = (m, addr, data) :: l ∧
      ({ s with host := { s.host with posted := l } }.writeWord m addr data).2 = k) ∧
    (∃ (s : State),
      (s.host.posted = [] ∨ s.boot.inReset = true ∨ s.safe = true ∨ s.coreOn = false)) ∧
    (∃ (m : Master) (addr : Word) (p : Nat) (off : Nat) (s : State),
      s.sources m.num = true ∧
      target addr.toNat = .page p off ∧
      s.coreOn = true ∧
      p < 65536) ∧
    (∃ (m : Master) (addr : Word) (p : Nat) (off : Nat) (r : Row) (k : Nat) (s : State),
      s.sources m.num = true ∧
      target addr.toNat = .page p off ∧
      s.coreOn = true ∧
      p < 65536 ∧
      wordRows p off = [(r, k)] ∧
      (r.acc = .rw ∨ r.acc = .rww ∨ r.acc = .rw1) ∧
      p ≠ 0x006 ∧
      0x040 ≤ off) ∧
    (∃ (m : Master) (addr : Word) (b : Nat) (a : Nat) (s : State),
      (s.sources m.num = false ∨ target addr.toNat = .nowhere ∨ target addr.toNat = .slot a ∨ target addr.toNat = .sram a ∨ target
        addr.toNat = .loft b a ∨ target addr.toNat = .gran a)) :=
  ⟨⟨(.m2 : Master), (0xffffffff#32 : Word), (fun (s : State) => (served s)) State.reset, by decide +kernel⟩,
   ⟨(.m4 : Master), (0x4e#32 : Word), (fun (s : State) => (served s).put HDR_OWNER 0xFF 0x006) State.reset, by decide +kernel⟩,
   ⟨(5 : Nat), (up 0), by decide +kernel⟩,
   ⟨(17 : Nat), (fun (s : State) => (s.setPd 0 0)) State.reset, by decide +kernel⟩,
   ⟨(.m2 : Master), (2 : Fin 13), (fun (x : Fin 13) (s : State) => (served s).put SLUICE_PEAK 9 0 x.val) (2) State.reset,
     by decide +kernel⟩,
   ⟨(.m2 : Master), (3237 : Nat), ([] : List (Nat × Nat × Nat)), (fun (m : Master) (data : Nat) (s : State) =>
     { (served s) with host := { ((served s)).host with posted := [(m.num, regAddr 0x001 0x068, data)] } }) (.m2) (3237)
     State.reset, by decide +kernel⟩,
   ⟨(4 : Nat), (1073754196 : Nat), (63395 : Nat), ([(2, 1073746024, 7)] : List (Nat × Nat × Nat)), (17 : Nat), (fun (m : Nat)
     (addr : Nat) (data : Nat) (l : List (Nat × Nat × Nat)) (s : State) =>
     { (served s) with host := { ((served s)).host with posted := (m, addr, data) :: l } }) (4) (1073754196) (63395) ([(2,
     1073746024, 7)]) State.reset, by decide +kernel⟩,
   ⟨(fun (s : State) => if s.regs.length % 2 = 0 then (served s) else (s.setPd 0 0)) State.reset, by decide +kernel⟩,
   ⟨(.m2 : Master), (0x40002058#32 : Word), (2 : Nat), (88 : Nat), (fun (m : Master) (addr : Word) (s : State) =>
     { (served s) with host := { ((served s)).host with posted := [(m.num, addr.toNat, 5), (4, addr.toNat, 5)] } }) (.m2)
     (0x40002058#32) State.reset, by decide +kernel⟩,
   ⟨(.m2 : Master), (0x40003040#32 : Word), (3 : Nat), (64 : Nat),
     ({ page := 3, pages := 1, off := 64, count := 1, stride := 0, ocount := 1, ostride := 0, lo := 0, wid := 16, acc := Access.rww, cls := Cls.y, live := false, reset := 1000, rtab := [] }
     : Row), (0 : Nat), (fun (s : State) => (served s)) State.reset, by decide +kernel⟩,
   ⟨(.m4 : Master), (0x70000044#32 : Word), (0 : Nat), (68 : Nat), (fun (s : State) => (served s)) State.reset,
     by decide +kernel⟩⟩

theorem test_hyps_PinsAndTestPort :
    (∃ (m : Master) (k : Fin 24) (data : Word) (s : State),
      s.accepts m.num 0x007 (0x040 + 4 * k.val) data.toNat = true) ∧
    (∃ (m : Master) (k : Fin 24) (data : Word) (s : State),
      s.serves = true ∧
      s.sources m.num = true ∧
      s.coreOn = true ∧
      s.writeCheck m.num 0x007 (0x040 + 4 * k.val) data.toNat = some (⟨cPIN, 0, false⟩, true)) ∧
    (∃ (m : Master) (data : Word) (s : State),
      s.accepts m.num 0x007 0x0A4 data.toNat = true) ∧
    (∃ (m : Master) (data : Word) (s : State),
      s.serves = true ∧
      s.sources m.num = true ∧
      s.coreOn = true ∧
      s.writeCheck m.num 0x007 0x0A4 data.toNat = some (⟨cPIN, 0, false⟩, true)) ∧
    (∃ (s : State),
      s.tapOn = true ∧
      s.tapMay = true) ∧
    (∃ (s : State),
      s.tapOn = true ∧
      s.tapMay = false) ∧
    (∃ (i : Instr) (code : Nat) (s : State),
      s.tapOn = true ∧
      (i, code) ∈ [(Instr.tapSamplePreload, 1), (.tapIdcode, 2), (.tapBypass, 15)]) ∧
    (∃ (s : State),
      s.tapOn = true ∧
      (s.reachable = true ∨ s.safe = true)) ∧
    (∃ (s : State),
      s.tapOn = true ∧
      (s.reachable = true ∨ s.safe = true)) ∧
    (∃ (addr : Word) (data : Word) (s : State),
      s.tapOn = true ∧
      ((s.put PIN_TAP_IR 8).put PIN_TAP_EXTEST 0).accepts 4 0x002 0x048 data.toNat = true ∧
      addr.toNat = regAddr 0x002 0x048) ∧
    (∃ (s : State),
      s.tapOn = true ∧
      s.reachable = false ∧
      s.safe = false) ∧
    (∃ (s : State),
      s.tapOn = true ∧
      s.tapMay = true) ∧
    (∃ (s : State),
      s.tapOn = true ∧
      s.tapMay = false) ∧
    (∃ (s : State),
      s.tapOn = true ∧
      s.on PIN_TAP_HALT = true) ∧
    (∃ (s : State),
      s.tapOn = true ∧
      s.on PIN_TAP_HALT = false) ∧
    (∃ (s : State),
      s.tapOn = true) ∧
    (∃ (s : State),
      s.tapOn = true ∧
      s.on PIN_TAP_HALT = false) ∧
    (∃ (i : Instr) (w : Bool) (addr : Word) (data : Word) (s : State),
      s.tapOn = false ∧
      i ∈ [Instr.tapExtest, .tapSamplePreload, .tapIdcode, .tapBypass, .tapRegacc w addr data, .tapHalt w, .tapReset]) :=
  ⟨⟨(.m2 : Master), (21 : Fin 24), (0x5#32 : Word),
    (fun (k : Fin 24) (data : Word) (s : State) => (let s : State := (served s); if data.toNat % 2 = 0 then (s.put PIN_FUNC 0xF 0 k.val).put PIN_PAD_OWNER 7 0 k.val else s))
    (21) (0x5#32) State.reset, by decide +kernel⟩,
   ⟨(.m2 : Master), (21 : Fin 24), (0x5#32 : Word), (fun (m : Master) (k : Fin 24) (s : State) => ((served s).put PIN_PAD_OWNER
     (m.num % 4 + 1) 0 k.val).put HDR_OWNER 0xFF 0x007) (.m2) (21) State.reset, by decide +kernel⟩,
   ⟨(.m2 : Master), (0xffffffff#32 : Word), (fun (s : State) => (List.range 24).foldl (fun s k => ((s.put PIN_FUNC (k % 3) 0
     k).put PIN_INV 0 0 k).put PIN_OD 0 0 k) ((served s))) State.reset, by decide +kernel⟩,
   ⟨(.m2 : Master), (0xffffffff#32 : Word), (fun (m : Master) (s : State) => ((served s).put PIN_PAD_OWNER (m.num % 4 + 1) 0
     5).put HDR_OWNER 0xFF 0x007) (.m2) State.reset, by decide +kernel⟩,
   ⟨(fun (s : State) => (let s : State := (served s).put YARD_MODE 3; { s with boot := { s.boot with vddio := true }, yard := { s.yard with pstate := 0 } }))
     State.reset, by decide +kernel⟩,
   ⟨(fun (s : State) => (let s : State := (served s).put YARD_MODE 2; { s with boot := { s.boot with vddio := true }, yard := { s.yard with pstate := 0 } }))
     State.reset, by decide +kernel⟩,
   ⟨(Sys2Proof.Instr.tapSamplePreload : Instr), (1 : Nat),
     (fun (s : State) => (let s : State := (served s).put YARD_MODE 2; { s with boot := { s.boot with vddio := true }, yard := { s.yard with pstate := 0 } }))
     State.reset, by decide +kernel⟩,
   ⟨(fun (s : State) => (let s : State := (served s).put YARD_MODE 2; { s with boot := { s.boot with vddio := true }, yard := { s.yard with pstate := 0 } }))
     State.reset, by decide +kernel⟩,
   ⟨(fun (s : State) => (let s : State := (served s).put YARD_MODE 2; { s with boot := { s.boot with vddio := true }, yard := { s.yard with pstate := 0 } }))
     State.reset, by decide +kernel⟩,
   ⟨(0x40002048#32 : Word), (0x15a#32 : Word),
     (fun (s : State) => (let s : State := (served s).put YARD_MODE 2; { s with boot := { s.boot with vddio := true }, yard := { s.yard with pstate := 0 } }))
     State.reset, by decide +kernel⟩,
   ⟨(fun (s : State) => (let s : State := (served s).put YARD_MODE 2; let s : State := { s with boot := { s.boot with served := false } }; { s with boot := { s.boot with vddio := true }, yard := { s.yard with pstate := 0 } }))
     State.reset, by decide +kernel⟩,
   ⟨(fun (s : State) => (let s : State := (served s).put YARD_MODE 3; { s with boot := { s.boot with vddio := true }, yard := { s.yard with pstate := 0 } }))
     State.reset, by decide +kernel⟩,
   ⟨(fun (s : State) => (let s : State := (served s).put YARD_MODE 2; { s with boot := { s.boot with vddio := true }, yard := { s.yard with pstate := 0 } }))
     State.reset, by decide +kernel⟩,
   ⟨(fun (s : State) => (let s : State := (served s).put YARD_MODE 3; { s with boot := { s.boot with vddio := true }, yard := { s.yard with pstate := 0 } }).put PIN_TAP_HALT 1)
     State.reset, by decide +kernel⟩,
   ⟨(fun (s : State) => (let s : State := (served s).put YARD_MODE 3; { s with boot := { s.boot with vddio := true }, yard := { s.yard with pstate := 0 } }).put PIN_TAP_HALT 0)
     State.reset, by decide +kernel⟩,
   ⟨(fun (s : State) => (((let s : State := (served s).put YARD_MODE 3; { s with boot := { s.boot with vddio := true }, yard := { s.yard with pstate := 0 } }).put PIN_TAP_HALT 1).put LOCK_STATE 1 0 2).put LOCK_OWNER 4 0 2)
     State.reset, by decide +kernel⟩,
   ⟨(fun (s : State) => (((let s : State := (served s).put YARD_MODE 3; { s with boot := { s.boot with vddio := true }, yard := { s.yard with pstate := 0 } }).put PIN_TAP_HALT 0).put LOCK_STATE 1 0 2).put LOCK_OWNER 4 0 2)
     State.reset, by decide +kernel⟩,
   ⟨(Sys2Proof.Instr.tapBypass : Instr), (false : Bool), (0x0#32 : Word), (0x0#32 : Word), (fun (s : State) =>
     { s with boot := { s.boot with vddio := false } }) State.reset, by decide +kernel⟩⟩

end Sys2Proof.Tests
end

section
/-! What reset leaves (R7, R148), and what a commit of FPA does beyond its own page: a change of format clears the column noise of
MILL (R246). -/

namespace Sys2Proof.Machine

/-! ### The state after reset -/

/-- No register is listed after reset, so that each field reads the Reset column of its row (R7). -/
@[simp] theorem State.get_reset (r : Row) (n i : Nat) : State.reset.get r n i = r.rst i := rfl

/-- Nothing is staged after reset, so that a staged field reads as it is in force. -/
@[simp] theorem State.getStaged_reset (r : Row) (n i : Nat) : State.reset.getStaged r n i = r.rst i := rfl

/-- While the internal reset is held the arbiter serves no access (R66). -/
theorem State.serves_of_inReset {s : State} (h : s.boot.inReset = true) : s.serves = false := by
  simp [State.serves, State.reachable, h]

/-- Settles O2: no field is listed after reset, and the values named are the Reset columns of their rows. -/
theorem resetState : Obligations.ResetState := by
  unfold Obligations.ResetState
  refine ⟨fun r n i => ⟨State.get_reset r n i, State.getStaged_reset r n i⟩, ?_⟩
  have hboot : State.reset.boot.inReset = true := rfl
  exact ⟨rfl, State.get_reset SYS_PRIV 0 0, fun p => State.get_reset HDR_OWNER p 0, State.get_reset YARD_SECONDS 0 0,
    fun n _ => State.get_reset LOCK_STATE 0 n, State.get_reset EVT_TOTAL 0 0, State.get_reset EVT_ACK 0 0, hboot,
    State.serves_of_inReset hboot⟩

/-! ### The commit of FPA and the column noise -/

/-- A column's CN that is 0 stays 0 when a column's CN is cleared, the same or another. -/
theorem State.get_put_cn_zero {s : State} {c : Nat} (h : s.get MILL_CN 0 c = 0) (c' : Nat) :
    (s.put MILL_CN 0 0 c').get MILL_CN 0 c = 0 := by
  by_cases hk : MILL_CN.key 0 c = MILL_CN.key 0 c'
  · unfold State.get
    rw [hk]
    exact State.get_put_same s MILL_CN 0 0 c'
  · exact (State.get_put_ne s hk 0).trans h

/-- Clearing the CN of some columns leaves a column at 0 that was at 0 or is among them. -/
theorem State.get_foldl_put_cn_zero (l : List Nat) {s : State} {c : Nat} (h : s.get MILL_CN 0 c = 0 ∨ c ∈ l) :
    (l.foldl (fun s c => s.put MILL_CN 0 0 c) s).get MILL_CN 0 c = 0 := by
  induction l generalizing s with
  | nil => simpa using h
  | cons c' l ih =>
    refine ih ?_
    rcases h with h | h
    · exact .inl (State.get_put_cn_zero h c')
    · rcases List.mem_cons.1 h with rfl | h
      · exact .inl (State.get_put_same s MILL_CN 0 0 c)
      · exact .inr h

/-- Clearing CN clears it of every column (R246). -/
theorem State.get_zeroCn (s : State) {c : Nat} (h : c < 640) : s.zeroCn.get MILL_CN 0 c = 0 :=
  State.get_foldl_put_cn_zero _ (.inr (List.mem_range.2 h))

/-- FPA's commit of a change to WIDTH, HEIGHT or MAP clears CN of every column (R246). -/
theorem State.get_cn_fpaCommit {s : State} (hgo : s.going 0x010 = true) (hch : s.formatChange = true) {c : Nat} (h : c < 640) :
    s.fpaCommit.get MILL_CN 0 c = 0 := by
  unfold State.fpaCommit
  simp only [hgo, hch, Bool.and_self, if_true]
  exact State.get_zeroCn _ h

/-- At the array's boundary FPA takes its pending commit, whatever stream is named (R10, R54). -/
theorem State.commitBoundary_fpa {s : State} (hgo : s.going 0x010 = true) (hheld : s.commitHeld = false)
    (hat : s.atBoundary 0x010 = true) (st : Nat) : s.commitBoundary 0x010 st = s.fpaCommit := by
  simp [State.commitBoundary, State.commitNow, State.commitFull, hgo, hheld, hat, pDISP, pCSI, pPVP]

/-- COMMIT_APPLY answers the state after the boundary of the page or of its stream. -/
theorem exec_commitApply (page : Fin 256) (stream : Fin 4) (s : State) :
    exec (.commitApply page stream) s = .next (s.commitBoundary page.val stream.val) := rfl

/-- A HEAD in SERVICE with the array on and between frames: FPA's GO is pending with a new MAP, and column 0 carries a noise
estimate of 1. -/
def formatCommitDue : State :=
  (((({ State.reset with boot := { State.reset.boot with inReset := false, served := true } }.put YARD_PD_STATE 0b1010).put
    YARD_MODE SERVICE).put HDR_GO 1 0x010).put MILL_CN 1).stage FPA_MAP 1

/-- Refutes O12: on `formatCommitDue` COMMIT_APPLY of FPA (page 0x010) clears the column noise CN[0], as R246 asks, which is a field of
MILL (page 0x050) and so no field that the first clause lets the command change. -/
theorem not_commitAndParity : ¬ Obligations.CommitAndParity := by
  unfold Obligations.CommitAndParity
  intro ⟨hone, _⟩
  have hgo : formatCommitDue.going 0x010 = true := by decide
  have hat : formatCommitDue.atBoundary 0x010 = true := by decide
  have hcn : formatCommitDue.get MILL_CN 0 0 = 1 := by decide
  have hch : formatCommitDue.formatChange = true := by decide
  obtain ⟨t, hexec, _, _, _, _, hsame, _⟩ :=
    hone 0x010 0 formatCommitDue hgo hat (by decide) rfl (.inl (by decide)) (by decide) (by decide)
  have ht : t = formatCommitDue.fpaCommit := by
    have hfpa := State.commitBoundary_fpa hgo rfl hat 0
    rw [exec_commitApply] at hexec
    exact (Host.Outcome.next.inj hexec).symm.trans hfpa
  have hkept : t.get MILL_CN 0 0 = formatCommitDue.get MILL_CN 0 0 :=
    (hsame (by decide) (MILL_CN.key 0 0) 0 (by decide) (by decide)).1
  rw [ht, State.get_cn_fpaCommit hgo hch (by decide), hcn] at hkept
  exact absurd hkept (by decide)

end Sys2Proof.Machine
end

section
/-! Concrete states that refute O17, O41, O45, O49 and O51. Each is written out and evaluated: what a command changes beyond what its clause
lets it change, and in O49 a count that the field of the log cannot hold. -/

namespace Sys2Proof.Machine

/-! ### O17: the boot repairs an erase that a SOFT reset left open -/

/-- A SOFT reset is released while the journal of the Granary shows an erase of sector 1 open (R159), where one byte is programmed. -/
def softResetOverOpenErase : State :=
  { State.reset.put YARD_PD_STATE 1 with
    boot := { State.reset.boot with asserted := 16 }
    gran := { State.reset.gran with mem := [(0x1000, 0)], journal := [(0, 1)] } }

/-- INTERNAL_RESET_RELEASE answers the released state. -/
theorem exec_internalResetRelease (s1 s2 s3 s4 addr : Fin 4) (hostsel : Bool) (s : State) :
    exec (.internalResetRelease s1 s2 s3 s4 addr hostsel) s =
      .next (s.resetRelease s1.val s2.val s3.val s4.val addr.val hostsel) := rfl

/-- Refutes O17: on `softResetOverOpenErase` the boot that the release begins completes the open erase, as R159 asks, so that the byte at
0x1000 of the Granary changes, which the sixth clause does not let it. -/
theorem not_bootAndStraps : ¬ Obligations.BootAndStraps := by
  unfold Obligations.BootAndStraps
  intro ⟨_, _, _, _, _, hsoft, _⟩
  have hmay : softResetOverOpenErase.mayBoot = true := by decide +kernel
  have hkind : strongest softResetOverOpenErase.boot.asserted = kSOFT := by decide
  obtain ⟨t, hexec, _, _, _, _, _, _, hgran, _⟩ := hsoft 0 0 0 0 0 false softResetOverOpenErase hmay rfl (.inl hkind)
  have ht : softResetOverOpenErase.resetRelease 0 0 0 0 0 false = t :=
    Host.Outcome.next.inj ((exec_internalResetRelease 0 0 0 0 0 false _).symm.trans hexec)
  have herased : (softResetOverOpenErase.resetRelease 0 0 0 0 0 false).gran.byte 0x1000 ≠
      softResetOverOpenErase.gran.byte 0x1000 := by decide +kernel
  exact herased (ht ▸ hgran 0x1000)

/-! ### O41: POC_CLR takes a LINK out of UP -/

/-- A CAB whose LINK0 is UP, with the path off and a latched backfeed, the head end long having fed itself. -/
def latchedWhileUp : State :=
  { (((((((State.reset.put YARD_PD_STATE 0x22).put SYS_PRIV 0xF).put SYS_ROLE CAB).put HDR_EN 1 0x070).put LINK_STATE 5).put
      LINK_POC_EN 1).put LINK_POC_CAUSE 2) with
    boot := { State.reset.boot with inReset := false, served := true }
    link := { LinkS.idle with pocLatched := true } :: List.replicate 3 LinkS.idle }

/-- POC_CLR answers the state after its write. -/
theorem exec_pocClr (m : Master) (n : Fin 4) (persist : Bool) (s : State) :
    exec (.pocClr m n persist) s = .next (s.pocClrWrite m.num n.val persist) := rfl

/-- Refutes O41: on `latchedWhileUp` POC_CLR starts the port again and so takes it out of UP, which raises INT_RAW of the page of LINK0
(0x070), and the seventeenth clause does not list that field among those that may change. -/
theorem not_powerOverCoax : ¬ Obligations.PowerOverCoax := by
  unfold Obligations.PowerOverCoax
  intro ⟨_, _, _, _, _, _, _, _, _, _, _, _, _, _, _, _, hclr, _⟩
  obtain ⟨t, hexec, _, _, _, _, _, hsame, _⟩ :=
    hclr .m1 0 false latchedWhileUp (by decide +kernel) (by decide +kernel) (by decide +kernel) (by decide +kernel)
      (by decide +kernel) (by decide +kernel) (by decide +kernel)
  have ht : latchedWhileUp.pocClrWrite 1 0 false = t := Host.Outcome.next.inj ((exec_pocClr .m1 0 false _).symm.trans hexec)
  have hraised : (latchedWhileUp.pocClrWrite 1 0 false).regs.find (HDR_INT_RAW.key 0x070 0) 0 ≠
      latchedWhileUp.regs.find (HDR_INT_RAW.key 0x070 0) 0 := by decide +kernel
  exact hraised (ht ▸ (hsame (HDR_INT_RAW.key 0x070 0) 0 (by decide) (by decide)).1)

/-! ### O45: a reset request that finds the message part full -/

/-- A CAB at LINK0 whose message part of the Stall is full: 170 messages of 12 bytes wait in 2 KiB (Table SLU-3). -/
def fullMessagePart : State :=
  { (((State.reset.put YARD_PD_STATE 0x22).put SYS_PRIV 0xF).put SYS_ROLE CAB).put HDR_EN 1 0x070 with
    boot := { State.reset.boot with inReset := false, served := true }
    link := { LinkS.idle with waiting := List.replicate 170 ⟨0x30, 0, [0], 0⟩ } :: List.replicate 3 LinkS.idle }

/-- RRESET is the write of offset 0x138 of the page of its port. -/
theorem exec_rreset (m : Master) (n : Fin 4) (data : Word) (s : State) :
    exec (.rreset m n data) s = .next (s.quiet.command m.num (linkPage n.val) 0x138 data.toNat) := rfl

/-- Refutes O45: on `fullMessagePart` the message that RRESET issues finds no room, which the crossing of LINK0 counts in its STALLS
(R561), a field of SLUICE that the twentieth clause does not let the command change. -/
theorem not_tunnelMessages : ¬ Obligations.TunnelMessages := by
  unfold Obligations.TunnelMessages
  intro ⟨_, _, _, _, _, _, _, _, _, _, _, _, _, _, _, _, _, _, _, hreset, _⟩
  obtain ⟨t, hexec, _, _, hsame, _⟩ :=
    hreset .m1 0 0x5A fullMessagePart (by decide +kernel) (by decide +kernel) (by decide +kernel) (by decide +kernel)
  have ht : fullMessagePart.quiet.command 1 0x070 0x138 0x5A = t :=
    Host.Outcome.next.inj ((exec_rreset .m1 0 0x5A _).symm.trans hexec)
  have hstalled : (fullMessagePart.quiet.command 1 0x070 0x138 0x5A).regs.find (SLUICE_STALLS.key 0 5) 0 ≠
      fullMessagePart.regs.find (SLUICE_STALLS.key 0 5) 0 := by decide +kernel
  exact hstalled (ht ▸ (hsame (SLUICE_STALLS.key 0 5) 0 (by decide) (by decide)).1)

/-! ### O49: a count of attempts that the log's data cannot hold -/

/-- An attention transaction that counts 2 ^ 16 attempts. No run reaches it, since ATTN_RETRY has too few bits; the clause is stated of
every state. -/
def attemptsPastField : State :=
  { State.reset.put YARD_PD_STATE 2 with host := { HostS.idle with attnTries := 2 ^ 16 } }

/-- ATTN_ATTEMPT answers the state after one attempt. -/
theorem exec_attnAttempt (outcome : Fin 3) (s : State) : exec (.attnAttempt outcome) s = .next (s.attnTry outcome.val) := rfl

/-- Refutes O49: on `attemptsPastField` the entry that giving up logs cannot show the attempts, as the fifth clause has it, since DATA of an
entry holds 16 bits. -/
theorem not_attentionAndSpi : ¬ Obligations.AttentionAndSpi := by
  unfold Obligations.AttentionAndSpi
  intro ⟨_, _, _, _, hgiveUp, _⟩
  obtain ⟨t, hexec, _, _, _, hlog, _⟩ :=
    hgiveUp 1 attemptsPastField (by decide) (by decide) (by decide) (by decide)
  have ht : attemptsPastField.attnTry 1 = t := Host.Outcome.next.inj ((exec_attnAttempt 1 _).symm.trans hexec)
  have hcut : (attemptsPastField.attnTry 1).lastEvent 0x0810 (2 ^ 16) = false := by decide +kernel
  rw [ht] at hcut
  exact absurd (hlog.symm.trans hcut) (by decide)

/-! ### O51: an item that writes the shadow memory -/

/-- A WRITE item of one word, 1, to address 0x50000200 of the shadow SRAM. -/
def sramItem : List Nat := [0x01020000, 0x50000200, 1]

/-- Queue 1 holds `sramItem`, its master privileged and accesses served. -/
def sramItemNext : State :=
  { ((State.reset.put YARD_PD_STATE 2).put SYS_PRIV 0xF) with
    boot := { State.reset.boot with inReset := false, served := true }
    host := { HostS.idle with
      queues := [Queue.empty, { Queue.empty with items := [sramItem] }, Queue.empty, Queue.empty] } }

/-- ITEM_WRITE carries out the item that is next where it is a WRITE. -/
theorem exec_itemWrite (s : State) : exec .itemWrite s = .next (s.itemRun 0x01 State.doWrite) := rfl

/-- Refutes O51: on `sramItemNext` the item writes the word into the SRAM and completes with OK, so that the SRAM changes, which the third
clause, stated of every address, does not let it. -/
theorem not_accessItems : ¬ Obligations.AccessItems := by
  unfold Obligations.AccessItems
  intro ⟨_, _, hwrite, _⟩
  obtain ⟨t, hexec, _, _, _, _, _, hsram⟩ :=
    hwrite 1 sramItem cOK 1 sramItemNext (by decide +kernel) (by decide) (by decide) (by decide) (by decide +kernel)
      (by decide +kernel) (by decide +kernel)
  have ht : sramItemNext.itemRun 0x01 State.doWrite = t := Host.Outcome.next.inj ((exec_itemWrite _).symm.trans hexec)
  have hwritten : (sramItemNext.itemRun 0x01 State.doWrite).shadow.sram.read 0x200 0 ≠
      sramItemNext.shadow.sram.read 0x200 0 := by decide +kernel
  exact hwritten (ht ▸ hsram 0x200)

end Sys2Proof.Machine
end

section
/-! What an event leaves and what it writes: the log of Table EVT-1, entry by entry (R542 to R546). -/

namespace Sys2Proof.Machine

/-! ### Keys of the log and of the refusals -/

/-- A page's key is that of page 0, moved by the pages between. -/
theorem Row.key_page (r : Row) (n i : Nat) : r.key n i = n * 0x20000 + r.key 0 i := by
  unfold Row.key
  omega

/-- Fields at different places of their pages have different keys, whatever the pages. -/
theorem Row.key_ne_of_place {r r' : Row} {i i' : Nat} (h : r'.key 0 i' % 0x20000 ≠ r.key 0 i % 0x20000) (n n' : Nat) :
    r'.key n' i' ≠ r.key n i := by
  rw [Row.key_page r, Row.key_page r']
  omega

/-- A field at another place of its page reads as before a write. -/
theorem State.get_put_place (s : State) {r r' : Row} {i i' : Nat} (h : r'.key 0 i' % 0x20000 ≠ r.key 0 i % 0x20000) (v n n' : Nat) :
    (s.put r v n i).get r' n' i' = s.get r' n' i' :=
  State.get_put_ne s (Row.key_ne_of_place h n n') v

/-- The keys of the 256 entries of the log (Table EVT-1). -/
abbrev InRing (k : Nat) : Prop := 0x6800 * 32 ≤ k ∧ k < 0x7000 * 32

/-- The keys outside the entries that logging one may change: its counts, the interrupt causes of EVT and the number that a head
gives the entry. -/
def logCountKeys : List Nat :=
  [EVT_OVF.key 0 0, EVT_OVERWRITTEN.key 0 0, HDR_INT_RAW.key 6 0, EVT_TOTAL.key 0 0, LINKC_EVSEQ.key 0 0]

/-- The rows of an entry of the log. -/
def ringRows : List Row := [EVT_TS, EVT_CODE, EVT_DATA]

/-- An entry takes 8 bytes of the ring. -/
theorem slotKey {r : Row} (hr : r ∈ ringRows) (i : Nat) : r.key 0 i = r.key 0 0 + 256 * (i % 256) := by
  simp only [ringRows, List.mem_cons, List.not_mem_nil, or_false] at hr
  rcases hr with rfl | rfl | rfl <;> simp only [Row.key, Row.offset, EVT_TS, EVT_CODE, EVT_DATA] <;> omega

theorem inRing_slot {r : Row} (hr : r ∈ ringRows) (i : Nat) : InRing (r.key 0 i) := by
  have hfirst : ∀ r ∈ ringRows, 0x6800 * 32 ≤ r.key 0 0 ∧ r.key 0 0 < 0x6800 * 32 + 256 := by decide
  have h := hfirst r hr
  rw [slotKey hr]
  omega

/-- Different slots, and different rows of one slot, have different keys. -/
theorem slotKey_ne {r r' : Row} (hr : r ∈ ringRows) (hr' : r' ∈ ringRows) {i j : Nat} (h : r' ≠ r ∨ j % 256 ≠ i % 256) :
    r'.key 0 j ≠ r.key 0 i := by
  have hfirst : ∀ r ∈ ringRows, 0x6800 * 32 ≤ r.key 0 0 ∧ r.key 0 0 < 0x6800 * 32 + 256 := by decide
  have hrows : ∀ r ∈ ringRows, ∀ r' ∈ ringRows, r' ≠ r → r'.key 0 0 ≠ r.key 0 0 := by decide
  have h1 := hfirst r hr
  have h2 := hfirst r' hr'
  have h3 := hrows r hr r' hr'
  rw [slotKey hr, slotKey hr']
  rcases h with h | h
  · have := h3 h; omega
  · omega

/-! ### Logging one entry -/

/-- What logging into a full ring counts (R544). -/
def State.logFull (s : State) : State :=
  if (s.get EVT_TOTAL + 2 ^ 32 - s.get EVT_ACK) % 2 ^ 32 ≥ 256 then ((s.put EVT_OVF 1).inc EVT_OVERWRITTEN).raise 6 2 else s

/-- An entry is written into its slot (R543). -/
def State.slotPut (s : State) (e : Event) (i : Nat) : State :=
  ((s.put EVT_TS e.ts 0 i).put EVT_CODE e.code 0 i).put EVT_DATA e.data 0 i

/-- Logging an entry changes registers in four parts: the count of a full ring, the slot, TOTAL with its cause, and the number. -/
theorem State.logSlot_regs (s : State) (e : Event) :
    (s.logSlot e).regs =
      ((((s.logFull.slotPut e (s.get EVT_TOTAL % 256)).incWrap EVT_TOTAL).raise 6 1).numberEntry (s.get EVT_TOTAL)).regs := by
  unfold State.logSlot State.logFull State.slotPut
  simp only
  split_ifs <;> rfl

theorem State.numberEntry_find (s : State) (total : Nat) {k : Nat} (h : k ≠ LINKC_EVSEQ.key 0 0) (d : Nat) :
    (s.numberEntry total).regs.find k d = s.regs.find k d := by
  unfold State.numberEntry
  split_ifs
  · exact State.put_find_ne h d
  · rfl

theorem State.slotPut_find (s : State) (e : Event) {i : Nat} {k : Nat} (h : ∀ r ∈ ringRows, k ≠ r.key 0 i) (d : Nat) :
    (s.slotPut e i).regs.find k d = s.regs.find k d := by
  unfold State.slotPut
  rw [State.put_find_ne (h EVT_DATA (by decide)), State.put_find_ne (h EVT_CODE (by decide)),
    State.put_find_ne (h EVT_TS (by decide))]

theorem State.logFull_find (s : State) {k : Nat} (h1 : k ≠ EVT_OVF.key 0 0) (h2 : k ≠ EVT_OVERWRITTEN.key 0 0)
    (h3 : k ≠ HDR_INT_RAW.key 6 0) (d : Nat) : s.logFull.regs.find k d = s.regs.find k d := by
  unfold State.logFull
  split_ifs
  · exact (State.put_find_ne h3 d).trans ((State.put_find_ne h2 d).trans (State.put_find_ne h1 d))
  · rfl

/-- Logging an entry leaves every key but those of its slot, of the counts and of the number. -/
theorem State.logSlot_find (s : State) (e : Event) {k : Nat} (hc : k ∉ logCountKeys)
    (hr : ∀ r ∈ ringRows, k ≠ r.key 0 (s.get EVT_TOTAL % 256)) (d : Nat) :
    (s.logSlot e).regs.find k d = s.regs.find k d := by
  simp only [logCountKeys, List.mem_cons, List.not_mem_nil, or_false, not_or] at hc
  obtain ⟨hovf, hover, hraw, htot, hseq⟩ := hc
  rw [State.logSlot_regs, State.numberEntry_find _ _ hseq]
  exact (State.put_find_ne hraw d).trans ((State.put_find_ne htot d).trans
    ((State.slotPut_find _ e hr d).trans (s.logFull_find hovf hover hraw d)))

/-- A field outside the ring does not depend on what the slot holds. -/
theorem State.slotPut_get (s : State) (e : Event) (i : Nat) {r : Row} {n j : Nat} (h : ¬InRing (r.key n j)) :
    (s.slotPut e i).get r n j = s.get r n j := by
  refine State.slotPut_find s e (fun r' hr' hk => h ?_) _
  rw [hk]
  exact inRing_slot hr' i

/-- The slot reads as the entry was written, cut to the widths of its fields. -/
theorem State.slotPut_get_slot (s : State) (e : Event) (i : Nat) :
    (s.slotPut e i).get EVT_TS 0 i = e.ts % 2 ^ 32 ∧ (s.slotPut e i).get EVT_CODE 0 i = e.code % 2 ^ 16 ∧
      (s.slotPut e i).get EVT_DATA 0 i = e.data % 2 ^ 16 := by
  have hne : ∀ {r r' : Row}, r ∈ ringRows → r' ∈ ringRows → r' ≠ r → r'.key 0 i ≠ r.key 0 i :=
    fun hr hr' h => slotKey_ne hr hr' (.inl h)
  unfold State.slotPut
  refine ⟨?_, ?_, State.get_put_same ..⟩
  · rw [State.get_put_ne _ (hne (by decide) (by decide) (by decide)), State.get_put_ne _ (hne (by decide) (by decide) (by decide))]
    exact State.get_put_same ..
  · rw [State.get_put_ne _ (hne (by decide) (by decide) (by decide))]
    exact State.get_put_same ..

/-! ### What an event leaves and what it writes (R542 to R546) -/

/-- The state that an event logs into: attention has counted it. -/
def State.attnCounted (s : State) : State := { s with host := { s.host with attnEvents := min 31 (s.host.attnEvents + 1) } }

theorem State.event_on {s : State} (h : s.coreOn = true) (code data : Nat) :
    s.event code data = s.attnCounted.logSlot ⟨s.get YARD_SECONDS, code % 2 ^ 16, data % 2 ^ 16⟩ := by
  have h' : s.attnCounted.coreOn = true := h
  unfold State.event
  exact if_pos h'

/-- While PD_CORE is off an event waits in the Yard buffer, or is dropped where eight wait (R546). -/
theorem State.event_off {s : State} (h : s.coreOn = false) (code data : Nat) :
    s.event code data =
      if s.log.yardBuf.length < 8 then
        { s.attnCounted with
          log := { s.log with yardBuf := s.log.yardBuf ++ [⟨s.get YARD_SECONDS, code % 2 ^ 16, data % 2 ^ 16⟩] } }
      else { s.attnCounted with log := { s.log with yardDropped := s.log.yardDropped + 1 } } := by
  have h' : ¬s.attnCounted.coreOn = true := fun hc => by rw [show s.coreOn = true from hc] at h; cases h
  unfold State.event
  exact if_neg h'

theorem State.event_off_regs {s : State} (h : s.coreOn = false) (code data : Nat) : (s.event code data).regs = s.regs := by
  rw [State.event_off h]
  split_ifs <;> rfl

/-- An event leaves every key but those of the next slot, of the counts and of the number. -/
theorem State.event_find (s : State) (code data : Nat) {k : Nat} (hc : k ∉ logCountKeys)
    (hr : ∀ r ∈ ringRows, k ≠ r.key 0 (s.get EVT_TOTAL % 256)) (d : Nat) : (s.event code data).regs.find k d = s.regs.find k d := by
  cases h : s.coreOn
  · rw [State.event_off_regs h]
  · rw [State.event_on h]
    exact State.logSlot_find s.attnCounted _ hc hr d

/-- An event leaves every field that is neither in the ring nor counts of it. -/
theorem State.event_get (s : State) (code data : Nat) {r : Row} {n i : Nat} (hc : r.key n i ∉ logCountKeys) (hr : ¬InRing (r.key n i)) :
    (s.event code data).get r n i = s.get r n i := by
  refine State.event_find s code data hc (fun r' hr' hk => hr ?_) _
  rw [hk]
  exact inRing_slot hr' _

/-- An event leaves the entries of the other slots. -/
theorem State.event_get_slot (s : State) (code data : Nat) {r : Row} (hr : r ∈ ringRows) {k : Nat}
    (hk : k % 256 ≠ s.get EVT_TOTAL % 256) : (s.event code data).get r 0 k = s.get r 0 k := by
  have hcount : ∀ k ∈ logCountKeys, ¬InRing k := by decide
  refine State.event_find s code data (fun h => hcount _ h (inRing_slot hr k)) (fun r' hr' => slotKey_ne hr' hr (.inr ?_)) _
  omega

/-- An entry logged reads as the event was raised, with its second (R542, R543). -/
theorem State.event_get_entry {s : State} (h : s.coreOn = true) (code data : Nat) :
    (s.event code data).get EVT_TS 0 (s.get EVT_TOTAL % 256) = s.get YARD_SECONDS % 2 ^ 32 ∧
      (s.event code data).get EVT_CODE 0 (s.get EVT_TOTAL % 256) = code % 2 ^ 16 ∧
      (s.event code data).get EVT_DATA 0 (s.get EVT_TOTAL % 256) = data % 2 ^ 16 := by
  have hcount : ∀ k ∈ logCountKeys, ¬InRing k := by decide
  have hlast : ∀ (e : Event) {r : Row}, r ∈ ringRows → (s.attnCounted.logSlot e).get r 0 (s.get EVT_TOTAL % 256) =
      (s.attnCounted.logFull.slotPut e (s.get EVT_TOTAL % 256)).get r 0 (s.get EVT_TOTAL % 256) := by
    intro e r hr
    have hne : ∀ k ∈ logCountKeys, r.key 0 (s.get EVT_TOTAL % 256) ≠ k := fun k hk he => hcount k hk (by rw [← he]; exact inRing_slot hr _)
    rw [State.get_of_regs (State.logSlot_regs s.attnCounted e)]
    exact (State.numberEntry_find _ _ (hne _ (by decide)) _).trans
      ((State.put_find_ne (hne _ (by decide)) _).trans (State.put_find_ne (hne _ (by decide)) _))
  rw [State.event_on h, hlast _ (by decide), hlast _ (by decide), hlast _ (by decide)]
  obtain ⟨hts, hcode, hdata⟩ :=
    State.slotPut_get_slot s.attnCounted.logFull ⟨s.get YARD_SECONDS, code % 2 ^ 16, data % 2 ^ 16⟩ (s.get EVT_TOTAL % 256)
  exact ⟨hts, hcode.trans (Nat.mod_mod _ _), hdata.trans (Nat.mod_mod _ _)⟩

/-- TOTAL advances, wrapping at its width (R543). -/
theorem State.event_get_total {s : State} (h : s.coreOn = true) (code data : Nat) :
    (s.event code data).get EVT_TOTAL = (s.get EVT_TOTAL + 1) % 2 ^ 32 := by
  have htotal : s.attnCounted.logFull.get EVT_TOTAL = s.get EVT_TOTAL :=
    State.logFull_find s.attnCounted (by decide) (by decide) (by decide) _
  rw [State.event_on h, State.get_of_regs (State.logSlot_regs _ _)]
  refine (State.numberEntry_find _ _ (by decide) _).trans ((State.put_find_ne (by decide) _).trans ?_)
  refine (State.get_incWrap_same _ EVT_TOTAL 0 0).trans ?_
  rw [State.slotPut_get _ _ _ (by decide), htotal]
  rfl

/-- TOTAL stays or advances by one. -/
theorem State.event_get_total_mod (s : State) (code data : Nat) :
    ∃ j ≤ 1, (s.event code data).get EVT_TOTAL % 256 = (s.get EVT_TOTAL + j) % 256 := by
  cases h : s.coreOn
  · exact ⟨0, by omega, by rw [State.get_of_regs (State.event_off_regs h _ _)]; rfl⟩
  · refine ⟨1, le_rfl, ?_⟩
    rw [State.event_get_total h]
    omega

end Sys2Proof.Machine
end

section
/-! What a refusal records in ERR_CODE of its page, in LAST_REFUSAL and in the log (R67), and what it leaves. -/

namespace Sys2Proof.Machine

/-! ### What a refusal records (R67) -/

/-- ERR_CODE of a page. -/
def errRows : List Row := [HDR_ERR_CODE, HDR_ERR_MASTER, HDR_ERR_WR, HDR_ERR_OFFSET]

/-- LAST_REFUSAL and REFUSAL_COUNT. -/
def lastRows : List Row := [SYS_LR_CODE, SYS_LR_MASTER, SYS_LR_WR, SYS_LR_PAGE, SYS_LR_WORD, SYS_REFUSAL_COUNT]

/-- The rows in which a refusal records itself. -/
def refusalRows : List Row := errRows ++ lastRows

/-- Where a refusal records itself the log writes nothing. -/
theorem refusalRow_unlogged {r : Row} (hr : r ∈ refusalRows) (n : Nat) : r.key n 0 ∉ logCountKeys ∧ ¬InRing (r.key n 0) := by
  have hcount : ∀ r ∈ refusalRows, ∀ k ∈ logCountKeys, r.key 0 0 % 0x20000 ≠ k % 0x20000 := by decide
  have hring : ∀ r ∈ refusalRows, r.key 0 0 % 0x20000 < 0x800 * 32 := by decide
  refine ⟨fun h => hcount r hr _ h ?_, ?_⟩
  · have := Row.key_page r n 0
    omega
  · have h := hring r hr
    have := Row.key_page r n 0
    simp only [InRing]
    omega

/-- An event leaves what a refusal records. -/
theorem State.event_get_refusal (s : State) (code data : Nat) {r : Row} (hr : r ∈ refusalRows) (n : Nat) :
    (s.event code data).get r n = s.get r n :=
  State.event_get s code data (refusalRow_unlogged hr n).1 (refusalRow_unlogged hr n).2

/-- ERR_CODE of a page after an outcome is recorded there. -/
def State.errPut (s : State) (m : Nat) (wr : Bool) (p off code : Nat) : State :=
  (((s.put HDR_ERR_CODE code p).put HDR_ERR_MASTER m p).put HDR_ERR_WR (bit wr) p).put HDR_ERR_OFFSET off p

/-- LAST_REFUSAL and REFUSAL_COUNT after a refusal. -/
def State.lastPut (s : State) (m : Nat) (wr : Bool) (lr off code : Nat) : State :=
  (((((s.put SYS_LR_CODE code).put SYS_LR_MASTER m).put SYS_LR_WR (bit wr)).put SYS_LR_PAGE lr).put SYS_LR_WORD (off / 4)).inc
    SYS_REFUSAL_COUNT

/-- The first refusal of a page is logged, the next ones are not (R67). -/
theorem State.refuse_first {s : State} {p : Nat} (h : s.get HDR_ERR_CODE p = 0) (m : Nat) (wr : Bool) (lr off code : Nat) :
    s.refuse m wr p lr off code =
      ((s.errPut m wr p off code).event (p * 0x100 + 0x01) (code + m * 2 ^ 8 + bit wr * 2 ^ 11)).lastPut m wr lr off code := by
  have h' : (s.get HDR_ERR_CODE p == 0) = true := by simp [h]
  unfold State.refuse State.noteErr
  simp only [h', if_true]
  rfl

theorem State.refuse_again {s : State} {p : Nat} (h : s.get HDR_ERR_CODE p ≠ 0) (m : Nat) (wr : Bool) (lr off code : Nat) :
    s.refuse m wr p lr off code = (s.errPut m wr p off code).lastPut m wr lr off code := by
  have h' : (s.get HDR_ERR_CODE p == 0) = false := by simpa using h
  unfold State.refuse State.noteErr
  simp only [h', Bool.false_eq_true, if_false]
  rfl

/-- What `errPut` writes. -/
theorem State.get_errPut (s : State) (m : Nat) (wr : Bool) (p off code : Nat) :
    (s.errPut m wr p off code).get HDR_ERR_CODE p = code % 2 ^ HDR_ERR_CODE.wid ∧
    (s.errPut m wr p off code).get HDR_ERR_MASTER p = m % 2 ^ HDR_ERR_MASTER.wid ∧
    (s.errPut m wr p off code).get HDR_ERR_WR p = bit wr % 2 ^ HDR_ERR_WR.wid ∧
    (s.errPut m wr p off code).get HDR_ERR_OFFSET p = off % 2 ^ HDR_ERR_OFFSET.wid := by
  unfold State.errPut
  refine ⟨?_, ?_, ?_, State.get_put_same ..⟩
  · rw [State.get_put_place _ (by decide), State.get_put_place _ (by decide), State.get_put_place _ (by decide)]
    exact State.get_put_same ..
  · rw [State.get_put_place _ (by decide), State.get_put_place _ (by decide)]
    exact State.get_put_same ..
  · rw [State.get_put_place _ (by decide)]
    exact State.get_put_same ..

/-- The word of the register space that a key stands in. -/
def wordOf (k : Nat) : Nat := k / 128

/-- A write leaves every other word. -/
theorem State.put_find_word {s : State} {r : Row} {v n i k : Nat} (h : wordOf k ≠ wordOf (r.key n i)) (d : Nat) :
    (s.put r v n i).regs.find k d = s.regs.find k d :=
  State.put_find_ne (fun hk => h (by rw [hk])) d

/-- ERR_CODE stands in the ninth word of its page. -/
theorem wordOf_errCode {r : Row} (hr : r ∈ errRows) (p : Nat) :
    wordOf (r.key p 0) = p * 1024 + 8 := by
  have hin : ∀ r ∈ errRows, r.key 0 0 / 128 = 8 := by decide
  have h := hin r hr
  have hp := Row.key_page r p 0
  unfold wordOf
  omega

/-- `errPut` leaves every word but ERR_CODE of the page. -/
theorem State.errPut_find (s : State) (m : Nat) (wr : Bool) (p off code : Nat) {k : Nat} (h : wordOf k ≠ p * 1024 + 8) (d : Nat) :
    (s.errPut m wr p off code).regs.find k d = s.regs.find k d := by
  have hne : ∀ r ∈ errRows, wordOf k ≠ wordOf (r.key p 0) :=
    fun r hr => by rw [wordOf_errCode hr]; exact h
  unfold State.errPut
  rw [State.put_find_word (hne _ (by decide)), State.put_find_word (hne _ (by decide)), State.put_find_word (hne _ (by decide)),
    State.put_find_word (hne _ (by decide))]

/-- LAST_REFUSAL and REFUSAL_COUNT stand in two words of SYS. -/
theorem wordOf_last {r : Row} (hr : r ∈ lastRows) : wordOf (r.key 0 0) = 0x16 ∨ wordOf (r.key 0 0) = 0x17 := by
  have hall : ∀ r ∈ lastRows, wordOf (r.key 0 0) = 0x16 ∨ wordOf (r.key 0 0) = 0x17 := by decide
  exact hall r hr

/-- `lastPut` leaves every key but those of LAST_REFUSAL and REFUSAL_COUNT. -/
theorem State.lastPut_find (s : State) (m : Nat) (wr : Bool) (lr off code : Nat) {k : Nat} (h : ∀ r ∈ lastRows, k ≠ r.key 0 0)
    (d : Nat) : (s.lastPut m wr lr off code).regs.find k d = s.regs.find k d := by
  unfold State.lastPut State.inc State.addSat
  rw [State.put_find_ne (h _ (by decide)), State.put_find_ne (h _ (by decide)), State.put_find_ne (h _ (by decide)),
    State.put_find_ne (h _ (by decide)), State.put_find_ne (h _ (by decide)), State.put_find_ne (h _ (by decide))]

/-- `lastPut` leaves every other word. -/
theorem State.lastPut_find_word (s : State) (m : Nat) (wr : Bool) (lr off code : Nat) {k : Nat} (h : wordOf k ≠ 0x16)
    (h' : wordOf k ≠ 0x17) (d : Nat) : (s.lastPut m wr lr off code).regs.find k d = s.regs.find k d :=
  s.lastPut_find m wr lr off code (fun r hr he => by rcases wordOf_last hr with hw | hw <;> rw [he] at h h' <;> contradiction) d

/-- What `lastPut` writes. -/
theorem State.get_lastPut (s : State) (m : Nat) (wr : Bool) (lr off code : Nat) :
    (s.lastPut m wr lr off code).get SYS_LR_CODE = code % 2 ^ SYS_LR_CODE.wid ∧
    (s.lastPut m wr lr off code).get SYS_LR_MASTER = m % 2 ^ SYS_LR_MASTER.wid ∧
    (s.lastPut m wr lr off code).get SYS_LR_WR = bit wr % 2 ^ SYS_LR_WR.wid ∧
    (s.lastPut m wr lr off code).get SYS_LR_PAGE = lr % 2 ^ SYS_LR_PAGE.wid ∧
    (s.lastPut m wr lr off code).get SYS_LR_WORD = off / 4 % 2 ^ SYS_LR_WORD.wid ∧
    (s.lastPut m wr lr off code).get SYS_REFUSAL_COUNT =
      min (s.get SYS_REFUSAL_COUNT + 1) (2 ^ SYS_REFUSAL_COUNT.wid - 1) := by
  have hcount : ∀ t : State, (t.inc SYS_REFUSAL_COUNT).get SYS_REFUSAL_COUNT =
      min (t.get SYS_REFUSAL_COUNT + 1) (2 ^ SYS_REFUSAL_COUNT.wid - 1) := fun t => State.get_addSat_same t SYS_REFUSAL_COUNT 1 0 0
  have hkeep : ∀ (t : State) {r : Row}, r.key 0 0 % 0x20000 ≠ SYS_REFUSAL_COUNT.key 0 0 % 0x20000 →
      (t.inc SYS_REFUSAL_COUNT).get r = t.get r := fun t _ h => State.get_put_place t h _ 0 0
  unfold State.lastPut
  refine ⟨?_, ?_, ?_, ?_, ?_, ?_⟩
  · rw [hkeep _ (by decide), State.get_put_place _ (by decide), State.get_put_place _ (by decide), State.get_put_place _ (by decide),
      State.get_put_place _ (by decide)]
    exact State.get_put_same ..
  · rw [hkeep _ (by decide), State.get_put_place _ (by decide), State.get_put_place _ (by decide), State.get_put_place _ (by decide)]
    exact State.get_put_same ..
  · rw [hkeep _ (by decide), State.get_put_place _ (by decide), State.get_put_place _ (by decide)]
    exact State.get_put_same ..
  · rw [hkeep _ (by decide), State.get_put_place _ (by decide)]
    exact State.get_put_same ..
  · rw [hkeep _ (by decide)]
    exact State.get_put_same ..
  · rw [hcount, State.get_put_place _ (by decide), State.get_put_place _ (by decide), State.get_put_place _ (by decide),
      State.get_put_place _ (by decide), State.get_put_place _ (by decide)]

/-- A one-bit field holds a Bool as it is. -/
theorem bit_mod_two_pow (b : Bool) {w : Nat} (h : 0 < w) : bit b % 2 ^ w = bit b := by
  have h2 : 1 < 2 ^ w := Nat.one_lt_two_pow (by omega)
  cases b
  · exact Nat.zero_mod _
  · exact Nat.mod_eq_of_lt h2

/-- The word of ERR_CODE is not one of LAST_REFUSAL's. -/
theorem State.get_lastPut_err (s : State) (m : Nat) (wr : Bool) (lr off code p : Nat) {r : Row}
    (hr : r ∈ errRows) :
    (s.lastPut m wr lr off code).get r p = s.get r p := by
  have hw := wordOf_errCode hr p
  exact s.lastPut_find_word m wr lr off code (by omega) (by omega) _

/-- A refusal, logged or not, ends with LAST_REFUSAL and finds ERR_CODE and the count as `errPut` leaves them. -/
theorem State.refuse_split (s : State) (m : Nat) (wr : Bool) (p lr off code : Nat) :
    ∃ u : State, s.refuse m wr p lr off code = u.lastPut m wr lr off code ∧
      ∀ r ∈ refusalRows, ∀ n, u.get r n = (s.errPut m wr p off code).get r n := by
  by_cases h : s.get HDR_ERR_CODE p = 0
  · exact ⟨_, State.refuse_first h m wr lr off code, fun r hr n => State.event_get_refusal _ _ _ hr n⟩
  · exact ⟨_, State.refuse_again h m wr lr off code, fun _ _ _ => rfl⟩

/-- What a refusal records in ERR_CODE of its page (R67). -/
theorem State.get_refuse_err (s : State) (m : Nat) (wr : Bool) (p lr off code : Nat) :
    (s.refuse m wr p lr off code).get HDR_ERR_CODE p = code % 2 ^ HDR_ERR_CODE.wid ∧
    (s.refuse m wr p lr off code).get HDR_ERR_MASTER p = m % 2 ^ HDR_ERR_MASTER.wid ∧
    (s.refuse m wr p lr off code).get HDR_ERR_WR p = bit wr ∧
    (s.refuse m wr p lr off code).get HDR_ERR_OFFSET p = off % 2 ^ HDR_ERR_OFFSET.wid := by
  obtain ⟨u, hu, hrec⟩ := s.refuse_split m wr p lr off code
  obtain ⟨hcode, hmaster, hwr, hoff⟩ := s.get_errPut m wr p off code
  rw [bit_mod_two_pow wr (by decide)] at hwr
  rw [hu, State.get_lastPut_err _ _ _ _ _ _ _ (by decide), State.get_lastPut_err _ _ _ _ _ _ _ (by decide),
    State.get_lastPut_err _ _ _ _ _ _ _ (by decide), State.get_lastPut_err _ _ _ _ _ _ _ (by decide)]
  exact ⟨(hrec _ (by decide) p).trans hcode, (hrec _ (by decide) p).trans hmaster, (hrec _ (by decide) p).trans hwr,
    (hrec _ (by decide) p).trans hoff⟩

/-- What a refusal records in LAST_REFUSAL and REFUSAL_COUNT (R67). -/
theorem State.get_refuse_last (s : State) (m : Nat) (wr : Bool) (p lr off code : Nat) :
    (s.refuse m wr p lr off code).get SYS_LR_CODE = code % 2 ^ SYS_LR_CODE.wid ∧
    (s.refuse m wr p lr off code).get SYS_LR_MASTER = m % 2 ^ SYS_LR_MASTER.wid ∧
    (s.refuse m wr p lr off code).get SYS_LR_WR = bit wr ∧
    (s.refuse m wr p lr off code).get SYS_LR_PAGE = lr % 2 ^ SYS_LR_PAGE.wid ∧
    (s.refuse m wr p lr off code).get SYS_LR_WORD = off / 4 % 2 ^ SYS_LR_WORD.wid ∧
    (s.refuse m wr p lr off code).get SYS_REFUSAL_COUNT = min (s.get SYS_REFUSAL_COUNT + 1) (2 ^ SYS_REFUSAL_COUNT.wid - 1) := by
  obtain ⟨u, hu, hrec⟩ := s.refuse_split m wr p lr off code
  have hcount : u.get SYS_REFUSAL_COUNT = s.get SYS_REFUSAL_COUNT := by
    have hw : wordOf (SYS_REFUSAL_COUNT.key 0 0) = 0x17 := by decide
    exact (hrec _ (by decide) 0).trans (s.errPut_find m wr p off code (by omega) _)
  rw [hu, ← hcount, ← bit_mod_two_pow wr (show 0 < SYS_LR_WR.wid by decide)]
  exact u.get_lastPut m wr lr off code

/-- The first refusal of a page is the last entry of the log, while PD_CORE is on (R67). -/
theorem State.refuse_entry {s : State} {p : Nat} (hon : s.coreOn = true) (h : s.get HDR_ERR_CODE p = 0) (m : Nat) (wr : Bool)
    (lr off code : Nat) :
    (s.refuse m wr p lr off code).get EVT_TS 0 (s.get EVT_TOTAL % 256) = s.get YARD_SECONDS % 2 ^ 32 ∧
    (s.refuse m wr p lr off code).get EVT_CODE 0 (s.get EVT_TOTAL % 256) = (p * 0x100 + 0x01) % 2 ^ 16 ∧
    (s.refuse m wr p lr off code).get EVT_DATA 0 (s.get EVT_TOTAL % 256) = (code + m * 2 ^ 8 + bit wr * 2 ^ 11) % 2 ^ 16 ∧
    (s.refuse m wr p lr off code).get EVT_TOTAL = (s.get EVT_TOTAL + 1) % 2 ^ 32 ∧
    (s.refuse m wr p lr off code).get YARD_SECONDS = s.get YARD_SECONDS := by
  have herr : ∀ {r : Row}, r.key 0 0 / 128 % 1024 ≠ 8 → (s.errPut m wr p off code).get r = s.get r :=
    fun h => s.errPut_find m wr p off code (by unfold wordOf; omega) _
  have hlast : ∀ (t : State) {r : Row} {i : Nat}, 0x400 ≤ wordOf (r.key 0 i) →
      (t.lastPut m wr lr off code).get r 0 i = t.get r 0 i := fun t _ _ h => t.lastPut_find_word m wr lr off code (by omega) (by omega) _
  have hring : ∀ {r : Row}, r ∈ ringRows → ∀ i, 0x400 ≤ wordOf (r.key 0 i) := fun hr i => by
    obtain ⟨h, _⟩ := inRing_slot hr i
    unfold wordOf
    omega
  have hcore : (s.errPut m wr p off code).coreOn = true := by
    unfold State.coreOn State.pd
    rw [herr (by decide)]
    exact hon
  have hsecond := State.event_get (s.errPut m wr p off code) (p * 0x100 + 0x01) (code + m * 2 ^ 8 + bit wr * 2 ^ 11)
    (r := YARD_SECONDS) (n := 0) (i := 0) (by decide) (by decide)
  obtain ⟨hts, hcode, hdata⟩ := State.event_get_entry hcore (p * 0x100 + 0x01) (code + m * 2 ^ 8 + bit wr * 2 ^ 11)
  have htotal := State.event_get_total hcore (p * 0x100 + 0x01) (code + m * 2 ^ 8 + bit wr * 2 ^ 11)
  rw [herr (r := EVT_TOTAL) (by decide)] at hts hcode hdata htotal
  rw [herr (r := YARD_SECONDS) (by decide)] at hts
  rw [State.refuse_first h, hlast _ (hring (by decide) _), hlast _ (hring (by decide) _), hlast _ (hring (by decide) _),
    hlast _ (by decide), hlast _ (by decide)]
  exact ⟨hts, hcode, hdata, htotal, hsecond.trans (herr (by decide))⟩

/-- A refusal leaves all but ERR_CODE of its page, LAST_REFUSAL, REFUSAL_COUNT and what logging changes. -/
theorem State.refuse_find (s : State) (m : Nat) (wr : Bool) (p lr off code : Nat) {k : Nat} (herr : wordOf k ≠ p * 1024 + 8)
    (hlast : ∀ r ∈ lastRows, k ≠ r.key 0 0) (hlog : k ∉ logCountKeys) (hring : ¬InRing k) (d : Nat) :
    (s.refuse m wr p lr off code).regs.find k d = s.regs.find k d := by
  have hslot : ∀ (i : Nat), ∀ r ∈ ringRows, k ≠ r.key 0 i := fun i r hr he => hring (by rw [he]; exact inRing_slot hr i)
  by_cases h : s.get HDR_ERR_CODE p = 0
  · rw [State.refuse_first h, State.lastPut_find _ _ _ _ _ _ hlast, State.event_find _ _ _ hlog (hslot _)]
    exact s.errPut_find m wr p off code herr d
  · rw [State.refuse_again h, State.lastPut_find _ _ _ _ _ _ hlast]
    exact s.errPut_find m wr p off code herr d

/-- A page that shows a code logs nothing when it refuses again (R67). -/
theorem State.refuse_again_log {s : State} {p : Nat} (h : s.get HDR_ERR_CODE p ≠ 0) (m : Nat) (wr : Bool) (lr off code : Nat) :
    (s.refuse m wr p lr off code).get EVT_TOTAL = s.get EVT_TOTAL ∧ (s.refuse m wr p lr off code).log = s.log := by
  have hw : wordOf (EVT_TOTAL.key 0 0) = 0x1810 := by decide
  rw [State.refuse_again h]
  refine ⟨?_, rfl⟩
  exact (State.lastPut_find_word _ _ _ _ _ _ (by omega) (by omega) _).trans (s.errPut_find m wr p off code (by omega) _)

end Sys2Proof.Machine
end

section
/-! What a refused write does beyond its record: a few entries of the log, counters and causes, the queues that settle. `State.Reports` is the
frame of all of it. -/

namespace Sys2Proof.Machine

/-! ### What is reported after a refusal -/

/-- The fields that a refusal's further report may change: its own events, its counters, the causes it raises, the queues and the
run that it settles, and the last code of an interface. -/
def reportKeys : List Nat :=
  logCountKeys ++
  [YARD_STATE_REJECTS.key 0 0, YARD_L4_BLOCKED.key 0 0, PIN_CONFLICTS.key 0 0, HDR_INT_RAW.key 0x007 0, HDR_INT_RAW.key 0x00A 0,
    HDR_INT_RAW.key 0x00B 0, SEQ_RUN_STATE.key 0 0, SEQ_RUN_INDEX.key 0 0, SEQ_RUN_CODE.key 0 0, SEQ_RUN_ID.key 0 0,
    SPI_LAST_CODE.key 0 0, SPI_REFUSALS.key 0 0, I2C_LAST_CODE.key 0 0, I2C_REFUSALS.key 0 0] ++
  (List.range 4).flatMap fun q => [CMDQ_PARTIAL_DISCARD.key 0 q, CMDQ_EXECUTED.key 0 q, CMDQ_HDR_REFUSED.key 0 q]

/-- A command's run and AUTO list can still log this many entries: one for the run in progress, one for each script to come. -/
def State.runsLeft (s : State) : Nat := (4 - s.host.autoNext) + bit s.host.script.isSome

/-- From `s` to `t` only what a refusal reports changes, at most `a - b` entries are logged, and the other entries stay. -/
structure State.Reports (a b : Nat) (s t : State) : Prop where
  staged : t.staged = s.staged
  gran : t.gran = s.gran
  shadow : t.shadow = s.shadow
  loft : t.loft = s.loft
  regs : ∀ k, k ∉ reportKeys → ¬InRing k → ∀ d, t.regs.find k d = s.regs.find k d
  entries : ∃ j, j + b ≤ a ∧ t.get EVT_TOTAL % 256 = (s.get EVT_TOTAL + j) % 256 ∧
    ∀ r ∈ ringRows, ∀ k, (∀ x < j, k % 256 ≠ (s.get EVT_TOTAL + x) % 256) → t.get r 0 k = s.get r 0 k

theorem State.Reports.refl (s : State) (a : Nat) : s.Reports a a s :=
  ⟨rfl, rfl, rfl, rfl, fun _ _ _ _ => rfl, 0, by omega, rfl, fun _ _ _ _ => rfl⟩

theorem State.Reports.trans {a b c : Nat} {s t u : State} (h : s.Reports a b t) (h' : t.Reports b c u) : s.Reports a c u := by
  obtain ⟨j, hj, htotal, hslots⟩ := h.entries
  obtain ⟨j', hj', htotal', hslots'⟩ := h'.entries
  refine ⟨h'.staged.trans h.staged, h'.gran.trans h.gran, h'.shadow.trans h.shadow, h'.loft.trans h.loft,
    fun k hk hr d => (h'.regs k hk hr d).trans (h.regs k hk hr d), j + j', by omega, by omega, fun r hr k hk => ?_⟩
  refine (hslots' r hr k fun x hx => ?_).trans (hslots r hr k fun x hx => hk x (by omega))
  have := hk (j + x) (by omega)
  omega

theorem State.Reports.shift {a b : Nat} {s t : State} (h : s.Reports a b t) (c : Nat) : s.Reports (a + c) (b + c) t :=
  let ⟨j, hj, hrest⟩ := h.entries
  ⟨h.staged, h.gran, h.shadow, h.loft, h.regs, j, by omega, hrest⟩

theorem State.Reports.mono {a b a' b' : Nat} {s t : State} (h : s.Reports a b t) (ha : a ≤ a') (hb : b' ≤ b) : s.Reports a' b' t :=
  let ⟨j, hj, hrest⟩ := h.entries
  ⟨h.staged, h.gran, h.shadow, h.loft, h.regs, j, by omega, hrest⟩

/-- What the interfaces and queues hold is no part of the frame. -/
theorem State.reports_host (s : State) (h : HostS) (a : Nat) : s.Reports a a { s with host := h } :=
  ⟨rfl, rfl, rfl, rfl, fun _ _ _ _ => rfl, 0, by omega, rfl, fun _ _ _ _ => rfl⟩

/-- A write of a reported field but TOTAL. -/
theorem State.reports_put (s : State) {r : Row} {n i : Nat} (hk : r.key n i ∈ reportKeys) (ht : r.key n i ≠ EVT_TOTAL.key 0 0)
    (v a : Nat) : s.Reports a a (s.put r v n i) := by
  have hkeys : ∀ k ∈ reportKeys, ¬InRing k := by decide +kernel
  refine ⟨rfl, rfl, rfl, rfl, fun k hk' _ d => State.put_find_ne (fun he => hk' (by rw [he]; exact hk)) d, 0, by omega, ?_,
    fun r' hr' k _ => ?_⟩
  · rw [State.get_put_ne _ ht.symm]
    rfl
  · refine State.get_put_ne _ (fun he => hkeys _ hk ?_) _
    rw [← he]
    exact inRing_slot hr' k

/-- An event is one entry. -/
theorem State.reports_event (s : State) (code data a : Nat) : s.Reports (a + 1) a (s.event code data) := by
  have hlogs := s.event_logsOnly code data
  obtain ⟨j, hj, htotal⟩ := s.event_get_total_mod code data
  have hcount : ∀ k ∈ logCountKeys, k ∈ reportKeys := fun k hk => List.mem_append_left _ (List.mem_append_left _ hk)
  refine ⟨hlogs.staged, hlogs.gran, hlogs.shadow, hlogs.loft, fun k hk hr d => ?_, j, by omega, htotal, fun r hr k hk => ?_⟩
  · exact State.event_find s code data (fun h => hk (hcount k h)) (fun r hr' he => hr (by rw [he]; exact inRing_slot hr' _)) d
  · cases hon : s.coreOn
    · exact State.get_of_regs (State.event_off_regs hon code data) ..
    · have hnext := State.event_get_total hon code data
      refine State.event_get_slot s code data hr (hk 0 ?_)
      by_contra hj0
      obtain rfl : j = 0 := by omega
      omega

/-! ### The queues settle within their reports -/

/-- What the queues do by themselves: at most one entry for the run in progress and one for each script to come. -/
def State.Settles (s t : State) : Prop := s.Reports s.runsLeft t.runsLeft t

theorem State.Settles.refl (s : State) : s.Settles s := State.Reports.refl s _
theorem State.Settles.trans {s t u : State} (h : s.Settles t) (h' : t.Settles u) : s.Settles u := State.Reports.trans h h'

theorem State.settles_put (s : State) {r : Row} {n i : Nat} (hk : r.key n i ∈ reportKeys) (ht : r.key n i ≠ EVT_TOTAL.key 0 0)
    (v : Nat) : s.Settles (s.put r v n i) := s.reports_put hk ht v _

/-- Queues and the script's place change no count of runs. -/
theorem State.settles_host (s : State) {h : HostS} (hn : h.autoNext = s.host.autoNext) (hs : h.script.isSome = s.host.script.isSome) :
    s.Settles { s with host := h } := by
  have hruns : State.runsLeft { s with host := h } = s.runsLeft := by unfold State.runsLeft; rw [hn, hs]
  unfold State.Settles
  rw [hruns]
  exact s.reports_host h _

theorem State.settles_setQueue (s : State) (q : Nat) (x : Queue) : s.Settles (s.setQueue q x) := s.settles_host rfl rfl

/-- A queue's counter advances. -/
theorem State.settles_count (s : State) {r : Row} (hr : r ∈ [CMDQ_PARTIAL_DISCARD, CMDQ_EXECUTED, CMDQ_HDR_REFUSED]) {q : Nat} (hq : q < 4)
    (v : Nat) : s.Settles (s.put r v 0 q) := by
  have hkeys : ∀ r ∈ [CMDQ_PARTIAL_DISCARD, CMDQ_EXECUTED, CMDQ_HDR_REFUSED], ∀ q < 4,
      r.key 0 q ∈ reportKeys ∧ r.key 0 q ≠ EVT_TOTAL.key 0 0 := by decide +kernel
  exact s.settles_put (hkeys r hr q hq).1 (hkeys r hr q hq).2 v

theorem State.LogsOnly.runsLeft {s t : State} (h : s.LogsOnly t) : t.runsLeft = s.runsLeft := by
  unfold State.runsLeft
  rw [h.1]

/-- A run that ends is one entry (R481). -/
theorem State.settles_runOver (s : State) (state code : Nat) : s.Settles (s.runOver state code) := by
  unfold State.runOver
  split
  · exact State.Settles.refl s
  · next r hscript =>
    have hputs : s.Settles (((s.put SEQ_RUN_STATE state).put SEQ_RUN_INDEX r.index).put SEQ_RUN_CODE code) :=
      ((s.settles_put (by decide +kernel) (by decide) state).trans (State.settles_put _ (by decide +kernel) (by decide) r.index)).trans
        (State.settles_put _ (by decide +kernel) (by decide) code)
    refine hputs.trans ?_
    generalize hu : ((s.put SEQ_RUN_STATE state).put SEQ_RUN_INDEX r.index).put SEQ_RUN_CODE code = u
    have hrun : u.host.script = some r := by rw [← hu]; exact hscript
    have hleft : u.runsLeft = State.runsLeft { u with host := { u.host with script := none } } + 1 := by
      simp only [State.runsLeft, hrun]
      rfl
    have hlogs := (State.event_logsOnly { u with host := { u.host with script := none } } 0x0B14
      (r.entry + state * 2 ^ 5 + code * 2 ^ 8)).trans (State.raise_logsOnly _ 0x00B 1)
    unfold State.Settles
    rw [hlogs.runsLeft, hleft]
    exact ((State.reports_host u _ _).trans (State.reports_event _ _ _ _)).trans
      (State.reports_put _ (by decide +kernel) (by decide) _ _)

/-- A run that starts will be one entry (R480). -/
theorem State.reports_runStart (s : State) (id e : Nat) : s.Reports (s.runsLeft + 1) (s.runStart id e).runsLeft (s.runStart id e) := by
  unfold State.runStart
  simp only
  generalize hr : (some (Script.mk e _ _ 0 false) : Option Script) = script
  have hstart : s.Settles ((s.put SEQ_RUN_STATE 1).put SEQ_RUN_ID id) :=
    (s.settles_put (by decide +kernel) (by decide) 1).trans (State.settles_put _ (by decide +kernel) (by decide) id)
  have hset : s.Reports (s.runsLeft + 1)
      (State.runsLeft { (s.put SEQ_RUN_STATE 1).put SEQ_RUN_ID id with host := { s.host with script := script } })
      { (s.put SEQ_RUN_STATE 1).put SEQ_RUN_ID id with host := { s.host with script := script } } := by
    refine ((State.Reports.shift hstart 1).trans (State.reports_host _ _ _)).mono le_rfl ?_
    rw [← hr]
    simp only [State.runsLeft, State.put_host, bit]
    split_ifs <;> omega
  split_ifs
  · exact hset
  · exact hset.trans (State.settles_runOver _ 4 cCHECK)

/-- The AUTO list starts at most the scripts that it still has (R482). -/
theorem State.settles_autoRun (f : Nat) (s : State) : s.Settles (s.autoRun f) := by
  induction f generalizing s with
  | zero => exact State.Settles.refl s
  | succ f ih =>
    unfold State.autoRun
    split
    · exact State.Settles.refl s
    · next hnext =>
      obtain ⟨hnone, hlt⟩ := not_or.1 hnext
      have hleft : s.runsLeft = State.runsLeft { s with host := { s.host with autoNext := s.host.autoNext + 1 } } + 1 := by
        simp only [State.runsLeft]
        omega
      have hstep : s.Reports s.runsLeft (State.runsLeft { s with host := { s.host with autoNext := s.host.autoNext + 1 } } + 1)
          { s with host := { s.host with autoNext := s.host.autoNext + 1 } } := by
        rw [← hleft]
        exact s.reports_host _ _
      simp only
      split_ifs
      · exact (hstep.mono le_rfl (Nat.le_succ _)).trans (ih _)
      · exact (hstep.trans (State.reports_runStart _ _ _)).trans (ih _)

theorem State.settles_scriptItemEnd (s : State) (code : Nat) (notMet : Bool) : s.Settles (s.scriptItemEnd code notMet) := by
  unfold State.scriptItemEnd
  split
  · exact State.Settles.refl s
  · next r hscript =>
    simp only
    split_ifs
    · exact s.settles_runOver 5 0
    · exact s.settles_runOver 3 code
    · exact s.settles_runOver 3 0
    · exact s.settles_runOver 2 code
    · exact s.settles_host rfl (by rw [hscript]; rfl)

/-- An item's completion is no entry of the log (R476). -/
theorem State.settles_itemEnd (s : State) {q : Nat} (hq : q < 4) (script : Bool) (i : List Nat) (code : Nat) (flushed met : Bool)
    (result : Nat) : s.Settles (s.itemEnd q script i code flushed met result) := by
  have hcount : s.Settles (s.inc CMDQ_EXECUTED 0 q) := s.settles_count (by decide) hq _
  unfold State.itemEnd
  simp only
  split_ifs
  · exact hcount.trans (State.settles_scriptItemEnd _ _ _)
  · exact (hcount.trans (State.settles_setQueue _ q _)).trans
      (State.settles_put _ (r := HDR_INT_RAW) (n := 0x00A) (by decide +kernel) (by decide) _)

theorem State.settles_itemTake (s : State) (q : Nat) (script : Bool) : s.Settles (s.itemTake q script) := by
  unfold State.itemTake
  split_ifs
  · exact State.Settles.refl s
  · exact s.settles_setQueue q _

theorem State.settles_itemVoid (s : State) {q : Nat} (hq : q < 4) (script : Bool) (i : List Nat) (code : Nat) :
    s.Settles (s.itemVoid q script i code) :=
  ((s.settles_itemTake q script).trans (State.settles_itemEnd _ hq script i code false false 0)).trans (State.settles_autoRun 4 _)

/-- The empty items of a queue complete (R474). -/
theorem State.settles_settleQueue (f : Nat) {q : Nat} (hq : q < 4) (s : State) : s.Settles (s.settleQueue f q) := by
  induction f generalizing s with
  | zero => exact State.Settles.refl s
  | succ f ih =>
    unfold State.settleQueue
    split
    · exact State.Settles.refl s
    · split_ifs
      · exact (s.settles_itemVoid hq _ _ _).trans (ih _)
      · exact State.Settles.refl s

theorem State.settles_foldl_settleQueue (l : List Nat) (hl : ∀ q ∈ l, q < 4) (f : Nat) (s : State) :
    s.Settles (l.foldl (fun s q => s.settleQueue f q) s) := by
  induction l generalizing s with
  | nil => exact State.Settles.refl s
  | cons q l ih =>
    exact (State.settles_settleQueue f (hl q (List.mem_cons_self ..)) s).trans (ih (fun q hq => hl q (List.mem_cons_of_mem _ hq)) _)

theorem State.settles_settleEmpty (s : State) : s.Settles s.settleEmpty :=
  State.settles_foldl_settleQueue (List.range 4) (fun _ hq => List.mem_range.1 hq) 4096 s

/-- The queue whose turn it is is one of the four (R475). -/
theorem State.itemTurn_lt {s : State} {q : Nat} {script : Bool} {i : List Nat} (h : s.itemTurn = some (q, script, i)) : q < 4 := by
  unfold State.itemTurn at h
  obtain ⟨q', hmem, hq'⟩ := List.exists_of_findSome?_eq_some h
  obtain ⟨k, _, rfl⟩ := List.mem_map.1 hmem
  obtain ⟨e, _, he⟩ := Option.map_eq_some_iff.1 hq'
  have : (s.host.lastQueue + 1 + k) % 4 = q := congrArg Prod.fst he
  omega

/-- The items without effect complete in their turn (R475). -/
theorem State.settles_settleTurns (f : Nat) (s : State) : s.Settles (s.settleTurns f) := by
  induction f generalizing s with
  | zero => exact State.Settles.refl s
  | succ f ih =>
    unfold State.settleTurns
    split
    · exact State.Settles.refl s
    · next q script i hturn =>
      split
      · exact State.Settles.refl s
      · next code _ =>
        have hserved : s.Settles { s with host := { s.host with lastQueue := q } } := s.settles_host rfl rfl
        have hvoid := hserved.trans (State.settles_itemVoid _ (State.itemTurn_lt hturn) script i code)
        exact (hvoid.trans (State.settles_settleEmpty _)).trans (ih _)

/-- Every queue after a change (R475, R481). -/
theorem State.settles_settle (s : State) : s.Settles s.settle := by
  have hrun : ∀ t : State, s.Settles t → s.Settles (t.settleEmpty.settleTurns 4096) := fun t h =>
    (h.trans (State.settles_settleEmpty t)).trans (State.settles_settleTurns 4096 _)
  unfold State.settle
  refine hrun _ ?_
  split
  · split_ifs
    · exact (s.settles_runOver 3 0).trans (State.settles_autoRun 4 _)
    · exact State.Settles.refl s
  · exact s.settles_autoRun 4

/-! ### A refused write reports a few entries -/

theorem State.runsLeft_le (s : State) : s.runsLeft ≤ 5 := by
  unfold State.runsLeft
  cases s.host.script <;> simp [bit] <;> omega

/-- A header that finds no room is one entry (R474). -/
theorem State.reports_headerIn (s : State) {q : Nat} (hq : q < 4) (w : Nat) :
    s.Reports (s.runsLeft + 1) (s.headerIn q w).1.runsLeft (s.headerIn q w).1 := by
  unfold State.headerIn
  simp only
  split_ifs
  · exact (s.settles_setQueue q _).mono (Nat.le_succ _) le_rfl
  · exact (s.settles_setQueue q _).mono (Nat.le_succ _) le_rfl
  · generalize hu : State.setQueue (s.inc CMDQ_HDR_REFUSED 0 q) q _ = u
    have hset : s.Settles u := by
      rw [← hu]
      exact (s.settles_count (by decide) hq _).trans (State.settles_setQueue _ q _)
    have hlogs := (u.event_logsOnly 0x0A10 (q + (s.queue q).free * 2 ^ 8)).trans (State.raise_logsOnly _ 0x00A 0x100)
    rw [hlogs.runsLeft]
    exact ((State.Reports.shift hset 1).trans (u.reports_event _ _ _)).trans
      (State.reports_put _ (by decide +kernel) (by decide) _ _)

theorem State.reports_startIn (s : State) {q : Nat} (hq : q < 4) (w : Nat) :
    s.Reports (s.runsLeft + 1) (s.startIn q w).runsLeft (s.startIn q w) := by
  have hclear : s.Settles (s.startClear q) := (s.settles_count (by decide) hq _).trans (State.settles_setQueue _ q _)
  exact ((State.Reports.shift hclear 1).trans (State.reports_headerIn _ hq w)).trans (State.settles_settle _)

theorem State.reports_dataIn (s : State) {q : Nat} (hq : q < 4) (w : Nat) :
    s.Reports (s.runsLeft + 1) (s.dataIn q w).runsLeft (s.dataIn q w) := by
  have hone : ∀ {t : State}, s.Settles t → s.Reports (s.runsLeft + 1) t.runsLeft t := fun h => h.mono (Nat.le_succ _) le_rfl
  have hcount : s.Settles (s.inc CMDQ_PARTIAL_DISCARD 0 q) := s.settles_count (by decide) hq _
  unfold State.dataIn
  simp only
  split_ifs
  · exact hone hcount
  · exact hone (hcount.trans (State.settles_setQueue _ q _))
  · exact (s.reports_headerIn hq w).trans (State.settles_settle _)
  · exact hone ((s.settles_setQueue q _).trans (State.settles_settle _))
  · exact hone (s.settles_setQueue q _)

theorem queuePort_lt {p off q : Nat} (h : queuePort p off = some q) : q < 4 := by
  unfold queuePort at h
  split_ifs at h with hport
  obtain rfl := Option.some.inj h
  omega

theorem State.reports_pinRefused (s : State) (m k : Nat) (a : Nat) : s.Reports (a + 1) a (s.pinRefused m k) :=
  ((s.reports_put (by decide +kernel) (by decide) _ _).trans (State.reports_event _ _ _ _)).trans
    (State.reports_put _ (r := HDR_INT_RAW) (n := 0x007) (by decide +kernel) (by decide) _ _)

theorem State.reports_modeBlocked (s : State) (target : Nat) (a : Nat) : s.Reports (a + 1) a (s.modeBlocked target) := by
  have hnone : s.Reports (a + 1) a s := (State.Reports.refl s a).mono (Nat.le_succ a) le_rfl
  unfold State.modeBlocked
  split
  · split
    · exact (s.reports_put (by decide +kernel) (by decide) _ _).trans (State.reports_event _ _ _ _)
    · exact hnone
  · exact hnone

/-- What a refused write does beyond its record is within six entries, but for a watchdog answer (R98, R113, R474, R531, R580). -/
theorem State.reports_refusalAct (s : State) {m p off data code : Nat} {own : Bool} (h : ¬(p = 0x003 ∧ off = 0x054)) :
    s.Reports 6 0 (s.refusalAct m p off data code own) := by
  have hsix : ∀ {t : State}, s.Reports (s.runsLeft + 1) t.runsLeft t → s.Reports 6 0 t :=
    fun h => h.mono (by have := s.runsLeft_le; omega) (Nat.zero_le _)
  have hone : ∀ {t : State}, s.Reports (0 + 1) 0 t → s.Reports 6 0 t := fun h => h.mono (by decide) le_rfl
  have hnone : s.Reports 6 0 s := (State.Reports.refl s 0).mono (by decide) le_rfl
  unfold State.refusalAct
  split
  · contradiction
  split
  · exact hnone
  split
  · exact hone (s.reports_modeBlocked _ 0)
  split
  · exact hone (s.reports_event _ _ 0)
  split
  · exact hone (s.reports_pinRefused m _ 0)
  split
  · exact hone (s.reports_pinRefused m _ 0)
  split
  · exact hone (s.reports_pinRefused m _ 0)
  split
  · next q hq =>
    split_ifs
    · exact hsix (s.reports_dataIn (queuePort_lt hq) data)
    · exact hsix (s.reports_startIn (queuePort_lt hq) data)
    · exact hnone
  · exact hnone

/-- The interface of a master learns its code without an entry of the log (R464, R472). -/
theorem State.reports_noteCode (s : State) (m k a : Nat) : s.Reports a a (s.noteCode m k) := by
  have hlast : s.Reports a a (s.noteLast m k) := by
    unfold State.noteLast
    split_ifs
    · exact s.reports_put (by decide +kernel) (by decide) _ _
    · exact s.reports_put (by decide +kernel) (by decide) _ _
    · exact State.Reports.refl s a
  unfold State.noteCode
  simp only
  split_ifs
  · exact hlast.trans (State.reports_host _ _ _)
  · exact hlast
  · exact (hlast.trans (State.reports_put _ (r := SPI_REFUSALS) (n := 0) (i := 0) (by decide +kernel) (by decide) _ _)).trans
      (State.reports_host _ _ _)
  · exact (hlast.trans (State.reports_put _ (r := SPI_REFUSALS) (n := 0) (i := 0) (by decide +kernel) (by decide) _ _)).trans
      (State.reports_host _ _ _)
  · exact hlast.trans (State.reports_put _ (r := I2C_REFUSALS) (n := 0) (i := 0) (by decide +kernel) (by decide) _ _)
  · exact hlast

/-- From the record of a refused write to the next state at most seven entries are logged, the report of R98 among them. -/
theorem State.reports_refused (s : State) {m p off data : Nat} (r : Refuse) (own : Bool) (h : ¬(p = 0x003 ∧ off = 0x054)) :
    (s.refusePage m true p off r.code).Reports 7 0
      (((s.refuseWith m true p off r).refusalAct m p off data r.code own).noteCode m r.code) := by
  have hwith : (s.refusePage m true p off r.code).Reports 7 6 (s.refuseWith m true p off r) := by
    unfold State.refuseWith
    simp only
    split_ifs
    · exact (State.reports_event _ _ _ 6).trans (State.reports_put _ (by decide +kernel) (by decide) _ _)
    · exact (State.Reports.refl _ 6).mono (by decide) le_rfl
  exact (hwith.trans (State.reports_refusalAct _ h)).trans (State.reports_noteCode _ m r.code 0)

end Sys2Proof.Machine
end

section
/-! Where an access lands in the address space, and what the arbiter does with one that is served (Table REG-1, Table REG-4). -/

namespace Sys2Proof.Machine

/-! ### Where an access lands, and what a served access does -/

/-- A page index of the register region below 256 that Table REG-2 leaves free is a reserved slot (R44). -/
theorem target_regAddr_slot {p off : Nat} (hp : pageExists p = false) (hlt : p < 256) (h : off < 0x1000) :
    target (regAddr p off) = .slot off := by
  have hpage : (0x40000000 + p * 0x1000 + off - 0x40000000) / 0x1000 = p := by omega
  have hoff : (0x40000000 + p * 0x1000 + off) % 0x1000 = off := by omega
  unfold target regAddr
  rw [if_pos (by omega)]
  simp only [hpage, hoff, hp, Bool.false_eq_true, if_false]

/-- A word's address is aligned as its offset is. -/
theorem regAddr_mod_four (p off : Nat) : regAddr p off % 4 = off % 4 := by unfold regAddr; omega

/-- Writes of YARD and WDT alone are posted (R563). -/
theorem isPosted_regAddr_ne {p off : Nat} (h : off < 0x1000) (h1 : p ≠ 1) (h3 : p ≠ 3) : isPosted (regAddr p off) = false := by
  have hlow : 0x40000000 + p * 0x1000 ≤ regAddr p off ∧ regAddr p off < 0x40000000 + (p + 1) * 0x1000 := by unfold regAddr; omega
  have hyard : ¬(0x40001040 ≤ regAddr p off ∧ regAddr p off < 0x40002000) := by omega
  have hwdt : ¬(0x40003040 ≤ regAddr p off ∧ regAddr p off < 0x40004000) := by omega
  unfold isPosted
  simp only [Bool.and_eq_false_iff, Bool.or_eq_false_iff, decide_eq_false_iff_not]
  omega

/-- Neither YARD nor WDT is ever absent (Table ROLE-2). -/
theorem isPosted_absent {s : State} {p off : Nat} (h : off < 0x1000) (hp : s.present p = false) :
    isPosted (regAddr p off) = false := by
  refine isPosted_regAddr_ne h ?_ ?_ <;> rintro rfl <;> simp [State.present] at hp

/-- A served write of a master with a source is one write with the checks of Table REG-4, once the Yard has taken what was posted
ahead of it. -/
theorem State.busWrite_of_serves {s : State} {m : Nat} (hs : s.serves = true) (hm : s.sources m = true) (addr data : Nat) :
    s.busWrite m addr data = (s.settlePosted addr).writeWord m addr data := by
  simp only [State.serves, Bool.and_eq_true, Bool.not_eq_true'] at hs
  obtain ⟨⟨hreach, hsafe⟩, hnvm⟩ := hs
  simp [State.busWrite, hreach, hsafe, hnvm, hm]

/-- A served read of a master with a source is one read with the checks of Table REG-4, which the reader keeps. -/
theorem State.busRead_of_serves {s : State} {m : Nat} (hs : s.serves = true) (hm : s.sources m = true) (addr : Nat) :
    s.busRead m addr =
      let (t, w, k) := s.readWord m addr
      ({ t with host := { t.host with lastRead := t.host.lastRead.set m (w % 2 ^ 32, k) } }, w % 2 ^ 32, k) := by
  simp only [State.serves, Bool.and_eq_true, Bool.not_eq_true'] at hs
  obtain ⟨⟨hreach, hsafe⟩, hnvm⟩ := hs
  simp [State.busRead, hreach, hsafe, hnvm, hm]

theorem State.writeWord_page {s : State} {p off : Nat} (m data : Nat) (hp : pageExists p = true) (h : off < 0x1000)
    (ha : off % 4 = 0) : s.writeWord m (regAddr p off) data = s.pageWrites m p off data := by
  simp [State.writeWord, regAddr_mod_four, ha, target_regAddr hp h]

theorem State.writeWord_slot {s : State} {p off : Nat} (m data : Nat) (hp : pageExists p = false) (hlt : p < 256) (h : off < 0x1000)
    (ha : off % 4 = 0) : s.writeWord m (regAddr p off) data = (s, cOK) := by
  simp [State.writeWord, regAddr_mod_four, ha, target_regAddr_slot hp hlt h]

theorem State.readWord_page {s : State} {p off : Nat} (m : Nat) (hp : pageExists p = true) (h : off < 0x1000)
    (ha : off % 4 = 0) : s.readWord m (regAddr p off) = s.pageRead m p off := by
  simp [State.readWord, regAddr_mod_four, ha, target_regAddr hp h]

theorem State.readWord_slot {s : State} {p off : Nat} (m : Nat) (hp : pageExists p = false) (hlt : p < 256) (h : off < 0x1000)
    (ha : off % 4 = 0) : s.readWord m (regAddr p off) = (s, 0, cOK) := by
  simp [State.readWord, regAddr_mod_four, ha, target_regAddr_slot hp hlt h]

/-- A write to an absent page is refused whatever its strobes (R21). -/
theorem State.pageWrites_absent {s : State} {p : Nat} (m off data : Nat) (hp : s.present p = false) :
    s.pageWrites m p off data = s.pageWrite m p off data := by
  simp [State.pageWrites, hp]

/-- A word that no row names takes no write (R46). -/
theorem State.pageWrite_reserved {s : State} {p off : Nat} (m data : Nat) (hp : s.present p = true) (hw : wordRows p off = []) :
    s.pageWrite m p off data = (s, cOK) := by
  simp [State.pageWrite, hp, hw]

theorem State.pageWrites_reserved {s : State} {p off : Nat} (m data : Nat) (hp : s.present p = true) (hw : wordRows p off = []) :
    s.pageWrites m p off data = (s, cOK) := by
  have hone := fun d => State.pageWrite_reserved (s := s) m d hp hw
  have hall : ∀ l : List Nat, l.foldl (fun (a : State × Nat) d =>
      let (t, k) := a.1.pageWrite m p off d
      (t, if k = cOK then a.2 else k)) (s, cOK) = (s, cOK) := by
    intro l
    induction l with
    | nil => rfl
    | cons d l ih => simpa [hone d] using ih
  unfold State.pageWrites
  split_ifs
  · exact hone data
  · exact hall _

/-- A word that no row names reads 0 (R46). -/
theorem State.wordNow_reserved {s : State} {p off : Nat} (m : Nat) (hw : wordRows p off = []) : s.wordNow m p off = 0 := by
  simp [State.wordNow, hw]

theorem State.posted_reserved {s : State} {p off : Nat} (addr : Nat) (hw : wordRows p off = []) : s.posted addr p off 0 = 0 := by
  unfold State.posted
  induction s.host.posted with
  | nil => rfl
  | cons e l ih => simp [hw]

theorem State.readAct_reserved {s : State} {p off : Nat} (hw : wordRows p off = []) : s.readAct p off = s := by
  have hsec : ¬(p = 0x001 ∧ off = 0x05C) := by
    rintro ⟨rfl, rfl⟩; revert hw; decide
  have hsub : ¬(p = 0x001 ∧ off = 0x060) := by
    rintro ⟨rfl, rfl⟩; revert hw; decide
  simp [State.readAct, hw, hsec, hsub]

theorem State.pageRead_reserved {s : State} {p off : Nat} (m : Nat) (hp : s.present p = true) (hw : wordRows p off = []) :
    s.pageRead m p off = (s, 0, cOK) := by
  have hoff : s.readOff p off = false := by simp [State.readOff, wordHas, hw]
  simp [State.pageRead, hp, hoff, State.wordNow_reserved m hw, State.posted_reserved _ hw, State.readAct_reserved hw]

end Sys2Proof.Machine
end

section
/-! The commands that are one write of a register, and O9: how a refused one is recorded and how an event is logged. -/

namespace Sys2Proof.Machine

open Sys2Proof

/-! ### Configuration is no place of a report -/

/-- A field that only the configuration of its page changes (R51). -/
def Row.isConfig (r : Row) : Bool := r.acc == .rw || r.acc == .rww || r.acc == .rw1

/-- The word at which an element of a row stands is the one that `Row.at` finds it in. -/
theorem Row.offset_of_at {r : Row} {w i : Nat} (h : r.at w = some i) : r.offset i = w := by
  have hblock : (if r.ostride = 0 then 0 else (w - r.off) / r.ostride) * r.ostride ≤ w - r.off := by
    split_ifs
    · omega
    · exact Nat.div_mul_le_self ..
  unfold Row.at at h
  split at h
  · cases h
  · next hlow =>
    simp only at h
    generalize (if r.ostride = 0 then 0 else (w - r.off) / r.ostride) = o at h hblock
    generalize (if r.stride = 0 then 0 else (w - r.off - o * r.ostride) / r.stride) = k at h
    split at h
    · next hrow =>
      obtain ⟨_, hk, he⟩ := hrow
      obtain rfl := Option.some.inj h
      have hmod : (o * r.count + k) % r.count = k := by rw [Nat.mul_add_mod', Nat.mod_eq_of_lt hk]
      have hdiv : (o * r.count + k) / r.count = o := by
        rw [Nat.mul_comm, Nat.mul_add_div (by omega), Nat.div_eq_of_lt hk, Nat.add_zero]
      unfold Row.offset
      rw [hmod, hdiv, Nat.mul_comm r.stride, Nat.mul_comm r.ostride]
      omega
    · cases h

/-- The rows of a page stand on it, each within its word. -/
theorem pageRows_page : ∀ p < 256, ∀ r ∈ pageRows p, r.page ≤ p ∧ r.lo < 32 := by decide +kernel

/-- What stands in a word has the word's place in its key. -/
theorem wordOf_wordRows {p off : Nat} (hp : p < 256) (ha : off % 4 = 0) {e : Row × Nat} (he : e ∈ wordRows p off) :
    wordOf (e.1.key (e.1.nth p) e.2) = p * 1024 + off / 4 := by
  obtain ⟨r, hr, hat⟩ := List.mem_filterMap.1 he
  obtain ⟨i, hi, rfl⟩ := Option.map_eq_some_iff.1 hat
  obtain ⟨hpage, hlo⟩ := pageRows_page p hp r hr
  have hc : r.cls.code < 4 := by cases r.cls <;> decide
  have hoff := Row.offset_of_at hi
  unfold wordOf Row.key Row.nth
  simp only [hoff]
  omega

/-- No configuration stands in the word of ERR_CODE. -/
theorem errCode_not_config : ∀ p < 256, ∀ e ∈ wordRows p 0x020, e.1.isConfig = false := by decide +kernel

/-- No configuration has the key of a field that a refusal records or reports in. -/
theorem report_not_config : ∀ k ∈ reportKeys ++ refusalRows.map (Row.key · 0 0),
    ∀ e ∈ wordRows (wordOf k / 1024) (wordOf k % 1024 * 4), e.1.isConfig = true → e.1.key (e.1.nth (wordOf k / 1024)) e.2 ≠ k := by
  decide +kernel

/-- No configuration stands in the entries of the log. -/
theorem ring_not_config : ∀ w < 512, ∀ e ∈ wordRows 0x006 (0x800 + 4 * w), e.1.isConfig = false := by decide +kernel

/-- Configuration stays where a refused write leaves everything but its record and its report. -/
theorem config_unreported {p off : Nat} (hp : p < 256) (hoff : off < 0x1000) (ha : off % 4 = 0) {e : Row × Nat}
    (he : e ∈ wordRows p off) (hconf : e.1.isConfig = true) :
    e.1.key (e.1.nth p) e.2 ∉ reportKeys ++ refusalRows.map (Row.key · 0 0) ∧ ¬InRing (e.1.key (e.1.nth p) e.2) ∧
      wordOf (e.1.key (e.1.nth p) e.2) ≠ p * 1024 + 8 := by
  have hword := wordOf_wordRows hp ha he
  refine ⟨fun hk => ?_, fun hring => ?_, fun herr => ?_⟩
  · have hpage : wordOf (e.1.key (e.1.nth p) e.2) / 1024 = p := by omega
    have hplace : wordOf (e.1.key (e.1.nth p) e.2) % 1024 * 4 = off := by omega
    have h := report_not_config _ hk
    rw [hpage, hplace] at h
    exact h e he hconf rfl
  · obtain ⟨hlow, hhigh⟩ := hring
    unfold wordOf at hword
    have hplace : off = 0x800 + 4 * ((off - 0x800) / 4) := by omega
    obtain rfl : p = 0x006 := by omega
    rw [hplace] at he
    exact absurd hconf (by simp [ring_not_config _ (by omega) e he])
  · obtain rfl : off = 0x020 := by omega
    exact absurd hconf (by simp [errCode_not_config p hp e he])

/-! ### A command that is one write -/

theorem Master.num_lt (m : Master) : m.num < 5 := by cases m <;> decide

/-- A command that is one write names a master and an aligned word of the register region. -/
theorem commandWrite_bounds {i : Instr} {m p off data : Nat} (h : commandWrite i = some (m, p, off, data)) :
    m < 5 ∧ p < 256 ∧ off < 0x1000 ∧ off % 4 = 0 := by
  have hbit : ∀ b, bit b ≤ 1 := fun b => by cases b <;> decide
  cases i <;> cases h <;> refine ⟨Master.num_lt _, ?_⟩ <;> grind [semOff, queueOff, solPage, linkPage]

/-- It is carried out as that write (R20, R25). -/
theorem exec_of_commandWrite {i : Instr} {m p off data : Nat} (h : commandWrite i = some (m, p, off, data)) (s : State) :
    exec i s = .next (s.command m p off data) := by
  cases i
  case timerSlotWrite m' slot tickWord d =>
    obtain ⟨rfl, rfl, rfl, rfl⟩ := (by simpa [commandWrite] using h)
    cases tickWord <;> rfl
  all_goals cases h
  all_goals rfl

theorem State.reachable_of_serves {s : State} (h : s.serves = true) : s.reachable = true := by
  simp only [State.serves, Bool.and_eq_true] at h
  exact h.1.1

/-- A write whose outcome is known, with its code given to the interface of its master. -/
theorem State.command_of_busWrite {s t : State} {m p off data k : Nat} (hreach : s.reachable = true)
    (h : s.busWrite m (regAddr p off) data = (t, k)) : s.command m p off data = t.noteCode m k := by
  unfold State.command State.writeNow State.noteFrom
  rw [h]
  exact if_pos hreach

/-- A write that a check of Table REG-4 refuses is recorded, reported, and does what its block says of a refusal. -/
theorem State.busWrite_refused {s : State} {m p off data : Nat} {r : Refuse} {own : Bool} (hs : s.serves = true)
    (hm : s.sources m = true) (hp : pageExists p = true) (hpres : s.present p = true) (hoff : off < 0x1000) (ha : off % 4 = 0)
    (hw : (wordRows p off).isEmpty = false) (hd : strobeParts p off data = [data]) (hq : s.host.posted = [])
    (hc : s.writeCheck m p off data = some (r, own)) :
    s.busWrite m (regAddr p off) data = ((s.refuseWith m true p off r).refusalAct m p off data r.code own, r.code) := by
  rw [State.busWrite_of_serves hs hm, State.settlePosted_nil (.inr hq), State.writeWord_page m data hp hoff ha,
    State.pageWrites_single hd]
  unfold State.pageWrite
  simp only [hpres, hw, hc, Bool.not_true, Bool.false_eq_true, if_false]

/-- A write to an absent page is refused, but for CLR of its ERR_CODE (R21). -/
theorem State.busWrite_absent {s : State} {m p off data : Nat} (hs : s.serves = true) (hm : s.sources m = true)
    (hp : pageExists p = true) (hpres : s.present p = false) (hoff : off < 0x1000) (ha : off % 4 = 0)
    (hclr : ¬(off = 0x020 ∧ bitAt data 31 = true)) :
    s.busWrite m (regAddr p off) data = (s.refusePage m true p off cROLE, cROLE) := by
  rw [State.busWrite_of_serves hs hm, State.settlePosted_nil (.inl (isPosted_absent hoff hpres)),
    State.writeWord_page m data hp hoff ha, State.pageWrites_absent m off data hpres]
  unfold State.pageWrite
  simp [hpres, hclr]

/-- A write to a reserved page slot is not recorded and does nothing (R44). -/
theorem State.busWrite_slot {s : State} {m p off data : Nat} (hs : s.serves = true) (hm : s.sources m = true)
    (hp : pageExists p = false) (hlt : p < 256) (hoff : off < 0x1000) (ha : off % 4 = 0) :
    s.busWrite m (regAddr p off) data = (s, cOK) := by
  have hposted : isPosted (regAddr p off) = false := by
    refine isPosted_regAddr_ne hoff ?_ ?_ <;> rintro rfl <;> exact absurd hp (by decide)
  rw [State.busWrite_of_serves hs hm, State.settlePosted_nil (.inl hposted), State.writeWord_slot m data hp hlt hoff ha]

/-- Within a Granary operation a write is refused with NVM_BUSY, which for WDT.ANSWER is a bad service too (R37, R531). -/
theorem State.busWrite_nvm {s : State} {m : Nat} (hreach : s.reachable = true) (hsafe : s.safe = false) (hnvm : s.nvmBusy = true)
    (hm : s.sources m = true) (addr data : Nat) : s.busWrite m addr data = (s.refuseNvm m addr, cNVM) := by
  simp [State.busWrite, hreach, hsafe, hnvm, hm]

/-- In SAFE every write is recorded in ERR_CODE of SYS (R37). -/
theorem State.busWrite_safe {s : State} (hreach : s.reachable = true) (hsafe : s.safe = true) (m addr data : Nat) :
    s.busWrite m addr data = (s.refuseSafe m true addr, cROLE) := by
  simp [State.busWrite, hreach, hsafe]

/-- The address of a word below the 256 pages names WDT.ANSWER for no other word. -/
theorem regAddr_ne_answer {p off : Nat} (hoff : off < 0x1000) (h : ¬(p = 0x003 ∧ off = 0x054)) : regAddr p off ≠ 0x40003054 := by
  unfold regAddr
  omega

/-! ### What a refused write leaves -/

/-- ERR_CODE of every page stays through the report of a refusal. -/
theorem State.Reports.get_err {a b : Nat} {s t : State} (h : s.Reports a b t) {r : Row} (hr : r ∈ errRows) (n : Nat) :
    t.get r n = s.get r n := by
  have hkeys : ∀ k ∈ reportKeys, wordOf k % 1024 ≠ 8 := by decide +kernel
  have hword := wordOf_errCode hr n
  refine h.regs _ (fun hk => hkeys _ hk (by omega)) (fun hring => ?_) _
  obtain ⟨hlow, hhigh⟩ := hring
  unfold wordOf at hword
  omega

/-- LAST_REFUSAL and REFUSAL_COUNT stay through the report of a refusal. -/
theorem State.Reports.get_last {a b : Nat} {s t : State} (h : s.Reports a b t) {r : Row} (hr : r ∈ lastRows) : t.get r = s.get r := by
  have hkeys : ∀ r ∈ lastRows, r.key 0 0 ∉ reportKeys ∧ ¬InRing (r.key 0 0) := by decide +kernel
  obtain ⟨hk, hring⟩ := hkeys r hr
  exact h.regs _ hk hring _

/-- The entry logged last before it stays through a report of fewer than 256 entries. -/
theorem State.Reports.get_entry {a b : Nat} {s t : State} (h : s.Reports a b t) (ha : a < 256) {r : Row} (hr : r ∈ ringRows) {k : Nat}
    (hk : s.get EVT_TOTAL % 256 = (k + 1) % 256) : t.get r 0 k = s.get r 0 k := by
  obtain ⟨j, hj, _, hslots⟩ := h.entries
  exact hslots r hr k fun x hx => by omega

theorem bitAt_eq_testBit (v i : Nat) : bitAt v i = v.testBit i := by
  unfold bitAt
  rw [Nat.testBit_eq_decide_div_mod_eq]
  rfl

/-- Raised causes join those that stand (R49). -/
theorem State.bitAt_raise (s : State) (p bits : Nat) {i : Nat} (hi : i < 32) :
    bitAt ((s.raise p bits).get HDR_INT_RAW p) i = (bitAt (s.get HDR_INT_RAW p) i || bitAt bits i) := by
  simp only [State.get_raise_same, bitAt_eq_testBit, Nat.testBit_mod_two_pow, Nat.testBit_or, hi, decide_true, Bool.true_and]

/-- Attention's count has no part in it. -/
theorem State.logFull_attnCounted (s : State) : s.attnCounted.logFull.regs = s.logFull.regs := by
  have htotal : s.attnCounted.get EVT_TOTAL = s.get EVT_TOTAL := rfl
  have hack : s.attnCounted.get EVT_ACK = s.get EVT_ACK := rfl
  unfold State.logFull
  rw [htotal, hack]
  split_ifs <;> rfl

/-- An entry logged leaves the counts of overwriting, and the causes it does not raise, as `logFull` does. -/
theorem State.event_get_logFull {s : State} (h : s.coreOn = true) (code data : Nat) {r : Row} {n : Nat}
    (hne : r.key n 0 ≠ LINKC_EVSEQ.key 0 0 ∧ r.key n 0 ≠ HDR_INT_RAW.key 6 0 ∧ r.key n 0 ≠ EVT_TOTAL.key 0 0)
    (hring : ¬InRing (r.key n 0)) : (s.event code data).get r n = s.logFull.get r n := by
  obtain ⟨hseq, hraw, htotal⟩ := hne
  rw [State.event_on h, State.get_of_regs (State.logSlot_regs _ _)]
  refine (State.numberEntry_find _ _ hseq _).trans ((State.put_find_ne hraw _).trans ((State.put_find_ne htotal _).trans ?_))
  exact (State.slotPut_get _ _ _ hring).trans (State.get_of_regs s.logFull_attnCounted r n 0)

/-- The cause of the log is raised by every entry, the one of overwriting where the ring is full. -/
theorem State.event_bitAt_raw {s : State} (h : s.coreOn = true) (code data : Nat) {i : Nat} (hi : i < 32) :
    bitAt ((s.event code data).get HDR_INT_RAW 6) i = (bitAt (s.logFull.get HDR_INT_RAW 6) i || bitAt 1 i) := by
  rw [State.event_on h, State.get_of_regs (State.logSlot_regs _ _)]
  have hnumber : ∀ (t : State) (total : Nat), (t.numberEntry total).get HDR_INT_RAW 6 = t.get HDR_INT_RAW 6 :=
    fun t total => State.numberEntry_find t total (by decide) _
  have hslot : ∀ (e : Event) (j : Nat), ((s.attnCounted.logFull.slotPut e j).incWrap EVT_TOTAL).get HDR_INT_RAW 6 =
      s.logFull.get HDR_INT_RAW 6 := fun e j =>
    (State.get_put_ne _ (by decide) _).trans ((State.slotPut_get _ e j (by decide)).trans (State.get_of_regs s.logFull_attnCounted _ _ _))
  rw [hnumber, State.bitAt_raise _ _ _ hi, hslot]

/-- Logging into a full ring sets OVF and its cause and counts the entry lost (R544). -/
theorem State.get_logFull_full {s : State} (h : 256 ≤ (s.get EVT_TOTAL + 2 ^ 32 - s.get EVT_ACK) % 2 ^ 32) :
    s.logFull.get EVT_OVF = 1 ∧ bitAt (s.logFull.get HDR_INT_RAW 6) 1 = true ∧
      s.logFull.get EVT_OVERWRITTEN = min (s.get EVT_OVERWRITTEN + 1) (2 ^ EVT_OVERWRITTEN.wid - 1) := by
  have hfull : s.logFull = ((s.put EVT_OVF 1).inc EVT_OVERWRITTEN).raise 6 2 := if_pos h
  have hover : ((s.put EVT_OVF 1).inc EVT_OVERWRITTEN).get EVT_OVERWRITTEN =
      min ((s.put EVT_OVF 1).get EVT_OVERWRITTEN + 1) (2 ^ EVT_OVERWRITTEN.wid - 1) := State.get_addSat_same ..
  rw [hfull]
  refine ⟨?_, ?_, ?_⟩
  · exact (State.get_put_place _ (by decide) _ _ _).trans
      ((State.get_put_place _ (by decide) _ _ _).trans (State.get_put_same s EVT_OVF 1 0 0))
  · rw [State.bitAt_raise _ _ _ (by decide), Bool.or_eq_true]
    exact .inr (by decide)
  · rw [State.get_put_place s (by decide)] at hover
    exact (State.get_put_place _ (by decide) _ _ _).trans hover

/-- A refused write of a command: the state it answers, and the frame of its report. -/
theorem exec_refused {i : Instr} {m p off data : Nat} {r : Refuse} {own : Bool} {s : State}
    (hi : commandWrite i = some (m, p, off, data)) (hs : s.serves = true) (hm : s.sources m = true) (hp : pageExists p = true)
    (hpres : s.present p = true) (hw : (wordRows p off).isEmpty = false) (hd : strobeParts p off data = [data])
    (hq : s.host.posted = []) (hc : s.writeCheck m p off data = some (r, own)) (hwdt : ¬(p = 0x003 ∧ off = 0x054)) :
    ∃ t, exec i s = .next t ∧ (s.refusePage m true p off r.code).Reports 7 0 t := by
  obtain ⟨_, _, hoff, ha⟩ := commandWrite_bounds hi
  have hbus := State.busWrite_refused hs hm hp hpres hoff ha hw hd hq hc
  refine ⟨_, ?_, s.reports_refused (data := data) r own hwdt⟩
  rw [exec_of_commandWrite hi, State.command_of_busWrite (State.reachable_of_serves hs) hbus]

/-- A refused write keeps the configuration of its word. -/
theorem State.refused_config {s t : State} {m p off code : Nat} (h : (s.refusePage m true p off code).Reports 7 0 t) (hp : p < 256)
    (hoff : off < 0x1000) (ha : off % 4 = 0) {e : Row × Nat} (he : e ∈ wordRows p off) (hconf : e.1.isConfig = true) :
    t.get e.1 (e.1.nth p) e.2 = s.get e.1 (e.1.nth p) e.2 := by
  obtain ⟨hkeys, hring, herr⟩ := config_unreported hp hoff ha he hconf
  rw [List.mem_append, not_or] at hkeys
  obtain ⟨hreport, hrefusal⟩ := hkeys
  have hlast : ∀ r ∈ lastRows, e.1.key (e.1.nth p) e.2 ≠ r.key 0 0 := fun r hr hk =>
    hrefusal (List.mem_map.2 ⟨r, List.mem_append_right _ hr, hk.symm⟩)
  have hlog : e.1.key (e.1.nth p) e.2 ∉ logCountKeys := fun hk => hreport (List.mem_append_left _ (List.mem_append_left _ hk))
  exact (h.regs _ hreport hring _).trans (s.refuse_find m true p (p % 0x100) off code herr hlast hlog hring _)

/-- The record of a refused write, where its values fit their fields. -/
theorem State.refusePage_record (s : State) {m : Nat} (p : Nat) {off code : Nat} (hm : m < 5) (hoff : off < 0x1000) (hcode : code < 32) :
    (s.refusePage m true p off code).get HDR_ERR_CODE p = code ∧
    (s.refusePage m true p off code).get HDR_ERR_MASTER p = m ∧
    (s.refusePage m true p off code).get HDR_ERR_WR p = 1 ∧
    (s.refusePage m true p off code).get HDR_ERR_OFFSET p = off ∧
    (s.refusePage m true p off code).get SYS_LR_CODE = code % 2 ^ SYS_LR_CODE.wid ∧
    (s.refusePage m true p off code).get SYS_LR_MASTER = m := by
  obtain ⟨herr, hmaster, hwr, hoffset⟩ := s.get_refuse_err m true p (p % 0x100) off code
  obtain ⟨hlcode, hlmaster, _⟩ := s.get_refuse_last m true p (p % 0x100) off code
  exact ⟨herr.trans (Nat.mod_eq_of_lt (b := 2 ^ 8) (by omega)), hmaster.trans (Nat.mod_eq_of_lt (b := 2 ^ 3) (by omega)), hwr,
    hoffset.trans (Nat.mod_eq_of_lt (b := 2 ^ 12) (by omega)), hlcode, hlmaster.trans (Nat.mod_eq_of_lt (b := 2 ^ 3) (by omega))⟩

/-- The entry of a page's first refused write. -/
theorem State.refusePage_entry {s : State} {m p code : Nat} (hon : s.coreOn = true) (hfirst : s.get HDR_ERR_CODE p = 0)
    (hp : p < 256) (hm : m < 5) (hcode : code < 32) (off : Nat) :
    (s.refusePage m true p off code).get EVT_CODE 0 (s.get EVT_TOTAL % 256) = p * 0x100 + 0x01 ∧
    (s.refusePage m true p off code).get EVT_DATA 0 (s.get EVT_TOTAL % 256) = code + m * 2 ^ 8 + 2 ^ 11 ∧
    (s.refusePage m true p off code).get EVT_TOTAL % 256 = (s.get EVT_TOTAL % 256 + 1) % 256 := by
  obtain ⟨_, hecode, hedata, htotal, _⟩ := State.refuse_entry hon hfirst m true (p % 0x100) off code
  refine ⟨hecode.trans (Nat.mod_eq_of_lt (by omega)), hedata.trans (Nat.mod_eq_of_lt (b := 2 ^ 16) ?_), ?_⟩
  · simp only [bit, if_true]
    omega
  · unfold State.refusePage
    omega

/-- Settles O9: `get_refuse_err`, `get_refuse_last` and `refuse_entry` say what a refusal records, `event_get_entry` what an event
logs, and `exec_refused` that what a refused command does beyond its record stays within `Reports`, so that the record, the entry and the
configuration are kept. -/
theorem refusalsAndLog : Obligations.RefusalsAndLog := by
  unfold Obligations.RefusalsAndLog
  refine ⟨?record, ?logged, ?again, ?event, ?buffer, ?write, ?refused, ?absent, ?busy, ?safe, ?silent, ?answer⟩
  case record =>
    intro m wr p lr off code s _
    obtain ⟨hcode, hmaster, hwr, hoff⟩ := s.get_refuse_err m wr p lr off code
    exact ⟨hcode, hmaster, hwr, hoff, s.get_refuse_last m wr p lr off code⟩
  case logged =>
    intro m wr p lr off code s hon hfirst
    obtain ⟨hts, hcode, hdata, htotal, hsec⟩ := State.refuse_entry hon hfirst m wr lr off code
    have hslot : ((s.refuse m wr p lr off code).get EVT_TOTAL + 2 ^ 32 - 1) % 256 = s.get EVT_TOTAL % 256 := by omega
    simp only [State.lastEvent, hslot, hts, hcode, hdata, hsec, beq_self_eq_true, Bool.and_self]
  case again =>
    intro m wr p lr off code s hagain
    exact State.refuse_again_log hagain m wr lr off code
  case event =>
    intro code data s hon
    obtain ⟨hts, hcode, hdata⟩ := State.event_get_entry hon code data
    have hover := State.event_get_logFull hon code data (r := EVT_OVERWRITTEN) (n := 0) (by decide) (by decide)
    have hovf := State.event_get_logFull hon code data (r := EVT_OVF) (n := 0) (by decide) (by decide)
    refine ⟨hcode, hdata, hts, State.event_get_total hon code data, ?_, fun hfull => ?_, fun hfree => ?_, fun k hk hne => ?_⟩
    · rw [State.event_bitAt_raw hon code data (by decide), Bool.or_eq_true]
      exact .inr (by decide)
    · obtain ⟨hset, hraw, hcount⟩ := State.get_logFull_full hfull
      rw [hovf, hover, State.event_bitAt_raw hon code data (by decide), hraw]
      exact ⟨hset, rfl, hcount⟩
    · have hkeep : s.logFull = s := if_neg (by omega)
      rw [hovf, hover, hkeep]
      exact ⟨rfl, rfl⟩
    · have hother : k % 256 ≠ s.get EVT_TOTAL % 256 := by omega
      exact ⟨s.event_get_slot code data (by decide) hother, s.event_get_slot code data (by decide) hother,
        s.event_get_slot code data (by decide) hother⟩
  case buffer =>
    intro code data s hoff
    refine ⟨State.event_off_regs hoff code data, ?_⟩
    rw [State.event_off hoff]
    split_ifs with hroom
    · refine ⟨?_, rfl⟩
      rw [List.take_of_length_le]
      simp only [List.length_append, List.length_singleton]
      omega
    · refine ⟨?_, rfl⟩
      rw [Nat.max_eq_right (by omega), List.take_left]
  case write => exact fun i m p off data s hi => exec_of_commandWrite hi s
  case refused =>
    intro i m p off data r own s hi hs hm hp hpres hw hd hq hc hcode hwdt
    obtain ⟨hm5, hp256, hoff, ha⟩ := commandWrite_bounds hi
    obtain ⟨t, hexec, hreports⟩ := exec_refused hi hs hm hp hpres hw hd hq hc hwdt
    obtain ⟨herr, hmaster, hwr, hoffset, hlcode, hlmaster⟩ := s.refusePage_record p hm5 hoff hcode
    have hlogs := s.refusePage_logsOnly m true p off r.code
    refine ⟨t, hexec, (hreports.get_err (by decide) p).trans herr, (hreports.get_err (by decide) p).trans hmaster,
      (hreports.get_err (by decide) p).trans hwr, (hreports.get_err (by decide) p).trans hoffset,
      (hreports.get_last (by decide)).trans hlcode, (hreports.get_last (by decide)).trans hlmaster,
      hreports.staged.trans hlogs.staged, fun e he hacc => ?_, fun hon hfirst => ?_, fun a => ?_, fun b i => ?_, fun a => ?_⟩
    · exact State.refused_config hreports hp256 hoff ha he (by simpa [Row.isConfig, or_assoc] using hacc)
    · obtain ⟨hecode, hedata, hnext⟩ := State.refusePage_entry hon hfirst hp256 hm5 hcode off
      rw [hreports.get_entry (by decide) (by decide) hnext, hreports.get_entry (by decide) (by decide) hnext]
      exact ⟨hecode, hedata⟩
    · rw [hreports.gran, hlogs.gran]
    · unfold State.bank
      rw [hreports.loft, hlogs.loft]
    · rw [hreports.shadow, hlogs.shadow]
  case absent =>
    intro i m p off data s hi hs hm hp hpres hne _
    obtain ⟨_, _, hoff, ha⟩ := commandWrite_bounds hi
    have hbus := State.busWrite_absent (data := data) hs hm hp hpres hoff ha (fun h => hne h.1)
    rw [exec_of_commandWrite hi, State.command_of_busWrite (State.reachable_of_serves hs) hbus]
  case busy =>
    intro i m p off data s hi hreach hsafe hnvm hm hwdt
    obtain ⟨_, _, hoff, _⟩ := commandWrite_bounds hi
    have hplain : s.refuseNvm m (regAddr p off) = s.refuseAt m true (regAddr p off) ⟨cNVM, 0, false⟩ := if_neg (regAddr_ne_answer hoff hwdt)
    rw [exec_of_commandWrite hi, State.command_of_busWrite hreach (State.busWrite_nvm hreach hsafe hnvm hm _ _), hplain]
  case safe =>
    intro i m p off data s hi hreach hsafe
    rw [exec_of_commandWrite hi, State.command_of_busWrite hreach (State.busWrite_safe hreach hsafe m _ _)]
  case silent =>
    intro i m p off data s hi hcase
    obtain ⟨_, _, hoff, ha⟩ := commandWrite_bounds hi
    rw [exec_of_commandWrite hi]
    cases hreach : s.reachable
    · simp [State.command, State.writeNow, State.noteFrom, State.busWrite, hreach]
    · have hbus : s.busWrite m (regAddr p off) data = (s, cOK) := by
        rcases hcase with hno | ⟨hm, hsafe⟩ | ⟨hs, hm, hp, hlt⟩
        · exact absurd hreach (by simp [hno])
        · simp [State.busWrite, hreach, hm, hsafe]
        · exact State.busWrite_slot hs hm hp hlt hoff ha
      rw [State.command_of_busWrite hreach hbus]
      rfl
  case answer =>
    intro m data s hreach hsafe hnvm hm
    have hi : commandWrite (.wdtAnswer m data) = some (m.num, 0x003, 0x054, data.toNat) := rfl
    rw [exec_of_commandWrite hi, State.command_of_busWrite hreach (State.busWrite_nvm hreach hsafe hnvm hm _ _)]
    rfl

end Sys2Proof.Machine
end

section
/-! O8: absent pages, reserved words and reserved slots. -/

namespace Sys2Proof.Machine

open Sys2Proof

/-! ### Absent pages, reserved words and unaligned accesses -/

/-- An unaligned access is refused with ALIGN_REJECT (Table REG-4). -/
theorem State.readWord_unaligned (s : State) (m : Nat) {addr : Nat} (h : addr % 4 ≠ 0) :
    (s.readWord m addr).2 = (0xFFFFFFFF, cALIGN) := by simp [State.readWord, h]

theorem State.writeWord_unaligned (s : State) (m data : Nat) {addr : Nat} (h : addr % 4 ≠ 0) :
    (s.writeWord m addr data).2 = cALIGN := by simp [State.writeWord, h]

/-- A read of an absent page is not refused, and gives 0 outside the header's fixed words (R21). -/
theorem State.pageRead_absent {s : State} {p : Nat} (m off : Nat) (h : s.present p = false) :
    s.pageRead m p off = (s, if off = 0x000 ∨ off = 0x004 ∨ off = 0x020 then s.wordNow m p off else 0, cOK) := by
  simp [State.pageRead, h]

/-- CLR of an absent page's ERR_CODE is carried out (R21). -/
theorem State.pageWrite_absent_clr {s : State} {p data : Nat} (m : Nat) (h : s.present p = false) (hclr : bitAt data 31 = true) :
    (s.pageWrite m p 0x020 data).2 = cOK := by
  simp [State.pageWrite, h, hclr]

/-- Settles O8: where an aligned or unaligned access lands is `writeWord_page`, `readWord_page` and their kin; an absent page refuses writes
alone, and a reserved word or slot answers OK. -/
theorem absentAndReserved : Obligations.AbsentAndReserved := by
  unfold Obligations.AbsentAndReserved
  refine ⟨?unalignedRead, ?unalignedWrite, ?absentRead, ?absentWrite, ?absentClear, ?reservedRead, ?reservedWrite, ?slotRead, ?slotWrite⟩
  case unalignedRead =>
    intro m p off s hs hm _ _ hodd
    have h := s.readWord_unaligned m (addr := regAddr p off) (by rwa [regAddr_mod_four])
    rw [State.busRead_of_serves hs hm]
    simp only [h]
    rfl
  case unalignedWrite =>
    intro m p off data s hs hm _ _ hodd
    rw [State.busWrite_of_serves hs hm]
    exact State.writeWord_unaligned _ m data (by rwa [regAddr_mod_four])
  case absentRead =>
    intro m p off s hs hm hp hoff ha hpres
    rw [State.busRead_of_serves hs hm, State.readWord_page m hp hoff ha, State.pageRead_absent m off hpres]
    refine ⟨rfl, fun h0 h4 h20 => ?_⟩
    simp [h0, h4, h20]
  case absentWrite =>
    intro m p off data s hs hm hp hoff ha hpres hclr
    rw [State.busWrite_absent hs hm hp hpres hoff ha hclr]
    obtain ⟨hcode, _⟩ := s.get_refuse_err m true p (p % 0x100) off cROLE
    obtain ⟨hlast, _⟩ := s.get_refuse_last m true p (p % 0x100) off cROLE
    exact ⟨rfl, hcode, hlast⟩
  case absentClear =>
    intro m p data s hs hm hp hpres hclr
    rw [State.busWrite_of_serves hs hm, State.settlePosted_nil (.inl (isPosted_absent (by decide) hpres)),
      State.writeWord_page m data hp (by decide) (by decide), State.pageWrites_absent m _ data hpres]
    exact State.pageWrite_absent_clr m hpres hclr
  case reservedRead =>
    intro m p off s hs hm hp hoff ha hpres hw
    rw [State.busRead_of_serves hs hm, State.readWord_page m hp hoff ha, State.pageRead_reserved m hpres hw]
    rfl
  case reservedWrite =>
    intro m p off data s hs hm hp hoff ha hpres hw hposted
    rw [State.busWrite_of_serves hs hm, State.settlePosted_nil hposted, State.writeWord_page m data hp hoff ha]
    exact State.pageWrites_reserved m data hpres hw
  case slotRead =>
    intro m p off s hs hm hlt hoff ha hp
    rw [State.busRead_of_serves hs hm, State.readWord_slot m hp hlt hoff ha]
    rfl
  case slotWrite =>
    intro m p off data s hs hm hlt hoff ha hp
    exact State.busWrite_slot hs hm hp hlt hoff ha

end Sys2Proof.Machine
end

section
/-! O48: what a write leaves of the two-wire bus's own transaction. A word written by the bus may reach any function that a register
write reaches, and of these only the assertion of the internal reset touches the transaction. One lemma per function says that it keeps
`State.busView`: `simp` carries the view through the function's branches by the lemmas of the functions it calls, in the order of the
model's files. The functions that can assert the reset come last, with `State.BusKept`. -/

namespace Sys2Proof.Machine

open Sys2Proof

/-- What the two-wire target holds of its transaction, and whether the internal reset is held. -/
def State.busView (s : State) : Bool × Nat × Option Bool × Nat × Bool :=
  (s.boot.inReset, s.host.i2cPtr, s.host.i2cTxn, s.host.i2cWords, s.host.i2cAck)

/-! ### The state's own operations, records, choices and folds -/

@[simp] theorem State.put_busView (s : State) (r : Row) (v n i : Nat) : (s.put r v n i).busView = s.busView := rfl

@[simp] theorem State.addSat_busView (s : State) (r : Row) (v n i : Nat) : (s.addSat r v n i).busView = s.busView := rfl

@[simp] theorem State.stage_busView (s : State) (r : Row) (v n i : Nat) : (s.stage r v n i).busView = s.busView := rfl

@[simp] theorem State.inc_busView (s : State) (r : Row) (n i : Nat) : (s.inc r n i).busView = s.busView := rfl

@[simp] theorem State.incWrap_busView (s : State) (r : Row) (n i : Nat) : (s.incWrap r n i).busView = s.busView := rfl

@[simp] theorem State.fresh_busView (s : State) : s.fresh.2.busView = s.busView := rfl

/-- The view of a state given by its components: `simp` carries it through a record update by this lemma and the next. -/
@[simp] theorem State.busView_mk (pending regs staged parity owed log wdt yard boot gran shadow host loft semHold temp sol solc fpa cal
    mill nuc sen link linkc vid vout slu hsFault freeCtr) :
    State.busView ⟨pending, regs, staged, parity, owed, log, wdt, yard, boot, gran, shadow, host, loft, semHold, temp, sol, solc, fpa,
      cal, mill, nuc, sen, link, linkc, vid, vout, slu, hsFault, freeCtr⟩ =
    (boot.inReset, host.i2cPtr, host.i2cTxn, host.i2cWords, host.i2cAck) := rfl

@[simp] theorem State.busView_fold (s : State) :
    (s.boot.inReset, s.host.i2cPtr, s.host.i2cTxn, s.host.i2cWords, s.host.i2cAck) = s.busView := rfl

@[simp] theorem ite_busView (c : Prop) [Decidable c] (s t : State) :
    (if c then s else t).busView = if c then s.busView else t.busView := apply_ite State.busView c s t

@[simp] theorem foldl_busView {α : Type} (l : List α) (f : State → α → State) (hf : ∀ s a, (f s a).busView = s.busView)
    (s : State) : (l.foldl f s).busView = s.busView := by
  induction l generalizing s with
  | nil => rfl
  | cons a l ih => exact (ih _).trans (hf s a)

theorem State.LogsOnly.busView {s t : State} (h : s.LogsOnly t) : t.busView = s.busView := by
  rw [h.1]
  rfl

@[simp] theorem State.raise_busView (s : State) (p bits : Nat) : (s.raise p bits).busView = s.busView := by
  simp [State.raise]

@[simp] theorem State.setDefaulted_busView (s : State) (p : Nat) : (s.setDefaulted p).busView = s.busView := by
  simp [State.setDefaulted]

@[simp] theorem State.setPd_busView (s : State) (d v : Nat) : (s.setPd d v).busView = s.busView := by
  simp [State.setPd]

@[simp] theorem State.event_busView (s : State) (code data : Nat) :
    (s.event code data).busView = s.busView := (s.event_logsOnly code data).busView

@[simp] theorem State.noteErr_busView (s : State) (m : Nat) (wr : Bool) (p off code : Nat) :
    (s.noteErr m wr p off code).busView = s.busView := by
  simp [State.noteErr]

@[simp] theorem State.refuse_busView (s : State) (m : Nat) (wr : Bool) (p lr off code : Nat) :
    (s.refuse m wr p lr off code).busView = s.busView := by
  simp [State.refuse]

@[simp] theorem State.refusePage_busView (s : State) (m : Nat) (wr : Bool) (p off code : Nat) :
    (s.refusePage m wr p off code).busView = s.busView := by
  simp [State.refusePage]

@[simp] theorem State.stateRejected_busView (s : State) (mask : Nat) (blocking : Bool) (blk : Nat) :
    (s.stateRejected mask blocking blk).busView = s.busView := by
  simp [State.stateRejected]

@[simp] theorem State.refuseWith_busView (s : State) (m : Nat) (wr : Bool) (p off : Nat) (r : Refuse) :
    (s.refuseWith m wr p off r).busView = s.busView := by
  simp [State.refuseWith]

@[simp] theorem State.advanceEpoch_busView (s : State) (m : Nat) : (s.advanceEpoch m).busView = s.busView := by
  simp [State.advanceEpoch]

@[simp] theorem State.sluicePeak_busView (s : State) (x k : Nat) : (s.sluicePeak x k).busView = s.busView := by
  simp [State.sluicePeak]

/-! ### What Machine/Yard.lean leaves -/

@[simp] theorem State.reseed_busView (s : State) : s.reseed.busView = s.busView := by
  unfold State.reseed
  exact foldl_busView (List.range 20) _ (fun s i => State.put_busView s YARD_SAMPLES 0 0 i) _

@[simp] theorem State.rechoose_busView (s : State) : s.rechoose.busView = s.busView := by
  unfold State.rechoose
  dsimp only
  split <;> simp

@[simp] theorem State.clockSync_busView (s : State) : s.clockSync.busView = s.busView := by
  simp [State.clockSync]

@[simp] theorem State.beginExit_busView (s : State) (classes : Nat) (slot : Option Nat) :
    (s.beginExit classes slot).busView = s.busView := by
  simp [State.beginExit]

@[simp] theorem State.wakeExit_busView (s : State) (cls : Nat) (slot : Option Nat) : (s.wakeExit cls slot).busView = s.busView := by
  unfold State.wakeExit
  split <;> simp

@[simp] theorem State.armSlot_busView (s : State) (k sec tick : Nat) : (s.armSlot k sec tick).busView = s.busView := by
  simp [State.armSlot]

@[simp] theorem State.disarmSlot_busView (s : State) (k : Nat) : (s.disarmSlot k).busView = s.busView := by
  simp [State.disarmSlot]

@[simp] theorem State.armScan_busView (s : State) : s.armScan.busView = s.busView := by
  simp [State.armScan]

@[simp] theorem State.slotRefused_busView (s : State) (m k : Nat) : (s.slotRefused m k).busView = s.busView := by
  simp [State.slotRefused]

/-! ### What Machine/Locks.lean leaves -/

@[simp] theorem State.dropStaged_busView (s : State) (p : Nat) : (s.dropStaged p).busView = s.busView := by
  simp [State.dropStaged]

@[simp] theorem State.endFill_busView (s : State) (result : Nat) : (s.endFill result).busView = s.busView := by
  simp [State.endFill]

@[simp] theorem State.recover_busView (s : State) (n owner : Nat) : (s.recover n owner).busView = s.busView := by
  simp [State.recover]

@[simp] theorem State.orphan_busView (s : State) (n cause : Nat) : (s.orphan n cause).busView = s.busView := by
  simp [State.orphan]

@[simp] theorem State.orphanAll_busView (s : State) (m cause : Nat) : (s.orphanAll m cause).busView = s.busView := by
  simp [State.orphanAll]

@[simp] theorem State.freeSem_busView (s : State) (n : Nat) : (s.freeSem n).busView = s.busView := by
  simp [State.freeSem]

@[simp] theorem State.takeSem_busView (s : State) (m n : Nat) : (s.takeSem m n).busView = s.busView := by
  simp [State.takeSem]

@[simp] theorem State.semDo_busView (s : State) (m n cmd : Nat) : (s.semDo m n cmd).busView = s.busView := by
  simp [State.semDo]

@[simp] theorem State.newSession_busView (s : State) (m : Nat) : (s.newSession m).busView = s.busView := by
  simp [State.newSession]

@[simp] theorem State.revertOwner_busView (s : State) (m p : Nat) : (s.revertOwner m p).busView = s.busView := by
  simp [State.revertOwner]

@[simp] theorem State.extestEnd_busView (s : State) : s.extestEnd.busView = s.busView := by
  simp [State.extestEnd]

@[simp] theorem State.setPriv_busView (s : State) (bits : Nat) : (s.setPriv bits).busView = s.busView := by
  simp [State.setPriv]

@[simp] theorem State.startPeriod_busView (s : State) : s.startPeriod.busView = s.busView := by
  simp [State.startPeriod]

@[simp] theorem State.wdtSync_busView (s : State) : s.wdtSync.busView = s.busView := by
  simp [State.wdtSync]

@[simp] theorem State.wdtServed_busView (s : State) : s.wdtServed.busView = s.busView := by
  simp [State.wdtServed]

@[simp] theorem State.missedPeriod_busView (s : State) (reason : Nat) : (s.missedPeriod reason).busView = s.busView := by
  simp [State.missedPeriod]

/-! ### What Machine/Commit.lean leaves -/

@[simp] theorem State.takeStaged_busView (s : State) (p : Nat) (e : Nat × Nat) : (s.takeStaged p e).busView = s.busView := by
  simp [State.takeStaged]

@[simp] theorem State.takeWhere_busView (s : State) (p : Nat) (f : Nat → Bool) : (s.takeWhere p f).busView = s.busView := by
  simp [State.takeWhere]

@[simp] theorem State.commitPage_busView (s : State) (p : Nat) : (s.commitPage p).busView = s.busView := by
  simp [State.commitPage]

/-! ### What Machine/Sol.lean leaves -/

@[simp] theorem State.setChan_busView (s : State) (n : Nat) (ch : SolS) : (s.setChan n ch).busView = s.busView := by
  simp [State.setChan]

@[simp] theorem State.solFlag_busView (s : State) (n b : Nat) : (s.solFlag n b).busView = s.busView := by
  simp [State.solFlag]

@[simp] theorem State.boostSync_busView (s : State) (need : Bool) : (s.boostSync need).busView = s.busView := by
  simp [State.boostSync]

@[simp] theorem State.releaseRail_busView (s : State) (n : Nat) : (s.releaseRail n).busView = s.busView := by
  simp [State.releaseRail]

@[simp] theorem State.toOff_busView (s : State) (n : Nat) (rest : Bool) : (s.toOff n rest).busView = s.busView := by
  simp [State.toOff]

@[simp] theorem State.origin_busView (s : State) (n sw : Nat) : (s.origin n sw).busView = s.busView := by
  simp [State.origin]

@[simp] theorem State.enterBat_busView (s : State) (n ph : Nat) (cur : Bool) : (s.enterBat n ph cur).busView = s.busView := by
  simp [State.enterBat]

@[simp] theorem State.advance_busView (s : State) (n ph : Nat) (cur : Bool) : (s.advance n ph cur).busView = s.busView := by
  simp [State.advance]

@[simp] theorem State.boostOn_busView (s : State) (n : Nat) : (s.boostOn n).busView = s.busView := by
  simp [State.boostOn]

@[simp] theorem State.notReady_busView (s : State) (n : Nat) : (s.notReady n).busView = s.busView := by
  simp [State.notReady]

@[simp] theorem State.withRail_busView (s : State) (n : Nat) : (s.withRail n).busView = s.busView := by
  simp [State.withRail]

@[simp] theorem State.railRefuse_busView (s : State) (n : Nat) : (s.railRefuse n).busView = s.busView := by
  simp [State.railRefuse]

@[simp] theorem State.needRail_busView (s : State) (n : Nat) : (s.needRail n).busView = s.busView := by
  simp [State.needRail]

@[simp] theorem State.startProfile_busView (s : State) (n : Nat) : (s.startProfile n).busView = s.busView := by
  simp [State.startProfile]

@[simp] theorem State.restartProfile_busView (s : State) (n : Nat) : (s.restartProfile n).busView = s.busView := by
  simp [State.restartProfile]

@[simp] theorem State.fire_busView (s : State) (m n : Nat) : (s.fire m n).busView = s.busView := by
  simp [State.fire]

@[simp] theorem State.stopChan_busView (s : State) (n : Nat) : (s.stopChan n).busView = s.busView := by
  simp [State.stopChan]

@[simp] theorem State.solDo_busView (s : State) (m n : Nat) (fire stop : Bool) : (s.solDo m n fire stop).busView = s.busView := by
  simp [State.solDo]

@[simp] theorem State.readyJudge_busView (s : State) (v : Nat) : (s.readyJudge v).busView = s.busView := by
  simp [State.readyJudge]

@[simp] theorem State.ovJudge_busView (s : State) (v : Nat) : (s.ovJudge v).busView = s.busView := by
  simp [State.ovJudge]

@[simp] theorem State.vbst_busView (s : State) (v : Nat) : (s.vbst v).busView = s.busView := by
  simp [State.vbst]

@[simp] theorem State.boostFaultClr_busView (s : State) : s.boostFaultClr.busView = s.busView := by
  simp [State.boostFaultClr]

@[simp] theorem State.solTripClr_busView (s : State) (n : Nat) : (s.solTripClr n).busView = s.busView := by
  simp [State.solTripClr]

@[simp] theorem State.boostTripClr_busView (s : State) : s.boostTripClr.busView = s.busView := by
  simp [State.boostTripClr]

/-! ### What Machine/Fpa.lean leaves -/

@[simp] theorem State.rampFrom_busView (s : State) : s.rampFrom.busView = s.busView := by
  simp [State.rampFrom]

@[simp] theorem State.rampTop_busView (s : State) : s.rampTop.busView = s.busView := by
  simp [State.rampTop]

@[simp] theorem State.rampUp_busView (s : State) : s.rampUp.busView = s.busView := by
  simp [State.rampUp]

@[simp] theorem State.throttleRest_busView (s : State) : s.throttleRest.busView = s.busView := by
  simp [State.throttleRest]

@[simp] theorem State.rampDown_busView (s : State) : s.rampDown.busView = s.busView := by
  simp [State.rampDown]

@[simp] theorem State.biasSync_busView (s : State) : s.biasSync.busView = s.busView := by
  simp [State.biasSync]

@[simp] theorem State.bandSwitch_busView (s : State) : (State.bandSwitch s).1.busView = s.busView := by
  unfold State.bandSwitch
  dsimp only
  split <;> simp

@[simp] theorem State.bandRest_busView (s : State) : s.bandRest.busView = s.busView := by
  simp [State.bandRest]

/-! ### What Machine/Granary.lean leaves -/

@[simp] theorem State.onGran_busView (s : State) (f : GranS → GranS) : (s.onGran f).busView = s.busView := by
  simp [State.onGran]

@[simp] theorem State.hostJobEnd_busView (s : State) (op code : Nat) : (s.hostJobEnd op code).busView = s.busView := by
  simp [State.hostJobEnd]

@[simp] theorem State.reportTorn_busView (s : State) (places : List Nat) : (s.reportTorn places).busView = s.busView := by
  simp [State.reportTorn]

@[simp] theorem State.trimRefused_busView (s : State) (i : Nat) : (s.trimRefused i).busView = s.busView := by
  simp [State.trimRefused]

@[simp] theorem State.regionFull_busView (s : State) (j : Job) : (s.regionFull j).busView = s.busView := by
  simp [State.regionFull]

@[simp] theorem State.engineLook_busView (f : Nat) (s : State) : (s.engineLook f).busView = s.busView := by
  induction f generalizing s with
  | zero => rfl
  | succ f ih =>
    unfold State.engineLook
    split
    · rfl
    split
    · rfl
    dsimp only
    split
    · split
      · simp
      split
      · simp [ih]
      · simp
    · simp

@[simp] theorem State.engineStart_busView (s : State) : s.engineStart.busView = s.busView := by
  simp [State.engineStart]

@[simp] theorem State.addJob_busView (s : State) (j : Job) : (s.addJob j).busView = s.busView := by
  simp [State.addJob]

@[simp] theorem State.clearResult_busView (s : State) : s.clearResult.busView = s.busView := by
  simp [State.clearResult]

@[simp] theorem State.deviceRefused_busView (s : State) (rank : Nat) : (s.deviceRefused rank).busView = s.busView := by
  simp [State.deviceRefused]

@[simp] theorem State.hostJobStart_busView (s : State) (m op arg : Nat) (ops : List GOp) :
    (s.hostJobStart m op arg ops).busView = s.busView := by
  simp [State.hostJobStart]

@[simp] theorem State.granFind_busView (s : State) (m : Nat) : (s.granFind m).busView = s.busView := by
  unfold State.granFind
  dsimp only
  split <;> simp

@[simp] theorem State.startFieldSave_busView (s : State) (m : Nat) : (s.startFieldSave m).busView = s.busView := by
  simp [State.startFieldSave]

@[simp] theorem State.saveCode_busView (s : State) (code : Nat) : (s.saveCode code).busView = s.busView := by
  simp [State.saveCode]

@[simp] theorem State.startScan_busView (s : State) : s.startScan.busView = s.busView := by
  simp [State.startScan]

@[simp] theorem State.granDo_busView (s : State) (m op : Nat) : (s.granDo m op).busView = s.busView := by
  simp [State.granDo]

@[simp] theorem State.sramWrite_busView (s : State) (a w : Nat) : (s.sramWrite a w).busView = s.busView := by
  simp [State.sramWrite]

@[simp] theorem State.commitStore_busView (s : State) (cause rank : Nat) : (s.commitStore cause rank).busView = s.busView := by
  unfold State.commitStore
  extract_lets older gen gen' _ s1 s2 s3 snap pre _ _ s4
  have h1 : s1.busView = s.busView := rfl
  have h2 : s2.busView = s1.busView := rfl
  have h3 : s3.busView = s2.busView := State.sramWrite_busView ..
  have h4 : s4.busView = s3.busView := State.busView_mk ..
  exact (State.addJob_busView _ _).trans (h4.trans (h3.trans (h2.trans h1)))

/-! ### What Machine/Chcal.lean leaves -/

@[simp] theorem State.setSlot_busView (s : State) (k : Nat) (sl : Slot) : (s.setSlot k sl).busView = s.busView := by
  simp [State.setSlot]

@[simp] theorem State.instBit_busView (s : State) (r : Row) (i : Nat) (b : Bool) : (s.instBit r i b).busView = s.busView := by
  simp [State.instBit]

@[simp] theorem State.calRefuse_busView (s : State) (i m : Nat) : (s.calRefuse i m).busView = s.busView := by
  simp [State.calRefuse]

@[simp] theorem State.request_busView (s : State) (m : Nat) (insts : List Nat) : (s.request m insts).busView = s.busView := by
  simp [State.request]

@[simp] theorem State.slotDrop_busView (s : State) (k : Nat) : (s.slotDrop k).busView = s.busView := by
  unfold State.slotDrop
  dsimp only
  split <;> simp

@[simp] theorem State.dropOverlaps_busView (s : State) : s.dropOverlaps.busView = s.busView := by
  simp [State.dropOverlaps]

/-! ### What Machine/Mill.lean leaves -/

@[simp] theorem State.setBank_busView (s : State) (b : Nat) (im : Image) : (s.setBank b im).busView = s.busView := by
  simp [State.setBank]

@[simp] theorem State.fillStart_busView (s : State) : s.fillStart.busView = s.busView := by
  simp [State.fillStart]

@[simp] theorem State.fillEnd_busView (s : State) : s.fillEnd.busView = s.busView := by
  simp [State.fillEnd]

@[simp] theorem State.loadFrom_busView (s : State) (k : Nat) (retry : Bool) : (s.loadFrom k retry).busView = s.busView := by
  unfold State.loadFrom
  extract_lets b t
  have ht : t.busView = s.busView :=
    (State.put_busView ..).trans ((State.put_busView ..).trans (State.setBank_busView ..))
  have hloft (u : State) (l : LoftS) : State.busView { u with loft := l } = u.busView := rfl
  exact (hloft ..).trans ((State.put_busView t ..).trans ht)

@[simp] theorem State.loadBank_busView (s : State) (fromFactory : Bool) : (s.loadBank fromFactory).busView = s.busView := by
  unfold State.loadBank
  split <;> simp

@[simp] theorem State.fillAbort_busView (s : State) : s.fillAbort.busView = s.busView := by
  simp [State.fillAbort]

@[simp] theorem State.loftPut_busView (s : State) (b i w : Nat) : (s.loftPut b i w).busView = s.busView := by
  simp [State.loftPut]

@[simp] theorem State.zeroCn_busView (s : State) : s.zeroCn.busView = s.busView := by
  unfold State.zeroCn
  exact foldl_busView (List.range 640) _ (fun s c => State.put_busView s MILL_CN 0 0 c) _

@[simp] theorem State.bankSwitch_busView (s : State) : (State.bankSwitch s).1.busView = s.busView := by
  unfold State.bankSwitch
  split <;> simp

@[simp] theorem State.millGo_busView (s : State) : s.millGo.busView = s.busView := by
  simp [State.millGo]

@[simp] theorem State.millCommit_busView (s : State) : s.millCommit.busView = s.busView := by
  simp [State.millCommit]

@[simp] theorem State.fpaCommit_busView (s : State) : s.fpaCommit.busView = s.busView := by
  simp [State.fpaCommit]

@[simp] theorem State.driftCommit_busView (s : State) : s.driftCommit.busView = s.busView := by
  simp [State.driftCommit]

/-! ### What Machine/Nuc.lean leaves -/

@[simp] theorem State.closeReq_busView (s : State) (force : Bool) : (s.closeReq force).busView = s.busView := by
  simp [State.closeReq]

@[simp] theorem State.saveStart_busView (s : State) : s.saveStart.busView = s.busView := by
  simp [State.saveStart]

@[simp] theorem State.saveAbort_busView (s : State) (reason : Nat) (again : Bool) : (s.saveAbort reason again).busView = s.busView := by
  simp [State.saveAbort]

@[simp] theorem State.shutFault_busView (s : State) (cause : Nat) : (s.shutFault cause).busView = s.busView := by
  simp [State.shutFault]

@[simp] theorem State.saveRestart_busView (s : State) : s.saveRestart.busView = s.busView := by
  simp [State.saveRestart]

@[simp] theorem State.switchRest_busView (s : State) : s.switchRest.busView = s.busView := by
  simp [State.switchRest]

/-! ### What Machine/Sentry.lean leaves -/

@[simp] theorem State.bgReset_busView (s : State) : s.bgReset.busView = s.busView := by
  simp [State.bgReset]

@[simp] theorem State.senArm_busView (s : State) : s.senArm.busView = s.busView := by
  simp [State.senArm]

@[simp] theorem State.senSync_busView (s : State) : s.senSync.busView = s.busView := by
  simp [State.senSync]

/-! ### What Machine/Link.lean leaves -/

@[simp] theorem State.setPort_busView (s : State) (n : Nat) (p : LinkS) : (s.setPort n p).busView = s.busView := by
  simp [State.setPort]

@[simp] theorem State.stallReport_busView (s : State) (n : Nat) : (s.stallReport n).busView = s.busView := by
  simp [State.stallReport]

@[simp] theorem State.post_busView (s : State) (n msg : Nat) (ws : List Nat) : (s.post n msg ws).busView = s.busView := by
  simp [State.post]

@[simp] theorem State.noteStatus_busView (s : State) : s.noteStatus.busView = s.busView := by
  simp [State.noteStatus]

@[simp] theorem State.showPort_busView (s : State) (n : Nat) : (s.showPort n).busView = s.busView := by
  simp [State.showPort]

@[simp] theorem State.tunIssue_busView (s : State) (m n data : Nat) : (s.tunIssue m n data).busView = s.busView := by
  simp [State.tunIssue]

@[simp] theorem State.tunPop_busView (s : State) (n : Nat) : (s.tunPop n).busView = s.busView := by
  simp [State.tunPop]

@[simp] theorem State.hevtPop_busView (s : State) (n : Nat) : (s.hevtPop n).busView = s.busView := by
  simp [State.hevtPop]

@[simp] theorem State.rresetIssue_busView (s : State) (m n : Nat) (image : Bool) : (s.rresetIssue m n image).busView = s.busView := by
  simp [State.rresetIssue]

@[simp] theorem State.linkQueueCut_busView (s : State) : s.linkQueueCut.busView = s.busView := by
  simp [State.linkQueueCut]

@[simp] theorem State.msgPeak_busView (s : State) (n : Nat) : (s.msgPeak n).busView = s.busView := by
  simp [State.msgPeak]

@[simp] theorem State.sessionLost_busView (s : State) (n cause : Nat) : (s.sessionLost n cause).busView = s.busView := by
  unfold State.sessionLost
  split
  · rfl
  · extract_lets s1 p done sOrph _ sCut _ rs lost _ sShow sMid sDone _
    have h1 : s1.busView = s.busView := State.msgPeak_busView ..
    have horph : sOrph.busView = s1.busView := (State.orphanAll_busView ..).trans (State.advanceEpoch_busView ..)
    have hcut : sCut.busView = sOrph.busView := by
      unfold sCut
      rw [State.linkQueueCut_busView, State.setPort_busView]
    have hshow : sShow.busView = s1.busView := by
      unfold sShow
      rw [State.showPort_busView, State.addSat_busView, State.setPort_busView]
    have hfwd (t : State) (c : LinkCom) : State.busView { t with linkc := c } = t.busView := rfl
    clear_value sCut sShow
    have hmid : sMid.busView = s1.busView := by
      unfold sMid
      split
      · exact (hfwd ..).trans (hcut.trans horph)
      · split
        · exact hshow
        · exact hshow
    clear_value sMid
    have hdone : sDone.busView = sMid.busView := (State.raise_busView ..).trans (State.put_busView ..)
    clear_value sDone
    exact (State.event_busView ..).trans ((State.setPort_busView ..).trans (hdone.trans (hmid.trans h1)))

@[simp] theorem State.leaveUp_busView (s : State) (n st : Nat) : (s.leaveUp n st).busView = s.busView := by
  simp [State.leaveUp]

@[simp] theorem State.toBase_busView (s : State) (n : Nat) : (s.toBase n).busView = s.busView := by
  simp [State.toBase]

@[simp] theorem State.portStart_busView (s : State) (n : Nat) : (s.portStart n).busView = s.busView := by
  simp [State.portStart]

@[simp] theorem State.pocClr_busView (s : State) (n : Nat) : (s.pocClr n).busView = s.busView := by
  simp [State.pocClr]

@[simp] theorem State.portOff_busView (s : State) (n : Nat) (dormant : Bool) : (s.portOff n dormant).busView = s.busView := by
  simp [State.portOff]

@[simp] theorem State.linkCommit_busView (s : State) (n : Nat) : (s.linkCommit n).busView = s.busView := by
  simp [State.linkCommit]

/-! ### What Machine/Video.lean leaves -/

@[simp] theorem State.streamTake_busView (s : State) (p st : Nat) : (s.streamTake p st).busView = s.busView := by
  simp [State.streamTake]

@[simp] theorem State.streamsGo_busView (s : State) (p : Nat) : (s.streamsGo p).busView = s.busView := by
  simp [State.streamsGo]

@[simp] theorem State.pvpPins_busView (s : State) : s.pvpPins.busView = s.busView := by
  simp [State.pvpPins]

/-! ### What Machine/LinkVideo.lean leaves -/

@[simp] theorem State.authClr_busView (s : State) (n : Nat) : (s.authClr n).busView = s.busView := by
  simp [State.authClr]

/-! ### What Machine/Power.lean leaves -/

@[simp] theorem State.policyNow_busView (s : State) : s.policyNow.busView = s.busView := by
  simp [State.policyNow]

@[simp] theorem State.axesAt_busView (s : State) (all here : Bool) : (s.axesAt all here).busView = s.busView := by
  simp [State.axesAt]

@[simp] theorem State.axesNow_busView (s : State) (all : Bool) : (s.axesNow all).busView = s.busView := by
  simp [State.axesNow]

@[simp] theorem State.pixCloses_busView (s : State) : s.pixCloses.busView = s.busView := by
  simp [State.pixCloses]

@[simp] theorem State.closing_busView (s : State) (d : Nat) : (s.closing d).busView = s.busView := by
  simp [State.closing]

@[simp] theorem State.reopen_busView (s : State) (d : Nat) : (s.reopen d).busView = s.busView := by
  simp [State.reopen]

@[simp] theorem State.openingEnds_busView (s : State) (d : Nat) : (s.openingEnds d).busView = s.busView := by
  simp [State.openingEnds]

@[simp] theorem State.domainsSync_busView (s : State) : s.domainsSync.busView = s.busView := by
  simp [State.domainsSync]

@[simp] theorem State.commitFull_busView (s : State) (p : Nat) : (s.commitFull p).busView = s.busView := by
  simp [State.commitFull]

@[simp] theorem State.outSync_busView (s : State) : s.outSync.busView = s.busView := by
  simp [State.outSync]

@[simp] theorem State.senCommit_busView (s : State) : s.senCommit.busView = s.busView := by
  simp [State.senCommit]

@[simp] theorem State.beginTrans_busView (s : State) (target cause : Nat) : (s.beginTrans target cause).busView = s.busView := by
  simp [State.beginTrans]

@[simp] theorem State.modeAccepted_busView (s : State) (m : Nat) : (s.modeAccepted m).busView = s.busView := by
  simp [State.modeAccepted]

@[simp] theorem State.modeBlocked_busView (s : State) (target : Nat) : (s.modeBlocked target).busView = s.busView := by
  unfold State.modeBlocked
  split
  · split <;> simp
  · rfl

@[simp] theorem State.modeDo_busView (s : State) (m target : Nat) : (s.modeDo m target).busView = s.busView := by
  simp [State.modeDo]

@[simp] theorem State.senEnd_busView (s : State) : s.senEnd.busView = s.busView := by
  simp [State.senEnd]

@[simp] theorem State.tryReturn_busView (s : State) (first : Bool) : (s.tryReturn first).busView = s.busView := by
  unfold State.tryReturn
  split
  · split <;> simp
  · rfl

@[simp] theorem State.rechooseAll_busView (s : State) : s.rechooseAll.busView = s.busView := by
  simp [State.rechooseAll]

@[simp] theorem State.exitMode_busView (s : State) (e : Exit) : (s.exitMode e).busView = s.busView := by
  simp [State.exitMode]

@[simp] theorem State.noteSlot_busView (s : State) (slot : Option Nat) : (s.noteSlot slot).busView = s.busView := by
  unfold State.noteSlot
  split <;> simp

@[simp] theorem State.wakeDormant_busView (s : State) (cls : Nat) (slot : Option Nat) : (s.wakeDormant cls slot).busView = s.busView := by
  unfold State.wakeDormant
  dsimp only
  split <;> simp

@[simp] theorem State.noteWake_busView (s : State) (fresh : Bool) : (s.noteWake fresh).busView = s.busView := by
  unfold State.noteWake
  split
  · split <;> simp
  · rfl

@[simp] theorem State.holdWake_busView (s : State) (cls : Nat) (slot : Option Nat) : (s.holdWake cls slot).busView = s.busView := by
  unfold State.holdWake
  split <;> simp

@[simp] theorem State.abandonEntry_busView (s : State) (t : Trans) (cls : Nat) : (s.abandonEntry t cls).busView = s.busView := by
  simp [State.abandonEntry]

@[simp] theorem State.wakeIn_busView (s : State) (cls : Nat) (slot : Option Nat) : (s.wakeIn cls slot).busView = s.busView := by
  unfold State.wakeIn
  split
  · rfl
  split
  · simp
  split
  · simp
  split
  · rfl
  split
  · simp
  split
  · split <;> simp
  · simp

@[simp] theorem State.wake_busView (s : State) (cls : Nat) (slot : Option Nat) : (s.wake cls slot).busView = s.busView := by
  simp [State.wake]

/-! ### What Machine/Reset.lean leaves -/

@[simp] theorem State.markKind_busView (s : State) (k : Nat) : (s.markKind k).busView = s.busView := by
  simp [State.markKind]

/-! ### What Machine/Cmdq.lean leaves -/

@[simp] theorem State.setQueue_busView (s : State) (q : Nat) (x : Queue) : (s.setQueue q x).busView = s.busView := by
  simp [State.setQueue]

@[simp] theorem State.runOver_busView (s : State) (state code : Nat) : (s.runOver state code).busView = s.busView := by
  unfold State.runOver
  split <;> simp

@[simp] theorem State.runStart_busView (s : State) (id e : Nat) : (s.runStart id e).busView = s.busView := by
  simp [State.runStart]

@[simp] theorem State.autoRun_busView (f : Nat) (s : State) : (s.autoRun f).busView = s.busView := by
  induction f generalizing s with
  | zero => rfl
  | succ f ih => simp [State.autoRun, ih]

@[simp] theorem State.scriptItemEnd_busView (s : State) (code : Nat) (notMet : Bool) :
    (s.scriptItemEnd code notMet).busView = s.busView := by
  unfold State.scriptItemEnd
  split <;> simp

@[simp] theorem State.itemEnd_busView (s : State) (q : Nat) (script : Bool) (i : List Nat) (code : Nat) (flushed met : Bool) (result :
    Nat) : (s.itemEnd q script i code flushed met result).busView = s.busView := by
  simp [State.itemEnd]

@[simp] theorem State.itemTake_busView (s : State) (q : Nat) (script : Bool) : (s.itemTake q script).busView = s.busView := by
  simp [State.itemTake]

@[simp] theorem State.itemVoid_busView (s : State) (q : Nat) (script : Bool) (i : List Nat) (code : Nat) :
    (s.itemVoid q script i code).busView = s.busView := by
  unfold State.itemVoid
  exact (State.autoRun_busView _ _).trans ((State.itemEnd_busView ..).trans (State.itemTake_busView ..))

@[simp] theorem State.settleQueue_busView (f q : Nat) (s : State) : (s.settleQueue f q).busView = s.busView := by
  induction f generalizing s with
  | zero => rfl
  | succ f ih =>
    unfold State.settleQueue
    split
    · rfl
    · split
      · exact (ih _).trans (State.itemVoid_busView ..)
      · rfl

@[simp] theorem State.settleEmpty_busView (s : State) :
    s.settleEmpty.busView = s.busView := foldl_busView _ _ (fun _ _ => State.settleQueue_busView ..) s

@[simp] theorem State.settleTurns_busView (f : Nat) (s : State) : (s.settleTurns f).busView = s.busView := by
  induction f generalizing s with
  | zero => rfl
  | succ f ih =>
    unfold State.settleTurns
    split
    · rfl
    · split
      · rfl
      · exact (ih _).trans ((State.settleEmpty_busView _).trans (State.itemVoid_busView ..))

@[simp] theorem State.settle_busView (s : State) : s.settle.busView = s.busView := by
  unfold State.settle
  refine (State.settleTurns_busView ..).trans ((State.settleEmpty_busView _).trans ?_)
  split
  · split
    · exact (State.autoRun_busView ..).trans (State.runOver_busView ..)
    · rfl
  · exact State.autoRun_busView ..

@[simp] theorem State.headerIn_busView (s : State) (q w : Nat) : (s.headerIn q w).1.busView = s.busView := by
  unfold State.headerIn
  dsimp only
  split
  · split <;> simp
  · simp

@[simp] theorem State.dataIn_busView (s : State) (q w : Nat) : (s.dataIn q w).busView = s.busView := by
  simp [State.dataIn]

@[simp] theorem State.startClear_busView (s : State) (q : Nat) : (s.startClear q).busView = s.busView := by
  simp [State.startClear]

@[simp] theorem State.startIn_busView (s : State) (q w : Nat) : (s.startIn q w).busView = s.busView := by
  simp [State.startIn]

@[simp] theorem State.busyCut_busView (s : State) (q : Nat) (flushed : Bool) : (s.busyCut q flushed).busView = s.busView := by
  unfold State.busyCut
  dsimp only
  split <;> simp

@[simp] theorem State.waitStart_busView (s : State) (q : Nat) : (s.waitStart q).busView = s.busView := by
  simp [State.waitStart]

@[simp] theorem State.flush_busView (s : State) (q : Nat) : (s.flush q).busView = s.busView := by
  unfold State.flush
  refine (State.settle_busView _).trans ?_
  split <;> simp

@[simp] theorem State.complPop_busView (s : State) (q : Nat) : (s.complPop q).busView = s.busView := by
  simp [State.complPop]

@[simp] theorem State.seqStop_busView (s : State) : s.seqStop.busView = s.busView := by
  unfold State.seqStop
  split
  · rfl
  · dsimp only
    split <;> simp

/-! ### What Machine/Strobes.lean leaves -/

@[simp] theorem State.commitNow_busView (s : State) (p : Nat) : (s.commitNow p).busView = s.busView := by
  simp [State.commitNow]

@[simp] theorem State.goDo_busView (s : State) (p : Nat) : (s.goDo p).busView = s.busView := by
  simp [State.goDo]

@[simp] theorem State.dropDo_busView (s : State) (p : Nat) : (s.dropDo p).busView = s.busView := by
  simp [State.dropDo]

@[simp] theorem State.portEn_busView (s : State) (n : Nat) : (s.portEn n).busView = s.busView := by
  simp [State.portEn]

@[simp] theorem State.enChanged_busView (s : State) (p : Nat) : (s.enChanged p).busView = s.busView := by
  simp [State.enChanged]

@[simp] theorem State.pinRefused_busView (s : State) (m k : Nat) : (s.pinRefused m k).busView = s.busView := by
  simp [State.pinRefused]

@[simp] theorem State.pinClaim_busView (s : State) (m k data : Nat) (was : Nat) : (s.pinClaim m k data was).busView = s.busView := by
  simp [State.pinClaim]

@[simp] theorem State.storeField_busView (s : State) (p data : Nat) (r : Row) (i : Nat) :
    (s.storeField p data r i).busView = s.busView := by
  unfold State.storeField
  split <;> simp

@[simp] theorem State.storeWord_busView (s : State) (p off data : Nat) : (s.storeWord p off data).busView = s.busView := by
  simp [State.storeWord]

@[simp] theorem State.bankDo_busView (s : State) (data : Nat) : (s.bankDo data).busView = s.busView := by
  simp [State.bankDo]

@[simp] theorem State.biasClear_busView (s : State) : s.biasClear.busView = s.busView := by
  simp [State.biasClear]

@[simp] theorem State.storeCmd_busView (s : State) : s.storeCmd.busView = s.busView := by
  simp [State.storeCmd]

@[simp] theorem State.signature_busView (s : State) : s.signature.busView = s.busView := by
  simp [State.signature]

@[simp] theorem State.wakeCmd_busView (s : State) (n : Nat) : (s.wakeCmd n).busView = s.busView := by
  simp [State.wakeCmd]

/-! ### What Machine/Bus.lean leaves -/

@[simp] theorem State.refuseAt_busView (s : State) (m : Nat) (wr : Bool) (addr : Nat) (r : Refuse) :
    (s.refuseAt m wr addr r).busView = s.busView := by
  simp [State.refuseAt]

@[simp] theorem State.attnRest_busView (s : State) : s.attnRest.busView = s.busView := by
  simp [State.attnRest]

/-! ### What can assert the internal reset -/

/-- The internal reset is asserted after, or the transaction of the two-wire bus stands as before. -/
def State.BusKept (s t : State) : Prop := t.boot.inReset = true ∨ t.busView = s.busView

theorem State.BusKept.of_view {s t : State} (h : t.busView = s.busView) : s.BusKept t := .inr h

theorem State.BusKept.refl (s : State) : s.BusKept s := .inr rfl

theorem State.inReset_of_busView {s t : State} (h : t.busView = s.busView) : t.boot.inReset = s.boot.inReset :=
  congrArg Prod.fst h

theorem State.BusKept.trans {s t u : State} (h : s.BusKept t) (h' : t.BusKept u) : s.BusKept u := by
  rcases h' with hu | hu
  · exact .inl hu
  · rcases h with ht | ht
    · exact .inl ((State.inReset_of_busView hu).trans ht)
    · exact .inr (hu.trans ht)

/-- A step that keeps the transaction, after. -/
theorem State.BusKept.view {s t u : State} (h : s.BusKept t) (hu : u.busView = t.busView) : s.BusKept u :=
  h.trans (.inr hu)

/-- A step that keeps the transaction, before. -/
theorem State.BusKept.after {s t u : State} (h : t.BusKept u) (ht : t.busView = s.busView) : s.BusKept u :=
  .trans (.inr ht) h

theorem State.assertRest_inReset (s : State) (lost : Bool) : (s.assertRest lost).boot.inReset = true := rfl

theorem State.assertLost_inReset (s : State) (k : Nat) : (s.assertLost k).boot.inReset = true := by
  unfold State.assertLost
  extract_lets n s1 s2 s3 boot s4
  have h : s3.boot.inReset = true := State.assertRest_inReset s2.loseC true
  clear_value s3
  have h4 : s4.boot.inReset = true := h
  clear_value s4
  split
  · exact h4
  · exact (State.inReset_of_busView (State.event_busView ..)).trans h4

theorem State.wdtReset_busKept (s : State) : s.BusKept s.wdtReset := .inl (State.assertLost_inReset ..)

theorem State.wdtMiss_busKept (s : State) (reason : Nat) : s.BusKept (s.wdtMiss reason) := by
  unfold State.wdtMiss
  extract_lets t
  split
  · exact (State.wdtReset_busKept _).after (State.missedPeriod_busView ..)
  · exact .of_view (State.missedPeriod_busView ..)

theorem State.badService_busKept (s : State) (code : Nat) : s.BusKept (s.badService code) := by
  unfold State.badService
  split
  · exact State.wdtMiss_busKept ..
  · exact .refl s

theorem State.softGo_busKept (s : State) : s.BusKept s.softGo := by
  unfold State.softGo
  split
  · exact .inl (State.assertRest_inReset ..)
  · exact .refl s

theorem State.softReset_busKept (s : State) (k : Nat) (image : Bool) : s.BusKept (s.softReset k image) := by
  unfold State.softReset
  split
  · exact .refl s
  · refine (State.softGo_busKept _).after ?_
    rw [State.domainsSync_busView, State.senEnd_busView]
    exact (State.busView_mk ..).trans (State.markKind_busView s k)

theorem State.blockAct_sys_busView (s : State) (m off data was : Nat) (h : off ≠ 0x068) :
    (s.blockAct m 0x000 off data was).busView = s.busView := by
  simp [State.blockAct, h]

theorem State.blockAct_cmdq_busView (s : State) (m off data was : Nat) :
    (s.blockAct m 0x00A off data was).busView = s.busView := by
  simp only [State.blockAct, ite_busView, State.enChanged_busView, State.raise_busView]
  simp
  intros
  split
  · split <;> simp only [State.dataIn_busView, State.startIn_busView] <;> split <;> simp
  · split_ifs <;> simp

theorem State.blockAct_sluice_busView (s : State) (m off data was : Nat) :
    (s.blockAct m 0x00C off data was).busView = s.busView := by
  simp [State.blockAct]
  intros
  split
  · split <;> rfl
  · rfl

/-- Of the actions of a write, only a write of RESET_CMD can assert the internal reset. -/
theorem State.blockAct_busView (s : State) (m p off data was : Nat) (h : ¬ (p = 0x000 ∧ off = 0x068)) :
    (s.blockAct m p off data was).busView = s.busView := by
  by_cases h0 : p = 0x000
  · exact h0 ▸ State.blockAct_sys_busView s m off data was fun e => h ⟨h0, e⟩
  by_cases hq : p = 0x00A
  · exact hq ▸ State.blockAct_cmdq_busView s m off data was
  by_cases hl : p = 0x00C
  · exact hl ▸ State.blockAct_sluice_busView s m off data was
  simp [State.blockAct, h0, hq, hl]

theorem State.blockAct_busKept (s : State) (m p off data was : Nat) : s.BusKept (s.blockAct m p off data was) := by
  by_cases h : p = 0x000 ∧ off = 0x068
  · obtain ⟨rfl, rfl⟩ := h
    simpa [State.blockAct] using State.softReset_busKept s kSOFT (bitAt data 8)
  · exact .of_view (State.blockAct_busView s m p off data was h)

theorem State.refusalAct_busKept (s : State) (m p off data code : Nat) (own : Bool) :
    s.BusKept (s.refusalAct m p off data code own) := by
  unfold State.refusalAct
  split
  · exact State.badService_busKept ..
  refine .of_view ?_
  simp
  intros
  split
  · split <;> simp
  · rfl

theorem State.writeDo_busKept (s : State) (m p off data : Nat) : s.BusKept (s.writeDo m p off data) := by
  have h : s.BusKept ((s.storeWord p off data).blockAct m p off data (s.wordNow m p off)) :=
    (State.blockAct_busKept ..).after (State.storeWord_busView ..)
  unfold State.writeDo
  extract_lets was t
  split
  · exact h.view (State.attnRest_busView _)
  · exact h

theorem State.pageWrite_busKept (s : State) (m p off data : Nat) : s.BusKept (s.pageWrite m p off data).1 := by
  unfold State.pageWrite
  split
  · split
    · exact State.writeDo_busKept ..
    · exact .of_view (State.refusePage_busView ..)
  · split
    · exact .refl s
    · split
      · exact (State.refusalAct_busKept ..).after (State.refuseWith_busView ..)
      · exact State.writeDo_busKept ..

theorem State.pageWrites_busKept (s : State) (m p off data : Nat) : s.BusKept (s.pageWrites m p off data).1 := by
  unfold State.pageWrites
  split
  · exact State.pageWrite_busKept ..
  · refine List.foldlRecOn (motive := fun a : State × Nat => s.BusKept a.1) _ _ (.refl s) fun a ha d _ => ?_
    exact ha.trans (State.pageWrite_busKept ..)

theorem State.writeWord_busKept (s : State) (m addr data : Nat) : s.BusKept (s.writeWord m addr data).1 := by
  unfold State.writeWord
  split
  · exact .of_view (State.refuseAt_busView ..)
  split
  · exact State.pageWrites_busKept ..
  · exact .refl s
  · split
    · exact .of_view (State.refuseAt_busView ..)
    · exact .of_view (State.sramWrite_busView ..)
  · split
    · exact .of_view (State.refuseAt_busView ..)
    · exact .of_view (State.loftPut_busView ..)
  · exact .of_view (State.refuseAt_busView ..)
  · exact .of_view (State.refuseAt_busView ..)

@[simp] theorem State.noteCode_busView (s : State) (m k : Nat) : (s.noteCode m k).busView = s.busView := by
  have h : (s.noteLast m k).busView = s.busView := by
    unfold State.noteLast
    split
    · rfl
    · split <;> rfl
  unfold State.noteCode
  extract_lets t
  split
  · exact h
  split
  · exact h
  split
  · split <;> exact h
  split <;> exact h

theorem State.takePosted_busKept (s : State) : s.BusKept s.takePosted := by
  unfold State.takePosted
  split
  · exact .refl s
  next m addr data l _ =>
    have h : s.BusKept ({ s with host := { s.host with posted := l } }.writeWord m addr data).1 :=
      (State.writeWord_busKept ..).after (State.busView_mk ..)
    exact h.view (State.noteCode_busView ..)

theorem State.takeAllPosted_busKept (f : Nat) (s : State) : s.BusKept (s.takeAllPosted f) := by
  induction f generalizing s with
  | zero => exact .refl s
  | succ f ih =>
    unfold State.takeAllPosted
    split
    · exact .refl s
    · exact (State.takePosted_busKept s).trans (ih _)

theorem State.settlePosted_busKept (s : State) (addr : Nat) : s.BusKept (s.settlePosted addr) := by
  unfold State.settlePosted
  split
  · exact State.takeAllPosted_busKept ..
  · exact .refl s

theorem State.refuseNvm_busKept (s : State) (m addr : Nat) : s.BusKept (s.refuseNvm m addr) := by
  have h : s.BusKept (s.refuseAt m true addr ⟨cNVM, 0, false⟩) := .of_view (State.refuseAt_busView ..)
  unfold State.refuseNvm
  extract_lets t
  split
  · exact h.trans (State.badService_busKept ..)
  · exact h

theorem State.busWrite_busKept (s : State) (m addr data : Nat) : s.BusKept (s.busWrite m addr data).1 := by
  unfold State.busWrite
  split
  · exact .refl s
  split
  · exact .refl s
  split
  · exact .of_view rfl
  split
  · exact State.refuseNvm_busKept ..
  · exact (State.settlePosted_busKept ..).trans (State.writeWord_busKept ..)

theorem State.postWrite_busKept (s : State) (m addr data : Nat) : s.BusKept (s.postWrite m addr data).1 := by
  unfold State.postWrite
  split
  · exact State.busWrite_busKept ..
  extract_lets t
  suffices h : s.BusKept t from h.view rfl
  unfold t
  split
  · exact (State.takePosted_busKept _).after rfl
  · exact .refl s

theorem State.noteFrom_busView (s t : State) (m k : Nat) : (s.noteFrom t m k).busView = t.busView := by
  unfold State.noteFrom
  split
  · exact State.noteCode_busView ..
  · rfl

theorem State.ifWrite_busKept (s : State) (m addr data : Nat) : s.BusKept (s.ifWrite m addr data).1 := by
  have h := State.postWrite_busKept s m addr data
  change s.BusKept (if s.posts m addr then _ else _)
  split
  · exact h
  · exact h.view (State.noteFrom_busView ..)

/-- The state in which an accepted word of the two-wire bus is written (R463): the pointer has advanced. -/
def State.i2cTaken (s : State) : State :=
  s.onHost fun h => { h with i2cAck := true, i2cPtr := nextAddr s.host.i2cPtr, i2cWords := h.i2cWords + 1 }

theorem State.i2cWrite_of_open {s : State} (data : Nat) (ht : s.host.i2cTxn = some false)
    (hr : s.safe = true ∨ (s.yard.pstate ≠ 1 ∧ s.yard.pstate ≠ 2)) :
    s.i2cWrite data = (s.i2cTaken.ifWrite 2 s.host.i2cPtr data).1 := by
  have hrest : (!s.safe && s.arbiterRests) = false := by
    rcases hr with h | ⟨h1, h2⟩
    · simp [h]
    · simp [State.arbiterRests, h1, h2]
  have hrest' : (!s.i2cTaken.safe && s.i2cTaken.arbiterRests) = false := hrest
  unfold State.i2cWrite
  rw [if_neg (by simp [ht])]
  simp only [hrest, Bool.false_and]
  change (if (!s.i2cTaken.safe && s.i2cTaken.arbiterRests) = true then _ else _) = _
  rw [hrest']
  rfl

theorem State.i2cWrite_kept {s : State} (data : Nat) (ht : s.host.i2cTxn = some false)
    (hr : s.safe = true ∨ (s.yard.pstate ≠ 1 ∧ s.yard.pstate ≠ 2)) (hi : (s.i2cWrite data).boot.inReset = false) :
    (s.i2cWrite data).host.i2cPtr = nextAddr s.host.i2cPtr ∧ (s.i2cWrite data).host.i2cWords = s.host.i2cWords + 1 ∧
      (s.i2cWrite data).host.i2cAck = true ∧ (s.i2cWrite data).host.i2cTxn = some false := by
  rw [State.i2cWrite_of_open data ht hr] at hi ⊢
  rcases State.ifWrite_busKept s.i2cTaken 2 s.host.i2cPtr data with h | h
  · exact absurd h (by simp [hi])
  · generalize (s.i2cTaken.ifWrite 2 s.host.i2cPtr data).1 = t at h
    simp only [State.busView, Prod.mk.injEq] at h
    obtain ⟨-, hptr, htxn, hwords, hack⟩ := h
    exact ⟨hptr, hwords, hack, htxn.trans ht⟩

end Sys2Proof.Machine
end

section
/-! O48: what a wake leaves. An address byte wakes the chip before it is answered, so the answer's counts, the transaction, the memories
and the state of power that the statement names are read in the state after the wake. One lemma per function that a wake reaches says
that it keeps `State.wakeView`; a turning back changes the state of power alone (`State.beginExit_wakeView`), and `State.wakeLeft` says
what that is. -/

namespace Sys2Proof.Machine

open Sys2Proof

/-- The fields that a wake leaves, as far as a bus answers its master by them: the counts of the two-wire bus and the states of the
power domains. -/
def wakeKeys : List Nat :=
  [I2C_REFUSALS.key 0 0, I2C_BUSY_NACKS.key 0 0, I2C_LATE_NACKS.key 0 0, YARD_PD_STATE.key 0 0]

/-- What a wake leaves: the boot, the Granary, the shadow store, the Loft's images, what the interfaces hold but for the queues and the
count of events, whether PD_CORE is on, and the counts of the two-wire bus. -/
def State.nackView (s : State) :=
  (s.boot, s.gran, s.shadow, s.loft.bankA, s.loft.bankB, { s.host with queues := [], attnEvents := 0 }, s.coreOn,
    s.get I2C_REFUSALS, s.get I2C_BUSY_NACKS, s.get I2C_LATE_NACKS)

/-- This, and the state of power. -/
def State.wakeView (s : State) := (s.nackView, s.yard.pstate)

/-! ### The state's own operations -/

/-- A write of a field that is not among `wakeKeys`. -/
theorem State.put_wakeView_key (s : State) {r : Row} (v : Nat) {n i : Nat} (h : r.key n i ∉ wakeKeys) :
    (s.put r v n i).wakeView = s.wakeView := by
  simp only [wakeKeys, List.mem_cons, List.not_mem_nil, or_false, not_or] at h
  obtain ⟨h1, h2, h3, h4⟩ := h
  have hpd : (s.put r v n i).coreOn = s.coreOn := by
    simp only [State.coreOn, State.pd, State.get_put_ne s (Ne.symm h4)]
  unfold State.wakeView State.nackView
  rw [hpd, State.get_put_ne s (Ne.symm h1), State.get_put_ne s (Ne.symm h2), State.get_put_ne s (Ne.symm h3)]
  rfl

/-- A write of a field at another place than theirs, whatever its page. -/
@[simp] theorem State.put_wakeView (s : State) {r : Row} (v n : Nat) {i : Nat} (h : r.key 0 i % 0x20000 ∉ wakeKeys.map (· % 0x20000)) :
    (s.put r v n i).wakeView = s.wakeView := by
  refine State.put_wakeView_key s v fun hk => h ?_
  have hm := List.mem_map_of_mem (f := (· % 0x20000)) hk
  rwa [Row.key_page, Nat.mul_add_mod_self_right] at hm

/-- A write of a field of a page above that of the two-wire bus. -/
theorem State.put_wakeView_page (s : State) {r : Row} (v n i : Nat) (h : 8 < r.page) : (s.put r v n i).wakeView = s.wakeView := by
  refine State.put_wakeView_key s v fun hk => ?_
  have hle : 9 * 0x20000 ≤ r.key n i := by
    unfold Row.key
    omega
  have hall : ∀ k ∈ wakeKeys, k < 9 * 0x20000 := by decide
  exact absurd (hall _ hk) (by omega)

@[simp] theorem State.addSat_wakeView (s : State) {r : Row} (v n : Nat) {i : Nat}
    (h : r.key 0 i % 0x20000 ∉ wakeKeys.map (· % 0x20000)) : (s.addSat r v n i).wakeView = s.wakeView := State.put_wakeView s _ n h

@[simp] theorem State.inc_wakeView (s : State) {r : Row} (n : Nat) {i : Nat} (h : r.key 0 i % 0x20000 ∉ wakeKeys.map (· % 0x20000)) :
    (s.inc r n i).wakeView = s.wakeView := State.put_wakeView s _ n h

@[simp] theorem State.incWrap_wakeView (s : State) {r : Row} (n : Nat) {i : Nat} (h : r.key 0 i % 0x20000 ∉ wakeKeys.map (· % 0x20000)) :
    (s.incWrap r n i).wakeView = s.wakeView := State.put_wakeView s _ n h

@[simp] theorem State.fresh_wakeView (s : State) : s.fresh.2.wakeView = s.wakeView := rfl

@[simp] theorem ite_wakeView (c : Prop) [Decidable c] (s t : State) :
    (if c then s else t).wakeView = if c then s.wakeView else t.wakeView :=
  apply_ite State.wakeView c s t

@[simp] theorem foldl_wakeView {α : Type} (l : List α) (f : State → α → State)
    (hf : ∀ s, ∀ a ∈ l, (f s a).wakeView = s.wakeView) (s : State) : (l.foldl f s).wakeView = s.wakeView := by
  induction l generalizing s with
  | nil => rfl
  | cons a l ih => exact (ih (fun s a ha => hf s a (.tail _ ha)) _).trans (hf s a (.head _))

@[simp] theorem State.raise_wakeView (s : State) (p bits : Nat) : (s.raise p bits).wakeView = s.wakeView := by
  simp (disch := decide) [State.raise]

/-- A field of two bits above the lowest is exchanged: the lowest stays. -/
theorem setField_core {w b k v : Nat} (h : b * (4 * k) ≤ w) : (w - b * (4 * k) + v * (4 * k)) % 2 ^ 18 % 4 = w % 4 := by
  have e1 : b * (4 * k) = 4 * (b * k) := by ring
  have e2 : v * (4 * k) = 4 * (v * k) := by ring
  rw [e1] at h
  rw [e1, e2]
  omega

theorem State.setPd_pd_core (s : State) {d : Nat} (v : Nat) (hd : d ≠ 0) : (s.setPd d v).pd 0 = s.pd 0 := by
  obtain ⟨k, hk⟩ : ∃ k, 2 ^ (2 * d) = 4 * k := ⟨2 ^ (2 * d - 2), by
    rw [show 2 * d = 2 * d - 2 + 2 by omega, Nat.pow_add, Nat.add_sub_cancel, Nat.mul_comm]⟩
  have hle : bitsOf (s.get YARD_PD_STATE) (2 * d) 2 * (4 * k) ≤ s.get YARD_PD_STATE := by
    rw [← hk]
    exact (Nat.mul_le_mul_right _ (Nat.mod_le _ _)).trans (Nat.div_mul_le_self _ _)
  unfold State.pd State.setPd
  rw [State.get_put_same]
  simp only [hk]
  simpa [bitsOf, YARD_PD_STATE] using setField_core hle

theorem State.setPd_core (s : State) {v : Nat} (hv : v < 4) : (s.setPd 0 v).pd 0 = v := by
  unfold State.pd State.setPd
  rw [State.get_put_same]
  simp only [bitsOf, YARD_PD_STATE]
  omega

theorem State.setPd_wakeView_of (s : State) {d v : Nat} (h : (s.setPd d v).coreOn = s.coreOn) : (s.setPd d v).wakeView = s.wakeView := by
  unfold State.wakeView State.nackView
  rw [h]
  have hp : ∀ {r : Row}, r.key 0 0 ≠ YARD_PD_STATE.key 0 0 → (s.setPd d v).get r = s.get r := fun h => State.get_put_ne s h _
  rw [hp (r := I2C_REFUSALS) (by decide), hp (r := I2C_BUSY_NACKS) (by decide), hp (r := I2C_LATE_NACKS) (by decide)]
  rfl

@[simp] theorem State.setPd_wakeView (s : State) {d : Nat} (v : Nat) (hd : d ≠ 0) : (s.setPd d v).wakeView = s.wakeView :=
  State.setPd_wakeView_of s (by simp only [State.coreOn, State.setPd_pd_core s v hd])

theorem State.setPd_core_wakeView {s : State} {v : Nat} (h : s.coreOn = true) (hv : v = 2 ∨ v = 3) :
    (s.setPd 0 v).wakeView = s.wakeView := by
  refine State.setPd_wakeView_of s ?_
  rw [h]
  rcases hv with rfl | rfl <;> simp [State.coreOn, State.setPd_core]

@[simp] theorem State.event_wakeView (s : State) (code data : Nat) : (s.event code data).wakeView = s.wakeView := by
  have h := (s.event_logsOnly code data).1
  have hget : ∀ {r : Row}, r.key 0 0 ∈ wakeKeys → (s.event code data).get r = s.get r := fun {r} hr => by
    have hall : ∀ k ∈ wakeKeys, k ∉ logCountKeys ∧ ¬InRing k := by decide
    exact State.event_get s code data (hall _ hr).1 (hall _ hr).2
  have hpd : (s.event code data).coreOn = s.coreOn := by
    simp only [State.coreOn, State.pd, hget (r := YARD_PD_STATE) (by decide)]
  unfold State.wakeView State.nackView
  rw [hpd, hget (r := I2C_REFUSALS) (by decide), hget (r := I2C_BUSY_NACKS) (by decide), hget (r := I2C_LATE_NACKS) (by decide), h]

@[simp] theorem State.advanceEpoch_wakeView (s : State) (m : Nat) : (s.advanceEpoch m).wakeView = s.wakeView := by
  simp (disch := decide) [State.advanceEpoch]

@[simp] theorem State.sluicePeak_wakeView (s : State) (x k : Nat) : (s.sluicePeak x k).wakeView = s.wakeView :=
  State.put_wakeView_page s _ _ _ (by decide)

@[simp] theorem State.clockSync_wakeView (s : State) : s.clockSync.wakeView = s.wakeView := by
  simp (disch := decide) [State.clockSync]

/-! ### A wake turns an entry back (R118) -/

/-- The state of power in which a wake finds the chip: one that has begun to enter the next lower state turns back (R118). -/
def State.exitLeft (s : State) : Nat := if s.yard.entering then s.yard.pstate - 1 else s.yard.pstate

theorem State.wakeView_of_yard {s t : State} (h : t.wakeView = s.wakeView) (y : YardS) :
    State.wakeView { t with yard := y } = (s.nackView, y.pstate) := by
  have hn : t.nackView = s.nackView := congrArg Prod.fst h
  exact Prod.ext hn rfl

theorem State.beginExit_wakeView (s : State) (classes : Nat) (slot : Option Nat) :
    (s.beginExit classes slot).wakeView = (s.nackView, s.exitLeft) := by
  unfold State.beginExit State.exitLeft
  extract_lets e left t
  split
  · refine State.wakeView_of_yard ?_ _
    unfold t
    split
    next h => exact State.setPd_core_wakeView (by simp [State.coreOn, h]) (.inl rfl)
    next => rfl
  · split <;> rfl

theorem State.wakeExit_wakeView (s : State) (cls : Nat) (slot : Option Nat) :
    (s.wakeExit cls slot).wakeView = (s.nackView, if s.yard.exit.isSome then s.yard.pstate else s.exitLeft) := by
  unfold State.wakeExit
  split
  next h => simp [h]; rfl
  next h => simpa [h] using State.beginExit_wakeView ..

/-! ### What the functions that a wake reaches leave -/

@[simp] theorem State.dropStaged_wakeView (s : State) (p : Nat) : (s.dropStaged p).wakeView = s.wakeView :=
  State.put_wakeView _ _ _ (by decide)

@[simp] theorem State.endFill_wakeView (s : State) (result : Nat) : (s.endFill result).wakeView = s.wakeView := by
  have hrow : 8 < (completeRow s.inactive).page := by
    unfold completeRow
    split <;> decide
  have h (t : State) : State.wakeView { t with loft := { t.loft with checking := none } } = t.wakeView := rfl
  unfold State.endFill
  rw [h, State.put_wakeView _ _ _ (by decide), State.put_wakeView_page _ _ _ _ hrow, State.put_wakeView _ _ _ (by decide),
    State.put_wakeView _ _ _ (by decide)]

@[simp] theorem State.recover_wakeView (s : State) (n owner : Nat) : (s.recover n owner).wakeView = s.wakeView := by
  unfold State.recover
  split_ifs
  · simp
  · rfl
  · simp
  · simp (disch := decide)
  · refine foldl_wakeView _ _ (fun s k _ => ?_) s
    simp
  · rfl

/-- No semaphore's field is among `wakeKeys`. -/
theorem lockKey_not_wake : ∀ n < 8, LOCK_STATE.key 0 n ∉ wakeKeys ∧ LOCK_ORPHANS.key 0 n ∉ wakeKeys := by decide

theorem State.orphan_wakeView (s : State) {n : Nat} (cause : Nat) (hn : n < 8) : (s.orphan n cause).wakeView = s.wakeView := by
  have hsem (t : State) (l : List Nat) : State.wakeView { t with semHold := l } = t.wakeView := rfl
  unfold State.orphan
  split
  · extract_lets owner t
    rw [State.recover_wakeView, hsem]
    unfold t
    rw [State.event_wakeView, State.raise_wakeView]
    obtain ⟨hstate, horphans⟩ := lockKey_not_wake n hn
    exact (State.put_wakeView_key _ _ horphans).trans (State.put_wakeView_key _ _ hstate)
  · rfl

@[simp] theorem State.orphanAll_wakeView (s : State) (m cause : Nat) : (s.orphanAll m cause).wakeView = s.wakeView := by
  refine foldl_wakeView _ _ (fun s n hn => ?_) s
  split
  · exact State.orphan_wakeView s cause (List.mem_range.mp hn)
  · rfl

@[simp] theorem State.rampFrom_wakeView (s : State) : s.rampFrom.wakeView = s.wakeView := by
  unfold State.rampFrom
  split
  next x t h =>
    have ht : t.wakeView = s.wakeView := (congrArg (fun u : Nat × State => u.2.wakeView) h).symm
    split
    · rfl
    · exact ht

@[simp] theorem State.rampTop_wakeView (s : State) : s.rampTop.wakeView = s.wakeView :=
  State.put_wakeView _ _ _ (by decide)

@[simp] theorem State.rampUp_wakeView (s : State) : s.rampUp.wakeView = s.wakeView := by
  unfold State.rampUp
  split
  · rfl
  split
  · exact State.rampTop_wakeView s
  · exact State.rampFrom_wakeView s

@[simp] theorem State.throttleRest_wakeView (s : State) : s.throttleRest.wakeView = s.wakeView := by
  simp (disch := decide) [State.throttleRest]

@[simp] theorem State.rampDown_wakeView (s : State) : s.rampDown.wakeView = s.wakeView :=
  (State.put_wakeView _ _ _ (by decide)).trans ((State.throttleRest_wakeView _).trans (State.rampFrom_wakeView s))

@[simp] theorem State.setSlot_wakeView (s : State) (k : Nat) (sl : Slot) : (s.setSlot k sl).wakeView = s.wakeView := by
  refine State.put_wakeView_page _ _ _ _ ?_
  unfold slotRow
  split <;> decide

theorem State.instBit_wakeView (s : State) {r : Row} (i : Nat) (b : Bool) (hr : 8 < r.page) :
    (s.instBit r i b).wakeView = s.wakeView := State.put_wakeView_page s _ _ _ hr

@[simp] theorem State.slotDrop_wakeView (s : State) (k : Nat) : (s.slotDrop k).wakeView = s.wakeView := by
  unfold State.slotDrop
  extract_lets sl t
  have ht : t.wakeView = s.wakeView := State.setSlot_wakeView ..
  split
  · refine Eq.trans ?_ ht
    refine State.instBit_wakeView t _ _ ?_
    unfold reqRow
    split <;> decide
  · exact ht

@[simp] theorem State.dropOverlaps_wakeView (s : State) : s.dropOverlaps.wakeView = s.wakeView := by
  refine foldl_wakeView _ _ (fun s k _ => ?_) s
  dsimp only
  split
  · rw [State.slotDrop_wakeView, State.put_wakeView_page _ _ _ _ (by decide), State.put_wakeView _ _ _ (by decide)]
  · rfl

@[simp] theorem State.senArm_wakeView (s : State) : s.senArm.wakeView = s.wakeView := by
  simp (disch := decide) [State.senArm, State.armSlot]

@[simp] theorem State.senSync_wakeView (s : State) : s.senSync.wakeView = s.wakeView := by
  unfold State.senSync
  split
  · simp
  · extract_lets _ t
    have ht : t.wakeView = s.wakeView := rfl
    split
    · exact (State.put_wakeView _ _ _ (by decide)).trans ht
    · exact ht

@[simp] theorem State.setPort_wakeView (s : State) (n : Nat) (p : LinkS) : (s.setPort n p).wakeView = s.wakeView := rfl

@[simp] theorem State.post_wakeView (s : State) (n msg : Nat) (ws : List Nat) : (s.post n msg ws).wakeView = s.wakeView := by
  unfold State.post
  extract_lets t p p'
  rw [State.setPort_wakeView]
  unfold t
  split
  · exact State.put_wakeView_page _ _ _ _ (by decide)
  · rfl

@[simp] theorem State.noteStatus_wakeView (s : State) : s.noteStatus.wakeView = s.wakeView := by
  simp (disch := decide) [State.noteStatus]

@[simp] theorem State.showPort_wakeView (s : State) (n : Nat) : (s.showPort n).wakeView = s.wakeView := by
  simp (disch := decide) [State.showPort]

@[simp] theorem State.linkQueueCut_wakeView (s : State) : s.linkQueueCut.wakeView = s.wakeView := rfl

@[simp] theorem State.msgPeak_wakeView (s : State) (n : Nat) : (s.msgPeak n).wakeView = s.wakeView := by
  simp (disch := decide) [State.msgPeak]

@[simp] theorem State.sessionLost_wakeView (s : State) (n cause : Nat) : (s.sessionLost n cause).wakeView = s.wakeView := by
  unfold State.sessionLost
  split
  · rfl
  · extract_lets s1 p done sOrph _ sCut _ rs lost _ sShow sMid sDone _
    have h1 : s1.wakeView = s.wakeView := State.msgPeak_wakeView ..
    have horph : sOrph.wakeView = s1.wakeView := (State.orphanAll_wakeView ..).trans (State.advanceEpoch_wakeView ..)
    have hcut : sCut.wakeView = sOrph.wakeView := by
      unfold sCut
      rw [State.linkQueueCut_wakeView, State.setPort_wakeView]
    have hshow : sShow.wakeView = s1.wakeView := by
      unfold sShow
      rw [State.showPort_wakeView, State.addSat_wakeView _ _ _ (by decide), State.setPort_wakeView]
    have hfwd (t : State) (c : LinkCom) : State.wakeView { t with linkc := c } = t.wakeView := rfl
    clear_value sCut sShow
    have hmid : sMid.wakeView = s1.wakeView := by
      unfold sMid
      split
      · exact (hfwd ..).trans (hcut.trans horph)
      · split
        · exact hshow
        · exact (State.raise_wakeView ..).trans hshow
    clear_value sMid
    have hdone : sDone.wakeView = sMid.wakeView :=
      (State.raise_wakeView ..).trans (State.put_wakeView _ _ _ (by decide))
    clear_value sDone
    exact (State.event_wakeView ..).trans ((State.setPort_wakeView ..).trans (hdone.trans (hmid.trans h1)))

@[simp] theorem State.portOff_wakeView (s : State) (n : Nat) (dormant : Bool) : (s.portOff n dormant).wakeView = s.wakeView := by
  unfold State.portOff
  simp (disch := decide)

@[simp] theorem State.pixCloses_wakeView (s : State) : s.pixCloses.wakeView = s.wakeView := by
  unfold State.pixCloses
  split
  · rfl
  split
  · simp
  · rfl

@[simp] theorem State.closing_wakeView (s : State) {d : Nat} (hd : d ≠ 0) : (s.closing d).wakeView = s.wakeView := by
  unfold State.closing
  extract_lets t _ u
  have hu : u.wakeView = s.wakeView := State.setPd_wakeView s 3 hd
  split
  · exact (State.pixCloses_wakeView u).trans hu
  · exact hu

@[simp] theorem State.reopen_wakeView (s : State) {d : Nat} (hd : d ≠ 0) : (s.reopen d).wakeView = s.wakeView := by
  unfold State.reopen
  simp [hd]

@[simp] theorem State.openingEnds_wakeView (s : State) {d : Nat} (hd : d ≠ 0) : (s.openingEnds d).wakeView = s.wakeView := by
  have h := State.setPd_wakeView s 0 hd
  unfold State.openingEnds
  extract_lets t path u
  split
  · have hu : u.wakeView = s.wakeView := (State.portOff_wakeView ..).trans h
    split
    · exact (State.put_wakeView _ _ _ (by decide)).trans hu
    · exact hu
  · exact h

@[simp] theorem State.domainsSync_wakeView (s : State) : s.domainsSync.wakeView = s.wakeView := by
  unfold State.domainsSync
  extract_lets t
  have ht : t.wakeView = s.wakeView := by
    refine foldl_wakeView _ _ (fun s i _ => ?_) s
    simp
  rw [State.clockSync_wakeView]
  split
  next h =>
    have hcore : t.coreOn = true := by
      simp only [State.coreMayClose, Bool.and_eq_true] at h
      simp [State.coreOn, h.1]
    exact (State.setPd_core_wakeView hcore (.inr rfl)).trans ht
  next => exact ht

@[simp] theorem State.exitMode_wakeView (s : State) (e : Exit) : (s.exitMode e).wakeView = s.wakeView := by
  unfold State.exitMode
  extract_lets wc4 target cause t
  have ht : t.wakeView = s.wakeView := by simp (disch := decide) [t]
  exact ht

@[simp] theorem State.noteSlot_wakeView (s : State) (slot : Option Nat) : (s.noteSlot slot).wakeView = s.wakeView := by
  unfold State.noteSlot
  split
  · rfl
  split
  · rfl
  extract_lets longer
  split <;> rfl

theorem State.wakeDormant_wakeView (s : State) (cls : Nat) (slot : Option Nat) :
    (s.wakeDormant cls slot).wakeView = (s.wakeExit cls slot).wakeView := by
  unfold State.wakeDormant
  extract_lets t
  have ht : t.wakeView = (s.wakeExit cls slot).wakeView := State.noteSlot_wakeView ..
  split
  · exact (State.exitMode_wakeView ..).trans ht
  · exact ht

@[simp] theorem State.noteWake_wakeView (s : State) (fresh : Bool) : (s.noteWake fresh).wakeView = s.wakeView := by
  unfold State.noteWake
  split
  · split
    · split
      · rfl
      · simp (disch := decide)
    · rfl
  · rfl

theorem State.holdWake_wakeView (s : State) (cls : Nat) : (s.holdWake cls none).wakeView = s.wakeView :=
  State.put_wakeView s (r := YARD_WAKE_CAUSE) (i := 0) _ _ (by decide)

@[simp] theorem State.abandonEntry_wakeView (s : State) (t : Trans) (cls : Nat) : (s.abandonEntry t cls).wakeView = s.wakeView := by
  unfold State.abandonEntry
  extract_lets s1 s2 s3 _ s4
  have h1 : s1.wakeView = s.wakeView := State.event_wakeView ..
  have h2 : s2.wakeView = s1.wakeView := by
    unfold s2
    split
    next h => exact State.setPd_core_wakeView (by simp [State.coreOn, h]) (.inl rfl)
    next => rfl
  have h3 : s3.wakeView = s2.wakeView := State.put_wakeView s2 _ _ (by decide)
  have h4 : s4.wakeView = s3.wakeView := rfl
  rw [State.noteStatus_wakeView, State.senSync_wakeView, State.domainsSync_wakeView, h4, h3, h2, h1]

/-! ### The wake -/

/-- The state of power after a wake that is not by a slot. -/
def State.wakeLeft (s : State) : Nat :=
  if s.safe ∨ s.boot.inReset ∨ s.cutHolds ∨ s.yard.exit.isSome ∨ s.boot.booting then s.yard.pstate
  else if s.mode = DORMANT ∧ s.yard.pstate = 4 then s.exitLeft
  else if s.yard.trans.any (·.target = DORMANT) ∧ (s.pd 0 = 2 ∨ s.pd 0 = 3) then s.yard.pstate
  else s.exitLeft

theorem State.wakeIn_wakeView (s : State) (cls : Nat) : (s.wakeIn cls none).wakeView = (s.nackView, s.wakeLeft) := by
  have hexit := State.wakeExit_wakeView s cls none
  unfold State.wakeIn State.wakeLeft
  split
  next h => rw [if_pos (by tauto)]; rfl
  next h1 =>
  split
  next h => rw [if_pos (by tauto), State.holdWake_wakeView]; rfl
  next h2 =>
  split
  next h =>
    have hs : s.yard.exit.isSome = true := by
      cases he : s.yard.exit <;> simp_all
    rw [if_pos (by tauto), State.wakeDormant_wakeView, hexit, if_pos hs]
  next h3 =>
  split
  next h => rw [if_pos (by tauto)]; rfl
  next h4 =>
  split
  next h =>
    rw [State.wakeDormant_wakeView, hexit]
    by_cases he : s.yard.exit.isSome = true
    · rw [if_pos he, if_pos (by tauto)]
    · rw [if_neg he, if_neg (by tauto)]
  next h5 =>
  by_cases he : s.yard.exit.isSome = true
  · rw [if_pos he] at hexit
    rw [if_pos (by tauto)]
    split
    · split
      · exact State.abandonEntry_wakeView ..
      · exact (State.domainsSync_wakeView _).trans hexit
    · exact (State.domainsSync_wakeView _).trans hexit
  · rw [if_neg he] at hexit
    rw [if_neg (by tauto)]
    split
    next t ht =>
      simp only [ht, Option.any_some, decide_eq_true_eq]
      split
      · exact State.abandonEntry_wakeView ..
      · exact (State.domainsSync_wakeView _).trans hexit
    next ht =>
      simp only [ht, Option.any_none, Bool.false_eq_true, false_and, if_false]
      exact (State.domainsSync_wakeView _).trans hexit

theorem State.wake_wakeView (s : State) (cls : Nat) : (s.wake cls none).wakeView = (s.nackView, s.wakeLeft) :=
  (State.noteWake_wakeView ..).trans (State.wakeIn_wakeView s cls)

end Sys2Proof.Machine
end

section
/-! O48: the address byte, words, STOP and the hold: what the target answers (R462 to R466), then the statement clause by clause. -/

namespace Sys2Proof.Machine

open Sys2Proof

/-! ### What the view says -/

theorem State.hostRest_of_nackView {s t : State} (h : t.nackView = s.nackView) :
    { t.host with queues := [], attnEvents := 0 } = { s.host with queues := [], attnEvents := 0 } :=
  congrArg (fun v => v.2.2.2.2.2.1) h

theorem State.i2cTxn_of_nackView {s t : State} (h : t.nackView = s.nackView) : t.host.i2cTxn = s.host.i2cTxn :=
  congrArg (·.i2cTxn) (State.hostRest_of_nackView h)

theorem State.i2cPtr_of_nackView {s t : State} (h : t.nackView = s.nackView) : t.host.i2cPtr = s.host.i2cPtr :=
  congrArg (·.i2cPtr) (State.hostRest_of_nackView h)

theorem State.sleepNack_of_nackView {s t : State} (h : t.nackView = s.nackView) : t.host.sleepNack = s.host.sleepNack :=
  congrArg (·.sleepNack) (State.hostRest_of_nackView h)

theorem State.i2cAck_of_nackView {s t : State} (h : t.nackView = s.nackView) : t.host.i2cAck = s.host.i2cAck :=
  congrArg (·.i2cAck) (State.hostRest_of_nackView h)

theorem State.nackCounts_of_nackView {s t : State} (h : t.nackView = s.nackView) :
    t.get I2C_REFUSALS = s.get I2C_REFUSALS ∧ t.get I2C_BUSY_NACKS = s.get I2C_BUSY_NACKS ∧
      t.get I2C_LATE_NACKS = s.get I2C_LATE_NACKS :=
  have h' := congrArg (fun v => v.2.2.2.2.2.2.2) h
  ⟨congrArg (·.1) h', congrArg (·.2.1) h', congrArg (·.2.2) h'⟩

theorem State.sameMemory_of_nackView {s t : State} (h : t.nackView = s.nackView) : s.SameMemory t := by
  have hg : t.gran = s.gran := congrArg (·.2.1) h
  have hsh : t.shadow = s.shadow := congrArg (·.2.2.1) h
  have ha : t.loft.bankA = s.loft.bankA := congrArg (·.2.2.2.1) h
  have hb : t.loft.bankB = s.loft.bankB := congrArg (·.2.2.2.2.1) h
  refine ⟨fun a => by rw [hg], fun b i => ?_, fun a => by rw [hsh]⟩
  simp only [State.bank, ha, hb]

theorem State.reachable_of_wakeView {s t : State} (h : t.wakeView = s.wakeView) : t.reachable = s.reachable := by
  have hn : t.nackView = s.nackView := congrArg (·.1) h
  have hp : t.yard.pstate = s.yard.pstate := congrArg (·.2) h
  have hb : t.boot = s.boot := congrArg (·.1) hn
  have hsh : t.shadow = s.shadow := congrArg (·.2.2.1) hn
  have hc : t.coreOn = s.coreOn := congrArg (·.2.2.2.2.2.2.1) hn
  change (t.boot.served && !t.boot.inReset && t.coreOn && t.yard.pstate != 3 && !(t.shadow.pfCommitted && t.shadow.storing.isSome)) = _
  rw [hb, hsh, hc, hp]
  rfl

theorem State.nvmBusy_of_nackView {s t : State} (h : t.nackView = s.nackView) : t.nvmBusy = s.nvmBusy := by
  have hg : t.gran = s.gran := congrArg (·.2.1) h
  simp only [State.nvmBusy, hg]

/-- The state in which a START leaves an open write. -/
theorem State.i2cLeft_eq (s : State) (addr : Nat) (read : Bool) :
    s.i2cLeft addr read = s ∨ s.i2cLeft addr read = s.put I2C_LAST_CODE cEMPTY := by
  unfold State.i2cLeft
  split
  · exact .inr rfl
  · exact .inl rfl

theorem State.i2cLeft_nackView (s : State) (addr : Nat) (read : Bool) : (s.i2cLeft addr read).nackView = s.nackView := by
  rcases s.i2cLeft_eq addr read with h | h <;> rw [h]
  exact congrArg (·.1) (State.put_wakeView s (r := I2C_LAST_CODE) (i := 0) cEMPTY 0 (by decide))

/-- What a wake depends on stands in no register of the two-wire bus. -/
theorem State.wakeLeft_i2cLeft (s : State) (addr : Nat) (read : Bool) : (s.i2cLeft addr read).wakeLeft = s.wakeLeft := by
  rcases s.i2cLeft_eq addr read with h | h <;> rw [h]
  have hget : ∀ r ∈ [SYS_SAFE, YARD_MODE, YARD_PD_STATE], (s.put I2C_LAST_CODE cEMPTY).get r = s.get r := fun r hr =>
    State.get_put_ne s (by
      have hall : ∀ r ∈ [SYS_SAFE, YARD_MODE, YARD_PD_STATE], r.key 0 0 ≠ I2C_LAST_CODE.key 0 0 := by decide
      exact hall r hr) _
  simp only [State.wakeLeft, State.cutHolds, State.exitLeft, State.safe, State.mode, State.pd,
    hget SYS_SAFE (by simp), hget YARD_MODE (by simp), hget YARD_PD_STATE (by simp)]
  rfl

theorem State.wake_i2cLeft_wakeView (s : State) (addr : Nat) (read : Bool) :
    ((s.i2cLeft addr read).wake 1 none).wakeView = (s.wake 1 none).wakeView := by
  rw [State.wake_wakeView, State.wake_wakeView, State.i2cLeft_nackView, State.wakeLeft_i2cLeft]

theorem State.wake_nackView (s : State) (cls : Nat) : (s.wake cls none).nackView = s.nackView := congrArg (·.1) (s.wake_wakeView cls)

theorem State.i2cLeft_get (s : State) (addr : Nat) (read : Bool) {r : Row} (h : r.key 0 0 ≠ I2C_LAST_CODE.key 0 0) :
    (s.i2cLeft addr read).get r = s.get r := by
  rcases s.i2cLeft_eq addr read with he | he <;> rw [he]
  exact State.get_put_ne s h _

theorem State.i2cLeft_safe (s : State) (addr : Nat) (read : Bool) : (s.i2cLeft addr read).safe = s.safe := by
  simp only [State.safe, State.i2cLeft_get s addr read (r := SYS_SAFE) (by decide)]

theorem State.i2cLeft_parts (s : State) (addr : Nat) (read : Bool) :
    (s.i2cLeft addr read).yard = s.yard ∧ (s.i2cLeft addr read).boot = s.boot ∧ (s.i2cLeft addr read).host = s.host := by
  rcases s.i2cLeft_eq addr read with h | h <;> rw [h] <;> exact ⟨rfl, rfl, rfl⟩

theorem State.i2cLeft_inDormant (s : State) (addr : Nat) (read : Bool) : (s.i2cLeft addr read).inDormant = s.inDormant := by
  obtain ⟨hy, hb, -⟩ := s.i2cLeft_parts addr read
  simp only [State.inDormant, State.mode, State.done, hy, hb, State.i2cLeft_get s addr read (r := YARD_MODE) (by decide),
    State.i2cLeft_get s addr read (r := SEQ_BOOT_DONE) (by decide)]

/-- The address byte is the target's own, and is heard (R462). -/
def State.i2cHears (s : State) (addr : Nat) : Prop := addr = s.yard.ownAddr ∧ s.boot.inReset = false ∧ s.bootEarly = false

theorem State.i2cHears.left {s : State} {addr : Nat} (h : s.i2cHears addr) (read : Bool) :
    ¬(addr ≠ (s.i2cLeft addr read).yard.ownAddr ∨ (s.i2cLeft addr read).boot.inReset = true ∨
      (s.i2cLeft addr read).bootEarly = true) := by
  obtain ⟨hown, hreset, hearly⟩ := h
  obtain ⟨hy, hb, -⟩ := s.i2cLeft_parts addr read
  simp only [State.bootEarly, hy, hb] at *
  simp [hown, hreset, hearly]

theorem State.i2cAddress_unheard {s : State} {addr : Nat} (read : Bool) (ptr : Option Nat)
    (h : addr ≠ s.yard.ownAddr ∨ s.boot.inReset = true ∨ s.bootEarly = true) :
    s.i2cAddress addr read ptr = (s.i2cLeft addr read).i2cNack := by
  obtain ⟨hy, hb, -⟩ := s.i2cLeft_parts addr read
  refine if_pos ?_
  simpa only [State.bootEarly, hy, hb] using h

theorem State.i2cAddress_safe {s : State} {addr : Nat} (read : Bool) (ptr : Option Nat) (h : s.i2cHears addr) (hs : s.safe = true) :
    s.i2cAddress addr read ptr = (s.i2cLeft addr read).i2cOpen read (if read then none else ptr) :=
  (if_neg (h.left read)).trans (if_pos ((s.i2cLeft_safe addr read).trans hs))

theorem State.i2cAddress_dormant {s : State} {addr : Nat} (read : Bool) (ptr : Option Nat) (h : s.i2cHears addr) (hs : s.safe = false)
    (hd : s.inDormant = true) : s.i2cAddress addr read ptr =
      if s.yard.i2cWake then ((s.i2cLeft addr read).i2cNack.onHost fun h => { h with sleepNack := true }).wake 1 none
      else (s.i2cLeft addr read).i2cNack := by
  have hs' : ¬(s.i2cLeft addr read).safe = true := by simp [s.i2cLeft_safe addr read, hs]
  have hd' : (s.i2cLeft addr read).inDormant = true := (s.i2cLeft_inDormant addr read).trans hd
  obtain ⟨hy, -, -⟩ := s.i2cLeft_parts addr read
  rw [← hy]
  exact (if_neg (h.left read)).trans ((if_neg hs').trans (if_pos hd'))

/-- How the target answers its address once its wake has been taken (R465, R466). -/
def State.i2cAnswer (s : State) (read : Bool) (ptr : Option Nat) : State :=
  if s.yard.pstate = 3 then s.i2cNack.onHost fun h => { h with sleepNack := true }
  else if !s.reachable then s.i2cNack
  else if s.nvmBusy then (s.i2cNack.inc I2C_BUSY_NACKS)
  else if !s.arbiterRests then s.i2cOpen read (if read then none else ptr)
  else if read then s.i2cNack.inc I2C_LATE_NACKS
  else s.i2cOpen false ptr

theorem State.i2cAddress_awake {s : State} {addr : Nat} (read : Bool) (ptr : Option Nat) (h : s.i2cHears addr) (hs : s.safe = false)
    (hd : s.inDormant = false) : s.i2cAddress addr read ptr = ((s.i2cLeft addr read).wake 1 none).i2cAnswer read ptr := by
  have hs' : ¬(s.i2cLeft addr read).safe = true := by simp [s.i2cLeft_safe addr read, hs]
  have hd' : ¬(s.i2cLeft addr read).inDormant = true := by simp [s.i2cLeft_inDormant addr read, hd]
  exact (if_neg (h.left read)).trans ((if_neg hs').trans (if_neg hd'))

/-! ### The answers -/

theorem State.inc_get (s : State) (r : Row) : (s.inc r).get r = min (s.get r + 1) (2 ^ r.wid - 1) := by
  have hlt : min (s.get r + 1) (2 ^ r.wid - 1) < 2 ^ r.wid := by
    have := Nat.two_pow_pos r.wid
    omega
  exact (State.get_put_same ..).trans (Nat.mod_eq_of_lt hlt)

/-- A transaction of the two-wire bus is open on the answer, as the address byte asked. -/
theorem State.i2cOpen_opens (s : State) (read : Bool) (ptr : Option Nat) :
    (s.i2cOpen read ptr).host.i2cAck = true ∧ (s.i2cOpen read ptr).host.i2cTxn = some read ∧
      (s.i2cOpen read ptr).host.i2cWords = 0 ∧ (s.i2cOpen read ptr).host.i2cOut = [] ∧
      (s.i2cOpen read ptr).get I2C_REFUSALS = (if s.host.i2cTxn.isSome then s.get I2C_REFUSALS else 0) ∧
      (s.i2cOpen read ptr).host.i2cPtr = ptr.getD s.host.i2cPtr ∧ s.SameMemory (s.i2cOpen read ptr) := by
  have hget : (s.put I2C_REFUSALS 0).get I2C_REFUSALS = 0 := State.get_put_same ..
  unfold State.i2cOpen
  split
  · exact ⟨rfl, rfl, rfl, rfl, rfl, rfl, fun _ => rfl, fun _ _ => rfl, fun _ => rfl⟩
  · exact ⟨rfl, rfl, rfl, rfl, hget, rfl, fun _ => rfl, fun _ _ => rfl, fun _ => rfl⟩

theorem State.sameMemory_trans {s t u : State} (h : s.SameMemory t) (h' : t.SameMemory u) : s.SameMemory u :=
  ⟨fun a => (h'.1 a).trans (h.1 a), fun b i => (h'.2.1 b i).trans (h.2.1 b i), fun a => (h'.2.2 a).trans (h.2.2 a)⟩

/-- The woken state in which the target answers. -/
theorem State.woken_nackView (s : State) (addr : Nat) (read : Bool) : ((s.i2cLeft addr read).wake 1 none).nackView = s.nackView :=
  (State.wake_nackView ..).trans (s.i2cLeft_nackView addr read)

theorem State.woken_pstate (s : State) (addr : Nat) (read : Bool) :
    ((s.i2cLeft addr read).wake 1 none).yard.pstate = (s.wake 1 none).yard.pstate :=
  congrArg (·.2) (s.wake_i2cLeft_wakeView addr read)

theorem State.woken_reachable (s : State) (addr : Nat) (read : Bool) :
    ((s.i2cLeft addr read).wake 1 none).reachable = (s.wake 1 none).reachable :=
  State.reachable_of_wakeView (s.wake_i2cLeft_wakeView addr read)

theorem State.woken_nvmBusy (s : State) (addr : Nat) (read : Bool) :
    ((s.i2cLeft addr read).wake 1 none).nvmBusy = (s.wake 1 none).nvmBusy :=
  State.nvmBusy_of_nackView (congrArg (·.1) (s.wake_i2cLeft_wakeView addr read))

theorem i2cAddress_not_heard (addr : Fin 128) (read : Bool) (ptr : Option Word) (s : State)
    (h : addr.val ≠ s.yard.ownAddr ∨ s.boot.inReset = true ∨ s.bootEarly = true) :
    exec (.i2cAddress addr read ptr) s = .next
      ({ (if s.host.i2cTxn = some false ∧ s.host.i2cAddr = true ∧ s.host.i2cWords = 0 ∧ (addr.val ≠ s.yard.ownAddr ∨ read = false)
          then s.put I2C_LAST_CODE cEMPTY else s) with host := { s.host with i2cAck := false, i2cTxn := none } }) := by
  refine congrArg Host.Outcome.next ((State.i2cAddress_unheard read _ h).trans ?_)
  unfold State.i2cLeft
  simp only [Bool.and_eq_true, Bool.or_eq_true, beq_iff_eq, bne_iff_ne, Bool.not_eq_true', and_assoc]
  split <;> rfl

/-- What an opened transaction shows (R463), beside the state `s` in which the address byte came. -/
theorem State.i2cOpen_of_left {s u : State} (hu : u.nackView = s.nackView) (read : Bool) (ptr : Option Nat) :
    (u.i2cOpen read ptr).host.i2cAck = true ∧ (u.i2cOpen read ptr).host.i2cTxn = some read ∧
      (u.i2cOpen read ptr).host.i2cWords = 0 ∧ (u.i2cOpen read ptr).host.i2cOut = [] ∧
      (u.i2cOpen read ptr).get I2C_REFUSALS = (if s.host.i2cTxn.isSome then s.get I2C_REFUSALS else 0) ∧
      (u.i2cOpen read ptr).host.i2cPtr = ptr.getD s.host.i2cPtr ∧ s.SameMemory (u.i2cOpen read ptr) := by
  obtain ⟨hack, htxn, hwords, hout, hrefusals, hptr, hmem⟩ := u.i2cOpen_opens read ptr
  rw [State.i2cTxn_of_nackView hu, (State.nackCounts_of_nackView hu).1] at hrefusals
  rw [State.i2cPtr_of_nackView hu] at hptr
  exact ⟨hack, htxn, hwords, hout, hrefusals, hptr, State.sameMemory_trans (State.sameMemory_of_nackView hu) hmem⟩

theorem i2cAddress_opens (addr : Fin 128) (read : Bool) (ptr : Option Word) (s : State) (hreset : s.boot.inReset = false)
    (hearly : s.bootEarly = false)
    (h : s.safe = true ∨ (s.inDormant = false ∧ (s.wake 1 none).reachable = true ∧ (s.wake 1 none).nvmBusy = false ∧
      (s.wake 1 none).yard.pstate ≠ 1 ∧ (s.wake 1 none).yard.pstate ≠ 2 ∧ (s.wake 1 none).yard.pstate ≠ 3))
    (hown : addr.val = s.yard.ownAddr) :
    ∃ t, exec (.i2cAddress addr read ptr) s = .next t ∧
      t.host.i2cAck = true ∧
      t.host.i2cTxn = some read ∧
      t.host.i2cWords = 0 ∧
      t.host.i2cOut = [] ∧
      (t.get I2C_REFUSALS = (if s.host.i2cTxn.isSome then s.get I2C_REFUSALS else 0)) ∧
      (t.host.i2cPtr = (if read then s.host.i2cPtr else (ptr.map BitVec.toNat).getD s.host.i2cPtr)) ∧
      s.SameMemory t := by
  have hears : s.i2cHears addr.val := ⟨hown, hreset, hearly⟩
  have hopen : ∃ u : State, u.nackView = s.nackView ∧ s.i2cAddress addr.val read (ptr.map BitVec.toNat) =
      u.i2cOpen read (if read then none else ptr.map BitVec.toNat) := by
    by_cases hs : s.safe = true
    · exact ⟨_, s.i2cLeft_nackView _ read, State.i2cAddress_safe read _ hears hs⟩
    obtain ⟨hd, hr, hn, h1, h2, h3⟩ := h.resolve_left hs
    refine ⟨_, s.woken_nackView addr.val read, (State.i2cAddress_awake read _ hears (by simpa using hs) hd).trans ?_⟩
    unfold State.i2cAnswer
    simp [State.arbiterRests, s.woken_pstate, s.woken_reachable, s.woken_nvmBusy, h1, h2, h3, hr, hn]
  obtain ⟨u, hu, he⟩ := hopen
  obtain ⟨hack, htxn, hwords, hout, hrefusals, hptr, hmem⟩ :=
    State.i2cOpen_of_left hu read (if read then none else ptr.map BitVec.toNat)
  refine ⟨_, congrArg Host.Outcome.next he, hack, htxn, hwords, hout, hrefusals, hptr.trans ?_, hmem⟩
  cases read <;> rfl

theorem i2cAddress_busy (addr : Fin 128) (read : Bool) (ptr : Option Word) (s : State) (hreset : s.boot.inReset = false)
    (hearly : s.bootEarly = false) (hs : s.safe = false) (hd : s.inDormant = false) (hown : addr.val = s.yard.ownAddr)
    (hr : (s.wake 1 none).reachable = true) (hn : (s.wake 1 none).nvmBusy = true) (h3 : (s.wake 1 none).yard.pstate ≠ 3) :
    ∃ t, exec (.i2cAddress addr read ptr) s = .next t ∧
      t.host.i2cAck = false ∧
      t.host.i2cTxn = none ∧
      t.get I2C_BUSY_NACKS = min (s.get I2C_BUSY_NACKS + 1) (2 ^ I2C_BUSY_NACKS.wid - 1) ∧
      t.get I2C_REFUSALS = s.get I2C_REFUSALS ∧
      s.SameMemory t := by
  have he := State.i2cAddress_awake read (ptr.map BitVec.toNat) (⟨hown, hreset, hearly⟩ : s.i2cHears addr.val) hs hd
  have hu := s.woken_nackView addr.val read
  rw [State.i2cAnswer, if_neg (by rwa [s.woken_pstate]), if_neg (by simp [s.woken_reachable, hr]),
    if_pos ((s.woken_nvmBusy ..).trans hn)] at he
  generalize (s.i2cLeft addr.val read).wake 1 none = u at he hu
  obtain ⟨hrefusals, hbusy, -⟩ := State.nackCounts_of_nackView hu
  refine ⟨_, congrArg Host.Outcome.next he, rfl, rfl, ?_, ?_, ?_⟩
  · exact hbusy ▸ State.inc_get u.i2cNack I2C_BUSY_NACKS
  · exact (State.get_put_ne u.i2cNack (by decide) _).trans hrefusals
  · exact (State.sameMemory_of_nackView hu :)

theorem i2cAddress_late (addr : Fin 128) (ptr : Option Word) (s : State) (hreset : s.boot.inReset = false)
    (hearly : s.bootEarly = false) (hs : s.safe = false) (hd : s.inDormant = false) (hown : addr.val = s.yard.ownAddr)
    (hr : (s.wake 1 none).reachable = true) (hn : (s.wake 1 none).nvmBusy = false)
    (hp : (s.wake 1 none).yard.pstate = 1 ∨ (s.wake 1 none).yard.pstate = 2) :
    ∃ t, exec (.i2cAddress addr true ptr) s = .next t ∧
      t.host.i2cAck = false ∧
      t.host.i2cTxn = none ∧
      t.get I2C_LATE_NACKS = min (s.get I2C_LATE_NACKS + 1) (2 ^ I2C_LATE_NACKS.wid - 1) ∧
      s.SameMemory t := by
  have he := State.i2cAddress_awake true (ptr.map BitVec.toNat) (⟨hown, hreset, hearly⟩ : s.i2cHears addr.val) hs hd
  have hu := s.woken_nackView addr.val true
  rw [State.i2cAnswer, if_neg (by rw [s.woken_pstate]; omega), if_neg (by simp [s.woken_reachable, hr]),
    if_neg (by simp [s.woken_nvmBusy, hn]),
    if_neg (by simpa [State.arbiterRests, s.woken_pstate, ← or_iff_not_imp_left] using hp), if_pos rfl] at he
  generalize (s.i2cLeft addr.val true).wake 1 none = u at he hu
  obtain ⟨-, -, hlate⟩ := State.nackCounts_of_nackView hu
  refine ⟨_, congrArg Host.Outcome.next he, rfl, rfl, ?_, ?_⟩
  · exact hlate ▸ State.inc_get u.i2cNack I2C_LATE_NACKS
  · exact (State.sameMemory_of_nackView hu :)

theorem i2cAddress_waits (addr : Fin 128) (ptr : Option Word) (s : State) (hreset : s.boot.inReset = false)
    (hearly : s.bootEarly = false) (hs : s.safe = false) (hd : s.inDormant = false) (hown : addr.val = s.yard.ownAddr)
    (hr : (s.wake 1 none).reachable = true) (hn : (s.wake 1 none).nvmBusy = false)
    (hp : (s.wake 1 none).yard.pstate = 1 ∨ (s.wake 1 none).yard.pstate = 2) :
    ∃ t, exec (.i2cAddress addr false ptr) s = .next t ∧
      t.host.i2cAck = true ∧
      t.host.i2cTxn = some false ∧
      t.host.i2cWords = 0 ∧
      t.host.i2cPtr = (ptr.map BitVec.toNat).getD s.host.i2cPtr ∧
      s.SameMemory t := by
  have he := State.i2cAddress_awake false (ptr.map BitVec.toNat) (⟨hown, hreset, hearly⟩ : s.i2cHears addr.val) hs hd
  have hu := s.woken_nackView addr.val false
  rw [State.i2cAnswer, if_neg (by rw [s.woken_pstate]; omega), if_neg (by simp [s.woken_reachable, hr]),
    if_neg (by simp [s.woken_nvmBusy, hn]), if_neg (by simpa [State.arbiterRests, s.woken_pstate, ← or_iff_not_imp_left] using hp),
    if_neg (by decide)] at he
  obtain ⟨hack, htxn, hwords, -, -, hptr, hmem⟩ := State.i2cOpen_of_left hu false (ptr.map BitVec.toNat)
  exact ⟨_, congrArg Host.Outcome.next he, hack, htxn, hwords, hptr, hmem⟩

/-- What an address byte that is answered with N leaves, and that it is. -/
def State.I2cRefused (s t : State) : Prop :=
  t.host.i2cAck = false ∧ t.host.i2cTxn = none ∧ t.host.i2cPtr = s.host.i2cPtr ∧ t.get I2C_BUSY_NACKS = s.get I2C_BUSY_NACKS ∧
    t.get I2C_LATE_NACKS = s.get I2C_LATE_NACKS ∧ s.SameMemory t

theorem State.i2cNack_refused {s u : State} (h : u.nackView = s.nackView) : s.I2cRefused u.i2cNack := by
  obtain ⟨-, hbusy, hlate⟩ := State.nackCounts_of_nackView h
  exact ⟨rfl, rfl, (State.i2cPtr_of_nackView h :), hbusy, hlate, (State.sameMemory_of_nackView h :)⟩

theorem State.I2cRefused.of_nackView {s t u : State} (h : s.I2cRefused t) (hu : u.nackView = t.nackView) : s.I2cRefused u := by
  obtain ⟨hack, htxn, hptr, hbusy, hlate, hmem⟩ := h
  obtain ⟨-, hbusy', hlate'⟩ := State.nackCounts_of_nackView hu
  exact ⟨(State.i2cAck_of_nackView hu).trans hack, (State.i2cTxn_of_nackView hu).trans htxn, (State.i2cPtr_of_nackView hu).trans hptr,
    hbusy'.trans hbusy, hlate'.trans hlate, State.sameMemory_trans hmem (State.sameMemory_of_nackView hu)⟩

theorem i2cAddress_asleep (addr : Fin 128) (read : Bool) (ptr : Option Word) (s : State) (hreset : s.boot.inReset = false)
    (hs : s.safe = false) (hown : addr.val = s.yard.ownAddr)
    (h : s.inDormant = true ∨ (s.wake 1 none).yard.pstate = 3 ∨ (s.wake 1 none).reachable = false) :
    ∃ t, exec (.i2cAddress addr read ptr) s = .next t ∧
      s.I2cRefused t ∧ (s.inDormant = true → s.yard.i2cWake = true → t.host.sleepNack = true) := by
  have hleft := s.i2cLeft_nackView addr.val read
  by_cases hearly : s.bootEarly = true
  · have he := State.i2cAddress_unheard read (ptr.map BitVec.toNat) (.inr (.inr hearly) : addr.val ≠ s.yard.ownAddr ∨ _)
    refine ⟨_, congrArg Host.Outcome.next he, State.i2cNack_refused hleft, fun hd => ?_⟩
    simp only [State.bootEarly, State.inDormant, Bool.and_eq_true, Bool.not_eq_true'] at hearly hd
    simp [hearly.1] at hd
  have hears : s.i2cHears addr.val := ⟨hown, hreset, by simpa using hearly⟩
  cases hd : s.inDormant
  · refine ⟨_, congrArg Host.Outcome.next (State.i2cAddress_awake read _ hears hs hd), ?_, fun hd' => absurd hd' (by decide)⟩
    have hu := s.woken_nackView addr.val read
    have hp := s.woken_pstate addr.val read
    have hr := s.woken_reachable addr.val read
    generalize (s.i2cLeft addr.val read).wake 1 none = u at hu hp hr
    unfold State.i2cAnswer
    split
    · exact (State.i2cNack_refused hu :)
    next h3 =>
      have hr' : u.reachable = false := by simp_all
      rw [if_pos (by simp [hr'])]
      exact State.i2cNack_refused hu
  · refine ⟨_, congrArg Host.Outcome.next (State.i2cAddress_dormant read _ hears hs hd), ?_⟩
    split
    next hw =>
      have href : s.I2cRefused ((s.i2cLeft addr.val read).i2cNack.onHost fun h => { h with sleepNack := true }) :=
        (State.i2cNack_refused hleft :)
      refine ⟨href.of_nackView (State.wake_nackView ..), fun _ _ => ?_⟩
      exact State.sleepNack_of_nackView (State.wake_nackView ..)
    next hw => exact ⟨State.i2cNack_refused hleft, fun _ h => absurd h hw⟩

theorem State.sameMemory_of_stores {s t : State} (hg : t.gran = s.gran) (hsh : t.shadow = s.shadow) (hl : t.loft = s.loft) :
    s.SameMemory t := by
  refine ⟨fun a => by rw [hg], fun b i => ?_, fun a => by rw [hsh]⟩
  simp only [State.bank, hl]

theorem State.LogsOnly.sameMemory {s t : State} (h : s.LogsOnly t) : s.SameMemory t :=
  State.sameMemory_of_stores h.gran h.shadow h.loft

theorem State.Reports.sameMemory {a b : Nat} {s t : State} (h : s.Reports a b t) : s.SameMemory t :=
  State.sameMemory_of_stores h.gran h.shadow h.loft

/-- What the two-wire bus learns of its last access (R464). -/
theorem State.noteCode_bus (s : State) (k : Nat) :
    s.noteCode 2 k = if k = cOK then s.put I2C_LAST_CODE k else (s.put I2C_LAST_CODE k).inc I2C_REFUSALS := by
  unfold State.noteCode State.noteLast
  simp

theorem State.noteCode_bus_last (s : State) (k : Nat) : (s.noteCode 2 k).get I2C_LAST_CODE = k % 2 ^ I2C_LAST_CODE.wid := by
  rw [State.noteCode_bus]
  split
  · exact State.get_put_same ..
  · exact (State.get_put_ne _ (by decide) _).trans (State.get_put_same ..)

theorem State.noteCode_bus_refused (s : State) {k : Nat} (hk : k ≠ cOK) :
    (s.noteCode 2 k).get I2C_REFUSALS = min (s.get I2C_REFUSALS + 1) (2 ^ I2C_REFUSALS.wid - 1) := by
  rw [State.noteCode_bus, if_neg hk]
  refine (State.inc_get (s.put I2C_LAST_CODE k) I2C_REFUSALS).trans ?_
  rw [State.get_put_ne _ (by decide)]

theorem State.noteCode_bus_host (s : State) (k : Nat) : (s.noteCode 2 k).host = s.host := by
  rw [State.noteCode_bus]
  split <;> rfl

theorem State.noteCode_sameMemory (s : State) (m k : Nat) : s.SameMemory (s.noteCode m k) := (s.reports_noteCode m k 0).sameMemory

/-! ### Words -/

/-- A word that is not posted is a write of the bus, and its master learns the code. -/
theorem State.ifWrite_unposted {s : State} {m addr : Nat} (data : Nat) (hreach : s.reachable = true) (h : s.posts m addr = false) :
    s.ifWrite m addr data = ((s.busWrite m addr data).1.noteCode m (s.busWrite m addr data).2, (s.busWrite m addr data).2) := by
  unfold State.ifWrite State.postWrite State.noteFrom
  simp [h, hreach]

/-! That a word is taken changes nothing that its write depends on. -/

theorem State.i2cTaken_reachable (s : State) : s.i2cTaken.reachable = s.reachable := rfl

theorem State.i2cTaken_safe (s : State) : s.i2cTaken.safe = s.safe := rfl

theorem State.i2cTaken_arbiterRests (s : State) : s.i2cTaken.arbiterRests = s.arbiterRests := rfl

theorem State.i2cTaken_posts (s : State) (m addr : Nat) : s.i2cTaken.posts m addr = s.posts m addr := rfl

theorem State.i2cTaken_get (s : State) (r : Row) (n i : Nat) : s.i2cTaken.get r n i = s.get r n i := rfl

theorem State.i2cTaken_sameMemory (s : State) : s.SameMemory s.i2cTaken := ⟨fun _ => rfl, fun _ _ => rfl, fun _ => rfl⟩

/-- A refusal recorded leaves the counts of the two-wire bus and the memories. -/
theorem State.refusePage_wakeView (s : State) (m : Nat) (wr : Bool) (p off code : Nat) :
    (s.refusePage m wr p off code).wakeView = s.wakeView := by
  have herr : (s.noteErr m wr p off code).wakeView = s.wakeView := by
    simp (disch := decide) [State.noteErr]
  have hlast : (((s.noteErr m wr p off code).put SYS_LR_CODE code).put SYS_LR_MASTER m).wakeView = s.wakeView :=
    (State.put_wakeView_key _ _ (by decide)).trans ((State.put_wakeView_key _ _ (by decide)).trans herr)
  unfold State.refusePage State.refuse
  simpa (disch := decide) using hlast

theorem State.refuseSafe_wakeView (s : State) (m : Nat) (wr : Bool) (addr : Nat) : (s.refuseSafe m wr addr).wakeView = s.wakeView := by
  simp (disch := decide) [State.refuseSafe]

/-- What the role has not is refused with ROLE_REJECT: in SAFE every write, else one of an absent page (R37, R464). -/
theorem State.busWrite_role {s : State} {addr data : Nat} (hreach : s.reachable = true)
    (h : s.safe = true ∨ (s.nvmBusy = false ∧ addr = regAddr 0x071 0x010 ∧ s.present 0x071 = false)) :
    (s.busWrite 2 addr data).2 = cROLE ∧ (s.busWrite 2 addr data).1.wakeView = s.wakeView ∧ s.posts 2 addr = false := by
  by_cases hsafe : s.safe = true
  · rw [State.busWrite_safe hreach hsafe]
    exact ⟨rfl, s.refuseSafe_wakeView .., by simp [State.posts, hsafe]⟩
  · obtain ⟨hnvm, rfl, habs⟩ := h.resolve_left hsafe
    have hserves : s.serves = true := by simp [State.serves, hreach, hnvm, hsafe]
    have hposted : isPosted (regAddr 0x071 0x010) = false := by decide
    rw [State.busWrite_absent hserves rfl (by decide) habs (by decide) (by decide) (by simp)]
    exact ⟨rfl, s.refusePage_wakeView .., by simp [State.posts, hposted]⟩

theorem i2cWriteWord_refused (data : Word) (s : State) (ht : s.host.i2cTxn = some false)
    (hp : s.safe = true ∨ (s.yard.pstate ≠ 1 ∧ s.yard.pstate ≠ 2)) (hreach : s.reachable = true)
    (h : s.safe = true ∨ (s.nvmBusy = false ∧ s.host.i2cPtr = regAddr 0x071 0x010 ∧ s.present 0x071 = false)) :
    ∃ t, exec (.i2cWriteWord data) s = .next t ∧
      t.get I2C_LAST_CODE = cROLE ∧
      t.get I2C_REFUSALS = min (s.get I2C_REFUSALS + 1) (2 ^ I2C_REFUSALS.wid - 1) ∧
      s.SameMemory t := by
  have hreach' := s.i2cTaken_reachable.trans hreach
  obtain ⟨hcode, hview, hposts⟩ := State.busWrite_role (s := s.i2cTaken) (data := data.toNat) hreach' h
  have he := (State.i2cWrite_of_open data.toNat ht hp).trans (congrArg Prod.fst (State.ifWrite_unposted data.toNat hreach' hposts))
  rw [hcode] at he
  generalize (s.i2cTaken.busWrite 2 s.host.i2cPtr data.toNat).1 = u at he hview
  have hnack : u.nackView = s.i2cTaken.nackView := congrArg (·.1) hview
  obtain ⟨hcount, -, -⟩ := State.nackCounts_of_nackView hnack
  have hmem := State.sameMemory_trans s.i2cTaken_sameMemory (State.sameMemory_of_nackView hnack)
  refine ⟨_, congrArg Host.Outcome.next he, State.noteCode_bus_last u cROLE, ?_,
    State.sameMemory_trans hmem (u.noteCode_sameMemory 2 cROLE)⟩
  rw [State.noteCode_bus_refused u (by decide), hcount, State.i2cTaken_get]

theorem i2cWriteWord_posted (data : Word) (s : State) (ht : s.host.i2cTxn = some false)
    (hp : s.yard.pstate ≠ 1 ∧ s.yard.pstate ≠ 2) (hsafe : s.safe = false) (hreach : s.reachable = true) (hnvm : s.nvmBusy = false)
    (hposted : isPosted s.host.i2cPtr = true) (hroom : s.host.posted.length < 16) :
    ∃ t, exec (.i2cWriteWord data) s = .next t ∧
      t.host.posted = s.host.posted ++ [(2, s.host.i2cPtr, data.toNat)] ∧
      t.get I2C_LAST_CODE = s.get I2C_LAST_CODE ∧
      s.SameBut t [] [] ∧
      s.SameMemory t := by
  have hposts : s.i2cTaken.posts 2 s.host.i2cPtr = true := by
    rw [State.i2cTaken_posts]
    simp [State.posts, hreach, hsafe, hnvm, hposted, State.sources]
  have hi : exec (.i2cWriteWord data) s = .next
      (s.i2cTaken.onHost fun h => { h with posted := h.posted ++ [(2, s.host.i2cPtr, data.toNat)] }) := by
    have hroom' : ¬s.i2cTaken.host.posted.length ≥ 16 := Nat.not_le.mpr hroom
    refine congrArg Host.Outcome.next ((State.i2cWrite_of_open _ ht (.inr hp)).trans ?_)
    unfold State.ifWrite State.postWrite
    rw [hposts]
    simp only [hroom', if_false]
    rfl
  exact ⟨_, hi, rfl, rfl, fun _ _ _ _ => ⟨rfl, rfl⟩, fun _ => rfl, fun _ _ => rfl, fun _ => rfl⟩

theorem i2cWriteWord_waits (data : Word) (s : State) (ht : s.host.i2cTxn = some false) (hsafe : s.safe = false)
    (hp : s.yard.pstate = 1 ∨ s.yard.pstate = 2) (hroom : s.host.i2cBuf.length < 4) :
    exec (.i2cWriteWord data) s = .next
      { s with host := { s.host with
        i2cAck := true, i2cPtr := nextAddr s.host.i2cPtr, i2cWords := s.host.i2cWords + 1
        i2cBuf := s.host.i2cBuf ++ [(s.host.i2cPtr, data.toNat)] } } := by
  have hrest : s.arbiterRests = true := by simpa [State.arbiterRests] using hp
  have hfull : (!s.safe && s.arbiterRests && decide (s.host.i2cBuf.length ≥ 4)) = false := by simp [hroom]
  have hwait : (!s.i2cTaken.safe && s.i2cTaken.arbiterRests) = true := by
    simp [s.i2cTaken_safe, s.i2cTaken_arbiterRests, hsafe, hrest]
  refine congrArg Host.Outcome.next ?_
  unfold State.i2cWrite
  rw [if_neg (by simp [ht])]
  simp only [hfull]
  exact if_pos hwait

theorem i2cWriteWord_overflows (data : Word) (s : State) (ht : s.host.i2cTxn = some false) (hsafe : s.safe = false)
    (hp : s.yard.pstate = 1 ∨ s.yard.pstate = 2) (hfull : 4 ≤ s.host.i2cBuf.length) :
    exec (.i2cWriteWord data) s = .next ({ s.inc I2C_PARTIAL with host := { s.host with i2cAck := false } }) := by
  have hrest : s.arbiterRests = true := by simpa [State.arbiterRests] using hp
  refine congrArg Host.Outcome.next ?_
  unfold State.i2cWrite
  rw [if_neg (by simp [ht])]
  exact if_pos (by simp [hsafe, hrest, hfull])

theorem i2cWriteWord_closed (data : Word) (s : State) (ht : s.host.i2cTxn ≠ some false) : exec (.i2cWriteWord data) s = .next s :=
  congrArg Host.Outcome.next (if_pos ht)

theorem i2cReadWord_closed (s : State) (ht : s.host.i2cTxn ≠ some true) : exec .i2cReadWord s = .next s :=
  congrArg Host.Outcome.next (if_pos ht)

/-! ### STOP -/

/-- A cut word is counted at STOP (R466). -/
def State.i2cCut (s : State) (cut : Bool) : State := if cut then s.inc I2C_PARTIAL else s

theorem State.i2cCut_host (s : State) (cut : Bool) : (s.i2cCut cut).host = s.host := by
  unfold State.i2cCut
  split <;> rfl

theorem State.i2cCut_find (s : State) (cut : Bool) {k : Nat} (h : k ≠ I2C_PARTIAL.key 0 0) (d : Nat) :
    (s.i2cCut cut).regs.find k d = s.regs.find k d := by
  unfold State.i2cCut
  split
  · exact State.put_find_ne h d
  · rfl

theorem State.i2cCut_get (s : State) (cut : Bool) {r : Row} (h : r.key 0 0 ≠ I2C_PARTIAL.key 0 0) : (s.i2cCut cut).get r = s.get r :=
  s.i2cCut_find cut h _

/-- A write without a data word is EMPTY (R463). -/
def State.i2cEnd (s : State) (read : Bool) : State :=
  if !read && s.host.i2cAddr && s.host.i2cWords == 0 then s.put I2C_LAST_CODE cEMPTY else s

theorem State.i2cEnd_find (s : State) (read : Bool) {k : Nat} (h : k ≠ I2C_LAST_CODE.key 0 0) (d : Nat) :
    (s.i2cEnd read).regs.find k d = s.regs.find k d := by
  unfold State.i2cEnd
  split
  · exact State.put_find_ne h d
  · rfl

theorem State.i2cEnd_get (s : State) (read : Bool) {r : Row} (h : r.key 0 0 ≠ I2C_LAST_CODE.key 0 0) :
    (s.i2cEnd read).get r = s.get r := s.i2cEnd_find read h _

theorem State.i2cEnd_last (s : State) (read : Bool) : (s.i2cEnd read).get I2C_LAST_CODE =
    if read = false ∧ s.host.i2cAddr = true ∧ s.host.i2cWords = 0 then cEMPTY else s.get I2C_LAST_CODE := by
  have hget : (s.put I2C_LAST_CODE cEMPTY).get I2C_LAST_CODE = cEMPTY := State.get_put_same ..
  unfold State.i2cEnd
  simp only [Bool.and_eq_true, Bool.not_eq_true', beq_iff_eq, and_assoc]
  split
  · exact hget
  · rfl

theorem i2cStop_closes (cut read : Bool) (s : State) (ht : s.host.i2cTxn = some read) :
    ∃ t, exec (.i2cStop cut) s = .next t ∧
      t.host.i2cTxn = none ∧
      t.host.i2cHold = decide (s.get I2C_HOLD_US ≠ 0) ∧
      (t.get I2C_PARTIAL = (if cut = true then min (s.get I2C_PARTIAL + 1) (2 ^ I2C_PARTIAL.wid - 1) else s.get I2C_PARTIAL)) ∧
      (t.get I2C_LAST_CODE = (if read = false ∧ s.host.i2cAddr = true ∧ s.host.i2cWords = 0 then cEMPTY else s.get I2C_LAST_CODE))
        ∧
      s.SameBut t [] [I2C_PARTIAL.key 0 0, I2C_LAST_CODE.key 0 0] ∧
      s.SameMemory t := by
  have hi : exec (.i2cStop cut) s = .next (((s.i2cCut cut).i2cEnd read).onHost fun h =>
      { h with i2cTxn := none, i2cHold := decide (((s.i2cCut cut).i2cEnd read).get I2C_HOLD_US ≠ 0) }) := by
    refine congrArg Host.Outcome.next ?_
    unfold State.i2cStop
    rw [ht]
    rfl
  have hget : ∀ {r : Row}, r.key 0 0 ≠ I2C_PARTIAL.key 0 0 → r.key 0 0 ≠ I2C_LAST_CODE.key 0 0 →
      ((s.i2cCut cut).i2cEnd read).get r = s.get r :=
    fun h1 h2 => (State.i2cEnd_get _ read h2).trans (State.i2cCut_get s cut h1)
  refine ⟨_, hi, rfl, ?_, ?_, ?_, ?_, ?_⟩
  · exact congrArg (fun n => decide (n ≠ 0)) (hget (r := I2C_HOLD_US) (by decide) (by decide))
  · refine (State.i2cEnd_get _ read (r := I2C_PARTIAL) (by decide)).trans ?_
    unfold State.i2cCut
    split
    · exact State.inc_get s I2C_PARTIAL
    · rfl
  · refine (State.i2cEnd_last _ read).trans ?_
    rw [State.i2cCut_host, State.i2cCut_get s cut (by decide)]
  · intro k d _ hk
    simp only [List.mem_cons, List.not_mem_nil, or_false, not_or] at hk
    exact ⟨(State.i2cEnd_find _ read hk.2 d).trans (State.i2cCut_find s cut hk.1 d), by
      unfold State.i2cEnd State.i2cCut
      split <;> split <;> rfl⟩
  · unfold State.i2cEnd State.i2cCut
    split <;> split <;> exact ⟨fun _ => rfl, fun _ _ => rfl, fun _ => rfl⟩

theorem i2cStop_idle (cut : Bool) (s : State) (ht : s.host.i2cTxn = none) :
    exec (.i2cStop cut) s = .next
      (if s.reachable then s.onHost fun h => { h with i2cHold := decide (s.get I2C_HOLD_US ≠ 0) } else s) := by
  refine congrArg Host.Outcome.next ?_
  simp [State.i2cStop, ht]

theorem State.readAct_sameMemory (s : State) (p off : Nat) : s.SameMemory (s.readAct p off) := by
  unfold State.readAct
  extract_lets t
  have ht : s.SameMemory t := by
    unfold t
    split <;> exact ⟨fun _ => rfl, fun _ _ => rfl, fun _ => rfl⟩
  split
  · exact ht
  split
  · exact ht
  · exact ht

theorem State.refuseAt_logsOnly (s : State) (m : Nat) (wr : Bool) (addr : Nat) (r : Refuse) : s.LogsOnly (s.refuseAt m wr addr r) := by
  unfold State.refuseAt
  split
  next p lr _ =>
    extract_lets t
    have ht : s.LogsOnly t := s.refuse_logsOnly ..
    split
    · exact ht.trans (State.stateRejected_logsOnly ..)
    · exact ht

theorem State.pageRead_sameMemory (s : State) (m p off : Nat) : s.SameMemory (s.pageRead m p off).1 := by
  unfold State.pageRead
  split
  · exact (State.LogsOnly.refl s).sameMemory
  split
  · exact (s.refusePage_logsOnly ..).sameMemory
  · exact s.readAct_sameMemory p off

theorem State.readWord_sameMemory (s : State) (m addr : Nat) : s.SameMemory (s.readWord m addr).1 := by
  have hself : s.SameMemory s := (State.LogsOnly.refl s).sameMemory
  unfold State.readWord
  split
  · exact (s.refuseAt_logsOnly ..).sameMemory
  split
  · exact s.pageRead_sameMemory ..
  · exact hself
  · exact hself
  · exact hself
  · split
    · exact (s.refuseAt_logsOnly ..).sameMemory
    · exact hself
  · exact (s.refuseAt_logsOnly ..).sameMemory

/-- A read leaves the memories. -/
theorem State.busRead_sameMemory (s : State) (m addr : Nat) : s.SameMemory (s.busRead m addr).1 := by
  have hself : s.SameMemory s := (State.LogsOnly.refl s).sameMemory
  unfold State.busRead
  split
  next t w k h =>
    suffices ht : s.SameMemory t from ht
    obtain rfl : _ = t := congrArg Prod.fst h
    split_ifs
    · exact hself
    · exact hself
    · exact hself
    · exact State.sameMemory_of_nackView (congrArg (·.1) (s.refuseSafe_wakeView m false addr))
    · exact (s.refuseAt_logsOnly ..).sameMemory
    · exact s.readWord_sameMemory m addr

theorem i2cSdaHeld_first (s : State) (h : s.get I2C_SDA_HELD = 0) :
    exec .i2cSdaHeld s = .next ((s.put I2C_SDA_HELD 1).event 0x0811 0) :=
  congrArg Host.Outcome.next (if_neg (by simp [State.on, h]))

theorem i2cSdaHeld_again (s : State) (h : s.get I2C_SDA_HELD ≠ 0) : exec .i2cSdaHeld s = .next s :=
  congrArg Host.Outcome.next (if_pos (by simpa [State.on] using h))

theorem i2cReadWord_reads (w k : Nat) (s : State) (ht : s.host.i2cTxn = some true) (hw : (s.busRead 2 s.host.i2cPtr).2 = (w, k)) :
    ∃ t, exec (.i2cReadWord) s = .next t ∧
      t.host.i2cOut = (s.busRead 2 s.host.i2cPtr).1.host.i2cOut ++ busBytes w ∧
      t.host.i2cPtr = nextAddr s.host.i2cPtr ∧
      t.host.i2cWords = (s.busRead 2 s.host.i2cPtr).1.host.i2cWords + 1 ∧
      t.get I2C_LAST_CODE = k % 2 ^ I2C_LAST_CODE.wid ∧
      s.SameMemory t := by
  have he : s.i2cRead = ((s.busRead 2 s.host.i2cPtr).1.noteCode 2 k).onHost fun h =>
      { h with i2cOut := h.i2cOut ++ busBytes w, i2cPtr := nextAddr s.host.i2cPtr, i2cWords := h.i2cWords + 1 } := by
    obtain rfl : (s.busRead 2 s.host.i2cPtr).2.1 = w := congrArg (·.1) hw
    obtain rfl : (s.busRead 2 s.host.i2cPtr).2.2 = k := congrArg (·.2) hw
    exact if_neg (by simp [ht])
  have hmem := s.busRead_sameMemory 2 s.host.i2cPtr
  generalize (s.busRead 2 s.host.i2cPtr).1 = u at he hmem
  have hhost := u.noteCode_bus_host k
  refine ⟨_, congrArg Host.Outcome.next he, ?_, rfl, ?_, ?_, ?_⟩
  · exact congrArg (·.i2cOut ++ busBytes w) hhost
  · exact congrArg (·.i2cWords + 1) hhost
  · exact u.noteCode_bus_last k
  · exact State.sameMemory_trans hmem (u.noteCode_sameMemory 2 k)

/-! ### A write of CLK.KEEP -/

/-- A store of CLK.KEEP, with its parity error ended (R78). -/
theorem State.storeWord_keep (s : State) (data : Nat) :
    s.storeWord 0x002 0x048 data = (s.put CLK_KEEP (wordField CLK_KEEP data)).rewritten 0x002 0x048 := by
  have hrows : wordRows 0x002 0x048 = [(CLK_KEEP, 0)] := by decide
  have hplain : ¬(CLK_KEEP = SYS_PRIV ∨ CLK_KEEP = LINK_TUN_WDATA ∨ (CLK_KEEP = HDR_EN ∧ enFixed 0x002 = true)) := by decide
  have hfield : s.storeField 0x002 data CLK_KEEP 0 = s.put CLK_KEEP (wordField CLK_KEEP data) := by
    change (if CLK_KEEP = SYS_PRIV ∨ CLK_KEEP = LINK_TUN_WDATA ∨ (CLK_KEEP = HDR_EN ∧ enFixed 0x002 = true) then s
      else s.put CLK_KEEP (wordField CLK_KEEP data) (CLK_KEEP.nth 0x002) 0) = _
    rw [if_neg hplain]
    rfl
  unfold State.storeWord
  rw [hrows, List.foldl_cons, List.foldl_nil, hfield]
  rfl

/-- What the choice of the deepest state leaves: what a wake leaves, and CLK.KEEP. -/
def State.keepView (s : State) := (s.wakeView, s.get CLK_KEEP)

theorem State.put_keepView (s : State) {r : Row} (v n : Nat) {i : Nat}
    (h : r.key 0 i % 0x20000 ∉ (CLK_KEEP.key 0 0 :: wakeKeys).map (· % 0x20000)) : (s.put r v n i).keepView = s.keepView := by
  simp only [List.map_cons, List.mem_cons, not_or] at h
  exact Prod.ext (State.put_wakeView s v n h.2) (State.get_put_place s (Ne.symm h.1) v n 0)

theorem State.event_keepView (s : State) (code data : Nat) : (s.event code data).keepView = s.keepView :=
  Prod.ext (State.event_wakeView s code data) (State.event_get s code data (by decide) (by decide))

theorem State.rechoose_keepView (s : State) : s.rechoose.keepView = s.keepView := by
  unfold State.rechoose
  split
  next a lim _ =>
    extract_lets t
    have ht : t.keepView = s.keepView := (State.put_keepView _ _ _ (by decide)).trans (State.put_keepView _ _ _ (by decide))
    split
    · exact (State.put_keepView t _ _ (by decide)).trans ht
    · split
      · exact ht
      · exact (State.event_keepView ..).trans ((State.put_keepView t _ _ (by decide)).trans ht)

theorem State.post_keepView (s : State) (msg : Nat) (ws : List Nat) : (s.post 0 msg ws).keepView = s.keepView := by
  refine Prod.ext (State.post_wakeView s 0 msg ws) ?_
  unfold State.post
  extract_lets t p p'
  have ht : t.get CLK_KEEP = s.get CLK_KEEP := by
    unfold t
    split
    · exact State.get_put_ne s (by decide) _
    · rfl
  exact ht

theorem State.noteStatus_keepView (s : State) : s.noteStatus.keepView = s.keepView := by
  unfold State.noteStatus
  split
  · exact State.post_keepView ..
  · rfl

theorem State.beginTrans_keepView (s : State) (target cause : Nat) : (s.beginTrans target cause).keepView = s.keepView := by
  have h : (((s.put YARD_MODE_TARGET target).put YARD_MODE_BUSY 1).put YARD_MODE_CAUSE cause).keepView = s.keepView := by
    simp (disch := decide) only [State.put_keepView]
  exact (State.noteStatus_keepView _).trans h

theorem State.tryReturn_keepView (s : State) (first : Bool) : (s.tryReturn first).keepView = s.keepView := by
  unfold State.tryReturn
  split
  · split
    · split <;> simp (disch := decide) only [State.put_keepView, State.event_keepView]
    · have h : (s.put YARD_L4_BLOCKED 0).keepView = s.keepView := State.put_keepView s _ _ (by decide)
      exact (State.beginTrans_keepView ..).trans h
  · rfl

theorem State.rechooseAll_keepView (s : State) : s.rechooseAll.keepView = s.keepView := by
  unfold State.rechooseAll
  extract_lets t u
  have hu : u.keepView = t.keepView := by
    unfold u
    split
    · exact State.put_keepView t _ _ (by decide)
    · rfl
  exact (State.tryReturn_keepView ..).trans (hu.trans s.rechoose_keepView)

/-- What a carried-out write of CLK.KEEP does: the field holds the data, and nothing that a wake leaves changes. -/
theorem State.writeDo_keep (s : State) (m data : Nat) :
    (s.writeDo m 0x002 0x048 data).get CLK_KEEP = wordField CLK_KEEP data ∧ (s.writeDo m 0x002 0x048 data).wakeView = s.wakeView := by
  have he : s.writeDo m 0x002 0x048 data = (s.storeWord 0x002 0x048 data).rechooseAll.clockSync := rfl
  have hw : wordField CLK_KEEP data < 2 ^ CLK_KEEP.wid := Nat.mod_lt _ (Nat.two_pow_pos _)
  have hput : ((s.put CLK_KEEP (wordField CLK_KEEP data)).rewritten 0x002 0x048).get CLK_KEEP = wordField CLK_KEEP data :=
    (State.get_put_same ..).trans (Nat.mod_eq_of_lt hw)
  rw [he, State.storeWord_keep]
  generalize hu : (s.put CLK_KEEP (wordField CLK_KEEP data)).rewritten 0x002 0x048 = u at hput
  have hu' : u.wakeView = s.wakeView := hu ▸ State.put_wakeView s (r := CLK_KEEP) (i := 0) _ _ (by decide)
  have hview : u.rechooseAll.clockSync.keepView = u.keepView :=
    (State.put_keepView u.rechooseAll (r := CLK_GRANT) (i := 0) _ _ (by decide)).trans u.rechooseAll_keepView
  exact ⟨(congrArg (·.2) hview).trans hput, (congrArg (·.1) hview).trans hu'⟩

theorem i2cWriteWord_keep (data : Word) (s : State) (ht : s.host.i2cTxn = some false) (hp : s.yard.pstate ≠ 1 ∧ s.yard.pstate ≠ 2)
    (hptr : s.host.i2cPtr = regAddr 0x002 0x048) (ha : s.accepts 2 0x002 0x048 data.toNat = true) :
    ∃ t, exec (.i2cWriteWord data) s = .next t ∧
      t.get CLK_KEEP = wordField CLK_KEEP data.toNat ∧
      t.get I2C_LAST_CODE = cOK ∧
      t.get I2C_REFUSALS = s.get I2C_REFUSALS ∧
      s.SameMemory t := by
  have ha' : s.i2cTaken.accepts 2 0x002 0x048 data.toNat = true := ha
  have hposts : s.i2cTaken.posts 2 (regAddr 0x002 0x048) = false := by
    have hno : isPosted (regAddr 0x002 0x048) = false := by decide
    simp [State.posts, hno]
  have he := (State.i2cWrite_of_open data.toNat ht (.inr hp)).trans
    (congrArg Prod.fst (hptr ▸ State.ifWrite_unposted data.toNat (State.reachable_of_accepts ha') hposts))
  rw [hptr, State.busWrite_of_accepts ha'] at he
  obtain ⟨hkeep, hview⟩ := s.i2cTaken.writeDo_keep 2 data.toNat
  generalize s.i2cTaken.writeDo 2 0x002 0x048 data.toNat = u at he hkeep hview
  have hnack : u.nackView = s.i2cTaken.nackView := congrArg (·.1) hview
  obtain ⟨hcount, -, -⟩ := State.nackCounts_of_nackView hnack
  have hok : u.noteCode 2 cOK = u.put I2C_LAST_CODE cOK := (u.noteCode_bus cOK).trans (if_pos rfl)
  refine ⟨_, congrArg Host.Outcome.next he, ?_, u.noteCode_bus_last cOK, ?_,
    State.sameMemory_trans s.i2cTaken_sameMemory (State.sameMemory_trans (State.sameMemory_of_nackView hnack)
      (u.noteCode_sameMemory 2 cOK))⟩
  · rw [hok, State.get_put_ne _ (by decide), hkeep]
  · rw [hok, State.get_put_ne _ (by decide), hcount, State.i2cTaken_get]

/-- Settles O48: the answers by `State.woken_nackView` and its kin, a written word by `State.ifWrite_busKept`. -/
theorem twoWireBus : Obligations.TwoWireBus := by
  unfold Obligations.TwoWireBus
  refine ⟨i2cAddress_not_heard, i2cAddress_opens, i2cAddress_busy, i2cAddress_late, i2cAddress_waits, ?asleep, i2cWriteWord_keep,
    ?advances, i2cWriteWord_refused, i2cWriteWord_posted, i2cWriteWord_waits, i2cWriteWord_overflows, i2cWriteWord_closed,
    i2cReadWord_reads, i2cReadWord_closed, i2cStop_closes, i2cStop_idle, fun _ => rfl, i2cSdaHeld_first, i2cSdaHeld_again⟩
  case asleep =>
    intro addr read ptr s hreset hs hown h
    obtain ⟨t, ht, ⟨hack, htxn, hptr, hbusy, hlate, hmem⟩, hsleep⟩ := i2cAddress_asleep addr read ptr s hreset hs hown h
    exact ⟨t, ht, hack, htxn, hptr, hbusy, hlate, hsleep, hmem⟩
  case advances =>
    exact fun data s ht hp => ⟨_, rfl, State.i2cWrite_kept data.toNat ht hp⟩

end Sys2Proof.Machine
end

section
/-! O7: accesses outside every region of the address space, and reserved page slots (R44, Table REG-1). -/

namespace Sys2Proof.Machine

open Sys2Proof

/-! ### Where such an access lands -/

/-- The addresses that no region of Table REG-1 holds, the gap between the Loft banks among them. -/
abbrev OutsideRegions (addr : Nat) : Prop :=
  addr < 0x40000000 ∨ (0x40100000 ≤ addr ∧ addr < 0x50000000) ∨ (0x50001000 ≤ addr ∧ addr < 0x60000000) ∨
    (0x60140000 ≤ addr ∧ addr < 0x60200000) ∨ (0x60340000 ≤ addr ∧ addr < 0x70000000) ∨ 0x70800000 ≤ addr

theorem target_outside {addr : Nat} (h : OutsideRegions addr) : target addr = .nowhere := by
  unfold target
  rw [if_neg (by omega), if_neg (by omega), if_neg (by omega), if_neg (by omega), if_neg (by omega)]

/-- A register address is its page's and its offset's. -/
theorem regAddr_of_pages {addr : Nat} (h : 0x40000000 ≤ addr) :
    regAddr ((addr - 0x40000000) / 0x1000) (addr % 0x1000) = addr := by
  unfold regAddr
  omega

theorem target_reserved {addr : Nat} (h : 0x40000000 ≤ addr) (h' : addr < 0x40100000)
    (hp : pageExists ((addr - 0x40000000) / 0x1000) = false) : target addr = .slot (addr % 0x1000) := by
  have hslot := target_regAddr_slot hp (by omega) (Nat.mod_lt addr (by decide : 0 < 0x1000))
  rwa [regAddr_of_pages h] at hslot

theorem isPosted_outside {addr : Nat} (h : OutsideRegions addr) : isPosted addr = false := by
  have hyard : ¬(0x40001040 ≤ addr ∧ addr < 0x40002000) := by omega
  have hwdt : ¬(0x40003040 ≤ addr ∧ addr < 0x40004000) := by omega
  unfold isPosted
  simp only [Bool.and_eq_false_iff, Bool.or_eq_false_iff, decide_eq_false_iff_not]
  omega

theorem isPosted_unaligned {addr : Nat} (h : addr % 4 ≠ 0) : isPosted addr = false := by simp [isPosted, h]

/-! ### What is recorded of it -/

/-- A refusal that needs no report of R98 is its record alone. -/
theorem State.refuseAt_of_record (s : State) (m : Nat) (wr : Bool) {addr code p lr : Nat} (hrec : (target addr).record = (p, lr))
    (hstate : code ≠ cSTATE) : s.refuseAt m wr addr ⟨code, 0, false⟩ = s.refuse m wr p lr (addr % 0x1000) code := by
  simp [State.refuseAt, hrec, hstate]

/-- What is recorded of an access that is no page's: ERR_CODE of SYS and LAST_REFUSAL (R44, R67). -/
theorem State.get_refuseAt_sys (s : State) (m : Nat) (wr : Bool) {addr code lr : Nat} (hrec : (target addr).record = (0x000, lr))
    (hlr : lr < 0x100) (hcode : code < 32) (hstate : code ≠ cSTATE) :
    (s.refuseAt m wr addr ⟨code, 0, false⟩).get HDR_ERR_CODE = code ∧
    (s.refuseAt m wr addr ⟨code, 0, false⟩).get HDR_ERR_OFFSET = addr % 0x1000 ∧
    (s.refuseAt m wr addr ⟨code, 0, false⟩).get HDR_ERR_WR = bit wr ∧
    (s.refuseAt m wr addr ⟨code, 0, false⟩).get SYS_LR_CODE = code ∧
    (s.refuseAt m wr addr ⟨code, 0, false⟩).get SYS_LR_PAGE = lr ∧
    (s.refuseAt m wr addr ⟨code, 0, false⟩).get SYS_LR_WORD = addr % 0x1000 / 4 := by
  obtain ⟨hecode, _, hewr, heoff⟩ := s.get_refuse_err m wr 0x000 lr (addr % 0x1000) code
  obtain ⟨hlcode, _, _, hlpage, hlword, _⟩ := s.get_refuse_last m wr 0x000 lr (addr % 0x1000) code
  rw [State.refuseAt_of_record s m wr hrec hstate]
  refine ⟨hecode.trans (Nat.mod_eq_of_lt (b := 2 ^ 8) (by omega)), heoff.trans (Nat.mod_eq_of_lt (b := 2 ^ 12) (by omega)), hewr,
    hlcode.trans (Nat.mod_eq_of_lt ?_), hlpage.trans (Nat.mod_eq_of_lt (b := 2 ^ 8) (by omega)),
    hlword.trans (Nat.mod_eq_of_lt (b := 2 ^ 10) (by omega))⟩
  exact hcode.trans_le (by decide)

/-- A served read that a refusal answers leaves the refusal's record. -/
theorem State.busRead_recorded {s : State} {m addr code lr w : Nat} (hs : s.serves = true) (hm : s.sources m = true)
    (hread : s.readWord m addr = (s.refuseAt m false addr ⟨code, 0, false⟩, w, code)) (hw : w < 2 ^ 32)
    (hrec : (target addr).record = (0x000, lr)) (hlr : lr < 0x100) (hcode : code < 32) (hstate : code ≠ cSTATE) :
    (s.busRead m addr).2 = (w, code) ∧ (s.busRead m addr).1.get HDR_ERR_CODE = code ∧
    (s.busRead m addr).1.get HDR_ERR_OFFSET = addr % 0x1000 ∧ (s.busRead m addr).1.get HDR_ERR_WR = 0 ∧
    (s.busRead m addr).1.get SYS_LR_CODE = code ∧ (s.busRead m addr).1.get SYS_LR_PAGE = lr ∧
    (s.busRead m addr).1.get SYS_LR_WORD = addr % 0x1000 / 4 := by
  rw [State.busRead_of_serves hs hm, hread]
  exact ⟨by simp only [Nat.mod_eq_of_lt hw], s.get_refuseAt_sys m false hrec hlr hcode hstate⟩

/-- A served write that a refusal answers, with nothing posted ahead of it, leaves the refusal's record. -/
theorem State.busWrite_recorded {s : State} {m addr data code lr : Nat} (hs : s.serves = true) (hm : s.sources m = true)
    (hposted : isPosted addr = false) (hwrite : s.writeWord m addr data = (s.refuseAt m true addr ⟨code, 0, false⟩, code))
    (hrec : (target addr).record = (0x000, lr)) (hlr : lr < 0x100) (hcode : code < 32) (hstate : code ≠ cSTATE) :
    (s.busWrite m addr data).2 = code ∧ (s.busWrite m addr data).1.get HDR_ERR_CODE = code ∧
    (s.busWrite m addr data).1.get HDR_ERR_OFFSET = addr % 0x1000 ∧ (s.busWrite m addr data).1.get HDR_ERR_WR = 1 ∧
    (s.busWrite m addr data).1.get SYS_LR_CODE = code ∧ (s.busWrite m addr data).1.get SYS_LR_PAGE = lr ∧
    (s.busWrite m addr data).1.get SYS_LR_WORD = addr % 0x1000 / 4 := by
  rw [State.busWrite_of_serves hs hm, State.settlePosted_nil (.inl hposted), hwrite]
  exact ⟨rfl, s.get_refuseAt_sys m true hrec hlr hcode hstate⟩

/-! ### The four outcomes of such an access -/

theorem State.readWord_outside {s : State} {m addr : Nat} (ha : addr % 4 = 0) (h : OutsideRegions addr) :
    s.readWord m addr = (s.refuseAt m false addr ⟨cRANGE, 0, false⟩, 0, cRANGE) := by
  simp [State.readWord, ha, target_outside h]

theorem State.writeWord_outside {s : State} {m addr data : Nat} (ha : addr % 4 = 0) (h : OutsideRegions addr) :
    s.writeWord m addr data = (s.refuseAt m true addr ⟨cRANGE, 0, false⟩, cRANGE) := by
  simp [State.writeWord, ha, target_outside h]

theorem State.readWord_odd (s : State) (m : Nat) {addr : Nat} (ha : addr % 4 ≠ 0) :
    s.readWord m addr = (s.refuseAt m false addr ⟨cALIGN, 0, false⟩, 0xFFFFFFFF, cALIGN) := if_pos ha

theorem State.writeWord_odd (s : State) (m data : Nat) {addr : Nat} (ha : addr % 4 ≠ 0) :
    s.writeWord m addr data = (s.refuseAt m true addr ⟨cALIGN, 0, false⟩, cALIGN) := if_pos ha

/-- Settles O7: `target_outside` and `target_reserved` say where such an access lands, and `get_refuseAt_sys` what is recorded of one
that is refused. -/
theorem addressesOutside : Obligations.AddressesOutside := by
  unfold Obligations.AddressesOutside
  refine ⟨?outsideRead, ?outsideWrite, ?outsideOddRead, ?outsideOddWrite, ?slotRead, ?slotWrite, ?slotOddRead, ?slotOddWrite⟩
  case outsideRead =>
    intro m addr s hs hm ha h
    exact State.busRead_recorded hs hm (State.readWord_outside ha h) (by decide) (by rw [target_outside h]; rfl) (by decide)
      (by decide) (by decide)
  case outsideWrite =>
    intro m addr data s hs hm ha h
    exact State.busWrite_recorded hs hm (isPosted_outside h) (State.writeWord_outside ha h) (by rw [target_outside h]; rfl)
      (by decide) (by decide) (by decide)
  case outsideOddRead =>
    intro m addr s hs hm ha h
    exact State.busRead_recorded hs hm (s.readWord_odd m ha) (by decide) (by rw [target_outside h]; rfl) (by decide) (by decide)
      (by decide)
  case outsideOddWrite =>
    intro m addr data s hs hm ha h
    exact State.busWrite_recorded hs hm (isPosted_outside h) (s.writeWord_odd m data ha) (by rw [target_outside h]; rfl)
      (by decide) (by decide) (by decide)
  case slotRead =>
    intro m addr s hs hm ha hlow hhigh hp
    rw [← regAddr_of_pages hlow, State.busRead_of_serves hs hm,
      State.readWord_slot m hp (by omega) (Nat.mod_lt _ (by decide)) (by omega)]
    exact ⟨rfl, rfl⟩
  case slotWrite =>
    intro m addr data s hs hm ha hlow hhigh hp
    rw [← regAddr_of_pages hlow, State.busWrite_slot hs hm hp (by omega) (Nat.mod_lt _ (by decide)) (by omega)]
    exact ⟨rfl, rfl⟩
  case slotOddRead =>
    intro m addr s hs hm ha hlow hhigh hp
    exact State.busRead_recorded hs hm (s.readWord_odd m ha) (by decide) (by rw [target_reserved hlow hhigh hp]; rfl) (by decide)
      (by decide) (by decide)
  case slotOddWrite =>
    intro m addr data s hs hm ha hlow hhigh hp
    exact State.busWrite_recorded hs hm (isPosted_unaligned ha) (s.writeWord_odd m data ha)
      (by rw [target_reserved hlow hhigh hp]; rfl) (by decide) (by decide) (by decide)

end Sys2Proof.Machine
end

section
/-! O14: writes to the Loft and to shadow SRAM (R73, R253, R254, R505), and the frame of a refusal by pages. -/

namespace Sys2Proof.Machine

open Sys2Proof

/-! ### Frames by pages and keys -/

theorem State.SameBut.trans {s t u : State} {ps ks : List Nat} (h : s.SameBut t ps ks) (h' : t.SameBut u ps ks) : s.SameBut u ps ks :=
  fun k d hp hk =>
    ⟨(h' k d hp hk).1.trans (h k d hp hk).1, (h' k d hp hk).2.trans (h k d hp hk).2⟩

theorem State.SameBut.mono {s t : State} {ps ps' ks ks' : List Nat} (h : s.SameBut t ps ks) (hp : ∀ p ∈ ps, p ∈ ps')
    (hk : ∀ k ∈ ks, k ∈ ks') : s.SameBut t ps' ks' :=
  fun k d hp' hk' => h k d (fun hm => hp' (hp _ hm)) (fun hm => hk' (hk _ hm))

/-- What the register stores alone decide. -/
theorem State.sameBut_of_stores {s t : State} (hr : t.regs = s.regs) (hs : t.staged = s.staged) (ps ks : List Nat) : s.SameBut t ps ks :=
  fun k d _ _ => ⟨by rw [hr], by rw [hs]⟩

/-- A write of a named field. -/
theorem State.sameBut_put_key (s : State) {r : Row} {n i : Nat} {ps ks : List Nat} (h : r.key n i ∈ ks) (v : Nat) :
    s.SameBut (s.put r v n i) ps ks :=
  fun k d _ hk => ⟨State.put_find_ne (fun he => hk (by rw [he]; exact h)) d, rfl⟩

/-- A write of a field of a named page. -/
theorem State.sameBut_put_page (s : State) {r : Row} {n i : Nat} {ps ks : List Nat} (h : keyPage (r.key n i) ∈ ps) (v : Nat) :
    s.SameBut (s.put r v n i) ps ks :=
  fun k d hp _ => ⟨State.put_find_ne (fun he => hp (by rw [he]; exact h)) d, rfl⟩

/-- A field outside the frame reads as before. -/
theorem State.SameBut.get {s t : State} {ps ks : List Nat} (h : s.SameBut t ps ks) {r : Row} {n i : Nat}
    (hp : keyPage (r.key n i) ∉ ps) (hk : r.key n i ∉ ks) : t.get r n i = s.get r n i := (h _ _ hp hk).1

/-- An event is a matter of EVT (0x006), and of the link controller (0x074), whose EVSEQ a head advances (R412). -/
theorem State.event_sameBut (s : State) (code data : Nat) {ps : List Nat} (h6 : 0x006 ∈ ps) (h7 : 0x074 ∈ ps) (ks : List Nat) :
    s.SameBut (s.event code data) ps ks :=
  fun k d hp _ => ⟨s.event_find_page code data (fun he => hp (by rw [he]; exact h6)) (fun he => hp (by rw [he]; exact h7)) d,
    by rw [(s.event_logsOnly code data).staged]⟩

/-- ERR_CODE stands on its page. -/
theorem keyPage_errCode {r : Row} (hr : r ∈ errRows) (p : Nat) : keyPage (r.key p 0) = p := by
  have hw := wordOf_errCode hr p
  unfold wordOf at hw
  unfold keyPage
  omega

theorem State.errPut_sameBut (s : State) (m : Nat) (wr : Bool) (p off code : Nat) {ps : List Nat} (hp : p ∈ ps) (ks : List Nat) :
    s.SameBut (s.errPut m wr p off code) ps ks := by
  have hrow : ∀ r ∈ errRows, keyPage (r.key p 0) ∈ ps := fun r hr => by rwa [keyPage_errCode hr]
  exact (((s.sameBut_put_page (hrow _ (by decide)) _).trans (State.sameBut_put_page _ (hrow _ (by decide)) _)).trans
    (State.sameBut_put_page _ (hrow _ (by decide)) _)).trans (State.sameBut_put_page _ (hrow _ (by decide)) _)

theorem State.lastPut_sameBut (s : State) (m : Nat) (wr : Bool) (lr off code : Nat) {ps : List Nat} (h0 : 0x000 ∈ ps) (ks : List Nat) :
    s.SameBut (s.lastPut m wr lr off code) ps ks := by
  have hrow : ∀ r ∈ lastRows, keyPage (r.key 0 0) ∈ ps := fun r hr => by
    have hsys : ∀ r ∈ lastRows, keyPage (r.key 0 0) = 0x000 := by decide
    rwa [hsys r hr]
  exact (((((s.sameBut_put_page (hrow _ (by decide)) _).trans (State.sameBut_put_page _ (hrow _ (by decide)) _)).trans
    (State.sameBut_put_page _ (hrow _ (by decide)) _)).trans (State.sameBut_put_page _ (hrow _ (by decide)) _)).trans
    (State.sameBut_put_page _ (hrow _ (by decide)) _)).trans
    (State.sameBut_put_page _ (r := SYS_REFUSAL_COUNT) (hrow _ (by decide)) _)

/-- A refusal is a matter of its page, of SYS and of what an event changes (R67). -/
theorem State.refuse_sameBut (s : State) (m : Nat) (wr : Bool) (p lr off code : Nat) (ks : List Nat) :
    s.SameBut (s.refuse m wr p lr off code) [0x000, p, 0x006, 0x074] ks := by
  have herr := s.errPut_sameBut m wr p off code (ps := [0x000, p, 0x006, 0x074]) (by simp) ks
  by_cases h : s.get HDR_ERR_CODE p = 0
  · rw [State.refuse_first h]
    exact (herr.trans (State.event_sameBut _ _ _ (by simp) (by simp) ks)).trans (State.lastPut_sameBut _ _ _ _ _ _ (by simp) ks)
  · rw [State.refuse_again h]
    exact herr.trans (State.lastPut_sameBut _ _ _ _ _ _ (by simp) ks)

/-! ### What the interfaces learn -/

theorem State.noteLast_sameBut (s : State) (m k : Nat) : s.SameBut (s.noteLast m k) [] lastKeys := by
  unfold State.noteLast
  split_ifs
  · exact s.sameBut_put_key (by decide) k
  · exact s.sameBut_put_key (by decide) k
  · exact State.sameBut_of_stores rfl rfl _ _

/-- The code of an access that is carried out (R464, R472). -/
theorem State.noteCode_ok_sameBut (s : State) (m : Nat) : s.SameBut (s.noteCode m cOK) [] lastKeys := by
  rw [State.noteCode_ok]
  split_ifs
  · exact (s.noteLast_sameBut m cOK).trans (State.sameBut_of_stores rfl rfl _ _)
  · exact s.noteLast_sameBut m cOK

/-- The code of any access: the counts of refusals with it. -/
theorem State.noteCode_sameBut (s : State) (m k : Nat) : s.SameBut (s.noteCode m k) [] noteKeys := by
  have hlast : s.SameBut (s.noteLast m k) [] noteKeys :=
    (s.noteLast_sameBut m k).mono (fun _ h => h) (fun _ h => List.mem_append_left _ h)
  unfold State.noteCode
  extract_lets t
  split_ifs
  · exact hlast.trans (State.sameBut_of_stores rfl rfl _ _)
  · exact hlast
  · exact (hlast.trans (State.sameBut_put_key t (r := SPI_REFUSALS) (n := 0) (i := 0) (by decide) _)).trans
      (State.sameBut_of_stores rfl rfl _ _)
  · exact (hlast.trans (State.sameBut_put_key t (r := SPI_REFUSALS) (n := 0) (i := 0) (by decide) _)).trans
      (State.sameBut_of_stores rfl rfl _ _)
  · exact hlast.trans (State.sameBut_put_key t (r := I2C_REFUSALS) (n := 0) (i := 0) (by decide) _)
  · exact hlast

/-! ### Memories -/

theorem Image.word_setWord_same (im : Image) (i w : Nat) : (im.setWord i w).word i = w := Store.find_set_same ..

theorem Image.word_setWord_ne (im : Image) {i j : Nat} (h : j ≠ i) (w : Nat) : (im.setWord i w).word j = im.word j :=
  Store.find_set_ne _ h ..

@[simp] theorem State.bank_setBank_same (s : State) (b : Nat) (im : Image) : (s.setBank b im).bank b = im := by
  unfold State.bank State.setBank
  split_ifs <;> rfl

theorem State.bank_setBank_ne (s : State) {b b' : Nat} (h : (b' = 0) ≠ (b = 0)) (im : Image) : (s.setBank b im).bank b' = s.bank b' := by
  unfold State.bank State.setBank
  split_ifs <;> simp_all

/-- A Loft word is stored in its bank alone (R253). -/
theorem State.loftPut_bank (s : State) (b : Bool) (i w : Nat) :
    ((s.loftPut (bit b) i w).bank (bit b)).word i = w ∧
    (∀ j, j ≠ i → ((s.loftPut (bit b) i w).bank (bit b)).word j = (s.bank (bit b)).word j) ∧
    ∀ j, ((s.loftPut (bit b) i w).bank (1 - bit b)).word j = (s.bank (1 - bit b)).word j := by
  have hother : ((1 - bit b) = 0) ≠ (bit b = 0) := by cases b <;> decide
  unfold State.loftPut
  rw [State.bank_setBank_same, State.bank_setBank_ne s hother]
  exact ⟨Image.word_setWord_same .., fun j h => Image.word_setWord_ne _ h _, fun _ => rfl⟩

theorem State.loftPut_rest (s : State) (b i w : Nat) :
    (s.loftPut b i w).regs = s.regs ∧ (s.loftPut b i w).staged = s.staged ∧ (s.loftPut b i w).gran = s.gran ∧
      (s.loftPut b i w).shadow = s.shadow := by
  unfold State.loftPut State.setBank
  split_ifs <;> exact ⟨rfl, rfl, rfl, rfl⟩

/-- A word is stored in shadow SRAM as its four bytes, lowest first. -/
theorem State.sramWrite_sram (s : State) (a w : Nat) :
    (s.sramWrite a w).shadow.sram =
      ((((s.shadow.sram.write (a + 0) (BitVec.ofNat 8 w) 0).write (a + 1) (BitVec.ofNat 8 (w / 2 ^ 8)) 0).write (a + 2)
        (BitVec.ofNat 8 (w / 2 ^ 16)) 0).write (a + 3) (BitVec.ofNat 8 (w / 2 ^ 24)) 0) := rfl

theorem State.sramWrite_read_same (s : State) (a w : Nat) {i : Nat} (h : i < 4) :
    (s.sramWrite a w).shadow.sram.read (a + i) 0 = BitVec.ofNat 8 (w / 256 ^ i) := by
  have hne : ∀ {i j : Nat}, i ≠ j → a + i ≠ a + j := fun h he => h (Nat.add_left_cancel he)
  rw [State.sramWrite_sram]
  obtain rfl | rfl | rfl | rfl : i = 0 ∨ i = 1 ∨ i = 2 ∨ i = 3 := by omega
  · rw [Memory.read_write_ne _ (hne (by decide)), Memory.read_write_ne _ (hne (by decide)), Memory.read_write_ne _ (hne (by decide)),
      Memory.read_write_same, Nat.pow_zero, Nat.div_one]
  · rw [Memory.read_write_ne _ (hne (by decide)), Memory.read_write_ne _ (hne (by decide)), Memory.read_write_same]
    norm_num
  · rw [Memory.read_write_ne _ (hne (by decide)), Memory.read_write_same]
    norm_num
  · rw [Memory.read_write_same]
    norm_num

theorem State.sramWrite_read_other (s : State) {a b : Nat} (w : Nat) (h : b < a ∨ a + 4 ≤ b) :
    (s.sramWrite a w).shadow.sram.read b 0 = s.shadow.sram.read b 0 := by
  rw [State.sramWrite_sram, Memory.read_write_ne _ (by omega), Memory.read_write_ne _ (by omega), Memory.read_write_ne _ (by omega),
    Memory.read_write_ne _ (by omega)]

/-! ### The newest entry of the log -/

theorem State.coreOn_of_serves {s : State} (h : s.serves = true) : s.coreOn = true := by
  have hreach := State.reachable_of_serves h
  simp only [State.reachable, Bool.and_eq_true] at hreach
  exact hreach.1.1.2

/-- An event is the newest entry while PD_CORE is on (R542, R544). -/
theorem State.lastEvent_event {s : State} (hon : s.coreOn = true) {code data : Nat} (hc : code < 2 ^ 16) (hd : data < 2 ^ 16) :
    (s.event code data).lastEvent code data = true := by
  obtain ⟨hts, hcode, hdata⟩ := State.event_get_entry hon code data
  have htotal := State.event_get_total hon code data
  have hsec : (s.event code data).get YARD_SECONDS = s.get YARD_SECONDS := State.event_get s code data (by decide) (by decide)
  have hslot : ((s.event code data).get EVT_TOTAL + 2 ^ 32 - 1) % 256 = s.get EVT_TOTAL % 256 := by omega
  rw [Nat.mod_eq_of_lt hc] at hcode
  rw [Nat.mod_eq_of_lt hd] at hdata
  simp only [State.lastEvent, hslot, hts, hcode, hdata, hsec, beq_self_eq_true, Bool.and_self]

/-- The log is no place in which an interface's code is kept. -/
theorem State.lastEvent_noteCode (s : State) (m k code data : Nat) : (s.noteCode m k).lastEvent code data = s.lastEvent code data := by
  have hsame := s.noteCode_sameBut m k
  have hring : ∀ k ∈ noteKeys, ¬InRing k := by decide
  have hentry : ∀ r ∈ ringRows, ∀ i, (s.noteCode m k).get r 0 i = s.get r 0 i := fun r hr i =>
    hsame.get List.not_mem_nil (fun hk => hring _ hk (inRing_slot hr i))
  simp only [State.lastEvent, hsame.get (r := EVT_TOTAL) (n := 0) (i := 0) List.not_mem_nil (by decide),
    hsame.get (r := YARD_SECONDS) (n := 0) (i := 0) List.not_mem_nil (by decide), hentry EVT_CODE (by decide), hentry EVT_DATA (by decide),
    hentry EVT_TS (by decide)]

/-! ### A write of a data window -/

/-- A served write outside YARD and WDT is one write, whose code its master's interface learns. -/
theorem State.writeNow_of_writeWord {s t : State} {m addr data k : Nat} (hs : s.serves = true) (hm : s.sources m = true)
    (hposted : isPosted addr = false) (h : s.writeWord m addr data = (t, k)) : s.writeNow m addr data = t.noteCode m k := by
  unfold State.writeNow State.noteFrom
  rw [State.busWrite_of_serves hs hm, State.settlePosted_nil (.inl hposted), h]
  exact if_pos (State.reachable_of_serves hs)

theorem target_loft (b : Bool) {i : Nat} (h : i < 327680) : target (loftAddr b i) = .loft (bit b) i := by
  cases b
  · have hi : (0x60000000 + 4 * i - 0x60000000) / 4 = i := by omega
    unfold target loftAddr
    simp only [Bool.false_eq_true, if_false]
    rw [if_neg (by omega), if_neg (by omega), if_pos (by omega), hi]
    rfl
  · have hi : (0x60200000 + 4 * i - 0x60200000) / 4 = i := by omega
    unfold target loftAddr
    simp only [if_true]
    rw [if_neg (by omega), if_neg (by omega), if_neg (by omega), if_pos (by omega), hi]
    rfl

theorem loftAddr_bounds (b : Bool) (i : Nat) : loftAddr b i % 4 = 0 ∧ 0x60000000 ≤ loftAddr b i := by
  unfold loftAddr
  split_ifs <;> omega

theorem target_sram {a : Nat} (h : a < 0x1000) : target (0x50000000 + a) = .sram a := by
  have ha : 0x50000000 + a - 0x50000000 = a := by omega
  unfold target
  rw [if_neg (by omega), if_pos (by omega), ha]

/-- YARD and WDT lie below the data windows. -/
theorem isPosted_window {addr : Nat} (h : 0x50000000 ≤ addr) : isPosted addr = false := by
  have hyard : ¬(addr < 0x40002000) := by omega
  have hwdt : ¬(addr < 0x40004000) := by omega
  simp [isPosted, hyard, hwdt]

theorem State.writeWord_loft {s : State} (m : Nat) (b : Bool) {i : Nat} (hi : i < 327680) (data : Nat) :
    s.writeWord m (loftAddr b i) data =
      match s.loftWriteCheck m (bit b) with
      | some r => (s.refuseAt m true (loftAddr b i) r, r.code)
      | none => (s.loftPut (bit b) i data, cOK) := by
  simp only [State.writeWord, (loftAddr_bounds b i).1, target_loft b hi, ne_eq, not_true_eq_false, if_false] <;> rfl

theorem State.writeWord_sram {s : State} (m : Nat) {a : Nat} (ha : a < 0x1000) (h4 : a % 4 = 0) (data : Nat) :
    s.writeWord m (0x50000000 + a) data =
      match s.sramCheck m a with
      | some r => (s.refuseAt m true (0x50000000 + a) r, r.code)
      | none => (s.sramWrite a data, cOK) := by
  have halign : (0x50000000 + a) % 4 = 0 := by omega
  simp only [State.writeWord, halign, target_sram ha, ne_eq, not_true_eq_false, if_false] <;> rfl

/-- A refusal of a window reports at most R98's entry beyond its record. -/
theorem State.reports_refuseAt (s : State) (m : Nat) {addr p lr : Nat} (r : Refuse) (hrec : (target addr).record = (p, lr)) :
    (s.refuse m true p lr (addr % 0x1000) r.code).Reports 1 0 ((s.refuseAt m true addr r).noteCode m r.code) := by
  have hat : (s.refuse m true p lr (addr % 0x1000) r.code).Reports 1 0 (s.refuseAt m true addr r) := by
    simp only [State.refuseAt, hrec]
    split_ifs
    · exact (State.reports_event _ _ _ 0).trans (State.reports_put _ (by decide +kernel) (by decide) _ _)
    · exact (State.Reports.refl _ 0).mono (by decide) le_rfl
  exact hat.trans (State.reports_noteCode _ m r.code 0)

/-- A refused write of a window is recorded in ERR_CODE of the window's page and stores nothing. -/
theorem State.refuseAt_window (s : State) {m addr p lr : Nat} {r : Refuse} (hrec : (target addr).record = (p, lr)) (hm : m < 5)
    (hcode : r.code < 32) :
    ((s.refuseAt m true addr r).noteCode m r.code).get HDR_ERR_CODE p = r.code ∧
    ((s.refuseAt m true addr r).noteCode m r.code).get HDR_ERR_MASTER p = m ∧
    ((s.refuseAt m true addr r).noteCode m r.code).get HDR_ERR_WR p = 1 ∧
    ((s.refuseAt m true addr r).noteCode m r.code).loft = s.loft ∧
    ((s.refuseAt m true addr r).noteCode m r.code).shadow = s.shadow ∧
    s.SameMemory ((s.refuseAt m true addr r).noteCode m r.code) := by
  have hreports := s.reports_refuseAt m r hrec
  have hlogs := s.refuse_logsOnly m true p lr (addr % 0x1000) r.code
  obtain ⟨herr, hmaster, hwr, _⟩ := s.get_refuse_err m true p lr (addr % 0x1000) r.code
  exact ⟨(hreports.get_err (by decide) p).trans (herr.trans (Nat.mod_eq_of_lt (b := 2 ^ 8) (by omega))),
    (hreports.get_err (by decide) p).trans (hmaster.trans (Nat.mod_eq_of_lt (b := 2 ^ 3) (by omega))),
    (hreports.get_err (by decide) p).trans hwr, hreports.loft.trans hlogs.loft, hreports.shadow.trans hlogs.shadow,
    State.sameMemory_trans hlogs.sameMemory hreports.sameMemory⟩

/-! ### A Loft write that has waited too long -/

/-- A Loft write that would be carried out is refused with RESOURCE_BUSY and reported (R254). -/
theorem State.loftRefused_waited {s : State} {m : Nat} (hs : s.serves = true) (hm : s.sources m = true) (b : Bool)
    (hc : s.loftWriteCheck m (bit b) = none) {i : Nat} (hi : i < 327680) :
    s.loftRefused m (bit b) i =
      ((s.refuse m true 0x050 0xF6 (loftAddr b i % 0x1000) cBUSY).event 0x5016 m).noteCode m cBUSY := by
  have hbank : (bit b == 1) = b := by cases b <;> rfl
  have hrec : (target (loftAddr b i)).record = (0x050, 0xF6) := by rw [target_loft b hi]; rfl
  simp only [State.serves, Bool.and_eq_true, Bool.not_eq_true'] at hs
  obtain ⟨⟨hreach, hsafe⟩, hnvm⟩ := hs
  simp only [State.loftRefused, hreach, hsafe, hnvm, hm, hc, hbank, Bool.not_true, Option.isSome_none, Bool.or_self, Bool.false_eq_true,
    if_false]
  simp [State.refuseAt, hrec, cBUSY, cSTATE]

theorem State.loftRefused_idle {s : State} {m b : Nat} (i : Nat)
    (h : s.reachable = false ∨ s.sources m = false ∨ s.safe = true ∨ s.nvmBusy = true ∨ s.loftWriteCheck m b ≠ none) :
    s.loftRefused m b i = s := by
  refine if_pos ?_
  simpa [or_assoc, ← Option.ne_none_iff_isSome] using h

theorem exec_loftWordWrite (m : Master) (b : Bool) (i : Fin 327680) (data : Word) (s : State) :
    exec (.loftWordWrite m b i data) s = .next (s.writeNow m.num (loftAddr b i.val) data.toNat) := rfl

theorem exec_loftWriteRefused (m : Master) (b : Bool) (i : Fin 327680) (s : State) :
    exec (.loftWriteRefused m b i) s = .next (s.loftRefused m.num (bit b) i.val) := rfl

theorem exec_shadowSramWrite (m : Master) (word : Fin 1024) (data : Word) (s : State) :
    exec (.shadowSramWrite m word data) s = .next (s.writeNow m.num (0x50000000 + 4 * word.val) data.toNat) := rfl

/-- Settles O14: `writeWord_loft` and `writeWord_sram` say when a window takes a word, `loftPut_bank` and `sramWrite_read_same` what it then
holds, and `refuseAt_window` what a refusal leaves. -/
theorem windowWrites : Obligations.WindowWrites := by
  unfold Obligations.WindowWrites
  refine ⟨?loft, ?waited, ?sram, ?loftRefused, ?idle, ?sramRefused⟩
  case loft =>
    intro m b i data s hs hm hc
    have hword := (State.writeWord_loft (s := s) m.num b i.isLt data.toNat).trans (by rw [hc])
    have hposted := isPosted_window (Nat.le_trans (by decide) (loftAddr_bounds b i.val).2)
    refine ⟨_, by rw [exec_loftWordWrite, State.writeNow_of_writeWord hs hm hposted hword], ?_⟩
    have hnote := (s.loftPut (bit b) i.val data.toNat).reports_noteCode m.num cOK 0
    obtain ⟨hsame, hrest, hother⟩ := s.loftPut_bank b i.val data.toNat
    obtain ⟨hregs, hstaged, hgran, hshadow⟩ := s.loftPut_rest (bit b) i.val data.toNat
    have hbank : ∀ k, ((s.loftPut (bit b) i.val data.toNat).noteCode m.num cOK).bank k = (s.loftPut (bit b) i.val data.toNat).bank k :=
      fun k => by simp only [State.bank, hnote.loft]
    simp only [hbank]
    exact ⟨hsame, hrest, hother, hnote.gran.trans hgran, hnote.shadow.trans hshadow,
      (State.sameBut_of_stores hregs hstaged _ _).trans (State.noteCode_ok_sameBut _ _)⟩
  case waited =>
    intro m b i s hs hm hc
    refine ⟨_, by rw [exec_loftWriteRefused, State.loftRefused_waited hs hm b hc i.isLt], ?_⟩
    have hpages := s.refuse_sameBut m.num true 0x050 0xF6 (loftAddr b i.val % 0x1000) cBUSY noteKeys
    have hlogs := s.refuse_logsOnly m.num true 0x050 0xF6 (loftAddr b i.val % 0x1000) cBUSY
    obtain ⟨herr, hmaster, hwr, _⟩ := s.get_refuse_err m.num true 0x050 0xF6 (loftAddr b i.val % 0x1000) cBUSY
    generalize s.refuse m.num true 0x050 0xF6 (loftAddr b i.val % 0x1000) cBUSY = u at hpages hlogs herr hmaster hwr
    have hm5 := Master.num_lt m
    have hon : u.coreOn = true := by
      unfold State.coreOn State.pd
      rw [hpages.get (r := YARD_PD_STATE) (by decide) (by decide)]
      exact State.coreOn_of_serves hs
    have hreports := (u.reports_event 0x5016 m.num 0).trans (State.reports_noteCode _ m.num cBUSY 0)
    refine ⟨(hreports.get_err (by decide) _).trans herr,
      (hreports.get_err (by decide) _).trans (hmaster.trans (Nat.mod_eq_of_lt (b := 2 ^ 3) (by omega))),
      (hreports.get_err (by decide) _).trans hwr, ?_, State.sameMemory_trans hlogs.sameMemory hreports.sameMemory, ?_⟩
    · rw [State.lastEvent_noteCode]
      exact State.lastEvent_event hon (by decide) (by omega)
    · exact (hpages.trans (u.event_sameBut _ _ (by decide) (by decide) _)).trans
        ((State.noteCode_sameBut _ _ _).mono (fun _ h => absurd h List.not_mem_nil) (fun _ h => h))
  case sram =>
    intro m word data s hs hm hc
    have hword := (State.writeWord_sram (s := s) m.num (a := 4 * word.val) (by omega) (by omega) data.toNat).trans (by rw [hc])
    refine ⟨_, by rw [exec_shadowSramWrite, State.writeNow_of_writeWord hs hm (isPosted_window (by omega)) hword], ?_⟩
    have hnote := (s.sramWrite (4 * word.val) data.toNat).reports_noteCode m.num cOK 0
    rw [hnote.shadow]
    exact ⟨fun i hi => s.sramWrite_read_same _ _ hi, fun a ha => s.sramWrite_read_other _ ha, hnote.gran, hnote.loft,
      (State.sameBut_of_stores rfl rfl _ _).trans (State.noteCode_ok_sameBut _ _)⟩
  case loftRefused =>
    intro m b i data r s hs hm hc hcode
    have hword := (State.writeWord_loft (s := s) m.num b i.isLt data.toNat).trans (by rw [hc])
    have hposted := isPosted_window (Nat.le_trans (by decide) (loftAddr_bounds b i.val).2)
    have hrec : (target (loftAddr b i.val)).record = (0x050, 0xF6) := by rw [target_loft b i.isLt]; rfl
    obtain ⟨herr, hmaster, hwr, hloft, _, hmem⟩ := s.refuseAt_window hrec (Master.num_lt m) hcode
    exact ⟨_, by rw [exec_loftWordWrite, State.writeNow_of_writeWord hs hm hposted hword], herr, hmaster, hwr, hloft, hmem⟩
  case idle =>
    intro m b i s h
    rw [exec_loftWriteRefused, State.loftRefused_idle _ h]
  case sramRefused =>
    intro m word data r s hs hm hc hcode
    have hword := (State.writeWord_sram (s := s) m.num (a := 4 * word.val) (by omega) (by omega) data.toNat).trans (by rw [hc])
    have hrec : (target (0x50000000 + 4 * word.val)).record = (0x081, 0xF0) := by rw [target_sram (by omega)]; rfl
    obtain ⟨herr, hmaster, hwr, _, hshadow, hmem⟩ := s.refuseAt_window hrec (Master.num_lt m) hcode
    exact ⟨_, by rw [exec_shadowSramWrite, State.writeNow_of_writeWord hs hm (isPosted_window (by omega)) hword], herr, hmaster, hwr,
      hshadow, hmem⟩

end Sys2Proof.Machine
end

section
/-! Concrete states that refute O11 and O15: what a command changes beyond what its clause lets it change. -/

namespace Sys2Proof.Machine

/-! ### O11: a GO at the boundary of FPA -/

/-- A HEAD in SERVICE with the array on and between frames: a new MAP of FPA is staged, no GO is pending, and column 0 carries a noise
estimate of 1. -/
def formatStaged : State := formatCommitDue.put HDR_GO 0 0x010

/-- Refutes O11: on `formatStaged` the GO of FPA (page 0x010) takes effect at once and clears the column noise CN[0], as R246 asks, which is
a field of MILL (page 0x050) and so no field that the sixth clause lets the command change. -/
theorem not_headerCommands : ¬ Obligations.HeaderCommands := by
  unfold Obligations.HeaderCommands
  intro ⟨_, _, _, _, _, hgo⟩
  obtain ⟨t, hexec, _, _, _, _, hsame, _⟩ :=
    hgo .m1 0x010 formatStaged (by decide +kernel) (by decide) (.inl (by decide)) (by decide) (by decide) (by decide) (by decide)
  have ht : formatStaged.command 1 0x010 0x02C 1 = t :=
    Host.Outcome.next.inj ((exec_of_commandWrite (i := .commitGo .m1 0x010) rfl _).symm.trans hexec)
  have hcleared : (formatStaged.command 1 0x010 0x02C 1).regs.find (MILL_CN.key 0 0) 0 ≠
      formatStaged.regs.find (MILL_CN.key 0 0) 0 := by decide +kernel
  exact hcleared (ht ▸ (hsame (by decide) (MILL_CN.key 0 0) 0 (by decide) (by decide)).1)

/-! ### O15: a reset between two page programs of a Granary job -/

/-- M1's PROGRAM job stands between two operations (R495): the second page, one byte of 0 at 0x560100 of the USER region, has been chosen and
not begun. Accesses are served, and every domain but PD_CORE is off. -/
def resetBetweenPrograms : State :=
  { State.reset.put YARD_PD_STATE 2 with
    boot := { State.reset.boot with inReset := false, served := true }
    gran := { State.reset.gran with cur := some ⟨1, 4, true, 1, true, [.program 0x560100 [0]], 0, 0⟩, gap := true } }

/-- Refutes O15: on `resetBetweenPrograms` the domains have drained already, so that the reset follows the key at once; it completes the page
program that stands first (R155), and so changes the byte at 0x560100, which the third clause does not let the command change. -/
theorem not_sessionsAndPrivilege : ¬ Obligations.SessionsAndPrivilege := by
  unfold Obligations.SessionsAndPrivilege
  intro ⟨_, _, hreset⟩
  obtain ⟨t, hexec, _, _, _, _, _, hgran, _⟩ := hreset .m1 0x5A resetBetweenPrograms (by decide +kernel)
  have ht : resetBetweenPrograms.command 1 0x000 0x068 0x5A = t :=
    Host.Outcome.next.inj ((exec_of_commandWrite (i := .resetCmd .m1 0x5A) rfl _).symm.trans hexec)
  have hprogrammed : (resetBetweenPrograms.command 1 0x000 0x068 0x5A).gran.byte 0x560100 ≠
      resetBetweenPrograms.gran.byte 0x560100 := by decide +kernel
  exact hprogrammed (ht ▸ hgran 0x560100)

end Sys2Proof.Machine
end

section
namespace Sys2Proof.Machine

open Sys2Proof

/-! ## No command takes from the queue of waiting commands (O5)

One lemma per function of the model, in the order of the model's files: what waits after it is what waited before. A proof `(rfl)` stands in
parentheses so that `simp` rewrites with the lemma and never unfolds the function, which would leave the kernel to compare whole states. -/

/-! ### The waiting commands under choices, folds and the state's operations -/

/-- The commands that wait. The kernel unfolds a projection and then compares whole states; of two uses of a function it compares the
arguments. -/
def State.waiting (s : State) : List Instr := s.pending

@[simp] theorem State.waiting_mk (s : State) (regs staged : Store) (parity owed : List (Nat × Nat)) (log : LogS) (wdt : WdtS)
    (yard : YardS) (boot : BootS) (gran : GranS) (shadow : ShadowS) (host : HostS) (loft : LoftS) (semHold : List Nat)
    (temp : TempS) (sol : List SolS) (solc : SolCom) (fpa : FpaS) (cal : CalS) (mill : MillS) (nuc : NucS) (sen : SenS)
    (link : List LinkS) (linkc : LinkCom) (vid : List VidS) (vout : OutS) (slu : List Bool) (hsFault : Bool) (freeCtr : Nat) :
    State.waiting ⟨s.pending, regs, staged, parity, owed, log, wdt, yard, boot, gran, shadow, host, loft, semHold, temp, sol, solc,
      fpa, cal, mill, nuc, sen, link, linkc, vid, vout, slu, hsFault, freeCtr⟩ = s.waiting := (rfl)

@[simp] theorem State.put_waiting (s : State) (r : Row) (v n i : Nat) : (s.put r v n i).waiting = s.waiting := (rfl)

@[simp] theorem State.stage_waiting (s : State) (r : Row) (v n i : Nat) : (s.stage r v n i).waiting = s.waiting := (rfl)

@[simp] theorem State.setPort_waiting (s : State) (n : Nat) (p : LinkS) : (s.setPort n p).waiting = s.waiting := (rfl)

@[simp] theorem State.setStream_waiting (s : State) (n : Nat) (w : VidS) : (s.setStream n w).waiting = s.waiting := (rfl)

@[simp] theorem State.setChan_waiting (s : State) (n : Nat) (x : SolS) : (s.setChan n x).waiting = s.waiting := (rfl)

@[simp] theorem State.setQueue_waiting (s : State) (q : Nat) (x : Queue) : (s.setQueue q x).waiting = s.waiting := (rfl)

@[simp] theorem State.onGran_waiting (s : State) (f : GranS → GranS) : (s.onGran f).waiting = s.waiting := (rfl)

@[simp] theorem State.onHost_waiting (s : State) (f : HostS → HostS) : (s.onHost f).waiting = s.waiting := (rfl)

theorem State.LogsOnly.waiting {s t : State} (h : s.LogsOnly t) : t.waiting = s.waiting := h.pending

@[simp] theorem ite_waiting (c : Prop) [Decidable c] (s t : State) :
    (if c then s else t).waiting = if c then s.waiting else t.waiting := apply_ite State.waiting c s t

@[simp] theorem foldl_waiting {α : Type} (l : List α) (f : State → α → State) (hf : ∀ s a, (f s a).waiting = s.waiting)
    (s : State) : (l.foldl f s).waiting = s.waiting := by
  induction l generalizing s with
  | nil => rfl
  | cons a l ih => exact (ih _).trans (hf s a)

theorem foldl_fst_waiting {α β : Type} (l : List α) (f : State × β → α → State × β) (hf : ∀ a d, (f a d).1.waiting = a.1.waiting)
    (a : State × β) : (l.foldl f a).1.waiting = a.1.waiting := by
  induction l generalizing a with
  | nil => rfl
  | cons d l ih => exact (ih _).trans (hf a d)

/-! ### What Machine/Ops.lean leaves -/

@[simp] theorem State.addSat_waiting (s : State) (r : Row) (k n i : Nat) : (s.addSat r k n i).waiting = s.waiting := (rfl)

@[simp] theorem State.inc_waiting (s : State) (r : Row) (n i : Nat) : (s.inc r n i).waiting = s.waiting := (rfl)

@[simp] theorem State.incWrap_waiting (s : State) (r : Row) (n i : Nat) : (s.incWrap r n i).waiting = s.waiting := (rfl)

@[simp] theorem State.flag_waiting (s : State) (r : Row) (b : Bool) (n i : Nat) : (s.flag r b n i).waiting = s.waiting := (rfl)

@[simp] theorem State.fresh_waiting (s : State) : s.fresh.2.waiting = s.waiting := (rfl)

@[simp] theorem State.raise_waiting (s : State) (p bits : Nat) : (s.raise p bits).waiting = s.waiting := (rfl)

@[simp] theorem State.setDefaulted_waiting (s : State) (p : Nat) : (s.setDefaulted p).waiting = s.waiting := (rfl)

@[simp] theorem State.setPd_waiting (s : State) (d v : Nat) : (s.setPd d v).waiting = s.waiting := (rfl)

@[simp] theorem State.logSlot_waiting (s : State) (e : Event) : (s.logSlot e).waiting = s.waiting := (s.logSlot_logsOnly e).waiting

@[simp] theorem State.event_waiting (s : State) (code data : Nat) :
    (s.event code data).waiting = s.waiting := (s.event_logsOnly code data).waiting

@[simp] theorem State.drainYardBuf_waiting (s : State) : s.drainYardBuf.waiting = s.waiting := by simp [State.drainYardBuf]

@[simp] theorem State.reportYardLost_waiting (s : State) : s.reportYardLost.waiting = s.waiting := by simp [State.reportYardLost]

@[simp] theorem State.mirrorLate_waiting (s : State) : s.mirrorLate.waiting = s.waiting := by simp [State.mirrorLate]

@[simp] theorem State.noteErr_waiting (s : State) (m : Nat) (wr : Bool) (p off code : Nat) :
    (s.noteErr m wr p off code).waiting = s.waiting := by
  simp [State.noteErr]

@[simp] theorem State.refuse_waiting (s : State) (m : Nat) (wr : Bool) (p lr off code : Nat) :
    (s.refuse m wr p lr off code).waiting = s.waiting := by
  simp [State.refuse]

@[simp] theorem State.refusePage_waiting (s : State) (m : Nat) (wr : Bool) (p off code : Nat) :
    (s.refusePage m wr p off code).waiting = s.waiting := by
  simp [State.refusePage]

@[simp] theorem State.stateRejected_waiting (s : State) (mask : Nat) (blocking : Bool) (blk : Nat) :
    (s.stateRejected mask blocking blk).waiting = s.waiting := by
  simp [State.stateRejected]

@[simp] theorem State.refuseWith_waiting (s : State) (m : Nat) (wr : Bool) (p off : Nat) (r : Refuse) :
    (s.refuseWith m wr p off r).waiting = s.waiting := by
  simp [State.refuseWith]

@[simp] theorem State.advanceEpoch_waiting (s : State) (m : Nat) : (s.advanceEpoch m).waiting = s.waiting := by simp [State.advanceEpoch]

@[simp] theorem State.sluiceOver_waiting (s : State) (x k : Nat) : (s.sluiceOver x k).waiting = s.waiting := by simp [State.sluiceOver]

@[simp] theorem State.sluiceEmpty_waiting (s : State) (x : Nat) : (s.sluiceEmpty x).waiting = s.waiting := (rfl)

@[simp] theorem State.sluicePeak_waiting (s : State) (x k : Nat) : (s.sluicePeak x k).waiting = s.waiting := (rfl)

@[simp] theorem State.sluiceFlush_waiting (s : State) (x k : Nat) : (s.sluiceFlush x k).waiting = s.waiting := by simp [State.sluiceFlush]

/-! ### What Machine/Yard.lean leaves -/

@[simp] theorem State.file_waiting (s : State) (st band us : Nat) : (s.file st band us).waiting = s.waiting := (rfl)

@[simp] theorem State.reseed_waiting (s : State) : s.reseed.waiting = s.waiting := by simp [State.reseed]

@[simp] theorem State.rechoose_waiting (s : State) : s.rechoose.waiting = s.waiting := by
  unfold State.rechoose
  dsimp only
  split <;> simp

@[simp] theorem State.loseClass_waiting (s : State) (cls : Cls) : (s.loseClass cls).waiting = s.waiting := (rfl)

@[simp] theorem State.reachL3_waiting (s : State) : s.reachL3.waiting = s.waiting := (rfl)

@[simp] theorem State.grantClock_waiting (s : State) (k : Nat) : (s.grantClock k).waiting = s.waiting := by simp [State.grantClock]

@[simp] theorem State.clockSync_waiting (s : State) : s.clockSync.waiting = s.waiting := (rfl)

@[simp] theorem State.entryEnd_waiting (s : State) : s.entryEnd.waiting = s.waiting := by simp [State.entryEnd]

@[simp] theorem State.beginExit_waiting (s : State) (classes : Nat) (slot : Option Nat) :
    (s.beginExit classes slot).waiting = s.waiting := by
  simp [State.beginExit]

@[simp] theorem State.wakeExit_waiting (s : State) (cls : Nat) (slot : Option Nat) : (s.wakeExit cls slot).waiting = s.waiting := by
  unfold State.wakeExit
  split <;> simp

@[simp] theorem State.internalReturn_waiting (s : State) : s.internalReturn.waiting = s.waiting := by simp [State.internalReturn]

@[simp] theorem State.measure_waiting (s : State) (e : Exit) (us : Nat) : (s.measure e us).waiting = s.waiting := by
  unfold State.measure
  dsimp only
  repeat' split
  all_goals simp

@[simp] theorem State.exitDone_waiting (s : State) (us : Nat) : (s.exitDone us).waiting = s.waiting := by
  unfold State.exitDone
  repeat' split
  all_goals simp

@[simp] theorem State.armSlot_waiting (s : State) (k sec tick : Nat) : (s.armSlot k sec tick).waiting = s.waiting := (rfl)

@[simp] theorem State.disarmSlot_waiting (s : State) (k : Nat) : (s.disarmSlot k).waiting = s.waiting := (rfl)

@[simp] theorem State.armScan_waiting (s : State) : s.armScan.waiting = s.waiting := (rfl)

@[simp] theorem State.slotRefused_waiting (s : State) (m k : Nat) : (s.slotRefused m k).waiting = s.waiting := by simp [State.slotRefused]

/-! ### What Machine/Locks.lean leaves -/

@[simp] theorem State.dropStaged_waiting (s : State) (p : Nat) : (s.dropStaged p).waiting = s.waiting := (rfl)

@[simp] theorem State.endFill_waiting (s : State) (result : Nat) : (s.endFill result).waiting = s.waiting := (rfl)

@[simp] theorem State.recover_waiting (s : State) (n owner : Nat) : (s.recover n owner).waiting = s.waiting := by simp [State.recover]

@[simp] theorem State.orphan_waiting (s : State) (n cause : Nat) : (s.orphan n cause).waiting = s.waiting := by simp [State.orphan]

@[simp] theorem State.orphanAll_waiting (s : State) (m cause : Nat) : (s.orphanAll m cause).waiting = s.waiting := by simp [State.orphanAll]

@[simp] theorem State.freeSem_waiting (s : State) (n : Nat) : (s.freeSem n).waiting = s.waiting := (rfl)

@[simp] theorem State.takeSem_waiting (s : State) (m n : Nat) : (s.takeSem m n).waiting = s.waiting := (rfl)

@[simp] theorem State.semDo_waiting (s : State) (m n cmd : Nat) : (s.semDo m n cmd).waiting = s.waiting := by simp [State.semDo]

@[simp] theorem State.recoveryEnd_waiting (s : State) (n : Nat) : (s.recoveryEnd n).waiting = s.waiting := by simp [State.recoveryEnd]

@[simp] theorem State.holdExpire_waiting (s : State) (n : Nat) : (s.holdExpire n).waiting = s.waiting := by simp [State.holdExpire]

@[simp] theorem State.lateHolds_waiting (s : State) : s.lateHolds.waiting = s.waiting := by simp [State.lateHolds]

@[simp] theorem State.newSession_waiting (s : State) (m : Nat) : (s.newSession m).waiting = s.waiting := by simp [State.newSession]

@[simp] theorem State.revertOwner_waiting (s : State) (m p : Nat) : (s.revertOwner m p).waiting = s.waiting := by simp [State.revertOwner]

@[simp] theorem State.extestEnd_waiting (s : State) : s.extestEnd.waiting = s.waiting := by simp [State.extestEnd]

@[simp] theorem State.setPriv_waiting (s : State) (bits : Nat) : (s.setPriv bits).waiting = s.waiting := by simp [State.setPriv]

@[simp] theorem State.startPeriod_waiting (s : State) : s.startPeriod.waiting = s.waiting := (rfl)

@[simp] theorem State.wdtSync_waiting (s : State) : s.wdtSync.waiting = s.waiting := by simp [State.wdtSync]

@[simp] theorem State.wdtServed_waiting (s : State) : s.wdtServed.waiting = s.waiting := (rfl)

@[simp] theorem State.missedPeriod_waiting (s : State) (reason : Nat) : (s.missedPeriod reason).waiting = s.waiting := by
  simp [State.missedPeriod]

/-! ### What Machine/Commit.lean leaves -/

@[simp] theorem State.takeStaged_waiting (s : State) (p : Nat) (e : Nat × Nat) : (s.takeStaged p e).waiting = s.waiting := (rfl)

@[simp] theorem State.takeWhere_waiting (s : State) (p : Nat) (f : Nat → Bool) : (s.takeWhere p f).waiting = s.waiting := by
  simp [State.takeWhere]

@[simp] theorem State.commitPage_waiting (s : State) (p : Nat) : (s.commitPage p).waiting = s.waiting := by simp [State.commitPage]

/-! ### What Machine/Temp.lean leaves -/

@[simp] theorem State.setBand_waiting (s : State) (b : Nat) : (s.setBand b).waiting = s.waiting := by simp [State.setBand]

@[simp] theorem State.bandLeave_waiting (s : State) : s.bandLeave.waiting = s.waiting := by simp [State.bandLeave]

@[simp] theorem State.setTsBad_waiting (s : State) (k : Nat) (b : Bool) : (s.setTsBad k b).waiting = s.waiting := (rfl)

@[simp] theorem State.plausible_waiting (s : State) : s.plausible.waiting = s.waiting := by
  unfold State.plausible
  split <;> simp

@[simp] theorem State.tjDrives_waiting (s : State) : s.tjDrives.waiting = s.waiting := by simp [State.tjDrives]

@[simp] theorem State.reading_waiting (s : State) (k : Nat) (reading : Int) (points : List Int) :
    (s.reading k reading points).waiting = s.waiting := by
  unfold State.reading
  split
  · simp
  · split <;> simp

@[simp] theorem State.conversion_waiting (s : State) (k : Nat) (reading : Int) (points : List Int) :
    (s.conversion k reading points).waiting = s.waiting := by
  simp [State.conversion]

@[simp] theorem State.sensorTimeout_waiting (s : State) (k : Nat) : (s.sensorTimeout k).waiting = s.waiting := by simp [State.sensorTimeout]

@[simp] theorem State.ntc_waiting (s : State) (code : Nat) : (s.ntc code).waiting = s.waiting := by
  unfold State.ntc
  dsimp only
  repeat' split
  all_goals simp

/-! ### What Machine/Sol.lean leaves -/

@[simp] theorem State.solFlag_waiting (s : State) (n b : Nat) : (s.solFlag n b).waiting = s.waiting := (rfl)

@[simp] theorem State.boostSync_waiting (s : State) (need : Bool) : (s.boostSync need).waiting = s.waiting := (rfl)

@[simp] theorem State.releaseRail_waiting (s : State) (n : Nat) : (s.releaseRail n).waiting = s.waiting := by simp [State.releaseRail]

@[simp] theorem State.toOff_waiting (s : State) (n : Nat) (rest : Bool) : (s.toOff n rest).waiting = s.waiting := by simp [State.toOff]

@[simp] theorem State.origin_waiting (s : State) (n sw : Nat) : (s.origin n sw).waiting = s.waiting := (rfl)

@[simp] theorem State.enterBat_waiting (s : State) (n ph : Nat) (cur : Bool) : (s.enterBat n ph cur).waiting = s.waiting := by
  simp [State.enterBat]

@[simp] theorem State.advance_waiting (s : State) (n ph : Nat) (cur : Bool) : (s.advance n ph cur).waiting = s.waiting := by
  simp [State.advance]

@[simp] theorem State.boostOn_waiting (s : State) (n : Nat) : (s.boostOn n).waiting = s.waiting := by simp [State.boostOn]

@[simp] theorem State.notReady_waiting (s : State) (n : Nat) : (s.notReady n).waiting = s.waiting := by simp [State.notReady]

@[simp] theorem State.withRail_waiting (s : State) (n : Nat) : (s.withRail n).waiting = s.waiting := by simp [State.withRail]

@[simp] theorem State.railRefuse_waiting (s : State) (n : Nat) : (s.railRefuse n).waiting = s.waiting := by simp [State.railRefuse]

@[simp] theorem State.needRail_waiting (s : State) (n : Nat) : (s.needRail n).waiting = s.waiting := by simp [State.needRail]

@[simp] theorem State.startProfile_waiting (s : State) (n : Nat) : (s.startProfile n).waiting = s.waiting := by simp [State.startProfile]

@[simp] theorem State.restartProfile_waiting (s : State) (n : Nat) : (s.restartProfile n).waiting = s.waiting := by
  simp [State.restartProfile]

@[simp] theorem State.runPending_waiting (s : State) (n : Nat) : (s.runPending n).waiting = s.waiting := by simp [State.runPending]

@[simp] theorem State.fire_waiting (s : State) (m n : Nat) : (s.fire m n).waiting = s.waiting := by simp [State.fire]

@[simp] theorem State.stopChan_waiting (s : State) (n : Nat) : (s.stopChan n).waiting = s.waiting := by simp [State.stopChan]

@[simp] theorem State.solDo_waiting (s : State) (m n : Nat) (fire stop : Bool) : (s.solDo m n fire stop).waiting = s.waiting := by
  simp [State.solDo]

@[simp] theorem State.tpkFlag_waiting (s : State) (n : Nat) : (s.tpkFlag n).waiting = s.waiting := by simp [State.tpkFlag]

@[simp] theorem State.peak_waiting (s : State) (n t : Nat) : (s.peak n t).waiting = s.waiting := by simp [State.peak]

@[simp] theorem State.tpkLate_waiting (s : State) (n : Nat) : (s.tpkLate n).waiting = s.waiting := by simp [State.tpkLate]

@[simp] theorem State.phaseTimer_waiting (s : State) (n : Nat) : (s.phaseTimer n).waiting = s.waiting := by simp [State.phaseTimer]

@[simp] theorem State.chop_waiting (s : State) (n mA : Nat) : (s.chop n mA).waiting = s.waiting := by simp [State.chop]

@[simp] theorem State.deadEnd_waiting (s : State) (n : Nat) : (s.deadEnd n).waiting = s.waiting := by simp [State.deadEnd]

@[simp] theorem State.minOffEnd_waiting (s : State) (n : Nat) : (s.minOffEnd n).waiting = s.waiting := by simp [State.minOffEnd]

@[simp] theorem State.motion_waiting (s : State) (n t : Nat) : (s.motion n t).waiting = s.waiting := by simp [State.motion]

@[simp] theorem State.motMiss_waiting (s : State) (n : Nat) : (s.motMiss n).waiting = s.waiting := by simp [State.motMiss]

@[simp] theorem State.railGrant_waiting (s : State) (n : Nat) : (s.railGrant n).waiting = s.waiting := by simp [State.railGrant]

@[simp] theorem State.railDefer_waiting (s : State) (n : Nat) : (s.railDefer n).waiting = s.waiting := by simp [State.railDefer]

@[simp] theorem State.readyJudge_waiting (s : State) (v : Nat) : (s.readyJudge v).waiting = s.waiting := by simp [State.readyJudge]

@[simp] theorem State.ovJudge_waiting (s : State) (v : Nat) : (s.ovJudge v).waiting = s.waiting := by simp [State.ovJudge]

@[simp] theorem State.vbst_waiting (s : State) (v : Nat) : (s.vbst v).waiting = s.waiting := by simp [State.vbst]

@[simp] theorem State.boostIdle_waiting (s : State) : s.boostIdle.waiting = s.waiting := by simp [State.boostIdle]

@[simp] theorem State.startFail_waiting (s : State) (v : Nat) : (s.startFail v).waiting = s.waiting := by simp [State.startFail]

@[simp] theorem State.boostFaultClr_waiting (s : State) : s.boostFaultClr.waiting = s.waiting := (rfl)

@[simp] theorem State.judgeHot_waiting (s : State) (n : Nat) : (s.judgeHot n).waiting = s.waiting := by simp [State.judgeHot]

@[simp] theorem State.coilStep_waiting (s : State) (n i2 : Nat) : (s.coilStep n i2).waiting = s.waiting := by simp [State.coilStep]

@[simp] theorem State.coilResume_waiting (s : State) : s.coilResume.waiting = s.waiting := by
  unfold State.coilResume
  split <;> simp

@[simp] theorem State.coilStop_waiting (s : State) : s.coilStop.waiting = s.waiting := (rfl)

@[simp] theorem State.actuatorsOff_waiting (s : State) : s.actuatorsOff.waiting = s.waiting := by simp [State.actuatorsOff]

@[simp] theorem State.tripAct_waiting (s : State) : s.tripAct.waiting = s.waiting := by simp [State.tripAct]

@[simp] theorem State.trip_waiting (s : State) : s.trip.waiting = s.waiting := by simp [State.trip]

@[simp] theorem State.tripRelease_waiting (s : State) : s.tripRelease.waiting = s.waiting := by simp [State.tripRelease]

@[simp] theorem State.solTripClr_waiting (s : State) (n : Nat) : (s.solTripClr n).waiting = s.waiting := by simp [State.solTripClr]

@[simp] theorem State.boostTripClr_waiting (s : State) : s.boostTripClr.waiting = s.waiting := by simp [State.boostTripClr]

@[simp] theorem State.currentCheck_waiting (s : State) (n : Nat) : (s.currentCheck n).waiting = s.waiting := by simp [State.currentCheck]

@[simp] theorem State.latch_waiting (s : State) (n v : Nat) : (s.latch n v).waiting = s.waiting := by simp [State.latch]

@[simp] theorem State.solOpen_waiting (s : State) (fresh : Bool) : (s.solOpen fresh).waiting = s.waiting := by simp [State.solOpen]

/-! ### What Machine/Fpa.lean leaves -/

@[simp] theorem State.rampFrom_waiting (s : State) : s.rampFrom.waiting = s.waiting := by simp [State.rampFrom]

@[simp] theorem State.rampTop_waiting (s : State) : s.rampTop.waiting = s.waiting := (rfl)

@[simp] theorem State.rampUp_waiting (s : State) : s.rampUp.waiting = s.waiting := by simp [State.rampUp]

@[simp] theorem State.throttleRest_waiting (s : State) : s.throttleRest.waiting = s.waiting := (rfl)

@[simp] theorem State.rampDown_waiting (s : State) : s.rampDown.waiting = s.waiting := by simp [State.rampDown]

@[simp] theorem State.biasSync_waiting (s : State) : s.biasSync.waiting = s.waiting := by simp [State.biasSync]

@[simp] theorem State.rampEnd_waiting (s : State) : s.rampEnd.waiting = s.waiting := by simp [State.rampEnd]

@[simp] theorem State.overload_waiting (s : State) (outputs : Nat) : (s.overload outputs).waiting = s.waiting := by
  unfold State.overload
  dsimp only
  repeat' split
  all_goals simp

@[simp] theorem State.diode_waiting (s : State) (dvbe : Nat) : (s.diode dvbe).waiting = s.waiting := by simp [State.diode]

@[simp] theorem State.bandSwitch_waiting (s : State) : s.bandSwitch.1.waiting = s.waiting := by
  unfold State.bandSwitch
  dsimp only
  split <;> simp

@[simp] theorem State.bandRest_waiting (s : State) : s.bandRest.waiting = s.waiting := by simp [State.bandRest]

@[simp] theorem State.throttleAt_waiting (s : State) : s.throttleAt.waiting = s.waiting := by simp [State.throttleAt]

/-! ### What Machine/Granary.lean leaves -/

@[simp] theorem State.hostJobEnd_waiting (s : State) (op code : Nat) : (s.hostJobEnd op code).waiting = s.waiting := (rfl)

@[simp] theorem State.reportTorn_waiting (s : State) (places : List Nat) : (s.reportTorn places).waiting = s.waiting := by
  simp [State.reportTorn]

@[simp] theorem State.trimRefused_waiting (s : State) (i : Nat) : (s.trimRefused i).waiting = s.waiting := by simp [State.trimRefused]

@[simp] theorem State.regionFull_waiting (s : State) (j : Job) : (s.regionFull j).waiting = s.waiting := by simp [State.regionFull]

@[simp] theorem State.engineLook_waiting (s : State) (f : Nat) : (s.engineLook f).waiting = s.waiting := by
  induction f generalizing s with
  | zero => rfl
  | succ f ih =>
    unfold State.engineLook
    split
    · rfl
    split
    · rfl
    dsimp only
    split
    · split
      · simp
      · split <;> simp [ih]
    · simp

@[simp] theorem State.engineStart_waiting (s : State) : s.engineStart.waiting = s.waiting := by simp [State.engineStart]

@[simp] theorem State.engineNext_waiting (s : State) : s.engineNext.waiting = s.waiting := by simp [State.engineNext]

@[simp] theorem State.addJob_waiting (s : State) (j : Job) : (s.addJob j).waiting = s.waiting := by simp [State.addJob]

@[simp] theorem State.clearResult_waiting (s : State) : s.clearResult.waiting = s.waiting := (rfl)

@[simp] theorem State.mixBytes_waiting (s : State) (a : Nat) (l : List Byte) : (s.mixBytes a l).waiting = s.waiting := by
  induction l generalizing s a with
  | nil => rfl
  | cons b l ih => exact (ih _ _).trans (State.onGran_waiting ..)

@[simp] theorem State.programMix_waiting (s : State) (a : Nat) (bs : List Byte) : (s.programMix a bs).waiting = s.waiting := by
  simp [State.programMix]

@[simp] theorem State.eraseMix_waiting (s : State) (sec : Nat) : (s.eraseMix sec).waiting = s.waiting := by
  unfold State.eraseMix
  dsimp only
  split <;> simp

@[simp] theorem State.eraseCut_waiting (s : State) (j : Job) (sec : Nat) : (s.eraseCut j sec).waiting = s.waiting := by
  simp [State.eraseCut]

@[simp] theorem State.spareCheck_waiting (s : State) : s.spareCheck.waiting = s.waiting := by simp [State.spareCheck]

@[simp] theorem State.queueRelocation_waiting (s : State) (sec : Nat) : (s.queueRelocation sec).waiting = s.waiting := by
  unfold State.queueRelocation
  split <;> simp

@[simp] theorem State.queueRefresh_waiting (s : State) (sec : Nat) : (s.queueRefresh sec).waiting = s.waiting := by
  simp [State.queueRefresh]

@[simp] theorem State.fieldStep_waiting (s : State) (c k : Nat) : (s.fieldStep c k).waiting = s.waiting := by
  unfold State.fieldStep
  repeat' split
  all_goals exact State.onGran_waiting ..

@[simp] theorem State.cutGOp_waiting (s : State) (j : Job) (op : GOp) : (s.cutGOp j op).waiting = s.waiting := by
  unfold State.cutGOp
  split
  · simp
  · split <;> simp

@[simp] theorem State.applyOp_waiting (s : State) (j : Job) (x : GOp) : (s.applyOp j x).waiting = s.waiting := by
  unfold State.applyOp
  split
  case h_2 => split <;> simp only [State.onGran_waiting]
  all_goals
    simp only [State.onGran_waiting, State.waiting_mk, State.event_waiting, State.raise_waiting, State.inc_waiting,
      State.fieldStep_waiting]

@[simp] theorem State.groupStep_waiting (s : State) (j : Job) : (s.groupStep j).waiting = s.waiting := by simp [State.groupStep]

@[simp] theorem State.jobRunOut_waiting (s : State) (j : Job) : (s.jobRunOut j).waiting = s.waiting := by simp [State.jobRunOut]

@[simp] theorem State.opDone_waiting (s : State) (fails : Bool) : (s.opDone fails).waiting = s.waiting := by
  unfold State.opDone
  repeat' split
  all_goals simp

@[simp] theorem State.deviceRefused_waiting (s : State) (rank : Nat) : (s.deviceRefused rank).waiting = s.waiting := by
  simp [State.deviceRefused]

@[simp] theorem State.hostJobStart_waiting (s : State) (m op arg : Nat) (ops : List GOp) :
    (s.hostJobStart m op arg ops).waiting = s.waiting := by
  simp [State.hostJobStart]

@[simp] theorem State.granFind_waiting (s : State) (m : Nat) : (s.granFind m).waiting = s.waiting := by
  unfold State.granFind
  dsimp only
  split <;> simp

@[simp] theorem State.startFieldSave_waiting (s : State) (m : Nat) : (s.startFieldSave m).waiting = s.waiting := by
  simp [State.startFieldSave]

@[simp] theorem State.saveCode_waiting (s : State) (code : Nat) : (s.saveCode code).waiting = s.waiting := (rfl)

@[simp] theorem State.startScan_waiting (s : State) : s.startScan.waiting = s.waiting := (rfl)

@[simp] theorem State.granDo_waiting (s : State) (m op : Nat) : (s.granDo m op).waiting = s.waiting := by simp [State.granDo]

@[simp] theorem State.sramWrite_waiting (s : State) (a w : Nat) : (s.sramWrite a w).waiting = s.waiting := (rfl)

@[simp] theorem State.commitStore_waiting (s : State) (cause rank : Nat) : (s.commitStore cause rank).waiting = s.waiting := by
  simp [State.commitStore]

@[simp] theorem State.preErase_waiting (s : State) : s.preErase.waiting = s.waiting := by simp [State.preErase]

@[simp] theorem State.runStoreOps_waiting (s : State) : s.runStoreOps.waiting = s.waiting := by
  unfold State.runStoreOps
  dsimp only
  split <;> simp

@[simp] theorem State.finishStore_waiting (s : State) : s.finishStore.waiting = s.waiting := by
  unfold State.finishStore
  split <;> simp

@[simp] theorem State.breakStore_waiting (s : State) : s.breakStore.waiting = s.waiting := by
  unfold State.breakStore
  split <;> simp

@[simp] theorem State.storeNow_waiting (s : State) (cause : Nat) : (s.storeNow cause).waiting = s.waiting := by simp [State.storeNow]

@[simp] theorem State.storeStop_waiting (s : State) : s.storeStop.waiting = s.waiting := by
  unfold State.storeStop
  repeat' split
  all_goals simp

@[simp] theorem State.storeCut_waiting (s : State) (k : Nat) : (s.storeCut k).waiting = s.waiting := by
  unfold State.storeCut
  refine (State.breakStore_waiting _).trans (foldl_waiting _ _ (fun s op => ?_) s)
  split
  · split
    · simp
    · split <;> simp
  · split <;> simp
  · rfl

@[simp] theorem State.storeWdt_waiting (s : State) : s.storeWdt.waiting = s.waiting := by simp [State.storeWdt]

@[simp] theorem State.dropJobs_waiting (s : State) : s.dropJobs.waiting = s.waiting := by simp [State.dropJobs]

@[simp] theorem State.endOp_waiting (s : State) (whole : Bool) : (s.endOp whole).waiting = s.waiting := by
  unfold State.endOp
  split
  · rfl
  · split <;> simp

@[simp] theorem State.cutOp_waiting (s : State) : s.cutOp.waiting = s.waiting := by
  unfold State.cutOp
  split
  · rfl
  · split <;> simp

@[simp] theorem State.flushTrims_waiting (s : State) : s.flushTrims.waiting = s.waiting := by
  refine foldl_waiting _ _ (fun s j => ?_) s
  dsimp only
  split
  · dsimp only
    split <;> simp
  · dsimp only
    split <;> simp

/-! ### What Machine/Chcal.lean leaves -/

@[simp] theorem State.setSlot_waiting (s : State) (k : Nat) (sl : Slot) : (s.setSlot k sl).waiting = s.waiting := (rfl)

@[simp] theorem State.instBit_waiting (s : State) (r : Row) (i : Nat) (b : Bool) : (s.instBit r i b).waiting = s.waiting := (rfl)

@[simp] theorem State.calRefuse_waiting (s : State) (i m : Nat) : (s.calRefuse i m).waiting = s.waiting := by simp [State.calRefuse]

@[simp] theorem State.request_waiting (s : State) (m : Nat) (insts : List Nat) : (s.request m insts).waiting = s.waiting := by
  simp [State.request]

@[simp] theorem State.calDefer_waiting (s : State) (i : Nat) : (s.calDefer i).waiting = s.waiting := by
  unfold State.calDefer
  split <;> simp

@[simp] theorem State.armCal_waiting (s : State) : s.armCal.waiting = s.waiting := by simp [State.armCal]

@[simp] theorem State.calRest_waiting (s : State) : s.calRest.waiting = s.waiting := by simp [State.calRest]

@[simp] theorem State.calStart_waiting (s : State) (i k : Nat) : (s.calStart i k).waiting = s.waiting := by simp [State.calStart]

@[simp] theorem State.schedule_waiting (s : State) : s.schedule.waiting = s.waiting := by
  unfold State.schedule
  split
  · rfl
  · refine foldl_waiting _ _ (fun s _ => ?_) s
    split <;> simp

@[simp] theorem State.overlapAdd_waiting (s : State) (k : Nat) (d : Int) : (s.overlapAdd k d).waiting = s.waiting := by
  simp [State.overlapAdd]

@[simp] theorem State.matchLatch_waiting (s : State) (k : Nat) : (s.matchLatch k).waiting = s.waiting := by simp [State.matchLatch]

@[simp] theorem State.slotDrop_waiting (s : State) (k : Nat) : (s.slotDrop k).waiting = s.waiting := by
  unfold State.slotDrop
  dsimp only
  split <;> simp

@[simp] theorem State.takeInput_waiting (s : State) (k : Nat) : (s.takeInput k).waiting = s.waiting := by simp [State.takeInput]

@[simp] theorem State.dropOverlaps_waiting (s : State) : s.dropOverlaps.waiting = s.waiting := by simp [State.dropOverlaps]

@[simp] theorem State.offerTrim_waiting (s : State) (i : Nat) : (s.offerTrim i).waiting = s.waiting := by
  unfold State.offerTrim
  split <;> simp

@[simp] theorem State.acceptTrims_waiting (s : State) (i k : Nat) (sl : Slot) : (s.acceptTrims i k sl).waiting = s.waiting := by
  simp [State.acceptTrims]

@[simp] theorem State.handback_waiting (s : State) (k : Nat) : (s.handback k).waiting = s.waiting := by simp [State.handback]

@[simp] theorem State.calDisagree_waiting (s : State) (i bits : Nat) : (s.calDisagree i bits).waiting = s.waiting := by
  simp [State.calDisagree]

@[simp] theorem State.calFail_waiting (s : State) (i reason : Nat) : (s.calFail i reason).waiting = s.waiting := by simp [State.calFail]

@[simp] theorem State.calEnd_waiting (s : State) (i : Nat) (m : CalMeas) : (s.calEnd i m).waiting = s.waiting := by
  unfold State.calEnd
  split
  · rfl
  extract_lets sl noise s1 gain badN s2 s3
  have h1 : s1.waiting = s.waiting := State.put_waiting ..
  have h2 : s2.waiting = s1.waiting := by
    clear_value s1 gain badN
    unfold s2
    split
    · simp
    · dsimp only
      repeat' split
      all_goals simp
  have h3 : s3.waiting = s2.waiting := by simp [s3]
  clear_value s3
  simp [h1, h2, h3]

@[simp] theorem State.handbacks_waiting (s : State) : s.handbacks.waiting = s.waiting := by simp [State.handbacks]

@[simp] theorem State.retryTick_waiting (s : State) : s.retryTick.waiting = s.waiting := (rfl)

@[simp] theorem State.retryEnd_waiting (s : State) (i : Nat) : (s.retryEnd i).waiting = s.waiting := by simp [State.retryEnd]

@[simp] theorem State.trimRetry_waiting (s : State) : s.trimRetry.waiting = s.waiting := by simp [State.trimRetry]

/-! ### What Machine/Mill.lean leaves -/

@[simp] theorem State.setBank_waiting (s : State) (b : Nat) (im : Image) : (s.setBank b im).waiting = s.waiting := by simp [State.setBank]

@[simp] theorem State.fillStart_waiting (s : State) : s.fillStart.waiting = s.waiting := (rfl)

@[simp] theorem State.fillEnd_waiting (s : State) : s.fillEnd.waiting = s.waiting := (rfl)

@[simp] theorem State.loadFrom_waiting (s : State) (k : Nat) (retry : Bool) : (s.loadFrom k retry).waiting = s.waiting := by
  simp only [State.loadFrom, State.waiting_mk, State.put_waiting, State.setBank_waiting]

@[simp] theorem State.loadBank_waiting (s : State) (fromFactory : Bool) : (s.loadBank fromFactory).waiting = s.waiting := by
  unfold State.loadBank
  split <;> simp

@[simp] theorem State.checkDone_waiting (s : State) : s.checkDone.waiting = s.waiting := by
  unfold State.checkDone
  split
  · rfl
  dsimp only
  split
  · simp only [State.raise_waiting, State.event_waiting, State.waiting_mk, State.put_waiting]
  split
  · simp only [State.loadFrom_waiting, State.put_waiting]
  · simp only [State.raise_waiting, State.event_waiting, State.noteErr_waiting, State.endFill_waiting, State.put_waiting]

@[simp] theorem State.fillAbort_waiting (s : State) : s.fillAbort.waiting = s.waiting := by simp [State.fillAbort]

@[simp] theorem State.loftPut_waiting (s : State) (b i w : Nat) : (s.loftPut b i w).waiting = s.waiting := by simp [State.loftPut]

@[simp] theorem State.driftEval_waiting (s : State) : s.driftEval.waiting = s.waiting := by simp [State.driftEval]

@[simp] theorem State.formLine2_waiting (s : State) : s.formLine2.waiting = s.waiting := (rfl)

@[simp] theorem State.overlapRow_waiting (s : State) (r : RowIn) : (s.overlapRow r).waiting = s.waiting := by simp [State.overlapRow]

@[simp] theorem State.blindRow_waiting (s : State) (r : RowIn) (row : Nat) : (s.blindRow r row).waiting = s.waiting := by
  simp [State.blindRow]

@[simp] theorem State.formRef_waiting (s : State) : s.formRef.waiting = s.waiting := (rfl)

@[simp] theorem State.backEnd_waiting (s : State) (r : RowIn) (row : Nat) (fs : List Front) :
    (s.backEnd r row fs).2.waiting = s.waiting := by
  simp [State.backEnd]

@[simp] theorem State.countLost_waiting (s : State) (r : RowIn) (index : Nat) : (s.countLost r index).waiting = s.waiting := by
  simp [State.countLost]

@[simp] theorem State.countLoss_waiting (s : State) (r : RowIn) (row : Nat) : (s.countLoss r row).waiting = s.waiting := by
  simp [State.countLoss]

@[simp] theorem State.countRow_waiting (s : State) (fs : List Front) (ps : List Pipe) (os : List (Int × Bool)) :
    (s.countRow fs ps os).waiting = s.waiting := (rfl)

@[simp] theorem State.frameStats_waiting (s : State) : s.frameStats.waiting = s.waiting := by simp [State.frameStats]

@[simp] theorem State.zeroCn_waiting (s : State) : s.zeroCn.waiting = s.waiting := by simp [State.zeroCn]

@[simp] theorem State.zeroTf_waiting (s : State) : s.zeroTf.waiting = s.waiting := by simp [State.zeroTf]

@[simp] theorem State.bankSwitch_waiting (s : State) : s.bankSwitch.1.waiting = s.waiting := by
  unfold State.bankSwitch
  split <;> simp

@[simp] theorem State.clearings_waiting (s : State) : s.clearings.waiting = s.waiting := by simp [State.clearings]

@[simp] theorem State.millGo_waiting (s : State) : s.millGo.waiting = s.waiting := by simp [State.millGo]

@[simp] theorem State.millCommit_waiting (s : State) : s.millCommit.waiting = s.waiting := by simp [State.millCommit]

@[simp] theorem State.fpaCommit_waiting (s : State) : s.fpaCommit.waiting = s.waiting := by simp [State.fpaCommit]

@[simp] theorem State.driftCommit_waiting (s : State) : s.driftCommit.waiting = s.waiting := by simp [State.driftCommit]

/-! ### What Machine/Nuc.lean leaves -/

@[simp] theorem State.confUpdate_waiting (s : State) : s.confUpdate.waiting = s.waiting := (rfl)

@[simp] theorem State.closeReq_waiting (s : State) (force : Bool) : (s.closeReq force).waiting = s.waiting := by simp [State.closeReq]

@[simp] theorem State.saveStart_waiting (s : State) : s.saveStart.waiting = s.waiting := by simp [State.saveStart]

@[simp] theorem State.saveAbort_waiting (s : State) (reason : Nat) (again : Bool) : (s.saveAbort reason again).waiting = s.waiting := by
  simp [State.saveAbort]

@[simp] theorem State.saveFinish_waiting (s : State) (k : Nat) : (s.saveFinish k).waiting = s.waiting := by
  simp [State.saveFinish]

@[simp] theorem State.saveDone_waiting (s : State) : s.saveDone.waiting = s.waiting := by
  unfold State.saveDone
  split <;> simp

@[simp] theorem State.shutFire_waiting (s : State) (n : Nat) : (s.shutFire n).waiting = s.waiting := by simp [State.shutFire]

@[simp] theorem State.nucFail_waiting (s : State) (reason : Nat) : (s.nucFail reason).waiting = s.waiting := by simp [State.nucFail]

@[simp] theorem State.closureOver_waiting (s : State) : s.closureOver.waiting = s.waiting := (rfl)

@[simp] theorem State.closureCut_waiting (s : State) : s.closureCut.waiting = s.waiting := by simp [State.closureCut]

@[simp] theorem State.shutFault_waiting (s : State) (cause : Nat) : (s.shutFault cause).waiting = s.waiting := by simp [State.shutFault]

@[simp] theorem State.shutLost_waiting (s : State) (cause : Nat) : (s.shutLost cause).waiting = s.waiting := by simp [State.shutLost]

@[simp] theorem State.shutMiss_waiting (s : State) : s.shutMiss.waiting = s.waiting := by simp [State.shutMiss]

@[simp] theorem State.openCommand_waiting (s : State) : s.openCommand.waiting = s.waiting := by simp [State.openCommand]

@[simp] theorem State.closureStop_waiting (s : State) : s.closureStop.waiting = s.waiting := by simp [State.closureStop]

@[simp] theorem State.closureMayEnd_waiting (s : State) : s.closureMayEnd.waiting = s.waiting := by simp [State.closureMayEnd]

@[simp] theorem State.shutOpened_waiting (s : State) : s.shutOpened.waiting = s.waiting := by simp [State.shutOpened]

@[simp] theorem State.nucMeasure_waiting (s : State) (a : Nat) : (s.nucMeasure a).waiting = s.waiting := by simp [State.nucMeasure]

@[simp] theorem State.measureStart_waiting (s : State) : s.measureStart.waiting = s.waiting := by
  unfold State.measureStart
  dsimp only
  repeat' split
  all_goals simp

@[simp] theorem State.settled_waiting (s : State) : s.settled.waiting = s.waiting := by simp [State.settled]

@[simp] theorem State.openConfirm_waiting (s : State) (t : Nat) : (s.openConfirm t).waiting = s.waiting := by
  unfold State.openConfirm
  dsimp only
  split <;> simp

@[simp] theorem State.monoOpen_waiting (s : State) : s.monoOpen.waiting = s.waiting := by simp [State.monoOpen]

@[simp] theorem State.shutMotion_waiting (s : State) (n : Nat) : (s.shutMotion n).waiting = s.waiting := by
  unfold State.shutMotion
  dsimp only
  repeat' split
  all_goals simp

@[simp] theorem State.closeMiss_waiting (s : State) : s.closeMiss.waiting = s.waiting := by simp [State.closeMiss]

@[simp] theorem State.openMiss_waiting (s : State) : s.openMiss.waiting = s.waiting := by simp [State.openMiss]

@[simp] theorem State.shutBoot_waiting (s : State) : s.shutBoot.waiting = s.waiting := by simp [State.shutBoot]

@[simp] theorem State.nucRow_waiting (s : State) (row : Nat) (fs : List Front) : (s.nucRow row fs).waiting = s.waiting := by
  unfold State.nucRow
  dsimp only
  split
  · rfl
  · split <;> simp

@[simp] theorem State.nucFrameEnd_waiting (s : State) : s.nucFrameEnd.waiting = s.waiting := by simp [State.nucFrameEnd]

@[simp] theorem State.closureJudge_waiting (s : State) : s.closureJudge.waiting = s.waiting := by simp [State.closureJudge]

@[simp] theorem State.saveRestart_waiting (s : State) : s.saveRestart.waiting = s.waiting := by simp [State.saveRestart]

@[simp] theorem State.switchRest_waiting (s : State) : s.switchRest.waiting = s.waiting := by simp [State.switchRest]

@[simp] theorem State.closureStart_waiting (s : State) (switched : Bool) : (s.closureStart switched).waiting = s.waiting := by
  simp [State.closureStart]

@[simp] theorem State.deferTick_waiting (s : State) : s.deferTick.waiting = s.waiting := by
  unfold State.deferTick
  split <;> simp

@[simp] theorem State.deferExpired_waiting (s : State) : s.deferExpired.waiting = s.waiting := by simp [State.deferExpired]

@[simp] theorem State.overrun_waiting (s : State) : s.overrun.waiting = s.waiting := by simp [State.overrun]

@[simp] theorem State.nucRowStart_waiting (s : State) (row : Nat) : (s.nucRowStart row).waiting = s.waiting := by simp [State.nucRowStart]

@[simp] theorem State.nucBoot_waiting (s : State) : s.nucBoot.waiting = s.waiting := (rfl)

@[simp] theorem State.nucFirstT_waiting (s : State) : s.nucFirstT.waiting = s.waiting := by simp [State.nucFirstT]

/-! ### What Machine/Sentry.lean leaves -/

@[simp] theorem State.bgReset_waiting (s : State) : s.bgReset.waiting = s.waiting := (rfl)

@[simp] theorem State.senFrame_waiting (s : State) : s.senFrame.waiting = s.waiting := (rfl)

@[simp] theorem State.senRow_waiting (s : State) (row : Nat) (xs : List (Option Int)) (lost : Bool) :
    (s.senRow row xs lost).waiting = s.waiting := by
  simp [State.senRow]

@[simp] theorem State.adaptAll_waiting (s : State) (learning first : Bool) : (s.adaptAll learning first).waiting = s.waiting := (rfl)

@[simp] theorem State.alarm_waiting (s : State) (exceed : Nat) : (s.alarm exceed).waiting = s.waiting := by simp [State.alarm]

@[simp] theorem State.evaluate_waiting (s : State) : s.evaluate.1.waiting = s.waiting := by
  unfold State.evaluate
  dsimp only
  repeat' split
  all_goals simp

@[simp] theorem State.holdoffEnd_waiting (s : State) : s.holdoffEnd.waiting = s.waiting := (rfl)

@[simp] theorem State.senFire_waiting (s : State) : s.senFire.waiting = s.waiting := by simp [State.senFire]

@[simp] theorem State.senArm_waiting (s : State) : s.senArm.waiting = s.waiting := (rfl)

@[simp] theorem State.senSync_waiting (s : State) : s.senSync.waiting = s.waiting := by simp [State.senSync]

/-! ### What Machine/Link.lean leaves -/

@[simp] theorem State.stallReport_waiting (s : State) (n : Nat) : (s.stallReport n).waiting = s.waiting := by simp [State.stallReport]

@[simp] theorem State.post_waiting (s : State) (n msg : Nat) (ws : List Nat) : (s.post n msg ws).waiting = s.waiting := by simp [State.post]

@[simp] theorem State.postNow_waiting (s : State) (n msg : Nat) (ws : List Nat) : (s.postNow n msg ws).waiting = s.waiting := (rfl)

@[simp] theorem State.postPlain_waiting (s : State) (n msg : Nat) (ws : List Nat) : (s.postPlain n msg ws).waiting = s.waiting := (rfl)

@[simp] theorem State.resend_waiting (s : State) (n i : Nat) : (s.resend n i).waiting = s.waiting := (rfl)

@[simp] theorem State.noteStatus_waiting (s : State) : s.noteStatus.waiting = s.waiting := by simp [State.noteStatus]

@[simp] theorem State.forward_waiting (s : State) (k : Nat) : (s.forward k).waiting = s.waiting := by
  induction k generalizing s with
  | zero => rfl
  | succ k ih =>
    unfold State.forward
    split
    · dsimp only
      split <;> simp [ih]
    · rfl

@[simp] theorem State.loadKey_waiting (s : State) (n : Nat) : (s.loadKey n).waiting = s.waiting := by
  simp [State.loadKey]

@[simp] theorem State.showPort_waiting (s : State) (n : Nat) : (s.showPort n).waiting = s.waiting := by simp [State.showPort]

@[simp] theorem State.addReply_waiting (s : State) (n : Nat) (r : Reply) : (s.addReply n r).waiting = s.waiting := by simp [State.addReply]

@[simp] theorem State.tunIssue_waiting (s : State) (m n data : Nat) : (s.tunIssue m n data).waiting = s.waiting := by simp [State.tunIssue]

@[simp] theorem State.poolSettle_waiting (s : State) (f n : Nat) : (s.poolSettle f n).waiting = s.waiting := by
  induction f generalizing s with
  | zero => rfl
  | succ f ih =>
    unfold State.poolSettle
    split
    · rfl
    · split <;> simp [ih]

@[simp] theorem State.tunPop_waiting (s : State) (n : Nat) : (s.tunPop n).waiting = s.waiting := by simp [State.tunPop]

@[simp] theorem State.hevtPop_waiting (s : State) (n : Nat) : (s.hevtPop n).waiting = s.waiting := by simp [State.hevtPop]

@[simp] theorem State.rresetIssue_waiting (s : State) (m n : Nat) (image : Bool) : (s.rresetIssue m n image).waiting = s.waiting := by
  simp [State.rresetIssue]

@[simp] theorem State.linkQueueCut_waiting (s : State) : s.linkQueueCut.waiting = s.waiting := (rfl)

@[simp] theorem State.msgPeak_waiting (s : State) (n : Nat) : (s.msgPeak n).waiting = s.waiting := (rfl)

@[simp] theorem State.sessionLost_waiting (s : State) (n cause : Nat) : (s.sessionLost n cause).waiting = s.waiting := by
  simp [State.sessionLost]

@[simp] theorem State.sessionStart_waiting (s : State) (n : Nat) : (s.sessionStart n).waiting = s.waiting := by simp [State.sessionStart]

@[simp] theorem State.downgradeNote_waiting (s : State) (n : Nat) : (s.downgradeNote n).waiting = s.waiting := by simp [State.downgradeNote]

@[simp] theorem State.renumber_waiting (s : State) (n : Nat) : (s.renumber n).waiting = s.waiting := (rfl)

@[simp] theorem State.sessionOpen_waiting (s : State) (n : Nat) : (s.sessionOpen n).waiting = s.waiting := by simp [State.sessionOpen]

@[simp] theorem State.leaveUp_waiting (s : State) (n st : Nat) : (s.leaveUp n st).waiting = s.waiting := by simp [State.leaveUp]

@[simp] theorem State.toBase_waiting (s : State) (n : Nat) : (s.toBase n).waiting = s.waiting := by simp [State.toBase]

@[simp] theorem State.noCommon_waiting (s : State) (n : Nat) : (s.noCommon n).waiting = s.waiting := by simp [State.noCommon]

@[simp] theorem State.train_waiting (s : State) (n g : Nat) : (s.train n g).waiting = s.waiting := (rfl)

@[simp] theorem State.portStart_waiting (s : State) (n : Nat) : (s.portStart n).waiting = s.waiting := by simp [State.portStart]

@[simp] theorem State.softStartEnd_waiting (s : State) (n : Nat) : (s.softStartEnd n).waiting = s.waiting := by simp [State.softStartEnd]

@[simp] theorem State.linkLock_waiting (s : State) (n : Nat) : (s.linkLock n).waiting = s.waiting := by
  unfold State.linkLock
  split_ifs <;> rfl

@[simp] theorem State.capsTimeout_waiting (s : State) (n : Nat) : (s.capsTimeout n).waiting = s.waiting := by simp [State.capsTimeout]

@[simp] theorem State.capsIn_waiting (s : State) (n w : Nat) : (s.capsIn n w).waiting = s.waiting := by
  unfold State.capsIn
  split <;> simp

@[simp] theorem State.choiceIn_waiting (s : State) (n g : Nat) : (s.choiceIn n g).waiting = s.waiting := by simp [State.choiceIn]

@[simp] theorem State.trained_waiting (s : State) (n : Nat) : (s.trained n).waiting = s.waiting := by simp [State.trained]

@[simp] theorem State.trainFail_waiting (s : State) (n : Nat) : (s.trainFail n).waiting = s.waiting := by simp [State.trainFail]

@[simp] theorem State.failWaitEnd_waiting (s : State) (n : Nat) : (s.failWaitEnd n).waiting = s.waiting := by simp [State.failWaitEnd]

@[simp] theorem State.noPeerNow_waiting (s : State) (n : Nat) : (s.noPeerNow n).waiting = s.waiting := by simp [State.noPeerNow]

@[simp] theorem State.lockLost_waiting (s : State) (n : Nat) : (s.lockLost n).waiting = s.waiting := by simp [State.lockLost]

@[simp] theorem State.linkDown_waiting (s : State) (n : Nat) : (s.linkDown n).waiting = s.waiting := by
  unfold State.linkDown
  split <;> simp

@[simp] theorem State.pocFault_waiting (s : State) (n cause : Nat) (latch : Bool) : (s.pocFault n cause latch).waiting = s.waiting := by
  simp [State.pocFault]

@[simp] theorem State.pocOver_waiting (s : State) (n : Nat) : (s.pocOver n).waiting = s.waiting := by simp [State.pocOver]

@[simp] theorem State.pocRetry_waiting (s : State) (n : Nat) : (s.pocRetry n).waiting = s.waiting := by simp [State.pocRetry]

@[simp] theorem State.pocCalm_waiting (s : State) (n : Nat) : (s.pocCalm n).waiting = s.waiting := by simp [State.pocCalm]

@[simp] theorem State.pocBack_waiting (s : State) (n : Nat) : (s.pocBack n).waiting = s.waiting := by simp [State.pocBack]

@[simp] theorem State.pocKa_waiting (s : State) (n : Nat) : (s.pocKa n).waiting = s.waiting := by simp [State.pocKa]

@[simp] theorem State.pocLoad_waiting (s : State) (n mA : Nat) : (s.pocLoad n mA).waiting = s.waiting := by simp [State.pocLoad]

@[simp] theorem State.pocVin_waiting (s : State) (n dV : Nat) : (s.pocVin n dV).waiting = s.waiting := by simp [State.pocVin]

@[simp] theorem State.pocClr_waiting (s : State) (n : Nat) : (s.pocClr n).waiting = s.waiting := by simp [State.pocClr]

@[simp] theorem State.portOff_waiting (s : State) (n : Nat) (dormant : Bool) : (s.portOff n dormant).waiting = s.waiting := by
  unfold State.portOff
  simp

@[simp] theorem State.portLatch_waiting (s : State) (n : Nat) : (s.portLatch n).waiting = s.waiting := by simp [State.portLatch]

@[simp] theorem State.linkCommit_waiting (s : State) (n : Nat) : (s.linkCommit n).waiting = s.waiting := by simp [State.linkCommit]

@[simp] theorem State.retire_waiting (s : State) (n ack : Nat) : (s.retire n ack).waiting = s.waiting := by
  unfold State.retire
  dsimp only
  split
  · rfl
  · split <;> simp

@[simp] theorem State.take_waiting (s : State) (n : Nat) (c : Ctrl) (len : Nat) (numbered : Bool) :
    (s.take n c len numbered).1.waiting = s.waiting := by
  unfold State.take
  dsimp only
  repeat' split
  all_goals simp

@[simp] theorem State.again_waiting (s : State) (n i : Nat) : (s.again n i).waiting = s.waiting := by
  unfold State.again
  split <;> simp

@[simp] theorem State.nakIn_waiting (s : State) (n w : Nat) : (s.nakIn n w).waiting = s.waiting := by
  unfold State.nakIn
  dsimp only
  split <;> simp

@[simp] theorem State.retx_waiting (s : State) (n : Nat) : (s.retx n).waiting = s.waiting := by simp [State.retx]

@[simp] theorem State.ackNow_waiting (s : State) (n : Nat) : (s.ackNow n).waiting = s.waiting := by simp [State.ackNow]

@[simp] theorem State.sessionIn_waiting (s : State) (c : Ctrl) : (s.sessionIn c).waiting = s.waiting := by simp [State.sessionIn]

@[simp] theorem State.sessionAnew_waiting (s : State) (c : Ctrl) : (s.sessionAnew c).waiting = s.waiting := by simp [State.sessionAnew]

@[simp] theorem State.sessionAckIn_waiting (s : State) (n : Nat) (c : Ctrl) : (s.sessionAckIn n c).waiting = s.waiting := by
  simp [State.sessionAckIn]

@[simp] theorem State.replyIn_waiting (s : State) (n : Nat) (c : Ctrl) : (s.replyIn n c).waiting = s.waiting := by
  unfold State.replyIn
  dsimp only
  repeat' split
  all_goals simp

@[simp] theorem State.eventIn_waiting (s : State) (n : Nat) (c : Ctrl) : (s.eventIn n c).waiting = s.waiting := by simp [State.eventIn]

@[simp] theorem State.tunAnswer_waiting (s : State) (a : TunAcc) (code data : Nat) : (s.tunAnswer a code data).waiting = s.waiting := by
  simp [State.tunAnswer]

@[simp] theorem State.signature_waiting (s : State) : s.signature.waiting = s.waiting := by simp [State.signature]

@[simp] theorem State.coaxFall_waiting (s : State) : s.coaxFall.waiting = s.waiting := by simp [State.coaxFall]

@[simp] theorem State.coaxUp_waiting (s : State) : s.coaxUp.waiting = s.waiting := by simp [State.coaxUp]

/-! ### What Machine/Video.lean leaves -/

@[simp] theorem State.streamTake_waiting (s : State) (p st : Nat) : (s.streamTake p st).waiting = s.waiting := by simp [State.streamTake]

@[simp] theorem State.streamsGo_waiting (s : State) (p : Nat) : (s.streamsGo p).waiting = s.waiting := by simp [State.streamsGo]

@[simp] theorem State.rebuildMap_waiting (s : State) (st : Nat) : (s.rebuildMap st).waiting = s.waiting := by
  unfold State.rebuildMap
  dsimp only
  split <;> rfl

@[simp] theorem State.csiPut_waiting (s : State) (st dt : Nat) (items : List Nat) : (s.csiPut st dt items).waiting = s.waiting := by
  simp [State.csiPut]

@[simp] theorem State.csiLine_waiting (s : State) (st dt no : Nat) (items : List Nat) : (s.csiLine st dt no items).waiting = s.waiting := by
  simp [State.csiLine]

@[simp] theorem State.csiEmb_waiting (s : State) (st : Nat) (bs : List Byte) : (s.csiEmb st bs).waiting = s.waiting := by
  simp [State.csiEmb]

@[simp] theorem State.sendLine_waiting (s : State) (st i : Nat) : (s.sendLine st i).waiting = s.waiting := by simp [State.sendLine]

@[simp] theorem State.flushLines_waiting (s : State) (st : Nat) (all : Bool) : (s.flushLines st all).waiting = s.waiting := by
  simp [State.flushLines]

@[simp] theorem State.shape_waiting (s : State) (st width height fmt : Nat) (rep : Bool) :
    (s.shape st width height fmt rep).waiting = s.waiting := by
  simp [State.shape]

@[simp] theorem State.streamStart_waiting (s : State) (st ctr : Nat) (shown : Bool) : (s.streamStart st ctr shown).waiting = s.waiting := by
  simp [State.streamStart]

@[simp] theorem State.streamEmb1_waiting (s : State) (st : Nat) (l : List Byte) : (s.streamEmb1 st l).waiting = s.waiting := by
  simp [State.streamEmb1]

@[simp] theorem State.streamEmb2_waiting (s : State) (st : Nat) (l : List Byte) : (s.streamEmb2 st l).waiting = s.waiting := by
  simp [State.streamEmb2]

@[simp] theorem State.addLine_waiting (s : State) (st row : Nat) (px : Option (List Nat)) : (s.addLine st row px).waiting = s.waiting := by
  unfold State.addLine
  split <;> simp

@[simp] theorem State.fillTo_waiting (s : State) (st row : Nat) : (s.fillTo st row).waiting = s.waiting := by simp [State.fillTo]

@[simp] theorem State.streamRow_waiting (s : State) (st row : Nat) (px : List Nat) : (s.streamRow st row px).waiting = s.waiting := by
  simp [State.streamRow]

@[simp] theorem State.pvpDrop_waiting (s : State) (st why : Nat) : (s.pvpDrop st why).waiting = s.waiting := by simp [State.pvpDrop]

@[simp] theorem State.pvpReady_waiting (s : State) (st : Nat) : (s.pvpReady st).waiting = s.waiting := (rfl)

@[simp] theorem State.fillNote_waiting (s : State) (st : Nat) : (s.fillNote st).waiting = s.waiting := by simp [State.fillNote]

@[simp] theorem State.streamGap_waiting (s : State) (st row : Nat) : (s.streamGap st row).waiting = s.waiting := by simp [State.streamGap]

@[simp] theorem State.streamEnd_waiting (s : State) (st : Nat) (tail : Option (List Byte)) (ok : Bool) :
    (s.streamEnd st tail ok).waiting = s.waiting := by
  unfold State.streamEnd
  extract_lets w s1 f wf ls dt ls' f' wf' s2 s3 w3 s4 s5
  have h1 : s1.waiting = s.waiting := by simp [s1]
  have hf : f'.waiting = s1.waiting := by simp [f', f]
  have h2 : s2.waiting = s1.waiting := by
    unfold s2
    split
    · split
      · split <;> simp
      · rfl
    · simp [hf]
  have h3 : s3.waiting = s2.waiting := by
    unfold s3
    split <;> simp
  have h4 : s4.waiting = s3.waiting := by simp [s4]
  have h5 : s5.waiting = s4.waiting := by simp [s5]
  split
  · rfl
  · simp [h1, h2, h3, h4, h5]

@[simp] theorem State.streamCut_waiting (s : State) (st : Nat) : (s.streamCut st).waiting = s.waiting := by simp [State.streamCut]

@[simp] theorem State.quiet_waiting (s : State) : s.quiet.waiting = s.waiting := (rfl)

@[simp] theorem State.csiReinit_waiting (s : State) : s.csiReinit.waiting = s.waiting := by simp [State.csiReinit]

@[simp] theorem State.pvpPins_waiting (s : State) : s.pvpPins.waiting = s.waiting := by simp [State.pvpPins]

@[simp] theorem State.pvpFrame_waiting (s : State) : s.pvpFrame.waiting = s.waiting := by simp [State.pvpFrame]

@[simp] theorem State.pvpStale_waiting (s : State) (st : Nat) : (s.pvpStale st).waiting = s.waiting := by simp [State.pvpStale]

@[simp] theorem State.dispLost_waiting (s : State) : s.dispLost.waiting = s.waiting := by simp [State.dispLost]

@[simp] theorem State.csiOff_waiting (s : State) : s.csiOff.waiting = s.waiting := (rfl)

@[simp] theorem State.pvpOff_waiting (s : State) : s.pvpOff.waiting = s.waiting := (rfl)

/-! ### What Machine/LinkVideo.lean leaves -/

@[simp] theorem State.txAbsorb_waiting (s : State) (ws : List Nat) : (s.txAbsorb ws).waiting = s.waiting := by
  unfold State.txAbsorb
  dsimp only
  split <;> simp

@[simp] theorem State.headPkt_waiting (s : State) (typ info : Nat) (ws : List Nat) : (s.headPkt typ info ws).waiting = s.waiting := by
  simp [State.headPkt]

@[simp] theorem State.headStart_waiting (s : State) (stallHeld : Bool) : (s.headStart stallHeld).waiting = s.waiting := by
  simp [State.headStart]

@[simp] theorem State.headEmb_waiting (s : State) : s.headEmb.waiting = s.waiting := by simp [State.headEmb]

@[simp] theorem State.stallTake_waiting (s : State) (n fill bytes : Nat) : (s.stallTake n fill bytes).1.waiting = s.waiting := by
  unfold State.stallTake
  dsimp only
  split <;> simp

@[simp] theorem State.headRow_waiting (s : State) (row stall : Nat) (px : List Nat) : (s.headRow row stall px).waiting = s.waiting := by
  unfold State.headRow
  split
  · dsimp only
    have h := State.stallTake_waiting s 0 stall (4 * ((packRow (s.get MILL_OUT_FMT) px).length + 2))
    split
    next t ht => simpa [ht] using h
    next t ht => simpa [ht] using h
  · rfl

@[simp] theorem State.headFrameEnd_waiting (s : State) (rep : Bool) : (s.headFrameEnd rep).waiting = s.waiting := by
  simp [State.headFrameEnd]

@[simp] theorem State.fecCount_waiting (s : State) (n : Nat) (p : Packet) : (s.fecCount n p).waiting = s.waiting := by simp [State.fecCount]

@[simp] theorem State.rxBad_waiting (s : State) (n : Nat) : (s.rxBad n).waiting = s.waiting := (rfl)

@[simp] theorem State.rxAbsorb_waiting (s : State) (n : Nat) (ws : List Nat) : (s.rxAbsorb n ws).waiting = s.waiting := by
  unfold State.rxAbsorb
  dsimp only
  split <;> simp

@[simp] theorem State.authResult_waiting (s : State) (n r : Nat) : (s.authResult n r).waiting = s.waiting := by simp [State.authResult]

@[simp] theorem State.rxClose_waiting (s : State) (n tag : Nat) (f : RxFrame) (rep : Bool) :
    (s.rxClose n tag f rep).waiting = s.waiting := by
  simp [State.rxClose]

@[simp] theorem State.rxSync_waiting (s : State) (n : Nat) : (s.rxSync n).waiting = s.waiting := by simp [State.rxSync]

@[simp] theorem State.portBoundary_waiting (s : State) (n : Nat) : (s.portBoundary n).waiting = s.waiting := by simp [State.portBoundary]

@[simp] theorem State.fsIn_waiting (s : State) (n : Nat) (p : Packet) : (s.fsIn n p).waiting = s.waiting := by
  unfold State.fsIn
  dsimp only
  repeat' split
  all_goals simp

@[simp] theorem State.embIn_waiting (s : State) (n : Nat) (p : Packet) : (s.embIn n p).waiting = s.waiting := by
  unfold State.embIn
  dsimp only
  repeat' split
  all_goals simp

@[simp] theorem State.lineIn_waiting (s : State) (n : Nat) (p : Packet) : (s.lineIn n p).waiting = s.waiting := by
  unfold State.lineIn
  dsimp only
  split
  · rfl
  split
  · simp
  split
  · simp
  split
  · simp
  split
  next t ht =>
    have h := congrArg (fun x => x.1.waiting) ht
    simpa using h.symm
  next t ht =>
    have h := congrArg (fun x => x.1.waiting) ht
    simpa using h.symm

@[simp] theorem State.feIn_waiting (s : State) (n : Nat) (p : Packet) : (s.feIn n p).waiting = s.waiting := by
  unfold State.feIn
  dsimp only
  repeat' split
  all_goals simp

@[simp] theorem State.reservedIn_waiting (s : State) (n : Nat) : (s.reservedIn n).waiting = s.waiting := by simp [State.reservedIn]

@[simp] theorem State.authClr_waiting (s : State) (n : Nat) : (s.authClr n).waiting = s.waiting := (rfl)

/-! ### What Machine/Pads.lean leaves -/

@[simp] theorem State.holdPads_waiting (s : State) : s.holdPads.waiting = s.waiting := (rfl)

/-! ### What Machine/Power.lean leaves -/

@[simp] theorem State.policyNow_waiting (s : State) : s.policyNow.waiting = s.waiting := (rfl)

@[simp] theorem State.axesAt_waiting (s : State) (all here : Bool) : (s.axesAt all here).waiting = s.waiting := by simp [State.axesAt]

@[simp] theorem State.axesNow_waiting (s : State) (all : Bool) : (s.axesNow all).waiting = s.waiting := by simp [State.axesNow]

@[simp] theorem State.pixCloses_waiting (s : State) : s.pixCloses.waiting = s.waiting := by simp [State.pixCloses]

@[simp] theorem State.closing_waiting (s : State) (d : Nat) : (s.closing d).waiting = s.waiting := by simp [State.closing]

@[simp] theorem State.reopen_waiting (s : State) (d : Nat) : (s.reopen d).waiting = s.waiting := by simp [State.reopen]

@[simp] theorem State.openingEnds_waiting (s : State) (d : Nat) : (s.openingEnds d).waiting = s.waiting := by simp [State.openingEnds]

@[simp] theorem State.domainsSync_waiting (s : State) : s.domainsSync.waiting = s.waiting := by simp [State.domainsSync]

@[simp] theorem State.commitFull_waiting (s : State) (p : Nat) : (s.commitFull p).waiting = s.waiting := by simp [State.commitFull]

@[simp] theorem State.outSync_waiting (s : State) : s.outSync.waiting = s.waiting := by simp [State.outSync]

@[simp] theorem State.noReadings_waiting (s : State) : s.noReadings.waiting = s.waiting := by simp [State.noReadings]

@[simp] theorem State.coreGood_waiting (s : State) : s.coreGood.waiting = s.waiting := by simp [State.coreGood]

@[simp] theorem State.pvpBoundary_waiting (s : State) : s.pvpBoundary.waiting = s.waiting := by simp [State.pvpBoundary]

@[simp] theorem State.domainGood_waiting (s : State) (d : Nat) : (s.domainGood d).waiting = s.waiting := by simp [State.domainGood]

@[simp] theorem State.domainFault_waiting (s : State) (d : Nat) : (s.domainFault d).waiting = s.waiting := by simp [State.domainFault]

@[simp] theorem State.calAbandon_waiting (s : State) : s.calAbandon.waiting = s.waiting := by simp [State.calAbandon]

@[simp] theorem State.pixOff_waiting (s : State) : s.pixOff.waiting = s.waiting := by simp [State.pixOff]

@[simp] theorem State.linkCut_waiting (s : State) (n : Nat) : (s.linkCut n).waiting = s.waiting := by simp [State.linkCut]

@[simp] theorem State.domainLost_waiting (s : State) (d : Nat) : (s.domainLost d).waiting = s.waiting := by simp [State.domainLost]

@[simp] theorem State.dropFlight_waiting (s : State) (d : Nat) : (s.dropFlight d).1.waiting = s.waiting := by
  unfold State.dropFlight
  split_ifs <;> simp

@[simp] theorem State.drainDrop_waiting (s : State) (d k : Nat) : (s.drainDrop d k).waiting = s.waiting := by simp [State.drainDrop]

@[simp] theorem State.drainLimit_waiting (s : State) (d inFlight : Nat) : (s.drainLimit d inFlight).waiting = s.waiting := by
  simp [State.drainLimit]

@[simp] theorem State.blocksIdle_waiting (s : State) : s.blocksIdle.waiting = s.waiting := (rfl)

@[simp] theorem State.loseLive_waiting (s : State) : s.loseLive.waiting = s.waiting := (rfl)

@[simp] theorem State.loseC_waiting (s : State) : s.loseC.waiting = s.waiting := by
  simp [State.loseC]

@[simp] theorem State.arrayCommits_waiting (s : State) : s.arrayCommits.waiting = s.waiting := by simp [State.arrayCommits]

@[simp] theorem State.senCommit_waiting (s : State) : s.senCommit.waiting = s.waiting := by simp [State.senCommit]

@[simp] theorem State.frameEnds_waiting (s : State) : s.frameEnds.waiting = s.waiting := by simp [State.frameEnds]

@[simp] theorem State.frameOver_waiting (s : State) : s.frameOver.waiting = s.waiting := by simp [State.frameOver]

@[simp] theorem State.timingStop_waiting (s : State) : s.timingStop.waiting = s.waiting := by simp [State.timingStop]

@[simp] theorem State.leaveService_waiting (s : State) : s.leaveService.waiting = s.waiting := by simp [State.leaveService]

@[simp] theorem State.serviceFlag_waiting (s : State) (service : Bool) : (s.serviceFlag service).waiting = s.waiting := by
  simp [State.serviceFlag]

@[simp] theorem State.enterMode_waiting (s : State) (target cause : Nat) : (s.enterMode target cause).waiting = s.waiting := by
  simp [State.enterMode]

@[simp] theorem State.beginTrans_waiting (s : State) (target cause : Nat) : (s.beginTrans target cause).waiting = s.waiting := by
  simp [State.beginTrans]

@[simp] theorem State.modeAccepted_waiting (s : State) (m : Nat) : (s.modeAccepted m).waiting = s.waiting := by simp [State.modeAccepted]

@[simp] theorem State.modeBlocked_waiting (s : State) (target : Nat) : (s.modeBlocked target).waiting = s.waiting := by
  unfold State.modeBlocked
  repeat' split
  all_goals simp

@[simp] theorem State.modeDo_waiting (s : State) (m target : Nat) : (s.modeDo m target).waiting = s.waiting := by simp [State.modeDo]

@[simp] theorem State.scriptCut_waiting (s : State) : s.scriptCut.waiting = s.waiting := by simp [State.scriptCut]

@[simp] theorem State.senEnd_waiting (s : State) : s.senEnd.waiting = s.waiting := (rfl)

@[simp] theorem State.dormantStart_waiting (s : State) (cause : Nat) : (s.dormantStart cause).waiting = s.waiting := by
  simp [State.dormantStart]

@[simp] theorem State.dormantReached_waiting (s : State) (cause : Nat) : (s.dormantReached cause).waiting = s.waiting := by
  unfold State.dormantReached
  extract_lets old s1 lat low s2 s3 s4 _ _ _ _ s5 s6 s7
  have h1 : s1.waiting = s.waiting := by simp [s1]
  have h3 : s3.waiting = s1.waiting := (State.loseC_waiting _).trans (State.setPd_waiting ..)
  have h4 : s4.waiting = s3.waiting := by simp only [s4, State.put_waiting]
  have h5 : s5.waiting = s4.waiting := State.waiting_mk s4 ..
  have h6 : s6.waiting = s5.waiting := by simp only [s6, ite_waiting, State.put_waiting, ite_self]
  simp only [State.event_waiting, s7, State.clockSync_waiting, State.put_waiting, h1, h3, h4, h5, h6]

@[simp] theorem State.l3Reached_waiting (s : State) : s.l3Reached.waiting = s.waiting := by simp [State.l3Reached]

@[simp] theorem State.pulsesLost_waiting (s : State) : s.pulsesLost.waiting = s.waiting := (rfl)

@[simp] theorem State.dormantIfOff_waiting (s : State) : s.dormantIfOff.waiting = s.waiting := by
  unfold State.dormantIfOff
  split <;> simp

@[simp] theorem State.domainOff_waiting (s : State) (d : Nat) : (s.domainOff d).waiting = s.waiting := by
  unfold State.domainOff
  repeat' split
  all_goals simp

@[simp] theorem State.entryBack_waiting (s : State) : s.entryBack.waiting = s.waiting := by simp [State.entryBack]

@[simp] theorem State.lastFrame_waiting (s : State) : s.lastFrame.waiting = s.waiting := by simp [State.lastFrame]

@[simp] theorem State.modeTransition_waiting (s : State) : s.modeTransition.waiting = s.waiting := by
  unfold State.modeTransition
  split <;> simp

@[simp] theorem State.domainDrop_waiting (s : State) (d : Nat) : (s.domainDrop d).waiting = s.waiting := by simp [State.domainDrop]

@[simp] theorem State.dropFrames_waiting (s : State) : s.dropFrames.waiting = s.waiting := by simp [State.dropFrames]

@[simp] theorem State.modeStuck_waiting (s : State) : s.modeStuck.waiting = s.waiting := by
  unfold State.modeStuck
  split <;> simp

@[simp] theorem State.tryReturn_waiting (s : State) (first : Bool) : (s.tryReturn first).waiting = s.waiting := by
  unfold State.tryReturn
  repeat' split
  all_goals simp

@[simp] theorem State.rechooseAll_waiting (s : State) : s.rechooseAll.waiting = s.waiting := by simp [State.rechooseAll]

@[simp] theorem State.serviceOver_waiting (s : State) : s.serviceOver.waiting = s.waiting := by
  unfold State.serviceOver
  split <;> simp

@[simp] theorem State.holdOver_waiting (s : State) : s.holdOver.waiting = s.waiting := by
  unfold State.holdOver
  split <;> simp

@[simp] theorem State.exitMode_waiting (s : State) (e : Exit) : (s.exitMode e).waiting = s.waiting := (rfl)

@[simp] theorem State.noteSlot_waiting (s : State) (slot : Option Nat) : (s.noteSlot slot).waiting = s.waiting := by
  unfold State.noteSlot
  split <;> simp

@[simp] theorem State.wakeDormant_waiting (s : State) (cls : Nat) (slot : Option Nat) : (s.wakeDormant cls slot).waiting = s.waiting := by
  unfold State.wakeDormant
  dsimp only
  split <;> simp

@[simp] theorem State.noteWake_waiting (s : State) (fresh : Bool) : (s.noteWake fresh).waiting = s.waiting := by
  unfold State.noteWake
  repeat' split
  all_goals rfl

@[simp] theorem State.holdWake_waiting (s : State) (cls : Nat) (slot : Option Nat) : (s.holdWake cls slot).waiting = s.waiting := by
  unfold State.holdWake
  split <;> simp

@[simp] theorem State.abandonEntry_waiting (s : State) (t : Trans) (cls : Nat) : (s.abandonEntry t cls).waiting = s.waiting := by
  simp [State.abandonEntry]

@[simp] theorem State.wakeIn_waiting (s : State) (cls : Nat) (slot : Option Nat) : (s.wakeIn cls slot).waiting = s.waiting := by
  unfold State.wakeIn
  repeat' split
  all_goals simp

@[simp] theorem State.wake_waiting (s : State) (cls : Nat) (slot : Option Nat) : (s.wake cls slot).waiting = s.waiting := by
  simp [State.wake]

@[simp] theorem State.thermalRelease_waiting (s : State) : s.thermalRelease.waiting = s.waiting := by simp [State.thermalRelease]

@[simp] theorem State.cutNow_waiting (s : State) (comparator : Bool) : (s.cutNow comparator).waiting = s.waiting := by
  unfold State.cutNow
  dsimp only
  split <;> simp

@[simp] theorem State.thermalCut_waiting (s : State) (comparator : Bool) : (s.thermalCut comparator).waiting = s.waiting := by
  simp [State.thermalCut]

/-! ### What Machine/Array.lean leaves -/

@[simp] theorem State.frameLatch_waiting (s : State) : s.frameLatch.1.waiting = s.waiting := by simp [State.frameLatch]

@[simp] theorem State.frameOrder_waiting (s : State) : s.frameOrder.1.waiting = s.waiting := by
  unfold State.frameOrder
  dsimp only
  split <;> simp

@[simp] theorem State.countFrame_waiting (s : State) : s.countFrame.waiting = s.waiting := by simp [State.countFrame]

@[simp] theorem State.frameTaken_waiting (s : State) (sentry bandSw bankSw stallHeld : Bool) :
    (s.frameTaken sentry bandSw bankSw stallHeld).waiting = s.waiting := by
  simp [State.frameTaken]

@[simp] theorem State.arrayBoundary_waiting (s : State) (vetoPin stallHeld : Bool) :
    (s.arrayBoundary vetoPin stallHeld).waiting = s.waiting := by
  simp [State.arrayBoundary]

@[simp] theorem State.rowLoss_waiting (s : State) (r : RowIn) : (s.rowLoss r).waiting = s.waiting := by simp [State.rowLoss]

@[simp] theorem State.blindIn_waiting (s : State) (r : RowIn) (q : Nat) : (s.blindIn r q).waiting = s.waiting := by simp [State.blindIn]

@[simp] theorem State.sentryRow_waiting (s : State) (r : RowIn) (a : Nat) (fs : List Front) : (s.sentryRow r a fs).waiting = s.waiting := by
  simp [State.sentryRow]

@[simp] theorem State.liveRow_waiting (s : State) (r : RowIn) (a : Nat) (fs : List Front) : (s.liveRow r a fs).waiting = s.waiting := by
  simp [State.liveRow]

@[simp] theorem State.activeIn_waiting (s : State) (r : RowIn) (a : Nat) (meas : Bool) : (s.activeIn r a meas).waiting = s.waiting := by
  simp [State.activeIn]

@[simp] theorem State.rowAt_waiting (s : State) (r : RowIn) (i : Nat) : (s.rowAt r i).waiting = s.waiting := by simp [State.rowAt]

@[simp] theorem State.sentryEnd_waiting (s : State) : s.sentryEnd.waiting = s.waiting := by simp [State.sentryEnd]

@[simp] theorem State.rowStart_waiting (s : State) (r : RowIn) : (s.rowStart r).waiting = s.waiting := by simp [State.rowStart]

@[simp] theorem State.rampOver_waiting (s : State) : s.rampOver.waiting = s.waiting := by simp [State.rampOver]

/-! ### What Machine/Reset.lean leaves -/

@[simp] theorem State.markKind_waiting (s : State) (k : Nat) : (s.markKind k).waiting = s.waiting := (rfl)

@[simp] theorem State.tapRest_waiting (s : State) : s.tapRest.waiting = s.waiting := (rfl)

@[simp] theorem State.assertRest_waiting (s : State) (lost : Bool) : (s.assertRest lost).waiting = s.waiting := by
  simp [State.assertRest]

@[simp] theorem State.assertLost_waiting (s : State) (k : Nat) : (s.assertLost k).waiting = s.waiting := by simp [State.assertLost]

@[simp] theorem State.granStop_waiting (s : State) : s.granStop.waiting = s.waiting := by simp [State.granStop]

@[simp] theorem State.keepPins_waiting (s t : State) : (s.keepPins t).waiting = t.waiting := by simp [State.keepPins]

@[simp] theorem State.porAon_waiting (s : State) : s.porAon.waiting = s.waiting := by simp [State.porAon]

@[simp] theorem State.borCore_waiting (s : State) : s.borCore.waiting = s.waiting := by simp [State.borCore]

@[simp] theorem State.pinReset_waiting (s : State) : s.pinReset.waiting = s.waiting := by simp [State.pinReset]

@[simp] theorem State.wdtReset_waiting (s : State) : s.wdtReset.waiting = s.waiting := by simp [State.wdtReset]

@[simp] theorem State.softGo_waiting (s : State) : s.softGo.waiting = s.waiting := by simp [State.softGo]

@[simp] theorem State.softReset_waiting (s : State) (k : Nat) (image : Bool) : (s.softReset k image).waiting = s.waiting := by
  simp [State.softReset]

/-! ### What Machine/Cmdq.lean leaves -/

@[simp] theorem State.runOver_waiting (s : State) (state code : Nat) : (s.runOver state code).waiting = s.waiting := by
  unfold State.runOver
  split <;> simp

@[simp] theorem State.runStart_waiting (s : State) (id e : Nat) : (s.runStart id e).waiting = s.waiting := by simp [State.runStart]

@[simp] theorem State.autoRun_waiting (s : State) (f : Nat) : (s.autoRun f).waiting = s.waiting := by
  induction f generalizing s with
  | zero => rfl
  | succ f ih =>
    unfold State.autoRun
    split
    · rfl
    · dsimp only
      split <;> simp [ih]

@[simp] theorem State.scriptItemEnd_waiting (s : State) (code : Nat) (notMet : Bool) :
    (s.scriptItemEnd code notMet).waiting = s.waiting := by
  unfold State.scriptItemEnd
  split <;> simp

@[simp] theorem State.itemEnd_waiting (s : State) (q : Nat) (script : Bool) (i : List Nat) (code : Nat) (flushed met : Bool) (result : Nat) :
    (s.itemEnd q script i code flushed met result).waiting = s.waiting := by
  simp [State.itemEnd]

@[simp] theorem State.itemTake_waiting (s : State) (q : Nat) (script : Bool) : (s.itemTake q script).waiting = s.waiting := by
  simp [State.itemTake]

@[simp] theorem State.itemVoid_waiting (s : State) (q : Nat) (script : Bool) (i : List Nat) (code : Nat) :
    (s.itemVoid q script i code).waiting = s.waiting := by
  simp [State.itemVoid]

@[simp] theorem State.settleQueue_waiting (s : State) (f q : Nat) : (s.settleQueue f q).waiting = s.waiting := by
  induction f generalizing s with
  | zero => rfl
  | succ f ih =>
    unfold State.settleQueue
    split
    · rfl
    · split <;> simp [ih]

@[simp] theorem State.settleEmpty_waiting (s : State) : s.settleEmpty.waiting = s.waiting := by simp [State.settleEmpty]

@[simp] theorem State.settleTurns_waiting (s : State) (f : Nat) : (s.settleTurns f).waiting = s.waiting := by
  induction f generalizing s with
  | zero => rfl
  | succ f ih =>
    unfold State.settleTurns
    split
    · rfl
    · split <;> simp [ih]

@[simp] theorem State.settle_waiting (s : State) : s.settle.waiting = s.waiting := by
  unfold State.settle
  split <;> simp

@[simp] theorem State.headerIn_waiting (s : State) (q w : Nat) : (s.headerIn q w).1.waiting = s.waiting := by
  unfold State.headerIn
  dsimp only
  repeat' split
  all_goals simp

@[simp] theorem State.dataIn_waiting (s : State) (q w : Nat) : (s.dataIn q w).waiting = s.waiting := by simp [State.dataIn]

@[simp] theorem State.startClear_waiting (s : State) (q : Nat) : (s.startClear q).waiting = s.waiting := (rfl)

@[simp] theorem State.startIn_waiting (s : State) (q w : Nat) : (s.startIn q w).waiting = s.waiting := by simp [State.startIn]

@[simp] theorem State.busyCut_waiting (s : State) (q : Nat) (flushed : Bool) : (s.busyCut q flushed).waiting = s.waiting := by
  unfold State.busyCut
  dsimp only
  split <;> simp

@[simp] theorem State.waitStart_waiting (s : State) (q : Nat) : (s.waitStart q).waiting = s.waiting := by simp [State.waitStart]

@[simp] theorem State.flush_waiting (s : State) (q : Nat) : (s.flush q).waiting = s.waiting := by simp [State.flush]

@[simp] theorem State.flushDone_waiting (s : State) (q : Nat) : (s.flushDone q).waiting = s.waiting := by simp [State.flushDone]

@[simp] theorem State.complPop_waiting (s : State) (q : Nat) : (s.complPop q).waiting = s.waiting := by simp [State.complPop]

@[simp] theorem State.seqStop_waiting (s : State) : s.seqStop.waiting = s.waiting := by
  unfold State.seqStop
  dsimp only
  split
  · rfl
  · split <;> simp

/-! ### What Machine/Strobes.lean leaves -/

@[simp] theorem State.commitNow_waiting (s : State) (p : Nat) : (s.commitNow p).waiting = s.waiting := by simp [State.commitNow]

@[simp] theorem State.goDo_waiting (s : State) (p : Nat) : (s.goDo p).waiting = s.waiting := by simp [State.goDo]

@[simp] theorem State.commitBoundary_waiting (s : State) (p st : Nat) : (s.commitBoundary p st).waiting = s.waiting := by
  simp [State.commitBoundary]

@[simp] theorem State.boundariesNow_waiting (s : State) : s.boundariesNow.waiting = s.waiting := by simp [State.boundariesNow]

@[simp] theorem State.dropDo_waiting (s : State) (p : Nat) : (s.dropDo p).waiting = s.waiting := by simp [State.dropDo]

@[simp] theorem State.portEn_waiting (s : State) (n : Nat) : (s.portEn n).waiting = s.waiting := by simp [State.portEn]

@[simp] theorem State.enChanged_waiting (s : State) (p : Nat) : (s.enChanged p).waiting = s.waiting := by simp [State.enChanged]

@[simp] theorem State.wdtMiss_waiting (s : State) (reason : Nat) : (s.wdtMiss reason).waiting = s.waiting := by simp [State.wdtMiss]

@[simp] theorem State.badService_waiting (s : State) (code : Nat) : (s.badService code).waiting = s.waiting := by simp [State.badService]

@[simp] theorem State.pinRefused_waiting (s : State) (m k : Nat) : (s.pinRefused m k).waiting = s.waiting := by simp [State.pinRefused]

@[simp] theorem State.pinClaim_waiting (s : State) (m k data was : Nat) : (s.pinClaim m k data was).waiting = s.waiting := by
  simp [State.pinClaim]

@[simp] theorem State.storeField_waiting (s : State) (p data : Nat) (r : Row) (i : Nat) : (s.storeField p data r i).waiting = s.waiting := by
  unfold State.storeField
  split <;> simp

@[simp] theorem State.storeWord_waiting (s : State) (p off data : Nat) : (s.storeWord p off data).waiting = s.waiting := by
  simp [State.storeWord]

@[simp] theorem State.bankDo_waiting (s : State) (data : Nat) : (s.bankDo data).waiting = s.waiting := by simp [State.bankDo]

@[simp] theorem State.biasClear_waiting (s : State) : s.biasClear.waiting = s.waiting := by simp [State.biasClear]

@[simp] theorem State.storeCmd_waiting (s : State) : s.storeCmd.waiting = s.waiting := by simp [State.storeCmd]

@[simp] theorem State.wakeCmd_waiting (s : State) (n : Nat) : (s.wakeCmd n).waiting = s.waiting := by simp [State.wakeCmd]

theorem State.blockAct_cmdq_waiting (s : State) (m off data was : Nat) : (s.blockAct m 0x00A off data was).waiting = s.waiting := by
  cases hq : queuePort 0x00A off <;> simp [State.blockAct, hq]

theorem State.blockAct_sluice_waiting (s : State) (m off data was : Nat) : (s.blockAct m 0x00C off data was).waiting = s.waiting := by
  cases hx : SLUICE_PEAK_CLR.at off <;> simp [State.blockAct, hx]

@[simp] theorem State.blockAct_waiting (s : State) (m p off data was : Nat) : (s.blockAct m p off data was).waiting = s.waiting := by
  by_cases hq : p = 0x00A
  · exact hq ▸ State.blockAct_cmdq_waiting s m off data was
  by_cases hl : p = 0x00C
  · exact hl ▸ State.blockAct_sluice_waiting s m off data was
  simp [State.blockAct, hq, hl]

@[simp] theorem State.refusalAct_waiting (s : State) (m p off data code : Nat) (own : Bool) :
    (s.refusalAct m p off data code own).waiting = s.waiting := by
  unfold State.refusalAct
  repeat' split
  all_goals simp

/-! ### What Machine/Bus.lean leaves -/

@[simp] theorem State.refuseAt_waiting (s : State) (m : Nat) (wr : Bool) (addr : Nat) (r : Refuse) :
    (s.refuseAt m wr addr r).waiting = s.waiting := by
  simp [State.refuseAt]

@[simp] theorem State.refuseSafe_waiting (s : State) (m : Nat) (wr : Bool) (addr : Nat) :
    (s.refuseSafe m wr addr).waiting = s.waiting := (rfl)

@[simp] theorem State.attnRest_waiting (s : State) : s.attnRest.waiting = s.waiting := by simp [State.attnRest]

@[simp] theorem State.writeDo_waiting (s : State) (m p off data : Nat) : (s.writeDo m p off data).waiting = s.waiting := by
  simp [State.writeDo]

@[simp] theorem State.pageWrite_waiting (s : State) (m p off data : Nat) : (s.pageWrite m p off data).1.waiting = s.waiting := by
  unfold State.pageWrite
  repeat' split
  all_goals simp

@[simp] theorem State.pageWrites_waiting (s : State) (m p off data : Nat) : (s.pageWrites m p off data).1.waiting = s.waiting := by
  unfold State.pageWrites
  split
  · simp
  · refine foldl_fst_waiting _ _ (fun a d => ?_) _
    dsimp only
    exact State.pageWrite_waiting ..

@[simp] theorem State.writeWord_waiting (s : State) (m addr data : Nat) : (s.writeWord m addr data).1.waiting = s.waiting := by
  unfold State.writeWord
  repeat' split
  all_goals simp

@[simp] theorem State.readAct_waiting (s : State) (p off : Nat) : (s.readAct p off).waiting = s.waiting := by simp [State.readAct]

@[simp] theorem State.pageRead_waiting (s : State) (m p off : Nat) : (s.pageRead m p off).1.waiting = s.waiting := by
  unfold State.pageRead
  split_ifs <;> simp

@[simp] theorem State.readWord_waiting (s : State) (m addr : Nat) : (s.readWord m addr).1.waiting = s.waiting := by
  unfold State.readWord
  repeat' split
  all_goals simp

@[simp] theorem State.noteLast_waiting (s : State) (m k : Nat) : (s.noteLast m k).waiting = s.waiting := by simp [State.noteLast]

@[simp] theorem State.noteCode_waiting (s : State) (m k : Nat) : (s.noteCode m k).waiting = s.waiting := by simp [State.noteCode]

@[simp] theorem State.takePosted_waiting (s : State) : s.takePosted.waiting = s.waiting := by
  unfold State.takePosted
  split <;> simp

@[simp] theorem State.takeAllPosted_waiting (s : State) (f : Nat) : (s.takeAllPosted f).waiting = s.waiting := by
  induction f generalizing s with
  | zero => rfl
  | succ f ih =>
    unfold State.takeAllPosted
    split <;> simp [ih]

@[simp] theorem State.settlePosted_waiting (s : State) (addr : Nat) : (s.settlePosted addr).waiting = s.waiting := by
  simp [State.settlePosted]

@[simp] theorem State.refuseNvm_waiting (s : State) (m addr : Nat) : (s.refuseNvm m addr).waiting = s.waiting := by simp [State.refuseNvm]

@[simp] theorem State.busWrite_waiting (s : State) (m addr data : Nat) : (s.busWrite m addr data).1.waiting = s.waiting := by
  unfold State.busWrite
  split_ifs <;> simp

@[simp] theorem State.postWrite_waiting (s : State) (m addr data : Nat) : (s.postWrite m addr data).1.waiting = s.waiting := by
  unfold State.postWrite
  split <;> simp

@[simp] theorem State.busRead_waiting (s : State) (m addr : Nat) : (s.busRead m addr).1.waiting = s.waiting := by
  unfold State.busRead
  split_ifs <;> simp

@[simp] theorem State.busReadFor_waiting (s : State) (m addr : Nat) : (s.busReadFor m addr).1.waiting = s.waiting := by
  unfold State.busReadFor
  split <;> simp

@[simp] theorem State.busWriteFor_waiting (s : State) (m addr data : Nat) : (s.busWriteFor m addr data).1.waiting = s.waiting := by
  unfold State.busWriteFor
  split <;> simp

@[simp] theorem State.itemRead_waiting (s : State) (q addr : Nat) : (s.itemRead q addr).1.waiting = s.waiting := by
  unfold State.itemRead
  split <;> simp

@[simp] theorem State.itemWrite_waiting (s : State) (q addr data : Nat) : (s.itemWrite q addr data).1.waiting = s.waiting := by
  simp [State.itemWrite]

@[simp] theorem State.noteFrom_waiting (s t : State) (m k : Nat) : (s.noteFrom t m k).waiting = t.waiting := by simp [State.noteFrom]

@[simp] theorem State.writeNow_waiting (s : State) (m addr data : Nat) : (s.writeNow m addr data).waiting = s.waiting := by
  simp [State.writeNow]

@[simp] theorem State.command_waiting (s : State) (m p off data : Nat) : (s.command m p off data).waiting = s.waiting := by
  simp [State.command]

/-! ### What Machine/Boot.lean leaves -/

@[simp] theorem State.bootBegin_waiting (s : State) : s.bootBegin.waiting = s.waiting := by simp [State.bootBegin]

@[simp] theorem State.pathsOff_waiting (s : State) : s.pathsOff.waiting = s.waiting := by simp [State.pathsOff]

@[simp] theorem State.strapLatch_waiting (s : State) (s1 s2 s3 s4 addr : Nat) (hostsel : Bool) :
    (s.strapLatch s1 s2 s3 s4 addr hostsel).waiting = s.waiting := by
  unfold State.strapLatch
  dsimp only
  split <;> simp

@[simp] theorem State.enterSafe_waiting (s : State) : s.enterSafe.waiting = s.waiting := (rfl)

@[simp] theorem State.journalFix_waiting (s : State) (e : Nat × Nat) : (s.journalFix e).waiting = s.waiting := by simp [State.journalFix]

@[simp] theorem State.shadowFix_waiting (s : State) (k : Nat) : (s.shadowFix k).waiting = s.waiting := by simp [State.shadowFix]

@[simp] theorem State.granBoot_waiting (s : State) : s.granBoot.waiting = s.waiting := by simp [State.granBoot]

@[simp] theorem State.seedBoot_waiting (s : State) : s.seedBoot.waiting = s.waiting := by
  unfold State.seedBoot
  split <;> simp

@[simp] theorem State.bootEntry_waiting (s : State) (e : Nat × Nat) : (s.bootEntry e).waiting = s.waiting := by
  unfold State.bootEntry
  dsimp only
  split <;> simp

@[simp] theorem State.imageBoot_waiting (s : State) : s.imageBoot.waiting = s.waiting := by
  unfold State.imageBoot
  repeat' split
  all_goals simp

@[simp] theorem State.trimPut_waiting (s : State) (i : Nat) (bs : List Byte) (factory : Bool) :
    (s.trimPut i bs factory).waiting = s.waiting := (rfl)

@[simp] theorem State.trimBoot_waiting (s : State) (valid : List Rec) (i : Nat) : (s.trimBoot valid i).waiting = s.waiting := by
  unfold State.trimBoot
  split
  · rfl
  · split <;> simp

@[simp] theorem State.trimsBoot_waiting (s : State) : s.trimsBoot.waiting = s.waiting := by simp [State.trimsBoot]

@[simp] theorem State.mirrorBoot_waiting (s : State) (es : List Event) : (s.mirrorBoot es).waiting = s.waiting := by simp [State.mirrorBoot]

@[simp] theorem State.shadowBoot_waiting (s : State) : s.shadowBoot.waiting = s.waiting := by
  unfold State.shadowBoot
  split <;> simp

@[simp] theorem State.kaReport_waiting (s : State) (n : Nat) : (s.kaReport n).waiting = s.waiting := by simp [State.kaReport]

@[simp] theorem State.loftBoot_waiting (s : State) : s.loftBoot.waiting = s.waiting := by
  unfold State.loftBoot
  dsimp only
  split
  · simp only [State.waiting_mk, State.put_waiting, State.setBank_waiting]
  · simp only [State.event_waiting, State.waiting_mk, State.put_waiting, State.setBank_waiting]

@[simp] theorem State.bootRun_waiting (s : State) : s.bootRun.waiting = s.waiting := by
  unfold State.bootRun
  extract_lets soft image _ s1 s2 s3 s4 _ s5 t1 t2 t3 s6 s7 s8 _ s9
  have h1 : s1.waiting = s.waiting := by simp only [s1, State.granBoot_waiting, State.put_waiting, State.waiting_mk]
  have h3 : s3.waiting = s1.waiting := by simp [↓ite_waiting, s3, s2]
  have h4 : s4.waiting = s3.waiting := by simp [s4]
  have h5 : s5.waiting = s4.waiting := State.waiting_mk s4 ..
  have t3_eq : t3.waiting = s5.waiting := by simp [t3, t2, t1]
  have h6 : s6.waiting = s5.waiting := by simp [s6, t3_eq]
  have h8 : s8.waiting = s6.waiting := by simp [↓ite_waiting, s8, s7]
  have h9 : s9.waiting = s8.waiting := (State.preErase_waiting _).trans (State.waiting_mk s8 ..)
  simp only [State.rechoose_waiting, State.domainsSync_waiting, State.axesNow_waiting, h1, h3, h4, h5, h6, h8, h9]

@[simp] theorem State.bootSampled_waiting (s : State) (s1 s2 s3 s4 addr : Nat) (hostsel : Bool) :
    (s.bootSampled s1 s2 s3 s4 addr hostsel).waiting = s.waiting := by
  simp [State.bootSampled]

@[simp] theorem State.resetRelease_waiting (s : State) (s1 s2 s3 s4 addr : Nat) (hostsel : Bool) :
    (s.resetRelease s1 s2 s3 s4 addr hostsel).waiting = s.waiting := by
  simp [State.resetRelease]

@[simp] theorem State.bootResume_waiting (s : State) : s.bootResume.waiting = s.waiting := by
  unfold State.bootResume
  split <;> simp

@[simp] theorem State.kaEnd_waiting (s : State) (n : Nat) : (s.kaEnd n).waiting = s.waiting := by simp [State.kaEnd]

@[simp] theorem State.serviceBoot_waiting (s : State) : s.serviceBoot.waiting = s.waiting := by simp [State.serviceBoot]

@[simp] theorem State.bootDone_waiting (s : State) (us : Nat) : (s.bootDone us).waiting = s.waiting := by
  unfold State.bootDone
  dsimp only
  split
  · rfl
  · split <;> simp

@[simp] theorem State.bootStalled_waiting (s : State) : s.bootStalled.waiting = s.waiting := by simp [State.bootStalled]

/-! ### What Machine/Items.lean leaves -/

@[simp] theorem State.itemBegin_waiting (s : State) (q : Nat) (script : Bool) (i : List Nat) :
    (s.itemBegin q script i).waiting = s.waiting := by
  simp [State.itemBegin]

@[simp] theorem State.itemFinish_waiting (s : State) (q : Nat) (script : Bool) (i : List Nat) (code : Nat) (met : Bool) (result : Nat) :
    (s.itemFinish q script i code met result).waiting = s.waiting := by
  unfold State.itemFinish
  split <;> simp

@[simp] theorem State.itemHold_waiting (s : State) (q : Nat) (script : Bool) (i : List Nat) (w : Nat) :
    (s.itemHold q script i w).waiting = s.waiting := (rfl)

@[simp] theorem State.itemRun_waiting (s : State) (op : Nat) (act : State → Nat → Bool → List Nat → State)
    (hact : ∀ t q script i, (act t q script i).waiting = t.waiting) : (s.itemRun op act).waiting = s.waiting := by
  unfold State.itemRun
  split
  · split <;> simp [hact]
  · rfl

@[simp] theorem State.writeRun_waiting (s : State) (m a k : Nat) (l : List Nat) : (s.writeRun m a k l).1.waiting = s.waiting := by
  induction l generalizing s a k with
  | nil => rfl
  | cons w l ih =>
    unfold State.writeRun
    dsimp only
    split <;> simp [ih]

@[simp] theorem State.doWrite_waiting (s : State) (q : Nat) (script : Bool) (i : List Nat) : (s.doWrite q script i).waiting = s.waiting := by
  simp [State.doWrite]

@[simp] theorem State.doModify_waiting (s : State) (q : Nat) (script : Bool) (i : List Nat) :
    (s.doModify q script i).waiting = s.waiting := by
  simp [State.doModify]

@[simp] theorem State.doPoll_waiting (s : State) (last : Bool) (q : Nat) (script : Bool) (i : List Nat) :
    (s.doPoll last q script i).waiting = s.waiting := by
  simp [State.doPoll]

@[simp] theorem State.doWait_waiting (s : State) (us q : Nat) (script : Bool) (i : List Nat) :
    (s.doWait us q script i).waiting = s.waiting := by
  simp [State.doWait]

@[simp] theorem State.doOne_waiting (s : State) (addr data : List Nat → Nat) (q : Nat) (script : Bool) (i : List Nat) :
    (s.doOne addr data q script i).waiting = s.waiting := by
  simp [State.doOne]

@[simp] theorem State.pollEnd_waiting (s : State) (q : Nat) : (s.pollEnd q).waiting = s.waiting := by
  unfold State.pollEnd
  split <;> simp

@[simp] theorem State.waitEnd_waiting (s : State) (q : Nat) : (s.waitEnd q).waiting = s.waiting := by
  unfold State.waitEnd
  split <;> simp

/-! ### What Machine/Host.lean leaves -/

@[simp] theorem State.ifWrite_waiting (s : State) (m addr data : Nat) : (s.ifWrite m addr data).1.waiting = s.waiting := by
  simp [State.ifWrite]

@[simp] theorem State.ifWrites_waiting (s : State) (m a : Nat) (l : List Nat) : (s.ifWrites m a l).waiting = s.waiting := by
  induction l generalizing s a with
  | nil => rfl
  | cons w l ih => exact (ih _ _).trans (State.ifWrite_waiting ..)

@[simp] theorem State.i2cLeft_waiting (s : State) (addr : Nat) (read : Bool) : (s.i2cLeft addr read).waiting = s.waiting := by
  simp [State.i2cLeft]

@[simp] theorem State.i2cNack_waiting (s : State) : s.i2cNack.waiting = s.waiting := (rfl)

@[simp] theorem State.i2cOpen_waiting (s : State) (read : Bool) (ptr : Option Nat) : (s.i2cOpen read ptr).waiting = s.waiting := by
  simp [State.i2cOpen]

@[simp] theorem State.i2cAddress_waiting (s : State) (addr : Nat) (read : Bool) (ptr : Option Nat) :
    (s.i2cAddress addr read ptr).waiting = s.waiting := by
  simp [State.i2cAddress]

@[simp] theorem State.i2cWrite_waiting (s : State) (data : Nat) : (s.i2cWrite data).waiting = s.waiting := by simp [State.i2cWrite]

@[simp] theorem State.i2cDrain_waiting (s : State) : s.i2cDrain.waiting = s.waiting := by simp [State.i2cDrain]

@[simp] theorem State.i2cRead_waiting (s : State) : s.i2cRead.waiting = s.waiting := by simp [State.i2cRead]

@[simp] theorem State.i2cStop_waiting (s : State) (cut : Bool) : (s.i2cStop cut).waiting = s.waiting := by
  unfold State.i2cStop
  split <;> simp

@[simp] theorem State.sdaStuck_waiting (s : State) : s.sdaStuck.waiting = s.waiting := by simp [State.sdaStuck]

@[simp] theorem State.attnStart_waiting (s : State) : s.attnStart.waiting = s.waiting := by simp [State.attnStart]

@[simp] theorem State.attnTry_waiting (s : State) (outcome : Nat) : (s.attnTry outcome).waiting = s.waiting := by simp [State.attnTry]

@[simp] theorem State.spiBegin_waiting (s : State) (txn low : Nat) : (s.spiBegin txn low).waiting = s.waiting := (rfl)

@[simp] theorem State.spiFall_waiting (s : State) : s.spiFall.waiting = s.waiting := by simp [State.spiFall]

@[simp] theorem State.spiNop_waiting (s : State) : s.spiNop.waiting = s.waiting := by simp [State.spiNop]

@[simp] theorem State.spiWrite_waiting (s : State) (addr : Nat) (words : List Nat) : (s.spiWrite addr words).waiting = s.waiting := by
  simp [State.spiWrite]

@[simp] theorem State.spiReads_waiting (s : State) (a n : Nat) : (s.spiReads a n).waiting = s.waiting := by
  induction n generalizing s a with
  | zero => rfl
  | succ n ih =>
    unfold State.spiReads
    simp [ih]

@[simp] theorem State.spiRead_waiting (s : State) (addr n : Nat) : (s.spiRead addr n).waiting = s.waiting := by simp [State.spiRead]

@[simp] theorem State.spiBad_waiting (s : State) (b : Nat) : (s.spiBad b).waiting = s.waiting := by simp [State.spiBad]

@[simp] theorem State.spiRise_waiting (s : State) (cut : Bool) : (s.spiRise cut).waiting = s.waiting := by
  unfold State.spiRise
  split <;> simp

@[simp] theorem State.tapInstr_waiting (s : State) (code : Nat) : (s.tapInstr code).waiting = s.waiting := by simp [State.tapInstr]

@[simp] theorem State.tapExtest_waiting (s : State) : s.tapExtest.waiting = s.waiting := by simp [State.tapExtest]

@[simp] theorem State.tapAccess_waiting (s : State) (write : Bool) (addr data : Nat) :
    (s.tapAccess write addr data).waiting = s.waiting := by
  simp [State.tapAccess]

@[simp] theorem State.haltEnd_waiting (s : State) : s.haltEnd.waiting = s.waiting := by simp [State.haltEnd]

@[simp] theorem State.tapHalt_waiting (s : State) (on : Bool) : (s.tapHalt on).waiting = s.waiting := by simp [State.tapHalt]

@[simp] theorem State.tapReset_waiting (s : State) : s.tapReset.waiting = s.waiting := by simp [State.tapReset]

/-! ### What Machine/Supply.lean leaves -/

@[simp] theorem State.setSupply_waiting (s : State) (k : Nat) (b : Bool) : (s.setSupply k b).waiting = s.waiting := (rfl)

@[simp] theorem State.supplyLoss_waiting (s : State) (k : Nat) : (s.supplyLoss k).waiting = s.waiting := by simp [State.supplyLoss]

@[simp] theorem State.supplyBack_waiting (s : State) (k : Nat) : (s.supplyBack k).waiting = s.waiting := by simp [State.supplyBack]

@[simp] theorem State.supplyGood_waiting (s : State) (k : Nat) : (s.supplyGood k).waiting = s.waiting := by simp [State.supplyGood]

@[simp] theorem State.vbatOut_waiting (s : State) (mv : Nat) : (s.vbatOut mv).waiting = s.waiting := by simp [State.vbatOut]

@[simp] theorem State.vbatIn_waiting (s : State) : s.vbatIn.waiting = s.waiting := (rfl)

@[simp] theorem State.strapMoved_waiting (s : State) (live : Nat) : (s.strapMoved live).waiting = s.waiting := by simp [State.strapMoved]

@[simp] theorem State.pfCurrent_waiting (s : State) : s.pfCurrent.waiting = s.waiting := by
  unfold State.pfCurrent
  split <;> simp

@[simp] theorem State.powerFail_waiting (s : State) : s.powerFail.waiting = s.waiting := by
  unfold State.powerFail
  split
  · rfl
  · split <;> simp

@[simp] theorem State.storeDone_waiting (s : State) (fails powered : Bool) : (s.storeDone fails powered).waiting = s.waiting := by
  unfold State.storeDone
  split <;> simp

@[simp] theorem State.storeFloor_waiting (s : State) (bursts : Nat) : (s.storeFloor bursts).waiting = s.waiting := by
  unfold State.storeFloor
  split
  · rfl
  extract_lets all ops s1 s2
  have h1 : s1.waiting = s.waiting := by
    refine foldl_waiting _ _ (fun s op => ?_) s
    split
    · split <;> simp
    · split <;> simp
    · rfl
  simp [s2, h1]

/-! ### What Machine/Tunnel.lean leaves -/

@[simp] theorem State.tunServe_waiting (s : State) (a : TunAcc) : (s.tunServe a).waiting = s.waiting := by
  unfold State.tunServe
  dsimp only
  repeat' split
  all_goals simp

@[simp] theorem State.serveHeld_waiting (s : State) (f : Nat) : (s.serveHeld f).waiting = s.waiting := by
  induction f generalizing s with
  | zero => rfl
  | succ f ih =>
    unfold State.serveHeld
    split
    · split <;> simp [ih]
    · rfl

@[simp] theorem State.tunIn_waiting (s : State) (wr : Bool) (c : Ctrl) : (s.tunIn wr c).waiting = s.waiting := by simp [State.tunIn]

@[simp] theorem State.tunExpire_waiting (s : State) : s.tunExpire.waiting = s.waiting := by
  unfold State.tunExpire
  repeat' split
  all_goals simp

@[simp] theorem State.rresetIn_waiting (s : State) : s.rresetIn.waiting = s.waiting := by simp [State.rresetIn]

@[simp] theorem State.actionGo_waiting (s : State) : s.actionGo.waiting = s.waiting := by
  unfold State.actionGo
  split <;> simp

@[simp] theorem State.calAtOnce_waiting (s : State) : s.calAtOnce.waiting = s.waiting := by simp [State.calAtOnce]

@[simp] theorem State.finish_waiting (s : State) : s.finish.waiting = s.waiting := by simp [State.finish]

/-! ### What Machine/Tick.lean leaves -/

@[simp] theorem State.slotFire_waiting (s : State) (k : Nat) : (s.slotFire k).waiting = s.waiting := by simp [State.slotFire]

@[simp] theorem State.fireDue_waiting (s : State) : s.fireDue.waiting = s.waiting := by simp [State.fireDue]

@[simp] theorem State.countSecond_waiting (s : State) : s.countSecond.waiting = s.waiting := by simp [State.countSecond]

@[simp] theorem State.holdSecond_waiting (s : State) : s.holdSecond.waiting = s.waiting := by
  unfold State.holdSecond
  split <;> simp

@[simp] theorem State.second_waiting (s : State) : s.second.waiting = s.waiting := by simp [State.second]

/-! ### What Machine/ExecAccess.lean leaves -/

@[simp] theorem State.parityError_waiting (s : State) (p off : Nat) : (s.parityError p off).waiting = s.waiting := by
  simp [State.parityError]

@[simp] theorem State.loftRefused_waiting (s : State) (m b i : Nat) : (s.loftRefused m b i).waiting = s.waiting := by
  simp [State.loftRefused]

/-! ### What Machine/ExecPower.lean leaves -/

@[simp] theorem State.sleep_waiting (s : State) (deadlineUs : Nat) : (s.sleep deadlineUs).waiting = s.waiting := by simp [State.sleep]

@[simp] theorem State.exitOver_waiting (s : State) (us : Nat) : (s.exitOver us).waiting = s.waiting := by
  unfold State.exitOver
  split <;> simp

@[simp] theorem State.clockGrant_waiting (s : State) (k : Nat) : (s.clockGrant k).waiting = s.waiting := by simp [State.clockGrant]

@[simp] theorem State.xtalLost_waiting (s : State) : s.xtalLost.waiting = s.waiting := by simp [State.xtalLost]

/-! ### What Machine/ExecArray.lean leaves -/

@[simp] theorem State.overloaded_waiting (s : State) (outputs : Nat) : (s.overloaded outputs).waiting = s.waiting := by
  simp [State.overloaded]

/-! ### What Machine/ExecActuators.lean leaves -/

@[simp] theorem State.motionIn_waiting (s : State) (n t : Nat) : (s.motionIn n t).waiting = s.waiting := by simp [State.motionIn]

@[simp] theorem State.readyLate_waiting (s : State) (n : Nat) : (s.readyLate n).waiting = s.waiting := by simp [State.readyLate]

@[simp] theorem State.coilTick_waiting (s : State) (i2 : List Nat) : (s.coilTick i2).waiting = s.waiting := by simp [State.coilTick]

@[simp] theorem State.tripAll_waiting (s : State) : s.tripAll.waiting = s.waiting := by simp [State.tripAll]

@[simp] theorem State.latchIn_waiting (s : State) (n v : Nat) : (s.latchIn n v).waiting = s.waiting := by simp [State.latchIn]

@[simp] theorem State.watchEnd_waiting (s : State) (n : Nat) (conducts : Bool) : (s.watchEnd n conducts).waiting = s.waiting := by
  simp [State.watchEnd]

@[simp] theorem State.overcurrent_waiting (s : State) (n : Nat) : (s.overcurrent n).waiting = s.waiting := by simp [State.overcurrent]

/-! ### What Machine/ExecSensors.lean leaves -/

@[simp] theorem State.converted_waiting (s : State) (k : Nat) (reading : Int) (points : List Int) :
    (s.converted k reading points).waiting = s.waiting := by
  simp [State.converted]

@[simp] theorem State.alarmWake_waiting (s : State) : s.alarmWake.waiting = s.waiting := by simp [State.alarmWake]

@[simp] theorem State.alarmOut_waiting (s : State) : s.alarmOut.waiting = s.waiting := by simp [State.alarmOut]

@[simp] theorem State.judge_waiting (s : State) : s.judge.waiting = s.waiting := by simp [State.judge]

/-! ### What Machine/ExecLink.lean leaves -/

@[simp] theorem State.linkDone_waiting (s : State) (n : Nat) : (s.linkDone n).waiting = s.waiting := by simp [State.linkDone]

@[simp] theorem State.pocClrWrite_waiting (s : State) (m n : Nat) (persists : Bool) : (s.pocClrWrite m n persists).waiting = s.waiting := by
  unfold State.pocClrWrite
  dsimp only
  repeat' split
  all_goals simp

@[simp] theorem State.coaxRise_waiting (s : State) (near : Bool) : (s.coaxRise near).waiting = s.waiting := by simp [State.coaxRise]

@[simp] theorem State.signatureIn_waiting (s : State) (n mA : Nat) (collided : Bool) :
    (s.signatureIn n mA collided).waiting = s.waiting := by
  simp [State.signatureIn]

/-! ### What Machine/ExecMessages.lean leaves -/

@[simp] theorem State.message_waiting (s : State) (n : Nat) (c : Ctrl) (len : Nat) (numbered up : Bool) (toHead : Option Bool)
    {act : State → State} (hact : ∀ t, (act t).waiting = t.waiting) :
    (s.message n c len numbered up toHead act).waiting = s.waiting := by
  unfold State.message
  dsimp only
  split <;> simp [hact]

@[simp] theorem State.inSession_waiting (s : State) (n : Nat) {act : State → State} (hact : ∀ t, (act t).waiting = t.waiting) :
    (s.inSession n act).waiting = s.waiting := by
  unfold State.inSession
  split
  · exact hact s
  · rfl

@[simp] theorem State.alarmIn_waiting (s : State) (n exceed : Nat) : (s.alarmIn n exceed).waiting = s.waiting := by simp [State.alarmIn]

/-! ### What Machine/ExecGranary.lean leaves -/

@[simp] theorem State.granOp_waiting (s : State) (m : Master) (op : Nat) : (s.granOp m op).waiting = s.waiting := by simp [State.granOp]

@[simp] theorem State.granStep_waiting (s : State) (fails : Bool) : (s.granStep fails).waiting = s.waiting := by simp [State.granStep]

@[simp] theorem State.jobDone_waiting (s : State) : s.jobDone.waiting = s.waiting := by
  unfold State.jobDone
  split <;> simp

@[simp] theorem State.deferRefused_waiting (s : State) : s.deferRefused.waiting = s.waiting := by
  unfold State.deferRefused
  split <;> simp

@[simp] theorem State.scanDone_waiting (s : State) (weak : List Nat) : (s.scanDone weak).waiting = s.waiting := by
  unfold State.scanDone
  dsimp only
  repeat' split
  all_goals simp

@[simp] theorem State.autoStore_waiting (s : State) : s.autoStore.waiting = s.waiting := by simp [State.autoStore]

/-! ### What Machine/ExecIntegrity.lean leaves -/

@[simp] theorem State.windowOpens_waiting (s : State) : s.windowOpens.waiting = s.waiting := by simp [State.windowOpens]

@[simp] theorem State.periodEnds_waiting (s : State) : s.periodEnds.waiting = s.waiting := by simp [State.periodEnds]

@[simp] theorem State.yardTakes_waiting (s : State) : s.yardTakes.waiting = s.waiting := by simp [State.yardTakes]

@[simp] theorem State.crossingLost_waiting (s : State) (dropped : Nat) : (s.crossingLost dropped).waiting = s.waiting := by
  simp [State.crossingLost]

@[simp] theorem State.undefField_waiting (s : State) (p : Nat) (r : Row) (i : Nat) : (s.undefField p r i).waiting = s.waiting := by
  unfold State.undefField
  split <;> simp

@[simp] theorem State.handshakeLost_waiting (s : State) (m addr : Nat) : (s.handshakeLost m addr).waiting = s.waiting := by
  unfold State.handshakeLost
  split
  · rfl
  · split <;> simp

/-! ### The commands -/

theorem execSecondsRead_eq (m : Master) (s : State) :
    execSecondsRead m s =
      .next (s.noteFrom (s.busRead m.num (regAddr 0x001 0x05C)).1 m.num (s.busRead m.num (regAddr 0x001 0x05C)).2.2) := rfl

/-- The one command whose answer is taken out of a read's triple (R112). -/
theorem execSecondsRead_completes (m : Master) (s : State) : ∃ t, execSecondsRead m s = .next t ∧ t.waiting = s.waiting :=
  ⟨_, execSecondsRead_eq m s, by simp⟩

theorem exec_completes (c : Instr) (s : State) : ∃ t, exec c s = .next t ∧ t.waiting = s.waiting := by
  cases c
  case secondsRead m => exact execSecondsRead_completes m s
  -- Every other command answers a composition of the operations above.
  all_goals exact ⟨_, rfl, by simp⟩

/-- Settles O5: every arm of `exec` answers `.next`, and no function of the model touches the queue that `step` takes from. -/
theorem commandsComplete : Obligations.CommandsComplete := by
  unfold Obligations.CommandsComplete
  exact exec_completes

end Sys2Proof.Machine
end

section
/-! Concrete states that refute O19 and O47: what a command changes beyond what its clause lets it change. -/

namespace Sys2Proof.Machine

/-! ### O19: a status message that finds the message part full -/

/-- A HEAD in LIVE with the session of LINK0 in recovery, M1 privileged and accesses served. The message part of the Stall is full: 170
messages of 12 bytes wait in 2 KiB (Table SLU-3). -/
def statusFindsNoRoom : State :=
  { ((((State.reset.put YARD_PD_STATE 0x22).put SYS_PRIV 0xF).put YARD_MODE LIVE).put LINK_SES_STATE 2) with
    boot := { State.reset.boot with inReset := false, served := true }
    link := { LinkS.idle with waiting := List.replicate 170 ⟨0x21, 0, [0], 0⟩ } :: List.replicate 3 LinkS.idle }

/-- Refutes O19: on `statusFindsNoRoom` the transition to SENTRY that MODE_CMD begins is reported to the cab (R411), and the STATUS message
finds no room, which the crossing of LINK0 counts in its STALLS (R561), a field of SLUICE (page 0x00C) that the second clause does not let the
command change. -/
theorem not_modeCommands : ¬ Obligations.ModeCommands := by
  unfold Obligations.ModeCommands
  intro ⟨_, hbegin, _⟩
  obtain ⟨t, hexec, _, _, _, _, _, _, hsame, _⟩ :=
    hbegin .m1 1 statusFindsNoRoom (by decide +kernel) (by decide +kernel)
  have ht : statusFindsNoRoom.command 1 0x001 0x040 1 = t :=
    Host.Outcome.next.inj ((exec_of_commandWrite (i := .modeCmd .m1 1) rfl _).symm.trans hexec)
  have hstalled : (statusFindsNoRoom.command 1 0x001 0x040 1).regs.find (SLUICE_STALLS.key 0 5) 0 ≠
      statusFindsNoRoom.regs.find (SLUICE_STALLS.key 0 5) 0 := by decide +kernel
  exact hstalled (ht ▸ (hsame (SLUICE_STALLS.key 0 5) 0 (by decide) (by decide)).1)

/-! ### O47: a commit that brings a count into force -/

/-- A HEAD in LIVE with PVP on and due to carry video, one stream shown and no buffer ready, whose pending commit of PVP holds 5 for FLIPS. No
run reaches it, since FLIPS is read-only and so never staged; the clause is stated of every state. -/
def flipsStaged : State :=
  (((((State.reset.put YARD_PD_STATE 0x8002).put YARD_MODE LIVE).put YARD_OUTSET 4).put HDR_EN 1 pPVP).put HDR_GO 1 pPVP).stage
    PVP_FLIPS 5 |> fun s => { s with vout := { s.vout with shown := [some 0] } }

/-- PVP_FRAME_START answers the state at the start of an output frame. -/
theorem exec_pvpFrameStart (s : State) : exec .pvpFrameStart s = .next s.pvpBoundary := rfl

/-- Refutes O47: on `flipsStaged` the commit with which the output frame starts (R456) brings 5 into FLIPS, where the third clause counts from
the FLIPS before it; the clause has no premise that only what a write can stage is staged. -/
theorem not_videoOutputs : ¬ Obligations.VideoOutputs := by
  unfold Obligations.VideoOutputs
  intro ⟨_, _, hstart, _⟩
  obtain ⟨t, hexec, _, _, _, _, _, _, _, _, hflips, _⟩ :=
    hstart flipsStaged (by decide +kernel) (by decide +kernel) (by decide +kernel)
  have ht : flipsStaged.pvpBoundary = t := Host.Outcome.next.inj ((exec_pvpFrameStart _).symm.trans hexec)
  subst ht
  have hcount := hflips (by decide +kernel) (by decide +kernel) (by decide +kernel) (by decide +kernel) (by decide +kernel)
  exact absurd hcount (by decide +kernel)

end Sys2Proof.Machine
end


section
/-! O20: what a mode transition leaves. -/

namespace Sys2Proof.Machine

open Sys2Proof

/-- What a transition ends with: the mode's own fields, the transition and the service in progress and the fault of R97; beside them
the memories of `State.SameMemory` and whether a store runs, where `μ` asks for them, and PD_STATE of the domains, where `δ` does. -/
structure Held where
  mode : Nat
  target : Nat
  busy : Nat
  cause : Nat
  blocked : Nat
  trans : Option Trans
  service : Option Service
  stuck : Bool
  memory : Option (Memory × Image × Image × Image × Image × Image × Memory × Option (Nat × Nat))
  domains : Option Nat

/-- `State.held` by what it reads of the state. -/
def heldOf (μ δ : Bool) (regs : Store) (mem : Memory) (factory fieldA fieldB bankA bankB : Image) (sram : Memory)
    (storing : Option (Nat × Nat)) (trans : Option Trans) (service : Option Service) (stuck : Bool) : Held where
  mode := regs.find (YARD_MODE.key 0 0) (YARD_MODE.rst 0)
  target := regs.find (YARD_MODE_TARGET.key 0 0) (YARD_MODE_TARGET.rst 0)
  busy := regs.find (YARD_MODE_BUSY.key 0 0) (YARD_MODE_BUSY.rst 0)
  cause := regs.find (YARD_MODE_CAUSE.key 0 0) (YARD_MODE_CAUSE.rst 0)
  blocked := regs.find (YARD_L4_BLOCKED.key 0 0) (YARD_L4_BLOCKED.rst 0)
  trans := trans
  service := service
  stuck := stuck
  memory := if μ then some (mem, factory, fieldA, fieldB, bankA, bankB, sram, storing) else none
  domains := if δ then some (regs.find (YARD_PD_STATE.key 0 0) (YARD_PD_STATE.rst 0)) else none

/-- What of `Held` the state holds. -/
def State.held (μ δ : Bool) (s : State) : Held :=
  heldOf μ δ s.regs s.gran.mem s.gran.factory s.gran.fieldA s.gran.fieldB s.loft.bankA s.loft.bankB s.shadow.sram s.shadow.storing
    s.yard.trans s.yard.service s.yard.stuck

variable {μ δ : Bool}

/-! ### Records, choices and folds -/

/-- An update of the record that leaves what is held: `simp` uses it before it looks into the update, with `rfl` for the hypothesis. -/
theorem State.held_mk (s : State) (pending staged parity owed log wdt yard boot gran shadow host loft semHold temp sol solc fpa cal
    mill nuc sen link linkc vid vout slu hsFault freeCtr)
    (h : heldOf μ δ s.regs gran.mem gran.factory gran.fieldA gran.fieldB loft.bankA loft.bankB shadow.sram shadow.storing yard.trans
      yard.service yard.stuck =
      heldOf μ δ s.regs s.gran.mem s.gran.factory s.gran.fieldA s.gran.fieldB s.loft.bankA s.loft.bankB s.shadow.sram s.shadow.storing
        s.yard.trans s.yard.service s.yard.stuck) :
    State.held μ δ ⟨pending, s.regs, staged, parity, owed, log, wdt, yard, boot, gran, shadow, host, loft, semHold, temp, sol, solc, fpa,
      cal, mill, nuc, sen, link, linkc, vid, vout, slu, hsFault, freeCtr⟩ = s.held μ δ := h

@[simp] theorem ite_held (c : Prop) [Decidable c] (s t : State) :
    (if c then s else t).held μ δ = if c then s.held μ δ else t.held μ δ := apply_ite (State.held μ δ) c s t

theorem foldl_held {α : Type} (l : List α) (f : State → α → State) (hf : ∀ s, ∀ a ∈ l, (f s a).held μ δ = s.held μ δ)
    (s : State) : (l.foldl f s).held μ δ = s.held μ δ := by
  induction l generalizing s with
  | nil => rfl
  | cons a l ih => exact (ih (fun s a ha => hf s a (.tail _ ha)) _).trans (hf s a (.head _))

/-! ### The state's own operations -/

/-- The fields of `Held` but for PD_STATE. -/
def modeKeys : List Nat :=
  [YARD_MODE.key 0 0, YARD_MODE_TARGET.key 0 0, YARD_MODE_BUSY.key 0 0, YARD_MODE_CAUSE.key 0 0, YARD_L4_BLOCKED.key 0 0]

/-- The fields of `Held`. -/
def heldKeys : List Nat := YARD_PD_STATE.key 0 0 :: modeKeys

theorem State.put_held_of (s : State) {r : Row} (v : Nat) {n i : Nat} (h : r.key n i ∉ modeKeys)
    (hd : δ = true → r.key n i ≠ YARD_PD_STATE.key 0 0) : (s.put r v n i).held μ δ = s.held μ δ := by
  simp only [modeKeys, List.mem_cons, List.not_mem_nil, or_false, not_or] at h
  obtain ⟨hmode, htarget, hbusy, hcause, hblocked⟩ := h
  simp only [State.held, heldOf, Held.mk.injEq]
  refine ⟨State.get_put_ne s (Ne.symm hmode) v, State.get_put_ne s (Ne.symm htarget) v, State.get_put_ne s (Ne.symm hbusy) v,
    State.get_put_ne s (Ne.symm hcause) v, State.get_put_ne s (Ne.symm hblocked) v, rfl, rfl, rfl, rfl, ?_⟩
  split
  next hδ => exact congrArg some (State.get_put_ne s (Ne.symm (hd hδ)) v)
  next => rfl

theorem State.put_held_key (s : State) {r : Row} (v : Nat) {n i : Nat} (h : r.key n i ∉ heldKeys) :
    (s.put r v n i).held μ δ = s.held μ δ :=
  State.put_held_of s v (fun hm => h (.tail _ hm)) fun _ he => h (List.mem_cons.mpr (.inl he))

/-- A write of a field at another place than theirs, whatever its page. -/
@[simp] theorem State.put_held (s : State) {r : Row} (v n : Nat) {i : Nat} (h : r.key 0 i % 0x20000 ∉ heldKeys.map (· % 0x20000)) :
    (s.put r v n i).held μ δ = s.held μ δ := by
  refine State.put_held_key s v fun hk => h ?_
  have hm := List.mem_map_of_mem (f := (· % 0x20000)) hk
  rwa [Row.key_page, Nat.mul_add_mod_self_right] at hm

/-- A write of a field of a page above the Yard's. -/
@[simp] theorem State.put_held_page (s : State) {r : Row} (v n i : Nat) (h : 1 < r.page) : (s.put r v n i).held μ δ = s.held μ δ := by
  refine State.put_held_key s v fun hk => ?_
  have hle : 2 * 0x20000 ≤ r.key n i := by
    unfold Row.key
    omega
  have hall : ∀ k ∈ heldKeys, k < 2 * 0x20000 := by decide
  exact absurd (hall _ hk) (by omega)

@[simp] theorem State.setPd_held (s : State) (d v : Nat) : (s.setPd d v).held μ false = s.held μ false :=
  State.put_held_of s _ (by decide) (by simp)

@[simp] theorem State.addSat_held (s : State) {r : Row} (v n : Nat) {i : Nat}
    (h : r.key 0 i % 0x20000 ∉ heldKeys.map (· % 0x20000)) : (s.addSat r v n i).held μ δ = s.held μ δ :=
  State.put_held s _ n h

@[simp] theorem State.addSat_held_page (s : State) {r : Row} (v n i : Nat) (h : 1 < r.page) :
    (s.addSat r v n i).held μ δ = s.held μ δ := State.put_held_page s _ n i h

@[simp] theorem State.inc_held (s : State) {r : Row} (n : Nat) {i : Nat} (h : r.key 0 i % 0x20000 ∉ heldKeys.map (· % 0x20000)) :
    (s.inc r n i).held μ δ = s.held μ δ := State.put_held s _ n h

@[simp] theorem State.inc_held_page (s : State) {r : Row} (n i : Nat) (h : 1 < r.page) : (s.inc r n i).held μ δ = s.held μ δ :=
  State.put_held_page s _ n i h

@[simp] theorem State.incWrap_held (s : State) {r : Row} (n : Nat) {i : Nat} (h : r.key 0 i % 0x20000 ∉ heldKeys.map (· % 0x20000)) :
    (s.incWrap r n i).held μ δ = s.held μ δ := State.put_held s _ n h

@[simp] theorem State.incWrap_held_page (s : State) {r : Row} (n i : Nat) (h : 1 < r.page) : (s.incWrap r n i).held μ δ = s.held μ δ :=
  State.put_held_page s _ n i h

@[simp] theorem State.stage_held (s : State) (r : Row) (v n i : Nat) : (s.stage r v n i).held μ δ = s.held μ δ := rfl

@[simp] theorem State.fresh_held (s : State) : s.fresh.2.held μ δ = s.held μ δ := rfl

/-- An update of the Granary that leaves its bytes. -/
@[simp] theorem State.onGran_held (s : State) {f : GranS → GranS}
    (h : ∀ g, ((f g).mem, (f g).factory, (f g).fieldA, (f g).fieldB) = (g.mem, g.factory, g.fieldA, g.fieldB)) :
    (s.onGran f).held μ δ = s.held μ δ := by
  have hg := h s.gran
  simp only [Prod.mk.injEq] at hg
  obtain ⟨hmem, hfactory, ha, hb⟩ := hg
  simp only [State.held, State.onGran, hmem, hfactory, ha, hb]

@[simp] theorem State.event_held (s : State) (code data : Nat) : (s.event code data).held μ δ = s.held μ δ := by
  have h := (s.event_logsOnly code data).1
  have hget : ∀ {r : Row}, r.key 0 0 ∈ heldKeys → (s.event code data).get r = s.get r := fun {r} hr => by
    have hall : ∀ k ∈ heldKeys, k ∉ logCountKeys ∧ ¬InRing k := by decide
    exact State.event_get s code data (hall _ hr).1 (hall _ hr).2
  simp only [State.held, heldOf, Held.mk.injEq]
  refine ⟨hget (by decide), hget (by decide), hget (by decide), hget (by decide), hget (by decide), ?_, ?_, ?_, ?_, ?_⟩
  · rw [h]
  · rw [h]
  · rw [h]
  · rw [h]
  · exact congrArg (fun x => if δ then some x else none) (hget (r := YARD_PD_STATE) (by decide))

end Sys2Proof.Machine
end

section
namespace Sys2Proof.Machine
open Sys2Proof
variable {μ δ : Bool}

/-! ### What Machine/Ops.lean and the files after it, up to Machine/Fpa.lean, leave -/

@[simp] theorem State.raise_held (s : State) (p bits : Nat) : (s.raise p bits).held μ δ = s.held μ δ := by
  simp (disch := decide) [State.raise]

/-- Only the array's page is marked in a transition (R194). -/
@[simp] theorem State.setDefaulted_held (s : State) : (s.setDefaulted 0x011).held μ δ = s.held μ δ := by
  simp (disch := decide) [State.setDefaulted]

@[simp] theorem State.noteErr_held (s : State) (m : Nat) (wr : Bool) (p off code : Nat) :
    (s.noteErr m wr p off code).held μ δ = s.held μ δ := by
  simp (disch := decide) [State.noteErr]

@[simp] theorem State.advanceEpoch_held (s : State) (m : Nat) : (s.advanceEpoch m).held μ δ = s.held μ δ := by
  simp (disch := decide) [State.advanceEpoch]

@[simp] theorem State.sluicePeak_held (s : State) (x k : Nat) : (s.sluicePeak x k).held μ δ = s.held μ δ := by
  simp (disch := decide) [State.sluicePeak]

@[simp] theorem State.sluiceEmpty_held (s : State) (x : Nat) : (s.sluiceEmpty x).held μ δ = s.held μ δ := by
  simp [State.sluiceEmpty, State.held_mk]

@[simp] theorem State.sluiceFlush_held (s : State) (x k : Nat) : (s.sluiceFlush x k).held μ δ = s.held μ δ := by
  simp (disch := decide) [State.sluiceFlush]

@[simp] theorem State.rechoose_held (s : State) : s.rechoose.held μ δ = s.held μ δ := by
  unfold State.rechoose
  dsimp only
  split <;> simp (disch := decide)

@[simp] theorem State.clockSync_held (s : State) : s.clockSync.held μ δ = s.held μ δ := by
  simp (disch := decide) [State.clockSync]

/-- No field of a Yard slot is among `heldKeys`. -/
theorem slotKey_not_held : ∀ k < 4, YARD_MATCH_SEC.key 0 k ∉ heldKeys ∧ YARD_MATCH_TICK.key 0 k ∉ heldKeys ∧
    YARD_HOLDER.key 0 k ∉ heldKeys ∧ YARD_ARMED.key 0 k ∉ heldKeys := by decide

@[simp] theorem State.armSlot_held (s : State) {k : Nat} (sec tick : Nat) (hk : k < 4) :
    (s.armSlot k sec tick).held μ δ = s.held μ δ := by
  obtain ⟨hsec, htick, hholder, harmed⟩ := slotKey_not_held k hk
  exact (State.put_held_key _ _ harmed).trans ((State.put_held_key _ _ hholder).trans
    ((State.put_held_key _ _ htick).trans (State.put_held_key _ _ hsec)))

@[simp] theorem State.disarmSlot_held (s : State) {k : Nat} (hk : k < 4) : (s.disarmSlot k).held μ δ = s.held μ δ :=
  State.put_held_key _ _ (slotKey_not_held k hk).2.2.2

@[simp] theorem State.armScan_held (s : State) : s.armScan.held μ δ = s.held μ δ := by
  simp [State.armScan]

@[simp] theorem State.dropStaged_held (s : State) (p : Nat) : (s.dropStaged p).held μ δ = s.held μ δ := by
  simp +decide [State.dropStaged, State.held_mk]

@[simp] theorem State.endFill_held (s : State) (result : Nat) : (s.endFill result).held μ δ = s.held μ δ := by
  have hrow : 1 < (completeRow s.inactive).page := by
    unfold completeRow
    split <;> decide
  unfold State.endFill
  extract_lets t
  change t.held μ δ = s.held μ δ
  simp (disch := decide) [t, State.put_held_page _ _ _ _ hrow]

@[simp] theorem State.recover_held (s : State) (n owner : Nat) : (s.recover n owner).held μ δ = s.held μ δ := by
  unfold State.recover
  split_ifs
  · simp
  · rfl
  · simp
  · simp (disch := decide)
  · refine foldl_held _ _ (fun s k _ => ?_) s
    simp
  · rfl

/-- No semaphore's field is among `heldKeys`. -/
theorem lockKey_not_held : ∀ n < 8, LOCK_STATE.key 0 n ∉ heldKeys ∧ LOCK_ORPHANS.key 0 n ∉ heldKeys := by decide

theorem State.orphan_held (s : State) {n : Nat} (cause : Nat) (hn : n < 8) : (s.orphan n cause).held μ δ = s.held μ δ := by
  obtain ⟨hstate, horphans⟩ := lockKey_not_held n hn
  have hcount (t : State) : (t.inc LOCK_ORPHANS 0 n).held μ δ = t.held μ δ := State.put_held_key _ _ horphans
  have hfree (t : State) : (t.put LOCK_STATE 2 0 n).held μ δ = t.held μ δ := State.put_held_key _ _ hstate
  simp [State.orphan, hcount, hfree, State.held_mk]

@[simp] theorem State.orphanAll_held (s : State) (m cause : Nat) : (s.orphanAll m cause).held μ δ = s.held μ δ := by
  refine foldl_held _ _ (fun s n hn => ?_) s
  split
  · exact State.orphan_held s cause (List.mem_range.mp hn)
  · rfl

@[simp] theorem State.extestEnd_held (s : State) : s.extestEnd.held μ δ = s.held μ δ := by
  simp (disch := decide) [State.extestEnd]

@[simp] theorem State.startPeriod_held (s : State) : s.startPeriod.held μ δ = s.held μ δ := by
  simp +decide [State.startPeriod, State.held_mk]

@[simp] theorem State.wdtSync_held (s : State) : s.wdtSync.held μ δ = s.held μ δ := by
  simp +decide [State.wdtSync, State.held_mk]

theorem State.takeStaged_held (s : State) {q : Nat} {e : Nat × Nat} (h : e.1 ∉ heldKeys) :
    (s.takeStaged q e).held μ δ = s.held μ δ := by
  simp only [heldKeys, modeKeys, List.mem_cons, List.not_mem_nil, or_false, not_or] at h
  obtain ⟨hpd, hmode, htarget, hbusy, hcause, hblocked⟩ := h
  unfold State.takeStaged State.held heldOf
  simp only [Store.find_set_ne _ (Ne.symm hpd), Store.find_set_ne _ (Ne.symm hmode), Store.find_set_ne _ (Ne.symm htarget),
    Store.find_set_ne _ (Ne.symm hbusy), Store.find_set_ne _ (Ne.symm hcause), Store.find_set_ne _ (Ne.symm hblocked)]

/-- The staged values of another page than the Yard's. -/
@[simp] theorem State.takeWhere_held (s : State) {q : Nat} (f : Nat → Bool) (hq : q ≠ 1) : (s.takeWhere q f).held μ δ = s.held μ δ := by
  refine foldl_held _ _ (fun s e he => State.takeStaged_held s fun hk => hq ?_) s
  have hall : ∀ k ∈ heldKeys, keyPage k = 1 := by decide
  simp only [List.mem_filter, Bool.and_eq_true, beq_iff_eq] at he
  obtain ⟨-, hpage, -⟩ := he
  exact hpage.symm.trans (hall _ hk)

@[simp] theorem State.commitPage_held (s : State) {q : Nat} (hq : q ≠ 1) : (s.commitPage q).held μ δ = s.held μ δ := by
  simp (disch := decide) [State.commitPage, State.takeWhere_held _ _ hq]

@[simp] theorem State.setChan_held (s : State) (n : Nat) (ch : SolS) : (s.setChan n ch).held μ δ = s.held μ δ := by
  simp [State.setChan, State.held_mk]

@[simp] theorem State.solFlag_held (s : State) (n b : Nat) : (s.solFlag n b).held μ δ = s.held μ δ := by
  simp (disch := decide) [State.solFlag]

@[simp] theorem State.boostSync_held (s : State) (need : Bool) : (s.boostSync need).held μ δ = s.held μ δ := by
  simp (disch := decide) [State.boostSync]

@[simp] theorem State.releaseRail_held (s : State) (n : Nat) : (s.releaseRail n).held μ δ = s.held μ δ := by
  simp (disch := decide) [State.releaseRail]

@[simp] theorem State.toOff_held (s : State) (n : Nat) (rest : Bool) : (s.toOff n rest).held μ δ = s.held μ δ := by
  simp (disch := decide) [State.toOff]

@[simp] theorem State.origin_held (s : State) (n sw : Nat) : (s.origin n sw).held μ δ = s.held μ δ := by
  unfold State.origin
  extract_lets t u
  rw [State.setChan_held]
  change t.held μ δ = s.held μ δ
  simp (disch := decide) [t]

@[simp] theorem State.enterBat_held (s : State) (n ph : Nat) (cur : Bool) : (s.enterBat n ph cur).held μ δ = s.held μ δ := by
  simp (disch := decide) [State.enterBat]

@[simp] theorem State.advance_held (s : State) (n ph : Nat) (cur : Bool) : (s.advance n ph cur).held μ δ = s.held μ δ := by
  simp [State.advance]

@[simp] theorem State.boostOn_held (s : State) (n : Nat) : (s.boostOn n).held μ δ = s.held μ δ := by
  simp (disch := decide) [State.boostOn]

@[simp] theorem State.notReady_held (s : State) (n : Nat) : (s.notReady n).held μ δ = s.held μ δ := by
  simp [State.notReady]

@[simp] theorem State.withRail_held (s : State) (n : Nat) : (s.withRail n).held μ δ = s.held μ δ := by
  simp (disch := decide) [State.withRail]

@[simp] theorem State.railRefuse_held (s : State) (n : Nat) : (s.railRefuse n).held μ δ = s.held μ δ := by
  simp (disch := decide) [State.railRefuse]

@[simp] theorem State.needRail_held (s : State) (n : Nat) : (s.needRail n).held μ δ = s.held μ δ := by
  simp +decide [State.needRail, State.held_mk]

@[simp] theorem State.startProfile_held (s : State) (n : Nat) : (s.startProfile n).held μ δ = s.held μ δ := by
  simp (disch := decide) [State.startProfile]

@[simp] theorem State.restartProfile_held (s : State) (n : Nat) : (s.restartProfile n).held μ δ = s.held μ δ := by
  simp [State.restartProfile]

@[simp] theorem State.fire_held (s : State) (m n : Nat) : (s.fire m n).held μ δ = s.held μ δ := by
  simp (disch := decide) [State.fire]

@[simp] theorem State.stopChan_held (s : State) (n : Nat) : (s.stopChan n).held μ δ = s.held μ δ := by
  simp (disch := decide) [State.stopChan]

@[simp] theorem State.actuatorsOff_held (s : State) : s.actuatorsOff.held μ δ = s.held μ δ := by
  have hoff (t : State) : ((List.range 4).foldl (fun s n => (s.put SOL_PENDING 0 n).toOff n false) t).held μ δ = t.held μ δ :=
    foldl_held _ _ (fun s n _ => by simp (disch := decide)) t
  simp (disch := decide) [State.actuatorsOff, hoff]

@[simp] theorem State.rampFrom_held (s : State) : s.rampFrom.held μ δ = s.held μ δ := by
  simp [State.rampFrom, State.held_mk]

@[simp] theorem State.rampTop_held (s : State) : s.rampTop.held μ δ = s.held μ δ := by
  simp +decide [State.rampTop, State.held_mk]

@[simp] theorem State.rampUp_held (s : State) : s.rampUp.held μ δ = s.held μ δ := by
  simp [State.rampUp, State.held_mk]

@[simp] theorem State.throttleRest_held (s : State) : s.throttleRest.held μ δ = s.held μ δ := by
  simp (disch := decide) [State.throttleRest]

@[simp] theorem State.rampDown_held (s : State) : s.rampDown.held μ δ = s.held μ δ := by
  simp +decide [State.rampDown, State.held_mk]

@[simp] theorem State.bandSwitch_held (s : State) : s.bandSwitch.1.held μ δ = s.held μ δ := by
  unfold State.bandSwitch
  dsimp only
  split <;> simp (disch := decide)

@[simp] theorem State.bandRest_held (s : State) : s.bandRest.held μ δ = s.held μ δ := by
  simp (disch := decide) [State.bandRest]

end Sys2Proof.Machine
end

section
namespace Sys2Proof.Machine
open Sys2Proof
variable {μ δ : Bool}

/-! ### What Machine/Granary.lean leaves -/

@[simp] theorem State.reportTorn_held (s : State) (places : List Nat) : (s.reportTorn places).held μ δ = s.held μ δ := by
  refine foldl_held _ _ (fun s a _ => ?_) s
  simp +decide

@[simp] theorem State.trimRefused_held (s : State) (i : Nat) : (s.trimRefused i).held μ δ = s.held μ δ := by
  simp (disch := decide) [State.trimRefused]

@[simp] theorem State.regionFull_held (s : State) (j : Job) : (s.regionFull j).held μ δ = s.held μ δ := by
  simp [State.regionFull]

@[simp] theorem State.engineLook_held (f : Nat) (s : State) : (s.engineLook f).held μ δ = s.held μ δ := by
  induction f generalizing s with
  | zero => rfl
  | succ f ih =>
    unfold State.engineLook
    split
    · rfl
    split
    · rfl
    next j _ =>
      dsimp only
      split
      · have htorn (u : State) (places : List Nat) (hu : u.held μ δ = s.held μ δ) :
            (u.reportTorn places).held μ δ = s.held μ δ := (State.reportTorn_held ..).trans hu
        split
        · exact (State.onGran_held _ fun _ => rfl).trans (htorn _ _ rfl)
        · split
          · exact (ih _).trans ((State.regionFull_held ..).trans (htorn _ _ rfl))
          · exact (State.onGran_held _ fun _ => rfl).trans (htorn _ _ rfl)
      · exact State.onGran_held _ fun _ => rfl

@[simp] theorem State.engineStart_held (s : State) : s.engineStart.held μ δ = s.held μ δ := by
  simp [State.engineStart]

@[simp] theorem State.addJob_held (s : State) (j : Job) : (s.addJob j).held μ δ = s.held μ δ := by
  simp [State.addJob]

@[simp] theorem State.deviceRefused_held (s : State) (rank : Nat) : (s.deviceRefused rank).held μ δ = s.held μ δ := by
  simp [State.deviceRefused]

@[simp] theorem State.startFieldSave_held (s : State) (m : Nat) : (s.startFieldSave m).held μ δ = s.held μ δ := by
  simp [State.startFieldSave]

@[simp] theorem State.saveCode_held (s : State) (code : Nat) : (s.saveCode code).held μ δ = s.held μ δ := by
  simp [State.saveCode]

/-! ### What Machine/Chcal.lean leaves -/

@[simp] theorem State.setSlot_held (s : State) (k : Nat) (sl : Slot) : (s.setSlot k sl).held μ δ = s.held μ δ := by
  refine State.put_held_page _ _ _ _ ?_
  unfold slotRow
  split <;> decide

theorem State.instBit_held (s : State) {r : Row} (i : Nat) (b : Bool) (hr : 1 < r.page) : (s.instBit r i b).held μ δ = s.held μ δ :=
  State.put_held_page s _ _ _ hr

@[simp] theorem State.slotDrop_held (s : State) (k : Nat) : (s.slotDrop k).held μ δ = s.held μ δ := by
  unfold State.slotDrop
  extract_lets sl t
  have ht : t.held μ δ = s.held μ δ := State.setSlot_held ..
  split
  · refine (State.instBit_held t _ _ ?_).trans ht
    unfold reqRow
    split <;> decide
  · exact ht

@[simp] theorem State.dropOverlaps_held (s : State) : s.dropOverlaps.held μ δ = s.held μ δ := by
  refine foldl_held _ _ (fun s k _ => ?_) s
  simp (disch := decide)

@[simp] theorem State.calRest_held (s : State) : s.calRest.held μ δ = s.held μ δ := by
  simp [State.calRest]

@[simp] theorem State.offerTrim_held (s : State) (i : Nat) : (s.offerTrim i).held μ δ = s.held μ δ := by
  unfold State.offerTrim
  split
  · rfl
  · simp (disch := exact fun _ => rfl) [GranS.without]

@[simp] theorem State.acceptTrims_held (s : State) (i k : Nat) (sl : Slot) : (s.acceptTrims i k sl).held μ δ = s.held μ δ := by
  simp +decide [State.acceptTrims, State.held_mk]

@[simp] theorem State.handback_held (s : State) (k : Nat) : (s.handback k).held μ δ = s.held μ δ := by
  simp (disch := decide) [State.handback]

@[simp] theorem State.handbacks_held (s : State) : s.handbacks.held μ δ = s.held μ δ := by
  simp [State.handbacks]

/-! ### What Machine/Mill.lean leaves -/

@[simp] theorem State.frameStats_held (s : State) : s.frameStats.held μ δ = s.held μ δ := by
  unfold State.frameStats
  split
  · rfl
  · extract_lets t a b _ c
    have ha : a.held μ δ = s.held μ δ := by simp [a]
    have hb : b.held μ δ = a.held μ δ := by simp (disch := decide) [b]
    have hc : c.held μ δ = b.held μ δ := by
      unfold c
      split
      · refine foldl_held _ _ (fun u i _ => ?_) b
        simp (disch := decide)
      · rfl
    exact hc.trans (hb.trans ha)

@[simp] theorem State.formLine2_held (s : State) : s.formLine2.held μ δ = s.held μ δ := by
  simp [State.formLine2, State.held_mk]

@[simp] theorem State.zeroCn_held (s : State) : s.zeroCn.held μ δ = s.held μ δ :=
  foldl_held _ _ (fun s c _ => State.put_held_page s _ _ _ (by decide)) s

@[simp] theorem State.bankSwitch_held (s : State) : s.bankSwitch.1.held μ δ = s.held μ δ := by
  unfold State.bankSwitch
  split <;> simp (disch := decide)

@[simp] theorem State.fpaCommit_held (s : State) : s.fpaCommit.held μ δ = s.held μ δ := by
  simp [State.fpaCommit, State.held_mk]

@[simp] theorem State.millCommit_held (s : State) : s.millCommit.held μ δ = s.held μ δ := by
  simp +decide [State.millCommit, State.held_mk]

@[simp] theorem State.driftCommit_held (s : State) : s.driftCommit.held μ δ = s.held μ δ := by
  simp [State.driftCommit]

/-! ### What Machine/Nuc.lean leaves -/

@[simp] theorem State.saveStart_held (s : State) : s.saveStart.held μ δ = s.held μ δ := by
  simp (disch := decide) [State.saveStart]

@[simp] theorem State.saveAbort_held (s : State) (reason : Nat) (again : Bool) : (s.saveAbort reason again).held μ δ = s.held μ δ := by
  have hdrop : (s.onGran GranS.dropSave).held μ δ = s.held μ δ := State.onGran_held s fun _ => rfl
  unfold State.saveAbort
  split
  · extract_lets t u
    rw [State.engineStart_held]
    change u.held μ δ = s.held μ δ
    simp (disch := decide) [u, t, hdrop]
  · rfl

@[simp] theorem State.saveRestart_held (s : State) : s.saveRestart.held μ δ = s.held μ δ := by
  simp [State.saveRestart, State.held_mk]

@[simp] theorem State.shutFire_held (s : State) (n : Nat) : (s.shutFire n).held μ δ = s.held μ δ := by
  simp [State.shutFire]

@[simp] theorem State.nucFail_held (s : State) (reason : Nat) : (s.nucFail reason).held μ δ = s.held μ δ := by
  simp +decide [State.nucFail, State.held_mk]

@[simp] theorem State.closureOver_held (s : State) : s.closureOver.held μ δ = s.held μ δ := by
  simp +decide [State.closureOver, State.held_mk]

@[simp] theorem State.closureCut_held (s : State) : s.closureCut.held μ δ = s.held μ δ := by
  simp [State.closureCut]

@[simp] theorem State.openCommand_held (s : State) : s.openCommand.held μ δ = s.held μ δ := by
  simp +decide [State.openCommand, State.held_mk]

@[simp] theorem State.closureStop_held (s : State) : s.closureStop.held μ δ = s.held μ δ := by
  simp [State.closureStop]

@[simp] theorem State.nucFrameEnd_held (s : State) : s.nucFrameEnd.held μ δ = s.held μ δ := by
  unfold State.nucFrameEnd
  split
  · rfl
  · extract_lets _ t _ _ u
    have ht : t.held μ δ = s.held μ δ := by
      unfold t
      split <;> rfl
    change u.held μ δ = s.held μ δ
    unfold u
    split
    · exact (State.put_held_page t (r := NUC_FIRST_ROW) _ 0 0 (by decide)).trans ht
    · exact ht

@[simp] theorem State.switchRest_held (s : State) : s.switchRest.held μ δ = s.held μ δ := by
  simp [State.switchRest]

/-! ### What Machine/Sentry.lean leaves -/

@[simp] theorem State.bgReset_held (s : State) : s.bgReset.held μ δ = s.held μ δ := by
  change ((s.put SENTRY_BG_READY 0).put SENTRY_CONFIRM_CNT 0).held μ δ = s.held μ δ
  simp (disch := decide)

@[simp] theorem State.senArm_held (s : State) : s.senArm.held μ δ = s.held μ δ := by
  simp [State.senArm]

@[simp] theorem State.senSync_held (s : State) : s.senSync.held μ δ = s.held μ δ := by
  simp [State.senSync, State.held_mk]

/-! ### What Machine/Link.lean leaves -/

@[simp] theorem State.setPort_held (s : State) (n : Nat) (p : LinkS) : (s.setPort n p).held μ δ = s.held μ δ := by
  simp [State.setPort, State.held_mk]

@[simp] theorem State.stallReport_held (s : State) (n : Nat) : (s.stallReport n).held μ δ = s.held μ δ := by
  simp [State.stallReport]

@[simp] theorem State.post_held (s : State) (n msg : Nat) (ws : List Nat) : (s.post n msg ws).held μ δ = s.held μ δ := by
  simp (disch := decide) [State.post]

@[simp] theorem State.noteStatus_held (s : State) : s.noteStatus.held μ δ = s.held μ δ := by
  simp [State.noteStatus]

@[simp] theorem State.showPort_held (s : State) (n : Nat) : (s.showPort n).held μ δ = s.held μ δ := by
  simp (disch := decide) [State.showPort]

@[simp] theorem State.linkQueueCut_held (s : State) : s.linkQueueCut.held μ δ = s.held μ δ := by
  simp [State.linkQueueCut, State.held_mk]

@[simp] theorem State.msgPeak_held (s : State) (n : Nat) : (s.msgPeak n).held μ δ = s.held μ δ := by
  simp [State.msgPeak]

@[simp] theorem State.sessionLost_held (s : State) (n cause : Nat) : (s.sessionLost n cause).held μ δ = s.held μ δ := by
  simp +decide [State.sessionLost, State.held_mk]

@[simp] theorem State.portOff_held (s : State) (n : Nat) (dormant : Bool) : (s.portOff n dormant).held μ δ = s.held μ δ := by
  simp (disch := decide) [State.portOff]

end Sys2Proof.Machine
end

section
namespace Sys2Proof.Machine
open Sys2Proof
variable {μ δ : Bool}

/-! ### What Machine/Video.lean and Machine/LinkVideo.lean leave -/

@[simp] theorem State.setStream_held (s : State) (n : Nat) (w : VidS) : (s.setStream n w).held μ δ = s.held μ δ := by
  simp [State.setStream, State.held_mk]

@[simp] theorem State.csiPut_held (s : State) (st dt : Nat) (items : List Nat) : (s.csiPut st dt items).held μ δ = s.held μ δ := by
  simp [State.csiPut, State.held_mk]

@[simp] theorem State.fillNote_held (s : State) (st : Nat) : (s.fillNote st).held μ δ = s.held μ δ := by
  simp (disch := decide) [State.fillNote]

@[simp] theorem State.pvpDrop_held (s : State) (st why : Nat) : (s.pvpDrop st why).held μ δ = s.held μ δ := by
  simp (disch := decide) [State.pvpDrop]

@[simp] theorem State.streamCut_held (s : State) (st : Nat) : (s.streamCut st).held μ δ = s.held μ δ := by
  simp (disch := decide) [State.streamCut]

@[simp] theorem State.csiOff_held (s : State) : s.csiOff.held μ δ = s.held μ δ := by
  simp [State.csiOff, State.held_mk]

@[simp] theorem State.pvpOff_held (s : State) : s.pvpOff.held μ δ = s.held μ δ := by
  simp [State.pvpOff, State.held_mk]

@[simp] theorem State.rxSync_held (s : State) (n : Nat) : (s.rxSync n).held μ δ = s.held μ δ := by
  simp [State.rxSync]

/-! ### What Machine/Power.lean leaves -/

@[simp] theorem State.policyNow_held (s : State) : s.policyNow.held μ δ = s.held μ δ := by
  simp (disch := decide) [State.policyNow]

@[simp] theorem State.axesAt_held (s : State) (all here : Bool) : (s.axesAt all here).held μ δ = s.held μ δ := by
  simp (disch := decide) [State.axesAt]

@[simp] theorem State.axesNow_held (s : State) (all : Bool) : (s.axesNow all).held μ δ = s.held μ δ := by
  simp [State.axesNow]

@[simp] theorem State.pixCloses_held (s : State) : s.pixCloses.held μ δ = s.held μ δ := by
  simp [State.pixCloses, State.held_mk]

@[simp] theorem State.closing_held (s : State) (d : Nat) : (s.closing d).held μ false = s.held μ false := by
  unfold State.closing
  extract_lets _ _ t
  have ht : t.held μ false = s.held μ false := State.setPd_held ..
  clear_value t
  split
  · exact (State.pixCloses_held t).trans ht
  · exact ht

@[simp] theorem State.reopen_held (s : State) (d : Nat) : (s.reopen d).held μ false = s.held μ false := by
  simp [State.reopen]

@[simp] theorem State.openingEnds_held (s : State) (d : Nat) : (s.openingEnds d).held μ false = s.held μ false := by
  simp (disch := decide) [State.openingEnds]

@[simp] theorem State.domainsSync_held (s : State) : s.domainsSync.held μ false = s.held μ false := by
  unfold State.domainsSync
  extract_lets t
  have ht : t.held μ false = s.held μ false := foldl_held _ _ (fun s i _ => by simp) s
  simp [ht]

@[simp] theorem State.calAbandon_held (s : State) : s.calAbandon.held μ δ = s.held μ δ := by
  refine foldl_held _ _ (fun s k _ => ?_) s
  simp (disch := decide)

@[simp] theorem State.pixOff_held (s : State) : s.pixOff.held μ δ = s.held μ δ := by
  unfold State.pixOff
  extract_lets t u
  have hu : u.held μ δ = s.held μ δ := by simp (disch := decide) [u, t]
  clear_value u
  exact hu

@[simp] theorem State.linkCut_held (s : State) (n : Nat) : (s.linkCut n).held μ δ = s.held μ δ := by
  simp [State.linkCut, State.held_mk]

/-- A domain that is lost is off (R131); nothing else of `Held` changes. -/
theorem State.domainLost_held_setPd (s : State) (d : Nat) : (s.domainLost d).held μ δ = (s.setPd d 0).held μ δ := by
  have hsol (u : State) (l : List SolS) : State.held μ δ { u with sol := l } = u.held μ δ := rfl
  unfold State.domainLost
  generalize s.setPd d 0 = t
  split
  · simp
  split
  · simp (disch := decide)
  split
  · simp
  split
  · simp
  split
  · exact (hsol ..).trans (State.actuatorsOff_held t)
  · rfl

@[simp] theorem State.domainLost_held (s : State) (d : Nat) : (s.domainLost d).held μ false = s.held μ false :=
  (State.domainLost_held_setPd s d).trans (State.setPd_held ..)

@[simp] theorem State.dropFlight_held (s : State) (d : Nat) : (s.dropFlight d).1.held μ δ = s.held μ δ := by
  unfold State.dropFlight
  split
  · dsimp only
    refine foldl_held _ _ (fun s st _ => ?_) s
    simp (disch := decide)
  split
  · dsimp only
    refine foldl_held _ _ (fun s st _ => ?_) s
    simp
  split
  · dsimp only
    refine foldl_held _ _ (fun s n _ => ?_) s
    simp (disch := decide)
  split
  · simp
  · rfl

/-- No domain's count of drops is among `heldKeys`. -/
theorem dropKey_not_held : ∀ d < 9, YARD_DRAIN_DROP.key 0 d ∉ heldKeys := by decide

@[simp] theorem State.drainDrop_held (s : State) {d : Nat} (k : Nat) (hd : d < 9) : (s.drainDrop d k).held μ δ = s.held μ δ := by
  have hcount (t : State) (v : Nat) : (t.addSat YARD_DRAIN_DROP v 0 d).held μ δ = t.held μ δ :=
    State.put_held_key _ _ (dropKey_not_held d hd)
  unfold State.drainDrop
  split
  · rfl
  · extract_lets t
    exact (State.event_held ..).trans (hcount s k)

@[simp] theorem State.arrayCommits_held (s : State) : s.arrayCommits.held μ δ = s.held μ δ := by
  simp [State.arrayCommits]

@[simp] theorem State.senCommit_held (s : State) : s.senCommit.held μ δ = s.held μ δ := by
  simp [State.senCommit]

@[simp] theorem State.frameEnds_held (s : State) : s.frameEnds.held μ δ = s.held μ δ := by
  simp [State.frameEnds]

@[simp] theorem State.frameOver_held (s : State) : s.frameOver.held μ δ = s.held μ δ := by
  simp [State.frameOver]

@[simp] theorem State.timingStop_held (s : State) : s.timingStop.held μ δ = s.held μ δ := by
  simp [State.timingStop]

@[simp] theorem State.leaveService_held (s : State) : s.leaveService.held μ δ = s.held μ δ := by
  simp (disch := decide) [State.leaveService]

@[simp] theorem State.serviceFlag_held (s : State) (service : Bool) : (s.serviceFlag service).held μ δ = s.held μ δ := by
  simp [State.serviceFlag, State.held_mk]

@[simp] theorem State.senEnd_held (s : State) : s.senEnd.held μ δ = s.held μ δ := by
  simp [State.senEnd, State.held_mk]

@[simp] theorem State.lastFrame_held (s : State) : s.lastFrame.held μ δ = s.held μ δ := by
  simp [State.lastFrame, State.held_mk]

theorem State.domainDrop_held (s : State) {d : Nat} (hd : d < 9) : (s.domainDrop d).held μ false = s.held μ false := by
  simp [State.domainDrop, hd]

@[simp] theorem State.dropFrames_held (s : State) : s.dropFrames.held μ δ = s.held μ δ := by
  unfold State.dropFrames
  extract_lets note
  have hnote (u : State) {d : Nat} (k : Nat) (hd : d < 9) : (note u d k).held μ δ = u.held μ δ := by
    unfold note
    dsimp only
    split
    · rfl
    · exact State.drainDrop_held _ k hd
  clear_value note
  have hcsi := s.dropFlight_held (μ := μ) (δ := δ) 6
  generalize s.dropFlight 6 = x at hcsi ⊢
  obtain ⟨t, csi⟩ := x
  have hpvp := t.dropFlight_held (μ := μ) (δ := δ) 7
  dsimp only
  generalize t.dropFlight 7 = x at hpvp ⊢
  obtain ⟨u, pvp⟩ := x
  refine (foldl_held _ _ (fun v st _ => State.streamCut_held v st) _).trans ?_
  simp (disch := decide) only [hnote, State.linkCut_held]
  exact hpvp.trans hcsi

end Sys2Proof.Machine
end

section
namespace Sys2Proof.Machine
open Sys2Proof
variable {μ δ : Bool}

/-! ### The memories apart: what a job's operations and a store leave -/

@[simp] theorem State.scriptCut_held (s : State) : s.scriptCut.held μ δ = s.held μ δ := by
  unfold State.scriptCut
  extract_lets _ t qs
  have ht : t.held μ δ = s.held μ δ := rfl
  clear_value t
  split
  · exact (State.put_held t (r := SEQ_RUN_STATE) 0 0 (i := 0) (by decide)).trans ht
  · exact ht

@[simp] theorem State.onGran_held_false (s : State) (f : GranS → GranS) : (s.onGran f).held false δ = s.held false δ := rfl

theorem State.held_shadow (s : State) (x : ShadowS) : State.held false δ { s with shadow := x } = s.held false δ := rfl

@[simp] theorem State.fieldStep_held (s : State) (c k : Nat) : (s.fieldStep c k).held false δ = s.held false δ := by
  unfold State.fieldStep
  split_ifs <;> exact State.onGran_held_false ..

@[simp] theorem State.applyOp_held (s : State) (j : Job) (op : GOp) : (s.applyOp j op).held false δ = s.held false δ := by
  unfold State.applyOp
  split
  case h_2 => split <;> simp
  case h_3 => exact (State.held_shadow ..).trans (State.onGran_held_false ..)
  all_goals simp (disch := decide)

@[simp] theorem State.mixBytes_held (s : State) (a : Nat) (l : List Byte) : (s.mixBytes a l).held false δ = s.held false δ := by
  induction l generalizing s a with
  | nil => rfl
  | cons b l ih => exact (ih _ _).trans ((State.onGran_held_false ..).trans (State.fresh_held s))

@[simp] theorem State.programMix_held (s : State) (a : Nat) (bs : List Byte) : (s.programMix a bs).held false δ = s.held false δ := by
  simp [State.programMix]

@[simp] theorem State.eraseMix_held (s : State) (sec : Nat) : (s.eraseMix sec).held false δ = s.held false δ := by
  unfold State.eraseMix
  extract_lets t
  have ht : t.held false δ = s.held false δ := State.onGran_held_false ..
  split
  · exact (foldl_held _ _ (fun u i _ => (State.onGran_held_false ..).trans (State.fresh_held u)) _).trans ht
  · exact (foldl_held _ _ (fun u c _ => (State.onGran_held_false ..).trans (State.fresh_held u)) _).trans ht

@[simp] theorem State.eraseCut_held (s : State) (j : Job) (sec : Nat) : (s.eraseCut j sec).held false δ = s.held false δ := by
  simp [State.eraseCut]

@[simp] theorem State.cutGOp_held (s : State) (j : Job) (op : GOp) : (s.cutGOp j op).held false δ = s.held false δ := by
  unfold State.cutGOp
  split
  · simp
  · split <;> simp

@[simp] theorem State.hostJobEnd_held (s : State) (op code : Nat) : (s.hostJobEnd op code).held μ δ = s.held μ δ := by
  simp (disch := decide) [State.hostJobEnd]

@[simp] theorem State.groupStep_held (s : State) (j : Job) : (s.groupStep j).held false δ = s.held false δ := by
  simp (disch := decide) [State.groupStep]

@[simp] theorem State.jobRunOut_held (s : State) (j : Job) : (s.jobRunOut j).held false δ = s.held false δ := by
  simp (disch := decide) [State.jobRunOut]

@[simp] theorem State.endOp_held (s : State) (whole : Bool) : (s.endOp whole).held false δ = s.held false δ := by
  unfold State.endOp
  split
  · rfl
  · split
    · simp
    · rfl

@[simp] theorem State.flushTrims_held (s : State) : s.flushTrims.held false δ = s.held false δ := by
  have hops (t : State) (j : Job) (ops : List GOp) : (ops.foldl (fun s op => s.applyOp j op) t).held false δ = t.held false δ :=
    foldl_held _ _ (fun u op _ => State.applyOp_held u j op) t
  refine foldl_held _ _ (fun s j _ => ?_) s
  split
  next t ops fits h =>
    have ht : t.held false δ = s.held false δ := by
      split at h <;> obtain ⟨rfl, -⟩ := Prod.mk.inj h
      · exact State.reportTorn_held ..
      · rfl
    simp (disch := decide) [hops, ht]

@[simp] theorem State.dropJobs_held (s : State) : s.dropJobs.held false δ = s.held false δ := by
  unfold State.dropJobs
  refine (foldl_held _ _ (fun s j _ => ?_) _).trans (State.onGran_held_false ..)
  simp

@[simp] theorem State.portLatch_held (s : State) (n : Nat) : (s.portLatch n).held μ δ = s.held μ δ := by
  simp [State.portLatch]

@[simp] theorem State.sramWrite_held (s : State) (a w : Nat) : (s.sramWrite a w).held false δ = s.held false δ := rfl

theorem State.held_stored (s : State) (snap : Memory) (cause t : Nat) :
    State.held false δ { s with shadow := { s.shadow with storing := some (cause, 0), target := t, snapshot := snap }
                                log := { s.log with storedSeq := s.get LINKC_EVSEQ }
                                gran := s.gran.without fun j => j.op == jPREERASE } = s.held false δ := rfl

@[simp] theorem State.commitStore_held (s : State) (cause rank : Nat) :
    (s.commitStore cause rank).held false δ = s.held false δ := by
  unfold State.commitStore
  extract_lets older _ _ _ s1 s2 s3 snap _ _ _ s4
  have h1 : s1.held false δ = s.held false δ := State.held_shadow s _
  have h2 : s2.held false δ = s1.held false δ :=
    (State.sramWrite_held ..).trans ((State.sramWrite_held ..).trans (State.sramWrite_held ..))
  have h3 : s3.held false δ = s2.held false δ := State.sramWrite_held ..
  have h4 : s4.held false δ = s3.held false δ := State.held_stored s3 snap cause older
  exact (State.addJob_held ..).trans (h4.trans (h3.trans (h2.trans h1)))

@[simp] theorem State.runStoreOps_held (s : State) : s.runStoreOps.held false δ = s.held false δ := by
  unfold State.runStoreOps
  dsimp only
  split
  · rfl
  · exact (State.onGran_held_false ..).trans (foldl_held _ _ (fun u op _ => State.applyOp_held u _ op) s)

@[simp] theorem State.mirrorLate_held (s : State) : s.mirrorLate.held μ δ = s.held μ δ := by
  simp [State.mirrorLate, State.held_mk]

@[simp] theorem State.finishStore_held (s : State) : s.finishStore.held false δ = s.held false δ := by
  unfold State.finishStore
  split
  · rfl
  · extract_lets t u out
    have hu : u.held false δ = s.held false δ := by simp (disch := decide) [u, t]
    exact (State.held_shadow ..).trans hu

@[simp] theorem State.storeNow_held (s : State) (cause : Nat) : (s.storeNow cause).held false δ = s.held false δ := by
  unfold State.storeNow
  split
  · rfl
  split
  · exact (State.held_shadow ..).trans (State.finishStore_held s)
  · simp



end Sys2Proof.Machine
end

section
namespace Sys2Proof.Machine
open Sys2Proof
variable {μ δ : Bool}

/-! ### What is written of `Held` -/

theorem State.put_find_same (s : State) (r : Row) (v n i : Nat) :
    (s.put r v n i).regs.find (r.key n i) (r.rst i) = v % 2 ^ r.wid := State.get_put_same ..

theorem State.put_mode_held (s : State) (v : Nat) : (s.put YARD_MODE v).held μ δ = { s.held μ δ with mode := v % 4 } := by
  simp (disch := decide) only [State.held, heldOf, State.put_find_same, State.put_find_ne]
  rfl

theorem State.put_target_held (s : State) (v : Nat) : (s.put YARD_MODE_TARGET v).held μ δ = { s.held μ δ with target := v % 4 } := by
  simp (disch := decide) only [State.held, heldOf, State.put_find_same, State.put_find_ne]
  rfl

theorem State.put_busy_held (s : State) (v : Nat) : (s.put YARD_MODE_BUSY v).held μ δ = { s.held μ δ with busy := v % 2 } := by
  simp (disch := decide) only [State.held, heldOf, State.put_find_same, State.put_find_ne]
  rfl

theorem State.put_cause_held (s : State) (v : Nat) : (s.put YARD_MODE_CAUSE v).held μ δ = { s.held μ δ with cause := v % 8 } := by
  simp (disch := decide) only [State.held, heldOf, State.put_find_same, State.put_find_ne]
  rfl

theorem State.put_blocked_held (s : State) (v : Nat) : (s.put YARD_L4_BLOCKED v).held μ δ = { s.held μ δ with blocked := v % 2 } := by
  simp (disch := decide) only [State.held, heldOf, State.put_find_same, State.put_find_ne]
  rfl

/-! ### The ends of a transition -/

/-- The new mode with nothing in progress. -/
def Held.entered (h : Held) (target cause : Nat) : Held :=
  { h with mode := target % 4, target := target % 4, busy := 0, cause := cause % 8, trans := none }

theorem State.entryBack_held (s : State) :
    s.entryBack.held μ false = { s.held μ false with busy := 0, trans := none } := by
  have hend (t : State) :
      State.held μ false { t with yard := { t.yard with trans := none } } = { t.held μ false with trans := none } := rfl
  unfold State.entryBack
  simp only [State.noteStatus_held, State.wdtSync_held, State.domainsSync_held]
  refine (hend (s.put YARD_MODE_BUSY 0)).trans ?_
  rw [State.put_busy_held]

theorem State.dormantStart_held (s : State) (cause : Nat) :
    (s.dormantStart cause).held false false =
      { s.held false false with blocked := 0, trans := some ⟨DORMANT, cause, true, false⟩, service := none } := by
  have hend (t : State) (x : Option Trans) (a b : Bool) (c : Option Nat) (d e : Bool) :
      State.held false false { t with yard := { t.yard with trans := x, service := none, autoReturn := a, scanTask := b
                                                            hostSlot := c, i2cWake := d, spiWake := e } } =
        { t.held false false with trans := x, service := none } := rfl
  unfold State.dormantStart
  extract_lets scan s1 s2 s3 s4 s5 s6 s7 s8
  have h4 : s4.held false false = s.held false false :=
    (foldl_held _ _ (fun t n _ => State.portLatch_held t n) s3).trans (by simp [s3, s2, s1])
  have h7 : s7.held false false = s.held false false := by simp [s7, s6, s5, h4]
  have h8 : s8.held false false = { s.held false false with blocked := 0 } := by
    rw [← h7]
    exact State.put_blocked_held ..
  clear_value s8
  simp only [State.domainsSync_held, State.wdtSync_held]
  exact (hend ..).trans (by rw [h8])

theorem State.sameMemory_of_held {s t : State} (h : (t.held true δ).memory = (s.held true δ).memory) : s.SameMemory t := by
  simp only [State.held, heldOf, if_true, Option.some.injEq, Prod.mk.injEq] at h
  obtain ⟨hmem, hfactory, ha, hb, hbankA, hbankB, hsram, -⟩ := h
  refine ⟨fun a => ?_, fun b i => ?_, fun a => ?_⟩
  · simp only [GranS.byte, GranS.image, hmem, hfactory, ha, hb]
  · simp only [State.bank, hbankA, hbankB]
  · rw [hsram]

end Sys2Proof.Machine
end

section
namespace Sys2Proof.Machine
open Sys2Proof
variable {μ δ : Bool}

/-! ### The transition at its boundary (R84, R633) -/

theorem exec_modeTransitionDone (s : State) : exec .modeTransitionDone s = .next s.modeTransition := rfl

theorem exec_modeStuck (s : State) : exec .modeStuck s = .next s.modeStuck := rfl

/-- The state at the boundary of a transition to `target`: the array's last frame has ended before SENTRY and DORMANT. -/
def State.frameEnded (s : State) (target : Nat) : State := if target = LIVE ∨ target = SERVICE then s else s.lastFrame

/-- The fault of R97 has cleared. -/
def State.unstuck (s : State) : State := { s with yard := { s.yard with stuck := false } }

@[simp] theorem State.frameEnded_held (s : State) (target : Nat) : (s.frameEnded target).held μ δ = s.held μ δ := by
  simp [State.frameEnded]

theorem State.unstuck_held (s : State) : s.unstuck.held μ δ = { s.held μ δ with stuck := false } := rfl

theorem State.lastFrame_of_resting {s : State} (h : s.frameRuns = false) : s.lastFrame = s := by
  simp [State.lastFrame, h]

theorem State.frameEnded_of_resting {s : State} (target : Nat) (h : s.frameRuns = false) : s.frameEnded target = s := by
  simp [State.frameEnded, State.lastFrame_of_resting h]

theorem State.transitionMay_of_resting {s : State} {target : Nat} (h : s.frameRuns = false) (ht : target ≠ DORMANT) :
    s.transitionMay target = true := by
  simp [State.transitionMay, h, ht]

theorem State.modeTransition_of {s : State} {x : Trans} (hx : s.yard.trans = some x) (hent : x.entering = false)
    (hboot : s.boot.booting = false) (hexit : s.yard.exit = none) (hmay : s.transitionMay x.target = true)
    (hform : (s.frameEnded x.target).nuc.form = 0) :
    s.modeTransition =
      if x.target = DORMANT then (s.frameEnded x.target).dormantStart x.cause
      else if x.back then (s.frameEnded x.target).unstuck.entryBack
      else (s.frameEnded x.target).unstuck.enterMode x.target x.cause := by
  unfold State.frameEnded at *
  simp only [State.modeTransition, hx, hent, hboot, hexit, hmay, Option.isSome_none, Bool.or_self, Bool.false_eq_true, if_false,
    Bool.not_true, hform, ne_eq, not_true]
  rfl

theorem State.modeTransition_rests {s : State} {x : Trans} (hs : s.yard.trans = none ∨ s.yard.trans = some x)
    (h : s.yard.trans = none ∨ x.entering = true ∨ s.boot.booting = true ∨ s.yard.exit ≠ none ∨ s.transitionMay x.target = false ∨
      ((x.target = LIVE ∨ x.target = SERVICE) ∧ s.nuc.form ≠ 0)) : s.modeTransition = s := by
  rcases hs with hs | hs
  · simp only [State.modeTransition, hs]
  · have hexit : s.yard.exit ≠ none ↔ s.yard.exit.isSome = true := Option.isSome_iff_ne_none.symm
    simp only [State.modeTransition, hs]
    split
    · rfl
    next hrun =>
    split
    · rfl
    next hmay =>
    simp only [hs, reduceCtorEq, hexit, false_or] at h
    simp only [Bool.or_eq_true, not_or] at hrun
    obtain ⟨⟨hent, hboot⟩, hsome⟩ := hrun
    rcases h with h | h | h | h | ⟨htarget, hform⟩
    · exact absurd h hent
    · exact absurd h hboot
    · exact absurd h hsome
    · simp [h] at hmay
    · rw [if_pos htarget, if_pos hform]

/-! ### The transition completed by force (R97) -/

/-- What is in flight has been dropped, and every domain that closes is off; on the way to DORMANT every domain that is on. -/
def State.stuckClosed (s : State) (dorm : Bool) : State :=
  [6, 7, 1, 2, 3, 4, 5, 8].foldl (fun s d => if dorm || s.pd d == 3 then s.domainDrop d else s) s.dropFrames

/-- The fault of R97 stands. -/
def State.stuckFault (s : State) : State := { s with yard := { s.yard with stuck := true } }

/-- The store that is in progress has ended. -/
def State.storeEnded (s : State) : State := if s.shadow.storing.isSome then s.finishStore else s

theorem State.modeStuck_of_dormant {s : State} {x : Trans} (hx : s.yard.trans = some x)
    (ht : x.entering = true ∨ x.target = DORMANT) (hboot : s.boot.booting = false) :
    ∃ t : State, s.modeStuck = ((t.stuckClosed true).dormantReached x.cause).stuckFault := by
  have hd : (x.entering || x.target == DORMANT) = true := by simpa using ht
  refine ⟨(if !x.entering then (s.event 0x0112 x.target).closureStop.dormantStart x.cause
    else (s.event 0x0112 x.target).closureStop).storeEnded, ?_⟩
  simp only [State.modeStuck, State.stuckFault, State.stuckClosed, State.storeEnded, hx, hboot, hd, Bool.true_and, Bool.true_or,
    Bool.false_eq_true, if_false, if_true]

theorem State.modeStuck_rests {s : State} (h : s.yard.trans = none ∨ s.boot.booting = true) : s.modeStuck = s := by
  unfold State.modeStuck
  split
  · rfl
  next hx =>
    rw [if_pos (h.resolve_left (by simp [hx]))]

theorem State.stuckFault_held (s : State) : s.stuckFault.held μ δ = { s.held μ δ with stuck := true } := rfl

theorem State.stuckFault_blockFault (s : State) : s.stuckFault.blockFault 0x001 = true := by
  simp [State.blockFault, State.stuckFault]

theorem State.storeEnded_held (s : State) : s.storeEnded.held false δ = s.held false δ := by
  simp [State.storeEnded]

theorem State.storeEnded_of_none {s : State} (h : s.shadow.storing = none) : s.storeEnded = s := by
  simp [State.storeEnded, h]

theorem State.stuckClosed_held (s : State) (dorm : Bool) : (s.stuckClosed dorm).held μ false = s.held μ false := by
  refine (foldl_held _ _ (fun t d hd => ?_) _).trans (State.dropFrames_held s)
  have h9 : ∀ d ∈ [6, 7, 1, 2, 3, 4, 5, 8], d < 9 := by decide
  simp [State.domainDrop_held t (h9 d hd)]

/-- The state before a transition that is completed by force ends: the modes stand, and the memories where no store runs. -/
theorem State.stuckCleared_held (s : State) (data : Nat) (hm : μ = true → s.shadow.storing = none) :
    (((s.event 0x0112 data).closureStop.storeEnded).stuckClosed false).held μ false = s.held μ false := by
  have hcut (ν δ' : Bool) : (s.event 0x0112 data).closureStop.held ν δ' = s.held ν δ' := by simp
  rw [State.stuckClosed_held]
  cases μ
  · rw [State.storeEnded_held, hcut]
  · have hmem := congrArg Held.memory (hcut true true)
    simp only [State.held, heldOf, if_true, Option.some.injEq, Prod.mk.injEq] at hmem
    obtain ⟨-, -, -, -, -, -, -, hstoring⟩ := hmem
    rw [State.storeEnded_of_none (hstoring.trans (hm rfl)), hcut]

/-- Towards a mode, what has been cleared away leaves the modes as they were, and the memories where no store runs. -/
theorem State.modeStuck_of_mode {s : State} {x : Trans} (hx : s.yard.trans = some x) (hent : x.entering = false)
    (ht : x.target ≠ DORMANT) (hboot : s.boot.booting = false) :
    ∃ u : State, s.modeStuck = (if x.back then u.entryBack else u.enterMode x.target x.cause).stuckFault ∧
      ∀ ν : Bool, (ν = true → s.shadow.storing = none) → u.held ν false = s.held ν false := by
  have hd : (x.target == DORMANT) = false := beq_eq_false_iff_ne.mpr ht
  refine ⟨_, ?_, fun ν => State.stuckCleared_held s x.target⟩
  simp only [State.modeStuck, hx, hboot, hent, hd, Bool.or_self, Bool.false_and, Bool.false_eq_true, if_false]
  rfl

end Sys2Proof.Machine
end

section
namespace Sys2Proof.Machine
open Sys2Proof

/-! ### How many entries are logged (R543) -/

/-- The log's count and the codes of its entries. -/
def State.ring (s : State) : Nat × (Nat → Nat) := (s.get EVT_TOTAL, fun k => s.get EVT_CODE 0 k)

/-- From `s` to `t` at most `n` entries are logged, and the codes of the other entries stay. -/
def State.Logged (n : Nat) (s t : State) : Prop :=
  ∃ j ≤ n, t.get EVT_TOTAL % 256 = (s.get EVT_TOTAL + j) % 256 ∧
    ∀ k, (∀ x < j, k % 256 ≠ (s.get EVT_TOTAL + x) % 256) → t.get EVT_CODE 0 k = s.get EVT_CODE 0 k

theorem State.Logged.of_ring {s t : State} (h : t.ring = s.ring) : s.Logged 0 t := by
  obtain ⟨htotal, hcodes⟩ := Prod.mk.inj h
  exact ⟨0, le_rfl, by rw [htotal, Nat.add_zero], fun k _ => congrFun hcodes k⟩

theorem State.Logged.trans {a b : Nat} {s t u : State} (h : s.Logged a t) (h' : t.Logged b u) : s.Logged (a + b) u := by
  obtain ⟨j, hj, htotal, hcodes⟩ := h
  obtain ⟨j', hj', htotal', hcodes'⟩ := h'
  refine ⟨j + j', by omega, by omega, fun k hk => ?_⟩
  refine (hcodes' k fun x hx => ?_).trans (hcodes k fun x hx => hk x (by omega))
  have := hk (j + x) (by omega)
  omega

theorem State.Logged.mono {a b : Nat} {s t : State} (h : s.Logged a t) (hab : a ≤ b) : s.Logged b t :=
  let ⟨j, hj, hrest⟩ := h
  ⟨j, hj.trans hab, hrest⟩

theorem State.Logged.refl (s : State) (n : Nat) : s.Logged n s := (State.Logged.of_ring rfl).mono (Nat.zero_le n)

/-- Silent steps before and after. -/
theorem State.Logged.after {n : Nat} {s t u : State} (h : t.Logged n u) (ht : t.ring = s.ring) : s.Logged n u :=
  ((State.Logged.of_ring ht).trans h).mono (by omega)

theorem State.Logged.silent {n : Nat} {s t u : State} (h : s.Logged n t) (hu : u.ring = t.ring) : s.Logged n u :=
  h.trans (State.Logged.of_ring hu)

theorem State.logged_event (s : State) (code data : Nat) : s.Logged 1 (s.event code data) := by
  obtain ⟨j, hj, htotal⟩ := s.event_get_total_mod code data
  refine ⟨j, hj, htotal, fun k hk => ?_⟩
  cases hon : s.coreOn
  · exact State.get_of_regs (State.event_off_regs hon code data) ..
  · have hnext := State.event_get_total hon code data
    refine State.event_get_slot s code data (by decide) (hk 0 ?_)
    by_contra hj0
    obtain rfl : j = 0 := by omega
    omega

/-- The entry that was logged last stays where fewer than 256 entries follow it. -/
theorem State.Logged.get_code {n : Nat} {s t : State} (h : s.Logged n t) (hn : n < 256) {k : Nat}
    (hk : s.get EVT_TOTAL % 256 = (k + 1) % 256) : t.get EVT_CODE 0 k = s.get EVT_CODE 0 k := by
  obtain ⟨j, hj, -, hcodes⟩ := h
  exact hcodes k fun x hx => by omega

theorem foldl_logged {α : Type} (l : List α) (f : State → α → State) (cost : α → Nat)
    (hf : ∀ s : State, ∀ a ∈ l, s.Logged (cost a) (f s a)) (s : State) : s.Logged ((l.map cost).sum) (l.foldl f s) := by
  induction l generalizing s with
  | nil => exact .refl s 0
  | cons a l ih => exact (hf s a (.head _)).trans (ih (fun s a ha => hf s a (.tail _ ha)) _)

/-! ### What logs nothing -/

theorem State.put_ring_key (s : State) {r : Row} (v : Nat) {n i : Nat} (ht : r.key n i ≠ EVT_TOTAL.key 0 0)
    (hr : ¬InRing (r.key n i)) : (s.put r v n i).ring = s.ring := by
  refine Prod.ext (State.get_put_ne s ht.symm v) (funext fun k => State.get_put_ne s (fun he => hr ?_) v)
  rw [← he]
  exact inRing_slot (by decide) k

/-- A write of a field of a page above the log's. -/
@[simp] theorem State.put_ring_page (s : State) {r : Row} (v n i : Nat) (h : 6 < r.page) : (s.put r v n i).ring = s.ring := by
  have hle : 7 * 0x20000 ≤ r.key n i := by
    unfold Row.key
    omega
  have htotal : EVT_TOTAL.key 0 0 < 7 * 0x20000 := by decide
  exact State.put_ring_key s v (by omega) (by simp only [InRing]; omega)

/-- A write of a field of a page below the log's. -/
@[simp] theorem State.put_ring_low (s : State) {r : Row} (v : Nat) {n i : Nat} (h : r.key n i < 6 * 0x20000) :
    (s.put r v n i).ring = s.ring := by
  have htotal : 6 * 0x20000 ≤ EVT_TOTAL.key 0 0 := by decide
  exact State.put_ring_key s v (by omega) (by simp only [InRing]; omega)

/-- A write at another place of a page than those of the log. -/
@[simp] theorem State.put_ring_place (s : State) {r : Row} (v n : Nat) {i : Nat}
    (h : r.key 0 i % 0x20000 < 0x800 * 32 ∧ r.key 0 i % 0x20000 ≠ EVT_TOTAL.key 0 0 % 0x20000) : (s.put r v n i).ring = s.ring := by
  have hkey := Row.key_page r n i
  exact State.put_ring_key s _ (by omega) (by simp only [InRing]; omega)

@[simp] theorem State.raise_ring (s : State) (q bits : Nat) : (s.raise q bits).ring = s.ring := State.put_ring_place s _ q (by decide)

@[simp] theorem State.stage_ring (s : State) (r : Row) (v n i : Nat) : (s.stage r v n i).ring = s.ring := rfl

@[simp] theorem State.addSat_ring_page (s : State) {r : Row} (v n i : Nat) (h : 6 < r.page) :
    (s.addSat r v n i).ring = s.ring := State.put_ring_page s _ n i h

@[simp] theorem State.inc_ring_page (s : State) {r : Row} (n i : Nat) (h : 6 < r.page) : (s.inc r n i).ring = s.ring :=
  State.put_ring_page s _ n i h

@[simp] theorem State.fresh_ring (s : State) : s.fresh.2.ring = s.ring := rfl

@[simp] theorem ite_ring (c : Prop) [Decidable c] (s t : State) : (if c then s else t).ring = if c then s.ring else t.ring :=
  apply_ite State.ring c s t

theorem foldl_ring {α : Type} (l : List α) (f : State → α → State) (hf : ∀ s, ∀ a ∈ l, (f s a).ring = s.ring) (s : State) :
    (l.foldl f s).ring = s.ring := by
  induction l generalizing s with
  | nil => rfl
  | cons a l ih => exact (ih (fun s a ha => hf s a (.tail _ ha)) _).trans (hf s a (.head _))

/-- An update of the record that leaves the registers. -/
theorem State.ring_mk (s : State) (pending staged parity owed log wdt yard boot gran shadow host loft semHold temp sol solc fpa cal
    mill nuc sen link linkc vid vout slu hsFault freeCtr) :
    State.ring ⟨pending, s.regs, staged, parity, owed, log, wdt, yard, boot, gran, shadow, host, loft, semHold, temp, sol, solc, fpa,
      cal, mill, nuc, sen, link, linkc, vid, vout, slu, hsFault, freeCtr⟩ = s.ring := rfl

@[simp] theorem State.setPort_ring (s : State) (n : Nat) (q : LinkS) : (s.setPort n q).ring = s.ring := rfl

@[simp] theorem State.linkQueueCut_ring (s : State) : s.linkQueueCut.ring = s.ring := rfl

@[simp] theorem State.setPd_ring (s : State) (d v : Nat) : (s.setPd d v).ring = s.ring := by
  simp (disch := decide) [State.setPd]

@[simp] theorem State.advanceEpoch_ring (s : State) (m : Nat) : (s.advanceEpoch m).ring = s.ring := by
  simp (disch := decide) [State.advanceEpoch]

@[simp] theorem State.sluicePeak_ring (s : State) (x k : Nat) : (s.sluicePeak x k).ring = s.ring := by
  simp (disch := decide) [State.sluicePeak]

@[simp] theorem State.msgPeak_ring (s : State) (n : Nat) : (s.msgPeak n).ring = s.ring := by
  simp (disch := decide) [State.msgPeak]

@[simp] theorem State.showPort_ring (s : State) (n : Nat) : (s.showPort n).ring = s.ring := by
  simp (disch := decide) [State.showPort]

@[simp] theorem State.clockSync_ring (s : State) : s.clockSync.ring = s.ring := by
  simp (disch := decide) [State.clockSync]

@[simp] theorem State.dropStaged_ring (s : State) (p : Nat) : (s.dropStaged p).ring = s.ring := by
  simp (disch := decide) [State.dropStaged, State.ring_mk]

@[simp] theorem State.endFill_ring (s : State) (result : Nat) : (s.endFill result).ring = s.ring := by
  have hrow : 6 < (completeRow s.inactive).page := by
    unfold completeRow
    split <;> decide
  unfold State.endFill
  extract_lets t
  change t.ring = s.ring
  simp (disch := decide) [t, State.put_ring_page _ _ _ _ hrow]

@[simp] theorem State.startPeriod_ring (s : State) : s.startPeriod.ring = s.ring := by
  simp (disch := decide) [State.startPeriod, State.ring_mk]

@[simp] theorem State.wdtSync_ring (s : State) : s.wdtSync.ring = s.ring := by
  simp (disch := decide) [State.wdtSync, State.ring_mk]

@[simp] theorem State.rampFrom_ring (s : State) : s.rampFrom.ring = s.ring := by
  simp (disch := decide) [State.rampFrom, State.ring_mk]

@[simp] theorem State.rampTop_ring (s : State) : s.rampTop.ring = s.ring := by
  simp (disch := decide) [State.rampTop, State.ring_mk]

@[simp] theorem State.rampUp_ring (s : State) : s.rampUp.ring = s.ring := by
  simp (disch := decide) [State.rampUp, State.ring_mk]

@[simp] theorem State.throttleRest_ring (s : State) : s.throttleRest.ring = s.ring := by
  simp (disch := decide) [State.throttleRest]

@[simp] theorem State.rampDown_ring (s : State) : s.rampDown.ring = s.ring := by
  simp (disch := decide) [State.rampDown, State.ring_mk]

@[simp] theorem State.setSlot_ring (s : State) (k : Nat) (sl : Slot) : (s.setSlot k sl).ring = s.ring := by
  refine State.put_ring_page _ _ _ _ ?_
  unfold slotRow
  split <;> decide

@[simp] theorem State.slotDrop_ring (s : State) (k : Nat) : (s.slotDrop k).ring = s.ring := by
  unfold State.slotDrop
  extract_lets sl t
  have ht : t.ring = s.ring := State.setSlot_ring ..
  split
  · refine (State.put_ring_page t _ _ _ ?_).trans ht
    unfold reqRow
    split <;> decide
  · exact ht

@[simp] theorem State.dropOverlaps_ring (s : State) : s.dropOverlaps.ring = s.ring := by
  refine foldl_ring _ _ (fun s k _ => ?_) s
  simp (disch := decide)

@[simp] theorem State.setDefaulted_ring (s : State) : (s.setDefaulted 0x011).ring = s.ring := by
  simp (disch := decide) [State.setDefaulted]

@[simp] theorem State.extestEnd_ring (s : State) : s.extestEnd.ring = s.ring := by
  simp (disch := decide) [State.extestEnd]

@[simp] theorem State.leaveService_ring (s : State) : s.leaveService.ring = s.ring := by
  simp (disch := decide) [State.leaveService]

@[simp] theorem State.bgReset_ring (s : State) : s.bgReset.ring = s.ring := by
  simp (disch := decide) [State.bgReset, State.ring_mk]

@[simp] theorem State.senArm_ring (s : State) : s.senArm.ring = s.ring := by
  simp (disch := decide) [State.senArm, State.armSlot]

@[simp] theorem State.senSync_ring (s : State) : s.senSync.ring = s.ring := by
  simp (disch := decide) [State.senSync, State.disarmSlot, State.ring_mk]

@[simp] theorem State.post_ring (s : State) (n msg : Nat) (ws : List Nat) : (s.post n msg ws).ring = s.ring := by
  simp (disch := decide) [State.post]

@[simp] theorem State.noteStatus_ring (s : State) : s.noteStatus.ring = s.ring := by
  simp (disch := decide) [State.noteStatus]

@[simp] theorem State.policyNow_ring (s : State) : s.policyNow.ring = s.ring := by
  simp (disch := decide) [State.policyNow]

@[simp] theorem State.axesAt_ring (s : State) (all here : Bool) : (s.axesAt all here).ring = s.ring := by
  simp (disch := decide) [State.axesAt]

@[simp] theorem State.axesNow_ring (s : State) (all : Bool) : (s.axesNow all).ring = s.ring := by
  simp (disch := decide) [State.axesNow]

@[simp] theorem State.serviceFlag_ring (s : State) (service : Bool) : (s.serviceFlag service).ring = s.ring := by
  simp (disch := decide) [State.serviceFlag, State.ring_mk]

@[simp] theorem State.pixCloses_ring (s : State) : s.pixCloses.ring = s.ring := by
  simp (disch := decide) [State.pixCloses, State.ring_mk]

@[simp] theorem State.closing_ring (s : State) (d : Nat) : (s.closing d).ring = s.ring := by
  simp (disch := decide) [State.closing, State.ring_mk]

@[simp] theorem State.reopen_ring (s : State) (d : Nat) : (s.reopen d).ring = s.ring := by
  simp (disch := decide) [State.reopen]


/-! ### What a session's end and the domains log -/

theorem State.logged_recover (s : State) (n owner : Nat) : s.Logged 4 (s.recover n owner) := by
  have hevent {t : State} (ht : t.ring = s.ring) (code data : Nat) : s.Logged 4 (t.event code data) :=
    ((State.logged_event t code data).after ht).mono (by decide)
  unfold State.recover
  split
  · split
    · exact hevent (State.endFill_ring s 3) ..
    · exact .refl s 4
  split
  · exact hevent (by simp) ..
  split
  · exact (State.Logged.refl s 4).silent (State.put_ring_page s _ _ _ (by decide))
  split
  · refine foldl_logged (List.range 4) _ (fun _ => 1) (fun t k _ => ?_) s
    split
    · exact (State.logged_event ..).after (State.dropStaged_ring t _)
    · exact (State.Logged.refl t 1).silent (State.dropStaged_ring t _)
  · exact .refl s 4

theorem State.logged_orphan (s : State) {n : Nat} (cause : Nat) (hn : n < 8) : s.Logged 5 (s.orphan n cause) := by
  have hkeys : ∀ n < 8, LOCK_STATE.key 0 n < 6 * 0x20000 ∧ LOCK_ORPHANS.key 0 n < 6 * 0x20000 := by decide
  obtain ⟨hstate, horphans⟩ := hkeys n hn
  have hsem (t : State) (l : List Nat) : State.ring { t with semHold := l } = t.ring := rfl
  unfold State.orphan
  split
  · extract_lets owner t
    have ht : s.Logged 1 t := by
      refine (State.logged_event ..).after ((State.raise_ring ..).trans ?_)
      exact (State.put_ring_low _ _ horphans).trans (State.put_ring_low _ _ hstate)
    exact (ht.silent (hsem ..)).trans (State.logged_recover ..)
  · exact .refl s 5

theorem State.logged_orphanAll (s : State) (m cause : Nat) : s.Logged 40 (s.orphanAll m cause) := by
  refine foldl_logged (List.range 8) _ (fun _ => 5) (fun t n hn => ?_) s
  split
  · exact State.logged_orphan t cause (List.mem_range.mp hn)
  · exact .refl t 5

theorem State.logged_sessionLost (s : State) (n cause : Nat) : s.Logged 41 (s.sessionLost n cause) := by
  unfold State.sessionLost
  split
  · exact .refl s 41
  · extract_lets s1 q done sOrph _ sCut _ rs lost _ sShow sMid sDone _
    have h1 : s1.ring = s.ring := State.msgPeak_ring ..
    have horph : s1.Logged 40 sOrph := (State.logged_orphanAll ..).after (State.advanceEpoch_ring ..)
    have hcut : s1.Logged 40 sCut := horph.silent ((State.linkQueueCut_ring _).trans (State.setPort_ring ..))
    have hfwd (t : State) (c : LinkCom) : State.ring { t with linkc := c } = t.ring := rfl
    have hshow : sShow.ring = s1.ring := by
      unfold sShow
      rw [State.showPort_ring, State.addSat_ring_page _ _ _ _ (by decide), State.setPort_ring]
    have hmid : s1.Logged 40 sMid := by
      unfold sMid
      split
      · exact hcut.silent (hfwd ..)
      · refine (State.Logged.refl s1 40).silent ?_
        split
        · exact hshow
        · exact (State.raise_ring ..).trans hshow
    have hdone : sDone.ring = sMid.ring := (State.raise_ring ..).trans (State.put_ring_page _ _ _ _ (by decide))
    exact ((hmid.after h1).silent hdone).trans ((State.logged_event ..).after (State.setPort_ring ..))

theorem State.logged_portOff (s : State) (n : Nat) (dormant : Bool) : s.Logged 41 (s.portOff n dormant) := by
  refine (State.logged_sessionLost s n 2).silent ?_
  simp (disch := decide) [State.portOff]

/-- How many entries domain `d` may log as its opening ends: a port's session is lost with it. -/
def openingLogs (d : Nat) : Nat := if 2 ≤ d ∧ d ≤ 5 then 41 else 0

theorem State.logged_openingEnds (s : State) (d : Nat) : s.Logged (openingLogs d) (s.openingEnds d) := by
  unfold State.openingEnds openingLogs
  extract_lets t path u
  have ht : t.ring = s.ring := State.setPd_ring ..
  split
  · have hu : s.Logged 41 u := (State.logged_portOff ..).after ht
    split
    · exact hu.silent (State.put_ring_page _ _ _ _ (by decide))
    · exact hu
  · exact .of_ring ht

theorem State.logged_domainsSync (s : State) : s.Logged 164 s.domainsSync := by
  unfold State.domainsSync
  extract_lets t
  have ht : s.Logged 164 t := by
    refine foldl_logged (List.range 8) _ (fun i => openingLogs (i + 1)) (fun u i _ => ?_) s
    have hsilent {v : State} (hv : v.ring = u.ring) : u.Logged (openingLogs (i + 1)) v :=
      (State.Logged.refl u _).silent hv
    dsimp only
    split
    · exact hsilent (by simp)
    split
    · exact hsilent (State.closing_ring ..)
    split
    · exact State.logged_openingEnds ..
    · exact .refl u _
  exact ht.silent (by simp)

theorem State.logged_rechoose (s : State) : s.Logged 1 s.rechoose := by
  have hput (t : State) (r : Row) (v : Nat) (h : r.key 0 0 < 6 * 0x20000) (ht : t.ring = s.ring) : (t.put r v).ring = s.ring :=
    (State.put_ring_low t v h).trans ht
  unfold State.rechoose
  dsimp only
  have ht := hput _ YARD_LIMIT_WC s.allowed.2 (by decide) (hput s YARD_ALLOWED s.allowed.1 (by decide) rfl)
  split
  · exact (State.Logged.refl s 1).silent (hput _ _ _ (by decide) ht)
  · split
    · exact (State.Logged.refl s 1).silent ht
    · exact (State.logged_event ..).after (hput _ _ _ (by decide) ht)

end Sys2Proof.Machine
end

section
namespace Sys2Proof.Machine
open Sys2Proof

/-! ### What a transition leaves of the array -/

/-- The array's timing and the frame that the Mill forms. -/
def State.arrayView (s : State) : FpaS × MillS := (s.fpa, s.mill)

/-- An update of the record that leaves both. -/
theorem State.arrayView_mk (s : State) (pending regs staged parity owed log wdt yard boot gran shadow host loft semHold temp sol solc cal
    nuc sen link linkc vid vout slu hsFault freeCtr) :
    State.arrayView ⟨pending, regs, staged, parity, owed, log, wdt, yard, boot, gran, shadow, host, loft, semHold, temp, sol, solc, s.fpa,
      cal, s.mill, nuc, sen, link, linkc, vid, vout, slu, hsFault, freeCtr⟩ = s.arrayView := rfl

@[simp] theorem State.put_arrayView (s : State) (r : Row) (v n i : Nat) : (s.put r v n i).arrayView = s.arrayView := rfl

@[simp] theorem State.stage_arrayView (s : State) (r : Row) (v n i : Nat) : (s.stage r v n i).arrayView = s.arrayView := rfl

@[simp] theorem State.addSat_arrayView (s : State) (r : Row) (v n i : Nat) : (s.addSat r v n i).arrayView = s.arrayView := rfl

@[simp] theorem State.inc_arrayView (s : State) (r : Row) (n i : Nat) : (s.inc r n i).arrayView = s.arrayView := rfl

@[simp] theorem State.raise_arrayView (s : State) (q bits : Nat) : (s.raise q bits).arrayView = s.arrayView := rfl

@[simp] theorem State.setPd_arrayView (s : State) (d v : Nat) : (s.setPd d v).arrayView = s.arrayView := rfl

@[simp] theorem State.setPort_arrayView (s : State) (n : Nat) (q : LinkS) : (s.setPort n q).arrayView = s.arrayView := rfl

@[simp] theorem State.linkQueueCut_arrayView (s : State) : s.linkQueueCut.arrayView = s.arrayView := rfl

@[simp] theorem State.event_arrayView (s : State) (code data : Nat) : (s.event code data).arrayView = s.arrayView := by
  rw [(s.event_logsOnly code data).1]
  rfl

@[simp] theorem ite_arrayView (c : Prop) [Decidable c] (s t : State) :
    (if c then s else t).arrayView = if c then s.arrayView else t.arrayView := apply_ite State.arrayView c s t

theorem foldl_arrayView {α : Type} (l : List α) (f : State → α → State) (hf : ∀ s a, (f s a).arrayView = s.arrayView) (s : State) :
    (l.foldl f s).arrayView = s.arrayView := by
  induction l generalizing s with
  | nil => rfl
  | cons a l ih => exact (ih _).trans (hf s a)

@[simp] theorem State.setDefaulted_arrayView (s : State) (p : Nat) : (s.setDefaulted p).arrayView = s.arrayView := by
  simp [State.setDefaulted]

@[simp] theorem State.advanceEpoch_arrayView (s : State) (m : Nat) : (s.advanceEpoch m).arrayView = s.arrayView := by
  simp [State.advanceEpoch]

@[simp] theorem State.sluicePeak_arrayView (s : State) (x k : Nat) : (s.sluicePeak x k).arrayView = s.arrayView := by
  simp [State.sluicePeak]

@[simp] theorem State.msgPeak_arrayView (s : State) (n : Nat) : (s.msgPeak n).arrayView = s.arrayView := by
  simp [State.msgPeak]

@[simp] theorem State.showPort_arrayView (s : State) (n : Nat) : (s.showPort n).arrayView = s.arrayView := by
  simp [State.showPort]

@[simp] theorem State.clockSync_arrayView (s : State) : s.clockSync.arrayView = s.arrayView := by
  simp [State.clockSync]

@[simp] theorem State.dropStaged_arrayView (s : State) (p : Nat) : (s.dropStaged p).arrayView = s.arrayView := by
  simp [State.dropStaged, State.arrayView_mk]

@[simp] theorem State.endFill_arrayView (s : State) (result : Nat) : (s.endFill result).arrayView = s.arrayView := by
  simp [State.endFill, State.arrayView_mk]

@[simp] theorem State.extestEnd_arrayView (s : State) : s.extestEnd.arrayView = s.arrayView := by
  simp [State.extestEnd]

@[simp] theorem State.leaveService_arrayView (s : State) : s.leaveService.arrayView = s.arrayView := by
  simp [State.leaveService]

@[simp] theorem State.bgReset_arrayView (s : State) : s.bgReset.arrayView = s.arrayView := by
  simp [State.bgReset, State.arrayView_mk]

@[simp] theorem State.startPeriod_arrayView (s : State) : s.startPeriod.arrayView = s.arrayView := by
  simp [State.startPeriod, State.arrayView_mk]

@[simp] theorem State.wdtSync_arrayView (s : State) : s.wdtSync.arrayView = s.arrayView := by
  simp [State.wdtSync, State.arrayView_mk]

@[simp] theorem State.rechoose_arrayView (s : State) : s.rechoose.arrayView = s.arrayView := by
  unfold State.rechoose
  dsimp only
  split <;> simp

@[simp] theorem State.recover_arrayView (s : State) (n owner : Nat) : (s.recover n owner).arrayView = s.arrayView := by
  have hdrop (t : State) (q : Nat) : (t.dropStaged q).arrayView = t.arrayView := State.dropStaged_arrayView t q
  unfold State.recover
  split_ifs
  · simp
  · rfl
  · simp
  · rfl
  · refine foldl_arrayView _ _ (fun s k => ?_) s
    simp
  · rfl

@[simp] theorem State.orphan_arrayView (s : State) (n cause : Nat) : (s.orphan n cause).arrayView = s.arrayView := by
  simp [State.orphan, State.arrayView_mk]

@[simp] theorem State.orphanAll_arrayView (s : State) (m cause : Nat) : (s.orphanAll m cause).arrayView = s.arrayView := by
  refine foldl_arrayView _ _ (fun s n => ?_) s
  simp

@[simp] theorem State.sessionLost_arrayView (s : State) (n cause : Nat) : (s.sessionLost n cause).arrayView = s.arrayView := by
  unfold State.sessionLost
  split
  · rfl
  · extract_lets s1 q done sOrph _ sCut _ rs lost _ sShow sMid sDone _
    have h1 : s1.arrayView = s.arrayView := State.msgPeak_arrayView ..
    have horph : sOrph.arrayView = s1.arrayView := (State.orphanAll_arrayView ..).trans (State.advanceEpoch_arrayView ..)
    have hcut : sCut.arrayView = sOrph.arrayView := (State.linkQueueCut_arrayView _).trans (State.setPort_arrayView ..)
    have hshow : sShow.arrayView = s1.arrayView := by
      unfold sShow
      rw [State.showPort_arrayView, State.addSat_arrayView, State.setPort_arrayView]
    have hfwd (t : State) (c : LinkCom) : State.arrayView { t with linkc := c } = t.arrayView := rfl
    have hmid : sMid.arrayView = s1.arrayView := by
      unfold sMid
      split
      · exact (hfwd ..).trans (hcut.trans horph)
      · split
        · exact hshow
        · exact (State.raise_arrayView ..).trans hshow
    have hdone : sDone.arrayView = sMid.arrayView := (State.raise_arrayView ..).trans (State.put_arrayView ..)
    exact (State.event_arrayView ..).trans ((State.setPort_arrayView ..).trans (hdone.trans (hmid.trans h1)))

@[simp] theorem State.portOff_arrayView (s : State) (n : Nat) (dormant : Bool) : (s.portOff n dormant).arrayView = s.arrayView := by
  simp [State.portOff]

@[simp] theorem State.openingEnds_arrayView (s : State) (d : Nat) : (s.openingEnds d).arrayView = s.arrayView := by
  simp [State.openingEnds]

@[simp] theorem State.setSlot_arrayView (s : State) (k : Nat) (sl : Slot) : (s.setSlot k sl).arrayView = s.arrayView := by
  simp [State.setSlot, State.arrayView_mk]

@[simp] theorem State.instBit_arrayView (s : State) (r : Row) (i : Nat) (b : Bool) : (s.instBit r i b).arrayView = s.arrayView := by
  simp [State.instBit]

@[simp] theorem State.slotDrop_arrayView (s : State) (k : Nat) : (s.slotDrop k).arrayView = s.arrayView := by
  unfold State.slotDrop
  extract_lets sl t
  have ht : t.arrayView = s.arrayView := State.setSlot_arrayView ..
  split
  · exact (State.instBit_arrayView t (reqRow sl.inst) sl.inst true).trans ht
  · exact ht

@[simp] theorem State.dropOverlaps_arrayView (s : State) : s.dropOverlaps.arrayView = s.arrayView := by
  refine foldl_arrayView _ _ (fun s k => ?_) s
  simp

@[simp] theorem State.senArm_arrayView (s : State) : s.senArm.arrayView = s.arrayView := by
  simp [State.senArm, State.armSlot]

@[simp] theorem State.post_arrayView (s : State) (n msg : Nat) (ws : List Nat) : (s.post n msg ws).arrayView = s.arrayView := by
  simp [State.post]

@[simp] theorem State.noteStatus_arrayView (s : State) : s.noteStatus.arrayView = s.arrayView := by
  simp [State.noteStatus]

@[simp] theorem State.policyNow_arrayView (s : State) : s.policyNow.arrayView = s.arrayView := by
  simp [State.policyNow]

@[simp] theorem State.axesAt_arrayView (s : State) (all here : Bool) : (s.axesAt all here).arrayView = s.arrayView := by
  simp [State.axesAt]

@[simp] theorem State.axesNow_arrayView (s : State) (all : Bool) : (s.axesNow all).arrayView = s.arrayView := by
  simp [State.axesNow]

@[simp] theorem State.throttleRest_arrayView (s : State) : s.throttleRest.arrayView = s.arrayView := by
  simp [State.throttleRest]

end Sys2Proof.Machine
end

section
namespace Sys2Proof.Machine
open Sys2Proof
variable {μ δ : Bool}

/-! ### The frame that goes on through an entry -/

/-- From `s` to `t` a frame in progress goes on with its flags, and none begins. -/
structure State.FrameKept (s t : State) : Prop where
  runs : t.frameRuns = s.frameRuns
  flags : t.mill.flags = s.mill.flags
  rests : s.fpa.inFrame = false → t.fpa.inFrame = false

theorem State.FrameKept.of_view {s t : State} (h : t.arrayView = s.arrayView) : s.FrameKept t := by
  obtain ⟨hfpa, hmill⟩ := Prod.mk.inj h
  exact ⟨by simp only [State.frameRuns, hfpa], by rw [hmill], fun hs => by rw [hfpa]; exact hs⟩

theorem State.FrameKept.trans {s t u : State} (h : s.FrameKept t) (h' : t.FrameKept u) : s.FrameKept u :=
  ⟨h'.runs.trans h.runs, h'.flags.trans h.flags, fun hs => h'.rests (h.rests hs)⟩

/-- The timing stops where no frame runs. -/
theorem State.frameKept_rampDown {s : State} (h : s.frameRuns = false) : s.FrameKept s.rampDown := by
  have hflags : s.rampDown.mill.flags = s.mill.flags := by
    unfold State.rampDown State.rampFrom
    dsimp only
    split <;> rfl
  exact ⟨h.symm ▸ rfl, hflags, fun _ => rfl⟩

theorem State.frameKept_rampUp (s : State) : s.FrameKept s.rampUp := by
  unfold State.rampUp
  split
  · exact ⟨rfl, rfl, id⟩
  next hoff =>
    have hrest : s.frameRuns = false := by
      simp only [State.frameRuns]
      simp_all
    split
    · exact ⟨hrest.symm ▸ rfl, rfl, fun _ => rfl⟩
    · unfold State.rampFrom
      dsimp only
      split <;> exact ⟨rfl, rfl, id⟩

theorem State.frameKept_pixCloses (s : State) : s.FrameKept s.pixCloses := by
  unfold State.pixCloses
  split
  · exact ⟨rfl, rfl, id⟩
  next hrun =>
  split
  · have hdrop : s.FrameKept s.dropOverlaps := .of_view (State.dropOverlaps_arrayView s)
    have hrest : s.frameRuns = false := by
      cases hon : s.fpa.on <;> simp_all [State.frameRuns]
    exact hdrop.trans (State.frameKept_rampDown (hdrop.runs.trans hrest))
  · exact .of_view rfl

theorem State.frameKept_closing (s : State) (d : Nat) : s.FrameKept (s.closing d) := by
  unfold State.closing
  extract_lets _ _ t
  have ht : s.FrameKept t := .of_view rfl
  split
  · exact ht.trans (State.frameKept_pixCloses t)
  · exact ht

theorem State.frameKept_reopen (s : State) (d : Nat) : s.FrameKept (s.reopen d) := by
  unfold State.reopen
  extract_lets t
  have ht : s.FrameKept t := .of_view (State.setPd_arrayView ..)
  split
  · split
    · exact ht.trans (State.frameKept_rampUp t)
    · exact ht
  · exact ht

theorem State.frameKept_domainsSync (s : State) : s.FrameKept s.domainsSync := by
  unfold State.domainsSync
  extract_lets t
  have ht : s.FrameKept t := by
    refine List.foldlRecOn (motive := s.FrameKept) _ _ (.of_view rfl) fun u hu i _ => hu.trans ?_
    dsimp only
    split
    · split
      · exact .of_view (State.setPd_arrayView ..)
      · split
        · exact State.frameKept_reopen ..
        · exact .of_view rfl
    · split
      · exact State.frameKept_closing ..
      · split
        · exact .of_view (State.openingEnds_arrayView ..)
        · exact .of_view rfl
  exact ht.trans (.of_view (by simp))

theorem State.frameKept_senSync (s : State) : s.FrameKept s.senSync := by
  unfold State.senSync
  split
  · exact .of_view (by simp)
  · extract_lets _ t
    have ht : s.FrameKept t := ⟨rfl, rfl, id⟩
    split
    · exact ht.trans (.of_view rfl)
    · exact ht

/-! ### The entry into a mode, event by event -/

/-- What follows the entry of the event: the SERVICE flag, the axes, the domains, the watches. -/
def State.modeFollows (s : State) (service : Bool) : State :=
  ((((s.serviceFlag service).axesNow true).domainsSync.senSync.wdtSync).rechoose).noteStatus

theorem State.modeFollows_held (s : State) (service : Bool) : (s.modeFollows service).held μ false = s.held μ false := by
  simp [State.modeFollows]

theorem State.logged_modeFollows (s : State) (service : Bool) : s.Logged 165 (s.modeFollows service) := by
  have haxes : ((s.serviceFlag service).axesNow true).ring = s.ring := by simp
  have hsync := (State.logged_domainsSync ((s.serviceFlag service).axesNow true)).after haxes
  have hwatch := hsync.silent (u := ((s.serviceFlag service).axesNow true).domainsSync.senSync.wdtSync) (by simp)
  exact (hwatch.trans (State.logged_rechoose _)).silent (State.noteStatus_ring _)

theorem State.frameKept_modeFollows (s : State) (service : Bool) : (s.serviceFlag service).FrameKept (s.modeFollows service) := by
  have haxes : (s.serviceFlag service).FrameKept ((s.serviceFlag service).axesNow true) := .of_view (State.axesNow_arrayView ..)
  have hsync := (haxes.trans (State.frameKept_domainsSync _)).trans (State.frameKept_senSync _)
  refine hsync.trans (.of_view ?_)
  rw [State.modeFollows, State.noteStatus_arrayView, State.rechoose_arrayView, State.wdtSync_arrayView]

/-- The entry into a mode up to its event: what it leaves of the memories, of the log and of the array. -/
structure State.ModeSet (s t : State) (target cause : Nat) : Prop where
  held : ∀ μ δ, t.held μ δ = (s.held μ δ).entered target cause
  ring : t.ring = s.ring
  mill : t.mill = s.mill
  fpa : s.mode ≠ SENTRY → target ≠ SENTRY → target ≠ DORMANT → t.fpa = s.fpa
  rests : target = SENTRY → t.fpa.inFrame = false

theorem State.enterMode_split (s : State) (target cause : Nat) : ∃ (u : State) (data : Nat), s.ModeSet u target cause ∧
    s.enterMode target cause = (u.event 0x0110 data).modeFollows (target == SERVICE) := by
  have hend (μ δ : Bool) (t : State) (f : FpaS) (n : SenS) :
      State.held μ δ { t with yard := { t.yard with trans := none }, fpa := f, sen := n } = { t.held μ δ with trans := none } := rfl
  have hring (t : State) (y : YardS) (f : FpaS) (n : SenS) : State.ring { t with yard := y, fpa := f, sen := n } = t.ring := rfl
  unfold State.enterMode
  extract_lets old s1 s2 s3 _ _ _ s4 s5 s6 s7
  have h3 : s3.arrayView = s.arrayView := by simp [s3, s2, s1]
  have h5 : s5.arrayView = s4.arrayView := by simp [s5]
  obtain ⟨hfpa3, hmill3⟩ := Prod.mk.inj h3
  obtain ⟨hfpa5, hmill5⟩ := Prod.mk.inj h5
  refine ⟨s5, _, ⟨fun μ δ => ?_, ?_, ?_, fun hold ht hd => ?_, fun ht => ?_⟩, rfl⟩
  · have h1 : s1.held μ δ = s.held μ δ := by simp [s1]
    have h2 : s2.held μ δ = { s.held μ δ with mode := target % 4, target := target % 4, busy := 0, cause := cause % 8 } := by
      simp only [s2, State.put_cause_held, State.put_busy_held, State.put_target_held, State.put_mode_held, h1]
    have h3 : s3.held μ δ = s2.held μ δ := by simp [s3]
    have h4 : s4.held μ δ = (s.held μ δ).entered target cause := (hend ..).trans (by rw [h3, h2]; rfl)
    simp [s5, h4]
  · have h1 : s1.ring = s.ring := by simp [s1]
    have h2 : s2.ring = s1.ring := by simp (disch := decide) [s2]
    have h3 : s3.ring = s2.ring := by simp [s3]
    have h4 : s4.ring = s3.ring := hring ..
    simp [s5, h4, h3, h2, h1]
  · exact hmill5.trans hmill3
  · have h4 : s4.fpa = s3.fpa := if_neg (by tauto)
    exact hfpa5.trans (h4.trans hfpa3)
  · rw [hfpa5]
    have h4 : s4.fpa = { s3.fpa with inFrame := false, row := 0, sentry := false, due := false } := if_pos (by tauto)
    rw [h4]

theorem State.enterMode_held (s : State) (target cause : Nat) :
    (s.enterMode target cause).held μ false = (s.held μ false).entered target cause := by
  obtain ⟨u, data, hset, hsplit⟩ := State.enterMode_split s target cause
  rw [hsplit, State.modeFollows_held, State.event_held, hset.held]

end Sys2Proof.Machine
end

section
namespace Sys2Proof.Machine
open Sys2Proof
variable {μ δ : Bool}

/-! ### The clauses that `Held` decides -/

theorem State.busy_of_held {s : State} {h : Held} (hs : s.held μ δ = h) (hb : h.busy = 0) : s.busy = false :=
  beq_eq_false_iff_ne.mpr fun hone => absurd (hone.symm.trans ((congrArg Held.busy hs).trans hb)) (by decide)

theorem State.trans_of_held {s : State} {h : Held} (hs : s.held μ δ = h) : s.yard.trans = h.trans := congrArg Held.trans hs

theorem State.mode_of_held {s : State} {h : Held} (hs : s.held μ δ = h) : s.mode = h.mode := congrArg Held.mode hs

/-- The return from an abandoned entry, at its boundary (R102). -/
theorem backEnds {x : Trans} {s : State} (hx : s.yard.trans = some x) (hent : x.entering = false) (hback : x.back = true)
    (ht : x.target ≠ DORMANT) (hboot : s.boot.booting = false) (hexit : s.yard.exit = none) (hrest : s.frameRuns = false)
    (hform : s.nuc.form = 0) :
    ∃ t, exec .modeTransitionDone s = .next t ∧ t.mode = s.mode ∧ t.busy = false ∧ t.yard.trans = none ∧ s.SameMemory t := by
  have hend := State.frameEnded_of_resting x.target hrest
  have hnext := State.modeTransition_of hx hent hboot hexit (State.transitionMay_of_resting hrest ht) (by rw [hend]; exact hform)
  rw [if_neg ht, if_pos hback, hend] at hnext
  have hheld : (s.unstuck.entryBack).held true false = { s.held true false with busy := 0, trans := none, stuck := false } := by
    rw [State.entryBack_held, State.unstuck_held]
  refine ⟨_, (exec_modeTransitionDone s).trans (congrArg _ hnext), congrArg Held.mode hheld, ?_, congrArg Held.trans hheld, ?_⟩
  · exact State.busy_of_held hheld rfl
  · exact State.sameMemory_of_held (congrArg Held.memory hheld :)

/-- A transition to DORMANT begins the entry (R88). -/
theorem entryBegins {x : Trans} {s : State} (hx : s.yard.trans = some x) (hent : x.entering = false) (ht : x.target = DORMANT)
    (hboot : s.boot.booting = false) (hexit : s.yard.exit = none) (hrest : s.frameRuns = false) (hform : s.nuc.form = 0)
    (hmay : s.transitionMay DORMANT = true) :
    ∃ t, exec .modeTransitionDone s = .next t ∧ t.mode = s.mode ∧ t.yard.trans = some ⟨DORMANT, x.cause, true, false⟩ ∧
      t.get YARD_MODE_BUSY = s.get YARD_MODE_BUSY ∧ t.get YARD_L4_BLOCKED = 0 ∧ t.yard.service = none := by
  have hend := State.frameEnded_of_resting x.target hrest
  have hnext := State.modeTransition_of hx hent hboot hexit (ht ▸ hmay) (by rw [hend]; exact hform)
  rw [if_pos ht, hend] at hnext
  have hheld := State.dormantStart_held s x.cause
  exact ⟨_, (exec_modeTransitionDone s).trans (congrArg _ hnext), congrArg Held.mode hheld, congrArg Held.trans hheld,
    congrArg Held.busy hheld, congrArg Held.blocked hheld, congrArg Held.service hheld⟩

/-- A transition to a mode is completed by force (R97). -/
theorem modeForced {x : Trans} {s : State} (hx : s.yard.trans = some x) (hent : x.entering = false) (hback : x.back = false)
    (ht : x.target ≠ DORMANT) (hlt : x.target < 4) (hboot : s.boot.booting = false) :
    ∃ t, exec .modeStuck s = .next t ∧ t.mode = x.target ∧ t.busy = false ∧ t.yard.trans = none ∧ t.yard.stuck = true ∧
      t.blockFault 0x001 = true ∧ (s.shadow.storing = none → s.SameMemory t) := by
  obtain ⟨u, hnext, hcleared⟩ := State.modeStuck_of_mode hx hent ht hboot
  rw [if_neg (by simp [hback])] at hnext
  have hheld (ν : Bool) (h : ν = true → s.shadow.storing = none) : (u.enterMode x.target x.cause).stuckFault.held ν false =
      { (s.held ν false).entered x.target x.cause with stuck := true } := by
    rw [State.stuckFault_held, State.enterMode_held, hcleared ν h]
  have hmode := hheld false (by simp)
  rw [exec_modeStuck, hnext]
  refine ⟨_, rfl, ?_, ?_, ?_, rfl, State.stuckFault_blockFault _, fun hstore => ?_⟩
  · rw [State.mode_of_held hmode]
    dsimp only [Held.entered]
    rw [Nat.mod_eq_of_lt hlt]
  · exact State.busy_of_held hmode rfl
  · exact State.trans_of_held hmode
  · exact State.sameMemory_of_held (congrArg Held.memory (hheld true fun _ => hstore) :)

/-- A return from an abandoned entry is completed by force (R97). -/
theorem backForced {x : Trans} {s : State} (hx : s.yard.trans = some x) (hent : x.entering = false) (hback : x.back = true)
    (ht : x.target ≠ DORMANT) (hboot : s.boot.booting = false) :
    ∃ t, exec .modeStuck s = .next t ∧ t.mode = s.mode ∧ t.busy = false ∧ t.yard.trans = none ∧ t.yard.stuck = true ∧
      t.blockFault 0x001 = true ∧ (s.shadow.storing = none → s.SameMemory t) := by
  obtain ⟨u, hnext, hcleared⟩ := State.modeStuck_of_mode hx hent ht hboot
  rw [if_pos hback] at hnext
  have hheld (ν : Bool) (h : ν = true → s.shadow.storing = none) : u.entryBack.stuckFault.held ν false =
      { s.held ν false with busy := 0, trans := none, stuck := true } := by
    rw [State.stuckFault_held, State.entryBack_held, hcleared ν h]
  have hmode := hheld false (by simp)
  rw [exec_modeStuck, hnext]
  refine ⟨_, rfl, State.mode_of_held hmode, ?_, State.trans_of_held hmode, rfl,
    State.stuckFault_blockFault _, fun hstore => ?_⟩
  · exact State.busy_of_held hmode rfl
  · exact State.sameMemory_of_held (congrArg Held.memory (hheld true fun _ => hstore) :)

end Sys2Proof.Machine
end

section
namespace Sys2Proof.Machine
open Sys2Proof
variable {μ δ : Bool}

/-! ### A mode takes effect at its boundary (R84, R87) -/

theorem State.coreOn_of_held {s t : State} {h : Held} (hs : t.held μ true = h) (hd : h.domains = (s.held μ true).domains) :
    t.coreOn = s.coreOn := by
  have hget : t.get YARD_PD_STATE = s.get YARD_PD_STATE := Option.some.inj ((congrArg Held.domains hs).trans hd)
  simp only [State.coreOn, State.pd, hget]

/-- MODE_CHANGED stands in the slot that was next (R84, R543). -/
theorem State.enterMode_code {s : State} (hon : s.coreOn = true) (target cause : Nat) :
    (s.enterMode target cause).get EVT_CODE 0 (s.get EVT_TOTAL % 256) = 0x0110 := by
  obtain ⟨u, data, hset, hsplit⟩ := State.enterMode_split s target cause
  have hcore : u.coreOn = true := (State.coreOn_of_held (hset.held true true) rfl).trans hon
  have htotal : u.get EVT_TOTAL = s.get EVT_TOTAL := congrArg Prod.fst hset.ring
  have hnext : (u.event 0x0110 data).get EVT_TOTAL % 256 = (s.get EVT_TOTAL % 256 + 1) % 256 := by
    rw [State.event_get_total hcore, htotal]
    omega
  obtain ⟨-, hcode, -⟩ := State.event_get_entry hcore 0x0110 data
  rw [hsplit, (State.logged_modeFollows _ _).get_code (by decide) hnext, ← htotal]
  exact hcode

theorem bitAt_six (f b : Nat) (hb : b < 2) : bitAt (f - (if bitAt f 6 then 64 else 0) + b * 64) 6 = (b == 1) := by
  unfold bitAt
  simp only [beq_iff_eq, beq_eq_beq]
  split <;> omega

/-- The SERVICE flag of a frame whose boundary is now (R87). -/
theorem State.serviceFlag_bit {s : State} (service : Bool) (hin : s.fpa.inFrame = true) (hrow : s.fpa.row = 0) :
    bitAt (s.serviceFlag service).mill.flags 6 = if s.mill.frame then service else bitAt s.mill.flags 6 := by
  unfold State.serviceFlag
  by_cases hframe : s.mill.frame = true
  · rw [if_pos ⟨hin, hrow, hframe⟩, if_pos hframe]
    refine (bitAt_six _ _ ?_).trans ?_ <;> cases service <;> decide
  · rw [if_neg (by tauto), if_neg hframe]

theorem State.serviceFlag_fpa (s : State) (service : Bool) : (s.serviceFlag service).fpa = s.fpa := by
  unfold State.serviceFlag
  split <;> rfl

/-- What a transition to LIVE or SERVICE at the start of a frame leaves of it. -/
theorem State.enterMode_frame {s : State} {target : Nat} (cause : Nat) (hmode : s.mode ≠ SENTRY)
    (ht : target = LIVE ∨ target = SERVICE) (hrun : s.frameRuns = true) (hrow : s.fpa.row = 0) :
    (s.enterMode target cause).frameRuns = true ∧ bitAt (s.enterMode target cause).mill.flags 6 =
      if s.mill.frame then decide (target = SERVICE) else bitAt s.mill.flags 6 := by
  obtain ⟨u, data, hset, hsplit⟩ := State.enterMode_split s target cause
  have hfpa : (u.event 0x0110 data).fpa = s.fpa :=
    (congrArg Prod.fst (State.event_arrayView ..)).trans
      (hset.fpa hmode (by rcases ht with rfl | rfl <;> decide) (by rcases ht with rfl | rfl <;> decide))
  have hmill : (u.event 0x0110 data).mill = s.mill := (congrArg Prod.snd (State.event_arrayView ..)).trans hset.mill
  have hkept := State.frameKept_modeFollows (u.event 0x0110 data) (target == SERVICE)
  rw [hsplit]
  have hin : s.fpa.inFrame = true := (Bool.and_eq_true_iff.mp hrun).2
  refine ⟨hkept.runs.trans ?_, (congrArg (bitAt · 6) hkept.flags).trans ?_⟩
  · rw [State.frameRuns, State.serviceFlag_fpa, hfpa]
    exact hrun
  · rw [State.serviceFlag_bit _ (by rw [hfpa]; exact hin) (by rw [hfpa]; exact hrow), hmill]
    rfl

/-- After the entry into SENTRY no frame runs. -/
theorem State.enterMode_sentry (s : State) (cause : Nat) : (s.enterMode SENTRY cause).fpa.inFrame = false := by
  obtain ⟨u, data, hset, hsplit⟩ := State.enterMode_split s SENTRY cause
  rw [hsplit]
  refine (State.frameKept_modeFollows (u.event 0x0110 data) (SENTRY == SERVICE)).rests ?_
  rw [State.serviceFlag_fpa, show (u.event 0x0110 data).fpa = u.fpa from congrArg Prod.fst (State.event_arrayView ..)]
  exact hset.rests rfl

/-- The entry into a mode at a boundary, as a command answers. -/
theorem modeEnters {x : Trans} {s : State} (hx : s.yard.trans = some x) (hent : x.entering = false) (hback : x.back = false)
    (ht : x.target ≠ DORMANT) (hboot : s.boot.booting = false) (hexit : s.yard.exit = none) (hmay : s.transitionMay x.target = true)
    (hform : (s.frameEnded x.target).nuc.form = 0) :
    exec .modeTransitionDone s = .next ((s.frameEnded x.target).unstuck.enterMode x.target x.cause) ∧
      ∀ μ, ((s.frameEnded x.target).unstuck.enterMode x.target x.cause).held μ false =
        { (s.held μ false).entered x.target x.cause with stuck := false } := by
  have hnext := State.modeTransition_of hx hent hboot hexit hmay hform
  rw [if_neg ht, if_neg (by simp [hback])] at hnext
  refine ⟨by rw [exec_modeTransitionDone, hnext], fun μ => ?_⟩
  rw [State.enterMode_held, State.unstuck_held, State.frameEnded_held]
  rfl

/-- What the entry leaves, by what it leaves of `Held`. -/
theorem State.entered_of_held {s t : State} {target cause : Nat}
    (h : ∀ μ, t.held μ false = { (s.held μ false).entered target cause with stuck := false }) (ht : target < 4) (hc : cause < 8) :
    t.mode = target ∧ t.get YARD_MODE_TARGET = target ∧ t.busy = false ∧ t.get YARD_MODE_CAUSE = cause ∧ t.yard.trans = none ∧
      t.yard.stuck = false ∧ s.SameMemory t := by
  have hm4 : target % 4 = target := Nat.mod_eq_of_lt ht
  have hc8 : cause % 8 = cause := Nat.mod_eq_of_lt hc
  refine ⟨(congrArg Held.mode (h false)).trans hm4, (congrArg Held.target (h false)).trans hm4, State.busy_of_held (h false) rfl,
    (congrArg Held.cause (h false)).trans hc8, State.trans_of_held (h false), congrArg Held.stuck (h false), ?_⟩
  exact State.sameMemory_of_held (congrArg Held.memory (h true) :)

theorem modeAtRest {x : Trans} {s : State} (hx : s.yard.trans = some x) (hent : x.entering = false) (hback : x.back = false)
    (ht : x.target ≠ DORMANT) (hlt : x.target < 4) (hcause : x.cause < 8) (hboot : s.boot.booting = false)
    (hexit : s.yard.exit = none) (hrest : s.frameRuns = false) (hform : s.nuc.form = 0) (hon : s.coreOn = true) :
    ∃ t, exec .modeTransitionDone s = .next t ∧ t.mode = x.target ∧ t.get YARD_MODE_TARGET = x.target ∧ t.busy = false ∧
      t.get YARD_MODE_CAUSE = x.cause ∧ t.yard.trans = none ∧ t.get EVT_CODE 0 (s.get EVT_TOTAL % 256) = 0x0110 ∧ s.SameMemory t := by
  have hend := State.frameEnded_of_resting x.target hrest
  obtain ⟨hnext, hheld⟩ := modeEnters hx hent hback ht hboot hexit (State.transitionMay_of_resting hrest ht) (by rw [hend]; exact hform)
  rw [hend] at hnext hheld
  obtain ⟨hmode, htarget, hbusy, hshown, htrans, -, hsame⟩ := State.entered_of_held hheld hlt hcause
  exact ⟨_, hnext, hmode, htarget, hbusy, hshown, htrans, State.enterMode_code (s := s.unstuck) hon .., hsame⟩

theorem modeAtFrame {x : Trans} {s : State} (hx : s.yard.trans = some x) (hent : x.entering = false) (hback : x.back = false)
    (ht : x.target = LIVE ∨ x.target = SERVICE) (hcause : x.cause < 8) (hboot : s.boot.booting = false) (hexit : s.yard.exit = none)
    (hmode : s.mode ≠ SENTRY) (hrun : s.frameRuns = true) (hrow : s.fpa.row = 0) (hform : s.nuc.form = 0) :
    ∃ t, exec .modeTransitionDone s = .next t ∧ t.mode = x.target ∧ t.busy = false ∧ t.yard.trans = none ∧ t.yard.stuck = false ∧
      t.frameRuns = true ∧
      (bitAt t.mill.flags 6 = (if s.mill.frame then decide (x.target = SERVICE) else bitAt s.mill.flags 6)) ∧ s.SameMemory t := by
  have hend : s.frameEnded x.target = s := if_pos ht
  have hmay : s.transitionMay x.target = true := by
    rcases ht with h | h <;> simp [State.transitionMay, hmode, hrow, h]
  obtain ⟨hnext, hheld⟩ := modeEnters hx hent hback (by rcases ht with h | h <;> rw [h] <;> decide) hboot hexit hmay
    (by rw [hend]; exact hform)
  rw [hend] at hnext hheld
  obtain ⟨hentered, -, hbusy, -, htrans, hstuck, hsame⟩ := State.entered_of_held hheld
    (by rcases ht with h | h <;> rw [h] <;> decide) hcause
  obtain ⟨hruns, hflag⟩ := State.enterMode_frame (s := s.unstuck) x.cause hmode ht hrun hrow
  exact ⟨_, hnext, hentered, hbusy, htrans, hstuck, hruns, hflag, hsame⟩

theorem modeToSentry {x : Trans} {s : State} (hx : s.yard.trans = some x) (hent : x.entering = false) (hback : x.back = false)
    (ht : x.target = SENTRY) (hcause : x.cause < 8) (hboot : s.boot.booting = false) (hexit : s.yard.exit = none)
    (hmode : s.mode ≠ SENTRY) (hrows : s.rowsLeft = false) (hform : s.lastFrame.nuc.form = 0) :
    ∃ t, exec .modeTransitionDone s = .next t ∧ t.mode = SENTRY ∧ t.busy = false ∧ t.yard.trans = none ∧ t.fpa.inFrame = false ∧
      t.yard.stuck = false ∧ s.SameMemory t := by
  have hend : s.frameEnded x.target = s.lastFrame := if_neg (by rw [ht]; decide)
  have hmay : s.transitionMay x.target = true := by
    have hother : (s.mode == SENTRY) = false := beq_eq_false_iff_ne.mpr hmode
    have hends : (SENTRY == LIVE || SENTRY == SERVICE) = false := rfl
    simp [State.transitionMay, hother, hends, hrows, ht]
  obtain ⟨hnext, hheld⟩ := modeEnters hx hent hback (by rw [ht]; decide) hboot hexit hmay (by rw [hend]; exact hform)
  rw [ht] at hnext hheld
  obtain ⟨hentered, -, hbusy, -, htrans, hstuck, hsame⟩ := State.entered_of_held hheld (by decide) hcause
  exact ⟨_, hnext, hentered, hbusy, htrans, State.enterMode_sentry .., hstuck, hsame⟩

end Sys2Proof.Machine
end

section
namespace Sys2Proof.Machine
open Sys2Proof
variable {μ δ : Bool}

/-! ### A field of two bits is cleared -/

theorem clear_div_self (w p : Nat) : (w - w / p % 4 * p) / p % 4 = 0 := by
  rw [Nat.mul_comm, Nat.sub_mul_div]
  omega

theorem clear_div_low (w q r : Nat) : (w - w / (q * (4 * r)) % 4 * (q * (4 * r))) / q % 4 = w / q % 4 := by
  have hle : w / (q * (4 * r)) % 4 * r * 4 ≤ w / q := by
    rw [← Nat.div_div_eq_div_mul, Nat.mul_assoc, Nat.mul_comm r 4]
    exact (Nat.mul_le_mul_right _ (Nat.mod_le _ _)).trans (Nat.div_mul_le_self _ _)
  rw [show w / (q * (4 * r)) % 4 * (q * (4 * r)) = q * (w / (q * (4 * r)) % 4 * r * 4) by ring, Nat.sub_mul_div]
  omega

theorem clear_div_high (w p r : Nat) : (w - w / p % 4 * p) / (p * (4 * r)) = w / (p * (4 * r)) := by
  simp only [← Nat.div_div_eq_div_mul]
  rw [Nat.mul_comm, Nat.sub_mul_div]
  generalize w / p = x
  congr 1
  omega

/-- It reads 0, and the others as before. -/
theorem bitsOf_clear (w : Nat) {d e : Nat} (he : e < 9) :
    bitsOf ((w - bitsOf w (2 * d) 2 * 2 ^ (2 * d)) % 2 ^ 18) (2 * e) 2 = if e = d then 0 else bitsOf w (2 * e) 2 := by
  have hcut (x : Nat) : x % 2 ^ 18 / 2 ^ (2 * e) % 4 = x / 2 ^ (2 * e) % 4 := by
    rw [show 2 ^ 18 = 2 ^ (2 * e) * 2 ^ (18 - 2 * e) by rw [← Nat.pow_add]; congr 1; omega, Nat.mod_mul_right_div_self]
    exact Nat.mod_mod_of_dvd _ (Nat.pow_dvd_pow 2 (m := 2) (by omega))
  have hpow {i j : Nat} (h : i < j) : 2 ^ (2 * j) = 2 ^ (2 * i) * (4 * 2 ^ (2 * (j - i - 1))) := by
    rw [show 4 = 2 ^ 2 by rfl, ← Nat.pow_add, ← Nat.pow_add]
    congr 1
    omega
  simp only [bitsOf, show 2 ^ 2 = 4 by rfl, hcut]
  rcases lt_trichotomy e d with h | rfl | h
  · rw [if_neg h.ne, hpow h, clear_div_low]
  · rw [if_pos rfl, clear_div_self]
  · rw [if_neg h.ne', hpow h, clear_div_high]

/-! ### Domains that go off (R131, R148) -/

theorem State.pd_of_get {s t : State} (h : t.get YARD_PD_STATE = s.get YARD_PD_STATE) (e : Nat) : t.pd e = s.pd e :=
  congrArg (bitsOf · (2 * e) 2) h

theorem State.pd_of_held {s t : State} (h : t.held false true = s.held false true) (e : Nat) : t.pd e = s.pd e :=
  State.pd_of_get (Option.some.inj (congrArg Held.domains h)) e

theorem State.setPd_off_pd (s : State) (d : Nat) {e : Nat} (he : e < 9) : (s.setPd d 0).pd e = if e = d then 0 else s.pd e := by
  unfold State.pd State.setPd
  rw [State.get_put_same]
  simpa [YARD_PD_STATE] using bitsOf_clear (s.get YARD_PD_STATE) he

/-- A domain that is dropped is off, and the others stand. -/
theorem State.domainDrop_pd (s : State) {d e : Nat} (hd : d < 9) (he : e < 9) :
    (s.domainDrop d).pd e = if e = d then 0 else s.pd e := by
  unfold State.domainDrop
  split
  next h => split <;> simp_all
  next =>
    dsimp only
    rw [State.pd_of_held (State.domainLost_held_setPd ..), State.setPd_off_pd _ _ he,
      State.pd_of_held (State.drainDrop_held _ _ hd), State.pd_of_held (State.dropFlight_held ..)]

theorem State.foldl_domainDrop_pd (l : List Nat) (hl : ∀ d ∈ l, d < 9) (s : State) {e : Nat} (he : e < 9) (h : e ∈ l ∨ s.pd e = 0) :
    (l.foldl State.domainDrop s).pd e = 0 := by
  induction l generalizing s with
  | nil => simpa using h
  | cons d l ih =>
    refine ih (fun d hd => hl d (.tail _ hd)) (s.domainDrop d) ?_
    rw [State.domainDrop_pd s (hl d (.head _)) he]
    rcases h with h | h
    · rcases List.mem_cons.mp h with rfl | h
      · exact .inr (if_pos rfl)
      · exact .inl h
    · exact .inr (by split <;> simp_all)

theorem State.stuckClosed_pd (s : State) {e : Nat} (he : e < 9) (h0 : e ≠ 0) : (s.stuckClosed true).pd e = 0 := by
  refine State.foldl_domainDrop_pd [6, 7, 1, 2, 3, 4, 5, 8] (by decide) _ he (.inl ?_)
  have hall : ∀ e < 9, e ≠ 0 → e ∈ [6, 7, 1, 2, 3, 4, 5, 8] := by decide
  exact hall e he h0

/-! ### What a loss of class C leaves of the domains (R148) -/

theorem Store.find_filter_key (l : Store) (f : Nat → Bool) {k : Nat} (h : f k = true) (d : Nat) :
    Store.find (l.filter fun e => f e.1) k d = l.find k d := by
  induction l with
  | nil => rfl
  | cons e l ih =>
    obtain ⟨k', v⟩ := e
    by_cases hk : k = k'
    · subst hk
      simp [h, Store.find]
    · by_cases hf : f k' = true <;> simp [hf, Store.find, hk, ih]

theorem State.loseC_pd_state (s : State) : s.loseC.get YARD_PD_STATE = s.get YARD_PD_STATE := by
  have hfilter (t : State) (f : Nat → Bool) (st : Store) (ow : List (Nat × Nat)) (hf : f (YARD_PD_STATE.key 0 0) = true) :
      State.get { t with regs := t.regs.filter (fun e => f e.1), staged := st, owed := ow } YARD_PD_STATE = t.get YARD_PD_STATE :=
    Store.find_filter_key _ f hf _
  have hclass : (((s.loseClass .c).loseClass .v).loseLive).get YARD_PD_STATE = s.get YARD_PD_STATE :=
    (hfilter _ (fun k => keyClass k != Cls.none.code || liveKept k) _ _ (by decide)).trans
      ((hfilter _ (fun k => keyClass k != Cls.v.code) _ _ (by decide)).trans
        (hfilter _ (fun k => keyClass k != Cls.c.code) _ _ (by decide)))
  have hput (t : State) {r : Row} (v n i : Nat) (hr : r.key n i % 4 ≠ 0) : (t.put r v n i).get YARD_PD_STATE = t.get YARD_PD_STATE :=
    State.get_put_ne t (fun he => hr (by rw [← he]; decide)) v
  have hdefault (t : State) (q : Nat) : (t.setDefaulted q).get YARD_PD_STATE = t.get YARD_PD_STATE :=
    (hput _ _ _ _ (by simp only [Row.key, SYS_DEFAULTED_SUMMARY, Cls.code]; omega)).trans
      (hput _ _ _ _ (by simp only [Row.key, HDR_DEFAULTED, Cls.code]; omega))
  have hfold {α : Type} (l : List α) (f : State → α → State) (hf : ∀ t a, (f t a).get YARD_PD_STATE = t.get YARD_PD_STATE) (t : State) :
      (l.foldl f t).get YARD_PD_STATE = t.get YARD_PD_STATE := by
    induction l generalizing t with
    | nil => rfl
    | cons a l ih => exact (ih _).trans (hf t a)
  unfold State.loseC
  extract_lets paths bank s1 s2
  have h1 : s1.get YARD_PD_STATE = s.get YARD_PD_STATE := (State.get_put_ne _ (by decide) _).trans hclass
  have h2 : s2.get YARD_PD_STATE = s1.get YARD_PD_STATE :=
    hfold _ _ (fun t n => State.get_put_place t (by decide) _ n 0) s1
  refine (hfold allPages _ hdefault _).trans (Eq.trans ?_ (h2.trans h1))
  rfl

/-! ### DORMANT is reached (R84, R131) -/

theorem State.event_yard (s : State) (code data : Nat) : (s.event code data).yard = s.yard := by
  rw [(s.event_logsOnly code data).1]

/-- What `Held` reads when DORMANT is reached, but for PD_STATE, and the state of power. -/
theorem State.dormantReached_held (s : State) (cause : Nat) :
    ∃ h : Held, (s.dormantReached cause).held false true =
        { h with mode := 0, target := 0, busy := 0, cause := cause % 8, trans := none, stuck := false } ∧
      h.domains = some ((s.setPd 0 0).get YARD_PD_STATE) ∧ (s.dormantReached cause).yard.pstate = 4 := by
  unfold State.dormantReached
  extract_lets old s1 lat low s2 s3 s4 _ _ _ _ s5 s6 s7
  have h1 : s1.held false true = s.held false true := by simp [s1]
  have hpd : s3.get YARD_PD_STATE = (s.setPd 0 0).get YARD_PD_STATE := by
    have hget : s1.get YARD_PD_STATE = s.get YARD_PD_STATE := Option.some.inj (congrArg Held.domains h1)
    rw [State.loseC_pd_state]
    simp only [State.setPd, State.get_put_same, hget, s2]
  have h4 : s4.held false true = { s3.held false true with mode := 0, target := 0, busy := 0, cause := cause % 8 } := by
    simp only [s4, State.put_cause_held, State.put_busy_held, State.put_target_held, State.put_mode_held]
    rfl
  have h5 : s5.held false true = { s4.held false true with trans := none, stuck := false } := rfl
  have h6 : s6.held false true = s5.held false true := by simp (disch := decide) [s6]
  have h7 : s7.held false true = s6.held false true := by simp (disch := decide) [s7]
  have hyard : s7.yard = s5.yard := by
    unfold s7 s6
    split <;> rfl
  refine ⟨s3.held false true, ?_, congrArg some hpd, ?_⟩
  · rw [State.event_held, h7, h6, h5, h4]
  · rw [State.event_yard, hyard]

/-- The entry to DORMANT is completed by force (R97): every domain is off. -/
theorem dormantForced {x : Trans} {s : State} (hx : s.yard.trans = some x) (ht : x.entering = true ∨ x.target = DORMANT)
    (hcause : x.cause < 8) (hboot : s.boot.booting = false) :
    ∃ t, exec .modeStuck s = .next t ∧ t.mode = DORMANT ∧ t.busy = false ∧ t.yard.trans = none ∧ t.yard.stuck = true ∧
      t.yard.pstate = 4 ∧ (∀ d, d < 9 → t.pd d = 0) ∧ t.get YARD_MODE_CAUSE = x.cause := by
  obtain ⟨u, hnext⟩ := State.modeStuck_of_dormant hx ht hboot
  obtain ⟨h, hheld, hdomains, hpstate⟩ := State.dormantReached_held (u.stuckClosed true) x.cause
  have hfault := State.stuckFault_held (μ := false) (δ := true) ((u.stuckClosed true).dormantReached x.cause)
  rw [hheld] at hfault
  rw [exec_modeStuck, hnext]
  refine ⟨_, rfl, State.mode_of_held hfault, State.busy_of_held hfault rfl, State.trans_of_held hfault, rfl, hpstate, fun d hd => ?_,
    (congrArg Held.cause hfault).trans (Nat.mod_eq_of_lt hcause)⟩
  have hget := Option.some.inj ((congrArg Held.domains hfault).trans hdomains)
  refine (State.pd_of_get hget d).trans ?_
  rw [State.setPd_off_pd _ _ hd]
  split
  · rfl
  next h0 => exact State.stuckClosed_pd u hd h0

/-- Settles O20: every step of a transition but the entry into the mode itself leaves `Held`, by one lemma per function; the entry is
split at its event, after which fewer than 256 entries are logged and the frame in progress goes on. -/
theorem modeTransitions : Obligations.ModeTransitions := by
  unfold Obligations.ModeTransitions
  refine ⟨fun x s => modeAtRest, fun x s => backEnds, fun x s => entryBegins, fun x s => modeForced, fun x s => modeAtFrame,
    fun x s hx hent hback ht hcause hboot hexit hmode _ => modeToSentry hx hent hback ht hcause hboot hexit hmode,
    fun x s hs h => ?_, fun x s => backForced, fun x s => dormantForced, fun s h => ?_⟩
  · rw [exec_modeTransitionDone, State.modeTransition_rests hs h]
  · rw [exec_modeStuck, State.modeStuck_rests h]

end Sys2Proof.Machine
end

section
/-! O1, and concrete states that refute O21 to O24. Each state is written out and evaluated: what else acts in the command that the clause
describes, a posted write, an entry into L3, a boot or the end of a DORMANT entry, makes it end otherwise than the clause says. -/

namespace Sys2Proof.Machine

open Sys2Proof

/-! ### O1: the front of the queue -/

theorem step_of_front {c : Instr} {rest : List Instr} {s : State} (h : s.pending = c :: rest) :
    step s = exec c { s with pending := rest } := by
  simp only [step, h]

theorem step_of_empty {s : State} (h : s.pending = []) : step s = .next s.cycle := by
  simp only [step, h]

/-- Settles O1: the two cases of the queue. -/
theorem stepRunsFrontCommand : Obligations.StepRunsFrontCommand := by
  unfold Obligations.StepRunsFrontCommand
  exact ⟨fun _ _ _ h => step_of_front h, fun _ h => step_of_empty h⟩

/-! ### O21: a posted write ahead of a refused one -/

/-- M1 holds timer slot 3, which is armed, and its write of 0 to the slot's second word, which disarms it, is posted and not yet taken
(R563). Accesses are served, and M1 and M2 are privileged. -/
def disarmPosted : State :=
  { (((State.reset.put YARD_PD_STATE 2).put SYS_PRIV 0xF).put YARD_HOLDER 1 0 3).put YARD_ARMED 1 0 3 with
    boot := { State.reset.boot with inReset := false, served := true }
    host := { HostS.idle with posted := [(1, regAddr 0x001 0x130, 0)] } }

/-- Refutes O21: on `disarmPosted` a write to the slot by M2 meets BUSY as the state stands, but the Yard takes the posted write before it
(R563); the slot is then disarmed and the write accepted, so that no TIMER_REFUSED is logged, which the fifth clause asks for. -/
theorem not_timers : ¬ Obligations.Timers := by
  unfold Obligations.Timers
  intro ⟨_, _, _, _, hrefused, _⟩
  obtain ⟨t, hexec, hlog, _⟩ :=
    hrefused .m2 3 true 0 disarmPosted (by decide +kernel) (by decide +kernel) (by decide +kernel) (by decide +kernel)
  have ht : disarmPosted.command 2 0x001 0x130 0 = t :=
    Host.Outcome.next.inj ((exec_of_commandWrite (i := .timerSlotWrite .m2 3 true 0) rfl _).symm.trans hexec)
  have hsilent : (disarmPosted.command 2 0x001 0x130 0).lastEvent 0x0118 (3 + 2 * 2 ^ 8) = false := by decide +kernel
  rw [ht] at hsilent
  exact absurd (hlog.symm.trans hsilent) (by decide)

/-! ### O22: a DORMANT entry and an entry into L3 at once -/

/-- A DORMANT entry by command, its domains closed, while an entry into L3 is under way too. No run reaches it, since a transition in
progress keeps the device out of L3 (R120) and a device on its way into L3 serves no mode command (R66); the clause is stated of every
state. -/
def dormantWhileEnteringL3 : State :=
  { (State.reset.put YARD_PD_STATE 3).put YARD_MODE SENTRY with
    boot := { State.reset.boot with inReset := false }
    yard := { State.reset.yard with pstate := 3, entering := true, trans := some ⟨DORMANT, 0, true, false⟩ } }

/-- WAKE_PIN_EDGE answers the state after the wake and the head's signature. -/
theorem exec_wakePinEdge (s : State) : exec .wakePinEdge s = .next (s.wake 0 none).signature := rfl

/-- Refutes O22: on `dormantWhileEnteringL3` WAKE abandons the DORMANT entry, but the entry into L3 goes on and closes PD_CORE again (R131),
which the fourteenth clause has ON; the clause has no premise that no such entry is under way. -/
theorem not_powerStates : ¬ Obligations.PowerStates := by
  unfold Obligations.PowerStates
  intro ⟨_, _, _, _, _, _, _, _, _, _, _, _, _, habandon, _⟩
  obtain ⟨t, hexec, _, hcore, _⟩ :=
    habandon ⟨DORMANT, 0, true, false⟩ dormantWhileEnteringL3 (by decide +kernel) rfl rfl (by decide +kernel) rfl
      (by decide +kernel) rfl rfl rfl (.inr (by decide +kernel)) (by decide +kernel)
  have ht : (dormantWhileEnteringL3.wake 0 none).signature = t := Host.Outcome.next.inj ((exec_wakePinEdge _).symm.trans hexec)
  have hcloses : (dormantWhileEnteringL3.wake 0 none).signature.pd 0 = 3 := by decide +kernel
  rw [ht, hcore] at hcloses
  exact absurd hcloses (by decide)

/-! ### O23: a return that begins while a boot runs -/

/-- A boot of which accesses are served already heads for LIVE, with SERVICE in force and an automatic return waiting for its budgets
(R123). No run reaches it, since MODE reads 0b00 while a boot runs (R110); the clause is stated of every state. -/
def returnDueInBoot : State :=
  { (((State.reset.put YARD_PD_STATE 2).put SYS_PRIV 0xF).put YARD_MODE SERVICE).put YARD_MODE_TARGET LIVE with
    boot := { State.reset.boot with inReset := false, booting := true, served := true }
    yard := { State.reset.yard with autoReturn := true } }

/-- Refutes O23: on `returnDueInBoot` the write of a budget shows in ALLOWED the state that LIVE allows, which the boot heads for, and then
begins the return to DORMANT (R123), which turns TARGET and with it the choice, so that ALLOWED is not the choice in the state that the
command ends in, as the first clause has it. -/
theorem not_yardRegisters : ¬ Obligations.YardRegisters := by
  unfold Obligations.YardRegisters
  intro ⟨hbudget, _⟩
  obtain ⟨t, hexec, _, _, _, hallowed, _⟩ := hbudget .m1 0 1 returnDueInBoot (by decide +kernel)
  have ht : returnDueInBoot.command 1 0x001 0x068 1 = t :=
    Host.Outcome.next.inj ((exec_of_commandWrite (i := .budgetWrite .m1 0 1) rfl _).symm.trans hexec)
  have hturned : (returnDueInBoot.command 1 0x001 0x068 1).get YARD_ALLOWED ≠
      (returnDueInBoot.command 1 0x001 0x068 1).allowed.1 % 2 ^ YARD_ALLOWED.wid := by decide +kernel
  exact hturned (ht ▸ hallowed)

/-! ### O24: the last domain of a thermal cut in L3 -/

/-- How many pulses a flush finds is left open (R569), but a count of them that is full stays full. -/
theorem State.pulsesLost_of_full {s : State} (h : s.get SLUICE_PULSE_OVR = 0xFFFF) :
    s.pulsesLost = s.fresh.2.put SLUICE_PULSE_OVR 0xFFFF := by
  have hget : s.fresh.2.get SLUICE_PULSE_OVR = 0xFFFF := h
  have hfull : min (0xFFFF + s.fresh.1) (2 ^ SLUICE_PULSE_OVR.wid - 1) = 0xFFFF := Nat.min_eq_right (Nat.le_add_right ..)
  unfold State.pulsesLost State.addSat
  rw [hget, hfull]

theorem State.domainOff_of_closing {s : State} {d : Nat} (hd : 1 < d) (h : s.pd d = 3) :
    s.domainOff d = (s.domainLost d).pulsesLost.outSync.dormantIfOff := by
  unfold State.domainOff
  rw [if_neg (by omega), if_neg (by omega)]

/-- A thermal cut has found the device in L3, where PD_CORE is off already (R340); PD_SOL, the last domain to close, has drained. Every word
of Loft bank A reads 1, and so many pulses have been lost before that their count is full. -/
def cutInL3 : State :=
  { ((State.reset.put YARD_PD_STATE (3 * 2 ^ 16)).put YARD_MODE SENTRY).put SLUICE_PULSE_OVR 0xFFFF with
    boot := { State.reset.boot with inReset := false }
    yard := { State.reset.yard with pstate := 3, trans := some ⟨DORMANT, 6, true, false⟩ }
    loft := { State.reset.loft with bankA := ⟨1, []⟩ } }

/-- DOMAIN_OFF answers the state after the domain is off, and after the reset that may have waited for it. -/
theorem exec_domainOff (d : Fin 9) (s : State) : exec (.domainOff d) s = .next (s.domainOff d.val).softGo := rfl

/-- Refutes O24: on `cutInL3` PD_SOL ends the DORMANT entry as the last domain to reach OFF, and L4 loses the Loft, which L3 retains (Table
YARD-1, R116), so that its words change, which the fourth clause does not let them. -/
theorem not_powerDomains : ¬ Obligations.PowerDomains := by
  unfold Obligations.PowerDomains
  intro ⟨_, _, _, hoff, _⟩
  have hcloses : cutInL3.pd 8 = 3 := by decide +kernel
  obtain ⟨t, hexec, _, _, _, _, hloft, _⟩ := hoff 8 cutInL3 (by decide) hcloses rfl (.inl (by decide))
  have ht : (cutInL3.domainOff 8).softGo = t := Host.Outcome.next.inj ((exec_domainOff 8 _).symm.trans hexec)
  have hlost : ((cutInL3.domainOff 8).softGo.bank 0).word 0 ≠ (cutInL3.bank 0).word 0 := by
    rw [State.domainOff_of_closing (by decide) hcloses, State.pulsesLost_of_full (by decide +kernel)]
    decide +kernel
  exact hlost (ht ▸ hloft 0 0)

end Sys2Proof.Machine
end

section
/-! O16: what the resets leave of the causes of Table RST-8 and of the stall count of Table RST-9. Every function that runs before a reset
asserts leaves both: one lemma per function, in the order of the model's files, says so of the register store. -/

namespace Sys2Proof.Machine

open Sys2Proof

/-- What a reset leaves in the registers of how it came about: RESET_CAUSE and STALLS. -/
def Store.resetMarks (l : Store) : Nat × Nat :=
  (l.find (SYS_RESET_CAUSE.key 0 0) (SYS_RESET_CAUSE.rst 0), l.find (SEQ_STALLS.key 0 0) (SEQ_STALLS.rst 0))

/-- Their keys. -/
def resetMarkKeys : List Nat := [SYS_RESET_CAUSE.key 0 0, SEQ_STALLS.key 0 0]

theorem State.get_resetCause (s : State) : s.get SYS_RESET_CAUSE = s.regs.resetMarks.1 := rfl

theorem State.get_stalls (s : State) : s.get SEQ_STALLS = s.regs.resetMarks.2 := rfl

theorem Store.resetMarks_congr {l l' : Store} (h : ∀ k ∈ resetMarkKeys, ∀ d, l'.find k d = l.find k d) : l'.resetMarks = l.resetMarks :=
  Prod.ext (h _ (by decide) _) (h _ (by decide) _)

/-! ### The state's own operations, choices and folds -/

/-- A write of a field at another place than theirs, whatever its page. -/
@[simp] theorem State.put_resetMarks (s : State) {r : Row} (v n : Nat) {i : Nat}
    (h : r.key 0 i % 0x20000 ∉ resetMarkKeys.map (· % 0x20000)) : (s.put r v n i).regs.resetMarks = s.regs.resetMarks := by
  refine Store.resetMarks_congr fun k hk d => State.put_find_ne (fun he => h ?_) d
  have hm := List.mem_map_of_mem (f := (· % 0x20000)) hk
  rwa [he, Row.key_page, Nat.mul_add_mod_self_right] at hm

@[simp] theorem State.inc_resetMarks (s : State) {r : Row} (n : Nat) {i : Nat}
    (h : r.key 0 i % 0x20000 ∉ resetMarkKeys.map (· % 0x20000)) : (s.inc r n i).regs.resetMarks = s.regs.resetMarks :=
  State.put_resetMarks s _ n h

@[simp] theorem State.raise_resetMarks (s : State) (p bits : Nat) : (s.raise p bits).regs.resetMarks = s.regs.resetMarks :=
  State.put_resetMarks s _ p (by decide)

@[simp] theorem ite_resetMarks (c : Prop) [Decidable c] (s t : State) :
    (if c then s else t).regs.resetMarks = if c then s.regs.resetMarks else t.regs.resetMarks :=
  apply_ite (fun u : State => u.regs.resetMarks) c s t

theorem foldl_resetMarks {α : Type} (l : List α) (f : State → α → State)
    (hf : ∀ s, ∀ a ∈ l, (f s a).regs.resetMarks = s.regs.resetMarks) (s : State) :
    (l.foldl f s).regs.resetMarks = s.regs.resetMarks := by
  induction l generalizing s with
  | nil => rfl
  | cons a l ih => exact (ih (fun s a ha => hf s a (.tail _ ha)) _).trans (hf s a (.head _))

@[simp] theorem State.event_resetMarks (s : State) (code data : Nat) : (s.event code data).regs.resetMarks = s.regs.resetMarks := by
  have hkeys : ∀ k ∈ resetMarkKeys, k ∉ logCountKeys ∧ ¬InRing k := by decide
  refine Store.resetMarks_congr fun k hk d => ?_
  obtain ⟨hcount, hring⟩ := hkeys k hk
  exact State.event_find s code data hcount (fun r hr he => hring (he ▸ inRing_slot hr _)) d

@[simp] theorem State.fresh_resetMarks (s : State) : s.fresh.2.regs.resetMarks = s.regs.resetMarks := rfl

@[simp] theorem State.advanceEpoch_resetMarks (s : State) (m : Nat) : (s.advanceEpoch m).regs.resetMarks = s.regs.resetMarks := by
  simp (disch := decide) [State.advanceEpoch]

@[simp] theorem State.onGran_resetMarks (s : State) (f : GranS → GranS) : (s.onGran f).regs.resetMarks = s.regs.resetMarks := rfl

/-! ### What Machine/Sol.lean leaves -/

@[simp] theorem State.releaseRail_resetMarks (s : State) (n : Nat) : (s.releaseRail n).regs.resetMarks = s.regs.resetMarks := by
  simp (disch := decide) [State.releaseRail]

@[simp] theorem State.toOff_resetMarks (s : State) (n : Nat) (rest : Bool) : (s.toOff n rest).regs.resetMarks = s.regs.resetMarks := by
  simp (disch := decide) [State.toOff]

@[simp] theorem State.actuatorsOff_resetMarks (s : State) : s.actuatorsOff.regs.resetMarks = s.regs.resetMarks := by
  have hoff (t : State) :
      ((List.range 4).foldl (fun s n => (s.put SOL_PENDING 0 n).toOff n false) t).regs.resetMarks = t.regs.resetMarks :=
    foldl_resetMarks _ _ (fun s n _ => by simp (disch := decide)) t
  simp (disch := decide) [State.actuatorsOff, hoff]

/-! ### What Machine/Granary.lean leaves -/

@[simp] theorem State.reportTorn_resetMarks (s : State) (places : List Nat) :
    (s.reportTorn places).regs.resetMarks = s.regs.resetMarks := by
  refine foldl_resetMarks _ _ (fun s a _ => ?_) s
  simp (disch := decide)

@[simp] theorem State.trimRefused_resetMarks (s : State) (i : Nat) : (s.trimRefused i).regs.resetMarks = s.regs.resetMarks := by
  simp (disch := decide) [State.trimRefused]

@[simp] theorem State.regionFull_resetMarks (s : State) (j : Job) : (s.regionFull j).regs.resetMarks = s.regs.resetMarks := by
  simp [State.regionFull]

@[simp] theorem State.engineLook_resetMarks (f : Nat) (s : State) : (s.engineLook f).regs.resetMarks = s.regs.resetMarks := by
  induction f generalizing s with
  | zero => rfl
  | succ f ih =>
    unfold State.engineLook
    split
    · rfl
    split
    · rfl
    dsimp only
    split
    · split
      · simp
      split
      · simp [ih]
      · simp
    · rfl

@[simp] theorem State.engineStart_resetMarks (s : State) : s.engineStart.regs.resetMarks = s.regs.resetMarks := by
  simp [State.engineStart]

@[simp] theorem State.addJob_resetMarks (s : State) (j : Job) : (s.addJob j).regs.resetMarks = s.regs.resetMarks := by
  simp [State.addJob]

@[simp] theorem State.hostJobEnd_resetMarks (s : State) (op code : Nat) : (s.hostJobEnd op code).regs.resetMarks = s.regs.resetMarks := by
  simp (disch := decide) [State.hostJobEnd]

@[simp] theorem State.mixBytes_resetMarks (s : State) (a : Nat) (l : List Byte) : (s.mixBytes a l).regs.resetMarks = s.regs.resetMarks := by
  induction l generalizing s a with
  | nil => rfl
  | cons b l ih => exact ih ..

@[simp] theorem State.programMix_resetMarks (s : State) (a : Nat) (bs : List Byte) :
    (s.programMix a bs).regs.resetMarks = s.regs.resetMarks := by
  simp [State.programMix]

@[simp] theorem State.eraseMix_resetMarks (s : State) (sec : Nat) : (s.eraseMix sec).regs.resetMarks = s.regs.resetMarks := by
  unfold State.eraseMix
  extract_lets t
  have hdraw (u : State) (f : GranS → GranS) : (u.fresh.2.onGran f).regs.resetMarks = u.regs.resetMarks :=
    (State.onGran_resetMarks ..).trans (State.fresh_resetMarks u)
  have ht : t.regs.resetMarks = s.regs.resetMarks := State.onGran_resetMarks ..
  split
  · exact (foldl_resetMarks _ _ (fun u i _ => hdraw u _) t).trans ht
  · exact (foldl_resetMarks _ _ (fun u c _ => hdraw u _) t).trans ht

@[simp] theorem State.eraseCut_resetMarks (s : State) (j : Job) (sec : Nat) : (s.eraseCut j sec).regs.resetMarks = s.regs.resetMarks := by
  simp [State.eraseCut]

@[simp] theorem State.cutGOp_resetMarks (s : State) (j : Job) (op : GOp) : (s.cutGOp j op).regs.resetMarks = s.regs.resetMarks := by
  unfold State.cutGOp
  split
  · simp
  · split <;> simp

@[simp] theorem State.fieldStep_resetMarks (s : State) (c k : Nat) : (s.fieldStep c k).regs.resetMarks = s.regs.resetMarks := by
  unfold State.fieldStep
  split_ifs <;> exact State.onGran_resetMarks ..

@[simp] theorem State.applyOp_resetMarks (s : State) (j : Job) (op : GOp) : (s.applyOp j op).regs.resetMarks = s.regs.resetMarks := by
  cases op <;> simp (disch := decide) [State.applyOp]

@[simp] theorem State.groupStep_resetMarks (s : State) (j : Job) : (s.groupStep j).regs.resetMarks = s.regs.resetMarks := by
  simp (disch := decide) [State.groupStep]

@[simp] theorem State.jobRunOut_resetMarks (s : State) (j : Job) : (s.jobRunOut j).regs.resetMarks = s.regs.resetMarks := by
  simp (disch := decide) [State.jobRunOut]

@[simp] theorem State.endOp_resetMarks (s : State) (whole : Bool) : (s.endOp whole).regs.resetMarks = s.regs.resetMarks := by
  unfold State.endOp
  split
  · rfl
  · split
    · simp
    · rfl

@[simp] theorem State.dropJobs_resetMarks (s : State) : s.dropJobs.regs.resetMarks = s.regs.resetMarks := by
  unfold State.dropJobs
  refine foldl_resetMarks _ _ (fun s j _ => ?_) _
  simp

theorem State.sramWrite_regs (s : State) (a w : Nat) : (s.sramWrite a w).regs = s.regs := rfl

@[simp] theorem State.commitStore_resetMarks (s : State) (cause rank : Nat) :
    (s.commitStore cause rank).regs.resetMarks = s.regs.resetMarks := by
  unfold State.commitStore
  extract_lets older gen gen' _ s1 s2 s3 snap pre _ _ s4
  have h1 : s1.regs = s.regs := rfl
  have h2 : s2.regs = s1.regs := (State.sramWrite_regs ..).trans ((State.sramWrite_regs ..).trans (State.sramWrite_regs ..))
  have h3 : s3.regs = s2.regs := State.sramWrite_regs ..
  clear_value s3
  have h4 : s4.regs = s3.regs := rfl
  exact (State.addJob_resetMarks s4 _).trans (congrArg Store.resetMarks (h4.trans (h3.trans (h2.trans h1))))

@[simp] theorem State.runStoreOps_resetMarks (s : State) : s.runStoreOps.regs.resetMarks = s.regs.resetMarks := by
  unfold State.runStoreOps
  dsimp only
  split
  · rfl
  · exact foldl_resetMarks _ _ (fun t op _ => State.applyOp_resetMarks t _ op) s

@[simp] theorem State.finishStore_resetMarks (s : State) : s.finishStore.regs.resetMarks = s.regs.resetMarks := by
  unfold State.finishStore
  split
  · rfl
  · simp (disch := decide) [State.mirrorLate]

@[simp] theorem State.breakStore_resetMarks (s : State) : s.breakStore.regs.resetMarks = s.regs.resetMarks := by
  unfold State.breakStore
  split <;> rfl

@[simp] theorem State.storeStop_resetMarks (s : State) : s.storeStop.regs.resetMarks = s.regs.resetMarks := by
  unfold State.storeStop
  split
  · rfl
  split
  · simp
  split
  · split
    · split <;> simp
    · simp
  · simp

@[simp] theorem State.storeCut_resetMarks (s : State) (k : Nat) : (s.storeCut k).regs.resetMarks = s.regs.resetMarks := by
  unfold State.storeCut
  refine (State.breakStore_resetMarks _).trans (foldl_resetMarks _ _ (fun t op _ => ?_) s)
  split <;> simp

@[simp] theorem State.storeWdt_resetMarks (s : State) : s.storeWdt.regs.resetMarks = s.regs.resetMarks := by
  simp [State.storeWdt]

/-! ### What Machine/Nuc.lean, Machine/Video.lean and Machine/Power.lean leave -/

@[simp] theorem State.saveAbort_resetMarks (s : State) (reason : Nat) (again : Bool) :
    (s.saveAbort reason again).regs.resetMarks = s.regs.resetMarks := by
  simp (disch := decide) [State.saveAbort]

/-- What the output contexts lose is theirs alone (R442, R460). -/
theorem State.dispLost_eq (s : State) : ∃ vout vid, s.dispLost = { s with vout := vout, vid := vid } := by
  have hput (t : State) (st dt : Nat) (items : List Nat) : ∃ vout, t.csiPut st dt items = { t with vout := vout } := by
    unfold State.csiPut
    split
    · exact ⟨_, rfl⟩
    · exact ⟨t.vout, rfl⟩
  have hfold (l : List Nat) : ∀ t : State, ∃ vout,
      l.foldl (fun s st => s.csiPut st 0x01 [(s.stream st).ctr % 65535 + 1]) t = { t with vout := vout } := by
    induction l with
    | nil => exact fun t => ⟨t.vout, rfl⟩
    | cons st l ih =>
      intro t
      obtain ⟨vout, hst⟩ := hput t st 0x01 [(t.stream st).ctr % 65535 + 1]
      obtain ⟨vout', hl⟩ := ih { t with vout := vout }
      exact ⟨vout', by rw [List.foldl_cons, hst, hl]⟩
  obtain ⟨vout, hall⟩ := hfold (List.range 4) s
  unfold State.dispLost
  rw [hall]
  exact ⟨_, _, rfl⟩

@[simp] theorem State.dispLost_resetMarks (s : State) : s.dispLost.regs.resetMarks = s.regs.resetMarks := by
  obtain ⟨_, _, h⟩ := s.dispLost_eq
  rw [h]

@[simp] theorem State.quiet_resetMarks (s : State) : s.quiet.regs.resetMarks = s.regs.resetMarks := rfl

@[simp] theorem State.linkCut_resetMarks (s : State) (n : Nat) : (s.linkCut n).regs.resetMarks = s.regs.resetMarks := by
  simp [State.linkCut]

/-- What runs in the Granary before the reset leaves both (Table RST-2). -/
@[simp] theorem State.granStop_resetMarks (s : State) : s.granStop.regs.resetMarks = s.regs.resetMarks := by
  simp [State.granStop]

end Sys2Proof.Machine
end

section
/-! O16: what the assertion of the internal reset writes, and the resets themselves (R148, R149, R153, R166, R172). -/

namespace Sys2Proof.Machine

open Sys2Proof

theorem State.put_find_place (s : State) {r : Row} {i k : Nat} (h : k % 0x20000 ≠ r.key 0 i % 0x20000) (v n d : Nat) :
    (s.put r v n i).regs.find k d = s.regs.find k d :=
  State.put_find_ne (fun he => h (by rw [he, Row.key_page, Nat.mul_add_mod_self_right])) d

/-- An event leaves what stands in the lower half of a page, beside the log's counts. -/
theorem State.event_find_place (s : State) (code data : Nat) {k : Nat} (hc : k % 0x20000 ∉ logCountKeys.map (· % 0x20000))
    (hr : k % 0x20000 < 0x10000) (d : Nat) : (s.event code data).regs.find k d = s.regs.find k d := by
  refine State.event_find s code data (fun hk => hc (List.mem_map_of_mem hk)) (fun r hr' he => ?_) d
  have hslot := inRing_slot hr' (s.get EVT_TOTAL % 256)
  simp only [← he, InRing] at hslot
  omega

theorem foldl_logsOnly {α : Type} (l : List α) (f : State → α → State) (hf : ∀ (s : State) a, s.LogsOnly (f s a)) (s : State) :
    s.LogsOnly (l.foldl f s) := by
  induction l generalizing s with
  | nil => exact .refl s
  | cons a l ih => exact (hf s a).trans (ih _)

theorem State.LogsOnly.boot {s t : State} (h : s.LogsOnly t) : t.boot = s.boot := by rw [h.1]

/-! ### The mark of a kind (R149) -/

theorem State.markKind_resetCause (s : State) {k : Nat} (hk : k < 6) : bitAt ((s.markKind k).get SYS_RESET_CAUSE) k = true := by
  have hcause : (s.markKind k).get SYS_RESET_CAUSE = (s.get SYS_RESET_CAUSE ||| 2 ^ k) % 2 ^ SYS_RESET_CAUSE.wid :=
    (State.get_put_ne _ (by decide) _).trans (State.get_put_same ..)
  have hwid : k < SYS_RESET_CAUSE.wid := hk
  simp [hcause, bitAt_eq_testBit, Nat.testBit_mod_two_pow, Nat.testBit_or, hwid]

theorem State.markKind_stalls (s : State) (k : Nat) : (s.markKind k).get SEQ_STALLS = s.get SEQ_STALLS :=
  (State.get_put_ne _ (by decide) _).trans (State.get_put_ne _ (by decide) _)

/-! ### What a loss of class C leaves and writes (R148, R166) -/

/-- The state of `loseC` before DEFAULTED is set on every page has lost the Loft and the shadow SRAM. -/
theorem State.loseC_split (s : State) : ∃ t : State, s.loseC = allPages.foldl State.setDefaulted t ∧
    t.regs.resetMarks = s.regs.resetMarks ∧ t.shadow.sram = [] ∧ t.loft.bankA = Image.zero ∧ t.loft.bankB = Image.zero := by
  unfold State.loseC
  extract_lets paths bank s1 s2 s3 _ _ _ _ s4
  refine ⟨s4, rfl, ?_, rfl, rfl, rfl⟩
  have hfilter (l : Store) (f : Nat → Bool) (hf : ∀ k ∈ resetMarkKeys, f k = true) :
      Store.resetMarks (l.filter fun e => f e.1) = l.resetMarks :=
    Store.resetMarks_congr fun k hk d => Store.find_filter_key l f (hf k hk) d
  have hlost : (((s.loseClass .c).loseClass .v).loseLive).regs.resetMarks = s.regs.resetMarks :=
    (hfilter _ (fun k => keyClass k != Cls.none.code || liveKept k) (by decide)).trans
      ((hfilter _ (fun k => keyClass k != Cls.v.code) (by decide)).trans (hfilter _ (fun k => keyClass k != Cls.c.code) (by decide)))
  have h1 : s1.regs.resetMarks = s.regs.resetMarks := (State.put_resetMarks _ _ _ (by decide)).trans hlost
  have h2 : s2.regs.resetMarks = s1.regs.resetMarks :=
    foldl_resetMarks _ _ (fun t n _ => State.put_resetMarks t _ n (by decide)) s1
  have h4 : s4.regs = s2.regs := rfl
  rw [h4, h2, h1]

@[simp] theorem State.setDefaulted_resetMarks (s : State) (p : Nat) : (s.setDefaulted p).regs.resetMarks = s.regs.resetMarks := by
  have hsummary : ∀ i < 3, SYS_DEFAULTED_SUMMARY.key 0 i % 0x20000 ∉ resetMarkKeys.map (· % 0x20000) := by decide
  have hmod : SYS_DEFAULTED_SUMMARY.key 0 (ordinal p / 32) = SYS_DEFAULTED_SUMMARY.key 0 (ordinal p / 32 % 3) := by
    simp only [Row.key, Row.offset, SYS_DEFAULTED_SUMMARY]
    omega
  exact (State.put_resetMarks _ _ _ (by rw [hmod]; exact hsummary _ (Nat.mod_lt _ (by decide)))).trans
    (State.put_resetMarks _ _ _ (by decide))

theorem State.loseC_resetMarks (s : State) : s.loseC.regs.resetMarks = s.regs.resetMarks := by
  obtain ⟨t, hlose, hmarks, _⟩ := s.loseC_split
  rw [hlose, foldl_resetMarks _ _ (fun u p _ => State.setDefaulted_resetMarks u p), hmarks]

/-- The Loft and the shadow SRAM are lost (R148). -/
theorem State.loseC_memories (s : State) :
    s.loseC.shadow.sram = [] ∧ s.loseC.loft.bankA = Image.zero ∧ s.loseC.loft.bankB = Image.zero := by
  obtain ⟨t, hlose, _, hsram, hbankA, hbankB⟩ := s.loseC_split
  have hlogs := foldl_logsOnly allPages State.setDefaulted State.setDefaulted_logsOnly t
  rw [hlose, hlogs.shadow, hlogs.loft]
  exact ⟨hsram, hbankA, hbankB⟩

/-- DEFAULTED of a page after it is set on some page. -/
theorem State.setDefaulted_get (s : State) (p q : Nat) :
    (s.setDefaulted q).get HDR_DEFAULTED p = if p = q then 1 else s.get HDR_DEFAULTED p := by
  have hsummary (t : State) (v i : Nat) : (t.put SYS_DEFAULTED_SUMMARY v 0 i).get HDR_DEFAULTED p = t.get HDR_DEFAULTED p := by
    refine State.get_put_place t ?_ v 0 p
    simp only [Row.key, Row.offset, SYS_DEFAULTED_SUMMARY, HDR_DEFAULTED, Cls.code]
    omega
  refine (hsummary _ _ _).trans ?_
  split
  next h =>
    subst h
    exact State.get_put_same ..
  next h =>
    refine State.get_put_ne _ (fun he => h ?_) _
    rw [Row.key_page _ p, Row.key_page _ q] at he
    omega

theorem State.foldl_setDefaulted_get (l : List Nat) (s : State) {p : Nat} (h : p ∈ l ∨ s.get HDR_DEFAULTED p = 1) :
    (l.foldl State.setDefaulted s).get HDR_DEFAULTED p = 1 := by
  induction l generalizing s with
  | nil => simpa using h
  | cons q l ih =>
    refine ih _ ?_
    rw [State.setDefaulted_get]
    rcases h with h | h
    · rcases List.mem_cons.mp h with rfl | h
      · exact .inr (if_pos rfl)
      · exact .inl h
    · exact .inr (by rw [h, ite_self])

/-- DEFAULTED is set on every page (R166). -/
theorem State.loseC_defaulted (s : State) {p : Nat} (hp : p ∈ allPages) : s.loseC.get HDR_DEFAULTED p = 1 := by
  obtain ⟨t, hlose, _⟩ := s.loseC_split
  rw [hlose]
  exact State.foldl_setDefaulted_get _ _ (.inl hp)

/-! ### The internal reset asserts (R110, R162) -/

/-- The places in their pages of what the assertion itself writes. -/
def restPlaces : List Nat :=
  [YARD_PD_STATE.key 0 0, SEQ_RUN_STATE.key 0 0, YARD_ARMED.key 0 1, YARD_ARMED.key 0 2, WDT_MISSED.key 0 0, CLK_GRANT.key 0 0,
    PIN_TAP_HALT.key 0 0, SEQ_BOOT_DONE.key 0 0].map (· % 0x20000)

/-- From `s` to `t` the memories that a loss of class C takes stay, and so do the fields at other places than `restPlaces`. -/
def State.RestsOnly (s t : State) : Prop :=
  t.shadow.sram = s.shadow.sram ∧ t.loft = s.loft ∧ ∀ k, k % 0x20000 ∉ restPlaces → ∀ d, t.regs.find k d = s.regs.find k d

theorem State.RestsOnly.of_same {s t : State} (hsram : t.shadow.sram = s.shadow.sram) (hloft : t.loft = s.loft) (hregs : t.regs = s.regs) :
    s.RestsOnly t :=
  ⟨hsram, hloft, fun _ _ _ => by rw [hregs]⟩

theorem State.RestsOnly.trans {s t u : State} (h : s.RestsOnly t) (h' : t.RestsOnly u) : s.RestsOnly u := by
  obtain ⟨hsram, hloft, hregs⟩ := h
  obtain ⟨hsram', hloft', hregs'⟩ := h'
  exact ⟨hsram'.trans hsram, hloft'.trans hloft, fun k hk d => (hregs' k hk d).trans (hregs k hk d)⟩

/-- A write of one of its own fields, on whatever page. -/
theorem State.RestsOnly.put {s t : State} (h : s.RestsOnly t) {r : Row} {i : Nat} (hr : r.key 0 i % 0x20000 ∈ restPlaces) (v n : Nat) :
    s.RestsOnly (t.put r v n i) :=
  h.trans ⟨rfl, rfl, fun _ hk d => State.put_find_place t (fun he => hk (he ▸ hr)) v n d⟩

theorem State.RestsOnly.foldl_setPd {s t : State} (h : s.RestsOnly t) (l : List Nat) :
    s.RestsOnly (l.foldl (fun s i => s.setPd (i + 1) 0) t) := by
  induction l generalizing t with
  | nil => exact h
  | cons i l ih => exact ih (h.put (by decide) _ 0)

/-- What the assertion leaves, and that the boot has not ended. -/
theorem State.assertRest_rests (s : State) (lost : Bool) :
    s.RestsOnly (s.assertRest lost) ∧ (s.assertRest lost).get SEQ_BOOT_DONE = 0 := by
  unfold State.assertRest
  extract_lets s1 s2 s3 s4 s5
  have h1 : s.RestsOnly s1 := by
    obtain ⟨vout, vid, hdisp⟩ := s.dispLost_eq
    have h : s1 = _ := hdisp
    rw [h]
    exact .of_same rfl rfl rfl
  have h2 : s.RestsOnly s2 := (h1.put (by decide) _ 0).foldl_setPd _
  have h3 : s.RestsOnly s3 := by
    unfold s3
    split
    · exact h2.put (by decide) 0 0
    · exact h2
  have h4 : s.RestsOnly s4 := (h3.put (by decide) 0 0).put (by decide) 0 0
  have h5 : s.RestsOnly s5 := (((h4.put (by decide) 0 0).put (by decide) 0 0).put (by decide) 0 0).put (by decide) 0 0
  have hdone : s5.get SEQ_BOOT_DONE = 0 := State.get_put_same ..
  clear_value s5
  exact ⟨h5.trans (.of_same rfl rfl rfl), hdone⟩

/-! ### A reset that loses class C (R148, R149, R156, R166) -/

/-- What the state shows after a reset of kind `k` that loses class C. -/
structure State.ResetBy (k : Nat) (t : State) : Prop where
  inReset : t.boot.inReset = true
  booting : t.boot.booting = false
  drain : t.boot.drain = none
  cause : bitAt (t.get SYS_RESET_CAUSE) k = true
  done : t.get SEQ_BOOT_DONE = 0
  defaulted : ∀ p ∈ allPages, t.get HDR_DEFAULTED p = 1
  sram : t.shadow.sram = []
  bankA : t.loft.bankA = Image.zero
  bankB : t.loft.bankB = Image.zero
  cur : t.gran.cur = none
  jobs : t.gran.jobs = []

/-- The reset after what `s` still had to bring: class C is lost, and the internal reset asserts. -/
def State.lostToReset (s : State) : State :=
  let t := s.loseC.assertRest true
  { t with boot := { t.boot with drain := none } }

/-- An assertion that loses class C marks its kind, loses the class, and may log the writes that are discarded (R571). -/
theorem State.assertLost_split (s : State) (k : Nat) : ∃ t : State, t.regs.resetMarks = (s.markKind k).regs.resetMarks ∧
    (s.assertLost k = t.lostToReset ∨ ∃ code data, s.assertLost k = t.lostToReset.event code data) := by
  unfold State.assertLost
  extract_lets n s1 s2 _ _ s3
  refine ⟨s2, ?_, ?_⟩
  · have h1 : s1.regs.resetMarks = (s.markKind k).regs.resetMarks := by simp [s1]
    unfold s2
    split
    · exact (State.advanceEpoch_resetMarks ..).trans h1
    · exact h1
  · split
    · exact .inl rfl
    · exact .inr ⟨_, _, rfl⟩

theorem defaultedKey_place (p : Nat) : HDR_DEFAULTED.key p 0 % 0x20000 = HDR_DEFAULTED.key 0 0 % 0x20000 := by
  rw [Row.key_page, Nat.mul_add_mod_self_right]

theorem State.assertRest_gran (s : State) (lost : Bool) :
    (s.assertRest lost).boot.booting = false ∧ (s.assertRest lost).gran.cur = none ∧ (s.assertRest lost).gran.jobs = [] :=
  ⟨rfl, rfl, rfl⟩

theorem State.lostToReset_resetMarks (s : State) : s.lostToReset.regs.resetMarks = s.regs.resetMarks := by
  have hplaces : ∀ k ∈ resetMarkKeys, k % 0x20000 ∉ restPlaces := by decide
  obtain ⟨⟨_, _, hregs⟩, _⟩ := s.loseC.assertRest_rests true
  have hrest := Store.resetMarks_congr fun k hk d => hregs k (hplaces k hk) d
  rw [s.loseC_resetMarks] at hrest
  unfold State.lostToReset
  generalize s.loseC.assertRest true = t at hrest
  exact hrest

theorem State.lostToReset_resetBy {s : State} {k : Nat} (h : bitAt (s.get SYS_RESET_CAUSE) k = true) : s.lostToReset.ResetBy k := by
  have hcause : s.lostToReset.get SYS_RESET_CAUSE = s.get SYS_RESET_CAUSE := by
    rw [State.get_resetCause, State.lostToReset_resetMarks, State.get_resetCause]
  obtain ⟨hsramLost, hbankA, hbankB⟩ := s.loseC_memories
  have hdefaulted (p : Nat) (hp : p ∈ allPages) : s.loseC.get HDR_DEFAULTED p = 1 := s.loseC_defaulted hp
  obtain ⟨⟨hsram, hloft, hregs⟩, hdone⟩ := s.loseC.assertRest_rests true
  have hreset := s.loseC.assertRest_inReset true
  obtain ⟨hbooting, hcur, hjobs⟩ := s.loseC.assertRest_gran true
  rw [← hcause] at h
  unfold State.lostToReset at h ⊢
  generalize s.loseC.assertRest true = t at *
  exact ⟨hreset, hbooting, rfl, h, hdone,
    fun p hp => (hregs _ (by rw [defaultedKey_place]; decide) _).trans (hdefaulted p hp), hsram.trans hsramLost,
    (congrArg LoftS.bankA hloft).trans hbankA, (congrArg LoftS.bankB hloft).trans hbankB, hcur, hjobs⟩

/-- A report leaves what the reset shows. -/
theorem State.ResetBy.event {k : Nat} {t : State} (h : t.ResetBy k) (code data : Nat) : (t.event code data).ResetBy k := by
  have hlogs := t.event_logsOnly code data
  obtain ⟨hreset, hbooting, hdrain, hcause, hdone, hdefaulted, hsram, hbankA, hbankB, hcur, hjobs⟩ := h
  refine ⟨by rwa [hlogs.boot], by rwa [hlogs.boot], by rwa [hlogs.boot], ?_, ?_, fun p hp => ?_, by rwa [hlogs.shadow],
    by rwa [hlogs.loft], by rwa [hlogs.loft], by rwa [hlogs.gran], by rwa [hlogs.gran]⟩
  · rwa [State.event_get t code data (by decide) (by decide)]
  · rwa [State.event_get t code data (by decide) (by decide)]
  · refine (State.event_find_place t code data ?_ ?_ _).trans (hdefaulted p hp)
    · rw [defaultedKey_place]
      decide
    · rw [defaultedKey_place]
      decide

theorem State.assertLost_resetBy (s : State) {k : Nat} (hk : k < 6) : (s.assertLost k).ResetBy k := by
  obtain ⟨t, hmarks, hsplit⟩ := s.assertLost_split k
  have hcause : bitAt (t.get SYS_RESET_CAUSE) k = true := by
    rw [State.get_resetCause, hmarks]
    exact s.markKind_resetCause hk
  rcases hsplit with h | ⟨code, data, h⟩
  · rw [h]
    exact State.lostToReset_resetBy hcause
  · rw [h]
    exact (State.lostToReset_resetBy hcause).event code data

theorem State.assertLost_stalls (s : State) (k : Nat) : (s.assertLost k).get SEQ_STALLS = s.get SEQ_STALLS := by
  obtain ⟨t, hmarks, hsplit⟩ := s.assertLost_split k
  have hstalls : t.lostToReset.get SEQ_STALLS = s.get SEQ_STALLS := by
    rw [State.get_stalls, State.lostToReset_resetMarks, hmarks]
    exact s.markKind_stalls k
  rcases hsplit with h | ⟨code, data, h⟩
  · rw [h, hstalls]
  · rw [h, State.event_get _ _ _ (by decide) (by decide), hstalls]

/-- What a WDT reset does ahead of the assertion leaves the stall count (R154). -/
theorem State.wdtReset_stalls (s : State) : s.wdtReset.get SEQ_STALLS = s.get SEQ_STALLS := by
  refine (State.assertLost_stalls ..).trans ?_
  simp only [State.get_stalls, State.storeWdt_resetMarks, State.event_resetMarks, State.granStop_resetMarks,
    State.actuatorsOff_resetMarks]

/-! ### POR_AON (R148) -/

/-- What the surroundings show, whatever resets, and the level of SDA. -/
def pinRows : List Row := [SYS_PIN_NOW, PIN_VBAT_LOW, PIN_VBAT_HIGH, PIN_VDDIO_3V3, I2C_SDA_HELD]

theorem State.foldl_put_find {rows : List Row} (t : State) (f : Row → Nat) {k : Nat} (h : ∀ r ∈ rows, k ≠ r.key 0 0) (d : Nat) :
    (rows.foldl (fun t r => t.put r (f r)) t).regs.find k d = t.regs.find k d := by
  induction rows generalizing t with
  | nil => rfl
  | cons r rows ih => exact (ih _ fun r hr => h r (.tail _ hr)).trans (State.put_find_ne (h r (.head _)) d)

/-- POR_AON without an operation under way (R153): every field but the levels at the pins reads its reset value. -/
theorem State.porAon_get {s : State} (hpf : s.pfStoring = false) {r : Row} {n i : Nat} (h : ∀ q ∈ pinRows, r.key n i ≠ q.key 0 0) :
    s.porAon.get r n i = r.rst i := by
  unfold State.porAon
  rw [if_neg (by simp [hpf])]
  exact (State.get_put_ne _ (h I2C_SDA_HELD (by decide)) _).trans (State.foldl_put_find _ (fun r => s.get r) h _)

theorem State.cutOp_of_idle {s : State} (h : s.gran.cur = none) : s.cutOp = s := by
  unfold State.cutOp
  rw [h]

theorem exec_porAon (s : State) : exec .porAon s = .next s.porAon := rfl

theorem porAonResets {s : State} (hpf : s.pfStoring = false) (hidle : s.gran.cur = none) :
    ∃ t, exec .porAon s = .next t ∧ t.boot.inReset = true ∧ t.mode = DORMANT ∧ t.get SYS_PRIV = 3 ∧ t.get SYS_RESET_CAUSE = 1 ∧
      (∀ n, n < 8 → t.get LOCK_STATE 0 n = 0) ∧ (∀ k, k < 9 → t.pd k = if k = 0 then 1 else 0) ∧ t.gran.mem = s.gran.mem ∧
      t.staged = [] ∧ t.pending = s.pending := by
  have hlocks : ∀ n < 8, ∀ q ∈ pinRows, LOCK_STATE.key 0 n ≠ q.key 0 0 := by decide
  have hpd : s.porAon.get YARD_PD_STATE = 1 := State.porAon_get hpf (by decide)
  have hrest : s.porAon.boot.inReset = true ∧ s.porAon.gran.mem = s.gran.mem ∧ s.porAon.staged = [] ∧
      s.porAon.pending = s.pending := by
    unfold State.porAon
    rw [if_neg (by simp [hpf]), State.cutOp_of_idle hidle]
    exact ⟨rfl, rfl, rfl, rfl⟩
  obtain ⟨hreset, hmem, hstaged, hpending⟩ := hrest
  refine ⟨s.porAon, exec_porAon s, hreset, State.porAon_get hpf (by decide), State.porAon_get hpf (by decide),
    State.porAon_get hpf (by decide), fun n hn => State.porAon_get hpf (hlocks n hn), fun k hk => ?_, hmem, hstaged, hpending⟩
  have hbits : ∀ k < 9, bitsOf 1 (2 * k) 2 = if k = 0 then 1 else 0 := by decide
  unfold State.pd
  rw [hpd]
  exact hbits k hk

/-! ### The obligation -/

theorem exec_borCoreReset (s : State) : exec .borCoreReset s = .next s.borCore := rfl

theorem exec_pinReset (s : State) : exec .pinReset s = .next s.pinReset := rfl

theorem exec_bootTimeLimit (s : State) : exec .bootTimeLimit s = .next s.bootStalled := rfl

theorem State.borCore_of_armed {s : State} (hpf : s.pfStoring = false)
    (h : s.boot.inReset = true ∨ s.pd 0 = 1 ∨ s.pd 0 = 2 ∨ s.yard.pstate = 3) : s.borCore = s.cutOp.tapRest.assertLost kBOR := by
  unfold State.borCore
  rw [if_neg (by simp [hpf]), if_neg (by rcases h with h | h | h | h <;> simp [h])]

theorem State.borCore_of_unarmed {s : State} (hpf : s.pfStoring = false) (hreset : s.boot.inReset = false) (hopen : s.pd 0 ≠ 1)
    (hon : s.pd 0 ≠ 2) (hlow : s.yard.pstate ≠ 3) :
    s.borCore = if s.yard.pstate = 4 then { s with boot := { s.boot with vdd := false } } else s := by
  unfold State.borCore
  rw [if_neg (by simp [hpf]), if_pos (by simp [hreset, hopen, hon, hlow])]

theorem State.resetsHeldOff {s : State} (hpf : s.pfStoring = true) : s.porAon = s ∧ s.borCore = s := by
  unfold State.porAon State.borCore
  exact ⟨if_pos hpf, if_pos hpf⟩

theorem State.bootStalled_of_booting {s : State} (h : s.boot.booting = true) : s.bootStalled = (s.inc SEQ_STALLS).wdtReset := if_pos h

theorem State.bootStalled_of_idle {s : State} (h : s.boot.booting = false) : s.bootStalled = s := if_neg (by simp [h])

/-- Settles O16: what POR_AON leaves is the reset state's; the other kinds are one assertion that loses class C (`assertLost_resetBy`),
and what runs ahead of the WDT reset leaves the stall count (`wdtReset_stalls`). -/
theorem resetKinds : Obligations.ResetKinds := by
  unfold Obligations.ResetKinds
  refine ⟨fun s => porAonResets, fun s hpf harmed => ?_, fun s => ?_, fun s hbooting => ?_, fun i s hpf hi => ?_,
    fun s hpf hreset hopen hon hlow => ?_, fun s hidle => ?_⟩
  · have h := State.assertLost_resetBy s.cutOp.tapRest (k := kBOR) (by decide)
    rw [← State.borCore_of_armed hpf harmed] at h
    exact ⟨_, exec_borCoreReset s, h.inReset, h.cause, h.sram, h.bankA, h.bankB, h.defaulted, h.drain, h.done⟩
  · have h : s.pinReset.ResetBy kPIN := State.assertLost_resetBy _ (by decide)
    exact ⟨_, exec_pinReset s, h.inReset, h.cause, h.sram, h.bankA, h.bankB, h.defaulted, h.drain, h.done, h.cur, h.jobs⟩
  · have h : (s.inc SEQ_STALLS).wdtReset.ResetBy kWDT := State.assertLost_resetBy _ (by decide)
    refine ⟨_, (exec_bootTimeLimit s).trans (congrArg _ (State.bootStalled_of_booting hbooting)), h.inReset, h.cause, h.booting, ?_⟩
    rw [State.wdtReset_stalls]
    exact State.get_addSat_same ..
  · obtain ⟨hpor, hbor⟩ := State.resetsHeldOff hpf
    rcases hi with rfl | rfl
    · rw [exec_porAon, hpor]
    · rw [exec_borCoreReset, hbor]
  · rw [exec_borCoreReset, State.borCore_of_unarmed hpf hreset hopen hon hlow]
  · rw [exec_bootTimeLimit, State.bootStalled_of_idle hidle]

end Sys2Proof.Machine
end

section
/-! Concrete states that refute O25 and O26. Each is written out and evaluated: an idle code that VDET_NOW cannot hold, and a frame boundary
that clears the store of the temporal filter. -/

namespace Sys2Proof.Machine

/-! ### O25: an idle code past its field -/

/-- M1 is privileged, accesses are served and the array domain is ON, with BIAS enabled and RAMP_MS 0. VDET_IDLE of the band set in force, B2,
holds 2 ^ 16. No run reaches it, since VDET_IDLE has 16 bits; the clause is stated of every state. -/
def idleCodePastField : State :=
  let s := (((State.reset.put YARD_PD_STATE 0xA).put SYS_PRIV 0xF).put HDR_EN 1 0x011).put BIAS_RAMP_MS 0
  { s with
    regs := s.regs.insert (BAND_VDET_IDLE.key 0 2) (2 ^ 16)
    boot := { State.reset.boot with inReset := false, served := true } }

/-- FPA_CTRL_EN answers the state after its write and the calibrations that then start at once. -/
theorem exec_fpaCtrlEn (m : Master) (en : Bool) (s : State) :
    exec (.fpaCtrlEn m en) s = .next (s.command m.num 0x010 0x008 (bit en)).calAtOnce := rfl

/-- Refutes O25: on `idleCodePastField` the timing starts at once, and VDET_NOW, which holds 16 bits, cannot take the idle code whole, as the
first clause has it; the fifth clause, of the same start at the end of a ramp, cuts the code to the width of VDET_NOW. -/
theorem not_arrayTimingEnable : ¬ Obligations.ArrayTimingEnable := by
  unfold Obligations.ArrayTimingEnable
  intro ⟨henable, _⟩
  obtain ⟨t, hexec, _, hstart, _⟩ :=
    henable .m1 idleCodePastField (by decide +kernel) (by decide +kernel) (by decide +kernel) rfl (by decide +kernel) rfl
  have ht : (idleCodePastField.command 1 0x010 0x008 1).calAtOnce = t :=
    Host.Outcome.next.inj ((exec_fpaCtrlEn .m1 true _).symm.trans hexec)
  rw [if_pos (by decide +kernel)] at hstart
  obtain ⟨_, _, _, hidle⟩ := hstart
  have hcut : (idleCodePastField.command 1 0x010 0x008 1).calAtOnce.get BIAS_VDET_NOW ≠ idleCodePastField.vdetIdle := by
    decide +kernel
  exact hcut (ht ▸ hidle)

/-! ### O26: the store of the temporal filter at a frame boundary -/

/-- A HEAD in LIVE with the timing on and between frames. The temporal filter has its store in Loft bank B, where the word of the first pixel
holds a valid value, 1, and the valid bits are due to be cleared (R247). -/
def filterStoreDue : State :=
  { (((((State.reset.put YARD_PD_STATE 0xA).put SEQ_BOOT_DONE 1).put CLK_GRANT 7).put YARD_MODE LIVE).put MILL_TF_EN 1).put
      MILL_TF_STORE 1 with
    boot := { State.reset.boot with inReset := false }
    fpa := { FpaS.idle with on := true }
    mill := { MillS.idle with clearTf := true }
    loft := { State.reset.loft with bankB := ⟨0, [(0, 2 ^ 31 + 1)]⟩ } }

/-- ARRAY_FRAME_BOUNDARY answers the state at the start of the frame, or after the timing has stopped. -/
theorem exec_arrayFrameBoundary (vetoPin stallHeld : Bool) (s : State) :
    exec (.arrayFrameBoundary vetoPin stallHeld) s = .next (s.arrayBoundary vetoPin stallHeld) := rfl

/-- Refutes O26: on `filterStoreDue` the boundary clears the valid bit of the first pixel's store word, as R247 and R259 ask, so that a word of
Loft bank B changes, which the first clause does not let it: in Lean only the clauses of the row periods except the bank of a temporal filter. -/
theorem not_arrayFrames : ¬ Obligations.ArrayFrames := by
  unfold Obligations.ArrayFrames
  intro ⟨hframe, _⟩
  obtain ⟨t, hexec, _, _, _, _, _, _, _, _, _, _, _, hloft, _⟩ := hframe false false filterStoreDue (by decide +kernel) rfl
  have ht : filterStoreDue.arrayBoundary false false = t :=
    Host.Outcome.next.inj ((exec_arrayFrameBoundary false false _).symm.trans hexec)
  have hcleared : ((filterStoreDue.arrayBoundary false false).bank 1).word 0 ≠ (filterStoreDue.bank 1).word 0 := by decide +kernel
  exact hcleared (ht ▸ hloft 1 0)

end Sys2Proof.Machine
end

section
/-! A concrete state that refutes O27. It is written out and evaluated: a trim record that is offered again to a log in which a record is torn,
so that the offer counts and logs it. -/

namespace Sys2Proof.Machine

/-! ### O27: a torn record found by the offer -/

/-- Where the first record of the log of RECORDS starts: after the header of its first sector (R497). -/
def firstRecord : Nat := logFirst true * 0x1000 + 16

/-- The trim record of CH03 with SEQ 0 (R221). -/
def trimRecord : List Byte := recBytes 0x0C false 0 3 0 (State.reset.trimPayload 3)

/-- A device in LIVE with an idle engine. The program of CH03's trim record has failed, so that its range stands as an undefined mix, here with
every bit programmed (R519), the record waits unsaved (R222), and no read of RECORDS has found it torn yet (R498). -/
def trimRecordTorn : State :=
  let s := ((((State.reset.put YARD_PD_STATE 0xA).put SEQ_BOOT_DONE 1).put YARD_MODE LIVE).put CH_UNSAVED 1 3)
  let g := s.gran.program (logFirst true * 0x1000) (sectorHeader 1 true)
  { s with
    boot := { State.reset.boot with inReset := false, served := true }
    gran := (g.program firstRecord trimRecord).spoil firstRecord trimRecord.length
    cal := { CalS.idle with trims := [(3, State.reset.trimPayload 3)] } }

/-- CHTRIM_RETRY answers the state in which every unsaved record has been offered. -/
theorem exec_chtrimRetry (s : State) : exec .chtrimRetry s = .next s.trimRetry := rfl

/-- Refutes O27: on `trimRecordTorn` the engine is idle, takes the record that CHTRIM_RETRY offers again and plans its append, for which it
reads RECORDS. It finds the torn record, counts it in GRAN.TORN and logs it, as R498 asks, so that a register changes, which the ninth clause
(`t.regs = s.regs`) does not let it. -/
theorem not_calibrations : ¬ Obligations.Calibrations := by
  unfold Obligations.Calibrations
  intro ⟨_, _, _, _, _, _, _, _, hretry, _⟩
  obtain ⟨t, hexec, _, hregs, _⟩ := hretry trimRecordTorn (by decide +kernel)
  have ht : trimRecordTorn.trimRetry = t :=
    Host.Outcome.next.inj ((exec_chtrimRetry _).symm.trans hexec)
  have hcounted : trimRecordTorn.trimRetry.get GRAN_TORN ≠ trimRecordTorn.get GRAN_TORN := by decide +kernel
  have hkept : trimRecordTorn.trimRetry.get GRAN_TORN = trimRecordTorn.get GRAN_TORN := by
    rw [State.get, State.get, ht, hregs]
  exact hcounted hkept

end Sys2Proof.Machine
end

section
/-! A concrete state that refutes O28: the check of a load from a FIELD copy whose bytes pass their CRC but hold an undefined mix. -/

namespace Sys2Proof.Machine

/-! ### The check of a load from a copy with an undefined mix (R253, R519) -/

/-- BANK_CHECK_DONE answers the state after the check, and after a pending switch that may now take effect at once. -/
theorem exec_bankCheckDone (s : State) : exec .bankCheckDone s = .next s.checkDone.switchRest := rfl

/-- A copy with an undefined mix fails the check of its load, whatever CRC was computed, and the load is made again from the other FIELD
copy. -/
theorem State.checkDone_of_mixed {s : State} {want k : Nat} (hload : s.loft.checking = some (true, want, k, true))
    (hmix : s.gran.copyWhole k = false) : ∃ got, s.checkDone = (s.put MILL_CRC_CALC got).loadFrom (3 - k) false := by
  unfold State.checkDone
  split
  next hnone => exact absurd (hnone.symm.trans hload) (by simp)
  next load want' k' retry hsome =>
    extract_lets b got t
    clear_value got
    obtain ⟨rfl, rfl, rfl, rfl⟩ : load = true ∧ want' = want ∧ k' = k ∧ retry = true := by simpa using hsome.symm.trans hload
    have hmixed : t.gran.copyWhole k' = false := by rw [State.put_gran, hmix]
    refine ⟨got, ?_⟩
    rw [if_neg (fun hok => by simp [hmixed] at hok), if_pos ⟨rfl, rfl⟩]

/-- Without a pending switch nothing takes effect (R253). -/
theorem State.switchRest_of_noneDue {s : State} (h : s.get MILL_SWITCH_PEND = 0) : s.switchRest = s := by
  unfold State.switchRest State.switchDue State.on
  simp [h]

/-- A load's check is in progress from its start (R253). -/
theorem State.loadFrom_checking (s : State) (k : Nat) (retry : Bool) : (s.loadFrom k retry).loft.checking.isSome = true := rfl

/-- A load leaves a pending switch as it is. -/
theorem State.loadFrom_switchPend (s : State) (k : Nat) (retry : Bool) :
    (s.loadFrom k retry).get MILL_SWITCH_PEND = s.get MILL_SWITCH_PEND := by
  have htref : MILL_SWITCH_PEND.key 0 0 ≠ (trefRow s.inactive).key 0 0 := by
    unfold trefRow
    split <;> decide
  have hbank : (s.setBank s.inactive (s.gran.image k)).regs = s.regs := by
    unfold State.setBank
    split <;> rfl
  have hload : (s.loadFrom k retry).regs = ((((s.setBank s.inactive (s.gran.image k)).put (trefRow s.inactive)
      (s.gran.copyTref k)).put MILL_FILLING 0).put MILL_CHECKING 1).regs := by
    simp only [State.loadFrom]
  rw [State.get_of_regs hload, State.get_put_ne _ (by decide), State.get_put_ne _ (by decide), State.get_put_ne _ htref,
    State.get_of_regs hbank]

/-- A HEAD in LIVE at the end of the check of a load from FIELD_A, with FIELD_B to be tried after it. The first bytes of the copy's data stand
as an undefined mix (R519), here with every bit as it was to be programmed, so that the CRC of the filled bank B is the one stored. -/
def mixedCopyLoaded : State :=
  let s := ((State.reset.put YARD_PD_STATE 0xA).put YARD_MODE LIVE).put MILL_CHECKING 1
  { s with
    boot := { State.reset.boot with inReset := false, served := true }
    gran := (s.gran.setImage 1 Image.zero).spoil (imageBase 1) 16
    loft := { State.reset.loft with bankB := Image.zero, checking := some (true, Image.zero.crc, 1, true) } }

theorem mixedCopyLoaded_bank : mixedCopyLoaded.bank mixedCopyLoaded.inactive = Image.zero := rfl

/-- Refutes O28: on `mixedCopyLoaded` the CRC is the wanted one, but an undefined mix is never read as data and the check of the copy rejects
it (R519), so that the load begins again from FIELD_B. The fifth clause, which asks for the CRC alone, has the load closed. -/
theorem not_loftFills : ¬ Obligations.LoftFills := by
  unfold Obligations.LoftFills
  intro ⟨_, _, _, _, hpass, _⟩
  have hload : mixedCopyLoaded.loft.checking = some (true, Image.zero.crc, 1, true) := rfl
  obtain ⟨t, hexec, _, _, _, _, hclosed, _⟩ :=
    hpass true true _ 1 mixedCopyLoaded hload (congrArg Image.crc mixedCopyLoaded_bank) (by decide +kernel)
  obtain ⟨got, hagain⟩ := State.checkDone_of_mixed hload (by decide +kernel)
  have hpend : mixedCopyLoaded.checkDone.get MILL_SWITCH_PEND = 0 := by
    rw [hagain, State.loadFrom_switchPend, State.get_put_ne _ (by decide)]
    decide +kernel
  have ht : mixedCopyLoaded.checkDone = t :=
    (State.switchRest_of_noneDue hpend).symm.trans (Host.Outcome.next.inj ((exec_bankCheckDone _).symm.trans hexec))
  have hopen : t.loft.checking.isSome = true := by
    rw [← ht, hagain, State.loadFrom_checking]
  rw [hclosed] at hopen
  exact Bool.false_ne_true hopen

end Sys2Proof.Machine
end

section
/-! O29, O30, O34 and O35: what the actuator channels' functions leave. They write the fields of SOLn's and BOOST's status, the record of a
refusal, interrupt causes and the log; whatever else a register holds, and what NUC holds of a closure, stays. One lemma per function says
that it keeps `State.besideSol`. -/

namespace Sys2Proof.Machine

open Sys2Proof

/-! ### The view -/

/-- The fields that the channels' functions write: the status of SOLn and BOOST (Table SOL-5, Table SOL-6), a refusal's record, interrupt
causes. -/
def solRows : List Row :=
  [SOL_PHASE, SOL_PENDING, SOL_FIRES, SOL_MOTION, SOL_T_MOTION, SOL_T_TO_PEAK, SOL_FLAGS, SOL_BST_REFUSALS, SOL_COALESCED, BOOST_RUN,
    BOOST_HOLDER, HDR_INT_RAW, HDR_ERR_CODE, HDR_ERR_MASTER, HDR_ERR_WR, HDR_ERR_OFFSET]

/-- Where on their pages these stand, and the counts of the log. -/
def solPlaces : List Nat := (solRows.map (Row.key · 0 0) ++ logCountKeys).map (· % 0x20000)

/-- A key that no function of the channels writes: it stands at another place of its page, and not in the log. -/
abbrev OffSol (k : Nat) : Prop := k % 0x20000 ∉ solPlaces ∧ k % 0x20000 < 0x10000

/-- What NUC holds, and the registers at the keys that no function of the channels writes. -/
def State.besideSol (s : State) : NucS × (Nat → Nat → Nat) :=
  (s.nuc, fun k d => if OffSol k then s.regs.find k d else 0)

/-- A field whose key no function of the channels writes reads as before. -/
theorem State.get_of_besideSol {s t : State} (h : t.besideSol = s.besideSol) {r : Row} {n i : Nat} (hk : OffSol (r.key n i)) :
    t.get r n i = s.get r n i := by
  have hfind := congrFun (congrFun (congrArg Prod.snd h) (r.key n i)) (r.rst i)
  simp only [State.besideSol] at hfind
  rwa [if_pos hk, if_pos hk] at hfind

theorem State.nuc_of_besideSol {s t : State} (h : t.besideSol = s.besideSol) : t.nuc = s.nuc := congrArg Prod.fst h

/-- A place is the same on every page. -/
theorem Row.key_mod_page (r : Row) (n i : Nat) : r.key n i % 0x20000 = r.key 0 i % 0x20000 := by
  rw [Row.key_page, Nat.mul_add_mod_self_right]

theorem offSol_key {r : Row} {i : Nat} (n : Nat) (h : OffSol (r.key 0 i)) : OffSol (r.key n i) := by
  rwa [OffSol, Row.key_mod_page]

/-- The same, by a place that is closed. -/
theorem State.get_besideSol {s t : State} (h : t.besideSol = s.besideSol) (r : Row) (n : Nat) (hk : OffSol (r.key 0 0)) :
    t.get r n = s.get r n := State.get_of_besideSol h (offSol_key n hk)

/-- An update of the record that leaves the view. -/
theorem State.besideSol_mk (s : State) (pending staged parity owed log wdt yard boot gran shadow host loft semHold temp sol solc fpa cal
    mill sen link linkc vid vout slu hsFault freeCtr) :
    State.besideSol ⟨pending, s.regs, staged, parity, owed, log, wdt, yard, boot, gran, shadow, host, loft, semHold, temp, sol, solc, fpa,
      cal, mill, s.nuc, sen, link, linkc, vid, vout, slu, hsFault, freeCtr⟩ = s.besideSol := rfl

@[simp] theorem ite_besideSol (c : Prop) [Decidable c] (s t : State) :
    (if c then s else t).besideSol = if c then s.besideSol else t.besideSol := apply_ite State.besideSol c s t

theorem foldl_besideSol {α : Type} (l : List α) (f : State → α → State) (hf : ∀ s a, (f s a).besideSol = s.besideSol) (s : State) :
    (l.foldl f s).besideSol = s.besideSol := by
  induction l generalizing s with
  | nil => rfl
  | cons a l ih => exact (ih _).trans (hf s a)

/-! ### The state's own operations -/

/-- What leaves NUC and the keys beside the channels leaves the view. -/
theorem State.besideSol_of_find {s t : State} (hn : t.nuc = s.nuc) (h : ∀ k d, OffSol k → t.regs.find k d = s.regs.find k d) :
    t.besideSol = s.besideSol := by
  refine Prod.ext hn (funext fun k => funext fun d => ?_)
  simp only [State.besideSol]
  split
  next hk => exact h k d hk
  next => rfl

@[simp] theorem State.put_besideSol (s : State) {r : Row} (v n : Nat) (h : r.key 0 0 % 0x20000 ∈ solPlaces) :
    (s.put r v n).besideSol = s.besideSol :=
  State.besideSol_of_find rfl fun _ d hk => State.put_find_place s (fun he => hk.1 (he ▸ h)) v n d

@[simp] theorem State.inc_besideSol (s : State) {r : Row} (n : Nat) (h : r.key 0 0 % 0x20000 ∈ solPlaces) :
    (s.inc r n).besideSol = s.besideSol := State.put_besideSol s _ n h

@[simp] theorem State.raise_besideSol (s : State) (p bits : Nat) : (s.raise p bits).besideSol = s.besideSol :=
  State.put_besideSol s _ p (by decide)

@[simp] theorem State.event_besideSol (s : State) (code data : Nat) : (s.event code data).besideSol = s.besideSol := by
  refine State.besideSol_of_find (by rw [(s.event_logsOnly code data).1]) fun k d hk => s.event_find_place code data (fun hc => hk.1 ?_) hk.2 d
  simp only [solPlaces, List.map_append, List.mem_append]
  exact .inr hc

@[simp] theorem State.noteErr_besideSol (s : State) (m : Nat) (wr : Bool) (p off code : Nat) :
    (s.noteErr m wr p off code).besideSol = s.besideSol := by
  simp (disch := decide) [State.noteErr]

@[simp] theorem State.setChan_besideSol (s : State) (n : Nat) (ch : SolS) : (s.setChan n ch).besideSol = s.besideSol := rfl

/-! ### What Machine/Sol.lean leaves -/

@[simp] theorem State.solFlag_besideSol (s : State) (n b : Nat) : (s.solFlag n b).besideSol = s.besideSol := by
  simp (disch := decide) [State.solFlag]

@[simp] theorem State.boostSync_besideSol (s : State) (need : Bool) : (s.boostSync need).besideSol = s.besideSol := by
  simp (disch := decide) [State.boostSync]

@[simp] theorem State.releaseRail_besideSol (s : State) (n : Nat) : (s.releaseRail n).besideSol = s.besideSol := by
  simp (disch := decide) [State.releaseRail]

@[simp] theorem State.toOff_besideSol (s : State) (n : Nat) (rest : Bool) : (s.toOff n rest).besideSol = s.besideSol := by
  simp (disch := decide) [State.toOff]

@[simp] theorem State.origin_besideSol (s : State) (n sw : Nat) : (s.origin n sw).besideSol = s.besideSol := by
  unfold State.origin
  extract_lets t u
  rw [State.setChan_besideSol]
  change t.besideSol = s.besideSol
  simp (disch := decide) [t]

@[simp] theorem State.enterBat_besideSol (s : State) (n ph : Nat) (cur : Bool) : (s.enterBat n ph cur).besideSol = s.besideSol := by
  simp (disch := decide) [State.enterBat]

@[simp] theorem State.advance_besideSol (s : State) (n ph : Nat) (cur : Bool) : (s.advance n ph cur).besideSol = s.besideSol := by
  simp [State.advance]

@[simp] theorem State.boostOn_besideSol (s : State) (n : Nat) : (s.boostOn n).besideSol = s.besideSol := by
  simp (disch := decide) [State.boostOn]

@[simp] theorem State.notReady_besideSol (s : State) (n : Nat) : (s.notReady n).besideSol = s.besideSol := by
  simp [State.notReady]

@[simp] theorem State.withRail_besideSol (s : State) (n : Nat) : (s.withRail n).besideSol = s.besideSol := by
  simp (disch := decide) [State.withRail]

@[simp] theorem State.railRefuse_besideSol (s : State) (n : Nat) : (s.railRefuse n).besideSol = s.besideSol := by
  simp (disch := decide) [State.railRefuse]

@[simp] theorem State.needRail_besideSol (s : State) (n : Nat) : (s.needRail n).besideSol = s.besideSol := by
  simp (disch := decide) [State.needRail, State.besideSol_mk]

@[simp] theorem State.startProfile_besideSol (s : State) (n : Nat) : (s.startProfile n).besideSol = s.besideSol := by
  simp (disch := decide) [State.startProfile]

@[simp] theorem State.restartProfile_besideSol (s : State) (n : Nat) : (s.restartProfile n).besideSol = s.besideSol := by
  simp [State.restartProfile]

@[simp] theorem State.fire_besideSol (s : State) (m n : Nat) : (s.fire m n).besideSol = s.besideSol := by
  simp (disch := decide) [State.fire]

@[simp] theorem State.stopChan_besideSol (s : State) (n : Nat) : (s.stopChan n).besideSol = s.besideSol := by
  simp (disch := decide) [State.stopChan]

@[simp] theorem State.shutFire_besideSol (s : State) (n : Nat) : (s.shutFire n).besideSol = s.besideSol := by
  simp [State.shutFire]

/-! ### A channel goes off -/

/-- A channel is off and a pending command of it is discarded (R289, R319, R325). -/
def State.chanOff (s : State) (n : Nat) : State := (s.put SOL_PENDING 0 n).toOff n false

@[simp] theorem State.chanOff_besideSol (s : State) (n : Nat) : (s.chanOff n).besideSol = s.besideSol := by
  simp (disch := decide) [State.chanOff]

@[simp] theorem State.chanOff_held {μ δ : Bool} (s : State) (n : Nat) : (s.chanOff n).held μ δ = s.held μ δ := by
  simp (disch := decide) [State.chanOff]

end Sys2Proof.Machine
end

section
/-! O34 and O35: what a channel that goes off reads as, and what each of the functions behind TRIP_N, the latches and the coil model writes. -/

namespace Sys2Proof.Machine

open Sys2Proof

/-! ### Folds, fields and causes -/

/-- What each step of a fold establishes of its own element and keeps of the others holds of every element at the end. -/
theorem foldl_each {σ α : Type} {Q : σ → Prop} {P : α → σ → Prop} {f : σ → α → σ} (hQ : ∀ s a, Q s → Q (f s a)) (l : List α)
    (hP : ∀ s, ∀ a ∈ l, Q s → P a (f s a)) (hkeep : ∀ s, ∀ a ∈ l, ∀ b, Q s → P a s → P a (f s b)) {s : σ} (hs : Q s) :
    ∀ a ∈ l, P a (l.foldl f s) := by
  have hrest : ∀ (m : List α) (s : σ), ∀ a ∈ l, Q s → P a s → P a (m.foldl f s) := by
    intro m
    induction m with
    | nil => exact fun s a _ _ hp => hp
    | cons b m ih => exact fun s a ha hq hp => ih _ a ha (hQ s b hq) (hkeep s a ha b hq hp)
  have hall : ∀ (m : List α) (s : σ), (∀ a ∈ m, a ∈ l) → Q s → ∀ a ∈ m, P a (m.foldl f s) := by
    intro m
    induction m with
    | nil => exact fun s _ _ a ha => absurd ha List.not_mem_nil
    | cons b m ih =>
      intro s hsub hq a ha
      have hb := hsub b (.head _)
      cases ha with
      | head => exact hrest m _ b hb (hQ s b hq) (hP s b hb hq)
      | tail _ ha => exact ih _ (fun c hc => hsub c (.tail _ hc)) (hQ s b hq) a ha
  exact hall l s (fun a ha => ha) hs

/-- What every step of a fold keeps, the fold keeps. -/
theorem foldl_keeps {σ α : Type} {P : σ → Prop} {f : σ → α → σ} (hf : ∀ s a, P s → P (f s a)) (l : List α) {s : σ} (hs : P s) :
    P (l.foldl f s) := by
  induction l generalizing s with
  | nil => exact hs
  | cons a l ih => exact ih (hf s a hs)

/-- A field on one page and on another have different keys. -/
theorem Row.key_ne_of_page {n n' : Nat} (h : n' ≠ n) (r : Row) (i : Nat) : r.key n' i ≠ r.key n i := by
  rw [Row.key_page r n, Row.key_page r n']
  omega

/-- A field that already reads as the value that is written on some page reads so afterwards. -/
theorem State.get_put_keep {s : State} {r : Row} {v k : Nat} (h : s.get r k = v % 2 ^ r.wid) (n : Nat) :
    (s.put r v n).get r k = v % 2 ^ r.wid := by
  by_cases hk : k = n
  · rw [hk, State.get_put_same]
  · rw [State.get_put_ne s (Row.key_ne_of_page hk r 0), h]

/-- An event leaves the fields of the pages but EVT and those of a head. -/
theorem State.event_get_page (s : State) (code data : Nat) {r : Row} {n i : Nat} (hr : r.offset i + r.lo / 8 < 0x1000)
    (h6 : r.page + n ≠ 0x006) (h7 : r.page + n ≠ 0x074) : (s.event code data).get r n i = s.get r n i :=
  s.event_find_page code data (by rwa [keyPage_key hr]) (by rwa [keyPage_key hr]) _

theorem State.raise_bitAt (s : State) (p : Nat) {b : Nat} (hb : b < 32) : bitAt ((s.raise p (2 ^ b)).get HDR_INT_RAW p) b = true := by
  rw [State.get_raise_same, bitAt_eq_testBit, Nat.testBit_mod_two_pow, Nat.testBit_or, Nat.testBit_two_pow_self]
  simp [hb]

theorem State.raise_bitAt_keep {s : State} {q b : Nat} (hb : b < 32) (h : bitAt (s.get HDR_INT_RAW q) b = true) (p bits : Nat) :
    bitAt ((s.raise p bits).get HDR_INT_RAW q) b = true := by
  by_cases hq : q = p
  · subst hq
    rw [bitAt_eq_testBit] at h
    rw [State.get_raise_same, bitAt_eq_testBit, Nat.testBit_mod_two_pow, Nat.testBit_or, h]
    simp [hb]
  · rwa [State.raise, State.get_put_ne s (Row.key_ne_of_page hq HDR_INT_RAW 0)]

@[simp] theorem State.raise_sol (s : State) (p bits : Nat) : (s.raise p bits).sol = s.sol := rfl

@[simp] theorem State.event_sol (s : State) (code data : Nat) : (s.event code data).sol = s.sol :=
  (s.event_logsOnly code data).sol

@[simp] theorem State.releaseRail_sol (s : State) (n : Nat) : (s.releaseRail n).sol = s.sol := by
  unfold State.releaseRail
  split <;> rfl

@[simp] theorem State.setChan_sol_length (s : State) (n : Nat) (ch : SolS) : (s.setChan n ch).sol.length = s.sol.length := by
  simp [State.setChan]

theorem State.chan_of_sol {s t : State} (h : t.sol = s.sol) (n : Nat) : t.chan n = s.chan n := by
  unfold State.chan
  rw [h]

/-! ### A channel goes off (R289, R297, R319) -/

/-- The fields that a channel's way to OFF writes. -/
def offRows : List Row := [SOL_PENDING, HDR_INT_RAW, SOL_PHASE, BOOST_HOLDER]

/-- Where on their pages these stand. -/
def offPlaces : List Nat := offRows.map (Row.key · 0 0 % 0x20000)

theorem State.releaseRail_get (s : State) (n : Nat) {r : Row} {i : Nat} (k : Nat)
    (h : r.key 0 i % 0x20000 ≠ BOOST_HOLDER.key 0 0 % 0x20000) : (s.releaseRail n).get r k i = s.get r k i := by
  unfold State.releaseRail
  split
  next => exact State.get_put_place s h _ _ _
  next => rfl

/-- The channel's record in OFF. -/
theorem State.toOff_sol (s : State) (n : Nat) (rest : Bool) :
    ∃ off, (s.toOff n rest).sol = s.sol.set n { (s.chan n).off with wait := 0, started := false, minOff := off } := by
  refine ⟨rest && (s.chan n).started && !s.on SOL_RETRIG n && s.get SOL_T_MIN_OFF n != 0 || (s.chan n).minOff, ?_⟩
  unfold State.toOff
  rw [State.releaseRail_sol, State.put_sol]
  by_cases hst : (s.chan n).started = true
  · rw [if_pos hst]
    have hretrig : (s.raise (solPage n) 1).on SOL_RETRIG n = s.on SOL_RETRIG n := by
      unfold State.on State.raise
      rw [State.get_put_place s (by decide)]
    have hmin : (s.raise (solPage n) 1).get SOL_T_MIN_OFF n = s.get SOL_T_MIN_OFF n := State.get_put_place s (by decide) _ _ _
    rw [hretrig, hmin]
    rfl
  · rw [if_neg hst]
    rfl

theorem State.toOff_phase (s : State) (n : Nat) (rest : Bool) : (s.toOff n rest).get SOL_PHASE n = 0 := by
  unfold State.toOff
  rw [State.releaseRail_get _ _ _ (by decide), State.get_put_same, Nat.zero_mod]

/-- What else a channel's way to OFF leaves of the registers. -/
theorem State.toOff_find (s : State) (n : Nat) (rest : Bool) {k : Nat} (hint : k ≠ HDR_INT_RAW.key (solPage n) 0)
    (hphase : k ≠ SOL_PHASE.key n 0) (hholder : k ≠ BOOST_HOLDER.key 0 0) (d : Nat) :
    (s.toOff n rest).regs.find k d = s.regs.find k d := by
  unfold State.toOff State.releaseRail
  extract_lets _ t _ _ u
  have hu : (u.put SOL_PHASE 0 n).regs.find k d = s.regs.find k d := by
    refine (State.put_find_ne hphase d).trans ?_
    change t.regs.find k d = s.regs.find k d
    unfold t
    split
    next => exact State.put_find_ne hint d
    next => rfl
  split
  next => exact (State.put_find_ne hholder d).trans hu
  next => exact hu

/-- A key at another place than those, whatever its page. -/
theorem State.toOff_find_place (s : State) (n : Nat) (rest : Bool) {k : Nat} (h : k % 0x20000 ∉ offPlaces) (d : Nat) :
    (s.toOff n rest).regs.find k d = s.regs.find k d := by
  have hne : ∀ r ∈ offRows, ∀ m, k ≠ r.key m 0 := fun r hr m he =>
    h (by rw [he, Row.key_mod_page]; exact List.mem_map_of_mem hr)
  exact s.toOff_find n rest (hne _ (by decide) _) (hne _ (by decide) _) (hne _ (by decide) _) d

/-- The phase of another channel stays. -/
theorem State.toOff_phase_ne (s : State) {n k : Nat} (h : k ≠ n) (rest : Bool) : (s.toOff n rest).get SOL_PHASE k = s.get SOL_PHASE k :=
  s.toOff_find n rest (Row.key_ne_of_place (by decide) _ _) (Row.key_ne_of_page h _ _) (Row.key_ne_of_place (by decide) _ _) _

theorem State.toOff_pending (s : State) (n k : Nat) (rest : Bool) : (s.toOff n rest).get SOL_PENDING k = s.get SOL_PENDING k :=
  s.toOff_find n rest (Row.key_ne_of_place (by decide) _ _) (Row.key_ne_of_place (by decide) _ _) (Row.key_ne_of_place (by decide) _ _) _

theorem State.toOff_chan (s : State) {n : Nat} (hn : n < s.sol.length) (rest : Bool) :
    ((s.toOff n rest).chan n).sw = 0 ∧ ((s.toOff n rest).chan n).started = false := by
  obtain ⟨off, hsol⟩ := s.toOff_sol n rest
  have hset : (s.toOff n rest).chan n = { (s.chan n).off with wait := 0, started := false, minOff := off } :=
    (State.chan_of_sol (t := s.toOff n rest) (s := s.setChan n _) hsol n).trans (s.chan_setChan n _ hn)
  rw [hset]
  exact ⟨rfl, rfl⟩

theorem State.toOff_chan_ne (s : State) {n k : Nat} (h : k ≠ n) (rest : Bool) : (s.toOff n rest).chan k = s.chan k := by
  obtain ⟨off, hsol⟩ := s.toOff_sol n rest
  exact (State.chan_of_sol (t := s.toOff n rest) (s := s.setChan n _) hsol k).trans (State.chan_setChan_ne s h _)

@[simp] theorem State.toOff_sol_length (s : State) (n : Nat) (rest : Bool) : (s.toOff n rest).sol.length = s.sol.length := by
  obtain ⟨off, hsol⟩ := s.toOff_sol n rest
  rw [hsol, List.length_set]

/-- The coil's model and the current check's watch go on in OFF. -/
theorem State.toOff_model (s : State) (n k : Nat) (rest : Bool) :
    ((s.toOff n rest).chan k).tc = (s.chan k).tc ∧ ((s.toOff n rest).chan k).frac = (s.chan k).frac ∧
      ((s.toOff n rest).chan k).watch = (s.chan k).watch := by
  by_cases hk : k = n
  · subst hk
    obtain ⟨off, hsol⟩ := s.toOff_sol k rest
    have hchan := State.chan_of_sol (t := s.toOff k rest) (s := s.setChan k _) hsol k
    by_cases hn : k < s.sol.length
    · rw [hchan, State.chan_setChan s k _ hn]
      exact ⟨rfl, rfl, rfl⟩
    · rw [hchan, State.setChan, List.set_eq_of_length_le (by omega)]
      exact ⟨rfl, rfl, rfl⟩
  · rw [State.toOff_chan_ne s hk]
    exact ⟨rfl, rfl, rfl⟩

/-- Channel `k` is off: its switches, its profile, its phase, and no command pending. -/
def State.channelOff (s : State) (k : Nat) : Prop :=
  (s.chan k).sw = 0 ∧ (s.chan k).started = false ∧ s.get SOL_PHASE k = 0 ∧ s.get SOL_PENDING k = 0

theorem State.channelOff_of {s t : State} {k : Nat} (hs : s.channelOff k) (hchan : t.chan k = s.chan k)
    (hphase : t.get SOL_PHASE k = s.get SOL_PHASE k) (hpend : t.get SOL_PENDING k = s.get SOL_PENDING k) : t.channelOff k := by
  rwa [State.channelOff, hchan, hphase, hpend]

@[simp] theorem State.chanOff_sol_length (s : State) (n : Nat) : (s.chanOff n).sol.length = s.sol.length :=
  State.toOff_sol_length ..

theorem State.chanOff_find (s : State) (n : Nat) {k : Nat} (h : k % 0x20000 ∉ offPlaces) (d : Nat) :
    (s.chanOff n).regs.find k d = s.regs.find k d :=
  (State.toOff_find_place _ n false h d).trans (State.put_find_place s (fun he => h (by rw [he]; decide)) _ _ _)

theorem State.chanOff_off (s : State) {n : Nat} (hn : n < s.sol.length) : (s.chanOff n).channelOff n := by
  obtain ⟨hsw, hst⟩ := (s.put SOL_PENDING 0 n).toOff_chan hn false
  refine ⟨hsw, hst, State.toOff_phase .., ?_⟩
  rw [State.chanOff, State.toOff_pending, State.get_put_same, Nat.zero_mod]

theorem State.chanOff_chan_ne (s : State) {n k : Nat} (h : k ≠ n) : (s.chanOff n).chan k = s.chan k :=
  State.toOff_chan_ne _ h _

theorem State.chanOff_watch (s : State) (n k : Nat) : ((s.chanOff n).chan k).watch = (s.chan k).watch :=
  ((s.put SOL_PENDING 0 n).toOff_model n k false).2.2

theorem State.chanOff_keep {s : State} {k : Nat} (hk : k < s.sol.length) (h : s.channelOff k) (n : Nat) :
    (s.chanOff n).channelOff k := by
  by_cases hn : k = n
  · rw [← hn]
    exact s.chanOff_off hk
  · refine State.channelOff_of h (s.chanOff_chan_ne hn) ?_ ?_
    · exact (State.toOff_phase_ne _ hn _).trans (State.get_put_place s (by decide) _ _ _)
    · exact (State.toOff_pending _ n k _).trans (State.get_put_ne s (Row.key_ne_of_page hn _ _) _)

end Sys2Proof.Machine
end

section
/-! O34 and O35: TRIP_N, the latches and the fault of the shutter that they lead to. -/

namespace Sys2Proof.Machine

open Sys2Proof

/-! ### Channels go off together -/

/-- The channels of a list are off. -/
def State.offAll (s : State) (l : List Nat) : State := l.foldl State.chanOff s

@[simp] theorem State.offAll_besideSol (s : State) (l : List Nat) : (s.offAll l).besideSol = s.besideSol :=
  foldl_besideSol l _ State.chanOff_besideSol s

@[simp] theorem State.offAll_held {μ δ : Bool} (s : State) (l : List Nat) : (s.offAll l).held μ δ = s.held μ δ :=
  foldl_held l _ (fun t n _ => t.chanOff_held n) s

@[simp] theorem State.offAll_sol_length (s : State) (l : List Nat) : (s.offAll l).sol.length = s.sol.length :=
  foldl_keeps (P := fun t : State => t.sol.length = s.sol.length) (fun t n ht => (t.chanOff_sol_length n).trans ht) l rfl

theorem State.offAll_find (s : State) (l : List Nat) {k : Nat} (h : k % 0x20000 ∉ offPlaces) (d : Nat) :
    (s.offAll l).regs.find k d = s.regs.find k d :=
  foldl_keeps (P := fun t : State => t.regs.find k d = s.regs.find k d) (fun t n ht => (t.chanOff_find n h d).trans ht) l rfl

theorem State.offAll_watch (s : State) (l : List Nat) (k : Nat) : ((s.offAll l).chan k).watch = (s.chan k).watch :=
  foldl_keeps (P := fun t : State => (t.chan k).watch = (s.chan k).watch) (fun t n ht => (t.chanOff_watch n k).trans ht) l rfl

/-- A channel that is off stays so. -/
theorem State.offAll_keep {s : State} {k : Nat} (hk : k < s.sol.length) (h : s.channelOff k) (l : List Nat) : (s.offAll l).channelOff k :=
  (foldl_keeps (P := fun t : State => k < t.sol.length ∧ t.channelOff k)
    (fun t n ⟨hlen, hoff⟩ => ⟨by rwa [State.chanOff_sol_length], State.chanOff_keep hlen hoff n⟩) l ⟨hk, h⟩).2

theorem State.offAll_off {s : State} {l : List Nat} (hl : ∀ k ∈ l, k < s.sol.length) : ∀ k ∈ l, (s.offAll l).channelOff k :=
  foldl_each (Q := fun t : State => t.sol.length = s.sol.length) (P := fun k (t : State) => t.channelOff k) (f := State.chanOff)
    (fun t n ht => (t.chanOff_sol_length n).trans ht) l
    (fun t k hk ht => t.chanOff_off (by rw [ht]; exact hl k hk))
    (fun t k hk n ht hoff => State.chanOff_keep (by rw [ht]; exact hl k hk) hoff n) rfl

/-! ### The fault of the shutter (R289) -/

/-- A closure that is cut writes the page of NUC and the log. -/
theorem State.closureCut_find (s : State) {k : Nat} (h : keyPage k ∉ [0x006, 0x052, 0x074]) (d : Nat) :
    s.closureCut.regs.find k d = s.regs.find k d := by
  simp only [List.mem_cons, List.not_mem_nil, or_false, not_or] at h
  obtain ⟨h6, h52, h74⟩ := h
  unfold State.closureCut
  split
  next => rfl
  next =>
    calc ((s.nucFail 4).closureOver).regs.find k d
        = (((s.inc NUC_FAILS).event 0x5211 4).raise 0x052 2).regs.find k d := State.put_find_page (by decide) h52 d
      _ = ((s.inc NUC_FAILS).event 0x5211 4).regs.find k d := State.put_find_page (by decide) h52 d
      _ = (s.inc NUC_FAILS).regs.find k d := State.event_find_page _ _ _ h6 h74 d
      _ = s.regs.find k d := State.put_find_page (by decide) h52 d

theorem State.closureCut_form (s : State) : s.closureCut.nuc.form = 0 := by
  unfold State.closureCut
  split
  next h => exact h
  next => rfl

@[simp] theorem State.closureCut_sol (s : State) : s.closureCut.sol = s.sol := by
  unfold State.closureCut
  split
  next => rfl
  next => exact State.event_sol ..

theorem State.shutFault_of_faulted {s : State} (h : s.on SHUT_FAULTED = true) (cause : Nat) : s.shutFault cause = s := if_pos h

theorem State.shutFault_of_sound {s : State} (h : s.on SHUT_FAULTED = false) (cause : Nat) :
    s.shutFault cause =
      { ((s.offAll s.shutChans).put SHUT_FAULTED 1).event 0x6510 cause with
        nuc := { (s.offAll s.shutChans).nuc with bootFail := (s.offAll s.shutChans).nuc.bootPulse } } :=
  if_neg (by rw [h]; exact Bool.false_ne_true)

theorem State.shutFault_faulted (s : State) (cause : Nat) : (s.shutFault cause).get SHUT_FAULTED ≠ 0 := by
  cases h : s.on SHUT_FAULTED
  · rw [State.shutFault_of_sound h]
    have hput : (((s.offAll s.shutChans).put SHUT_FAULTED 1).event 0x6510 cause).get SHUT_FAULTED = 1 := by
      rw [State.event_get_page _ _ _ (by decide) (by decide) (by decide), State.get_put_same]
      rfl
    exact fun h0 => Nat.one_ne_zero (hput.symm.trans h0)
  · rw [State.shutFault_of_faulted h]
    exact bne_iff_ne.mp h

/-- What the shutter's fault leaves: the pages beside the log, and there the fields that neither OFF nor the fault writes. -/
theorem State.shutFault_find (s : State) (cause : Nat) {k : Nat} (hplace : k % 0x20000 ∉ offPlaces)
    (hfault : k % 0x20000 ≠ SHUT_FAULTED.key 0 0 % 0x20000) (h6 : keyPage k ≠ 0x006) (h74 : keyPage k ≠ 0x074) (d : Nat) :
    (s.shutFault cause).regs.find k d = s.regs.find k d := by
  cases h : s.on SHUT_FAULTED
  · rw [State.shutFault_of_sound h]
    calc (((s.offAll s.shutChans).put SHUT_FAULTED 1).event 0x6510 cause).regs.find k d
        = ((s.offAll s.shutChans).put SHUT_FAULTED 1).regs.find k d := State.event_find_page _ _ _ h6 h74 d
      _ = (s.offAll s.shutChans).regs.find k d := State.put_find_place _ hfault _ _ d
      _ = s.regs.find k d := s.offAll_find _ hplace d
  · rw [State.shutFault_of_faulted h]

theorem State.shutFault_keep {s : State} (cause : Nat) {k : Nat} (hk : k < s.sol.length) (h : s.channelOff k)
    (hpage : k < 4) : (s.shutFault cause).channelOff k := by
  cases hf : s.on SHUT_FAULTED
  · rw [State.shutFault_of_sound hf]
    have hget : ∀ r : Row, r.offset 0 + r.lo / 8 < 0x1000 → r.page = 0x060 → r.key 0 0 % 0x20000 ≠ SHUT_FAULTED.key 0 0 % 0x20000 →
        (((s.offAll s.shutChans).put SHUT_FAULTED 1).event 0x6510 cause).get r k = (s.offAll s.shutChans).get r k := fun r hr h60 hne =>
      (State.event_get_page _ _ _ hr (by omega) (by omega)).trans (State.get_put_place _ hne _ _ _)
    exact State.channelOff_of (State.offAll_keep hk h _) (State.chan_of_sol (State.event_sol ..) k) (hget _ (by decide) rfl (by decide))
      (hget _ (by decide) rfl (by decide))
  · rwa [State.shutFault_of_faulted hf]

@[simp] theorem State.shutFault_held {μ δ : Bool} (s : State) (cause : Nat) : (s.shutFault cause).held μ δ = s.held μ δ := by
  cases h : s.on SHUT_FAULTED
  · rw [State.shutFault_of_sound h]
    exact (State.event_held ..).trans ((State.put_held_page _ _ _ _ (by decide)).trans (s.offAll_held _))
  · rw [State.shutFault_of_faulted h]

theorem State.shutLost_of_off {s : State} (h : s.get HDR_EN 0x065 ≠ 1) (cause : Nat) : s.shutLost cause = s := if_neg h

theorem State.shutLost_of_on {s : State} (h : s.get HDR_EN 0x065 = 1) (cause : Nat) : s.shutLost cause = (s.shutFault cause).closureCut :=
  if_pos h

/-- What the loss of a shutter channel does where SHUT is enabled: the shutter is faulted and no closure runs. -/
theorem State.shutLost_faults {s : State} (h : s.get HDR_EN 0x065 = 1) (cause : Nat) :
    (s.shutLost cause).get SHUT_FAULTED ≠ 0 ∧ (s.shutLost cause).nuc.form = 0 := by
  rw [State.shutLost_of_on h]
  refine ⟨?_, State.closureCut_form _⟩
  have hcut : (s.shutFault cause).closureCut.get SHUT_FAULTED = (s.shutFault cause).get SHUT_FAULTED :=
    State.closureCut_find _ (by decide) _
  rw [hcut]
  exact s.shutFault_faulted cause

/-- The other fields of SOL, BOOST and SHUT that it leaves. -/
theorem State.shutLost_get (s : State) (cause : Nat) {r : Row} {k : Nat} (hr : r.offset 0 + r.lo / 8 < 0x1000)
    (hplace : r.key 0 0 % 0x20000 ∉ SHUT_FAULTED.key 0 0 % 0x20000 :: offPlaces) (hlo : 0x060 ≤ r.page + k) (hhi : r.page + k < 0x070) :
    (s.shutLost cause).get r k = s.get r k := by
  rw [List.mem_cons, not_or, ← Row.key_mod_page r k] at hplace
  have hkey : keyPage (r.key k 0) = r.page + k := keyPage_key hr
  have hpage : keyPage (r.key k 0) ∉ [0x006, 0x052, 0x074] := by
    rw [hkey]
    simp only [List.mem_cons, List.not_mem_nil, or_false, not_or]
    omega
  unfold State.shutLost
  split
  next => exact (State.closureCut_find _ hpage _).trans (s.shutFault_find cause hplace.2 hplace.1 (by omega) (by omega) _)
  next => rfl

theorem State.shutLost_get_sol (s : State) (cause : Nat) {r : Row} {k : Nat} (hr : r.offset 0 + r.lo / 8 < 0x1000)
    (hplace : r.key 0 0 % 0x20000 ∉ SHUT_FAULTED.key 0 0 % 0x20000 :: offPlaces) (h60 : r.page = 0x060) (hk : k < 4) :
    (s.shutLost cause).get r k = s.get r k :=
  s.shutLost_get cause hr hplace (by omega) (by omega)

/-- A channel that is off stays off. -/
theorem State.shutLost_keep {s : State} (cause : Nat) {k : Nat} (hk : k < s.sol.length) (h : s.channelOff k) (hpage : k < 4) :
    (s.shutLost cause).channelOff k := by
  unfold State.shutLost
  split
  next =>
    have hfind : ∀ r : Row, r.offset 0 + r.lo / 8 < 0x1000 → r.page = 0x060 →
        (s.shutFault cause).closureCut.get r k = (s.shutFault cause).get r k := fun r hr h60 =>
      State.closureCut_find _ (by
        rw [keyPage_key hr, h60]
        simp only [List.mem_cons, List.not_mem_nil, or_false, not_or]
        omega) _
    exact State.channelOff_of (State.shutFault_keep cause hk h hpage) (State.chan_of_sol (State.closureCut_sol _) k)
      (hfind _ (by decide) rfl) (hfind _ (by decide) rfl)
  next => exact h

/-- A watch of the current check goes on. -/
theorem State.shutLost_watch (s : State) (cause k : Nat) : ((s.shutLost cause).chan k).watch = (s.chan k).watch := by
  unfold State.shutLost
  split
  next =>
    rw [State.chan_of_sol (State.closureCut_sol _) k]
    cases h : s.on SHUT_FAULTED
    · rw [State.shutFault_of_sound h]
      exact (congrArg SolS.watch (State.chan_of_sol (State.event_sol ..) k)).trans (s.offAll_watch _ k)
    · rw [State.shutFault_of_faulted h]
  next => rfl

@[simp] theorem State.shutLost_held {μ δ : Bool} (s : State) (cause : Nat) : (s.shutLost cause).held μ δ = s.held μ δ := by
  simp [State.shutLost]

/-! ### TRIP_N acts (R319, R321, R322) -/

theorem exec_tripEvent (s : State) : exec .tripEvent s = .next s.tripAll := rfl

theorem exec_tripRelease (s : State) : exec .tripRelease s = .next s.tripRelease := rfl

/-- A channel is marked as tripped. -/
def State.tripMark (s : State) (n : Nat) : State := ((s.put SOL_TRIPPED 1 n).put SOL_TRIP_STICKY 1 n).raise (solPage n) 4

/-- The channels of a list are marked. -/
def State.tripMarks (s : State) (l : List Nat) : State := l.foldl State.tripMark s

/-- Every channel is off and marked as tripped. -/
def State.tripOff (s : State) : State := s.actuatorsOff.tripMarks (List.range 4)

theorem State.tripAct_eq (s : State) :
    ∃ data, s.tripAct = ((s.tripOff.put BOOST_TRIP_STICKY 1).inc BOOST_TRIPS).event 0x6412 data := ⟨_, rfl⟩

theorem State.actuatorsOff_eq (s : State) : s.actuatorsOff = ((s.offAll (List.range 4)).put BOOST_RUN 0).put BOOST_HOLDER 7 := rfl

theorem State.actuatorsOff_off {s : State} (hlen : s.sol.length = 4) :
    s.actuatorsOff.sol.length = 4 ∧ ∀ k < 4, s.actuatorsOff.channelOff k := by
  have hoff : ∀ k ∈ List.range 4, (s.offAll (List.range 4)).channelOff k :=
    State.offAll_off fun k hk => by rw [hlen]; exact List.mem_range.mp hk
  have hsol : (s.offAll (List.range 4)).sol.length = 4 := (s.offAll_sol_length _).trans hlen
  rw [State.actuatorsOff_eq]
  generalize s.offAll (List.range 4) = t at hoff hsol
  refine ⟨hsol, fun k hk => State.channelOff_of (hoff k (List.mem_range.mpr hk)) rfl ?_ ?_⟩ <;>
  · rw [State.get_put_place _ (by decide), State.get_put_place _ (by decide)]

/-- Where the fields that a trip writes stand, beside those of BOOST and the log. -/
def tripPlaces : List Nat := offPlaces ++ [BOOST_RUN, SOL_TRIPPED, SOL_TRIP_STICKY].map (Row.key · 0 0 % 0x20000)

theorem State.tripMarks_get (s : State) (l : List Nat) {r : Row} (n : Nat)
    (h : r.key 0 0 % 0x20000 ∉ [HDR_INT_RAW, SOL_TRIPPED, SOL_TRIP_STICKY].map (Row.key · 0 0 % 0x20000)) :
    (s.tripMarks l).get r n = s.get r n := by
  simp only [List.map_cons, List.map_nil, List.mem_cons, List.not_mem_nil, or_false, not_or] at h
  obtain ⟨hint, htripped, hsticky⟩ := h
  exact foldl_keeps (P := fun t : State => t.get r n = s.get r n) (fun t k ht => (State.get_put_place _ hint _ _ _).trans
    ((State.get_put_place _ hsticky _ _ _).trans ((State.get_put_place _ htripped _ _ _).trans ht))) l rfl

theorem State.tripOff_get (s : State) {r : Row} (n : Nat) (h : r.key 0 0 % 0x20000 ∉ tripPlaces) : s.tripOff.get r n = s.get r n := by
  simp only [tripPlaces, List.mem_append, List.map_cons, List.map_nil, List.mem_cons, List.not_mem_nil, or_false, not_or] at h
  obtain ⟨hoff, hrun, htripped, hsticky⟩ := h
  have hmarks : r.key 0 0 % 0x20000 ∉ [HDR_INT_RAW, SOL_TRIPPED, SOL_TRIP_STICKY].map (Row.key · 0 0 % 0x20000) := by
    simp only [List.map_cons, List.map_nil, List.mem_cons, List.not_mem_nil, or_false, not_or]
    exact ⟨fun he => hoff (by rw [he]; decide), htripped, hsticky⟩
  have hholder : r.key 0 0 % 0x20000 ≠ BOOST_HOLDER.key 0 0 % 0x20000 := fun he => hoff (by rw [he]; decide)
  rw [State.tripOff, State.tripMarks_get _ _ _ hmarks, State.actuatorsOff_eq, State.get_put_place _ hholder, State.get_put_place _ hrun]
  exact s.offAll_find _ (by rwa [Row.key_mod_page]) _

/-- The boost controller is off (R319). -/
theorem State.tripOff_boost (s : State) : s.tripOff.get BOOST_RUN = 0 ∧ s.tripOff.get BOOST_HOLDER = 7 := by
  rw [State.tripOff, State.tripMarks_get _ _ _ (by decide), State.tripMarks_get _ _ _ (by decide), State.actuatorsOff_eq]
  refine ⟨?_, State.get_put_same ..⟩
  rw [State.get_put_place _ (by decide), State.get_put_same, Nat.zero_mod]

/-- Channel `k` is off and tripped. -/
def State.channelTripped (s : State) (k : Nat) : Prop :=
  s.channelOff k ∧ s.get SOL_TRIPPED k = 1 ∧ s.get SOL_TRIP_STICKY k = 1 ∧ bitAt (s.get HDR_INT_RAW (solPage k)) 2 = true

theorem State.tripMark_channelOff {s : State} {k : Nat} (h : s.channelOff k) (n : Nat) : (s.tripMark n).channelOff k := by
  refine State.channelOff_of h rfl ?_ ?_ <;>
  · unfold State.tripMark State.raise
    rw [State.get_put_place _ (by decide), State.get_put_place _ (by decide), State.get_put_place _ (by decide)]

theorem State.tripMark_tripped {s : State} {n : Nat} (h : s.channelOff n) : (s.tripMark n).channelTripped n := by
  refine ⟨State.tripMark_channelOff h n, ?_, ?_, State.raise_bitAt _ _ (b := 2) (by decide)⟩
  · unfold State.tripMark State.raise
    rw [State.get_put_place _ (by decide), State.get_put_place _ (by decide), State.get_put_same]
    rfl
  · unfold State.tripMark State.raise
    rw [State.get_put_place _ (by decide), State.get_put_same]
    rfl

theorem State.tripMark_keep {s : State} {k : Nat} (h : s.channelTripped k) (n : Nat) : (s.tripMark n).channelTripped k := by
  obtain ⟨hoff, htripped, hsticky, hbit⟩ := h
  refine ⟨State.tripMark_channelOff hoff n, ?_, ?_, State.raise_bitAt_keep (by decide) ?_ _ _⟩
  · unfold State.tripMark State.raise
    rw [State.get_put_place _ (by decide), State.get_put_place _ (by decide)]
    exact State.get_put_keep htripped n
  · unfold State.tripMark State.raise
    rw [State.get_put_place _ (by decide)]
    refine State.get_put_keep ?_ n
    rwa [State.get_put_place _ (by decide)]
  · rwa [State.get_put_place _ (by decide), State.get_put_place _ (by decide)]

theorem State.tripMarks_tripped {s : State} {l : List Nat} (h : ∀ k ∈ l, s.channelOff k) : ∀ k ∈ l, (s.tripMarks l).channelTripped k :=
  foldl_each (Q := fun t : State => ∀ k ∈ l, t.channelOff k) (P := fun k (t : State) => t.channelTripped k)
    (fun _ n ht k hk => State.tripMark_channelOff (ht k hk) n) l
    (fun _ n hn ht => State.tripMark_tripped (ht n hn)) (fun _ _ _ m _ ht => State.tripMark_keep ht m) h

theorem State.tripMarks_sol (s : State) (l : List Nat) : (s.tripMarks l).sol = s.sol :=
  foldl_keeps (P := fun t : State => t.sol = s.sol) (f := State.tripMark) (fun _ _ ht => ht) l rfl

theorem State.tripOff_tripped {s : State} (hlen : s.sol.length = 4) : s.tripOff.sol.length = 4 ∧ ∀ k < 4, s.tripOff.channelTripped k := by
  obtain ⟨hsol, hoff⟩ := State.actuatorsOff_off hlen
  have hall := State.tripMarks_tripped (s := s.actuatorsOff) (l := List.range 4) fun k hk => hoff k (List.mem_range.mp hk)
  exact ⟨by rw [State.tripOff, State.tripMarks_sol, hsol], fun k hk => hall k (List.mem_range.mpr hk)⟩

@[simp] theorem State.tripAct_held {μ δ : Bool} (s : State) : s.tripAct.held μ δ = s.held μ δ := by
  obtain ⟨data, ht⟩ := s.tripAct_eq
  have hoff : s.tripOff.held μ δ = s.held μ δ := by
    have hmark : ∀ (t : State) (n : Nat), (t.tripMark n).held μ δ = t.held μ δ := fun t n => by simp (disch := decide) [State.tripMark]
    exact (foldl_held (List.range 4) State.tripMark (fun t n _ => hmark t n) s.actuatorsOff).trans s.actuatorsOff_held
  rw [ht, State.event_held, State.inc_held_page _ _ _ (by decide), State.put_held_page _ _ _ _ (by decide), hoff]

end Sys2Proof.Machine
end

section
/-! O29, O30, O34 and O35: the words whose bits only command. Such a write stores nothing, and its master learns that it was accepted. -/

namespace Sys2Proof.Machine

open Sys2Proof

/-! ### The words -/

/-- A word of strobes stores none of its fields. -/
theorem State.storeWord_strobes (s : State) {p off : Nat} (data : Nat) (h : ∀ e ∈ wordRows p off, e.1.acc = .wo) :
    s.storeWord p off data = s.rewritten p off := by
  have hfold : ∀ l : List (Row × Nat), (∀ e ∈ l, e.1.acc = .wo) → l.foldl (fun s e => s.storeField p data e.1 e.2) s = s := by
    intro l hl
    induction l with
    | nil => rfl
    | cons e l ih =>
      have hfield : s.storeField p data e.1 e.2 = s := by
        unfold State.storeField
        rw [hl e (.head _)]
      rw [List.foldl_cons, hfield]
      exact ih fun e he => hl e (.tail _ he)
  unfold State.storeWord
  rw [hfold _ h]
  rfl

theorem State.writeDo_strobes (s : State) (m : Nat) {p off : Nat} (data : Nat) (h : ∀ e ∈ wordRows p off, e.1.acc = .wo)
    (hoff : off ≠ 0x010 ∧ off ≠ 0x014) : s.writeDo m p off data = (s.rewritten p off).blockAct m p off data (s.wordNow m p off) := by
  unfold State.writeDo
  rw [State.storeWord_strobes s data h]
  exact if_neg (by omega)

/-- An accepted command of such a word. -/
theorem State.command_strobes {s : State} {m p off data : Nat} (ha : s.accepts m p off data = true)
    (h : ∀ e ∈ wordRows p off, e.1.acc = .wo) (hoff : off ≠ 0x010 ∧ off ≠ 0x014) :
    s.command m p off data = ((s.rewritten p off).blockAct m p off data (s.wordNow m p off)).noteCode m cOK := by
  rw [State.command_of_accepts ha, State.writeDo_strobes s m data h hoff]

theorem wordRows_nucCmd : ∀ e ∈ wordRows 0x052 0x064, e.1.acc = .wo := by decide

theorem wordRows_shutClr : ∀ e ∈ wordRows 0x065 0x060, e.1.acc = .wo := by decide

theorem wordRows_boostClr : ∀ e ∈ wordRows 0x064 0x050, e.1.acc = .wo := by decide

theorem wordRows_solClr : ∀ n : Fin 4, ∀ e ∈ wordRows (solPage n.val) 0x098, e.1.acc = .wo := by decide

/-! ### The code that the master learns -/

theorem State.noteLast_put (s : State) (m k : Nat) : ∃ r, s.noteLast m k = s ∨ s.noteLast m k = s.put r k := by
  unfold State.noteLast
  split_ifs
  · exact ⟨_, .inr rfl⟩
  · exact ⟨_, .inr rfl⟩
  · exact ⟨SPI_LAST_CODE, .inl rfl⟩

theorem State.noteCode_ok_sol (s : State) (m : Nat) : (s.noteCode m cOK).sol = s.sol := by
  rw [State.noteCode_ok]
  obtain ⟨r, h | h⟩ := s.noteLast_put m cOK <;> split_ifs <;> rw [h] <;> rfl

theorem State.noteCode_ok_nuc (s : State) (m : Nat) : (s.noteCode m cOK).nuc = s.nuc := by
  rw [State.noteCode_ok]
  obtain ⟨r, h | h⟩ := s.noteLast_put m cOK <;> split_ifs <;> rw [h] <;> rfl

/-- What a page above the interfaces holds stays. -/
theorem State.noteCode_ok_get (s : State) (m : Nat) {r : Row} {n i : Nat} (h : 0x010 ≤ r.page + n) :
    (s.noteCode m cOK).get r n i = s.get r n i := by
  refine (s.noteCode_ok_sameBut m).get List.not_mem_nil fun hk => ?_
  have hlow : ∀ k ∈ lastKeys, k < 0x010 * 0x20000 := by decide
  have hlt := hlow _ hk
  unfold Row.key at hlt
  omega

theorem State.rewritten_sameBut (s : State) (p off : Nat) (ps ks : List Nat)  : s.SameBut (s.rewritten p off) ps ks :=
  State.sameBut_of_stores rfl rfl ps ks

theorem State.SameBut.noteOk {s t : State} {ks : List Nat} (h : s.SameBut t [] (ks ++ lastKeys)) (m : Nat) :
    s.SameBut (t.noteCode m cOK) [] (ks ++ lastKeys) :=
  h.trans ((t.noteCode_ok_sameBut m).mono (fun _ hm => hm) fun _ hm => List.mem_append_right _ hm)

@[simp] theorem State.rewritten_held {μ δ : Bool} (s : State) (p off : Nat) : (s.rewritten p off).held μ δ = s.held μ δ := rfl

/-! ### What the bits command -/

theorem State.blockAct_solTripClr (s : State) (m : Nat) (n : Fin 4) (was : Nat) :
    s.blockAct m (solPage n.val) 0x098 1 was = s.solTripClr n.val := by
  fin_cases n <;> rfl

theorem State.blockAct_solFaultClr (s : State) (m : Nat) (n : Fin 4) (was : Nat) :
    s.blockAct m (solPage n.val) 0x098 2 was = s.put SOL_LATCH 0 n.val := by
  fin_cases n <;> rfl

theorem State.blockAct_boostTripClr (s : State) (m was : Nat) : s.blockAct m 0x064 0x050 1 was = s.boostTripClr := rfl

theorem State.blockAct_shutFaultClr (s : State) (m was : Nat) : s.blockAct m 0x065 0x060 1 was = (s.put SHUT_FAULTED 0).outSync := rfl

theorem State.blockAct_nucClose (s : State) (m : Nat) (force : Bool) (was : Nat) :
    s.blockAct m 0x052 0x064 (1 + 2 * bit force) was = s.closeReq force := by
  cases force <;> rfl

end Sys2Proof.Machine
end

section
/-! O34 and O35: the coil model and the latches of a channel. -/

namespace Sys2Proof.Machine

open Sys2Proof

/-! ### HOT follows the coil's temperature (R311) -/

/-- A coil becomes HOT: the flag, the pending command that it discards, the interrupt and the entry. -/
def State.hotRise (s : State) (n : Nat) : State :=
  (((s.put SOL_HOT 1 n).put SOL_PENDING 0 n).raise (solPage n) 8).event (solEvent n 0x11) (s.tcoil n)

theorem State.judgeHot_hot {s : State} {n : Nat} (ht : (s.chan n).tc ≥ 16 * s.get SOL_COIL_TLIM n) :
    s.judgeHot n = if s.on SOL_HOT n then s else if (s.hotRise n).get SOL_PHASE n = 3 then (s.hotRise n).toOff n true else s.hotRise n :=
  if_pos ht

theorem State.judgeHot_cool {s : State} {n : Nat}
    (ht : (s.chan n).tc < 16 * s.get SOL_COIL_TLIM n - 16 * (s.get SOL_COIL_THYS n : Nat)) : s.judgeHot n = s.put SOL_HOT 0 n :=
  (if_neg (by omega)).trans (if_pos ht)

theorem State.judgeHot_cases (s : State) (n : Nat) :
    s.judgeHot n = s ∨ s.judgeHot n = s.put SOL_HOT 0 n ∨ s.judgeHot n = s.hotRise n ∨ s.judgeHot n = (s.hotRise n).toOff n true := by
  by_cases ht : (s.chan n).tc ≥ 16 * s.get SOL_COIL_TLIM n
  · rw [State.judgeHot_hot ht]
    split_ifs
    · exact .inl rfl
    · exact .inr (.inr (.inr rfl))
    · exact .inr (.inr (.inl rfl))
  · by_cases hc : (s.chan n).tc < 16 * s.get SOL_COIL_TLIM n - 16 * (s.get SOL_COIL_THYS n : Nat)
    · exact .inr (.inl (State.judgeHot_cool hc))
    · exact .inl ((if_neg ht).trans (if_neg hc))

theorem State.hotRise_sol (s : State) (n : Nat) : (s.hotRise n).sol = s.sol := State.event_sol ..

theorem State.hotRise_get (s : State) (n : Nat) {r : Row} {k : Nat} (hr : r.offset 0 + r.lo / 8 < 0x1000) (h60 : r.page = 0x060)
    (hk : k < 4) :
    (s.hotRise n).get r k = (((s.put SOL_HOT 1 n).put SOL_PENDING 0 n).raise (solPage n) 8).get r k :=
  State.event_get_page _ _ _ hr (by omega) (by omega)

theorem State.hotRise_hot (s : State) {n : Nat} (hn : n < 4) : (s.hotRise n).get SOL_HOT n = 1 := by
  rw [State.hotRise_get s n (by decide) rfl hn, State.raise,
    State.get_put_place _ (by decide), State.get_put_place _ (by decide), State.get_put_same]
  rfl

/-- The places of a channel's page that the judgement of HOT writes. -/
def hotPlaces : List Nat := SOL_HOT.key 0 0 % 0x20000 :: offPlaces

theorem State.hotRise_find (s : State) (n : Nat) {k : Nat} (h : k % 0x20000 ∉ hotPlaces) (hlog : k % 0x20000 ∉ logCountKeys.map (· % 0x20000))
    (hlow : k % 0x20000 < 0x10000) (d : Nat) : (s.hotRise n).regs.find k d = s.regs.find k d := by
  have hne : ∀ p ∈ hotPlaces, k % 0x20000 ≠ p := fun p hp he => h (by rwa [he])
  exact (State.event_find_place _ _ _ hlog hlow d).trans ((State.put_find_place _ (hne _ (by decide)) _ _ d).trans
    ((State.put_find_place _ (hne _ (by decide)) _ _ d).trans (State.put_find_place _ (hne _ (by decide)) _ _ d)))

theorem State.judgeHot_find (s : State) (n : Nat) {k : Nat} (h : k % 0x20000 ∉ hotPlaces) (hlog : k % 0x20000 ∉ logCountKeys.map (· % 0x20000))
    (hlow : k % 0x20000 < 0x10000) (d : Nat) : (s.judgeHot n).regs.find k d = s.regs.find k d := by
  obtain ⟨hhot, hoff⟩ := not_or.mp (fun hm => h (List.mem_cons.mpr hm))
  obtain he | he | he | he := s.judgeHot_cases n <;> rw [he]
  · exact State.put_find_place s hhot _ _ d
  · exact s.hotRise_find n h hlog hlow d
  · exact (State.toOff_find_place _ n true hoff d).trans (s.hotRise_find n h hlog hlow d)

/-- The coils' own values stay. -/
theorem State.judgeHot_model (s : State) (n k : Nat) :
    ((s.judgeHot n).chan k).tc = (s.chan k).tc ∧ ((s.judgeHot n).chan k).frac = (s.chan k).frac := by
  have hrise : (s.hotRise n).chan k = s.chan k := State.chan_of_sol (s.hotRise_sol n) k
  obtain he | he | he | he := s.judgeHot_cases n <;> rw [he]
  · exact ⟨rfl, rfl⟩
  · exact ⟨rfl, rfl⟩
  · rw [hrise]
    exact ⟨rfl, rfl⟩
  · obtain ⟨htc, hfrac, _⟩ := (s.hotRise n).toOff_model n k true
    rw [htc, hfrac, hrise]
    exact ⟨rfl, rfl⟩

@[simp] theorem State.judgeHot_sol_length (s : State) (n : Nat) : (s.judgeHot n).sol.length = s.sol.length := by
  obtain he | he | he | he := s.judgeHot_cases n <;> rw [he]
  · rfl
  · rw [State.hotRise_sol]
  · rw [State.toOff_sol_length, State.hotRise_sol]

/-- The flag of another channel stays. -/
theorem State.judgeHot_flag_ne (s : State) {n k : Nat} (hk : k < 4) (h : k ≠ n) : (s.judgeHot n).get SOL_HOT k = s.get SOL_HOT k := by
  have hput : ∀ v, (s.put SOL_HOT v n).get SOL_HOT k = s.get SOL_HOT k := fun v => State.get_put_ne s (Row.key_ne_of_page h _ _) v
  have hrise : (s.hotRise n).get SOL_HOT k = s.get SOL_HOT k := by
    rw [State.hotRise_get s n (by decide) rfl hk, State.raise,
      State.get_put_place _ (by decide), State.get_put_place _ (by decide), hput]
  obtain he | he | he | he := s.judgeHot_cases n <;> rw [he]
  · exact hput 0
  · exact hrise
  · exact (State.toOff_find_place _ n true (by rw [Row.key_mod_page]; decide) _).trans hrise

/-- At its limit a coil is HOT, and below its hysteresis it is not. -/
theorem State.judgeHot_flag (s : State) {n : Nat} (hn : n < 4) :
    ((s.chan n).tc ≥ 16 * s.get SOL_COIL_TLIM n → (s.judgeHot n).get SOL_HOT n ≠ 0) ∧
    ((s.chan n).tc < 16 * s.get SOL_COIL_TLIM n - 16 * (s.get SOL_COIL_THYS n : Nat) → (s.judgeHot n).get SOL_HOT n = 0) := by
  constructor
  · intro ht
    have hrise : (s.hotRise n).get SOL_HOT n ≠ 0 := by
      rw [s.hotRise_hot hn]
      exact Nat.one_ne_zero
    rw [State.judgeHot_hot ht]
    split_ifs with hon
    · exact bne_iff_ne.mp hon
    · have hoff : ((s.hotRise n).toOff n true).get SOL_HOT n = (s.hotRise n).get SOL_HOT n :=
        State.toOff_find_place _ n true (by rw [Row.key_mod_page]; decide) _
      rwa [hoff]
    · exact hrise
  · intro ht
    rw [State.judgeHot_cool ht, State.get_put_same, Nat.zero_mod]

@[simp] theorem State.judgeHot_held {μ δ : Bool} (s : State) (n : Nat) : (s.judgeHot n).held μ δ = s.held μ δ := by
  have hrise : (s.hotRise n).held μ δ = s.held μ δ := by simp (disch := decide) [State.hotRise]
  obtain he | he | he | he := s.judgeHot_cases n <;> rw [he]
  · simp (disch := decide)
  · exact hrise
  · rw [State.toOff_held, hrise]

/-! ### A step of the model (R310, R311) -/

theorem exec_coilModelStep (i0 i1 i2 i3 : Nat) (s : State) : exec (.coilModelStep i0 i1 i2 i3) s = .next (s.coilTick [i0, i1, i2, i3]) := rfl

/-- What the equation of R310 gives for channel `k`: Tc, and what its rounding leaves. -/
def State.coilNow (s : State) (k i2 : Nat) : Int × Int :=
  coilNext (s.chan k).tc (s.chan k).frac s.housing i2 (s.get SOL_COIL_R20 k) (s.get SOL_COIL_RTH k) (s.get SOL_COIL_TAU k)

/-- The fields that the model reads. -/
def coilRows : List Row :=
  [SOL_COIL_R20, SOL_COIL_RTH, SOL_COIL_TAU, SOL_COIL_TLIM, SOL_COIL_THYS, TEMP_AUX_EN, TEMP_THOUS_BAD, TEMP_TS2, TEMP_THOUS]

/-- `t` holds what the model reads of `s`. -/
def State.CoilParams (s t : State) : Prop := ∀ r ∈ coilRows, ∀ n, t.get r n = s.get r n

theorem State.CoilParams.housing {s t : State} (h : s.CoilParams t) : t.housing = s.housing := by
  simp only [State.housing, State.thousBad, State.on, h TEMP_AUX_EN (by decide) 0, h TEMP_THOUS_BAD (by decide) 0, h TEMP_TS2 (by decide) 0,
    h TEMP_THOUS (by decide) 0]
  rfl

/-- `t` holds channel `k`'s coil as `s` does. -/
def State.CoilKept (s t : State) (k : Nat) : Prop :=
  (t.chan k).tc = (s.chan k).tc ∧ (t.chan k).frac = (s.chan k).frac ∧ t.get SOL_HOT k = s.get SOL_HOT k

/-- `t` holds what a step makes of channel `k`'s coil in `s`. -/
def State.CoilStepped (s t : State) (k i2 : Nat) : Prop :=
  (t.chan k).tc = (s.coilNow k i2).1 ∧ (t.chan k).frac = (s.coilNow k i2).2 ∧
    ((t.chan k).tc ≥ 16 * s.get SOL_COIL_TLIM k → t.get SOL_HOT k ≠ 0) ∧
    ((t.chan k).tc < 16 * s.get SOL_COIL_TLIM k - 16 * (s.get SOL_COIL_THYS k : Nat) → t.get SOL_HOT k = 0)

theorem State.CoilParams.coilNow {s t : State} (h : s.CoilParams t) {k : Nat} (hk : s.CoilKept t k) (i2 : Nat) :
    t.coilNow k i2 = s.coilNow k i2 := by
  obtain ⟨htc, hfrac, _⟩ := hk
  simp only [State.coilNow, htc, hfrac, h.housing, h SOL_COIL_R20 (by decide) k, h SOL_COIL_RTH (by decide) k, h SOL_COIL_TAU (by decide) k]

theorem State.CoilStepped.kept {s t u : State} {k i2 : Nat} (h : s.CoilStepped t k i2) (hk : t.CoilKept u k) : s.CoilStepped u k i2 := by
  obtain ⟨htc, hfrac, hhot⟩ := hk
  rwa [State.CoilStepped, htc, hfrac, hhot]

theorem State.CoilStepped.after {s t u : State} {k i2 : Nat} (hp : s.CoilParams t) (hk : s.CoilKept t k) (h : t.CoilStepped u k i2) :
    s.CoilStepped u k i2 := by
  rwa [State.CoilStepped, hp.coilNow hk, hp SOL_COIL_TLIM (by decide) k, hp SOL_COIL_THYS (by decide) k] at h

/-- One channel's step: its own coil, and nothing of the others. -/
theorem State.coilStep_steps (s : State) {n : Nat} (hn : n < 4) (hlen : s.sol.length = 4) (i2 : Nat) :
    (s.coilStep n i2).sol.length = 4 ∧ s.CoilParams (s.coilStep n i2) ∧ s.CoilStepped (s.coilStep n i2) n i2 ∧
      ∀ k < 4, k ≠ n → s.CoilKept (s.coilStep n i2) k := by
  have hstep : s.coilStep n i2 =
      (s.setChan n { s.chan n with tc := (s.coilNow n i2).1, frac := (s.coilNow n i2).2 }).judgeHot n := rfl
  generalize hx : { s.chan n with tc := (s.coilNow n i2).1, frac := (s.coilNow n i2).2 } = x at hstep
  have hchan : (s.setChan n x).chan n = x := State.chan_setChan s n x (by omega)
  obtain ⟨htc, hfrac⟩ := (s.setChan n x).judgeHot_model n n
  have hflag := (s.setChan n x).judgeHot_flag hn
  rw [hchan] at htc hfrac hflag
  have hxtc : x.tc = (s.coilNow n i2).1 := by rw [← hx]
  have hxfrac : x.frac = (s.coilNow n i2).2 := by rw [← hx]
  rw [hstep]
  refine ⟨?_, fun r hr k => ?_, ⟨htc.trans hxtc, hfrac.trans hxfrac, ?_, ?_⟩, fun k hk hne => ?_⟩
  · rw [State.judgeHot_sol_length, State.setChan_sol_length, hlen]
  · have hplace : ∀ r ∈ coilRows, r.key 0 0 % 0x20000 ∉ hotPlaces ∧ r.key 0 0 % 0x20000 ∉ logCountKeys.map (· % 0x20000) ∧
        r.key 0 0 % 0x20000 < 0x10000 := by decide
    obtain ⟨hhot, hlog, hlow⟩ := hplace r hr
    rw [← Row.key_mod_page r k 0] at hhot hlog hlow
    exact (s.setChan n x).judgeHot_find n hhot hlog hlow _
  · rw [htc]
    exact hflag.1
  · rw [htc]
    exact hflag.2
  · obtain ⟨hktc, hkfrac⟩ := (s.setChan n x).judgeHot_model n k
    rw [State.chan_setChan_ne s hne] at hktc hkfrac
    exact ⟨hktc, hkfrac, (s.setChan n x).judgeHot_flag_ne hk hne⟩

/-- The steps of the channels of a list. -/
def State.coilSteps (s : State) (i2 : Nat → Nat) (l : List Nat) : State := l.foldl (fun s n => s.coilStep n (i2 n)) s

theorem State.coilSteps_steps (s : State) (i2 : Nat → Nat) {l : List Nat} (hl : ∀ k ∈ l, k < 4) (hnd : l.Nodup) (hlen : s.sol.length = 4) :
    (∀ k ∈ l, s.CoilStepped (s.coilSteps i2 l) k (i2 k)) ∧ ∀ k < 4, k ∉ l → s.CoilKept (s.coilSteps i2 l) k := by
  induction l generalizing s with
  | nil => exact ⟨fun k hk => absurd hk List.not_mem_nil, fun k _ _ => ⟨rfl, rfl, rfl⟩⟩
  | cons n l ih =>
    obtain ⟨hn, hnd⟩ := List.nodup_cons.mp hnd
    obtain ⟨hlen', hparams, hstepped, hkept⟩ := s.coilStep_steps (hl n (.head _)) hlen (i2 n)
    obtain ⟨hrest, hothers⟩ := ih (s.coilStep n (i2 n)) (fun k hk => hl k (.tail _ hk)) hnd hlen'
    refine ⟨fun k hk => ?_, fun k hk hout => ?_⟩
    · by_cases hkn : k = n
      · subst hkn
        exact hstepped.kept (hothers k (hl k (.head _)) hn)
      · have hkl : k ∈ l := (List.mem_cons.mp hk).resolve_left hkn
        exact (hrest k hkl).after hparams (hkept k (hl k hk) hkn)
    · obtain ⟨hkn, hkl⟩ := not_or.mp (fun h => hout (List.mem_cons.mpr h))
      obtain ⟨htc, hfrac, hhot⟩ := hkept k hk hkn
      obtain ⟨htc', hfrac', hhot'⟩ := hothers k hk hkl
      exact ⟨htc'.trans htc, hfrac'.trans hfrac, hhot'.trans hhot⟩

theorem State.coilTick_idle {s : State} (h : 3 ≤ s.yard.pstate) (i2 : List Nat) : s.coilTick i2 = s := if_pos (.inl h)

theorem State.coilTick_eq {s : State} (h : s.yard.pstate < 3) (hlen : s.sol.length = 4) (i2 : List Nat) :
    s.coilTick i2 = s.coilSteps (i2.getD · 0) (List.range 4) := by
  have hne : s.sol.isEmpty = false := by
    rw [← Bool.not_eq_true, List.isEmpty_iff_length_eq_zero, hlen]
    decide
  exact if_neg (by simp [hne, h])

theorem State.coilSteps_held {μ δ : Bool} (s : State) (i2 : Nat → Nat) (l : List Nat) : (s.coilSteps i2 l).held μ δ = s.held μ δ :=
  foldl_held l _ (fun t n _ => (State.judgeHot_held _ n).trans (t.setChan_held n _)) s

end Sys2Proof.Machine
end

section
/-! O35: the current check, the verdicts that latch a channel, and FAULT_CLR. -/

namespace Sys2Proof.Machine

open Sys2Proof

/-! ### A verdict latches a channel (R289, R325) -/

/-- Channel `n` is off without a watch, with the verdict, its interrupt and its entry. -/
def State.latched (s : State) (n v : Nat) : State :=
  ((((s.chanOff n).setChan n { (s.chanOff n).chan n with watch := false }).put SOL_LATCH v n).raise (solPage n) 2).event (solEvent n 0x10) v

/-- A sense failure puts the coil at its limit and begins the inhibit time (R311, R325). -/
def State.senseFailed (s : State) (n : Nat) : State :=
  (s.setChan n { s.chan n with tc := 16 * s.get SOL_COIL_TLIM n, frac := 0 }).put SOL_INHIBIT_END
    (s.get YARD_SECONDS + (s.get SOL_COIL_TAU n + 1) / 2) n

theorem State.latched_sol (s : State) (n v : Nat) :
    (s.latched n v).sol = ((s.chanOff n).setChan n { (s.chanOff n).chan n with watch := false }).sol := by
  rw [State.latched, State.event_sol, State.raise_sol, State.put_sol]

theorem State.latch_eq (s : State) (n v : Nat) :
    s.latch n v = if v = 2 then ((s.latched n v).senseFailed n).judgeHot n else s.latched n v := rfl

/-- What every latch leaves channel `n` in. -/
def State.LatchedOff (s : State) (n v : Nat) : Prop :=
  s.channelOff n ∧ (s.chan n).watch = false ∧ s.get SOL_LATCH n = v ∧ bitAt (s.get HDR_INT_RAW (solPage n)) 1 = true

theorem State.LatchedOff.of {s t : State} {n v : Nat} (h : s.LatchedOff n v)
    (hchan : (t.chan n).sw = (s.chan n).sw ∧ (t.chan n).started = (s.chan n).started ∧ (t.chan n).watch = (s.chan n).watch)
    (hget : ∀ r ∈ [SOL_PHASE, SOL_PENDING, SOL_LATCH], t.get r n = s.get r n)
    (hint : t.get HDR_INT_RAW (solPage n) = s.get HDR_INT_RAW (solPage n)) : t.LatchedOff n v := by
  obtain ⟨hsw, hst, hwatch⟩ := hchan
  rwa [State.LatchedOff, State.channelOff, hsw, hst, hwatch, hget SOL_PHASE (by decide), hget SOL_PENDING (by decide),
    hget SOL_LATCH (by decide), hint]

/-- The interrupt causes of a channel are not the log's. -/
theorem State.event_get_int (s : State) (code data : Nat) {n : Nat} (hn : n < 4) :
    (s.event code data).get HDR_INT_RAW (solPage n) = s.get HDR_INT_RAW (solPage n) :=
  State.event_get_page s code data (by decide) (by change 0 + (0x060 + n) ≠ 6; omega) (by change 0 + (0x060 + n) ≠ 0x74; omega)

theorem State.event_get_sol (s : State) (code data : Nat) {r : Row} (hr : r.offset 0 + r.lo / 8 < 0x1000) (h60 : r.page = 0x060) {n : Nat}
    (hn : n < 4) : (s.event code data).get r n = s.get r n :=
  State.event_get_page s code data hr (by omega) (by omega)

theorem State.latched_off (s : State) {n v : Nat} (hn : n < 4) (hlen : s.sol.length = 4) (hv : v < 4) : (s.latched n v).LatchedOff n v := by
  have hn' : n < s.sol.length := by omega
  obtain ⟨hsw, hst, hphase, hpend⟩ := s.chanOff_off hn'
  have hchan : (s.latched n v).chan n = { (s.chanOff n).chan n with watch := false } :=
    (State.chan_of_sol (s.latched_sol n v) n).trans (State.chan_setChan _ n _ (by rwa [State.chanOff_sol_length]))
  refine ⟨⟨?_, ?_, ?_, ?_⟩, ?_, ?_, ?_⟩
  · rw [hchan]
    exact hsw
  · rw [hchan]
    exact hst
  · rw [State.latched, State.event_get_sol _ _ _ (by decide) rfl hn, State.raise, State.get_put_place _ (by decide),
      State.get_put_place _ (by decide)]
    exact hphase
  · rw [State.latched, State.event_get_sol _ _ _ (by decide) rfl hn, State.raise, State.get_put_place _ (by decide),
      State.get_put_place _ (by decide)]
    exact hpend
  · rw [hchan]
  · rw [State.latched, State.event_get_sol _ _ _ (by decide) rfl hn, State.raise, State.get_put_place _ (by decide), State.get_put_same]
    exact Nat.mod_eq_of_lt hv
  · rw [State.latched, State.event_get_int _ _ _ hn]
    exact State.raise_bitAt _ _ (b := 1) (by decide)

theorem State.latched_chan_ne (s : State) {n k : Nat} (h : k ≠ n) (v : Nat) : (s.latched n v).chan k = s.chan k :=
  (State.chan_of_sol (s.latched_sol n v) k).trans ((State.chan_setChan_ne _ h _).trans (s.chanOff_chan_ne h))

theorem State.latched_sol_length (s : State) (n v : Nat) : (s.latched n v).sol.length = s.sol.length := by
  rw [State.latched_sol, State.setChan_sol_length, State.chanOff_sol_length]

/-- What a latch leaves besides. -/
theorem State.latched_find (s : State) (n v : Nat) {k : Nat} (h : k % 0x20000 ∉ SOL_LATCH.key 0 0 % 0x20000 :: offPlaces)
    (hlog : k % 0x20000 ∉ logCountKeys.map (· % 0x20000)) (hlow : k % 0x20000 < 0x10000) (d : Nat) :
    (s.latched n v).regs.find k d = s.regs.find k d := by
  obtain ⟨hlatch, hoff⟩ := not_or.mp (fun hm => h (List.mem_cons.mpr hm))
  have hint : k % 0x20000 ≠ HDR_INT_RAW.key 0 0 % 0x20000 := fun he => hoff (by rw [he]; decide)
  exact (State.event_find_place _ _ _ hlog hlow d).trans ((State.put_find_place _ hint _ _ d).trans
    ((State.put_find_place _ hlatch _ _ d).trans (s.chanOff_find n hoff d)))

theorem State.latched_get (s : State) (n v : Nat) {r : Row} (k : Nat)
    (h : r.key 0 0 % 0x20000 ∉ SOL_LATCH.key 0 0 % 0x20000 :: offPlaces ∧ r.key 0 0 % 0x20000 ∉ logCountKeys.map (· % 0x20000) ∧
      r.key 0 0 % 0x20000 < 0x10000) : (s.latched n v).get r k = s.get r k := by
  rw [← Row.key_mod_page r k 0] at h
  obtain ⟨hplace, hlog, hlow⟩ := h
  exact s.latched_find n v hplace hlog hlow _

theorem State.coreOn_of_get {s t : State} (h : t.get YARD_PD_STATE = s.get YARD_PD_STATE) : t.coreOn = s.coreOn := by
  unfold State.coreOn State.pd
  rw [h]

theorem State.latched_lastEvent {s : State} (hon : s.coreOn = true) {n v : Nat} (hn : n < 4) (hv : v < 4) :
    (s.latched n v).lastEvent (solEvent n 0x10) v = true := by
  refine State.lastEvent_event ((State.coreOn_of_get ?_).trans hon) (by unfold solEvent; omega) (by omega)
  rw [State.raise, State.get_put_place _ (by decide), State.get_put_place _ (by decide)]
  exact s.chanOff_find n (by decide) _

/-! ### A sense failure (R311, R325) -/

theorem State.senseFailed_chan (s : State) {n : Nat} (hn : n < s.sol.length) :
    (s.senseFailed n).chan n = { s.chan n with tc := 16 * s.get SOL_COIL_TLIM n, frac := 0 } := State.chan_setChan s n _ hn

theorem State.senseFailed_get (s : State) (n : Nat) {r : Row} (k : Nat) (h : r.key 0 0 % 0x20000 ≠ SOL_INHIBIT_END.key 0 0 % 0x20000) :
    (s.senseFailed n).get r k = s.get r k := State.get_put_place _ h _ _ _

theorem State.senseFailed_off {s : State} {n v : Nat} (hn : n < s.sol.length) (h : s.LatchedOff n v) : (s.senseFailed n).LatchedOff n v := by
  refine h.of ?_ (fun r hr => ?_) (s.senseFailed_get n _ (by decide))
  · rw [State.senseFailed_chan s hn]
    exact ⟨rfl, rfl, rfl⟩
  · have hplace : ∀ r ∈ [SOL_PHASE, SOL_PENDING, SOL_LATCH], r.key 0 0 % 0x20000 ≠ SOL_INHIBIT_END.key 0 0 % 0x20000 := by decide
    exact s.senseFailed_get n _ (hplace r hr)

theorem State.hotRise_off {s : State} {n v : Nat} (hn : n < 4) (h : s.LatchedOff n v) : (s.hotRise n).LatchedOff n v := by
  obtain ⟨⟨hsw, hst, hphase, _⟩, hwatch, hlatch, hbit⟩ := h
  have hput : ∀ r : Row, r.offset 0 + r.lo / 8 < 0x1000 → r.page = 0x060 → r.key 0 0 % 0x20000 ≠ HDR_INT_RAW.key 0 0 % 0x20000 →
      (s.hotRise n).get r n = ((s.put SOL_HOT 1 n).put SOL_PENDING 0 n).get r n := fun r hr h60 hne =>
    (s.hotRise_get n hr h60 hn).trans (State.get_put_place _ hne _ _ _)
  have hkeep : ∀ r : Row, r.offset 0 + r.lo / 8 < 0x1000 → r.page = 0x060 → r.key 0 0 % 0x20000 ≠ HDR_INT_RAW.key 0 0 % 0x20000 →
      r.key 0 0 % 0x20000 ≠ SOL_HOT.key 0 0 % 0x20000 → r.key 0 0 % 0x20000 ≠ SOL_PENDING.key 0 0 % 0x20000 →
      (s.hotRise n).get r n = s.get r n := fun r hr h60 hne hhot hpending =>
    (hput r hr h60 hne).trans ((State.get_put_place _ hpending _ _ _).trans (State.get_put_place _ hhot _ _ _))
  have hpend' : (s.hotRise n).get SOL_PENDING n = 0 := by
    rw [hput _ (by decide) rfl (by decide), State.get_put_same, Nat.zero_mod]
  have hbit' : bitAt ((s.hotRise n).get HDR_INT_RAW (solPage n)) 1 = true := by
    rw [State.hotRise, State.event_get_int _ _ _ hn]
    refine State.raise_bitAt_keep (by decide) ?_ _ _
    rwa [State.get_put_place _ (by decide), State.get_put_place _ (by decide)]
  have hchan := State.chan_of_sol (s.hotRise_sol n) n
  exact ⟨⟨by rw [hchan, hsw], by rw [hchan, hst], (hkeep SOL_PHASE (by decide) rfl (by decide) (by decide) (by decide)).trans hphase, hpend'⟩,
    by rw [hchan, hwatch], (hkeep SOL_LATCH (by decide) rfl (by decide) (by decide) (by decide)).trans hlatch, hbit'⟩

/-- The coil is then at its limit, so that its channel is HOT; its phase is OFF. -/
theorem State.senseFailed_judged {s : State} {n v : Nat} (hn : n < 4) (hlen : n < s.sol.length) (h : s.LatchedOff n v) :
    (s.senseFailed n).judgeHot n = if s.on SOL_HOT n then s.senseFailed n else (s.senseFailed n).hotRise n := by
  have htc : ((s.senseFailed n).chan n).tc ≥ 16 * (s.senseFailed n).get SOL_COIL_TLIM n := by
    rw [State.senseFailed_chan s hlen, s.senseFailed_get n n (by decide)]
  have hon : (s.senseFailed n).on SOL_HOT n = s.on SOL_HOT n := congrArg (· != 0) (s.senseFailed_get n n (by decide))
  obtain ⟨⟨_, _, hphase, _⟩, _⟩ := State.hotRise_off hn (State.senseFailed_off hlen h)
  rw [State.judgeHot_hot htc, hon, hphase, if_neg (by decide : ¬0 = 3)]

/-! ### The latch (R289, R325) -/

theorem State.latch_of_verdict {s : State} {n v : Nat} (hv : v ≠ 2) : s.latch n v = s.latched n v := if_neg hv

/-- A sense failure, after the latch that every verdict gives. -/
theorem State.latch_senseFailed {s : State} {n : Nat} (hn : n < 4) (hlen : s.sol.length = 4) :
    s.latch n 2 = if s.on SOL_HOT n then (s.latched n 2).senseFailed n else ((s.latched n 2).senseFailed n).hotRise n := by
  have hhot : (s.latched n 2).on SOL_HOT n = s.on SOL_HOT n := congrArg (· != 0) (s.latched_get n 2 n (by decide))
  have hjudged := State.senseFailed_judged hn (by rw [s.latched_sol_length]; omega) (s.latched_off hn hlen (v := 2) (by decide))
  rw [hhot] at hjudged
  exact hjudged

/-- What the verdicts leave channel `n` in. -/
theorem State.latch_off {s : State} {n v : Nat} (hn : n < 4) (hlen : s.sol.length = 4) (hv : v < 4) : (s.latch n v).LatchedOff n v := by
  have hoff := s.latched_off hn hlen hv
  by_cases h2 : v = 2
  · subst h2
    have hfailed := State.senseFailed_off (by rw [s.latched_sol_length]; omega) hoff
    rw [State.latch_senseFailed hn hlen]
    split
    · exact hfailed
    · exact State.hotRise_off hn hfailed
  · rwa [State.latch_of_verdict h2]

theorem State.latch_sol (s : State) {n v : Nat} (hn : n < 4) (hlen : s.sol.length = 4) :
    (s.latch n v).sol = if v = 2 then ((s.latched n v).senseFailed n).sol else (s.latched n v).sol := by
  by_cases h2 : v = 2
  · subst h2
    rw [State.latch_senseFailed hn hlen, if_pos rfl]
    split
    · rfl
    · exact State.hotRise_sol ..
  · rw [State.latch_of_verdict h2, if_neg h2]

theorem State.latch_sol_length {s : State} {n v : Nat} (hn : n < 4) (hlen : s.sol.length = 4) : (s.latch n v).sol.length = 4 := by
  rw [s.latch_sol hn hlen]
  split
  · exact (State.setChan_sol_length ..).trans ((s.latched_sol_length n v).trans hlen)
  · exact (s.latched_sol_length n v).trans hlen

theorem State.latch_chan_ne {s : State} {n v k : Nat} (hn : n < 4) (hlen : s.sol.length = 4) (h : k ≠ n) : (s.latch n v).chan k = s.chan k := by
  have hlatched := s.latched_chan_ne h v
  have hsol := s.latch_sol (v := v) hn hlen
  split at hsol
  · exact (State.chan_of_sol hsol k).trans ((State.chan_setChan_ne _ h _).trans hlatched)
  · exact (State.chan_of_sol hsol k).trans hlatched

/-- Where SHUT is enabled stays. -/
theorem State.latch_get {s : State} {n : Nat} (hn : n < 4) (hlen : s.sol.length = 4) (v : Nat) {r : Row} (k : Nat)
    (h : r.key 0 0 % 0x20000 ∉ SOL_LATCH.key 0 0 % 0x20000 :: SOL_INHIBIT_END.key 0 0 % 0x20000 :: hotPlaces ∧
      r.key 0 0 % 0x20000 ∉ logCountKeys.map (· % 0x20000) ∧ r.key 0 0 % 0x20000 < 0x10000) : (s.latch n v).get r k = s.get r k := by
  obtain ⟨hplace, hlog, hlow⟩ := h
  simp only [List.mem_cons, hotPlaces, not_or] at hplace
  obtain ⟨hlatch, hinhibit, hhot, hoff⟩ := hplace
  have hlatched : (s.latched n v).get r k = s.get r k :=
    s.latched_get n v k ⟨fun hm => (List.mem_cons.mp hm).elim hlatch hoff, hlog, hlow⟩
  by_cases h2 : v = 2
  · subst h2
    have hfailed : ((s.latched n 2).senseFailed n).get r k = s.get r k := ((s.latched n 2).senseFailed_get n k hinhibit).trans hlatched
    rw [State.latch_senseFailed hn hlen]
    split
    · exact hfailed
    · refine (State.hotRise_find _ n ?_ ?_ ?_ _).trans hfailed <;> rw [Row.key_mod_page]
      · exact fun hm => (List.mem_cons.mp hm).elim hhot hoff
      · exact hlog
      · exact hlow
  · rw [State.latch_of_verdict h2, hlatched]

/-- The entry of a verdict is the newest, where the coil does not become HOT with it. -/
theorem State.latch_lastEvent {s : State} (hon : s.coreOn = true) {n v : Nat} (hn : n < 4) (hlen : s.sol.length = 4) (hv : v < 4)
    (h : v = 2 → s.get SOL_HOT n ≠ 0) : (s.latch n v).lastEvent (solEvent n 0x10) v = true := by
  have hlast := State.latched_lastEvent hon hn hv
  by_cases h2 : v = 2
  · subst h2
    have hput : ∀ r ∈ [EVT_TOTAL, YARD_SECONDS], ((s.latched n 2).senseFailed n).get r = (s.latched n 2).get r := fun r hr => by
      have hplace : ∀ r ∈ [EVT_TOTAL, YARD_SECONDS], r.key 0 0 % 0x20000 ≠ SOL_INHIBIT_END.key 0 0 % 0x20000 := by decide
      exact State.senseFailed_get _ n 0 (hplace r hr)
    have hslot : ∀ r ∈ ringRows, ∀ i, ((s.latched n 2).senseFailed n).get r 0 i = (s.latched n 2).get r 0 i := fun r hr i => by
      refine State.put_find_place _ (fun he => ?_) _ _ _
      have hring := inRing_slot hr i
      have hlow : SOL_INHIBIT_END.key 0 0 % 0x20000 < 0x10000 := by decide
      simp only [InRing] at hring
      omega
    have hhot : s.on SOL_HOT n = true := bne_iff_ne.mpr (h rfl)
    rw [State.latch_senseFailed hn hlen, if_pos hhot, ← hlast]
    simp only [State.lastEvent, hput EVT_TOTAL (by decide), hput YARD_SECONDS (by decide), hslot EVT_CODE (by decide), hslot EVT_DATA (by decide),
      hslot EVT_TS (by decide)]
  · rwa [State.latch_of_verdict h2]

/-- What a sense failure writes besides (R311, R325). -/
theorem State.latch_failed {s : State} {n : Nat} (hn : n < 4) (hlen : s.sol.length = 4) :
    ((s.latch n 2).chan n).tc = 16 * s.get SOL_COIL_TLIM n ∧ (s.latch n 2).get SOL_HOT n ≠ 0 ∧
      (s.latch n 2).get SOL_INHIBIT_END n = (s.get YARD_SECONDS + (s.get SOL_COIL_TAU n + 1) / 2) % 2 ^ SOL_INHIBIT_END.wid := by
  have hlim := s.latched_get n 2 (r := SOL_COIL_TLIM) n (by decide)
  have htau := s.latched_get n 2 (r := SOL_COIL_TAU) n (by decide)
  have hsec := s.latched_get n 2 (r := YARD_SECONDS) 0 (by decide)
  have hhot := s.latched_get n 2 (r := SOL_HOT) n (by decide)
  have hchan := (s.latched n 2).senseFailed_chan (n := n) (by rw [s.latched_sol_length]; omega)
  have hinhibit : ((s.latched n 2).senseFailed n).get SOL_INHIBIT_END n =
      (s.get YARD_SECONDS + (s.get SOL_COIL_TAU n + 1) / 2) % 2 ^ SOL_INHIBIT_END.wid := by
    rw [State.senseFailed, State.get_put_same, hsec, htau]
  refine ⟨?_, ?_, ?_⟩
  · have hsol := s.latch_sol (v := 2) hn hlen
    rw [if_pos rfl] at hsol
    rw [State.chan_of_sol hsol n, hchan, hlim]
  · rw [State.latch_senseFailed hn hlen]
    split
    next hon =>
      rw [State.senseFailed_get _ n n (by decide), hhot]
      exact bne_iff_ne.mp hon
    next =>
      rw [State.hotRise_hot _ hn]
      exact Nat.one_ne_zero
  · rw [State.latch_senseFailed hn hlen]
    split
    next => exact hinhibit
    next =>
      refine Eq.trans (State.hotRise_find _ n ?_ ?_ ?_ _) hinhibit <;> rw [Row.key_mod_page] <;> decide

@[simp] theorem State.latch_held {μ δ : Bool} (s : State) (n v : Nat) : (s.latch n v).held μ δ = s.held μ δ := by
  have hlatched : (s.latched n v).held μ δ = s.held μ δ := by simp (disch := decide) [State.latched]
  rw [State.latch_eq]
  split
  · simp (disch := decide) [State.senseFailed, hlatched]
  · exact hlatched

/-! ### The latch of a shutter channel (R289) -/

theorem State.latchIn_apart {s : State} {n v : Nat} (hn : n < 4) (hlen : s.sol.length = 4)
    (h : s.shutChans.contains n = false ∨ s.get HDR_EN 0x065 = 0) : s.latchIn n v = s.latch n v := by
  unfold State.latchIn
  obtain h | h := h
  · rw [h]
    rfl
  · have hen : (s.latch n v).get HDR_EN 0x065 ≠ 1 := by
      rw [State.latch_get hn hlen v 0x065 (by decide), h]
      decide
    simp only [State.shutLost_of_off hen, ite_self]

theorem State.latchIn_shut {s : State} {n v : Nat} (h : s.shutChans.contains n = true) : s.latchIn n v = (s.latch n v).shutLost 3 := if_pos h

@[simp] theorem State.latchIn_held {μ δ : Bool} (s : State) (n v : Nat) : (s.latchIn n v).held μ δ = s.held μ δ := by
  unfold State.latchIn
  simp

theorem State.latchIn_sameMemory (s : State) (n v : Nat) : s.SameMemory (s.latchIn n v) :=
  State.sameMemory_of_held (δ := false) (by rw [State.latchIn_held])

/-- What the latch of a shutter channel does where SHUT is enabled. -/
theorem State.latchIn_faults {s : State} {n v : Nat} (hn : n < 4) (hlen : s.sol.length = 4) (hv : v < 4)
    (h : s.shutChans.contains n = true) (hen : s.get HDR_EN 0x065 = 1) :
    (s.latchIn n v).get SOL_LATCH n = v ∧ ((s.latchIn n v).chan n).sw = 0 ∧ ((s.latchIn n v).chan n).watch = false ∧
      (s.latchIn n v).get SOL_PHASE n = 0 ∧ (s.latchIn n v).get SHUT_FAULTED ≠ 0 ∧ (s.latchIn n v).nuc.form = 0 := by
  obtain ⟨hoff, hwatch, hlatch, _⟩ := State.latch_off hn hlen hv
  have hen' : (s.latch n v).get HDR_EN 0x065 = 1 := by rw [State.latch_get hn hlen v 0x065 (by decide), hen]
  obtain ⟨hfault, hform⟩ := State.shutLost_faults hen' 3
  obtain ⟨hsw, _, hphase, _⟩ := State.shutLost_keep 3 (by rw [State.latch_sol_length hn hlen]; exact hn) hoff hn
  rw [State.latchIn_shut h]
  refine ⟨?_, hsw, ?_, hphase, hfault, hform⟩
  · exact (State.shutLost_get_sol _ 3 (by decide) (by decide) rfl hn).trans hlatch
  · exact (State.shutLost_watch ..).trans hwatch

/-! ### The obligation -/

theorem exec_currentCheckFire (n : Fin 4) (s : State) : exec (.currentCheckFire n) s = .next (s.currentCheck n.val) := rfl

theorem exec_solLatch (n : Fin 4) (conducts : Bool) (s : State) : exec (.solLatch n conducts) s = .next (s.watchEnd n.val conducts) := rfl

theorem exec_overcurrentLimit (n : Fin 4) (s : State) : exec (.overcurrentLimit n) s = .next (s.overcurrent n.val) := rfl

theorem exec_solFaultClr (m : Master) (n : Fin 4) (s : State) : exec (.solFaultClr m n) s = .next (s.command m.num (solPage n.val) 0x098 2) := rfl

theorem State.watchEnd_watched {s : State} {n : Nat} (h : (s.chan n).watch = true) (conducts : Bool) :
    s.watchEnd n conducts = s.latchIn n (if conducts then 2 else 1) := if_pos h

theorem State.overcurrent_on {s : State} {n : Nat} (h : (s.chan n).sw ≠ 0) : s.overcurrent n = s.latchIn n 3 := if_pos h

/-- Settles O35: one rule for the latch that all verdicts share, what a sense failure adds to it, and the fault of the shutter that follows. -/
theorem actuatorFaults : Obligations.ActuatorFaults := by
  unfold Obligations.ActuatorFaults
  refine ⟨?check, ?noCheck, ?latch, ?shutLatch, ?noWatch, ?overcurrent, ?shutOvercurrent, ?noCurrent, ?clear⟩
  case check =>
    intro n s _ hsw hdet
    rw [exec_currentCheckFire]
    exact congrArg Host.Outcome.next (if_pos ⟨hsw, hdet⟩)
  case noCheck =>
    intro n s h
    rw [exec_currentCheckFire]
    exact congrArg Host.Outcome.next (if_neg fun ⟨hsw, hdet⟩ => h.elim hsw hdet)
  case latch =>
    intro n conducts s hlen hwatch hon hapart
    have hv : (if conducts then 2 else 1) < 4 := by cases conducts <;> decide
    obtain ⟨⟨hsw, _, hphase, hpend⟩, hunwatched, hlatch, hbit⟩ := State.latch_off n.isLt hlen hv
    refine ⟨_, by rw [exec_solLatch, State.watchEnd_watched hwatch], ?_⟩
    have hmem := s.latchIn_sameMemory n.val (if conducts then 2 else 1)
    rw [State.latchIn_apart n.isLt hlen hapart] at hmem ⊢
    refine ⟨hlatch, hsw, hunwatched, hphase, hpend, hbit, fun h => ?_, fun k _ hk => State.latch_chan_ne n.isLt hlen hk, fun h => ?_, hmem⟩
    · refine State.latch_lastEvent hon n.isLt hlen hv fun h2 => h.resolve_left fun hc => ?_
      rw [hc] at h2
      exact absurd h2 (by decide)
    · rw [h]
      exact State.latch_failed n.isLt hlen
  case shutLatch =>
    intro n conducts s hlen hwatch hshut hen
    have hv : (if conducts then 2 else 1) < 4 := by cases conducts <;> decide
    obtain ⟨hlatch, hsw, hunwatched, hphase, hfault, hform⟩ := State.latchIn_faults n.isLt hlen hv hshut hen
    exact ⟨_, by rw [exec_solLatch, State.watchEnd_watched hwatch], hlatch, hsw, hunwatched, hphase, hfault, hform, s.latchIn_sameMemory ..⟩
  case noWatch =>
    intro n conducts s h
    rw [exec_solLatch]
    exact congrArg Host.Outcome.next (if_neg (by rw [h]; exact Bool.false_ne_true))
  case overcurrent =>
    intro n s hlen hsw hon hapart
    obtain ⟨⟨hsw', _, hphase, hpend⟩, _, hlatch, _⟩ := State.latch_off (v := 3) n.isLt hlen (by decide)
    refine ⟨_, by rw [exec_overcurrentLimit, State.overcurrent_on hsw], ?_⟩
    have hmem := s.latchIn_sameMemory n.val 3
    rw [State.latchIn_apart n.isLt hlen hapart] at hmem ⊢
    exact ⟨hlatch, hsw', hphase, hpend, State.latch_lastEvent hon n.isLt hlen (by decide) fun h => absurd h (by decide),
      fun k _ hk => State.latch_chan_ne n.isLt hlen hk, hmem⟩
  case shutOvercurrent =>
    intro n s hlen hsw hshut hen
    obtain ⟨hlatch, hsw', _, hphase, hfault, hform⟩ := State.latchIn_faults (v := 3) n.isLt hlen (by decide) hshut hen
    exact ⟨_, by rw [exec_overcurrentLimit, State.overcurrent_on hsw], hlatch, hsw', hphase, hfault, hform, s.latchIn_sameMemory ..⟩
  case noCurrent =>
    intro n s h
    rw [exec_overcurrentLimit]
    exact congrArg Host.Outcome.next (if_neg (not_not.mpr h))
  case clear =>
    intro m n s ha
    have hcmd := State.command_strobes ha (wordRows_solClr n) (by decide)
    rw [State.blockAct_solFaultClr] at hcmd
    refine ⟨_, by rw [exec_solFaultClr, hcmd], ?_, ?_, ?_, ?_⟩
    · rw [State.noteCode_ok_get _ _ (Nat.le_trans (by decide) (Nat.le_add_right ..)), State.get_put_same, Nat.zero_mod]
    · rw [State.noteCode_ok_sol]
      rfl
    · exact State.SameBut.noteOk ((s.rewritten_sameBut _ _ _ _).trans (State.sameBut_put_key _ (.head _) _)) m.num
    · refine State.sameMemory_trans (State.sameMemory_of_held (δ := false) ?_) (State.noteCode_sameMemory ..)
      rw [State.put_held_page _ _ _ _ (by decide), State.rewritten_held]

end Sys2Proof.Machine
end

section
/-! O34: TRIP_N acts, the clears of a trip, and the step of the coil model. -/

namespace Sys2Proof.Machine

open Sys2Proof

/-! ### TRIP_N itself is kept apart (R321, R328) -/

@[simp] theorem State.event_solc (s : State) (code data : Nat) : (s.event code data).solc = s.solc := by
  rw [(s.event_logsOnly code data).1]

@[simp] theorem State.inc_sol (s : State) (r : Row) (n i : Nat) : (s.inc r n i).sol = s.sol := rfl

@[simp] theorem State.inc_solc (s : State) (r : Row) (n i : Nat) : (s.inc r n i).solc = s.solc := rfl

@[simp] theorem State.releaseRail_solc (s : State) (n : Nat) : (s.releaseRail n).solc = s.solc := by
  unfold State.releaseRail
  split <;> rfl

@[simp] theorem State.chanOff_solc (s : State) (n : Nat) : (s.chanOff n).solc = s.solc := by
  unfold State.chanOff State.toOff
  extract_lets _ t _ _ u
  rw [State.releaseRail_solc]
  change t.solc = s.solc
  unfold t
  split <;> rfl

@[simp] theorem State.offAll_solc (s : State) (l : List Nat) : (s.offAll l).solc = s.solc :=
  foldl_keeps (P := fun t : State => t.solc = s.solc) (fun t n ht => (t.chanOff_solc n).trans ht) l rfl

@[simp] theorem State.tripMarks_solc (s : State) (l : List Nat) : (s.tripMarks l).solc = s.solc :=
  foldl_keeps (P := fun t : State => t.solc = s.solc) (f := State.tripMark) (fun _ _ ht => ht) l rfl

@[simp] theorem State.tripAct_solc (s : State) : s.tripAct.solc = s.solc := by
  obtain ⟨data, ht⟩ := s.tripAct_eq
  rw [ht, State.event_solc, State.inc_solc, State.put_solc, State.tripOff, State.tripMarks_solc, State.actuatorsOff_eq, State.put_solc,
    State.put_solc, State.offAll_solc]

@[simp] theorem State.shutLost_solc (s : State) (cause : Nat) : (s.shutLost cause).solc = s.solc := by
  have hcut : ∀ t : State, t.closureCut.solc = t.solc := fun t => by
    unfold State.closureCut
    split
    next => rfl
    next => exact State.event_solc ..
  unfold State.shutLost
  split
  next =>
    rw [hcut]
    cases h : s.on SHUT_FAULTED
    · rw [State.shutFault_of_sound h]
      exact (State.event_solc ..).trans (s.offAll_solc _)
    · rw [State.shutFault_of_faulted h]
  next => rfl

/-! ### What a trip writes (R289, R319, R321, R322) -/

/-- TRIP_N has fallen. -/
def State.tripFallen (s : State) : State := { s with solc := { s.solc with tripLow := true, tripRecent := false } }

theorem State.trip_on {s : State} (h : s.pd 8 = 2 ∨ s.pd 8 = 3) : s.trip = s.tripFallen.tripAct := if_pos h

theorem State.shutChans_ne_nil (s : State) : s.shutChans.isEmpty = false := by
  unfold State.shutChans
  split <;> rfl

theorem State.tripAll_on {s : State} (h : s.pd 8 = 2 ∨ s.pd 8 = 3) : s.tripAll = s.tripFallen.tripAct.shutLost 4 := by
  unfold State.tripAll
  simp only [State.trip_on h, State.shutChans_ne_nil, Bool.not_false, and_true]
  exact if_pos h

theorem State.tripAll_off {s : State} (h2 : s.pd 8 ≠ 2) (h3 : s.pd 8 ≠ 3) : s.tripAll = s.tripFallen := by
  have hoff : ¬(s.pd 8 = 2 ∨ s.pd 8 = 3) := fun h => h.elim h2 h3
  unfold State.tripAll
  rw [if_neg fun h => hoff h.1]
  exact if_neg hoff

/-- A field of the actuators' pages that BOOST's record of the trip leaves. -/
theorem State.tripAct_get (s : State) {r : Row} {k : Nat} (hr : r.offset 0 + r.lo / 8 < 0x1000) (hlo : 0x060 ≤ r.page + k)
    (hhi : r.page + k < 0x070) (h : r.key 0 0 % 0x20000 ∉ [BOOST_TRIP_STICKY, BOOST_TRIPS].map (Row.key · 0 0 % 0x20000)) :
    s.tripAct.get r k = s.tripOff.get r k := by
  simp only [List.map_cons, List.map_nil, List.mem_cons, List.not_mem_nil, or_false, not_or] at h
  obtain ⟨data, ht⟩ := s.tripAct_eq
  rw [ht, State.event_get_page _ _ _ hr (by omega) (by omega)]
  exact (State.get_put_place _ h.2 _ _ _).trans (State.get_put_place _ h.1 _ _ _)

theorem State.tripAct_sol (s : State) : s.tripAct.sol = s.tripOff.sol := by
  obtain ⟨data, ht⟩ := s.tripAct_eq
  rw [ht, State.event_sol, State.inc_sol, State.put_sol]

theorem State.tripAct_tripped {s : State} (hlen : s.sol.length = 4) : s.tripAct.sol.length = 4 ∧ ∀ k < 4, s.tripAct.channelTripped k := by
  obtain ⟨hsol, htripped⟩ := State.tripOff_tripped hlen
  refine ⟨by rw [State.tripAct_sol, hsol], fun k hk => ?_⟩
  obtain ⟨hoff, htrip, hsticky, hbit⟩ := htripped k hk
  have hget : ∀ r ∈ [SOL_PHASE, SOL_PENDING, SOL_TRIPPED, SOL_TRIP_STICKY], s.tripAct.get r k = s.tripOff.get r k := fun r hr => by
    have hall : ∀ r ∈ [SOL_PHASE, SOL_PENDING, SOL_TRIPPED, SOL_TRIP_STICKY], r.offset 0 + r.lo / 8 < 0x1000 ∧ r.page = 0x060 ∧
        r.key 0 0 % 0x20000 ∉ [BOOST_TRIP_STICKY, BOOST_TRIPS].map (Row.key · 0 0 % 0x20000) := by decide
    obtain ⟨hr, h60, hplace⟩ := hall r hr
    exact s.tripAct_get hr (by omega) (by omega) hplace
  refine ⟨State.channelOff_of hoff (State.chan_of_sol s.tripAct_sol k) (hget _ (by decide)) (hget _ (by decide)), (hget _ (by decide)).trans htrip,
    (hget _ (by decide)).trans hsticky, ?_⟩
  rwa [s.tripAct_get (r := HDR_INT_RAW) (k := solPage k) (by decide) (by change 0x060 ≤ 0 + (0x060 + k); omega)
    (by change 0 + (0x060 + k) < 0x070; omega) (by decide)]

/-- BOOST is off, and counts the trip. -/
theorem State.tripAct_boost (s : State) :
    s.tripAct.get BOOST_RUN = 0 ∧ s.tripAct.get BOOST_HOLDER = 7 ∧ s.tripAct.get BOOST_TRIP_STICKY = 1 ∧
      s.tripAct.get BOOST_TRIPS = min (s.get BOOST_TRIPS + 1) (2 ^ BOOST_TRIPS.wid - 1) := by
  obtain ⟨hrun, hholder⟩ := s.tripOff_boost
  have htrips := s.tripOff_get (r := BOOST_TRIPS) 0 (by decide)
  obtain ⟨data, ht⟩ := s.tripAct_eq
  refine ⟨(s.tripAct_get (by decide) (by decide) (by decide) (by decide)).trans hrun,
    (s.tripAct_get (by decide) (by decide) (by decide) (by decide)).trans hholder, ?_, ?_⟩
  · rw [ht, State.event_get_page _ _ _ (by decide) (by decide) (by decide), State.inc, State.addSat, State.get_put_place _ (by decide),
      State.get_put_same]
    rfl
  · rw [ht, State.event_get_page _ _ _ (by decide) (by decide) (by decide), State.inc, State.get_addSat_same, State.get_put_place _ (by decide),
      htrips]

/-- The trip is the entry that takes the next slot (R543). -/
theorem State.tripAct_entry {s : State} (hon : s.coreOn = true) : s.tripAct.get EVT_CODE 0 (s.get EVT_TOTAL % 256) = 0x6412 := by
  obtain ⟨data, ht⟩ := s.tripAct_eq
  have hget : ∀ r : Row, r.key 0 0 % 0x20000 ∉ tripPlaces ∧ r.key 0 0 % 0x20000 ≠ BOOST_TRIP_STICKY.key 0 0 % 0x20000 ∧
      r.key 0 0 % 0x20000 ≠ BOOST_TRIPS.key 0 0 % 0x20000 → ((s.tripOff.put BOOST_TRIP_STICKY 1).inc BOOST_TRIPS).get r = s.get r :=
    fun r ⟨hoff, hsticky, htrips⟩ =>
      (State.get_put_place _ htrips _ _ _).trans ((State.get_put_place _ hsticky _ _ _).trans (s.tripOff_get 0 hoff))
  have hentry := (State.event_get_entry ((State.coreOn_of_get (hget YARD_PD_STATE (by decide))).trans hon) 0x6412 data).2.1
  rw [hget EVT_TOTAL (by decide)] at hentry
  rw [ht, hentry]
  rfl

theorem State.tripAll_sameMemory (s : State) : s.SameMemory s.tripAll := by
  refine State.sameMemory_of_held (δ := false) ?_
  have hfallen : s.tripFallen.held true false = s.held true false := rfl
  have htrip : s.trip.held true false = s.held true false := by
    change (if s.pd 8 = 2 ∨ s.pd 8 = 3 then s.tripFallen.tripAct else s.tripFallen).held true false = _
    simp [hfallen]
  unfold State.tripAll
  simp [htrip]

/-! ### The clears (R323) -/

theorem exec_solTripClr (m : Master) (n : Fin 4) (s : State) : exec (.solTripClr m n) s = .next (s.command m.num (solPage n.val) 0x098 1) := rfl

theorem exec_boostTripClr (m : Master) (s : State) : exec (.boostTripClr m) s = .next (s.command m.num 0x064 0x050 1) := rfl

theorem State.tripClrIgnored_of {s : State} (h : s.solc.tripLow = true ∨ s.solc.tripRecent = true) : s.tripClrIgnored = true :=
  Bool.or_eq_true_iff.mpr h

theorem State.tripClrIgnored_not {s : State} (hlow : s.solc.tripLow = false) (hrecent : s.solc.tripRecent = false) :
    s.tripClrIgnored = false := by
  unfold State.tripClrIgnored
  rw [hlow, hrecent]
  rfl

theorem State.command_solTripClr {s : State} {m : Master} {n : Fin 4} (ha : s.accepts m.num (solPage n.val) 0x098 1 = true) :
    s.command m.num (solPage n.val) 0x098 1 = ((s.rewritten (solPage n.val) 0x098).solTripClr n.val).noteCode m.num cOK := by
  rw [State.command_strobes ha (wordRows_solClr n) (by decide), State.blockAct_solTripClr]

theorem State.command_boostTripClr {s : State} {m : Master} (ha : s.accepts m.num 0x064 0x050 1 = true) :
    s.command m.num 0x064 0x050 1 = ((s.rewritten 0x064 0x050).boostTripClr).noteCode m.num cOK := by
  rw [State.command_strobes ha wordRows_boostClr (by decide), State.blockAct_boostTripClr]

/-- A channel's clear in time. -/
theorem State.solTripClr_takes {s : State} (h : s.tripClrIgnored = false) (n : Nat) :
    s.solTripClr n = (s.put SOL_TRIPPED 0 n).put SOL_TRIP_STICKY 0 n := if_neg (by rw [h]; exact Bool.false_ne_true)

/-- A channel's clear that is ignored is flagged and counted, then logged with the count. -/
def State.tripClrCounted (s : State) (n : Nat) : State := (s.solFlag n 0).inc SOL_TRIP_REJECTS n

theorem State.solTripClr_ignored {s : State} (h : s.tripClrIgnored = true) (n : Nat) :
    s.solTripClr n = (s.tripClrCounted n).event (solEvent n 0x14) ((s.tripClrCounted n).get SOL_TRIP_REJECTS n) := if_pos h

theorem State.tripClrCounted_get (s : State) (n k : Nat) {r : Row}
    (h : r.key 0 0 % 0x20000 ∉ [SOL_FLAGS, HDR_INT_RAW, SOL_TRIP_REJECTS].map (Row.key · 0 0 % 0x20000)) :
    (s.tripClrCounted n).get r k = s.get r k := by
  simp only [List.map_cons, List.map_nil, List.mem_cons, List.not_mem_nil, or_false, not_or] at h
  obtain ⟨hflags, hint, hrejects⟩ := h
  exact (State.get_put_place _ hrejects _ _ _).trans ((State.get_put_place _ hint _ _ _).trans (State.get_put_place _ hflags _ _ _))

theorem State.tripClrCounted_rejects (s : State) (n : Nat) :
    (s.tripClrCounted n).get SOL_TRIP_REJECTS n = min (s.get SOL_TRIP_REJECTS n + 1) (2 ^ SOL_TRIP_REJECTS.wid - 1) := by
  rw [State.tripClrCounted, State.inc, State.get_addSat_same, State.solFlag, State.raise, State.get_put_place _ (by decide),
    State.get_put_place _ (by decide)]

theorem State.tripClrCounted_flag (s : State) (n : Nat) : bitAt ((s.tripClrCounted n).get SOL_FLAGS n) 0 = true := by
  have hflags : (s.tripClrCounted n).get SOL_FLAGS n = (s.get SOL_FLAGS n ||| 2 ^ 0) % 2 ^ SOL_FLAGS.wid := by
    rw [State.tripClrCounted, State.inc, State.addSat, State.get_put_place _ (by decide), State.solFlag, State.raise,
      State.get_put_place _ (by decide), State.get_put_same]
  rw [hflags, bitAt_eq_testBit, Nat.testBit_mod_two_pow, Nat.testBit_or, Nat.testBit_two_pow_self, Bool.or_true]
  rfl

theorem State.solTripClr_held {μ δ : Bool} (s : State) (n : Nat) : (s.solTripClr n).held μ δ = s.held μ δ := by
  cases h : s.tripClrIgnored
  · rw [State.solTripClr_takes h]
    simp (disch := decide)
  · rw [State.solTripClr_ignored h]
    simp (disch := decide) [State.tripClrCounted]

theorem State.solTripClr_sol (s : State) (n : Nat) : (s.solTripClr n).sol = s.sol := by
  cases h : s.tripClrIgnored
  · rw [State.solTripClr_takes h]
    rfl
  · rw [State.solTripClr_ignored h, State.event_sol]
    rfl

/-- BOOST's clear in time. -/
theorem State.boostTripClr_takes {s : State} (h : s.tripClrIgnored = false) : s.boostTripClr = (s.put BOOST_TRIP_STICKY 0).boostSync false :=
  if_neg (by rw [h]; exact Bool.false_ne_true)

/-- BOOST's clear that is ignored is flagged and counted, then logged with the count. -/
def State.boostClrCounted (s : State) : State := (s.put BOOST_TRIP_CLR_REJECT 1).inc BOOST_TRIP_REJECTS

theorem State.boostTripClr_ignored {s : State} (h : s.tripClrIgnored = true) :
    s.boostTripClr = s.boostClrCounted.event 0x6413 (s.boostClrCounted.get BOOST_TRIP_REJECTS) := if_pos h

theorem State.boostTripClr_held {μ δ : Bool} (s : State) : s.boostTripClr.held μ δ = s.held μ δ := by
  cases h : s.tripClrIgnored
  · rw [State.boostTripClr_takes h]
    simp (disch := decide)
  · rw [State.boostTripClr_ignored h]
    simp (disch := decide) [State.boostClrCounted]

theorem State.get_boostSync_run (s : State) (need : Bool) :
    (s.boostSync need).get BOOST_RUN = bit (s.boostMay && (!s.on BOOST_ON_DEMAND || need || s.railNeeded || s.on BOOST_RUN)) := by
  rw [State.boostSync, State.get_put_same]
  generalize (s.boostMay && (!s.on BOOST_ON_DEMAND || need || s.railNeeded || s.on BOOST_RUN)) = b
  cases b <;> rfl

/-- RUN after BOOST's clear: no trip stands any more. -/
theorem State.boostTripClr_run {s : State} (h : s.tripClrIgnored = false) :
    s.boostTripClr.get BOOST_TRIP_STICKY = 0 ∧ s.boostTripClr.get BOOST_RUN =
      bit (s.get HDR_EN 0x064 == 1 && !s.on BOOST_START_FAIL && (!s.on BOOST_ON_DEMAND || s.railNeeded || s.on BOOST_RUN)) := by
  have hsame : (s.put BOOST_TRIP_STICKY 0).get BOOST_TRIP_STICKY = 0 := by
    rw [State.get_put_same, Nat.zero_mod]
  have hget : ∀ r : Row, ∀ n, r.key n 0 ≠ BOOST_TRIP_STICKY.key 0 0 → (s.put BOOST_TRIP_STICKY 0).get r n = s.get r n :=
    fun r n hne => State.get_put_ne s hne 0
  rw [State.boostTripClr_takes h]
  constructor
  · rw [State.boostSync, State.get_put_ne _ (by decide), hsame]
  · rw [State.get_boostSync_run]
    have hchan : ∀ n, (s.put BOOST_TRIP_STICKY 0).chan n = s.chan n := fun n => State.chan_of_sol rfl n
    simp only [State.boostMay, State.railNeeded, State.on, hsame, hget HDR_EN 0x064 (by decide), hget BOOST_START_FAIL 0 (by decide),
      hget BOOST_ON_DEMAND 0 (by decide), hget BOOST_HOLDER 0 (by decide), hget BOOST_RUN 0 (by decide), hchan]
    simp

/-! ### The obligation -/

/-- Settles O34: a trip by the channels that it takes off and marks, the clears by what an ignored one counts, the coil model channel after
channel. -/
theorem tripAndCoils : Obligations.TripAndCoils := by
  unfold Obligations.TripAndCoils
  refine ⟨?trip, ?tripShut, ?tripUnpowered, ?release, ?noRelease, ?solClr, ?solClrIgnored, ?boostClr, ?boostClrIgnored, ?coil, ?coilStopped⟩
  case trip =>
    intro s hlen hpd hon hen
    obtain ⟨_, htripped⟩ := State.tripAct_tripped (s := s.tripFallen) hlen
    obtain ⟨hrun, hholder, hsticky, htrips⟩ := s.tripFallen.tripAct_boost
    have hen' : s.tripFallen.tripAct.get HDR_EN 0x065 ≠ 1 := by
      have hkept : s.tripFallen.tripAct.get HDR_EN 0x065 = s.get HDR_EN 0x065 :=
        (s.tripFallen.tripAct_get (by decide) (by decide) (by decide) (by decide)).trans (s.tripFallen.tripOff_get _ (by decide))
      rw [hkept, hen]
      decide
    have hmem := s.tripAll_sameMemory
    rw [State.tripAll_on hpd, State.shutLost_of_off hen'] at hmem
    refine ⟨_, by rw [exec_tripEvent, State.tripAll_on hpd, State.shutLost_of_off hen'], ?_, fun k hk => ?_, hrun, hholder, hsticky, htrips,
      State.tripAct_entry (s := s.tripFallen) hon, hmem⟩
    · rw [State.tripAct_solc]
      rfl
    · obtain ⟨⟨hsw, hst, hphase, hpend⟩, hmarks⟩ := htripped k hk
      exact ⟨hsw, hst, hphase, hpend, hmarks⟩
  case tripShut =>
    intro s hlen hpd hen
    obtain ⟨hsol, htripped⟩ := State.tripAct_tripped (s := s.tripFallen) hlen
    obtain ⟨hrun, _, hsticky, _⟩ := s.tripFallen.tripAct_boost
    have hen' : s.tripFallen.tripAct.get HDR_EN 0x065 = 1 :=
      (s.tripFallen.tripAct_get (by decide) (by decide) (by decide) (by decide)).trans ((s.tripFallen.tripOff_get _ (by decide)).trans hen)
    obtain ⟨hfault, hform⟩ := State.shutLost_faults hen' 4
    refine ⟨_, by rw [exec_tripEvent], ?_⟩
    have hmem := s.tripAll_sameMemory
    rw [State.tripAll_on hpd] at hmem ⊢
    refine ⟨?_, fun k hk => ?_, ?_, ?_, hfault, hform, hmem⟩
    · rw [State.shutLost_solc, State.tripAct_solc]
      rfl
    · obtain ⟨hoff, htrip, _⟩ := htripped k hk
      obtain ⟨hsw, hst, hphase, _⟩ := State.shutLost_keep 4 (by omega) hoff hk
      exact ⟨hsw, hst, hphase, (State.shutLost_get_sol _ 4 (by decide) (by decide) rfl hk).trans htrip⟩
    · exact (State.shutLost_get _ 4 (by decide) (by decide) (by decide) (by decide)).trans hrun
    · exact (State.shutLost_get _ 4 (by decide) (by decide) (by decide) (by decide)).trans hsticky
  case tripUnpowered =>
    intro s h2 h3
    rw [exec_tripEvent, State.tripAll_off h2 h3]
    rfl
  case release =>
    intro s h
    rw [exec_tripRelease]
    exact congrArg Host.Outcome.next (if_pos h)
  case noRelease =>
    intro s h
    rw [exec_tripRelease]
    exact congrArg Host.Outcome.next (if_neg (by rw [h]; exact Bool.false_ne_true))
  case solClr =>
    intro m n s ha hlow hrecent
    have htakes := State.solTripClr_takes (s := s.rewritten (solPage n.val) 0x098) (State.tripClrIgnored_not hlow hrecent) n.val
    have hget : ∀ t : State, ∀ r : Row, r.page = 0x060 → (t.noteCode m.num cOK).get r n.val = t.get r n.val := fun t r h60 =>
      State.noteCode_ok_get t m.num (by omega)
    refine ⟨_, by rw [exec_solTripClr, State.command_solTripClr ha, htakes], ?_, ?_, ?_, ?_, ?_⟩
    · rw [hget _ _ rfl, State.get_put_place _ (by decide), State.get_put_same, Nat.zero_mod]
    · rw [hget _ _ rfl, State.get_put_same, Nat.zero_mod]
    · rw [State.noteCode_ok_sol]
      rfl
    · exact State.SameBut.noteOk (((s.rewritten_sameBut _ _ _ _).trans (State.sameBut_put_key _ (.head _) _)).trans
        (State.sameBut_put_key _ (.tail _ (.head _)) _)) m.num
    · refine State.sameMemory_trans (State.sameMemory_of_held (δ := false) ?_) (State.noteCode_sameMemory ..)
      rw [← htakes, State.solTripClr_held, State.rewritten_held]
  case solClrIgnored =>
    intro m n s ha h hon
    have hignored := State.solTripClr_ignored (s := s.rewritten (solPage n.val) 0x098) (State.tripClrIgnored_of h) n.val
    have hget : ∀ r : Row, r.offset 0 + r.lo / 8 < 0x1000 → r.page = 0x060 →
        (((s.rewritten (solPage n.val) 0x098).solTripClr n.val).noteCode m.num cOK).get r n.val =
          ((s.rewritten (solPage n.val) 0x098).tripClrCounted n.val).get r n.val := fun r hr h60 => by
      rw [State.noteCode_ok_get _ _ (by omega), hignored, State.event_get_sol _ _ _ hr h60 n.isLt]
    have hrejects := (s.rewritten (solPage n.val) 0x098).tripClrCounted_rejects n.val
    refine ⟨_, by rw [exec_solTripClr, State.command_solTripClr ha], ?_, ?_, ?_, ?_, ?_, ?_, ?_⟩
    · exact (hget _ (by decide) rfl).trans (State.tripClrCounted_get _ _ _ (by decide))
    · exact (hget _ (by decide) rfl).trans (State.tripClrCounted_get _ _ _ (by decide))
    · exact (hget _ (by decide) rfl).trans hrejects
    · rw [hget _ (by decide) rfl]
      exact State.tripClrCounted_flag ..
    · have hpd : ((s.rewritten (solPage n.val) 0x098).tripClrCounted n.val).coreOn = true :=
        (State.coreOn_of_get (State.tripClrCounted_get _ _ _ (by decide))).trans hon
      rw [hget _ (by decide) rfl, State.lastEvent_noteCode, hignored]
      refine State.lastEvent_event hpd (by unfold solEvent; omega) ?_
      rw [hrejects]
      exact Nat.lt_of_le_of_lt (Nat.min_le_right ..) (by decide)
    · rw [State.noteCode_ok_sol, State.solTripClr_sol]
      rfl
    · refine State.sameMemory_trans (State.sameMemory_of_held (δ := false) ?_) (State.noteCode_sameMemory ..)
      rw [State.solTripClr_held, State.rewritten_held]
  case boostClr =>
    intro m s ha hlow hrecent
    have htakes := State.boostTripClr_takes (s := s.rewritten 0x064 0x050) (State.tripClrIgnored_not hlow hrecent)
    obtain ⟨hsticky, hrun⟩ := State.boostTripClr_run (s := s.rewritten 0x064 0x050) (State.tripClrIgnored_not hlow hrecent)
    refine ⟨_, by rw [exec_boostTripClr, State.command_boostTripClr ha], ?_, ?_, ?_, ?_, ?_⟩
    · exact (State.noteCode_ok_get _ _ (by decide)).trans hsticky
    · exact (State.noteCode_ok_get _ _ (by decide)).trans hrun
    · rw [State.noteCode_ok_sol, htakes]
      rfl
    · rw [htakes]
      exact State.SameBut.noteOk (((s.rewritten_sameBut _ _ _ _).trans (State.sameBut_put_key _ (.head _) _)).trans
        (State.sameBut_put_key _ (.tail _ (.head _)) _)) m.num
    · refine State.sameMemory_trans (State.sameMemory_of_held (δ := false) ?_) (State.noteCode_sameMemory ..)
      rw [State.boostTripClr_held, State.rewritten_held]
  case boostClrIgnored =>
    intro m s ha h hon
    have hignored := State.boostTripClr_ignored (s := s.rewritten 0x064 0x050) (State.tripClrIgnored_of h)
    have hget : ∀ r : Row, r.offset 0 + r.lo / 8 < 0x1000 → r.page = 0x064 →
        (((s.rewritten 0x064 0x050).boostTripClr).noteCode m.num cOK).get r = (s.rewritten 0x064 0x050).boostClrCounted.get r := fun r hr h64 => by
      rw [State.noteCode_ok_get _ _ (by omega), hignored, State.event_get_page _ _ _ hr (by omega) (by omega)]
    have hrejects : (s.rewritten 0x064 0x050).boostClrCounted.get BOOST_TRIP_REJECTS =
        min (s.get BOOST_TRIP_REJECTS + 1) (2 ^ BOOST_TRIP_REJECTS.wid - 1) := by
      rw [State.boostClrCounted, State.inc, State.get_addSat_same, State.get_put_ne _ (by decide)]
      rfl
    refine ⟨_, by rw [exec_boostTripClr, State.command_boostTripClr ha], ?_, ?_, ?_, ?_, ?_⟩
    · rw [hget _ (by decide) rfl, State.boostClrCounted, State.inc, State.addSat, State.get_put_ne _ (by decide), State.get_put_ne _ (by decide)]
      rfl
    · rw [hget _ (by decide) rfl, State.boostClrCounted, State.inc, State.addSat, State.get_put_ne _ (by decide), State.get_put_same]
      rfl
    · exact (hget _ (by decide) rfl).trans hrejects
    · have hpd : (s.rewritten 0x064 0x050).boostClrCounted.coreOn = true := by
        refine (State.coreOn_of_get ?_).trans hon
        rw [State.boostClrCounted, State.inc, State.addSat, State.get_put_ne _ (by decide), State.get_put_ne _ (by decide)]
        rfl
      rw [hget _ (by decide) rfl, State.lastEvent_noteCode, hignored]
      refine State.lastEvent_event hpd (by decide) ?_
      rw [hrejects]
      exact Nat.lt_of_le_of_lt (Nat.min_le_right ..) (by decide)
    · refine State.sameMemory_trans (State.sameMemory_of_held (δ := false) ?_) (State.noteCode_sameMemory ..)
      rw [State.boostTripClr_held, State.rewritten_held]
  case coil =>
    intro i0 i1 i2 i3 s hlen hstate
    obtain ⟨hstepped, _⟩ := s.coilSteps_steps ([i0, i1, i2, i3].getD · 0) (fun k hk => List.mem_range.mp hk) List.nodup_range hlen
    have hk : ∀ k < 4, _ := fun k hk => hstepped k (List.mem_range.mpr hk)
    refine ⟨_, by rw [exec_coilModelStep, State.coilTick_eq hstate hlen], fun k hk' => ?_, fun k hk' => ?_, fun k hk' => ?_, ?_⟩
    · obtain ⟨htc, hfrac, _⟩ := hk k hk'
      exact ⟨htc, hfrac⟩
    · obtain ⟨_, _, hhot, _⟩ := hk k hk'
      exact hhot
    · obtain ⟨_, _, _, hcool⟩ := hk k hk'
      exact hcool
    · exact State.sameMemory_of_held (δ := false) (congrArg Held.memory (State.coilSteps_held ..))
  case coilStopped =>
    intro i0 i1 i2 i3 s h
    rw [exec_coilModelStep, State.coilTick_idle h]

end Sys2Proof.Machine
end

section
/-! O29 and O30: what the Granary's engine, the domains and the clocks leave of the NUC policy. One lemma per function says that it keeps
`State.policyView`. -/

namespace Sys2Proof.Machine

open Sys2Proof

/-! ### The view -/

/-- The fields from which the policy is chosen and in which it stands, and NUC's own state. -/
def policyKeys : List Nat :=
  [NUC_STATE.key 0 0, NUC_SAVING.key 0 0, YARD_SECONDS.key 0 0, YARD_POLICY.key 0 0, YARD_EFF_POLICY.key 0 0, YARD_POLICY_WHY.key 0 0,
    YARD_MODE.key 0 0, YARD_MODE_TARGET.key 0 0, SYS_ROLE.key 0 0, SEQ_BOOT_DONE.key 0 0, SHUT_FAULTED.key 0 0, HDR_EN.key 0x065 0]

/-- What NUC holds of a closure, whether a boot runs, and those fields. -/
def State.policyView (s : State) : NucS × Bool × (Nat → Nat → Nat) :=
  (s.nuc, s.boot.booting, fun k d => if k ∈ policyKeys then s.regs.find k d else 0)

theorem State.get_of_policyView {s t : State} (h : t.policyView = s.policyView) {r : Row} {n i : Nat} (hk : r.key n i ∈ policyKeys) :
    t.get r n i = s.get r n i := by
  have hfind := congrFun (congrFun (congrArg (·.2.2) h) (r.key n i)) (r.rst i)
  simp only [State.policyView] at hfind
  rwa [if_pos hk, if_pos hk] at hfind

theorem State.nuc_of_policyView {s t : State} (h : t.policyView = s.policyView) : t.nuc = s.nuc := congrArg (·.1) h

/-- An update of the record that leaves the view: `simp` uses it before it looks into the update, with `rfl` for the hypothesis. -/
theorem State.policyView_mk (s : State) (pending staged parity owed log wdt yard boot gran shadow host loft semHold temp sol solc fpa cal
    mill sen link linkc vid vout slu hsFault freeCtr) (h : boot.booting = s.boot.booting) :
    State.policyView ⟨pending, s.regs, staged, parity, owed, log, wdt, yard, boot, gran, shadow, host, loft, semHold, temp, sol, solc, fpa,
      cal, mill, s.nuc, sen, link, linkc, vid, vout, slu, hsFault, freeCtr⟩ = s.policyView :=
  Prod.ext rfl (Prod.ext h rfl)

@[simp] theorem ite_policyView (c : Prop) [Decidable c] (s t : State) :
    (if c then s else t).policyView = if c then s.policyView else t.policyView := apply_ite State.policyView c s t

theorem foldl_policyView {α : Type} (l : List α) (f : State → α → State) (hf : ∀ s, ∀ a ∈ l, (f s a).policyView = s.policyView)
    (s : State) : (l.foldl f s).policyView = s.policyView := by
  induction l generalizing s with
  | nil => rfl
  | cons a l ih => exact (ih (fun s a ha => hf s a (.tail _ ha)) _).trans (hf s a (.head _))

/-! ### The state's own operations -/

theorem State.policyView_of_find {s t : State} (hn : t.nuc = s.nuc) (hb : t.boot.booting = s.boot.booting)
    (h : ∀ k ∈ policyKeys, ∀ d, t.regs.find k d = s.regs.find k d) : t.policyView = s.policyView := by
  refine Prod.ext hn (Prod.ext hb (funext fun k => funext fun d => ?_))
  simp only [State.policyView]
  split
  next hk => exact h k hk d
  next => rfl

theorem State.put_policyView_key (s : State) {r : Row} (v : Nat) {n i : Nat} (h : r.key n i ∉ policyKeys) :
    (s.put r v n i).policyView = s.policyView :=
  State.policyView_of_find rfl rfl fun _ hk d => State.put_find_ne (fun he => h (he ▸ hk)) d

@[simp] theorem State.put_policyView (s : State) {r : Row} (v n : Nat) {i : Nat}
    (h : r.key 0 i % 0x20000 ∉ policyKeys.map (· % 0x20000)) : (s.put r v n i).policyView = s.policyView :=
  State.put_policyView_key s v fun hk => h (Row.key_mod_page r n i ▸ List.mem_map_of_mem (f := (· % 0x20000)) hk)

/-- A field of one page alone. -/
@[simp] theorem State.put_policyView_own (s : State) {r : Row} (v i : Nat) (h : r.key 0 i ∉ policyKeys) :
    (s.put r v 0 i).policyView = s.policyView := State.put_policyView_key s v h

@[simp] theorem State.inc_policyView (s : State) {r : Row} (n : Nat) {i : Nat}
    (h : r.key 0 i % 0x20000 ∉ policyKeys.map (· % 0x20000)) : (s.inc r n i).policyView = s.policyView := State.put_policyView s _ n h

@[simp] theorem State.addSat_policyView (s : State) {r : Row} (v n : Nat) {i : Nat}
    (h : r.key 0 i % 0x20000 ∉ policyKeys.map (· % 0x20000)) : (s.addSat r v n i).policyView = s.policyView := State.put_policyView s _ n h

@[simp] theorem State.raise_policyView (s : State) (p bits : Nat) : (s.raise p bits).policyView = s.policyView :=
  State.put_policyView s _ p (by decide)

@[simp] theorem State.event_policyView (s : State) (code data : Nat) : (s.event code data).policyView = s.policyView := by
  have h := (s.event_logsOnly code data).1
  have hkeys : ∀ k ∈ policyKeys, k ∉ logCountKeys ∧ ¬InRing k := by decide
  refine State.policyView_of_find (by rw [h]) (by rw [h]) fun k hk d => s.event_find code data (hkeys k hk).1 (fun r hr he => ?_) d
  exact (hkeys k hk).2 (he ▸ inRing_slot hr _)

@[simp] theorem State.setPd_policyView (s : State) (d v : Nat) : (s.setPd d v).policyView = s.policyView :=
  State.put_policyView s _ 0 (by decide)

@[simp] theorem State.onGran_policyView (s : State) (f : GranS → GranS) : (s.onGran f).policyView = s.policyView := rfl

@[simp] theorem State.fresh_policyView (s : State) : s.fresh.2.policyView = s.policyView := rfl

@[simp] theorem State.setPort_policyView (s : State) (n : Nat) (p : LinkS) : (s.setPort n p).policyView = s.policyView := rfl

/-! ### The Granary's engine -/

@[simp] theorem State.reportTorn_policyView (s : State) (places : List Nat) : (s.reportTorn places).policyView = s.policyView := by
  refine foldl_policyView _ _ (fun t a _ => ?_) s
  simp (disch := decide)

@[simp] theorem State.trimRefused_policyView (s : State) (i : Nat) : (s.trimRefused i).policyView = s.policyView := by
  simp (disch := decide) [State.trimRefused]

@[simp] theorem State.regionFull_policyView (s : State) (j : Job) : (s.regionFull j).policyView = s.policyView := by
  simp [State.regionFull]

@[simp] theorem State.engineLook_policyView (f : Nat) (s : State) : (s.engineLook f).policyView = s.policyView := by
  induction f generalizing s with
  | zero => rfl
  | succ f ih =>
    unfold State.engineLook
    split
    · rfl
    split
    · rfl
    next j _ =>
      dsimp only
      split
      · split
        · exact State.reportTorn_policyView ..
        · split
          · exact (ih _).trans ((State.regionFull_policyView ..).trans (State.reportTorn_policyView ..))
          · exact State.reportTorn_policyView ..
      · rfl

@[simp] theorem State.engineStart_policyView (s : State) : s.engineStart.policyView = s.policyView := by
  simp [State.engineStart]

/-! ### Semaphores, sessions and ports -/

@[simp] theorem State.clockSync_policyView (s : State) : s.clockSync.policyView = s.policyView := by
  simp (disch := decide) [State.clockSync]

@[simp] theorem State.advanceEpoch_policyView (s : State) (m : Nat) : (s.advanceEpoch m).policyView = s.policyView := by
  simp (disch := decide) [State.advanceEpoch]

@[simp] theorem State.dropStaged_policyView (s : State) (p : Nat) : (s.dropStaged p).policyView = s.policyView :=
  State.put_policyView _ _ p (by decide)

@[simp] theorem State.endFill_policyView (s : State) (result : Nat) : (s.endFill result).policyView = s.policyView := by
  have hrow : (completeRow s.inactive).key 0 0 % 0x20000 ∉ policyKeys.map (· % 0x20000) := by
    unfold completeRow
    split <;> decide
  unfold State.endFill
  extract_lets t
  change t.policyView = s.policyView
  simp (disch := decide) [t, State.put_policyView _ _ _ hrow]

@[simp] theorem State.recover_policyView (s : State) (n owner : Nat) : (s.recover n owner).policyView = s.policyView := by
  unfold State.recover
  split_ifs
  · simp
  · rfl
  · simp
  · simp (disch := decide)
  · refine foldl_policyView _ _ (fun s k _ => ?_) s
    simp
  · rfl

/-- No semaphore's field is among them. -/
theorem lockKey_not_policy : ∀ n < 8, LOCK_STATE.key 0 n ∉ policyKeys ∧ LOCK_ORPHANS.key 0 n ∉ policyKeys := by decide

theorem State.orphan_policyView (s : State) {n : Nat} (cause : Nat) (hn : n < 8) : (s.orphan n cause).policyView = s.policyView := by
  obtain ⟨hstate, horphans⟩ := lockKey_not_policy n hn
  have hcount (t : State) : (t.inc LOCK_ORPHANS 0 n).policyView = t.policyView := State.put_policyView_key _ _ horphans
  have hfree (t : State) : (t.put LOCK_STATE 2 0 n).policyView = t.policyView := State.put_policyView_key _ _ hstate
  simp [State.orphan, hcount, hfree, State.policyView_mk]

@[simp] theorem State.orphanAll_policyView (s : State) (m cause : Nat) : (s.orphanAll m cause).policyView = s.policyView := by
  refine foldl_policyView _ _ (fun s n hn => ?_) s
  split
  · exact State.orphan_policyView s cause (List.mem_range.mp hn)
  · rfl

theorem State.msgPeak_policyView (s : State) {n : Nat} (hn : n < 4) : (s.msgPeak n).policyView = s.policyView := by
  have hkey : ∀ n < 4, SLUICE_PEAK.key 0 (5 + n) ∉ policyKeys := by decide
  exact State.put_policyView_key s _ (hkey n hn)

@[simp] theorem State.showPort_policyView (s : State) (n : Nat) : (s.showPort n).policyView = s.policyView := by
  simp (disch := decide) [State.showPort]

@[simp] theorem State.linkQueueCut_policyView (s : State) : s.linkQueueCut.policyView = s.policyView := rfl

theorem State.sessionLost_policyView (s : State) {n : Nat} (cause : Nat) (hn : n < 4) :
    (s.sessionLost n cause).policyView = s.policyView := by
  unfold State.sessionLost
  split
  · rfl
  · extract_lets s1 q done sOrph _ sCut _ rs lost _ sShow sMid sDone _
    have h1 : s1.policyView = s.policyView := s.msgPeak_policyView hn
    have hcut : sCut.policyView = s1.policyView :=
      (State.linkQueueCut_policyView _).trans ((State.setPort_policyView ..).trans
        ((State.orphanAll_policyView ..).trans (State.advanceEpoch_policyView ..)))
    have hshow : sShow.policyView = s1.policyView := by
      unfold sShow
      rw [State.showPort_policyView, State.addSat_policyView _ _ _ (by decide), State.setPort_policyView]
    have hfwd (t : State) (c : LinkCom) : State.policyView { t with linkc := c } = t.policyView := rfl
    have hmid : sMid.policyView = s1.policyView := by
      unfold sMid
      split
      · exact (hfwd ..).trans hcut
      · split
        · exact hshow
        · exact (State.raise_policyView ..).trans hshow
    have hdone : sDone.policyView = sMid.policyView := (State.raise_policyView ..).trans (State.put_policyView _ _ _ (by decide))
    exact (State.event_policyView ..).trans ((State.setPort_policyView ..).trans (hdone.trans (hmid.trans h1)))

theorem State.portOff_policyView (s : State) {n : Nat} (dormant : Bool) (hn : n < 4) : (s.portOff n dormant).policyView = s.policyView := by
  simp (disch := decide) [State.portOff, State.sessionLost_policyView _ _ hn, State.msgPeak_policyView _ hn]

/-! ### The array's timing and the overlaps -/

@[simp] theorem State.rampFrom_policyView (s : State) : s.rampFrom.policyView = s.policyView := by
  simp [State.rampFrom, State.policyView_mk]

@[simp] theorem State.rampTop_policyView (s : State) : s.rampTop.policyView = s.policyView := by
  simp +decide [State.rampTop, State.policyView_mk]

@[simp] theorem State.rampUp_policyView (s : State) : s.rampUp.policyView = s.policyView := by
  simp [State.rampUp, State.policyView_mk]

@[simp] theorem State.throttleRest_policyView (s : State) : s.throttleRest.policyView = s.policyView := by
  simp (disch := decide) [State.throttleRest]

@[simp] theorem State.rampDown_policyView (s : State) : s.rampDown.policyView = s.policyView := by
  simp +decide [State.rampDown, State.policyView_mk]

@[simp] theorem State.setSlot_policyView (s : State) (k : Nat) (sl : Slot) : (s.setSlot k sl).policyView = s.policyView := by
  refine State.put_policyView_key _ _ ?_
  unfold slotRow
  split <;> decide

@[simp] theorem State.slotDrop_policyView (s : State) (k : Nat) : (s.slotDrop k).policyView = s.policyView := by
  unfold State.slotDrop
  extract_lets sl t
  have ht : t.policyView = s.policyView := State.setSlot_policyView ..
  split
  · have hrow : (reqRow sl.inst).key 0 0 ∉ policyKeys := by
      unfold reqRow
      split <;> decide
    exact (State.put_policyView_key t _ hrow).trans ht
  · exact ht

@[simp] theorem State.dropOverlaps_policyView (s : State) : s.dropOverlaps.policyView = s.policyView := by
  refine foldl_policyView _ _ (fun s k _ => ?_) s
  simp (disch := decide)

/-! ### The domains -/

@[simp] theorem State.pixCloses_policyView (s : State) : s.pixCloses.policyView = s.policyView := by
  simp [State.pixCloses, State.policyView_mk]

@[simp] theorem State.closing_policyView (s : State) (d : Nat) : (s.closing d).policyView = s.policyView := by
  unfold State.closing
  extract_lets _ _ t
  have ht : t.policyView = s.policyView := by
    change (s.setPd d 3).policyView = s.policyView
    exact State.setPd_policyView ..
  clear_value t
  split
  · exact (State.pixCloses_policyView t).trans ht
  · exact ht

@[simp] theorem State.reopen_policyView (s : State) (d : Nat) : (s.reopen d).policyView = s.policyView := by
  simp [State.reopen]

@[simp] theorem State.openingEnds_policyView (s : State) (d : Nat) : (s.openingEnds d).policyView = s.policyView := by
  unfold State.openingEnds
  extract_lets t path u
  have ht : t.policyView = s.policyView := State.setPd_policyView ..
  split
  next h =>
    have hu : u.policyView = s.policyView := (State.portOff_policyView t _ (by omega)).trans ht
    split
    next => exact (State.put_policyView u _ _ (by decide)).trans hu
    next => exact hu
  next => exact ht

@[simp] theorem State.domainsSync_policyView (s : State) : s.domainsSync.policyView = s.policyView := by
  unfold State.domainsSync
  extract_lets t
  have ht : t.policyView = s.policyView := foldl_policyView _ _ (fun s i _ => by simp) s
  simp [ht]

end Sys2Proof.Machine
end

section
/-! O29: a commanded closure, its confirmations and its misses. -/

namespace Sys2Proof.Machine

open Sys2Proof

/-! ### The measuring interval begins (R274) -/

/-- A save is taken out of the engine's jobs, and the entry says why (R279). -/
def State.saveDropped (s : State) (reason : Nat) : State := ((s.onGran GranS.dropSave).put NUC_SAVING 0).event 0x5215 reason

theorem State.saveAbort_of_saving {s : State} (h : s.saving = true) (reason : Nat) (again : Bool) :
    s.saveAbort reason again =
      ({ s.saveDropped reason with nuc := { (s.saveDropped reason).nuc with saveAgain := again } } : State).engineStart := if_pos h

/-- An abandoned save writes of NUC only SAVING and whether the save is to be repeated. -/
theorem State.saveAbort_nuc (s : State) (reason : Nat) (again : Bool) :
    (s.saveAbort reason again).get NUC_STATE = s.get NUC_STATE ∧ ∃ b, (s.saveAbort reason again).nuc = { s.nuc with saveAgain := b } := by
  by_cases h : s.saving = true
  · have hview := ({ s.saveDropped reason with nuc := { (s.saveDropped reason).nuc with saveAgain := again } } : State).engineStart_policyView
    have hnuc : (s.saveDropped reason).nuc = s.nuc := by
      unfold State.saveDropped
      rw [(State.event_logsOnly ..).1]
      rfl
    rw [State.saveAbort_of_saving h]
    refine ⟨(State.get_of_policyView hview (by decide)).trans ?_, again, ?_⟩
    · change (s.saveDropped reason).get NUC_STATE = s.get NUC_STATE
      exact (State.event_get _ _ _ (by decide) (by decide)).trans (State.get_put_ne _ (by decide) _)
    · rw [State.nuc_of_policyView hview, hnuc]
  · rw [State.saveAbort, if_neg h]
    exact ⟨rfl, s.nuc.saveAgain, rfl⟩

/-- What the measuring of a row leaves of a closure. -/
theorem State.nucMeasure_closure (s : State) (a : Nat) :
    (s.nucMeasure a).get NUC_STATE = s.get NUC_STATE ∧ (s.nucMeasure a).nuc.form = s.nuc.form ∧
      (s.nucMeasure a).nuc.measuring = s.nuc.measuring ∧ (s.nucMeasure a).nuc.opening = s.nuc.opening := by
  unfold State.nucMeasure
  extract_lets t _ _ u
  have ht : t.get NUC_STATE = s.get NUC_STATE ∧ t.nuc.form = s.nuc.form ∧ t.nuc.measuring = s.nuc.measuring ∧
      t.nuc.opening = s.nuc.opening := by
    unfold t
    split
    next =>
      obtain ⟨hstate, b, hnuc⟩ := s.saveAbort_nuc 2 true
      rw [hnuc]
      exact ⟨hstate, rfl, rfl, rfl⟩
    next => exact ⟨rfl, rfl, rfl, rfl⟩
  have hu : u.get NUC_STATE = t.get NUC_STATE ∧ u.nuc.form = t.nuc.form ∧ u.nuc.measuring = t.nuc.measuring ∧
      u.nuc.opening = t.nuc.opening := by
    unfold u
    split
    next => exact ⟨State.get_put_ne t (r := NUC_FIRST_ROW) (r' := NUC_STATE) (n := 0) (i := 0) (n' := 0) (i' := 0) (by decide) a, rfl, rfl, rfl⟩
    next => exact ⟨rfl, rfl, rfl, rfl⟩
  obtain ⟨hstate, hform, hmeasuring, hopening⟩ := ht
  obtain ⟨hstate', hform', hmeasuring', hopening'⟩ := hu
  exact ⟨hstate'.trans hstate, hform'.trans hform, hmeasuring'.trans hmeasuring, hopening'.trans hopening⟩

@[simp] theorem State.nucMeasure_held {μ δ : Bool} (s : State) (a : Nat) : (s.nucMeasure a).held μ δ = s.held μ δ := by
  unfold State.nucMeasure
  extract_lets t _ _ u
  have ht : t.held μ δ = s.held μ δ := by simp [t]
  have hu : u.held μ δ = t.held μ δ := by
    unfold u
    split
    next => exact State.put_held_page t (r := NUC_FIRST_ROW) a 0 0 (by decide)
    next => rfl
  exact hu.trans ht

/-- The interval has begun. -/
def State.measureOpen (s : State) : State := { s.put NUC_STATE 3 with nuc := { s.nuc with measuring := true } }

/-- The interval begins, and the row that integrates then may still be measured. -/
theorem State.measureStart_cases (s : State) :
    s.measureStart = s.measureOpen ∨
      (s.frameRuns = true ∧
        (s.measureStart = s.measureOpen.fresh.2 ∨ s.measureStart = s.measureOpen.fresh.2.nucMeasure (s.measureOpen.rowNow - 8))) := by
  have heq : s.measureStart = if s.measureOpen.rowIntegrates && decide (8 ≤ s.measureOpen.rowNow) &&
      s.measureOpen.rowMeasured (s.measureOpen.rowNow - 8) then
      if s.measureOpen.fresh.1 % 2 = 1 then s.measureOpen.fresh.2.nucMeasure (s.measureOpen.rowNow - 8) else s.measureOpen.fresh.2
    else s.measureOpen := rfl
  rw [heq]
  split
  next h =>
    simp only [Bool.and_eq_true, State.rowIntegrates] at h
    refine .inr ⟨h.1.1.1.1, ?_⟩
    split
    · exact .inr rfl
    · exact .inl rfl
  next => exact .inl rfl

theorem State.measureStart_closure (s : State) :
    s.measureStart.nuc.measuring = true ∧ s.measureStart.get NUC_STATE = 3 ∧ s.measureStart.nuc.form = s.nuc.form ∧
      s.measureStart.nuc.opening = s.nuc.opening ∧ (s.frameRuns = false → s.measureStart.nuc = { s.nuc with measuring := true }) := by
  have hstate : s.measureOpen.get NUC_STATE = 3 := State.get_put_same s NUC_STATE 3 0 0
  obtain he | ⟨hruns, he | he⟩ := s.measureStart_cases <;> rw [he]
  · exact ⟨rfl, hstate, rfl, rfl, fun _ => rfl⟩
  · exact ⟨rfl, hstate, rfl, rfl, fun _ => rfl⟩
  · obtain ⟨hstate', hform, hmeasuring, hopening⟩ := s.measureOpen.fresh.2.nucMeasure_closure (s.measureOpen.rowNow - 8)
    exact ⟨hmeasuring, hstate'.trans hstate, hform, hopening, fun h => absurd (h.symm.trans hruns) Bool.false_ne_true⟩

theorem State.measureStart_held {μ δ : Bool} (s : State) : s.measureStart.held μ δ = s.held μ δ := by
  have hopen : s.measureOpen.held μ δ = s.held μ δ := State.put_held_page s (r := NUC_STATE) 3 0 0 (by decide)
  obtain he | ⟨_, he | he⟩ := s.measureStart_cases <;> rw [he]
  · exact hopen
  · exact hopen
  · exact (State.nucMeasure_held ..).trans hopen

/-! ### The shutter counts as open (R275, R293) -/

theorem State.closureMayEnd_cases (s : State) : s.closureMayEnd = s.closureOver ∨ s.closureMayEnd = s := by
  unfold State.closureMayEnd
  extract_lets last
  split
  · exact .inl rfl
  · exact .inr rfl

/-- The opening of a closure is over. -/
def State.openedIn (s : State) : State :=
  { s with nuc := { s.nuc with bootPulse := false, bootFail := false, opened := true } }

theorem State.shutOpened_closure {s : State} (h : s.nuc.form ≠ 0) :
    s.shutOpened = (if s.nuc.closed then s.openedIn.inc SHUT_CYCLES else s.openedIn).closureMayEnd := by
  unfold State.shutOpened
  simp only [h, decide_false, Bool.not_false, Bool.true_and]
  rfl

theorem State.shutOpened_boot {s : State} (h : s.nuc.form = 0) :
    s.shutOpened = { s with nuc := { s.nuc with bootPulse := false, bootFail := false, confirmed := false, opened := false } } := by
  unfold State.shutOpened
  simp only [h, decide_true, Bool.not_true, Bool.false_and, if_true]

/-- The opening is over, and with it a cycle where the shutter had closed (R275). -/
def State.openCounted (s : State) : State := if s.nuc.closed then s.openedIn.inc SHUT_CYCLES else s.openedIn

theorem State.openCounted_opened (s : State) : s.openCounted.nuc.opened = true := by
  unfold State.openCounted
  split <;> rfl

theorem State.openCounted_cycles (s : State) :
    (s.nuc.closed = true → s.openCounted.get SHUT_CYCLES = min (s.get SHUT_CYCLES + 1) (2 ^ SHUT_CYCLES.wid - 1)) ∧
    (s.nuc.closed = false → s.openCounted.get SHUT_CYCLES = s.get SHUT_CYCLES) := by
  constructor
  · intro h
    rw [State.openCounted, if_pos h]
    exact State.get_addSat_same s.openedIn SHUT_CYCLES 1 0 0
  · intro h
    rw [State.openCounted, if_neg (by rw [h]; exact Bool.false_ne_true)]
    rfl

theorem State.openCounted_sameBut (s : State) (ps ks : List Nat) : s.SameBut s.openCounted ps (SHUT_CYCLES.key 0 0 :: ks) := by
  have hopened : s.SameBut s.openedIn ps (SHUT_CYCLES.key 0 0 :: ks) := State.sameBut_of_stores rfl rfl _ _
  unfold State.openCounted
  split
  · exact hopened.trans (State.sameBut_put_key _ (.head _) _)
  · exact hopened

theorem State.openCounted_held {μ δ : Bool} (s : State) : s.openCounted.held μ δ = s.held μ δ := by
  unfold State.openCounted
  split
  · exact State.inc_held_page s.openedIn (r := SHUT_CYCLES) 0 0 (by decide)
  · rfl

/-- What the end of an opening writes in a closure: it may end with it. -/
theorem State.shutOpened_spec {s : State} (h : s.nuc.form ≠ 0) :
    (s.shutOpened.nuc.opened = true ∨ (s.shutOpened.nuc.form = 0 ∧ s.shutOpened.get NUC_STATE = 0)) ∧
      (s.nuc.closed = true → s.shutOpened.get SHUT_CYCLES = min (s.get SHUT_CYCLES + 1) (2 ^ SHUT_CYCLES.wid - 1)) ∧
      (s.nuc.closed = false → s.shutOpened.get SHUT_CYCLES = s.get SHUT_CYCLES) ∧
      s.SameBut s.shutOpened [] [SHUT_CYCLES.key 0 0, NUC_STATE.key 0 0] := by
  obtain ⟨hcount, hcount'⟩ := s.openCounted_cycles
  have hsame := s.openCounted_sameBut [] [NUC_STATE.key 0 0]
  have hopened : s.shutOpened = s.openCounted.closureMayEnd := State.shutOpened_closure h
  rw [hopened]
  obtain he | he := s.openCounted.closureMayEnd_cases <;> rw [he]
  · have hcycles : s.openCounted.closureOver.get SHUT_CYCLES = s.openCounted.get SHUT_CYCLES := State.get_put_ne _ (by decide) _
    refine ⟨.inr ⟨rfl, ?_⟩, fun hc => hcycles.trans (hcount hc), fun hc => hcycles.trans (hcount' hc), hsame.trans ?_⟩
    · rw [State.closureOver, State.get_put_same, Nat.zero_mod]
    · exact State.SameBut.trans (State.sameBut_of_stores rfl rfl _ _) (State.sameBut_put_key _ (.tail _ (.head _)) 0)
  · exact ⟨.inl s.openCounted_opened, hcount, hcount', hsame⟩

theorem State.shutOpened_held {μ δ : Bool} (s : State) : s.shutOpened.held μ δ = s.held μ δ := by
  by_cases h : s.nuc.form = 0
  · rw [State.shutOpened_boot h]
    rfl
  · have hopened : s.shutOpened = s.openCounted.closureMayEnd := State.shutOpened_closure h
    rw [hopened]
    obtain he | he := s.openCounted.closureMayEnd_cases <;> rw [he]
    · rw [State.closureOver_held, State.openCounted_held]
    · exact s.openCounted_held

/-! ### SETTLE_US ends (R274, R275) -/

theorem State.settled_opened {s : State} (hc : s.nuc.confirmed = true) (ho : s.nuc.opened = false)
    (h : s.nuc.form ≠ 0 ∨ s.nuc.bootPulse = true) : s.settled = s.shutOpened := if_pos ⟨hc, ho, h⟩

theorem State.settled_measures {s : State} (hform : s.nuc.form ≠ 0) (hclosed : s.nuc.closed = true) (hm : s.nuc.measuring = false)
    (ho : s.nuc.opening = false) (hc : s.nuc.confirmed = false) : s.settled = s.measureStart :=
  (if_neg fun h => Bool.false_ne_true (hc.symm.trans h.1)).trans (if_pos ⟨hform, hclosed, hm, ho⟩)

/-! ### MONO opens (R275) -/

/-- The opening is confirmed after `t` µs. -/
def State.openSeen (s : State) (t : Nat) : State := { s.put SHUT_T_LAST_OPEN t with nuc := { s.nuc with confirmed := true } }

theorem State.monoOpen_seen {s : State} (hform : s.nuc.form ≠ 0) (ho : s.nuc.opening = true) (hc : s.nuc.confirmed = false)
    (ht : s.get SHUT_TYPE = 0) :
    s.monoOpen = if s.get SHUT_SETTLE_US = 0 then (s.openSeen (s.get SHUT_T_OPEN_MAX)).settled else s.openSeen (s.get SHUT_T_OPEN_MAX) := by
  have htype : s.on SHUT_TYPE = false := by simp [State.on, ht]
  have hsettle : (s.openSeen (s.get SHUT_T_OPEN_MAX)).get SHUT_SETTLE_US = s.get SHUT_SETTLE_US := State.get_put_ne s (by decide) _
  have hseen : s.monoOpen = s.openConfirm (s.get SHUT_T_OPEN_MAX) := if_pos ⟨hform, ho, hc, htype⟩
  rw [hseen, ← hsettle]
  rfl

theorem State.monoOpen_idle {s : State} (h : s.nuc.form = 0 ∨ s.nuc.opening = false ∨ s.nuc.confirmed = true ∨ s.get SHUT_TYPE ≠ 0) :
    s.monoOpen = s := by
  refine if_neg fun ⟨hform, ho, hc, ht⟩ => ?_
  rw [State.on, bne_eq_false_iff_eq] at ht
  rw [ho, hc] at h
  obtain h | h | h | h := h
  · exact hform h
  · exact Bool.false_ne_true h.symm
  · exact Bool.false_ne_true h
  · exact h ht

/-! ### A closure fails (R288, R289) -/

theorem State.nucFail_nuc (s : State) (reason : Nat) :
    (s.nucFail reason).nuc = { s.nuc with fail := if s.nuc.fail = 1 then 1 else reason } := by
  have hnuc : (((s.inc NUC_FAILS).event 0x5211 reason).raise 0x052 2).nuc = s.nuc := by
    change ((s.inc NUC_FAILS).event 0x5211 reason).nuc = s.nuc
    rw [(State.event_logsOnly ..).1]
    rfl
  unfold State.nucFail
  extract_lets t
  change ({ t.nuc with fail := if t.nuc.fail = 1 then 1 else reason } : NucS) = _
  rw [show t.nuc = s.nuc from hnuc]

theorem State.nucFail_get (s : State) (reason : Nat) {r : Row} (hr : r.offset 0 + r.lo / 8 < 0x1000) (hpage : r.page ∉ [0x006, 0x052, 0x074]) :
    (s.nucFail reason).get r = s.get r := by
  simp only [List.mem_cons, List.not_mem_nil, or_false, not_or] at hpage
  obtain ⟨h6, h52, h74⟩ := hpage
  have hkey : keyPage (r.key 0 0) = r.page := keyPage_key hr
  exact (State.put_find_page (by decide) (by rw [hkey]; exact h52) _).trans
    ((State.event_get_page (n := 0) _ _ _ hr h6 h74).trans (State.put_find_page (by decide) (by rw [hkey]; exact h52) _))

theorem State.nucFail_fails (s : State) (reason : Nat) :
    (s.nucFail reason).get NUC_FAILS = min (s.get NUC_FAILS + 1) (2 ^ NUC_FAILS.wid - 1) := by
  have hlogged : (s.nucFail reason).get NUC_FAILS = (s.inc NUC_FAILS).get NUC_FAILS :=
    (State.get_put_ne _ (by decide) _).trans (State.event_get_page _ _ _ (by decide) (by decide) (by decide))
  rw [hlogged]
  exact State.get_addSat_same ..

/-! ### Misses (R288, R289, R293) -/

theorem State.offAll_nuc (s : State) (l : List Nat) : (s.offAll l).nuc = s.nuc := State.nuc_of_besideSol (s.offAll_besideSol l)

/-- The shutter's fault writes of NUC only whether a boot pulse has failed. -/
theorem State.shutFault_nuc_of_sound {s : State} (h : s.on SHUT_FAULTED = false) (cause : Nat) :
    (s.shutFault cause).nuc = { s.nuc with bootFail := s.nuc.bootPulse } := by
  rw [State.shutFault_of_sound h, State.offAll_nuc]

theorem State.shutFault_nuc (s : State) (cause : Nat) : ∃ b, (s.shutFault cause).nuc = { s.nuc with bootFail := b } := by
  cases h : s.on SHUT_FAULTED
  · exact ⟨_, State.shutFault_nuc_of_sound h cause⟩
  · exact ⟨s.nuc.bootFail, by rw [State.shutFault_of_faulted h]⟩

theorem State.shutFault_of_sound_faulted {s : State} (h : s.on SHUT_FAULTED = false) (cause : Nat) : (s.shutFault cause).get SHUT_FAULTED = 1 := by
  rw [State.shutFault_of_sound h]
  refine (State.event_get_page _ _ _ (by decide) (by decide) (by decide)).trans ?_
  rw [State.get_put_same]
  rfl

theorem State.shutFault_get (s : State) (cause : Nat) {r : Row} (h : r.key 0 0 % 0x20000 ∉ SHUT_FAULTED.key 0 0 % 0x20000 :: offPlaces)
    (hr : r.offset 0 + r.lo / 8 < 0x1000) (hpage : r.page ≠ 0x006 ∧ r.page ≠ 0x074) : (s.shutFault cause).get r = s.get r := by
  obtain ⟨hfault, hoff⟩ := not_or.mp fun hm => h (List.mem_cons.mpr hm)
  have hkey : keyPage (r.key 0 0) = r.page := keyPage_key hr
  exact s.shutFault_find cause hoff hfault (by rw [hkey]; exact hpage.1) (by rw [hkey]; exact hpage.2) _

theorem State.inc_nuc (s : State) (r : Row) (n i : Nat) : (s.inc r n i).nuc = s.nuc := rfl

theorem State.inc_miss (s : State) : (s.inc SHUT_MISS).get SHUT_MISS = min (s.get SHUT_MISS + 1) (2 ^ SHUT_MISS.wid - 1) :=
  State.get_addSat_same ..

theorem State.shutMiss_cases (s : State) : s.shutMiss = (s.inc SHUT_MISS).shutFault 1 ∨ s.shutMiss = s.inc SHUT_MISS := by
  unfold State.shutMiss
  extract_lets t
  split
  · exact .inl rfl
  · exact .inr rfl

/-- A miss below MISS_MAX is only counted. -/
theorem State.shutMiss_below {s : State} (h : s.get SHUT_MISS_MAX = 0 ∨ s.get SHUT_MISS + 1 < s.get SHUT_MISS_MAX) :
    s.shutMiss = s.inc SHUT_MISS := by
  have hmax : (s.inc SHUT_MISS).get SHUT_MISS_MAX = s.get SHUT_MISS_MAX := State.get_put_ne s (by decide) _
  have hmiss := s.inc_miss
  refine if_neg fun ⟨hne, hge⟩ => ?_
  rw [hmax] at hne hge
  rw [hmiss] at hge
  omega

theorem State.shutMiss_spec (s : State) :
    (∃ b, s.shutMiss.nuc = { s.nuc with bootFail := b }) ∧
      s.shutMiss.get SHUT_MISS = min (s.get SHUT_MISS + 1) (2 ^ SHUT_MISS.wid - 1) ∧ s.shutMiss.get NUC_FAILS = s.get NUC_FAILS := by
  have hfails : (s.inc SHUT_MISS).get NUC_FAILS = s.get NUC_FAILS := State.get_put_ne s (by decide) _
  obtain he | he := s.shutMiss_cases <;> rw [he]
  · exact ⟨State.shutFault_nuc _ 1, (State.shutFault_get _ 1 (by decide) (by decide) (by decide)).trans s.inc_miss,
      (State.shutFault_get _ 1 (by decide) (by decide) (by decide)).trans hfails⟩
  · exact ⟨⟨s.nuc.bootFail, rfl⟩, s.inc_miss, hfails⟩

theorem State.shutMiss_held {μ δ : Bool} (s : State) : s.shutMiss.held μ δ = s.held μ δ := by
  have hinc : (s.inc SHUT_MISS).held μ δ = s.held μ δ := State.inc_held_page s 0 0 (by decide)
  obtain he | he := s.shutMiss_cases <;> rw [he]
  · rw [State.shutFault_held, hinc]
  · exact hinc

/-- The open command is given, before the channel's own FIRE or STOP (R273, R275). -/
def State.openBegun (s : State) : State :=
  { s with nuc := { s.nuc with opening := true, measuring := false, integ := false } }.put NUC_STATE 4

theorem State.openBegun_get (s : State) {r : Row} (h : r.key 0 0 ≠ NUC_STATE.key 0 0) : s.openBegun.get r = s.get r := State.get_put_ne _ h _

theorem State.openBegun_state (s : State) : s.openBegun.get NUC_STATE = 4 := State.get_put_same ..

theorem State.openBegun_nuc (s : State) : s.openBegun.nuc = { s.nuc with opening := true, measuring := false, integ := false } := rfl

theorem State.openCommand_besideSol (s : State) : s.openCommand.besideSol = s.openBegun.besideSol := by
  have heq : s.openCommand = if s.openBegun.on SHUT_TYPE then s.openBegun.shutFire (s.openBegun.get SHUT_CH_OPEN)
      else s.openBegun.stopChan (s.openBegun.get SHUT_CH_CLOSE) := rfl
  rw [heq]
  split
  · exact State.shutFire_besideSol ..
  · exact State.stopChan_besideSol ..

theorem State.closeMiss_waited {s : State} (hform : s.nuc.form ≠ 0) (hclosed : s.nuc.closed = false) (ho : s.nuc.opening = false) :
    s.closeMiss = (s.nucFail 1).shutMiss.openCommand := if_pos ⟨hform, hclosed, ho⟩

/-- What waits for the open pulse's motion: a closure that opens, or the pulse of a boot. -/
def State.awaitsOpen (s : State) : Prop :=
  (s.nuc.form ≠ 0 ∧ s.nuc.opening = true) ∨ (s.nuc.form = 0 ∧ s.nuc.bootPulse = true ∧ s.nuc.bootFail = false)

/-- The second pulse fails: the shutter faults. -/
theorem State.openMiss_second {s : State} (ht : s.get SHUT_TYPE ≠ 0) (hf : s.get SHUT_FAULTED = 0) (hc : s.nuc.confirmed = false)
    (ha : s.awaitsOpen) (hs : s.nuc.second = true) : s.openMiss = (s.inc SHUT_MISS).shutFault 2 := by
  have htype : s.on SHUT_TYPE = true := bne_iff_ne.mpr ht
  have hfault : s.on SHUT_FAULTED = false := bne_eq_false_iff_eq.mpr hf
  exact (if_pos ⟨htype, hfault, hc, ha⟩).trans (if_pos hs)

/-- The second pulse goes out. -/
def State.secondPulse (s : State) : State :=
  ({ s with nuc := { s.nuc with second := true } } : State).shutFire (s.get SHUT_CH_OPEN)

/-- The first pulse fails in a closure, and its miss is below MISS_MAX. -/
theorem State.openMiss_first {s : State} (ht : s.get SHUT_TYPE ≠ 0) (hf : s.get SHUT_FAULTED = 0) (hc : s.nuc.confirmed = false)
    (hform : s.nuc.form ≠ 0) (ho : s.nuc.opening = true) (hs : s.nuc.second = false)
    (hmax : s.get SHUT_MISS_MAX = 0 ∨ s.get SHUT_MISS + 1 < s.get SHUT_MISS_MAX) :
    s.openMiss = ((s.nucFail 2).inc SHUT_MISS).secondPulse := by
  have htype : s.on SHUT_TYPE = true := bne_iff_ne.mpr ht
  have hfault : s.on SHUT_FAULTED = false := bne_eq_false_iff_eq.mpr hf
  have hbelow : (s.nucFail 2).shutMiss = (s.nucFail 2).inc SHUT_MISS := State.shutMiss_below (by
    rwa [s.nucFail_get 2 (by decide) (by decide), s.nucFail_get 2 (by decide) (by decide)])
  have hsound : ¬((s.nucFail 2).inc SHUT_MISS).on SHUT_FAULTED = true := by
    have hkept : ((s.nucFail 2).inc SHUT_MISS).get SHUT_FAULTED = s.get SHUT_FAULTED :=
      (State.get_put_ne _ (by decide) _).trans (s.nucFail_get 2 (by decide) (by decide))
    rw [State.on, hkept, hf]
    exact Bool.false_ne_true
  refine (if_pos ⟨htype, hfault, hc, .inl ⟨hform, ho⟩⟩).trans ((if_neg (by rw [hs]; exact Bool.false_ne_true)).trans ?_)
  simp only [if_pos hform, hbelow, if_neg hsound]
  rfl

theorem State.secondPulse_spec (s : State) :
    s.secondPulse.nuc = { s.nuc with second := true } ∧ s.secondPulse.get SHUT_MISS = s.get SHUT_MISS ∧
      ∀ {μ δ : Bool}, s.secondPulse.held μ δ = s.held μ δ := by
  have hview := ({ s with nuc := { s.nuc with second := true } } : State).shutFire_besideSol (s.get SHUT_CH_OPEN)
  exact ⟨State.nuc_of_besideSol hview, State.get_besideSol hview SHUT_MISS 0 (by decide), State.shutFire_held ..⟩

/-- The fault of the shutter by a second open miss: its flag, the count, and what NUC holds. -/
theorem State.secondMiss_spec {s : State} (hf : s.get SHUT_FAULTED = 0) :
    ((s.inc SHUT_MISS).shutFault 2).get SHUT_FAULTED = 1 ∧
      ((s.inc SHUT_MISS).shutFault 2).nuc = { s.nuc with bootFail := s.nuc.bootPulse } ∧
      ((s.inc SHUT_MISS).shutFault 2).get SHUT_MISS = min (s.get SHUT_MISS + 1) (2 ^ SHUT_MISS.wid - 1) := by
  have hsound : (s.inc SHUT_MISS).on SHUT_FAULTED = false := by
    have hget : (s.inc SHUT_MISS).get SHUT_FAULTED = s.get SHUT_FAULTED := State.get_put_ne s (by decide) _
    rw [State.on, hget, hf]
    rfl
  exact ⟨State.shutFault_of_sound_faulted hsound 2, State.shutFault_nuc_of_sound hsound 2,
    (State.shutFault_get _ 2 (by decide) (by decide) (by decide)).trans s.inc_miss⟩

theorem State.secondMiss_sameMemory (s : State) : s.SameMemory ((s.inc SHUT_MISS).shutFault 2) := by
  refine State.sameMemory_of_held (δ := false) ?_
  rw [State.shutFault_held, State.inc_held_page _ _ _ (by decide)]

/-! ### The obligation -/

theorem exec_nucClose (m : Master) (force : Bool) (s : State) :
    exec (.nucClose m force) s = .next (s.command m.num 0x052 0x064 (1 + 2 * bit force)) := rfl

theorem exec_shutterSettleEnd (s : State) : exec .shutterSettleEnd s = .next s.settled := rfl

theorem exec_shutterOpenConfirm (s : State) : exec .shutterOpenConfirm s = .next s.monoOpen := rfl

theorem exec_closeMiss (s : State) : exec .closeMiss s = .next s.closeMiss := rfl

theorem exec_openMiss (s : State) : exec .openMiss s = .next s.openMiss := rfl

theorem State.command_nucClose {s : State} {m : Master} {force : Bool} (ha : s.accepts m.num 0x052 0x064 (1 + 2 * bit force) = true) :
    s.command m.num 0x052 0x064 (1 + 2 * bit force) = ((s.rewritten 0x052 0x064).closeReq force).noteCode m.num cOK := by
  rw [State.command_strobes ha wordRows_nucCmd (by decide), State.blockAct_nucClose]

/-- Settles O29: each command of a closure by the equation of its wait, and the shutter's fault by what it leaves of NUC. -/
theorem closures : Obligations.Closures := by
  unfold Obligations.Closures
  refine ⟨?request, ?merged, ?measure, ?opened, ?bootOpened, ?mono, ?monoAtOnce, ?noMono, ?closeMiss, ?noCloseMiss, ?firstMiss, ?secondMiss,
    ?bootMiss, ?noOpenMiss⟩
  case request =>
    intro m force s ha hform
    rw [exec_nucClose, State.command_nucClose ha]
    exact congrArg (fun t : State => Host.Outcome.next (t.noteCode m.num cOK)) (if_neg (not_not.mpr hform))
  case merged =>
    intro m force s ha hform
    rw [exec_nucClose, State.command_nucClose ha]
    exact congrArg (fun t : State => Host.Outcome.next (t.noteCode m.num cOK)) (if_pos hform)
  case measure =>
    intro s hform hclosed hm ho hc
    obtain ⟨hmeasuring, hstate, hform', hopening, hrest⟩ := s.measureStart_closure
    exact ⟨_, by rw [exec_shutterSettleEnd, State.settled_measures hform hclosed hm ho hc], hmeasuring, hstate, hform', hopening.trans ho,
      hrest, State.sameMemory_of_held (δ := false) (by rw [State.measureStart_held])⟩
  case opened =>
    intro s hform hc ho
    obtain ⟨hopened, hcycle, hnoCycle, hsame⟩ := State.shutOpened_spec hform
    exact ⟨_, by rw [exec_shutterSettleEnd, State.settled_opened hc ho (.inl hform)], hopened, hcycle, hnoCycle, hsame,
      State.sameMemory_of_held (δ := false) (by rw [State.shutOpened_held])⟩
  case bootOpened =>
    intro s hform hc ho hboot
    rw [exec_shutterSettleEnd, State.settled_opened hc ho (.inr hboot), State.shutOpened_boot hform]
  case mono =>
    intro s hform ho hc ht hsettle
    rw [exec_shutterOpenConfirm, State.monoOpen_seen hform ho hc ht, if_neg hsettle]
    rfl
  case monoAtOnce =>
    intro s hform ho hc hopened ht hsettle
    have hmono : s.monoOpen = (s.openSeen (s.get SHUT_T_OPEN_MAX)).shutOpened := by
      rw [State.monoOpen_seen hform ho hc ht, if_pos hsettle]
      exact State.settled_opened rfl hopened (.inl hform)
    obtain ⟨hend, _, _, hsame⟩ := State.shutOpened_spec (s := s.openSeen (s.get SHUT_T_OPEN_MAX)) hform
    refine ⟨_, by rw [exec_shutterOpenConfirm, hmono], hend, ?_, State.sameMemory_of_held (δ := false) ?_⟩
    · exact (hsame.get List.not_mem_nil (by decide)).trans (State.get_put_same s SHUT_T_LAST_OPEN _ 0 0)
    · rw [State.shutOpened_held]
      exact congrArg Held.memory (State.put_held_page s (r := SHUT_T_LAST_OPEN) _ 0 0 (by decide))
  case noMono =>
    intro s h
    rw [exec_shutterOpenConfirm, State.monoOpen_idle h]
  case closeMiss =>
    intro s hform hclosed ho
    obtain ⟨⟨b, hnuc⟩, hmiss, hfails⟩ := (s.nucFail 1).shutMiss_spec
    have hview := (s.nucFail 1).shutMiss.openCommand_besideSol
    refine ⟨_, by rw [exec_closeMiss, State.closeMiss_waited hform hclosed ho], ?_, ?_, ?_, ?_, ?_, State.sameMemory_of_held (δ := false) ?_⟩
    · rw [State.nuc_of_besideSol hview, State.openBegun_nuc, hnuc, s.nucFail_nuc 1]
      exact ite_self 1
    · rw [State.nuc_of_besideSol hview, State.openBegun_nuc]
    · rw [State.get_besideSol hview _ _ (by decide), State.openBegun_state]
    · rw [State.get_besideSol hview _ _ (by decide), State.openBegun_get _ (by decide), hfails, State.nucFail_fails]
    · rw [State.get_besideSol hview _ _ (by decide), State.openBegun_get _ (by decide), hmiss, s.nucFail_get 1 (by decide) (by decide)]
    · rw [State.openCommand_held, State.shutMiss_held, State.nucFail_held]
  case noCloseMiss =>
    intro s h
    rw [exec_closeMiss]
    refine congrArg Host.Outcome.next (if_neg fun ⟨hform, hclosed, ho⟩ => ?_)
    rw [hclosed, ho] at h
    exact h.elim hform fun h => h.elim Bool.false_ne_true Bool.false_ne_true
  case firstMiss =>
    intro s ht hf hc hform ho hs hmax
    obtain ⟨hnuc, hmiss, hheld⟩ := ((s.nucFail 2).inc SHUT_MISS).secondPulse_spec
    rw [State.inc_nuc, s.nucFail_nuc 2] at hnuc
    refine ⟨_, by rw [exec_openMiss, State.openMiss_first ht hf hc hform ho hs hmax], ?_, ?_, ?_, ?_, State.sameMemory_of_held (δ := false) ?_⟩
    · rw [hnuc]
    · rw [hnuc]
    · rw [hnuc]
    · rw [hmiss, State.inc_miss, s.nucFail_get 2 (by decide) (by decide)]
    · rw [hheld, State.inc_held_page _ _ _ (by decide), s.nucFail_held 2]
  case secondMiss =>
    intro s ht hf hc hform ho hs
    obtain ⟨hfault, hnuc, hmiss⟩ := State.secondMiss_spec hf
    refine ⟨_, by rw [exec_openMiss, State.openMiss_second ht hf hc (.inl ⟨hform, ho⟩) hs], hfault, ?_, hmiss, s.secondMiss_sameMemory⟩
    rw [hnuc]
  case bootMiss =>
    intro s ht hf hc hform hboot hfail hs
    obtain ⟨hfault, hnuc, hmiss⟩ := State.secondMiss_spec hf
    refine ⟨_, by rw [exec_openMiss, State.openMiss_second ht hf hc (.inr ⟨hform, hboot, hfail⟩) hs], hfault, ?_, ?_, hmiss,
      s.secondMiss_sameMemory⟩
    · rw [hnuc]
      exact hboot
    · rw [hnuc]
      exact hboot
  case noOpenMiss =>
    intro s h
    rw [exec_openMiss]
    refine congrArg Host.Outcome.next (if_neg fun ⟨ht, hf, hc, _⟩ => ?_)
    obtain h | h | h := h
    · exact bne_iff_ne.mp ht h
    · exact h (bne_eq_false_iff_eq.mp hf)
    · exact Bool.false_ne_true (hc.symm.trans h)

end Sys2Proof.Machine
end

section
/-! O30: the defer limit, the end of a field-map save, and FAULT_CLR of the shutter. -/

namespace Sys2Proof.Machine

open Sys2Proof

/-! ### The end of a save (R279, R503) -/

theorem GranS.image_setByte {g : GranS} {a : Nat} (h : inImage a = none) (b : Byte) (k : Nat) : (g.setByte a b).image k = g.image k := by
  unfold GranS.setByte
  rw [h]
  rfl

/-- Bytes programmed outside the images leave them. -/
theorem GranS.image_program (g : GranS) {a : Nat} {l : List Byte} (h : ∀ i < l.length, inImage (a + i) = none) (k : Nat) :
    (g.program a l).image k = g.image k := by
  induction l generalizing g a with
  | nil => rfl
  | cons b l ih =>
    have hrest : ∀ i < l.length, inImage (a + 1 + i) = none := fun i hi => by
      have := h (i + 1) (Nat.succ_lt_succ hi)
      rwa [Nat.add_right_comm, Nat.add_assoc]
    exact (ih _ hrest).trans (GranS.image_setByte (h 0 (Nat.zero_lt_succ _)) _ k)

theorem GranS.image_eraseSector (g : GranS) {sec : Nat} (h : inImage (sec * 0x1000) = none) (k : Nat) :
    (g.eraseSector sec).image k = g.image k := by
  unfold GranS.eraseSector
  simp only [h]
  rfl

theorem GranS.image_setImage (g : GranS) {k : Nat} (h : k = 1 ∨ k = 2) (im : Image) : (g.setImage k im).image k = im := by
  obtain rfl | rfl := h <;> rfl

theorem length_le32 (w : Nat) : (le32 w).length = 4 := rfl

theorem State.fieldHeader_length (s : State) (k : Nat) : (s.fieldHeader k).length = 32 := by
  unfold State.fieldHeader
  extract_lets other gen gen' tref h
  have hbody : h.length = 28 := rfl
  rw [List.length_append, hbody, length_le32]

/-- The header sector of a copy lies outside the images. -/
theorem inImage_header : ∀ k ∈ [1, 2], inImage (copyBase k / 0x1000 * 0x1000) = none ∧ ∀ i < 32, inImage (copyBase k + i) = none := by decide

theorem State.saveFinish_image (s : State) {k : Nat} (h : k = 1 ∨ k = 2) : (s.saveFinish k).gran.image k = s.activeBank := by
  obtain ⟨hsec, hbytes⟩ := inImage_header k (by obtain rfl | rfl := h <;> decide)
  have hprog : ∀ i < (s.fieldHeader k).length, inImage (copyBase k + i) = none := by rwa [s.fieldHeader_length k]
  have hjournal : ∀ (g : GranS) (l : List (Nat × Nat)), ({ g with journal := l } : GranS).image k = g.image k := fun _ _ => rfl
  unfold State.saveFinish State.onGran
  rw [hjournal, GranS.image_program _ hprog, GranS.image_eraseSector _ hsec, GranS.image_setImage _ h]

/-- The job of a save leaves the engine. -/
def State.saveOut (s : State) : State :=
  (s.onGran fun g => { g.without (·.op == jFIELD) with cur := if g.cur.any (·.op == jFIELD) then none else g.cur }).put NUC_SAVING 0

theorem State.saveDone_idle {s : State} (h : ((s.gran.cur.toList ++ s.gran.jobs).find? fun j => j.op == jFIELD) = none) : s.saveDone = s := by
  unfold State.saveDone
  rw [h]

theorem State.saveDone_failed {s : State} {j : Job} (h : ((s.gran.cur.toList ++ s.gran.jobs).find? fun j => j.op == jFIELD) = some j)
    (hc : j.code ≠ 0) : s.saveDone = (s.saveOut.saveCode j.code).engineStart := by
  unfold State.saveDone
  rw [h]
  exact if_pos hc

/-- The copy is whole, and the entry names it. -/
def State.saveWhole (s : State) (k : Nat) : State := (s.saveOut.saveFinish k).event 0x5214 (k - 1)

theorem State.saveOut_activeBank (s : State) : s.saveOut.activeBank = s.activeBank := by
  have hactive : s.saveOut.get MILL_ACTIVE = s.get MILL_ACTIVE := State.get_put_ne _ (by decide) _
  unfold State.activeBank
  rw [hactive]
  rfl

theorem State.saveWhole_image (s : State) {k : Nat} (h : k = 1 ∨ k = 2) : (s.saveWhole k).gran.image k = s.activeBank := by
  have hgran : (s.saveWhole k).gran = (s.saveOut.saveFinish k).gran := (State.event_logsOnly ..).gran
  rw [hgran, s.saveOut.saveFinish_image h, s.saveOut_activeBank]

theorem State.saveWhole_get (s : State) (k : Nat) {r : Row} (h : r.key 0 0 ∉ logCountKeys ∧ ¬InRing (r.key 0 0)) :
    (s.saveWhole k).get r = s.saveOut.get r := by
  have hfinish : (s.saveOut.saveFinish k).get r = s.saveOut.get r := by
    unfold State.saveFinish
    exact State.get_of_regs (State.onGran_regs ..) r 0 0
  exact (State.event_get _ _ _ h.1 h.2).trans hfinish

theorem State.saveDone_whole {s : State} {j : Job} (h : ((s.gran.cur.toList ++ s.gran.jobs).find? fun j => j.op == jFIELD) = some j)
    (hc : j.code = 0) :
    s.saveDone = ({ s.saveWhole j.arg with
      nuc := { (s.saveWhole j.arg).nuc with lastSave := some ((s.saveWhole j.arg).get YARD_SECONDS) } } : State).engineStart := by
  unfold State.saveDone
  rw [h]
  exact if_neg (not_not.mpr hc)

theorem State.saveOut_saving (s : State) : s.saveOut.get NUC_SAVING = 0 := by
  rw [State.saveOut, State.get_put_same, Nat.zero_mod]

theorem State.saveOut_held {μ δ : Bool} (s : State) : s.saveOut.held μ δ = s.held μ δ :=
  (State.put_held_page _ _ _ _ (by decide)).trans (State.onGran_held s fun _ => rfl)

/-- The engine leaves the three images. -/
theorem State.engineStart_image (s : State) (k : Nat) : s.engineStart.gran.image k = s.gran.image k := by
  have hheld := s.engineStart_held (μ := true) (δ := false)
  have hmem := congrArg Held.memory hheld
  simp only [State.held, heldOf, if_true, Option.some.injEq, Prod.mk.injEq] at hmem
  obtain ⟨_, hfactory, ha, hb, _⟩ := hmem
  unfold GranS.image
  rw [hfactory, ha, hb]

theorem exec_fieldSaveDone (s : State) : exec .fieldSaveDone s = .next s.saveDone := rfl

theorem exec_nucDeferExpired (s : State) : exec .nucDeferExpired s = .next s.deferExpired := rfl

/-! ### FAULT_CLR of the shutter (R280, R289) -/

theorem exec_shutFaultClr (m : Master) (s : State) : exec (.shutFaultClr m) s = .next (s.command m.num 0x065 0x060 1) := rfl

theorem State.command_shutFaultClr {s : State} {m : Master} (ha : s.accepts m.num 0x065 0x060 1 = true) :
    s.command m.num 0x065 0x060 1 = (((s.rewritten 0x065 0x060).put SHUT_FAULTED 0).outSync).noteCode m.num cOK := by
  rw [State.command_strobes ha wordRows_shutClr (by decide), State.blockAct_shutFaultClr]

/-- The fields from which the policy is chosen. -/
def choiceKeys : List Nat :=
  [YARD_POLICY.key 0 0, YARD_MODE.key 0 0, YARD_MODE_TARGET.key 0 0, SYS_ROLE.key 0 0, SEQ_BOOT_DONE.key 0 0, SHUT_FAULTED.key 0 0,
    HDR_EN.key 0x065 0]

/-- The same fields give the same policy. -/
theorem State.policyOf_congr {s t : State} (hb : t.boot.booting = s.boot.booting)
    (h : ∀ {r : Row} {n : Nat}, r.key n 0 ∈ choiceKeys → t.get r n = s.get r n) : t.policyOf t.runMode = s.policyOf s.runMode := by
  have hpolicy := h (r := YARD_POLICY) (n := 0) (by decide)
  have hmode := h (r := YARD_MODE) (n := 0) (by decide)
  have htarget := h (r := YARD_MODE_TARGET) (n := 0) (by decide)
  have hrole := h (r := SYS_ROLE) (n := 0) (by decide)
  have hdone := h (r := SEQ_BOOT_DONE) (n := 0) (by decide)
  have hfault := h (r := SHUT_FAULTED) (n := 0) (by decide)
  have hen := h (r := HDR_EN) (n := 0x065) (by decide)
  have hrun : t.runMode = s.runMode := by
    simp only [State.runMode, State.done, State.mode, hb, htarget, hdone, hmode]
    rfl
  rw [hrun]
  simp only [State.policyOf, State.role, State.on, hpolicy, hrole, hfault, hen]
  rfl

theorem State.policyOf_why (s : State) (m : Nat) : (s.policyOf m).2 < 8 := by
  unfold State.policyOf
  extract_lets p
  split_ifs <;> simp

theorem State.axesNow_kept {s : State} (h : s.axesKept = true) : s.axesNow false = s := if_pos h

/-- What the axes write outside a boundary: the policy where the array rests, and the outputs. -/
theorem State.axesNow_free {s : State} (h : s.axesKept = false) :
    ∃ na out, s.axesNow false = ((if s.frameRuns then s else s.policyNow).put YARD_OUT_NA na).put YARD_EFF_OUT out := by
  have hpolicy : (if false || false || !s.frameRuns then s.policyNow else s) = if s.frameRuns then s else s.policyNow := by
    cases s.frameRuns <;> rfl
  unfold State.axesNow State.axesAt
  rw [if_neg (by rw [h]; exact Bool.false_ne_true), hpolicy]
  exact ⟨_, _, rfl⟩

/-- The outputs stand apart from the policy. -/
theorem State.get_outputs (s : State) (na out : Nat) {r : Row} {n : Nat} (hna : r.key n 0 ≠ YARD_OUT_NA.key 0 0)
    (hout : r.key n 0 ≠ YARD_EFF_OUT.key 0 0) : ((s.put YARD_OUT_NA na).put YARD_EFF_OUT out).get r n = s.get r n :=
  (State.get_put_ne _ hout _).trans (State.get_put_ne _ hna _)

/-- Between frames the policy that stands is the one chosen from what the axes leave. -/
theorem State.axesNow_policy {s : State} (h : s.axesKept = false) (hr : s.frameRuns = false) :
    (s.axesNow false).policyOf (s.axesNow false).runMode = s.policyOf s.runMode ∧
      (s.axesNow false).get YARD_EFF_POLICY = (s.policyOf s.runMode).1 % 4 ∧
      (s.axesNow false).get YARD_POLICY_WHY = (s.policyOf s.runMode).2 ∧
      (s.axesNow false).get SHUT_FAULTED = s.get SHUT_FAULTED := by
  obtain ⟨na, out, heq⟩ := State.axesNow_free h
  rw [hr, if_neg Bool.false_ne_true] at heq
  have hkeys : ∀ k ∈ choiceKeys, k ≠ YARD_OUT_NA.key 0 0 ∧ k ≠ YARD_EFF_OUT.key 0 0 ∧ k ≠ YARD_EFF_POLICY.key 0 0 ∧
      k ≠ YARD_POLICY_WHY.key 0 0 := by decide
  have hkept : ∀ {r : Row} {n : Nat}, r.key n 0 ∈ choiceKeys → (s.axesNow false).get r n = s.get r n := fun {r n} hk => by
    obtain ⟨hna, hout, hpolicy, hwhy⟩ := hkeys _ hk
    rw [heq, State.get_outputs _ _ _ hna hout]
    exact (State.get_put_ne _ hwhy _).trans (State.get_put_ne _ hpolicy _)
  have hwhy : s.policyNow.get YARD_POLICY_WHY = (s.policyOf s.runMode).2 :=
    (State.get_put_same ..).trans (Nat.mod_eq_of_lt (s.policyOf_why s.runMode))
  have hpolicy : s.policyNow.get YARD_EFF_POLICY = (s.policyOf s.runMode).1 % 4 :=
    (State.get_put_ne _ (by decide) _).trans (State.get_put_same ..)
  refine ⟨State.policyOf_congr ?_ hkept, ?_, ?_, hkept (by decide)⟩
  · rw [heq]
    rfl
  · rw [heq, State.get_outputs _ _ _ (by decide) (by decide), hpolicy]
  · rw [heq, State.get_outputs _ _ _ (by decide) (by decide), hwhy]

/-- Within a frame the policy waits. -/
theorem State.axesNow_waits {s : State} (hr : s.frameRuns = true) :
    (s.axesNow false).nuc = s.nuc ∧ (s.axesNow false).get YARD_EFF_POLICY = s.get YARD_EFF_POLICY ∧
      (s.axesNow false).get SHUT_FAULTED = s.get SHUT_FAULTED := by
  cases h : s.axesKept
  · obtain ⟨na, out, heq⟩ := State.axesNow_free h
    rw [hr, if_pos rfl] at heq
    rw [heq]
    exact ⟨rfl, State.get_outputs _ _ _ (by decide) (by decide), State.get_outputs _ _ _ (by decide) (by decide)⟩
  · rw [State.axesNow_kept h]
    exact ⟨rfl, rfl, rfl⟩

theorem State.noteCode_ok_booting (s : State) (m : Nat) : (s.noteCode m cOK).boot = s.boot := by
  rw [State.noteCode_ok]
  obtain ⟨r, h | h⟩ := s.noteLast_put m cOK <;> split_ifs <;> rw [h] <;> rfl

/-- The domains, and the master that learns the code, leave the policy and its choice. -/
theorem State.noteSync_get (s : State) (m : Nat) {r : Row} {n : Nat} (h : r.key n 0 ∈ policyKeys) :
    (s.domainsSync.noteCode m cOK).get r n = s.get r n := by
  have hlast : ∀ k ∈ policyKeys, k ∉ lastKeys := by decide
  exact ((State.noteCode_ok_sameBut _ m).get List.not_mem_nil (hlast _ h)).trans (State.get_of_policyView s.domainsSync_policyView h)

theorem State.noteSync_policyOf (s : State) (m : Nat) :
    (s.domainsSync.noteCode m cOK).policyOf (s.domainsSync.noteCode m cOK).runMode = s.policyOf s.runMode := by
  have hsub : ∀ k ∈ choiceKeys, k ∈ policyKeys := by decide
  refine State.policyOf_congr ?_ fun h => s.noteSync_get m (hsub _ h)
  rw [State.noteCode_ok_booting]
  exact congrArg (·.2.1) s.domainsSync_policyView

theorem State.noteSync_nuc (s : State) (m : Nat) : (s.domainsSync.noteCode m cOK).nuc = s.nuc :=
  (State.noteCode_ok_nuc _ m).trans (State.nuc_of_policyView s.domainsSync_policyView)

/-- The shutter's fault is cleared, before the axes follow. -/
def State.shutCleared (s : State) : State := (s.rewritten 0x065 0x060).put SHUT_FAULTED 0

theorem State.shutCleared_faulted (s : State) : s.shutCleared.get SHUT_FAULTED = 0 := by
  rw [State.shutCleared, State.get_put_same, Nat.zero_mod]

theorem State.shutCleared_axesKept {s : State} (h : s.axesKept = false) : s.shutCleared.axesKept = false := by
  unfold State.axesKept at h ⊢
  rw [← Bool.not_eq_true, List.contains_iff_mem] at h ⊢
  exact fun hm => h (List.mem_of_mem_filter hm)

theorem State.shutCleared_sameMemory (s : State) (m : Nat) : s.SameMemory (s.shutCleared.outSync.noteCode m cOK) := by
  refine State.sameMemory_trans (State.sameMemory_of_held (δ := false) ?_) (State.noteCode_sameMemory ..)
  rw [State.outSync, State.domainsSync_held, State.axesNow_held, State.shutCleared, State.put_held_page _ _ _ _ (by decide),
    State.rewritten_held]

/-! ### The obligation -/

/-- Settles O30: the end of a save by the bytes outside the images, FAULT_CLR by what the domains leave of the policy. -/
theorem closureKeeping : Obligations.ClosureKeeping := by
  unfold Obligations.ClosureKeeping
  refine ⟨?expired, ?notExpired, ?saved, ?saveFailed, ?noSave, ?clear, ?clearInFrame⟩
  case expired =>
    intro a s hat hmax hexp
    rw [exec_nucDeferExpired]
    exact congrArg Host.Outcome.next (if_pos ⟨by rw [hat]; rfl, hmax, bne_eq_false_iff_eq.mpr hexp⟩)
  case notExpired =>
    intro s h
    rw [exec_nucDeferExpired]
    refine congrArg Host.Outcome.next (if_neg fun ⟨hat, hmax, hexp⟩ => ?_)
    obtain h | h | h := h
    · rw [h] at hat
      exact Bool.false_ne_true hat
    · exact absurd hmax (Nat.not_le.mpr h)
    · exact h (bne_eq_false_iff_eq.mp hexp)
  case saved =>
    intro j s hjob hcode harg
    have hwhole := State.saveDone_whole hjob hcode
    have himage := s.saveWhole_image harg
    have hsaving := (s.saveWhole_get j.arg (r := NUC_SAVING) (by decide)).trans s.saveOut_saving
    have hsec : (s.saveWhole j.arg).get YARD_SECONDS = s.get YARD_SECONDS :=
      (s.saveWhole_get j.arg (by decide)).trans (State.get_put_ne _ (by decide) _)
    generalize s.saveWhole j.arg = w at hwhole himage hsaving hsec
    have hview := ({ w with nuc := { w.nuc with lastSave := some (w.get YARD_SECONDS) } } : State).engineStart_policyView
    refine ⟨_, by rw [exec_fieldSaveDone, hwhole], ?_, ?_, ?_⟩
    · rw [State.engineStart_image]
      exact himage
    · exact (State.get_of_policyView hview (by decide)).trans hsaving
    · rw [State.nuc_of_policyView hview, hsec]
  case saveFailed =>
    intro j s hjob hcode
    have hview := (s.saveOut.saveCode j.code).engineStart_policyView
    refine ⟨_, by rw [exec_fieldSaveDone, State.saveDone_failed hjob hcode], ?_, ?_, State.sameMemory_of_held (δ := false) ?_⟩
    · exact (State.get_of_policyView hview (by decide)).trans s.saveOut_saving
    · rw [State.nuc_of_policyView hview]
      rfl
    · rw [State.engineStart_held, State.saveCode_held, State.saveOut_held]
  case noSave =>
    intro s h
    rw [exec_fieldSaveDone, State.saveDone_idle h]
  case clear =>
    intro m s ha hr hk
    obtain ⟨hchoice, hpolicy, hwhy, hfault⟩ := State.axesNow_policy (State.shutCleared_axesKept hk) (s := s.shutCleared) hr
    refine ⟨_, by rw [exec_shutFaultClr, State.command_shutFaultClr ha]; rfl, ?_, ?_, ?_, s.shutCleared_sameMemory m.num⟩
    · exact (State.noteSync_get _ _ (by decide)).trans (hfault.trans s.shutCleared_faulted)
    · rw [State.outSync, State.noteSync_policyOf]
      exact (State.noteSync_get _ _ (by decide)).trans (hpolicy.trans (congrArg (·.1 % 4) hchoice.symm))
    · rw [State.outSync, State.noteSync_policyOf]
      exact (State.noteSync_get _ _ (by decide)).trans (hwhy.trans (congrArg (·.2) hchoice.symm))
  case clearInFrame =>
    intro m s ha hr
    obtain ⟨hnuc, hpolicy, hfault⟩ := State.axesNow_waits (s := s.shutCleared) hr
    refine ⟨_, by rw [exec_shutFaultClr, State.command_shutFaultClr ha]; rfl, ?_, ?_, ?_, s.shutCleared_sameMemory m.num⟩
    · exact (State.noteSync_get _ _ (by decide)).trans (hfault.trans s.shutCleared_faulted)
    · exact (State.noteSync_get _ _ (by decide)).trans (hpolicy.trans (State.get_put_ne _ (by decide) _))
    · exact congrArg NucS.form ((State.noteSync_nuc _ m.num).trans hnuc)

end Sys2Proof.Machine
end
